-- ==== Sys2Proof/Word.lean ====
section
/-! DEFINITION. The plainest data of the model: bytes, register words and sparse tables. -/
namespace Sys2Proof

/-- One byte, of a payload, of memory or of a wire format. -/
abbrev Byte := BitVec 8

/-- One 32-bit register word (R14, R17). -/
abbrev Word := BitVec 32

/-- A table of records by number, as a list of (number, record) pairs with rising numbers; a number that is not
listed holds the record's default value, which is its value after reset. -/
abbrev Tab (α : Type) := List (Nat × α)

end Sys2Proof
end

