-- ==== Sys2Proof/Syntax.lean ====
section
/-! DEFINITION. The commands of the block: one constructor per row of the opcode table. -/
namespace Sys2Proof

/-- A command entry as the host writes it into a ring (R32), without its opcode: the mailbox it is submitted on, TICKET, FLAGS,
LENGTH and the 56 payload bytes; bytes beyond those listed are 0. With EXT the first eight hold the host address. -/
structure CmdEntry where
  mailbox : Fin 16 := 0
  ticket : BitVec 16 := 0
  flags : BitVec 16 := 0
  length : BitVec 16 := 0
  payload : List Byte := []
  deriving DecidableEq, Repr, Inhabited

/-- Where a register write arrives (R14, R17, R498, R572, R580, R583, R589): a BAR0 offset, a BAR0 offset in the 5200 window
written with a 16-bit access, a BAR4 offset, the configuration space of the PCI Express function, or the registers that only the
Onyx pair reaches. -/
inductive RegSpace where
  | bar0 | window | bar4 | config | onyx
  deriving DecidableEq, Repr, Inhabited

/-- The upstream requests that can wait blocked (R582). -/
inductive UpstreamRequest where
  | extPayload (mailbox : Fin 16) | dmaDescriptor (chan : Fin 32) | ringWrite (chan : Fin 32) | imagePush
  deriving DecidableEq, Repr, Inhabited

/-- What the FEC and the PCS of a receiver have found since their last report (R190, R210): codewords, those corrected and
those found uncorrectable, corrected symbols, and invalid or errored 66-bit blocks. -/
structure FecCounts where
  codewords : Nat := 0
  corrected : Nat := 0
  uncorrected : Nat := 0
  symbols : Nat := 0
  pcsErrors : Nat := 0
  deriving DecidableEq, Repr, Inhabited

/-- A received marker's LINK_STATE, with the FEC counts of the lane since its last marker. -/
structure MarkerState where
  linkState : Nat
  fec : FecCounts := {}
  deriving DecidableEq, Repr

/-- A fault of a receive lane: the lane, and which of R190's causes it is, in that rule's order. -/
structure LaneLoss where
  lane : Fin 24
  cause : Fin 4
  deriving DecidableEq, Repr

/-- What an Ethernet PCS reports: block lock with alignment, and the FEC counts since its last report. -/
structure PcsReport where
  lock : Bool
  fec : FecCounts := {}
  deriving DecidableEq, Repr

/-- The place of a BAR0 access: its offset, and its width as the power of two of its bytes. -/
structure BarPlace where
  offset : Nat
  size : Fin 4
  deriving DecidableEq, Repr

/-- A command of the block: one constructor for each row of the opcode table, in its order. -/
inductive Instr where
  /-- SYS_NOP (R597). Command 0x0101 echoes its payload and the timebase at the moment the entry is taken. -/
  | sysNop (entry : CmdEntry)
  /-- HEAD_CONFIG_REPORT (R604). Command 0x0606 writes the head record and its layer records, shadow or in force, to host memory. -/
  | headConfigReport (entry : CmdEntry)
  /-- TIME_REF_SELECT (R69). Command 0x0201 sets the list of reference candidates and re-evaluates the master. -/
  | timeRefSelect (entry : CmdEntry)
  /-- TIME_CORRECTION_SET (R74). Command 0x0202 sets the slew window, the slew limit, the qualification time and the step policy. -/
  | timeCorrectionSet (entry : CmdEntry)
  /-- TIME_STEP_APPROVE (R75). Command 0x0203 approves a pending timebase step or declines it, in which case the error is removed by slew. -/
  | timeStepApprove (entry : CmdEntry)
  /-- TIME_SET (R78). Command 0x0204 sets time of day, applied as a step at the next reference frame start. -/
  | timeSet (entry : CmdEntry)
  /-- REF_RASTER_SET (R82). Command 0x0205 sets the reference raster rate, its totals and its offset. -/
  | refRasterSet (entry : CmdEntry)
  /-- TC_SET (R85). Command 0x0206 sets the timecode generator mode, its base rate and LTC_OUT. -/
  | tcSet (entry : CmdEntry)
  /-- HEAD_SLEW_SET (R77). Command 0x0207 sets a head's frequency-offset limit and its rate-of-change limit. -/
  | headSlewSet (entry : CmdEntry)
  /-- CAPTURE_RASTER_SET (R84). Command 0x0208 puts the capture raster in FOLLOW or DRIVE mode. -/
  | captureRasterSet (entry : CmdEntry)
  /-- SYN_CONFIG (R104). Command 0x0209 sets a synthesizer's reference mode, dither, lock settings and seed. -/
  | synConfig (entry : CmdEntry)
  /-- SYN_CACHE_FILL (R106). Step-cut command 0x020A runs band searches that fill a synthesizer's band cache. -/
  | synCacheFill (entry : CmdEntry)
  /-- CAPTURE_RAMP_LOAD (R108). Command 0x020B stores a varispeed ramp profile. -/
  | captureRampLoad (entry : CmdEntry)
  /-- CAPTURE_RAMP_START (R109). Command 0x020C starts a capture ramp at a named boundary, or freezes the divider. -/
  | captureRampStart (entry : CmdEntry)
  /-- EVT_SLOT_SET (R130). Command 0x0301 writes the content of a scheduler slot. -/
  | evtSlotSet (entry : CmdEntry)
  /-- EVT_SLOT_GET (R115). Command 0x0302 returns the content and status of a scheduler slot. -/
  | evtSlotGet (entry : CmdEntry)
  /-- EVO_CONFIG (R126). Command 0x0303 sets an EVO pin's output enable, inversion and trim. -/
  | evoConfig (entry : CmdEntry)
  /-- EVI_CONFIG (R493). Command 0x0304 sets an EVI pin's edge selection, filter length and inversion. -/
  | eviConfig (entry : CmdEntry)
  /-- FS_INFO (R137). Command 0x0401 returns the frame store configuration and the usable bandwidth. -/
  | fsInfo (entry : CmdEntry)
  /-- FS_POLICY_SET (R156). Command 0x0402 sets the power-down idle time, the aging threshold, the scrub period and auto-retirement. -/
  | fsPolicySet (entry : CmdEntry)
  /-- FS_FILL (R148). Step-cut command 0x0403 fills an FSA range with a pattern in class BE. -/
  | fsFill (entry : CmdEntry)
  /-- FS_PATROL_REPORT (R147). Step-cut command 0x0404 writes the patrol log to host memory and clears it. -/
  | fsPatrolReport (entry : CmdEntry)
  /-- FS_CHANNEL_RETIRE (R163). Step-cut command 0x0405 retires a channel and migrates its granules to the reserve. -/
  | fsChannelRetire (entry : CmdEntry)
  /-- LEDGER_POOL_CREATE (R170). Command 0x0410 creates a pool of buffers. -/
  | ledgerPoolCreate (entry : CmdEntry)
  /-- LEDGER_POOL_DELETE (R170). Command 0x0411 deletes a pool and returns its buffer numbers. -/
  | ledgerPoolDelete (entry : CmdEntry)
  /-- LEDGER_OP (R168). Command 0x0412 applies an acquire, publish, discard, reference take or reference release under the mailbox token. -/
  | ledgerOp (entry : CmdEntry)
  /-- LEDGER_DESC_GET (R179). Command 0x0413 returns a buffer's descriptor. -/
  | ledgerDescGet (entry : CmdEntry)
  /-- INGEST_STREAM_SET (R230). Command 0x0501 enables an ingest context, or disables and resets it. -/
  | ingestStreamSet (entry : CmdEntry)
  /-- INGEST_STREAM_GET (R213). Command 0x0502 returns an ingest context's settings. -/
  | ingestStreamGet (entry : CmdEntry)
  /-- HEAD_TIMING_SET (R310). Command 0x0601 writes a head's timing shadow. -/
  | headTimingSet (entry : CmdEntry)
  /-- HEAD_PAIR_SET (R318). Command 0x0602 locks or unlocks a head pair. -/
  | headPairSet (entry : CmdEntry)
  /-- HEAD_WRITEBACK_SET (R331). Command 0x0603 writes a head's write-back mode and pool shadow. -/
  | headWritebackSet (entry : CmdEntry)
  /-- LAYER_CADENCE_SET (R319). Command 0x0604 writes a layer's cadence latency and its OPEN flag. -/
  | layerCadenceSet (entry : CmdEntry)
  /-- CFG_COMMIT (R324). Command 0x0605 checks the shadows of the named heads and arms them in the Fixer. -/
  | cfgCommit (entry : CmdEntry)
  /-- LAYER_ASSIGN (R232). Command 0x0610 assigns a layer to a head, or to none, in the shadow. -/
  | layerAssign (entry : CmdEntry)
  /-- LAYER_SOURCE_SET (R246). Command 0x0611 writes a layer's source kind, its crop and its orientation shadow. -/
  | layerSourceSet (entry : CmdEntry)
  /-- LAYER_GEOMETRY_SET (R249). Command 0x0612 writes a layer's destination rectangle shadow. -/
  | layerGeometrySet (entry : CmdEntry)
  /-- LAYER_PALETTE_SET (R239). Command 0x0613 writes entries of a graphic layer's shadow palette. -/
  | layerPaletteSet (entry : CmdEntry)
  /-- LAYER_ENVELOPE_SET (R258). Command 0x0614 writes a layer's fast-path envelope shadow. -/
  | layerEnvelopeSet (entry : CmdEntry)
  /-- HEAD_FETCH_SET (R253). Command 0x0615 sets a head's LOW and CRITICAL watermarks. -/
  | headFetchSet (entry : CmdEntry)
  /-- LAYER_BLEND_SET (R301). Command 0x0616 writes a layer's blend mode, its premultiplied flag and its weight shadow. -/
  | layerBlendSet (entry : CmdEntry)
  /-- HEAD_ZORDER_SET (R305). Command 0x0617 replaces a head's shadow z-order. -/
  | headZorderSet (entry : CmdEntry)
  /-- HEAD_BACKGROUND_SET (R298). Command 0x0618 writes a head's background colour shadow. -/
  | headBackgroundSet (entry : CmdEntry)
  /-- CONTACT_SHEET_SET (R308). Command 0x0619 computes a tile grid and writes the geometry shadows of the tile layers. -/
  | contactSheetSet (entry : CmdEntry)
  /-- ADMISSION_RESERVE_SET (R346). Command 0x0620 changes the four bandwidth reservations, subject to admission. -/
  | admissionReserveSet (entry : CmdEntry)
  /-- LAYER_SHED_SET (R347). Command 0x0621 writes a layer's shed tier shadow. -/
  | layerShedSet (entry : CmdEntry)
  /-- SHED_PLAN_SET (R347). Command 0x0622 writes the shed plan. -/
  | shedPlanSet (entry : CmdEntry)
  /-- SHED_POLICY_SET (R354). Command 0x0623 sets the restore margin and the restore hold time. -/
  | shedPolicySet (entry : CmdEntry)
  /-- ADMISSION_REPORT (R345). Command 0x0624 returns the admission figures for the configuration in force. -/
  | admissionReport (entry : CmdEntry)
  /-- COMPAT5200_SET (R569). Command 0x0630 enables or disables the 5200 compatibility window. -/
  | compat5200Set (entry : CmdEntry)
  /-- SCALER_COEF_LOAD (R276). Command 0x0701 loads a scaler coefficient set from a published buffer. -/
  | scalerCoefLoad (entry : CmdEntry)
  /-- LAYER_SCALER_SET (R272). Command 0x0702 writes a video layer's coefficient sets and pre-decimation shadow. -/
  | layerScalerSet (entry : CmdEntry)
  /-- LAYER_DECODE_SET (R267). Command 0x0703 writes a video layer's decode, chroma, linearization and RAW level shadow. -/
  | layerDecodeSet (entry : CmdEntry)
  /-- MATRIX_SET (R281). Command 0x0704 writes a layer input matrix or a head output matrix shadow. -/
  | matrixSet (entry : CmdEntry)
  /-- LUT_1D_LOAD (R284). Command 0x0705 loads a 1D table shadow from a published buffer. -/
  | lut1dLoad (entry : CmdEntry)
  /-- LUT_1D_BUILTIN (R280). Command 0x0706 fills a 1D table shadow with a standard curve. -/
  | lut1dBuiltin (entry : CmdEntry)
  /-- LUT_1D_READ (R280). Command 0x0707 writes a 1D table, shadow or in force, to host memory. -/
  | lut1dRead (entry : CmdEntry)
  /-- GRAPHIC_COLOUR_SET (R282). Command 0x0708 writes a graphic layer's curve and gain shadow. -/
  | graphicColourSet (entry : CmdEntry)
  /-- HEAD_OUTPUT_SET (R291). Command 0x0709 writes a head's output form, quantization, dither and 3D LUT shadow. -/
  | headOutputSet (entry : CmdEntry)
  /-- LUT_3D_ASSIGN (R285). Command 0x070A powers a 3D LUT unit and assigns it to a head, or releases it. -/
  | lut3dAssign (entry : CmdEntry)
  /-- LUT_3D_LOAD (R288). Step-cut command 0x070B loads a 3D LUT bank or table from a published buffer. -/
  | lut3dLoad (entry : CmdEntry)
  /-- SIG_REGION_SET (R358). Command 0x0801 writes a signature region's shadow. -/
  | sigRegionSet (entry : CmdEntry)
  /-- SDI_LANE_SET (R377). Command 0x0901 configures, enables or disables an SDI lane. -/
  | sdiLaneSet (entry : CmdEntry)
  /-- SDI_ANC_RING_SET (R385). Command 0x0902 places an SDI lane's ancillary ring in the frame store. -/
  | sdiAncRingSet (entry : CmdEntry)
  /-- PANEL_PORT_SET (R393). Command 0x0903 configures a panel port and moves it to a new state. -/
  | panelPortSet (entry : CmdEntry)
  /-- PANEL_DCS_SEND (R394). Step-cut command 0x0904 sends a list of DCS packets, or stores it as the shutdown list. -/
  | panelDcsSend (entry : CmdEntry)
  /-- MAG_SLOT_SET (R397). Command 0x0A01 binds a magazine slot to a MAC and enables it, or disables it. -/
  | magSlotSet (entry : CmdEntry)
  /-- MAG_INDEX_READ (R405). Step-cut command 0x0A02 writes a slot's clip index to host memory. -/
  | magIndexRead (entry : CmdEntry)
  /-- MAG_FORMAT (R404). Step-cut command 0x0A03 formats the magazine in a slot. -/
  | magFormat (entry : CmdEntry)
  /-- MAG_EJECT (R404). Command 0x0A04 asks the magazine in a slot to eject. -/
  | magEject (entry : CmdEntry)
  /-- REC_CHANNEL_SET (R410). Command 0x0A10 configures a record channel, or disables and resets it. -/
  | recChannelSet (entry : CmdEntry)
  /-- REC_KEY_SET (R413). Command 0x0A11 gives a record channel its encryption key. -/
  | recKeySet (entry : CmdEntry)
  /-- REC_START_AT (R414). Command 0x0A12 opens the clip on every target slot and arms the start. -/
  | recStartAt (entry : CmdEntry)
  /-- REC_STOP_AT (R415). Command 0x0A13 arms a record stop, or cancels the clip. -/
  | recStopAt (entry : CmdEntry)
  /-- MAC_CONFIG (R183). Command 0x0B01 places a MAC on a lane group with a mode and a role, or releases it. -/
  | macConfig (entry : CmdEntry)
  /-- MAC_SPARE_SET (R193). Command 0x0B02 assigns, releases, restores or forces a spare lane. -/
  | macSpareSet (entry : CmdEntry)
  /-- MAC_TXQ_SET (R198). Command 0x0B03 sets a transmit queue's base start threshold. -/
  | macTxqSet (entry : CmdEntry)
  /-- MAC_RULE_SET (R208). Command 0x0B04 updates a steering rule and waits for frames decided earlier to drain. -/
  | macRuleSet (entry : CmdEntry)
  /-- MAC_FILTER_SET (R205). Command 0x0B05 sets a link MAC's destination address filter. -/
  | macFilterSet (entry : CmdEntry)
  /-- MAC_STATS_GET (R210). Command 0x0B06 returns eight live MAC counters. -/
  | macStatsGet (entry : CmdEntry)
  /-- MAC_SLEEP (R211). Command 0x0B07 puts a MAC to sleep with a wake detector, or wakes it. -/
  | macSleep (entry : CmdEntry)
  /-- STREAM_SUB_SET (R433). Command 0x0B10 configures and enables a stream subscriber, or disables it. -/
  | streamSubSet (entry : CmdEntry)
  /-- STREAM_PORT_SET (R430). Command 0x0B11 sets a port's station address and the aging limits of its services. -/
  | streamPortSet (entry : CmdEntry)
  /-- STREAM_SUB_CTRL (R444). Command 0x0B12 starts or stops a subscriber. -/
  | streamSubCtrl (entry : CmdEntry)
  /-- STREAM_RX_FLOW_SET (R449). Command 0x0B13 configures a receive flow with its policer and merge. -/
  | streamRxFlowSet (entry : CmdEntry)
  /-- STREAM_DEPACK_SET (R453). Command 0x0B14 binds a depacketizer to a pool, or disables and resets it. -/
  | streamDepackSet (entry : CmdEntry)
  /-- STREAM_STATS_READ (R450). Step-cut command 0x0B15 writes subscriber or flow statistics to host memory. -/
  | streamStatsRead (entry : CmdEntry)
  /-- PTP_PORT_SET (R456). Command 0x0B18 configures PTP on a network port. -/
  | ptpPortSet (entry : CmdEntry)
  /-- RIG_SET (R460). Command 0x0B19 enables the rig link and sends the first CLAIM, or sends LEAVE. -/
  | rigSet (entry : CmdEntry)
  /-- DMA_CHANNEL_SET (R465). Command 0x0C01 resets a DMA channel and assigns it to a mode. -/
  | dmaChannelSet (entry : CmdEntry)
  /-- POWER_BUDGET_SET (R516). Command 0x0D01 sets the power budget and the step limit. -/
  | powerBudgetSet (entry : CmdEntry)
  /-- POWER_STATE_SET (R508). Command 0x0D02 moves the device from IDLE to STANDBY or to SAFELIGHT. -/
  | powerStateSet (entry : CmdEntry)
  /-- FAULT_LOG_READ (R547). Step-cut command 0x0E01 writes fault records to host memory and removes them from the log. -/
  | faultLogRead (entry : CmdEntry)
  /-- FAULT_RECOVER (R539). Command 0x0E02 reloads a FAILED synthesizer and retries its relock. -/
  | faultRecover (entry : CmdEntry)
  /-- DIAG_CORE_INFO (R57). Command 0x0E03 returns the Onyx pair's fetch, mismatch and restart counts. -/
  | diagCoreInfo (entry : CmdEntry)
  /-- DIAG_FS_RAW (R142). Command 0x0E04 reads or writes a raw 1,024-byte physical block of a channel. -/
  | diagFsRaw (entry : CmdEntry)
  /-- AVAIL_CLEAR (R534). Command 0x0E05 clears the availability counts of the selected outputs. -/
  | availClear (entry : CmdEntry)
  /-- FW_INFO (R603). Command 0x0F01 returns firmware versions, slots, SVNs and the DCP level. -/
  | fwInfo (entry : CmdEntry)
  /-- FW_UPDATE (R568). Step-cut command 0x0F02 writes and verifies an image in a flash slot. -/
  | fwUpdate (entry : CmdEntry)
  /-- FW_CONFIRM (R565). Command 0x0F03 confirms or reverts a trial image and may advance the anti-rollback counter. -/
  | fwConfirm (entry : CmdEntry)
  /-- SEC_FUSE_PROGRAM (R564). Step-cut command 0x0F04 blows the debug lock, the second key hash or a key revocation. -/
  | secFuseProgram (entry : CmdEntry)
  /-- MB_DB_WRITE (R37). A host write to MB_DB is checked and, if accepted, advances the command tail. -/
  | mbDbWrite (mb : Fin 16) (value : BitVec 32)
  /-- MB_RSP_HEAD_WRITE (R39). A host write to MB_RSP_HEAD frees response entries, or is refused with RSP_ERR. -/
  | mbRspHeadWrite (mb : Fin 16) (value : BitVec 32)
  /-- MAILBOX_RESET (R49). A write of 1 to MB_CTRL.RESET discards untaken entries, detaches taken commands and sets STATE 2. -/
  | mailboxReset (mb : Fin 16)
  /-- MAILBOX_RESET_COMPLETE (R49). The firmware gives the mailbox a new token, zeroes its counts and sets its STATE. -/
  | mailboxResetComplete (mb : Fin 16)
  /-- ENTRY_TAKE (R43). The firmware takes the next ready entry of a mailbox in its round-robin slice. -/
  | entryTake (mb : Fin 16)
  /-- EXT_PAYLOAD_FETCHED (R33). The PCIe read of an extended payload completes, or fails with TIMEOUT. -/
  | extPayloadFetched (mb : Fin 16) (ok : Bool)
  /-- STEP_CUT_STEP (R42). The firmware runs one further step of an accepted step-cut command as a slice. -/
  | stepCutStep (mb : Fin 16)
  /-- LOCKSTEP_MISMATCH (R51). A comparator mismatch stops the Onyx pair, holds it in reset and restarts it from ROM. -/
  | lockstepMismatch
  /-- SERVICE_RESUME (R53). The restarted firmware restores the checkpoint and resumes the commands that were open. -/
  | serviceResume
  /-- CONTROL_FAILURE (R56). Service has not resumed 20 ms after a mismatch, so the pair is held in reset and every mailbox goes to STATE 3. -/
  | controlFailure
  /-- RUN_WATCHDOG_EXPIRY (R560). The run watchdog goes 50 ms without a kick and the firmware is restarted as for a mismatch. -/
  | runWatchdogExpiry
  /-- FP_GO (R259). A write of 1 to FP_GO copies a layer's fast-path staging set into its pending set. -/
  | fpGo (layer : Fin 64)
  /-- FAST_PATH_LATCH (R260). At line VACT-2 a layer's pending set is checked and latched for the coming blanking. -/
  | fastPathLatch (layer : Fin 64)
  /-- TB_LATCH (R61). A write of 1 to TB_LATCH copies the timebase replica into the TB registers. -/
  | tbLatch
  /-- REPLICA_CHECK (R63). A timebase replica is compared with the master once per microsecond and reloaded if it differs. -/
  | replicaCheck (domain : Fin 16) (diffNs : Int)
  /-- REF_SIGNAL_VALID (R67). A candidate input shows a valid signal and becomes QUALIFYING. -/
  | refSignalValid (cand : Fin 4)
  /-- REF_SIGNAL_INVALID (R67). A qualifying candidate's signal becomes invalid and the candidate returns to ABSENT. -/
  | refSignalInvalid (cand : Fin 4)
  /-- REF_QUALIFIED (R67). The qualification time expires with the signal still good and the candidate becomes QUALIFIED. -/
  | refQualified (cand : Fin 4)
  /-- REF_LOST (R67). A qualified candidate misses two frame periods, or PTP Sync for 1 s, and becomes LOST. -/
  | refLost (cand : Fin 4)
  /-- REF_LOST_TIMEOUT (R67). A candidate that stays LOST for 10 s without a signal becomes ABSENT. -/
  | refLostTimeout (cand : Fin 4)
  /-- REF_ERROR_MEASURE (R66). A master's frame edge or PTP offset gives a phase error, which starts a slew or a step. -/
  | refErrorMeasure (cand : Fin 4) (errNs ppb : Int)
  /-- SLEW_COMPLETE (R74). The slew brings the timebase error within 100 ns, and STATE becomes LOCKED. -/
  | slewComplete
  /-- STEP_APPLY (R78). At a reference raster frame start the timebase is replaced by the master's value. -/
  | stepApply
  /-- HEAD_REALIGN (R79). A head lengthens one vertical blanking to reach its new locked position after a step. -/
  | headRealign (head : Fin 8)
  /-- HEAD_SLEW_CONVERGED (R77). A head's remaining phase error comes within 100 ns. -/
  | headSlewConverged (head : Fin 8)
  /-- REFERENCE_FRAME_START (R82). The reference raster begins a frame; the timecode, LTC_OUT and the Safelight timecode advance. -/
  | referenceFrameStart
  /-- LTC_WORD_RECEIVED (R85). An LTC_IN word is decoded and feeds JAM or JAM_ONCE timecode. -/
  | ltcWordReceived (valid : Bool) (hh mm ss ff : Nat)
  /-- CAPTURE_FRAME_BOUNDARY (R84). The capture raster begins a new frame, either from a marker or from SYN8 in DRIVE mode. -/
  | captureFrameBoundary (marker : Option (Fin 4))
  /-- CAPTURE_MARKER_TIMEOUT (R84). No marker arrives for twice the frame period, so event 47 is raised and continuation begins. -/
  | captureMarkerTimeout
  /-- CAPTURE_CONTINUATION_FRAME (R84). Without markers, the capture raster begins a frame at its last period. -/
  | captureContinuationFrame
  /-- SYN_LOSS_OF_LOCK (R97). A synthesizer loses lock, gates its output and begins a relock attempt. -/
  | synLossOfLock (syn : Fin 12)
  /-- SYN_LOCK_DECLARED (R94). A synthesizer's phase error has stayed in the window for LOCK_CNT cycles, so its gate opens. -/
  | synLockDeclared (syn : Fin 12) (band : Fin 64) (fine us : Nat)
  /-- SYN_RELOCK_ATTEMPT_END (R97). A relock attempt ends; after three failures the synthesizer enters FAILED. -/
  | synRelockAttemptEnd (syn : Fin 12)
  /-- SYN_LOCK_TIMEOUT (R105). Lock is not declared within 2 ms of an update, so loss of lock is declared. -/
  | synLockTimeout (syn : Fin 12)
  /-- SYN_UPDATE_POINT (R104). At a synthesizer's update point every pending shadow word applies at once. -/
  | synUpdatePoint (syn : Fin 12)
  /-- REFERENCE_FAULT (R100). The 27 MHz reference is absent or off frequency for 2 µs, so every synthesizer is gated. -/
  | referenceFault
  /-- TRACKING_LOOP_UPDATE (R101). Every microsecond a head tracking loop sets its synthesizer's TRIM within the slew limits. -/
  | trackingLoopUpdate (head : Fin 8) (phaseErrNs : Int)
  /-- RAMP_UPDATE (R109). At each microsecond of a ramp the capture divider is recomputed. -/
  | rampUpdate
  /-- RAMP_END (R109). The last segment of a ramp ends, the rate holds and event 21 is raised. -/
  | rampEnd
  /-- OCCURRENCE_ARM (R126). The occurrence of a slot at a frame and line is armed 2 µs before its instant. -/
  | occurrenceArm (slot : Fin 4096) (frame : Int) (line : Nat)
  /-- OCCURRENCE_FIRE (R120). An armed occurrence reaches its instant and performs its action. -/
  | occurrenceFire (slot : Fin 4096)
  /-- PULSE_STOP (R123). The stop instant of a PIN_PULSE drives the pin to logical 0. -/
  | pulseStop (slot : Fin 4096)
  /-- SNAPSHOT_COMPLETE (R134). Every unit has latched its shadows, so SEQ is incremented and event 986 is raised. -/
  | snapshotComplete
  /-- FS_READ_REQUEST (R145). A channel controller serves a read, correcting a single-symbol error or returning poisoned zeros. -/
  | fsReadRequest (fsa upset : Nat)
  /-- FS_WRITE_REQUEST (R146). A channel controller serves a whole-line write, or a read-modify-write for a partial line. -/
  | fsWriteRequest (fsa : Nat) (data : List Byte)
  /-- BE_AGING_PROMOTION (R161). A BE request that has waited past the aging threshold is promoted to AG. -/
  | beAgingPromotion (chan : Fin 16)
  /-- PATROL_SCRUB_READ (R147). The patrol scrub reads the next line and reports any error it finds. -/
  | patrolScrubRead (upset : Nat)
  /-- STARTUP_FILL_STEP (R148). A 1 GiB step of the start-up fill completes and FS_FILL_PTR advances. -/
  | startupFillStep
  /-- STARTUP_FILL_DONE (R148). The start-up fill completes, DONE is set and event 867 is raised. -/
  | startupFillDone
  /-- CHANNEL_TRAINING (R151). The training of a channel completes, or fails as R155 decides. -/
  | channelTraining (chan : Fin 16) (ok : Bool)
  /-- WCK_OSC_READ (R152). Every 16 ms the firmware reads a channel's oscillator and may queue a delay nudge. -/
  | wckOscRead (chan : Fin 16) (drift0 drift1 : Int)
  /-- NUDGE_APPLY (R152). A queued nudge is applied at the channel's next per-bank refresh gap. -/
  | nudgeApply (chan : Fin 16)
  /-- MR4_POLL (R157). Every 16 ms the controller polls MR4 and may change the refresh multiplier and FS_USABLE. -/
  | mr4Poll (codes bands : List Nat)
  /-- MIGRATION_GRANULE_COPY (R163). The migration engine copies one granule of a retiring channel and advances its pointer. -/
  | migrationGranuleCopy
  /-- MIGRATION_COMPLETE (R163). The migration ends, the channel enters STATE 2 and event 873 is raised. -/
  | migrationComplete
  /-- CHANNEL_FAIL (R540). A channel's PLL or PHY fails, or it has 256 uncorrectable reads in a row, so it enters STATE 3. -/
  | channelFail (chan : Fin 16)
  /-- LEDGER_ACQUIRE (R171). A hardware agent acquires a buffer from a pool, or the acquire fails. -/
  | ledgerAcquire (cls : Fin 16) (inst : Fin 32) (pool : Fin 64)
  /-- LEDGER_PUBLISH (R168). The owner publishes a buffer with its frame number and capture instant. -/
  | ledgerPublish (cls : Fin 16) (inst : Fin 32) (buf : Fin 4096) (frame capSec capNs : Nat)
  /-- LEDGER_DISCARD (R168). The owner discards a buffer, which becomes FREE or abandoned. -/
  | ledgerDiscard (cls : Fin 16) (inst : Fin 32) (buf : Fin 4096)
  /-- LEDGER_REF_TAKE (R173). An agent takes a read reference on a buffer, or is refused. -/
  | ledgerRefTake (cls : Fin 16) (inst : Fin 32) (buf : Fin 4096) (follow : Bool)
  /-- LEDGER_REF_RELEASE (R174). An agent releases a read reference, checked under the release-error rules. -/
  | ledgerRefRelease (cls : Fin 16) (inst : Fin 32) (buf : Fin 4096)
  /-- AGENT_RESET_RECLAIM (R175). Once a reset agent's requests drain, the ledger takes back its buffers and references. -/
  | agentResetReclaim (cls : Fin 16) (inst : Fin 32)
  /-- KML_MARKER_RECEIVED (R187). An alignment marker arrives on a lane and drives lock, deskew, sparing and link state. -/
  | kmlMarkerReceived (lane : Fin 24) (logical group rlf seq : Nat) (state : MarkerState)
  /-- ADAPT_TIMEOUT (R188). A link that has not reached UP within 500 ms restarts adaptation. -/
  | adaptTimeout (mac : Fin 16)
  /-- LANE_FAULT (R190). A receive lane loses signal, CDR lock or marker lock, or has too many FEC errors. -/
  | laneFault (loss : LaneLoss)
  /-- TX_MARKER_POINT (R191). At a transmit marker point the MAC sends markers and makes any pending transmit spare move. -/
  | txMarkerPoint (mac : Fin 16)
  /-- ETH_LINK_CHANGE (R189). An Ethernet-mode PCS gains or loses block lock, alignment or fault status. -/
  | ethLinkChange (mac : Fin 16) (pcs : PcsReport) (localFault remoteFault : Bool)
  /-- MAC_FRAME_RECEIVED (R203). A MAC frame is classified, counted, filtered or steered, and delivered to its queue destination. -/
  | macFrameReceived (mac : Fin 16) (frame : List Byte) (fcsOk : Bool)
  /-- TX_FRAME_START (R196). A queued MAC frame has enough bytes in the buffer and starts to send. -/
  | txFrameStart (mac : Fin 16) (queue : Fin 8)
  /-- TX_UNDERRUN (R197). The transmit buffer runs empty mid-frame, so the frame ends with an inverted FCS. -/
  | txUnderrun (mac : Fin 16) (bytes : Nat)
  /-- TX_FRAME_END (R198). A MAC frame finishes sending, updating the underrun-free count and the threshold. -/
  | txFrameEnd (mac : Fin 16)
  /-- PAUSE_TIMER_EXPIRY (R200). The pause timer expires and transmission may start again. -/
  | pauseTimerExpiry (mac : Fin 16)
  /-- PAUSE_ALARM (R202). PAUSE has held the transmitter for PAUSE_ALARM_MS, so event 7 of the MAC is raised. -/
  | pauseAlarm (mac : Fin 16)
  /-- WAKE_DETECT (R211). A sleeping MAC's wake detector fires on energy or on the wake pattern. -/
  | wakeDetect (mac : Fin 16)
  /-- KPI_FRAME_START (R223). A frame-start marker arrives, is checked and opens a picture or drops it. -/
  | kpiFrameStart (mac : Fin 16) (frame : List Byte)
  /-- KPI_LINE_PACKET (R226). A KPI line segment is checked and placed in the open picture's buffer. -/
  | kpiLinePacket (mac : Fin 16) (frame : List Byte)
  /-- KPI_FRAME_END (R227). A frame-end marker closes and publishes the open picture, or ends a drop. -/
  | kpiFrameEnd (mac : Fin 16) (frame : List Byte)
  /-- KPI_END_TIMEOUT (R227). END_TIMEOUT passes with no packet, so the open picture is closed. -/
  | kpiEndTimeout (stream : Fin 4)
  /-- KPI_STATUS_SEND (R221). A stream sends a status packet after finishing a picture, or after 10 ms without one. -/
  | kpiStatusSend (stream : Fin 4)
  /-- HEAD_ENABLE_START (R316). After its synthesizer locks, an enabled head's raster starts on a locked position. -/
  | headEnableStart (head : Fin 8)
  /-- LATCH_POINT (R328). At line VACT-2 ready commits and fast-path sets are bound to the coming blanking. -/
  | latchPoint (head : Fin 8)
  /-- HEAD_BLANKING_START (R328). At sample 0 of line VACT a head lands bound commits and applies shed steps, freeze state and LUT banks. -/
  | headBlankingStart (head : Fin 8)
  /-- HEAD_FRAME_START (R368). A head begins a frame at line 0, which starts or stops region actions. -/
  | headFrameStart (head : Fin 8)
  /-- WRITEBACK_PUBLISH (R333). The write-back agent publishes its buffer after the last active pixel is scanned out. -/
  | writebackPublish (head : Fin 8)
  /-- FETCH_CLASS_CHANGE (R253). A head's reservoir level crosses a watermark and its fetch class changes. -/
  | fetchClassChange (head : Fin 8) (level : Nat)
  /-- RESERVOIR_STARVED (R254). An active sample finds the reservoir empty and a background pixel is substituted. -/
  | reservoirStarved (head : Fin 8) (pixels : Nat)
  /-- COMMIT_ARM (R325). A waiting commit is checked and armed once earlier commits on its heads have landed. -/
  | commitArm
  /-- FX_FENCE_WRITE (R326). A host write to FX_FENCE may make waiting commits ready. -/
  | fxFenceWrite (fence : Fin 32) (value : BitVec 32)
  /-- COMMIT_TIMEOUT (R327). A commit that is not ready after TIMEOUT_FRAMES blankings ends with TIMEOUT. -/
  | commitTimeout
  /-- SIGNATURE_COMPARE (R363). A region's CRC is latched and compared, updating MISS, GOOD and FAULT. -/
  | signatureCompare (head : Fin 8) (region : Fin 16)
  /-- SIG_CLEAR (R365). A write of 1 to SIG_STATUS.CLEAR takes a region out of FAULT and clears its counts. -/
  | sigClear (head : Fin 8) (region : Fin 16)
  /-- TALLY_FORCE_WRITE (R367). A write to SIG_TALLY.FORCE forces TALLY_FAULT to 1 or releases it. -/
  | tallyForceWrite (value : BitVec 32)
  /-- SHED_EVALUATION (R350). The shedding engine takes or restores shed steps after a change of load, usable bandwidth or reservations. -/
  | shedEvaluation
  /-- RESTORE_HOLD_EXPIRY (R354). The restore hold expires and starts an evaluation that may restore steps. -/
  | restoreHoldExpiry
  /-- SDI_SLIP (R380). The SDI buffer fill leaves its bounds, so the lane restarts its frame at the next head frame start. -/
  | sdiSlip (lane : Fin 8) (fill : Nat)
  /-- PANEL_VIDEO_START (R393). A port in VIDEO starts HS video with VSS at the head's next vertical sync. -/
  | panelVideoStart (port : Fin 4)
  /-- KMP_MESSAGE_RECEIVED (R399). A KMP message from a magazine is checked for epoch and type and then acted on. -/
  | kmpMessageReceived (slot : Fin 2) (frame : List Byte)
  /-- KMP_COMMIT_RECEIVED (R412). A magazine COMMIT updates credit and may release references or trigger a resend. -/
  | kmpCommitReceived (slot : Fin 2) (frame : List Byte)
  /-- KMP_RESEND_RECEIVED (R419). A RESEND is served by the magazine's own read stream. -/
  | kmpResendReceived (slot : Fin 2) (frame : List Byte)
  /-- KMP_NOTICE_RECEIVED (R420). A NOTICE is acknowledged and may close the copy or lose the partner. -/
  | kmpNoticeReceived (slot : Fin 2) (frame : List Byte)
  /-- KMP_REQUEST_TIMEOUT (R401). A request gets no reply in 5 ms and is retried, or the partner is lost after the third retry. -/
  | kmpRequestTimeout (slot : Fin 2)
  /-- KMP_HELLO_SEND (R402). Every 10 ms the slot sends HELLO. -/
  | kmpHelloSend (slot : Fin 2)
  /-- KMP_HELLO_TIMEOUT (R402). No HELLO arrives for 50 ms, so the partner is lost. -/
  | kmpHelloTimeout (slot : Fin 2)
  /-- NO_PARTNER_TIMEOUT (R403). No HELLO arrives 50 ms after SEARCH was entered, so NO_PARTNER is set. -/
  | noPartnerTimeout (slot : Fin 2)
  /-- MAIN_STREAM_PICTURE_BEGIN (R412). The main read stream begins the next clip picture once it is sent and credit allows. -/
  | mainStreamPictureBegin (chan : Fin 2)
  /-- MAGAZINE_STREAM_PICTURE_BEGIN (R417). A decoupled magazine's own stream begins its next picture once credit allows. -/
  | magazineStreamPictureBegin (slot : Fin 2)
  /-- HOLD_MAX_EXPIRY (R417). A hold on one magazine's account lasts HOLD_MAX and the magazine is decoupled. -/
  | holdMaxExpiry (chan : Fin 2)
  /-- MAGAZINE_RECOUPLE (R418). A decoupled magazine catches up and rejoins the main stream. -/
  | magazineRecouple (slot : Fin 2)
  /-- COPY_CLOSE (R420). A copy is closed with CLIP_CLOSE and a reason, ending the clip when it is the last. -/
  | copyClose (slot : Fin 2)
  /-- SPAN_CONTINUATION (R421). A spanning clip continues on the other slot after its copy closes. -/
  | spanContinuation (chan : Fin 2)
  /-- STOP_BATH_TRIGGER (R423). VMAIN falls with a STOPBATH_EN copy open, so the stop-bath sequence starts. -/
  | stopBathTrigger
  /-- STOP_BATH_RECORD_DEADLINE (R423). At 10 ms any unfinished record is abandoned. -/
  | stopBathRecordDeadline
  /-- STOP_BATH_COMMIT_DEADLINE (R423). At 15 ms the commit wait ends and CLIP_CLOSE with POWERFAIL is sent. -/
  | stopBathCommitDeadline
  /-- STOP_BATH_ACK_DEADLINE (R425). At 23 ms copies without CLIP_CLOSE_ACK are recorded as unclosed and the sequence completes. -/
  | stopBathAckDeadline
  /-- PACKET_RELEASE (R438). A paced subscriber's packet reaches its release position and becomes eligible. -/
  | packetRelease (sub : Fin 2048)
  /-- UNPACED_SLOT_ELIGIBLE (R446). A ring slot with OWN set, a token and a reached launch instant becomes eligible. -/
  | unpacedSlotEligible (sub : Fin 2048)
  /-- PORT_SCHEDULE (R447). When a MAC frame ends, the port chooses its next packet by service, deadline and promotion. -/
  | portSchedule (port : Fin 16)
  /-- PACED_DEADLINE_EXPIRY (R440). A paced packet passes its deadline unsent and is counted late. -/
  | pacedDeadlineExpiry (port : Fin 16) (sub : Fin 2048)
  /-- MERGE_TIMEOUT (R451). A sequence number missing on both paths is skipped after MERGE_US. -/
  | mergeTimeout (flow : Fin 512)
  /-- PATH_DOWN_TIMEOUT (R451). A path delivers nothing for 100 ms while the other delivers, so PATH_DOWN is set. -/
  | pathDownTimeout (flow : Fin 512) (pathB : Bool)
  /-- DEPACK_END_TIMEOUT (R454). END_TIMEOUT passes with no packet, so the depacketizer closes its open picture. -/
  | depackEndTimeout (depack : Fin 16)
  /-- PTP_MESSAGE_RECEIVED (R457). A PTP message is handled by the firmware servo and the best master clock algorithm. -/
  | ptpMessageReceived (port : Fin 16) (frame : List Byte)
  /-- PTP_MESSAGE_TIMER (R458). A leader's Sync, Follow_Up and Announce interval, or a slave's Delay_Req interval, expires. -/
  | ptpMessageTimer (port : Fin 16)
  /-- ANNOUNCE_RECEIPT_TIMEOUT (R462). The Announce receipt timeout expires. -/
  | announceReceiptTimeout (port : Fin 16)
  /-- RIG_FRAME_RECEIVED (R461). A CLAIM, LEAD, MEMBER or LEAVE rig frame is taken into the election. -/
  | rigFrameReceived (port : Fin 16) (frame : List Byte)
  /-- RIG_CLAIM_TIMER (R460). The claim, listen or backoff timer expires and the election advances. -/
  | rigClaimTimer
  /-- RIG_LEAD_TIMEOUT (R461). No LEAD is heard for 300 ms, so the device claims again. -/
  | rigLeadTimeout
  /-- RIG_ANNOUNCE_TIMER (R461). Every 100 ms a leader sends LEAD or a member sends MEMBER. -/
  | rigAnnounceTimer
  /-- DC_DB_HI_WRITE (R475). A write to DC_DB_HI queues a descriptor chain, or is refused with DB_ERR. -/
  | dcDbHiWrite (chan : Fin 32) (value : BitVec 32)
  /-- DC_RESUME (R479). A write of 1 to DC_CTRL.RESUME clears ERR and starts the next queued chain. -/
  | dcResume (chan : Fin 32)
  /-- DC_RESET (R482). A write of 1 to DC_CTRL.RESET resets the channel. -/
  | dcReset (chan : Fin 32)
  /-- DC_RESET_COMPLETE (R482). The channel's outstanding requests have drained and the reset completes. -/
  | dcResetComplete (chan : Fin 32)
  /-- DESCRIPTOR_FETCH (R468). The channel fetches the next descriptor and checks it before moving any byte. -/
  | descriptorFetch (chan : Fin 32)
  /-- DMA_TURN (R477). The engine serves a channel a turn of at most 4 KiB. -/
  | dmaTurn (chan : Fin 32)
  /-- DESCRIPTOR_COMPLETE (R476). A descriptor's last write completes, updating the counts and ending the chain at LAST. -/
  | descriptorComplete (chan : Fin 32)
  /-- RING_FRAME_WRITE (R481). A received MAC frame is written to a receive ring entry, or dropped when the ring is full. -/
  | ringFrameWrite (chan : Fin 32)
  /-- DC_RING_CONS_WRITE (R481). A write to DC_RING_CONS frees ring entries, or is ignored with DB_ERR. -/
  | dcRingConsWrite (chan : Fin 32) (value : BitVec 32)
  /-- EVENT_RAISE (R487). A unit raises a source, setting its pending bit in both views. -/
  | eventRaise (source : Fin 1024)
  /-- MSI_X_SEND (R495). An armed group with enabled pending bits and no hold-off sends its message. -/
  | msiXSend (group : Fin 32)
  /-- EVT_REARM_WRITE (R496). A write to EVT_REARM sets ARMED bits. -/
  | evtRearmWrite (value : BitVec 32)
  /-- EVT_HOLDOFF_WRITE (R497). A write to EVT_HOLDOFF ends the group's timer and sets the new value. -/
  | evtHoldoffWrite (group : Fin 32) (value : BitVec 32)
  /-- HOLDOFF_EXPIRY (R497). A group's hold-off timer expires. -/
  | holdoffExpiry (group : Fin 32)
  /-- EVC_CLAIM_READ (R498). A firmware read of EVC_CLAIM claims the lowest enabled pending number, or returns 1023. -/
  | evcClaimRead
  /-- EVC_COMPLETE_WRITE (R498). A firmware write to EVC_COMPLETE takes the in-service number out of service. -/
  | evcCompleteWrite (number : Fin 1024)
  /-- EVI_EDGE (R491). An EVI run reaches FILT samples, so the recognized level changes and the timestamp updates. -/
  | eviEdge (pin : Fin 16) (firstSample : Nat)
  /-- POWER_REQUEST (R512). The governor grants or refuses a request for leave. -/
  | powerRequest (domain : Fin 32) (cost step : Nat)
  /-- DOMAIN_SWITCH (R505). The head of the switch queue changes a domain's level in the next free slot, within the step limit. -/
  | domainSwitch
  /-- DOMAIN_LOAD (R543). A returning domain loads the configuration in force, or restores its retained state. -/
  | domainLoad (domain : Fin 32)
  /-- PWR_WAKE_WRITE (R509). A write of 1 to PWR_WAKE in STANDBY wakes the device. -/
  | pwrWakeWrite (value : BitVec 32)
  /-- STANDBY_WAKE (R509). A wake source in STANDBY restores the retained domains and retrains the store. -/
  | standbyWake
  /-- COMPARATOR_CHANGE (R528). A Safelight comparator's filtered state changes. -/
  | comparatorChange (comparator : Fin 6)
  /-- HOLDUP_EXIT (R521). VMAIN has reported 1 for 10 ms, so HOLDUP ends. -/
  | holdupExit
  /-- VSAFE_SWITCHOVER (R523). The Safelight supply switch changes source between VMAIN and VBAK. -/
  | vsafeSwitchover (toBattery : Bool)
  /-- SAFELIGHT_RESET (R525). VSAFE has no source for 1 µs, or at power-on, and Safelight is reset. -/
  | safelightReset
  /-- RTC_SECOND (R526). At each whole second the RTC is loaded from the timebase or counts on, and the alarm is compared. -/
  | rtcSecond
  /-- SAFELIGHT_WAKE (R530). An enabled wake source fires, recording its cause and waking or requesting power. -/
  | safelightWake (source : Fin 9)
  /-- RTC_SEC_HI_READ (R526). A read of SL_RTC_SEC_HI latches the lower RTC words for the path that read it. -/
  | rtcSecHiRead (spi : Bool)
  /-- AVAIL_TICK (R534). At the end of each 1 s tick the availability counts of each output are updated. -/
  | availTick
  /-- SRAM_ERROR (R538). An on-chip memory reports a corrected or uncorrectable error. -/
  | sramError (kind unit detail : Nat) (corrected : Bool)
  /-- PORN_RESET (R549). PORn resets the device and starts boot. -/
  | pornReset (strap : Fin 4) (widthNs : Nat)
  /-- HRSTN_RESET (R550). HRSTn resets the device, deferred while the stop-bath sequence runs. -/
  | hrstnReset (strap : Fin 4) (widthNs : Nat)
  /-- PCIE_HOT_RESET (R551). A hot reset, Link Down or FLR resets the host interface, the mailboxes and the host DMA channels. -/
  | pcieHotReset
  /-- BOOT_WATCHDOG_EXPIRY (R559). The boot watchdog expires before READY and resets the device. -/
  | bootWatchdogExpiry (strap : Fin 4)
  /-- BOOT_PUSH_GO (R558). A write to BOOT_PUSH_GO makes the ROM fetch and verify a pushed image. -/
  | bootPushGo (value : BitVec 32)
  /-- FIRMWARE_READY (R561). The booted firmware completes start-up and sets READY. -/
  | firmwareReady
  /-- DEBUG_OFF (R566). A first write of 1 to SEC_CTRL.DEBUG_OFF closes debug access. -/
  | debugOff (value : BitVec 32)
  /-- FW_UPDATE_LOCK (R567). A first write of 1 to SEC_CTRL.FW_UPDATE_LOCK closes the firmware update path. -/
  | fwUpdateLock (value : BitVec 32)
  /-- UPSTREAM_REQUEST_TIMEOUT (R582). A blocked upstream request waits 50 ms and ends as a completion timeout. -/
  | upstreamRequestTimeout (request : UpstreamRequest)
  /-- W5_COMMIT_WRITE (R576). A write to W5_COMMIT snapshots the window into a pending 5200 commit. -/
  | w5CommitWrite (value : BitVec 16)
  /-- W5_COMMIT_ARM (R577). The firmware checks a pending 5200 commit and arms it, or drops it. -/
  | w5CommitArm
  /-- W5_PAL_DATA_WRITE (R575). A write to W5_PAL_DATA stores a palette entry and may advance INDEX. -/
  | w5PalDataWrite (value : BitVec 16)
  /-- W5_L_BASE_LO_WRITE (R574). A write to W5_L_BASE_LO goes to the layer's hidden latch. -/
  | w5LBaseLoWrite (layer : Fin 8) (value : BitVec 16)
  /-- W5_L_BASE_HI_WRITE (R574). A write to W5_L_BASE_HI stores the high word together with the latch. -/
  | w5LBaseHiWrite (layer : Fin 8) (value : BitVec 16)
  /-- BAR2_READ (R587). A BAR2 read returns frame-store bytes through the aperture. -/
  | bar2Read (offset : Fin 268435456) (length : Nat)
  /-- BAR2_WRITE (R587). A BAR2 write is applied to the frame store line by line. -/
  | bar2Write (offset : Fin 268435456) (data : List Byte) (enables : List Bool)
  /-- BAR0_BAD_ACCESS (R17). A BAR0 access of the wrong width or alignment returns all ones, or has no effect. -/
  | bar0BadAccess (place : BarPlace) (write : Bool) (value : BitVec 64)
  /-- MGMT_SPI_READ (R592). A MGMT_SPI read frame returns a Safelight register. -/
  | mgmtSpiRead (frame : List Byte)
  /-- MGMT_SPI_WRITE (R592). A MGMT_SPI write frame writes a Safelight register. -/
  | mgmtSpiWrite (frame : List Byte)
  /-- MGMT_SPI_WAKE (R592). A MGMT_SPI wake frame issues the MGMT_SPI wake. -/
  | mgmtSpiWake (frame : List Byte)
  /-- MGMT_SPI_ABORT (R593). Chip select rises before the request CRC ends, so the frame is abandoned. -/
  | mgmtSpiAbort (frame : List Byte)
  /-- SL_SPI_CLEAR (R592). A write of 1 to SL_SPI_STATUS.CLEAR zeroes CRC_ERRS. -/
  | slSpiClear (value : BitVec 32)
  /-- REGISTER_WRITE (R14). A host write to a register with no row of its own applies under its field types, reporting locked writes. -/
  | registerWrite (space : RegSpace) (offset : Nat) (value : BitVec 32)
  /-- HEAD_LINE_COMPOSE (R640). A head composes an output line: its layers fetch the source lines it needs, and it is written back and set valid. -/
  | headLineCompose (head : Fin 8)
  /-- PCIE_LINK_UP (R552). The PCI Express link finishes training and comes up. -/
  | pcieLinkUp
  /-- RANK_POWER_DOWN_ENTRY (R156). A rank that has had no command for the power-down idle time enters power-down. -/
  | rankPowerDownEntry (chan : Fin 16) (rank : Fin 2)
  /-- CACHED_BAND_TIMEOUT (R107). A cached band fails to lock within 100 µs, so its entry is invalidated and a full search starts. -/
  | cachedBandTimeout (syn : Fin 12)
  /-- SAFELIGHT_TC_FRAME (R527). While the generator is not running, the Safelight timecode advances one frame on its crystal accumulator. -/
  | safelightTcFrame
  /-- LANE_CDR_LOCK (R190). A receive lane regains signal and CDR lock, which clears FAULT in Ethernet modes. -/
  | laneCdrLock (lane : Fin 24)
  /-- FORMAT_STATUS_TIMEOUT (R404). Five seconds pass without a FORMAT_STATUS, so MAG_FORMAT ends with TIMEOUT. -/
  | formatStatusTimeout (slot : Fin 2)
  deriving DecidableEq, Repr, Inhabited

end Sys2Proof
end

