-- ==== Sys2Proof/Decode.lean ====
section
/-! DEFINITION. The commands that words spell by the table's bits. The opcode table gives no row any bits: commands arrive
as entries, register accesses and events, never as words. -/
namespace Sys2Proof

/-- The command that a word of a number of bits spells: none, since the table gives no row bits (DESIGN CHOICE, log entry 2). -/
def decodeTableWord (_nbits _w : Nat) : Option Instr := none

end Sys2Proof
end

