-- ==== Sys2Proof/Config.lean ====
section
/-! DEFINITION. The free values: what the spec leaves open or an implementation fixes. No constant here has a body, so
nothing can be proved of the value it takes. The argument of type Nat is the counter `State.free` where a fresh value
is wanted each time. -/
namespace Sys2Proof

/-- The VCO band that a full band search of a synthesizer finds (R106). -/
opaque Config.freeBand : Nat → BitVec 6
/-- The fine-tuning code that a full band search finds (R106). -/
opaque Config.freeFine : Nat → BitVec 16
/-- The die temperature in °C when it is taken (R106, R151). -/
opaque Config.freeTemp : Nat → BitVec 8
/-- The amount in ppb, taken without its sign, by which a head tracking loop corrects a phase error in ns (R101). -/
opaque Config.freeTracking : Int → Nat → Int

/-- Whether a line with three or more wrong symbols is miscorrected rather than detected (R143). -/
opaque Config.freeMiscorrect : Nat → Bool
/-- A byte of a line that the code has miscorrected (R143). -/
opaque Config.freeLineByte : Nat → Byte
/-- The check word of the 64 data bytes of a line (R143: the code's generator is not given). -/
opaque Config.freeCheckWord : List Byte → Nat
/-- The reserved check word that always decodes as uncorrectable (R146: its value is not given). -/
opaque Config.poisonWord : Nat
/-- A byte as it stands in memory of a line of which some symbols have gone wrong (R143). -/
opaque Config.freeUpset : List Byte → Nat → Nat → Byte
/-- How many symbols beyond the first the code finds wrong in a line and a check word that do not agree (R143). -/
opaque Config.freeSymbols : List Byte → Nat → Nat
/-- A byte of what the code corrects a line and its check word to (R143). -/
opaque Config.freeCorrected : List Byte → Nat → Nat → Byte
/-- What training finds for the delays and VREF settings of a channel (R151). -/
opaque Config.freeTraining : Nat → Nat → Nat

/-- The instructions that the Onyx pair has fetched since its counters were last read (R57). -/
opaque Config.freeFetches : Nat → Nat
/-- Those of them that it fetched on a wrong path (R57). -/
opaque Config.freeWrongPath : Nat → Nat

/-- The START_TC that CLIP_OPEN carries for a start that is not given as a timecode (R399: the spec does not say which). -/
opaque Config.freeStartTc : Nat → Nat
/-- A byte that a LIST descriptor writes where its ranges overlap (R470: the result is undefined). -/
opaque Config.freeOverlap : Nat → Byte
/-- The source IPv4 address of the PTP messages the device sends on a port (the spec gives a PTP port no address). -/
opaque Config.ptpSourceIp : Nat → Nat
/-- The NONCE that the device draws when its rig link is enabled (R459). -/
opaque Config.freeNonce : Nat → Nat
/-- The DETAIL of a refusal or failure for which the chapter of the command states none, of the opcode, the mailbox and the
CMD_SEQ (R595, R600: it belongs to the command) (DESIGN CHOICE, log entry 146). -/
opaque Config.freeDetail : Nat → Nat → Nat → Nat
/-- The unit, 0 to 3, that a commit names for a head whose output asks for a 3D table while no unit is assigned to it (R289) (DESIGN CHOICE, log entry 147). -/
opaque Config.freeUnit : Nat → Nat
/-- DELAY_NS of an SDI format, by its quad-link setting (R381: constant, its value not given). -/
opaque Config.sdiDelayNs : Nat → Bool → Nat

/-- The four bytes of a payload identifier, byte 1 lowest, of the format, the frame rate, FORM, BITS, YCC_SET and range, and the link
and the stream (R383: built from these, their values not given). -/
opaque Config.freePayloadId : List Nat → Nat

end Sys2Proof
end

