-- ==== Sys2Proof/Machine/Parts/Boot.lean ====
section
/-! DEFINITION. State of boot, firmware and security (R549 to R568) and of the host interface (R580 to R594). -/
namespace Sys2Proof.Machine
open Sys2Proof

/-- The fuses (R564): key hashes as 48 bytes, revoked slots as bits, and the counts of blown bits (DESIGN CHOICE, log entry 24). -/
structure Fuses where
  keyHash0 : List Byte := List.replicate 48 0
  keyHash1 : Option (List Byte) := none
  revoke : Nat := 0
  svnCtr : Nat := 0
  debugLock : Bool := false
  serial : Nat := 0
  deriving DecidableEq, Repr, Inhabited

/-- Boot and security. `flash` is the SPI NOR, whose erased bytes read 0xFF: it lists the bytes that differ, inverted.
`releasedAt` is the instant of reset release by the timebase, `started` whether the ROM has started an image, `hrstDue` the
straps of an HRSTn that is deferred, `tcPreset` that the timecode generator is to start from the Safelight timecode. -/
structure BootPart where
  ready : Bool := false
  stage : Nat := 0
  slot : Nat := 3
  trial : Bool := false
  fellBack : Bool := false
  result : Nat := 0
  lastReset : Nat := 0
  wdtCount : Nat := 0
  strap : Nat := 0
  recovery : Bool := false
  started : Bool := false
  fwVersion : Nat := 0
  svn : Nat := 0
  keySlot : Nat := 0
  pushAddr : Nat := 0
  pushLen : Nat := 0
  bootTime : Nat := 0
  releasedAt : Nat := 0
  debugOff : Bool := false
  fwLock : Bool := false
  hotCount : Nat := 0
  hrstDue : Option (Fin 4) := none
  tcPreset : Bool := false
  fuses : Fuses := {}
  flash : Tab Byte := []
  deriving DecidableEq, Repr, Inhabited

/-- The PCI Express function, the aperture, the identity page and host memory. `readData` and `spiOut` hold what the last
read, or the last MGMT_SPI frame, returned. -/
structure HostPart where
  linkUp : Bool := false
  busMaster : Bool := false
  d3hot : Bool := false
  msixEnable : Bool := false
  functionMask : Bool := false
  scratch : Nat := 0
  apBase : Nat := 0
  apStatus : Nat := 0
  mem : Tab Byte := []
  readData : Nat := 0
  readBytes : List Byte := []
  spiOut : List Byte := []
  deriving DecidableEq, Repr, Inhabited

end Sys2Proof.Machine
end

