-- ==== Sys2Proof/Machine/Parts/Control.lean ====
section
/-! DEFINITION. State of the mailboxes and of the Onyx pair (R30 to R57): rings, counts, commands in flight. -/
namespace Sys2Proof.Machine
open Sys2Proof

/-- The status codes of a response (R595). -/
inductive Status where
  | ok | accepted | progress | rejAdmission | rejOwner | rejState | rejRange | rejLocked
  | deniedPower | busy | timeout | internal
  deriving DecidableEq, Repr, Inhabited

/-- One response entry (R35). -/
structure Resp where
  opcode : Nat := 0
  ticket : Nat := 0
  status : Status := .ok
  final : Bool := false
  restarted : Bool := false
  seq : Nat := 0
  detail : Nat := 0
  progress : Nat := 0
  result : List Byte := []
  deriving DecidableEq, Repr, Inhabited

/-- `MB_STATUS.STATE` (R49, R56). -/
inductive MbState where
  | disabled | ready | resetting | down
  deriving DecidableEq, Repr, Inhabited

/-- One mailbox: its register page, its two rings and its counts (R30 to R40). -/
structure Mailbox where
  enable : Bool := false
  state : MbState := .disabled
  dbErr : Bool := false
  rspErr : Bool := false
  restarted : Bool := false
  cmdTail : Nat := 0
  cmdHead : Nat := 0
  rspTail : Nat := 0
  rspHead : Nat := 0
  cmdRing : Tab Word := []
  rspRing : Tab Resp := []
  deriving DecidableEq, Repr, Inhabited

/-- What a command that is not step-cut waits for after its first slice (R42, R48). -/
inductive WaitFor where
  | stepApplied | timeSet | refRaster | tcFrame | captureRaster | synUpdate (syn : Nat) | rampStart
  | slotApply (slot write : Nat) | ingestStart (ctx : Nat) | ingestReset (ctx : Nat)
  | commit (id : Nat) | commitArm | fetchMarks (head : Nat) | compatClear | sdiLane (lane : Nat) | panel (port : Nat)
  | eject (slot : Nat) | recReset (chan : Nat) | recOpen (chan : Nat)
  | sparePoint (mac : Nat) | macDown (mac : Nat) | rulesDrain (mac upTo count : Nat) | subStart (sub : Nat) | subStop (sub : Nat)
  | depack (d : Nat) | depackReset (d : Nat)
  | dmaReset (chan : Nat) | faultRecover (syn : Nat) | availTick | grant (domain : Nat) | ledgerHeld (buf : Nat)
  deriving DecidableEq, Repr, Inhabited

/-- The work of an open step-cut command, after its last completed step (R42, R46, R51). -/
inductive Job where
  | cacheFill (syn : Nat) (targets : List Nat) (done : Nat)
  | fsFill (first count : Nat) (pattern : List Byte) (done : Nat)
  | patrolReport (addr size : Nat) (done : Nat)
  | retire (chan : Nat) (done total : Nat)
  | lut3d (unit bank buffer addr total done : Nat)
  | dcs (port total done : Nat)
  | magIndex (slot first count addr done : Nat)
  | magFormat (slot : Nat) (thousandths : Nat)
  | statsRead (isFlow shadow : Bool) (first count addr done : Nat)
  | faultRead (addr room done : Nat)
  | fwUpdate (slot : Nat) (image : List Byte) (phase done : Nat)
  | fuse (kind : Nat) (words : List Nat) (done : Nat)
  deriving DecidableEq, Repr, Inhabited

/-- Where a taken command that is not final stands. -/
inductive Phase where
  | fetching | waiting (w : WaitFor) | stepping (j : Job) | ended (st : Status) (detail : Nat) (result : List Byte)
  deriving DecidableEq, Repr, Inhabited

/-- A command that has been taken: its entry, its parameters in hand and where it stands (R32, R38, R51); `uid` tells it from
every other command in flight, those that mailbox resets have detached among them (R49). -/
structure Cmd where
  mb : Nat := 0
  opcode : Nat := 0
  ticket : Nat := 0
  flags : Nat := 0
  seq : Nat := 0
  length : Nat := 0
  params : List Byte := []
  phase : Phase := .fetching
  detached : Bool := false
  restarted : Bool := false
  lastRsp : Nat := 0
  uid : Nat := 0
  deriving DecidableEq, Repr, Inhabited

/-- The Onyx pair (R51, R56, R57). -/
inductive PairState where
  | boot | running | restarting | held
  deriving DecidableEq, Repr, Inhabited

/-- The control path: sixteen mailboxes, the commands in flight, the pair and its diagnostic counts. -/
structure Control where
  mbs : Tab Mailbox := [(0, { enable := true, state := .ready })]
  inflight : List Cmd := []
  nextUid : Nat := 0
  pair : PairState := .boot
  rrNext : Nat := 0
  mismatchTimes : List Nat := []
  fetches : Nat := 0
  wrongPath : Nat := 0
  mismatches : Nat := 0
  restarts : Nat := 0
  badCheckpoints : Nat := 0
  deriving DecidableEq, Repr, Inhabited

end Sys2Proof.Machine
end

