-- ==== Sys2Proof/Machine/Parts/Dma.lean ====
section
/-! DEFINITION. State of the DMA engine (R463 to R485). -/
namespace Sys2Proof.Machine
open Sys2Proof

/-- An address of a descriptor: an FSA, or a host physical address (R466). -/
structure DmaAddr where
  fsa : Bool := false
  addr : Nat := 0
  deriving DecidableEq, Repr, Inhabited

/-- `DC_STATUS.STATE` (R478). -/
inductive DcState where
  | off | idle | running | halted | resetting | ring
  deriving DecidableEq, Repr, Inhabited

/-- The operation of a descriptor (R466). -/
inductive DmaOp where
  | copy | list | rect | fill
  deriving DecidableEq, Repr, Inhabited

/-- A descriptor (R466). -/
structure Desc where
  next : DmaAddr := {}
  op : DmaOp := .copy
  isLast : Bool := false
  irq : Bool := false
  listDst : Bool := false
  src : DmaAddr := {}
  dst : DmaAddr := {}
  height : Nat := 0
  length : Nat := 0
  srcStride : Nat := 0
  dstStride : Nat := 0
  pattern : Nat := 0
  deriving DecidableEq, Repr, Inhabited

/-- A descriptor in progress: how many of its bytes have moved, in its own order; for a LIST the element in progress, how
many of its bytes have moved, and the bytes moved before it. -/
structure DescRun where
  desc : Desc := {}
  at_ : DmaAddr := {}
  moved : Nat := 0
  elem : Nat := 0
  elemAddr : Nat := 0
  elemLen : Nat := 0
  elemMoved : Nat := 0
  finished : Bool := false
  deriving DecidableEq, Repr, Inhabited

/-- A MAC frame on its way to a receive ring (R481): the receiving MAC, its queue or flow, whether it was cut short by the MAC
(R204), and its place among the frames that its MAC has steered to rings (R208). -/
structure RingFrame where
  mac : Nat := 0
  source : Nat := 0
  isFlow : Bool := false
  trunc : Bool := false
  seq : Nat := 0
  bytes : List Byte := []
  deriving DecidableEq, Repr, Inhabited

/-- One DMA channel. `refs` lists the buffers it has referenced for the descriptor in progress and `bufs` all those the
descriptor reads or writes; `next` is the address of the next descriptor of the chain that runs; `loose` counts bytes moved
below a whole KiB. -/
structure DmaChan where
  mode : Nat := 0
  owner : Nat := 0
  state : DcState := .off
  newMode : Option Nat := none
  dbErr : Bool := false
  err : Nat := 0
  dbLo : Nat := 0
  queue : List DmaAddr := []
  next : Option DmaAddr := none
  run : Option DescRun := none
  refs : List Nat := []
  bufs : List Nat := []
  cur : DmaAddr := {}
  fault : DmaAddr := {}
  done : Nat := 0
  chains : Nat := 0
  entries : Nat := 0
  entryBytes : Nat := 0
  ringAddr : Nat := 0
  inbox : List RingFrame := []
  prod : Nat := 0
  cons : Nat := 0
  dropAt : Option Nat := none
  wasRunning : Bool := false
  loose : Nat := 0
  kib : Nat := 0
  ringDrop : Nat := 0
  kibShadow : Nat := 0
  ringDropShadow : Nat := 0
  deriving DecidableEq, Repr, Inhabited

/-- The DMA engine, with the latch of a reset in mid-burst (R483). -/
structure DmaPart where
  chans : Tab DmaChan := []
  served : Nat := 31
  lastMaster : Nat := 0
  lastWrite : Bool := false
  lastValid : Bool := false
  lastAddr : Nat := 0
  deriving DecidableEq, Repr, Inhabited

end Sys2Proof.Machine
end

