-- ==== Sys2Proof/Machine/Parts/Events.lean ====
section
/-! DEFINITION. State of the event unit and its pins (R486 to R502). -/
namespace Sys2Proof.Machine
open Sys2Proof

/-- One EVI pin (R491 to R493); `ball` is the level at the ball, before INVERT. -/
structure EviPin where
  edge : Nat := 0
  filt : Nat := 1
  invert : Bool := false
  ball : Bool := false
  level : Bool := false
  count : Nat := 0
  sec : Nat := 0
  ns : Nat := 0
  deriving DecidableEq, Repr, Inhabited

/-- One entry of the MSI-X table (R589), as PCI Express defines it. -/
structure MsixEntry where
  addr : Nat := 0
  data : Nat := 0
  masked : Bool := true
  deriving DecidableEq, Repr, Inhabited

/-- The event unit: both views, the messages, the pins and the retention record. -/
structure EventPart where
  pend : Tab Word := []
  en : Tab Word := []
  armed : Word := 0xFFFFFFFF#32
  holdoff : Tab Nat := []
  running : Word := 0
  msgs : Tab Nat := []
  msgsShadow : Tab Nat := []
  table : Tab MsixEntry := []
  pba : Word := 0
  evcPend : Tab Word := []
  evcEn : Tab Word := []
  inService : Option Nat := none
  completeErr : Bool := false
  spurious : Nat := 0
  claim : Nat := 1023
  pins : Tab EviPin := []
  retention : Bool := false
  recorded : List Nat := []
  deriving DecidableEq, Repr, Inhabited

end Sys2Proof.Machine
end

