-- ==== Sys2Proof/Machine/Parts/Head.lean ====
section
/-! DEFINITION. State of layers, colour, blending, heads, the Fixer, admission and signatures (R232 to R373), and of the
5200 window (R569 to R579). -/
namespace Sys2Proof.Machine
open Sys2Proof

/-- A layer's source, crop and orientation (R244, R246). -/
structure Source where
  kind : Nat := 0
  opaq : Bool := false
  buffer : Nat := 0
  pool : Nat := 0
  cx : Nat := 0
  cy : Nat := 0
  cw : Nat := 0
  ch : Nat := 0
  orient : Nat := 0
  deriving DecidableEq, Repr, Inhabited

/-- A layer's destination rectangle (R249). -/
structure Geometry where
  dx : Int := 0
  dy : Int := 0
  dw : Nat := 0
  dh : Nat := 0
  deriving DecidableEq, Repr, Inhabited

/-- A layer's envelope (R258). -/
structure Envelope where
  on : Bool := false
  dxMin : Int := 0
  dxMax : Int := 0
  dyMin : Int := 0
  dyMax : Int := 0
  wMin : Nat := 0
  wMax : Nat := 0
  hMin : Nat := 0
  hMax : Nat := 0
  deriving DecidableEq, Repr, Inhabited

/-- A layer's blend mode and weight (R300, R301). -/
structure Blend where
  mode : Nat := 0
  premult : Bool := false
  lw : Nat := 65535
  deriving DecidableEq, Repr, Inhabited

/-- A video layer's scaler and decode settings (R267 to R272, R276); `rawWhite` none is 2ⁿ − 1 of the layout. -/
structure VideoCfg where
  hset : Nat := 0
  vset : Nat := 0
  predecH : Nat := 0
  predecV : Nat := 0
  ycc : Nat := 0
  chroma : Nat := 0
  lin : Bool := false
  rawBlack : Nat := 0
  rawWhite : Option Nat := none
  deriving DecidableEq, Repr, Inhabited

/-- A 3 × 3 matrix with offsets (R281). -/
structure Matrix where
  m : List Int := [65536, 0, 0, 0, 65536, 0, 0, 0, 65536]
  off : List Int := [0, 0, 0]
  deriving DecidableEq, Repr, Inhabited

/-- The content of a 1D table (R280, R284): the identity of the boot fill, a standard curve, or loaded entries. -/
inductive Lut where
  | identity
  | builtin (curve norm : Nat)
  | loaded (entries : List Int)
  deriving DecidableEq, Repr, Inhabited

/-- Everything a commit carries for one layer (R233). -/
structure LayerCfg where
  src : Source := {}
  geo : Geometry := {}
  env : Envelope := {}
  blend : Blend := {}
  video : VideoCfg := {}
  matrix : Matrix := {}
  lin : Lut := .identity
  palette : Tab Nat := []
  curve : Bool := false
  gain : Int := 65536
  tier : Nat := 7
  latency : Nat := 0
  opened : Bool := false
  deriving DecidableEq, Repr, Inhabited

/-- A set of fast-path values (R259). -/
structure FastSet where
  dx : Int := 0
  dy : Int := 0
  cx : Nat := 0
  cy : Nat := 0
  cw : Nat := 0
  ch : Nat := 0
  deriving DecidableEq, Repr, Inhabited

/-- The fast path of a layer (R258 to R261). -/
structure FastPath where
  staging : FastSet := {}
  current : Option FastSet := none
  pending : Option FastSet := none
  latched : Option FastSet := none
  rejected : Bool := false
  discarded : Bool := false
  applied : Nat := 0
  deriving DecidableEq, Repr, Inhabited

/-- What a layer's fetch has read in the frame being composed (R248, R251): the surface lines it has settled, those
that were holes or poisoned, the 64-byte lines it holds, and those of them that were poisoned. -/
structure FetchState where
  settled : Nat := 0
  holes : Nat := 0
  poisoned : Nat := 0
  lines : Tab (List Byte) := []
  bad : List Nat := []
  any : Bool := false
  skip : Nat := 0
  seen : Bool := false
  poisonRaised : Bool := false
  deriving DecidableEq, Repr, Inhabited

/-- The counters of a layer. -/
structure LayerCounters where
  frames : Nat := 0
  skipped : Nat := 0
  fetch : Nat := 0
  poison : Nat := 0
  deriving DecidableEq, Repr, Inhabited

/-- One layer of the pool (R232). `held` is the buffer its head references for it, with the token; `join` is a head it
is to join once it has left the other, with its settings and the buffer referenced for them (R234). -/
structure Layer where
  sHead : Option Nat := none
  shadow : LayerCfg := {}
  head : Option Nat := none
  cfg : LayerCfg := {}
  join : Option (Nat × LayerCfg × Option Nat) := none
  shown : Option Nat := none
  held : Option (Nat × Nat) := none
  fp : FastPath := {}
  fetch : FetchState := {}
  shed : Bool := false
  visible : Bool := false
  occluder : Bool := false
  lastBuf : Option Nat := none
  ctr : LayerCounters := {}
  cshadow : LayerCounters := {}
  repeats : Nat := 0
  skips : Nat := 0
  refused : Nat := 0
  deriving DecidableEq, Repr, Inhabited

/-- Raster timing, rate and phase (R310 to R315). -/
structure Timing where
  hact : Nat := 0
  hfp : Nat := 0
  hsync : Nat := 0
  hbp : Nat := 0
  vact : Nat := 0
  vfp : Nat := 0
  vsync : Nat := 0
  vbp : Nat := 0
  hpol : Bool := false
  vpol : Bool := false
  align : Bool := false
  p : Nat := 0
  q : Nat := 0
  phase : Int := 0
  deriving DecidableEq, Repr, Inhabited

/-- Output settings (R283 to R292). -/
structure OutputCfg where
  neg : Bool := false
  lut3d : Bool := false
  bank : Nat := 0
  full : Bool := true
  clip : Bool := false
  ycc : Nat := 0
  form : Nat := 0
  bits : Nat := 10
  dither : Nat := 0
  seed : Nat := 0
  deriving DecidableEq, Repr, Inhabited

/-- The settings of a signature region (R358, R359, R364 to R370). -/
structure SigCfg where
  enable : Bool := false
  tally : Bool := false
  skipShed : Bool := false
  action : Nat := 0
  x : Nat := 0
  y : Nat := 0
  w : Nat := 0
  h : Nat := 0
  limit : Nat := 1
  recover : Nat := 0
  valid : Nat := 0
  expect : List Nat := []
  deriving DecidableEq, Repr, Inhabited

/-- Everything a commit carries for one head (R328). -/
structure HeadCfg where
  timing : Timing := {}
  out : OutputCfg := {}
  matrix : Matrix := {}
  enc : Lut := .identity
  z : List Nat := []
  bg : List Int := [0, 0, 0]
  wbMode : Nat := 0
  wbPool : Option Nat := none
  sigs : Tab SigCfg := []
  deriving DecidableEq, Repr, Inhabited

/-- The running state of a signature region (R360 to R368). -/
structure SigState where
  outside : Bool := false
  fault : Bool := false
  acting : Bool := false
  matched : Bool := false
  matchIdx : Nat := 0
  miss : Nat := 0
  good : Nat := 0
  value : Nat := 0
  frame : Nat := 0
  run : Nat := 0xFFFFFFFF
  compared : Bool := false
  mismatches : Nat := 0
  mshadow : Nat := 0
  deriving DecidableEq, Repr, Inhabited

/-- `HD_STATUS.FREEZE` (R335). -/
inductive Freeze where
  | live | capture | frozen
  deriving DecidableEq, Repr, Inhabited

/-- The counters of a head. -/
structure HeadCounters where
  frames : Nat := 0
  commits : Nat := 0
  wbPub : Nat := 0
  wbDrop : Nat := 0
  frozen : Nat := 0
  u2 : Nat := 0
  u3 : Nat := 0
  starved : Nat := 0
  deriving DecidableEq, Repr, Inhabited

/-- The reservoir and the fetch class of a head (R252 to R254): `scanned` counts the pixels of the frame being composed that are
known to have been scanned out; watermarks stored for a disabled head or pending on an enabled one are (0, 0) where they are to be
the defaults; `lostFrom` is the sample of the next line from which a parity
error has lost its pixels (R536 kind 10). -/
structure Reservoir where
  cls : Nat := 0
  scanned : Nat := 0
  low : Nat := 0
  critical : Nat := 0
  storedMarks : Option (Nat × Nat) := none
  pendingMarks : Option (Nat × Nat) := none
  minRun : Nat := 0
  minLevel : Nat := 0
  u3Raised : Bool := false
  starvedRaised : Bool := false
  substituted : Nat := 0
  lostFrom : Option Nat := none
  deriving DecidableEq, Repr, Inhabited

/-- Write-back and freeze (R331 to R337): a finished buffer to publish with its frame number and its instant, the buffer
being written, the one whose reference the agent holds, the number of the one last published, and the buffer of a captured
frame that was published before its blanking. -/
structure WriteBack where
  done : Option (Nat × Nat × Nat) := none
  buf : Option Nat := none
  last : Option Nat := none
  lastNum : Nat := 0
  captured : Option Nat := none
  freeze : Freeze := .live
  frozenBuf : Option Nat := none
  deriving DecidableEq, Repr, Inhabited

/-- One head. `frame` is −1 before its first frame; `frameAt` is the instant of line 0 of its current frame; `nextFs`
that of the frame that follows; `composed` counts the lines composed of the frame being composed. The raster stood `posBase`
units of 2⁻³² sample past line 0 at the instant `posAt` (R9, R96); `longBlank` says that the blanking is being lengthened to a
locked position (R79, R315). `ahead` are the lines composed before the frame they belong to has begun, without and with
the actions of regions. -/
structure Head where
  shadow : HeadCfg := {}
  cfg : HeadCfg := {}
  enabled : Bool := false
  enabling : Bool := false
  pair : Bool := false
  frame : Int := 0
  frameAt : Nat := 0
  posBase : Nat := 0
  posAt : Nat := 0
  longBlank : Bool := false
  nextFs : Nat := 0
  inBlank : Bool := false
  latched : Bool := false
  composed : Nat := 0
  composeFrame : Int := 0
  realign : Bool := false
  refusedRaised : Bool := false
  lfsr : Nat := 0
  lineOut : List Nat := []
  ahead : List (List (Nat × Nat × Nat) × List (Nat × Nat × Nat)) := []
  res : Reservoir := {}
  wb : WriteBack := {}
  sig : Tab SigState := []
  appliedTiers : Nat := 0
  freezeApplied : Bool := false
  ctr : HeadCounters := {}
  cshadow : HeadCounters := {}
  deriving DecidableEq, Repr, Inhabited

/-- A 3D LUT unit (R285 to R289); `mode` is 0 unassigned, 1 one table, 2 two banks. A bank lists the nodes written, each
as R + 2¹⁶ G + 2³² B. -/
structure LutUnit where
  mode : Nat := 0
  head : Nat := 0
  active : Nat := 0
  pending : Nat := 0
  valid0 : Bool := false
  valid1 : Bool := false
  loading : Option Nat := none
  swaps : Nat := 0
  bank0 : List Nat := []
  bank1 : List Nat := []
  deriving DecidableEq, Repr, Inhabited

/-- A coefficient set (R276): 64 × 8 horizontal taps, then 64 × 6 vertical taps. -/
structure CoefSet where
  loaded : Bool := false
  taps : List Int := []
  deriving DecidableEq, Repr, Inhabited

/-- What admission counts of a head (R339): a configuration that it has or would have. -/
structure HeadView where
  on : Bool := false
  pair : Bool := false
  cfg : HeadCfg := {}
  lays : List (Nat × LayerCfg) := []
  deriving DecidableEq, Repr, Inhabited

/-- An armed commit (R324 to R330); `views` are the old and the new configuration of each of its heads (R344), and `window` marks a
5200 commit. -/
structure Armed where
  id : Nat := 0
  heads : List Nat := []
  hcfg : Tab HeadCfg := []
  lays : List (Nat × Nat × LayerCfg) := []
  enable : List Nat := []
  disable : List Nat := []
  handle : Option Nat := none
  released : Bool := false
  fences : List (Nat × Nat) := []
  timeout : Nat := 0
  blanks : Nat := 0
  ready : Bool := false
  bound : List Nat := []
  landed : List Nat := []
  refs : List (Nat × Nat) := []
  costs : List (Nat × Nat) := []
  switches : List (Nat × Nat × Nat) := []
  lowFrame : Int := 0
  views : List (Nat × HeadView) := []
  window : Bool := false
  deriving DecidableEq, Repr, Inhabited

/-- The Fixer. -/
structure Fixer where
  armed : List Armed := []
  fences : Tab Nat := []
  nextId : Nat := 0
  deriving DecidableEq, Repr, Inhabited

/-- A step of the shed plan (R347). -/
structure ShedStep where
  kind : Nat := 0
  unit : Nat := 0
  tier : Nat := 0
  saving : Nat := 0
  deriving DecidableEq, Repr, Inhabited

/-- The counters of admission and shedding. -/
structure ShedCounters where
  taken : Nat := 0
  restored : Nat := 0
  rejected : Nat := 0
  deriving DecidableEq, Repr, Inhabited

/-- Admission and shedding (R339 to R357). `taken` lists the plan indices of the taken steps, oldest first. -/
structure ShedPart where
  resIngest : Nat := 0
  resRecord : Nat := 0
  resStream : Nat := 0
  resBe : Nat := 5000
  shedLoad : Nat := 0
  usable : Nat := 0
  plan : List ShedStep := []
  taken : List Nat := []
  next : Nat := 0
  exhausted : Bool := false
  holding : Bool := false
  evalDue : Bool := false
  margin : Nat := 2000
  holdMs : Nat := 1000
  lastStep : Nat := 0
  lastRestore : Bool := false
  lastValid : Bool := false
  lastSaving : Nat := 0
  ctr : ShedCounters := {}
  shadow : ShedCounters := {}
  deriving DecidableEq, Repr, Inhabited

/-- One window layer's registers (R574). -/
structure WinLayer where
  ctrl : Nat := 0
  alpha : Nat := 255
  baseLo : Nat := 0
  baseHi : Nat := 0
  latch : Option Nat := none
  stride : Nat := 0
  dx : Nat := 0
  dy : Nat := 0
  cx : Nat := 0
  cy : Nat := 0
  cw : Nat := 0
  ch : Nat := 0
  pal : Tab Nat := []
  deriving DecidableEq, Repr, Inhabited

/-- A pending 5200 commit of a head (R576): its snapshot, the blankings until it is due, and its armed commit. -/
structure WinPending where
  layers : Tab WinLayer := []
  due : Nat := 0
  armed : Option Nat := none
  deriving DecidableEq, Repr, Inhabited

/-- The 5200 window. -/
structure Window where
  enabled : Bool := false
  closing : Bool := false
  layers : Tab WinLayer := []
  palAddr : Nat := 0
  pend0 : Option WinPending := none
  pend1 : Option WinPending := none
  late : Nat := 0
  drop : Nat := 0
  reason : Nat := 0
  layer : Nat := 0
  excess : Nat := 0
  deriving DecidableEq, Repr, Inhabited

/-- Layers, heads and all that composes them. -/
structure PicPart where
  layers : Tab Layer := []
  heads : Tab Head := []
  luts : Tab LutUnit := []
  coefs : Tab CoefSet := []
  graphicCurve : Lut := .builtin 3 0
  fx : Fixer := {}
  shed : ShedPart := {}
  tallyForce : Bool := false
  win : Window := {}
  deriving DecidableEq, Repr, Inhabited

end Sys2Proof.Machine
end

