-- ==== Sys2Proof/Machine/Parts/Ingest.lean ====
section
/-! DEFINITION. State of picture ingest (R213 to R231). -/
namespace Sys2Proof.Machine
open Sys2Proof

/-- The counters of an ingest stream. -/
structure IngestCounters where
  ok : Nat := 0
  holed : Nat := 0
  dropNoBuf : Nat := 0
  formatErr : Nat := 0
  linesOk : Nat := 0
  holeLines : Nat := 0
  segErr : Nat := 0
  segOrder : Nat := 0
  orphan : Nat := 0
  feMissing : Nat := 0
  frameCrcErr : Nat := 0
  frameGap : Nat := 0
  deriving DecidableEq, Repr, Inhabited

/-- `IN_STATUS.STATE`. -/
inductive IngestState where
  | idle | opened | dropping
  deriving DecidableEq, Repr, Inhabited

/-- The settings of INGEST_STREAM_SET. -/
structure IngestCfg where
  mac : Nat := 0
  pool : Nat := 0
  lowMark : Nat := 0
  latencyNs : Nat := 0
  endTimeoutUs : Nat := 0
  deriving DecidableEq, Repr, Inhabited

/-- The picture a context has open, or drops (R223 to R229). `broken` has bit i set where line i is broken. -/
structure OpenPicture where
  frame : Nat := 0
  buffer : Nat := 0
  lines : Nat := 0
  lineBytes : Nat := 0
  stride : Nat := 0
  base : Nat := 0
  expected : Tab Nat := []
  broken : Nat := 0
  crc : Nat := 0xFFFFFFFF
  capSec : Nat := 0
  capNs : Nat := 0
  capFrame : Nat := 0
  deriving DecidableEq, Repr, Inhabited

/-- One ingest context. -/
structure Ingest where
  enabled : Bool := false
  cfg : IngestCfg := {}
  state : IngestState := .idle
  pic : OpenPicture := {}
  lastFrame : Nat := 0
  seenMarker : Bool := false
  lastArrival : Nat := 0
  srcAddr : Option (List Byte) := none
  width : Nat := 0
  lastDropped : Bool := false
  lastHoled : Bool := false
  low : Bool := false
  drops : Nat := 0
  lastDrop : Nat := 0
  holeLines : Nat := 0
  ctr : IngestCounters := {}
  shadow : IngestCounters := {}
  deriving DecidableEq, Repr, Inhabited

/-- The ingest engine. -/
structure IngestPart where
  ctxs : Tab Ingest := []
  unbound : Nat := 0
  unboundRaised : Option Nat := none
  deriving DecidableEq, Repr, Inhabited

end Sys2Proof.Machine
end

