-- ==== Sys2Proof/Machine/Parts/Mac.lean ====
section
/-! DEFINITION. State of the high-speed lanes and the MAC ports (R181 to R212). -/
namespace Sys2Proof.Machine
open Sys2Proof

/-- One high-speed lane, as `HL_STATUS` reports it. `seq` is the MARKER_SEQ last received and `seqAt` when it arrived (R187).
The transmit side holds the 257-bit blocks of the codeword being filled, the BIP byte so far, the scrambler of its own idle blocks, the last PAM4 level, the levels of
the last codeword sent and the last marker sent (R185, R186). -/
structure Lane where
  use : Nat := 0
  mac : Nat := 0
  baud : Nat := 0
  signal : Bool := false
  cdr : Bool := false
  marker : Bool := false
  fault : Bool := false
  rxLogical : Nat := 15
  txLogical : Nat := 15
  seq : Nat := 0
  groupOk : Bool := false
  seqAt : Nat := 0
  blocks : List Nat := []
  bip : Nat := 0
  scr : Nat := 0
  level : Nat := 0
  sent : List Nat := []
  markerOut : List Byte := []
  deriving DecidableEq, Repr, Inhabited

/-- A spare lane of a MAC (R191). -/
structure Spare where
  valid : Bool := false
  lane : Nat := 0
  tx : Nat := 15
  rx : Nat := 15
  deriving DecidableEq, Repr, Inhabited

/-- The start threshold of a transmit queue (R196, R198). -/
structure TxQueue where
  base : Nat := 2048
  thr : Nat := 2048
  clean : Nat := 0
  deriving DecidableEq, Repr, Inhabited

/-- A MAC frame to send, from the destination address to before its FCS; `owner` names the engine's record of it. -/
structure TxFrame where
  bytes : List Byte := []
  queue : Nat := 0
  owner : Nat := 0
  deriving DecidableEq, Repr, Inhabited

/-- A steering rule (R206); queue 0xFE disables it. -/
structure Rule where
  queue : Nat := 254
  vlanMode : Nat := 0
  tci : Nat := 0
  tciMask : Nat := 0
  etype : Nat := 0
  etypeMask : Nat := 0
  dscp : Nat := 0
  dscpMask : Nat := 0
  l4 : Nat := 0
  deriving DecidableEq, Repr, Inhabited

/-- An entry of the destination address filter (R205). -/
structure FilterEntry where
  valid : Bool := false
  addr : List Byte := []
  deriving DecidableEq, Repr, Inhabited

/-- The link of a MAC (R188, R189). -/
inductive Link where
  | down | adapt | lock | aligned | sparing | up
  deriving DecidableEq, Repr, Inhabited

/-- A transmit-side move that waits for a marker point (R191, R193): the logical lane, the spare, to it or back from it,
the earliest instant, and the marker points it has waited (R188). -/
structure LaneMove where
  logical : Nat := 0
  spare : Nat := 0
  back : Bool := false
  notBefore : Nat := 0
  age : Nat := 0
  deriving DecidableEq, Repr, Inhabited

/-- The settings of MAC_CONFIG. -/
structure MacCfg where
  mode : Nat := 0
  role : Nat := 0
  first : Nat := 0
  width : Nat := 1
  fec : Nat := 0
  linkId : Nat := 0
  maxFrame : Nat := 1518
  rxPauseEn : Bool := false
  precode : Bool := false
  defaultQ : Nat := 0
  dest : List Nat := []
  pauseAlarm : Nat := 0
  deriving DecidableEq, Repr, Inhabited

/-- The link side of a MAC (R188 to R193). `rlfAge` counts the marker points for which each bit of RLF has stood, `peerRlf` is
the peer's RLF last seen, and `sendsRf` tells that an Ethernet MAC sends remote fault (R189). Of the KML-56 transmitter it holds
the scrambler, the 66-bit blocks that wait to be transcoded and the 257-bit blocks dealt since the last marker (R185). -/
structure MacLink where
  link : Link := .down
  localFault : Bool := false
  remoteFault : Bool := false
  idMismatch : Bool := false
  retries : Nat := 0
  downs : Nat := 0
  rlf : Nat := 0
  peerDown : Nat := 0
  markerSeq : Nat := 0
  rlfAge : Tab Nat := []
  peerRlf : Nat := 0
  sendsRf : Bool := false
  scr : Nat := 0
  blks : List (Bool × Nat) := []
  dealt : Nat := 0
  moves : List LaneMove := []
  spares : Tab Spare := []
  deriving DecidableEq, Repr, Inhabited

/-- The transmit side of a MAC (R194 to R202). `last` is the frame that was last on the lanes with its FCS, `sfdAt` the instant
of the last frame's start-of-frame delimiter (R209), and `loadedAt` that of the last PAUSE (R200). -/
structure MacTx where
  queues : Tab TxQueue := []
  waiting : List TxFrame := []
  cur : Option TxFrame := none
  last : List Byte := []
  paused : Bool := false
  quanta : Nat := 0
  loadedAt : Nat := 0
  sfdAt : Nat := 0
  pausedAt : Nat := 0
  freeAt : Nat := 0
  alarmed : Bool := false
  underQueue : Nat := 0
  underBytes : Nat := 0
  underValid : Bool := false
  deriving DecidableEq, Repr, Inhabited

/-- One MAC. `decided` counts the frames steered to host rings (R208) and `rxStamp` is the last receive timestamp (R209). -/
structure Mac where
  enabled : Bool := false
  cfg : MacCfg := {}
  lk : MacLink := {}
  tx : MacTx := {}
  sleep : Bool := false
  detect : Nat := 0
  woke : Bool := false
  starting : Bool := false
  stopping : Bool := false
  toSleep : Bool := false
  rules : Tab Rule := []
  filter : Tab FilterEntry := []
  ctr : Tab Nat := []
  shadow : Tab Nat := []
  half : Nat := 0
  decided : Nat := 0
  rxStamp : Nat := 0
  deriving DecidableEq, Repr, Inhabited

/-- Lanes and MACs. -/
structure MacPart where
  lanes : Tab Lane := []
  macs : Tab Mac := []
  deriving DecidableEq, Repr, Inhabited

end Sys2Proof.Machine
end

