-- ==== Sys2Proof/Machine/Parts/Magazine.lean ====
section
/-! DEFINITION. State of the magazine slots and of the record channels (R397 to R427). -/
namespace Sys2Proof.Machine
open Sys2Proof

/-- `MG_STATUS.STATE` (R402). -/
inductive MagState where
  | off | search | caps | mounting | index | ready | recording | busy
  deriving DecidableEq, Repr, Inhabited

/-- A request of the device that expects a reply (R401). -/
structure KmpReq where
  type : Nat := 0
  seq : Nat := 0
  body : List Byte := []
  flags : Nat := 0
  retries : Nat := 0
  deriving DecidableEq, Repr, Inhabited

/-- An index entry as the device holds it (R405): its 32 bytes in the layout of the index, little-endian (R11). -/
abbrev IndexEntry := List Byte

/-- What the record engine keeps of a capture boundary, or of a reference frame, for record headers (R407): the frame, its instant, the timecode in
progress with its sub-frame index, and whether the timebase was not locked. -/
structure CapMark where
  frame : Nat := 0
  instant : Nat := 0
  tc : Nat := 0
  sub : Nat := 0
  drop : Bool := false
  unlocked : Bool := false
  deriving DecidableEq, Repr, Inhabited

/-- A picture of a clip that the channel holds (R411, R412). -/
structure ClipPicture where
  idx : Nat := 0
  buf : Nat := 0
  gap : Nat := 0
  preroll : Bool := false
  charged : Bool := false
  mark : CapMark := {}
  deriving DecidableEq, Repr, Inhabited

/-- A record on its way to a slot, write by write (R400, R417): its picture, the payload as it is sent, the poisoned lines of its read,
the payload bytes handed out, and its header once the trailer over it has been handed out. -/
structure RecSend where
  pic : ClipPicture := {}
  pay : List Byte := []
  poison : Nat := 0
  off : Nat := 0
  hdr : Option (List Byte) := none
  deriving DecidableEq, Repr, Inhabited

/-- The header and the trailer that a record was sent with (R419). -/
structure SentRecord where
  idx : Nat := 0
  hdr : List Byte := []
  trailer : List Byte := []
  deriving DecidableEq, Repr, Inhabited

/-- A clip copy open on a slot (R412, R417, R420). `next` is the first picture its stream has not begun, `sent` the first
not fully sent, `committed` the first not committed; `record` is the record on its way to the slot, `done` what those not yet let go were
sent with; `ahead` lists pictures committed beyond it, `bad` the picture of each COMMIT that
said its record's CRC is bad. -/
structure Copy where
  clip : Nat := 0
  channel : Nat := 0
  spanOf : Nat := 0
  first : Nat := 0
  next : Nat := 0
  sent : Nat := 0
  committed : Nat := 0
  ahead : List Nat := []
  credit : Nat := 0
  decoupled : Bool := false
  sending : Option Nat := none
  record : Option RecSend := none
  done : List SentRecord := []
  opened : Bool := false
  closing : Option Nat := none
  bad : List Nat := []
  deriving DecidableEq, Repr, Inhabited

/-- The counters of a slot. -/
structure MagCounters where
  commit : Nat := 0
  crcBad : Nat := 0
  resend : Nat := 0
  stale : Nat := 0
  retry : Nat := 0
  holdUs : Nat := 0
  deriving DecidableEq, Repr, Inhabited

/-- A magazine slot. `indexEpoch` is the epoch under which the held index was read, `helloEpoch` the LAST_EPOCH that the
magazine reported; `lastHello` is the instant of its last HELLO; `held` are the messages that wait for the firmware. -/
structure MagSlot where
  state : MagState := .off
  mac : Nat := 0
  noPartner : Bool := false
  serial : Nat := 0
  src : Option (List Byte) := none
  epoch : Nat := 1
  helloEpoch : Nat := 0
  indexEpoch : Option Nat := none
  seq : Nat := 1
  reqs : List KmpReq := []
  held : List (List Byte) := []
  noticeSeq : Option Nat := none
  lastHello : Nat := 0
  maxWrite : Nat := 1024
  bufferPictures : Nat := 0
  capacity : Nat := 0
  free : Nat := 0
  clips : Nat := 0
  nextClip : Nat := 0
  index : List IndexEntry := []
  copy : Option Copy := none
  notice : Nat := 0
  lastClose : Nat := 0
  ctr : MagCounters := {}
  shadow : MagCounters := {}
  deriving DecidableEq, Repr, Inhabited

/-- `REC_STATUS.STATE`. -/
inductive RecState where
  | idle | armed | recording | draining | stopBath
  deriving DecidableEq, Repr, Inhabited

/-- The counters of a record channel. -/
structure RecCounters where
  pictures : Nat := 0
  gap : Nat := 0
  holed : Nat := 0
  poisoned : Nat := 0
  decouple : Nat := 0
  rereadMib : Nat := 0
  deriving DecidableEq, Repr, Inhabited

/-- The settings of REC_CHANNEL_SET. -/
structure RecCfg where
  targets : Nat := 0
  span : Bool := false
  encrypt : Bool := false
  match1 : Bool := false
  stopbath : Bool := false
  pool : Nat := 0
  lagMax : Nat := 8
  holdMs : Nat := 5
  preroll : Nat := 0
  rate : Nat := 0
  deriving DecidableEq, Repr, Inhabited

/-- A start that is to be armed once every target has opened its copy (R414): a capture frame, or an instant with its
timecode. -/
structure RecTrigger where
  kind : Nat := 0
  frame : Nat := 0
  instant : Nat := 0
  tc : Nat := 0
  deriving DecidableEq, Repr, Inhabited

/-- One record channel. `main` is the next picture of the main stream, `count` how many pictures the clip has so far;
`spanDue` holds the slot that the clip is to go on on, the closed clip and its first uncommitted picture (R421); `nextFrame` is one past
the last capture frame seen (R411);
`startDue` and `stopDue` are fired instants that wait for the capture frame they resolve to (R414, R415). -/
structure RecChan where
  enabled : Bool := false
  cfg : RecCfg := {}
  state : RecState := .idle
  key : Option (Nat × List Byte) := none
  trigger : Option RecTrigger := none
  start : Option Nat := none
  stop : Option Nat := none
  stopAfterOne : Bool := false
  startDue : Option Nat := none
  stopDue : Option Nat := none
  startAt : Option Nat := none
  stopAt : Option Nat := none
  started : Bool := false
  nextFrame : Nat := 0
  lastCap : Nat := 0
  gapNext : Nat := 0
  count : Nat := 0
  ended : Bool := false
  cancelled : Bool := false
  backlog : List ClipPicture := []
  main : Nat := 0
  mainFrame : Nat := 0
  hold : Option (Nat × Nat) := none
  spanDue : Option (Nat × Nat × Nat) := none
  reread : Nat := 0
  activity : Nat := 0
  ctr : RecCounters := {}
  shadow : RecCounters := {}
  deriving DecidableEq, Repr, Inhabited

/-- The stop-bath sequence (R423, `REC_STOPBATH`). -/
structure StopBath where
  state : Nat := 0
  startAt : Nat := 0
  closingSent : Bool := false
  abandoned : Nat := 0
  noAck : Nat := 0
  durationUs : Nat := 0
  deriving DecidableEq, Repr, Inhabited

/-- Magazines and recording. `marks` and `refMarks` keep the newest capture boundaries and reference frames. -/
structure RecPart where
  slots : Tab MagSlot := []
  chans : Tab RecChan := []
  marks : List CapMark := []
  refMarks : List CapMark := []
  bath : StopBath := {}
  deriving DecidableEq, Repr, Inhabited

end Sys2Proof.Machine
end

