-- ==== Sys2Proof/Machine/Parts/Power.lean ====
section
/-! DEFINITION. State of the power governor and of the Safelight domain (R503 to R532), and of availability and fault
handling (R533 to R548). -/
namespace Sys2Proof.Machine
open Sys2Proof

/-- The level of a power domain (R504). -/
inductive Level where
  | off | ret | on
  deriving DecidableEq, Repr, Inhabited

/-- A power domain: its level, its committed cost in mW, its epoch, and whether its load is still to come (R503, R542). -/
structure Domain where
  level : Level := .off
  cost : Nat := 0
  epoch : Nat := 0
  loading : Bool := false
  deriving DecidableEq, Repr, Inhabited

/-- The state of the device (R506). -/
inductive DevState where
  | run | idle | standby | safelight
  deriving DecidableEq, Repr, Inhabited

/-- A switch that waits in the switch queue (R513). The switches of one grant share its number. -/
structure Switch where
  grant : Nat := 0
  domain : Nat := 0
  target : Level := .off
  step : Nat := 0
  delayed : Bool := false
  deriving DecidableEq, Repr, Inhabited

/-- The counters of the governor. -/
structure PwrCounters where
  grant : Nat := 0
  delay : Nat := 0
  deny : Nat := 0
  switch : Nat := 0
  deriving DecidableEq, Repr, Inhabited

/-- The power governor (R511 to R518) (DEDUCED, log entry 123). `grants` numbers the grants, and `waiting` holds the requests
that wait for the firmware (R55, R514) (DEDUCED, log entry 123). -/
structure PowerPart where
  state : DevState := .idle
  doms : Tab Domain := [(0, { level := .on }), (1, { level := .on, cost := 800 }), (2, { level := .on, cost := 2000 }),
    (3, { level := .on, cost := 1000 }), (4, { level := .on, cost := 200 }), (11, { level := .on, cost := 1500 }),
    (12, { level := .on, cost := 1500 }), (13, { level := .on, cost := 1500 }), (14, { level := .on, cost := 1500 }),
    (30, { level := .on, cost := 900 }), (31, { level := .on, cost := 900 })]
  budget : Nat := 44000
  stepLimit : Nat := 4000
  queue : List Switch := []
  window : List (Nat × Nat) := []
  holdup : Bool := false
  grants : Nat := 0
  waiting : List (Nat × Nat × Nat) := []
  overBudget : Bool := false
  leaving : Bool := false
  waking : Bool := false
  wakeDue : Bool := false
  denyReason : Nat := 0
  denyDomain : Nat := 0
  denyExcess : Nat := 0
  denyValid : Bool := false
  ctr : PwrCounters := {}
  shadow : PwrCounters := {}
  deriving DecidableEq, Repr, Inhabited

/-- A Safelight comparator (R528), with its reported state. -/
structure Comparator where
  thresh : Nat := 0
  hyst : Nat := 0
  filt : Nat := 1
  pol : Bool := false
  state : Bool := false
  changed : Bool := false
  deriving DecidableEq, Repr, Inhabited

/-- The Safelight domain (R523 to R531, R590 to R594) (DESIGN CHOICE, log entry 26). `secAt` is the instant of the timebase at
which its present second began (DESIGN CHOICE, log entry 26). -/
structure Safelight where
  timeValid : Bool := false
  tcValid : Bool := false
  onBattery : Bool := false
  slReset : Bool := true
  switchovers : Nat := 0
  rtcSec : Nat := 0
  secAt : Nat := 0
  latchBar : Nat × Nat := (0, 0)
  latchSpi : Nat × Nat := (0, 0)
  trim : Int := 0
  alarm : Nat := 0
  alarmEn : Bool := false
  tcHh : Nat := 0
  tcMm : Nat := 0
  tcSs : Nat := 0
  tcFf : Nat := 0
  tcBase : Nat := 0
  tcDrop : Bool := false
  cmps : Tab Comparator := [(0, { thresh := 138, hyst := 6, filt := 16 }), (1, { thresh := 186, hyst := 4, filt := 4, state := true }),
    (2, { thresh := 75, hyst := 4, filt := 200 }), (3, { thresh := 75, hyst := 4, filt := 200 }),
    (4, { thresh := 135, hyst := 5, filt := 16 })]
  wakeEn : Nat := 0b110001100
  wakeCause : Nat := 0
  pwrReq : Bool := false
  spiCrcErrs : Nat := 0
  spiAbort : Bool := false
  deriving DecidableEq, Repr, Inhabited

/-- A fault record (R547). -/
structure FaultRec where
  sec : Nat := 0
  ns : Nat := 0
  kind : Nat := 0
  unit : Nat := 255
  detail : Nat := 0
  deriving DecidableEq, Repr, Inhabited

/-- The availability counts of one output (R534). -/
structure AvCounters where
  enabledS : Nat := 0
  faultS : Nat := 0
  faultFrames : Nat := 0
  deriving DecidableEq, Repr, Inhabited

/-- One output (R533, R534). -/
structure Output where
  ctr : AvCounters := {}
  shadow : AvCounters := {}
  lastKind : Nat := 0
  lastValid : Bool := false
  enabledTick : Bool := false
  chargedTick : Bool := false
  chargedFrame : Bool := false
  deriving DecidableEq, Repr, Inhabited

/-- Availability, the fault log, the configuration epoch and the report of locked writes. `badTables` names the tables, by code
and unit, that have a parity error and have not been loaded since (R536 kind 11). -/
structure RelPart where
  epoch : Nat := 1
  reloads : Nat := 0
  lockedOff : Nat := 0
  lockedSrc : Nat := 0
  lockedVal : Nat := 0
  lockedValid : Bool := false
  lockedCount : Nat := 0
  log : List FaultRec := []
  lost : Nat := 0
  sramCe : Nat := 0
  sramUe : Nat := 0
  sramCeShadow : Nat := 0
  sramUeShadow : Nat := 0
  ceThisTick : Bool := false
  outputs : Tab Output := []
  badTables : List (Nat × Nat) := []
  clearMask : Nat := 0
  deriving DecidableEq, Repr, Inhabited

end Sys2Proof.Machine
end

