-- ==== Sys2Proof/Machine/Parts/Sched.lean ====
section
/-! DEFINITION. State of the event scheduler, its pins and the counter snapshots (R114 to R136). -/
namespace Sys2Proof.Machine
open Sys2Proof

/-- The content of a slot as EVT_SLOT_SET writes it (R115, R120, R123). -/
structure SlotContent where
  action : Nat := 0
  kind : Nat := 0
  unit : Nat := 0
  repeats : Nat := 0
  flags : Nat := 0
  pin : Nat := 0
  frame : Nat := 0
  pos : Nat := 0
  arg : Nat := 0
  stop : Nat := 0
  count : Nat := 0
  deriving DecidableEq, Repr, Inhabited

/-- An armed occurrence (R126, R128): the frame it names, its placement instant, its stop, whether it is late, and its pin's
TRIM when it was armed. -/
structure ArmedOcc where
  frame : Int := 0
  instant : Nat := 0
  stop : Nat := 0
  late : Bool := false
  trim : Int := 0
  deriving DecidableEq, Repr, Inhabited

/-- One scheduler slot (R114 to R118); `pending` lists the contents written while an occurrence was armed, with the numbers
of the commands that wrote them (R130). `rearm` says that an armed occurrence was withdrawn and waits to be armed again (R119). -/
structure Slot where
  content : SlotContent := {}
  enabled : Bool := false
  late : Bool := false
  isDone : Bool := false
  outOfRaster : Bool := false
  refused : Bool := false
  suppressed : Bool := false
  fired : Nat := 0
  lastSec : Nat := 0
  occFrame : Int := 0
  occLine : Nat := 0
  armed : Option ArmedOcc := none
  rearm : Bool := false
  pending : List (Nat × SlotContent) := []
  writes : Nat := 0
  deriving DecidableEq, Repr, Inhabited

/-- What an edge does to the logical level of its pin (R120). -/
inductive EdgeOp where
  | high | low | toggle
  deriving DecidableEq, Repr, Inhabited

/-- An edge on a pin: when, of which slot, and what it does (R125). -/
structure PinEdge where
  at_ : Nat := 0
  slot : Nat := 0
  op : EdgeOp := .high
  deriving DecidableEq, Repr, Inhabited

/-- One EVO pin (R125, R131): the level it shows, and its newest edges in time order over the level before them. -/
structure EvoPin where
  outputEn : Bool := false
  invert : Bool := false
  trim : Int := 0
  level : Bool := false
  base : Bool := false
  edges : List PinEdge := []
  deriving DecidableEq, Repr, Inhabited

/-- A pulse whose start has reached its pin and whose stop has not (R123, R125); `place` is the frame and the content of a stop
that a raster position gives. -/
structure PulseRun where
  slot : Nat := 0
  pin : Nat := 0
  stop : Nat := 0
  trim : Int := 0
  place : Option (Int × SlotContent) := none
  deriving DecidableEq, Repr, Inhabited

/-- A register that holds a latched slot number with its VALID bit. -/
structure LastSlot where
  slot : Nat := 0
  valid : Bool := false
  deriving DecidableEq, Repr, Inhabited

/-- The counter snapshots (R132 to R135). -/
structure Snapshots where
  seq : Nat := 0
  pend : Bool := false
  running : Option (Nat × Nat) := none
  lastInstant : Option Nat := none
  instant : Nat := 0
  tag : Nat := 0
  off : Nat := 0
  skipped : Nat := 0
  deriving DecidableEq, Repr, Inhabited

/-- The event scheduler; `armTimes` are the instants of the armings of the last microsecond (R127). -/
structure SchedPart where
  slots : Tab Slot := []
  pins : Tab EvoPin := []
  pulses : List PulseRun := []
  lateCount : Nat := 0
  suppressedCount : Nat := 0
  refusedCount : Nat := 0
  lastLate : LastSlot := {}
  lastSuppressed : LastSlot := {}
  lastRefused : LastSlot := {}
  snap : Snapshots := {}
  armTimes : List Nat := []
  deriving DecidableEq, Repr, Inhabited

end Sys2Proof.Machine
end

