-- ==== Sys2Proof/Machine/Parts/Store.lean ====
section
/-! DEFINITION. State of the frame store (R137 to R165) and of the frame ledger (R166 to R180). -/
namespace Sys2Proof.Machine
open Sys2Proof

/-- The error state of one 64-byte line (R143, R146): how many symbols are wrong, and whether it is poisoned. -/
structure LineEcc where
  symbols : Nat := 0
  poison : Bool := false
  deriving DecidableEq, Repr, Inhabited

/-- What DIAG_FS_RAW wrote beside a line: its check word, and the data for which the line was last a good codeword, where that
is known (R142, R143). -/
structure RawCheck where
  chk : Nat := 0
  good : Option (List Byte) := none
  deriving DecidableEq, Repr, Inhabited

/-- `FS_CH_STATUS.STATE` (R163, R164). -/
inductive ChState where
  | active | retiring | retired | failed
  deriving DecidableEq, Repr, Inhabited

/-- The delay and VREF registers of a channel (R151, R152). -/
structure FsDelays where
  ca : Nat := 0
  ck : Nat := 0
  wck : Nat := 0
  wr0 : Nat := 0
  wrDmi0 : Nat := 0
  wr1 : Nat := 0
  wrDmi1 : Nat := 0
  rd0 : Nat := 0
  rdGate0 : Nat := 0
  rd1 : Nat := 0
  rdGate1 : Nat := 0
  vref0 : Nat := 0
  vref1 : Nat := 0
  vrefCa : Nat := 0
  deriving DecidableEq, Repr, Inhabited

/-- The four counters of a channel (R144, R145, R152, R161). -/
structure FsCounters where
  ce : Nat := 0
  ue : Nat := 0
  aged : Nat := 0
  nudge : Nat := 0
  deriving DecidableEq, Repr, Inhabited

/-- One channel of the frame store; `dead` says that it had failed before its retirement began (R164, R540), `pdRanks` and
`selfRefresh` how its ranks rest (R156). -/
structure Channel where
  state : ChState := .active
  mult : Nat := 0
  retrain : Bool := false
  dramTemp : Nat := 0
  migrated : Nat := 0
  trained : Bool := false
  temp : Int := 0
  nudge0 : Int := 0
  nudge1 : Int := 0
  trainings : Nat := 0
  nudgeDue : Option (Int × Int) := none
  lowPolls : List Nat := []
  above105 : Bool := false
  pdRanks : List Nat := []
  selfRefresh : Bool := false
  dead : Bool := false
  ueTimes : List Nat := []
  ueRun : Nat := 0
  delays : FsDelays := {}
  ctr : FsCounters := {}
  shadow : FsCounters := {}
  deriving DecidableEq, Repr, Inhabited

/-- A record of the patrol log. -/
structure PatrolRec where
  fsa : Nat := 0
  channel : Nat := 0
  repeated : Bool := false
  pass : Nat := 0
  deriving DecidableEq, Repr, Inhabited

/-- The patrol scrub (R147). -/
structure Patrol where
  line : Nat := 0
  pass : Nat := 0
  log : List PatrolRec := []
  lost : Nat := 0
  corrected : List Nat := []
  correctedBefore : List Nat := []
  deriving DecidableEq, Repr, Inhabited

/-- The memory fitted, from the memory parameter block (R137, R138) (DESIGN CHOICE, log entry 25). -/
structure FsConfig where
  ranks : Nat := 2
  density : Nat := 16
  speed : Nat := 8533
  reserve : Bool := false
  deriving DecidableEq, Repr, Inhabited

/-- The frame store: its bytes by FSA, the error state of its lines, and its registers. `loose`, `looseEcc` and `looseRaw` are the
bytes and the lines of places that no FSA names, by 2³⁶ × channel + data offset; `spare` the unused bytes of each block (R142). `brought` says that the store has been brought up and
has not failed since, so that it has a usable bandwidth (R155, R158). -/
structure FsPart where
  cfg : FsConfig := {}
  up : Bool := false
  brought : Bool := false
  mem : Tab Byte := []
  ecc : Tab LineEcc := []
  raw : Tab (Option RawCheck) := []
  loose : Tab Byte := []
  looseEcc : Tab LineEcc := []
  looseRaw : Tab (Option RawCheck) := []
  spare : Tab Nat := []
  reserveFilled : Bool := false
  fillPtr : Nat := 0
  fillDone : Bool := false
  ce : Bool := false
  ue : Bool := false
  oor : Bool := false
  unfilled : Bool := false
  lastUe : Nat := 0
  lastUeChan : Nat := 0
  lastUeValid : Bool := false
  pdIdle : Nat := 8
  agingUs : Nat := 20
  scrubH : Nat := 24
  autoRetire : Bool := false
  autoLimit : Nat := 1
  chans : Tab Channel := []
  patrol : Patrol := {}
  migrateNext : Nat := 0
  deriving DecidableEq, Repr, Inhabited

/-- The state of a buffer (R168, R541). -/
inductive BufState where
  | free | owned | published | quarantined
  deriving DecidableEq, Repr, Inhabited

/-- One ledger buffer (R168, R177, R179). `valid` has bit i set where line i holds real data. -/
structure Buffer where
  state : BufState := .free
  owner : Nat := 0
  valid : Nat := 0
  holeReads : Nat := 0
  capSec : Nat := 0
  capNs : Nat := 0
  frame : Nat := 0
  freeSeq : Nat := 0
  pubSeq : Nat := 0
  badDesc : Bool := false
  deriving DecidableEq, Repr, Inhabited

/-- The four counters of a pool. -/
structure PoolCounters where
  acq : Nat := 0
  empty : Nat := 0
  holes : Nat := 0
  reclaim : Nat := 0
  deriving DecidableEq, Repr, Inhabited

/-- One pool (R170, R171). -/
structure Pool where
  used : Bool := false
  base : Nat := 0
  size : Nat := 0
  count : Nat := 0
  ring : Bool := false
  keep : Nat := 0
  lines : Nat := 0
  format : Nat := 0
  stride : Nat := 0
  first : Nat := 0
  ctr : PoolCounters := {}
  shadow : PoolCounters := {}
  deriving DecidableEq, Repr, Inhabited

/-- One entry of the reference table (R173): a reference of a token on a buffer. `holder` tells the uses of one token apart (DESIGN CHOICE, log entry 182). -/
structure RefEntry where
  buf : Nat := 0
  token : Nat := 0
  holder : Nat := 0
  holeSeen : Bool := false
  deriving DecidableEq, Repr, Inhabited

/-- The frame ledger. `gens` holds GEN by 32 × CLASS + INSTANCE; `drains` lists old tokens of agents under reset. -/
structure LedgerPart where
  bufs : Tab Buffer := []
  pools : Tab Pool := []
  refs : List RefEntry := []
  gens : Tab Nat := []
  drains : List Nat := []
  seq : Nat := 0
  reclaimed : Nat := 0
  errBuf : Nat := 0
  errKind : Nat := 0
  errToken : Nat := 0
  deriving DecidableEq, Repr, Inhabited

end Sys2Proof.Machine
end

