-- ==== Sys2Proof/Machine/Parts/Stream.lean ====
section
/-! DEFINITION. State of the stream engine, of PTP and of the rig link (R428 to R462). -/
namespace Sys2Proof.Machine
open Sys2Proof

/-- The settings of STREAM_SUB_SET. -/
structure SubCfg where
  kind : Nat := 0
  portA : Nat := 0
  portB : Option Nat := none
  service : Nat := 0
  tier : Nat := 0
  armed : Bool := false
  typeW : Bool := false
  jumbo : Bool := false
  vlan : Bool := false
  dscp : Nat := 0
  ttl : Nat := 0
  pt : Nat := 0
  tci : Nat := 0
  head : Nat := 0
  pool : Nat := 0
  sampling : Nat := 0
  lagLines : Nat := 0
  pgroups : Nat := 0
  ssrc : Nat := 0
  latencyNs : Nat := 0
  ratePps : Nat := 0
  burst : Nat := 0
  maxBytes : Nat := 0
  ringCount : Nat := 0
  slotBytes : Nat := 0
  ringFsa : Nat := 0
  dstMacA : List Byte := []
  dstMacB : List Byte := []
  srcIpA : Nat := 0
  srcIpB : Nat := 0
  dstIpA : Nat := 0
  dstIpB : Nat := 0
  srcUdp : Nat := 0
  dstUdpA : Nat := 0
  dstUdpB : Nat := 0
  deriving DecidableEq, Repr, Inhabited

/-- The counters of a subscriber. -/
structure SubCounters where
  sent : Nat := 0
  late : Nat := 0
  repeated : Nat := 0
  held : Nat := 0
  deriving DecidableEq, Repr, Inhabited

/-- A token bucket (R446, R450): its level in tokens × 2⁻¹⁶ ns of a second, and when it was last refilled. -/
structure Bucket where
  level : Nat := 0
  at_ : Nat := 0
  deriving DecidableEq, Repr, Inhabited

/-- The frame a paced subscriber sends, or is to send (R438, R441, R442): its buffer, its geometry, the head frame that carries
it and its packets. -/
structure SubFrame where
  id : Nat := 0
  frame : Int := 0
  buf : Nat := 0
  width : Nat := 0
  lines : Nat := 0
  stamp : Option Nat := none
  next : Nat := 0
  deriving DecidableEq, Repr, Inhabited

/-- What the packets of a frame or of a ring slot hold until the last of their copies has left: a reference on a buffer,
or the OWN byte to clear (R441, R445). -/
structure SubHold where
  id : Nat := 0
  buf : Option Nat := none
  own : Option Nat := none
  left : Nat := 0
  complete : Bool := false
  deriving DecidableEq, Repr, Inhabited

/-- One subscriber; `width` and `lines` are those its source had when it was enabled (R441),
and `picked` says that a selection point has passed since it was to start (R444). -/
structure Sub where
  enabled : Bool := false
  cfg : SubCfg := {}
  width : Nat := 0
  lines : Nat := 0
  started : Bool := false
  starting : Bool := false
  picked : Bool := false
  stopping : Bool := false
  disabling : Bool := false
  cur : Option SubFrame := none
  next : Option SubFrame := none
  last : Option Nat := none
  lost : Bool := false
  held : Bool := false
  seq : Nat := 0
  ids : Nat := 0
  holds : List SubHold := []
  bucket : Bucket := {}
  ringNext : Nat := 0
  lateFrame : Option Int := none
  ctr : SubCounters := {}
  shadow : SubCounters := {}
  deriving DecidableEq, Repr, Inhabited

/-- A copy of a packet that is eligible at a port (R439, R446, R447). `counts` marks the copy that the packet is counted
by; `sub` is 2048 for a frame of the firmware's, and `owner` is what the MAC tells it by. -/
structure StPacket where
  sub : Nat := 0
  owner : Nat := 0
  hold : Nat := 0
  service : Nat := 0
  eligible : Nat := 0
  deadline : Nat := 0
  paced : Bool := false
  late : Bool := false
  counts : Bool := false
  bytes : List Byte := []
  deriving DecidableEq, Repr, Inhabited

/-- The counters of a port. -/
structure StPortCounters where
  paced : Nat := 0
  late : Nat := 0
  promote : Nat := 0
  noFlow : Nat := 0
  deriving DecidableEq, Repr, Inhabited

/-- One port (R428, R447, R448): `owed` is a promoted service that a paced packet has gone before; `sending` the packet
handed to the MAC. -/
structure StPort where
  srcMac : List Byte := [0, 0, 0, 0, 0, 0]
  age : Tab Nat := []
  promoted : Nat := 0
  queue : List StPacket := []
  owed : Option Nat := none
  sending : List StPacket := []
  ctr : StPortCounters := {}
  shadow : StPortCounters := {}
  deriving DecidableEq, Repr, Inhabited

/-- The settings of STREAM_RX_FLOW_SET. -/
structure FlowCfg where
  dest : Nat := 0
  portA : Nat := 0
  portB : Option Nat := none
  target : Nat := 0
  srcMatch : Bool := false
  dstIpA : Nat := 0
  srcIpA : Nat := 0
  dstIpB : Nat := 0
  srcIpB : Nat := 0
  dstUdpA : Nat := 0
  dstUdpB : Nat := 0
  ratePps : Nat := 0
  burst : Nat := 0
  mergeUs : Nat := 0
  deriving DecidableEq, Repr, Inhabited

/-- The counters of a receive flow. -/
structure FlowCounters where
  accepted : Nat := 0
  policed : Nat := 0
  duplicates : Nat := 0
  lost : Nat := 0
  deriving DecidableEq, Repr, Inhabited

/-- A packet that a merge holds back (R451): its number and its MAC frame. -/
structure Held where
  seq : Nat := 0
  mac : Nat := 0
  bytes : List Byte := []
  deriving DecidableEq, Repr, Inhabited

/-- One receive flow (R449 to R452). `next` is the number the merge passes next. -/
structure RxFlow where
  enabled : Bool := false
  since : Nat := 0
  cfg : FlowCfg := {}
  bucketA : Bucket := {}
  bucketB : Bucket := {}
  next : Option Nat := none
  waiting : List Held := []
  lastA : Option Nat := none
  lastB : Option Nat := none
  downA : Bool := false
  downB : Bool := false
  ctr : FlowCounters := {}
  shadow : FlowCounters := {}
  deriving DecidableEq, Repr, Inhabited

/-- The counters of a depacketizer. -/
structure DepackCounters where
  ok : Nat := 0
  holed : Nat := 0
  dropNoBuf : Nat := 0
  markerMissing : Nat := 0
  deriving DecidableEq, Repr, Inhabited

/-- One depacketizer (R453, R454); `stamp` is the TIMESTAMP of the picture that is open or dropped,
and `dropped` that of the last picture dropped, while none has been opened since. -/
structure Depack where
  enabled : Bool := false
  pool : Nat := 0
  sampling : Nat := 0
  width : Nat := 0
  endTimeoutUs : Nat := 0
  state : IngestState := .idle
  stamp : Nat := 0
  dropped : Option Nat := none
  pic : OpenPicture := {}
  opened : Nat := 0
  ctr : DepackCounters := {}
  shadow : DepackCounters := {}
  deriving DecidableEq, Repr, Inhabited

/-- The settings of PTP_PORT_SET. -/
structure PtpCfg where
  enabled : Bool := false
  domain : Nat := 127
  unicast : Bool := false
  logSync : Int := -3
  logAnnounce : Int := -2
  logDelayReq : Int := -3
  annTimeout : Nat := 3
  prio1 : Nat := 0
  prio2 : Nat := 0
  deriving DecidableEq, Repr, Inhabited

/-- A grandmaster as an Announce message gives it, for the best master clock algorithm (R457). -/
structure Announce where
  prio1 : Nat := 0
  clockClass : Nat := 0
  accuracy : Nat := 0
  variance : Nat := 0
  prio2 : Nat := 0
  gm : Nat := 0
  steps : Nat := 0
  source : Nat := 0
  deriving DecidableEq, Repr, Inhabited

/-- The servo of a PTP port (R457): the chosen master, the Sync that awaits its Follow_Up, the Delay_Req in flight, and
the last path delays and offsets in ns. -/
structure PtpPort where
  cfg : PtpCfg := {}
  best : Option Announce := none
  gm : Option Nat := none
  masterIp : Nat := 0
  masterMac : List Byte := []
  txStamp : Option Nat := none
  corr : Int := 0
  syncSeq : Option Nat := none
  syncT2 : Nat := 0
  syncCorr : Int := 0
  t1 : Nat := 0
  t2 : Nat := 0
  reqSeq : Nat := 0
  reqT3 : Option Nat := none
  txSync : Nat := 0
  txAnnounce : Nat := 0
  delays : List Int := []
  offsets : List Int := []
  deriving DecidableEq, Repr, Inhabited

/-- `PTP_STATUS` and the registers beside it. -/
structure PtpStatus where
  port : Nat := 0
  state : Nat := 0
  gmClass : Nat := 0
  ignored : Nat := 0
  offsetNs : Int := 0
  delayNs : Int := 0
  gm : Nat := 0
  deriving DecidableEq, Repr, Inhabited

/-- `RIG_STATUS.STATE`. -/
inductive RigState where
  | off | claiming | backoff | waiting | leader | member | full | identical
  deriving DecidableEq, Repr, Inhabited

/-- The rig link (R459 to R461). `claims` counts the CLAIMs sent in this round; the heard flags belong to the listening
in progress. -/
structure Rig where
  state : RigState := .off
  port : Nat := 0
  rigId : Nat := 0
  priority : Nat := 0
  nonce : Nat := 0
  round : Nat := 0
  claims : Nat := 0
  anyClaim : Bool := false
  lowerClaim : Bool := false
  sameClaim : Bool := false
  alone : Bool := false
  dupSeen : Bool := false
  members : List (Nat × Nat) := []
  count : Nat := 0
  leader : Option (Nat × Nat) := none
  deriving DecidableEq, Repr, Inhabited

/-- The stream engine, PTP and the rig link. -/
structure StreamPart where
  subs : Tab Sub := []
  ports : Tab StPort := []
  flows : Tab RxFlow := []
  depacks : Tab Depack := []
  lastSub : Nat := 0
  lastSubValid : Bool := false
  lastFlow : Nat := 0
  lastFlowValid : Bool := false
  policedAt : Option Nat := none
  noFlowAt : Option Nat := none
  ptp : Tab PtpPort := []
  ptpStatus : PtpStatus := {}
  rig : Rig := {}
  deriving DecidableEq, Repr, Inhabited

end Sys2Proof.Machine
end

