-- ==== Sys2Proof/Machine/Parts/Time.lean ====
section
/-! DEFINITION. State of the timebase, the references, the rasters, the timecode and the synthesizers (R61 to R113). -/
namespace Sys2Proof.Machine
open Sys2Proof

/-- The state of a reference candidate (R67). -/
inductive CandState where
  | absent | qualifying | qualified | lost
  deriving DecidableEq, Repr, Inhabited

/-- A reference candidate (R65); the type is the code of R65. -/
structure Candidate where
  type : Nat := 0
  unit : Nat := 0
  rateNum : Nat := 0
  rateDen : Nat := 0
  state : CandState := .absent
  offsetNs : Int := 0
  deriving DecidableEq, Repr, Inhabited

/-- `TB_STATE.STATE` (R71). -/
inductive TbState where
  | freerun | acquire | locked | hold | stepPending
  deriving DecidableEq, Repr, Inhabited

/-- One entry of the servo history for holdover (R72): when, the rate, and whether a slew was running. -/
structure RateSample where
  at_ : Nat := 0
  ppb : Int := 0
  slewing : Bool := false
  deriving DecidableEq, Repr, Inhabited

/-- A head's slew limits and its place against the timebase (R77, R79, R101); `offsetUppb` is its frequency offset in
10⁻⁶ ppb. -/
structure HeadSlew where
  maxPpb : Nat := 10000
  maxPpbPerS : Nat := 2000
  lag : Bool := false
  stepped : Bool := false
  realignDue : Bool := false
  phaseErrNs : Int := 0
  offsetUppb : Int := 0
  deriving DecidableEq, Repr, Inhabited

/-- The timebase (R61 to R78). Instants are held in units of 2⁻¹⁶ ns; SEC, NS and FRAC are read from them. `errFull` is the
master's error before `TB_ERR_NS` saturates it, and `stepSum` the sum of the steps applied (R78). -/
structure Timebase where
  now : Nat := 0
  stepSum : Int := 0
  residue : Nat := 0
  latched : Nat := 0
  todValid : Bool := false
  cands : List Candidate := []
  master : Option Nat := none
  hadMaster : Bool := false
  lastMaster : Option (Nat × Nat) := none
  state : TbState := .freerun
  errNs : Int := 0
  errFull : Int := 0
  freqPpb : Int := 0
  masterPpb : Int := 0
  slew : Option Int := none
  declined : Bool := false
  stepNs : Int := 0
  stepDue : Option Int := none
  timeSetDue : Option Nat := none
  slewWindow : Nat := 1000000
  slewPpb : Nat := 50000
  qualMs : Nat := 2000
  stepAuto : Bool := false
  history : List RateSample := []
  heads : Tab HeadSlew := []
  replicaErr : Tab Int := []
  onFabric : Bool := true
  deriving DecidableEq, Repr, Inhabited

/-- The settings of the reference raster (R82). -/
structure RefRaster where
  num : Nat := 60000
  den : Nat := 1001
  lines : Nat := 1125
  samples : Nat := 2200
  offsetNs : Int := 0
  deriving DecidableEq, Repr, Inhabited

/-- The settings of the capture raster (R84). -/
structure CapMode where
  drive : Bool := false
  stream : Nat := 0
  latencyNs : Nat := 0
  lines : Nat := 0
  num : Nat := 0
  den : Nat := 1
  deriving DecidableEq, Repr, Inhabited

/-- The capture raster (R84): `markers` are the arrivals of followed markers whose boundaries have yet to begin their
frames, `lastMarker` the newest arrival, `past` the boundaries of earlier frames, newest first. In DRIVE mode the raster stood
`posBase` units of 2⁻³² tick into its frame at the instant `posAt`. -/
structure Capture where
  mode : CapMode := {}
  pending : Option CapMode := none
  frame : Nat := 0
  boundary : Nat := 0
  hasBoundary : Bool := false
  period : Nat := 0
  markers : List Nat := []
  lastMarker : Nat := 0
  past : List (Nat × Nat) := []
  posBase : Nat := 0
  posAt : Nat := 0
  gapRaised : Bool := false
  continuing : Bool := false
  deriving DecidableEq, Repr, Inhabited

/-- A timecode value (R85, R86). -/
structure Timecode where
  hh : Nat := 0
  mm : Nat := 0
  ss : Nat := 0
  ff : Nat := 0
  deriving DecidableEq, Repr, Inhabited

/-- The timecode settings (R85 to R87). -/
structure TcMode where
  mode : Nat := 0
  base : Nat := 4
  drop : Bool := false
  ltcOut : Bool := false
  tc0 : Timecode := {}
  n0 : Int := 0
  userBits : Nat := 0
  todOffset : Int := 0
  deriving DecidableEq, Repr, Inhabited

/-- The timecode generator and its LTC pins; `pendTaken` says that an LTC word has given the pending JAM_ONCE settings their
value (R85), and `ltcFrame` is the reference frame that the newest word labels. -/
structure TcGen where
  mode : TcMode := {}
  pending : Option TcMode := none
  pendTaken : Bool := false
  armed : Bool := false
  ltcValid : Bool := false
  ltcIn : Timecode := {}
  ltcFrame : Int := 0
  current : Timecode := {}
  sub : Nat := 0
  frame : Int := 0
  ltcWord : Timecode := {}
  ltcUser : Nat := 0
  ltcPair : Bool := false
  running : Bool := false
  deriving DecidableEq, Repr, Inhabited

/-- The loop words of a synthesizer (R90), with the exact target frequency in Hz they were derived from (R91); for SYN8 `od`
is DI and `frac` is DF. -/
structure SynWords where
  refMode : Nat := 0
  int : Nat := 0
  frac : Nat := 0
  modw : Nat := 0
  od : Nat := 0
  tnum : Nat := 0
  tden : Nat := 0
  deriving DecidableEq, Repr, Inhabited

/-- `SYN_STATUS.STATE`. -/
inductive SynState where
  | off | acquiring | locked | failed
  deriving DecidableEq, Repr, Inhabited

/-- An entry of the band cache (R106). -/
structure BandEntry where
  refMode : Nat := 0
  vcoMhz : Nat := 0
  band : Nat := 0
  fine : Nat := 0
  temp : Int := 0
  deriving DecidableEq, Repr, Inhabited

/-- The dither and lock settings of SYN_CONFIG (DESIGN CHOICE, log entry 27). -/
structure SynCfg where
  refMode : Nat := 0
  dither : Bool := false
  lockWin : Nat := 20
  lockCnt : Nat := 1024
  seed : Nat := 1
  sdiLead : Option Nat := none
  deriving DecidableEq, Repr, Inhabited

/-- One synthesizer (R90 to R107). The cache lists the least recently used entry first; the dither LFSR was loaded with `lfsr`
before `seedAt` (R93), by when `cycles` units of 2⁻³² cycle had clocked the modulator since; `lockAt` is when lock was last
declared. -/
structure Syn where
  state : SynState := .off
  gated : Bool := true
  cacheHit : Bool := false
  refFault : Bool := false
  band : Nat := 0
  relocks : Nat := 0
  lost : Bool := false
  words : SynWords := {}
  shadow : Option SynWords := none
  cfg : SynCfg := {}
  cfgShadow : Option SynCfg := none
  trim : Int := 0
  offsetPpb : Int := 0
  lockUs : Nat := 0
  attempts : Nat := 0
  searching : Bool := false
  lfsr : Nat := 0
  cycles : Nat := 0
  seedAt : Nat := 0
  lockAt : Nat := 0
  cache : List BandEntry := []
  deriving DecidableEq, Repr, Inhabited

/-- One segment of a ramp profile (R108). -/
structure RampSeg where
  endRate : Nat := 0
  duration : Nat := 0
  deriving DecidableEq, Repr, Inhabited

/-- A ramp that runs (R109): its remaining segments, the rate the present segment began at (in 10⁻⁶ fps, as an
exact fraction) and its time. -/
structure RampRun where
  segs : List RampSeg := []
  startNum : Nat := 0
  startDen : Nat := 1
  tUs : Nat := 0
  deriving DecidableEq, Repr, Inhabited

/-- The ramp generator of SYN8 (R108 to R111), with the capture rate in force in 10⁻⁶ fps as an exact fraction. -/
structure Ramp where
  profile : List RampSeg := []
  startFrame : Option Nat := none
  run : Option RampRun := none
  rateNum : Nat := 0
  rateDen : Nat := 1
  deriving DecidableEq, Repr, Inhabited

/-- Time: timebase, rasters, timecode, synthesizers. -/
structure TimePart where
  tb : Timebase := {}
  ref : RefRaster := {}
  refPending : Option RefRaster := none
  refFrame : Int := 0
  cap : Capture := {}
  tc : TcGen := {}
  syns : Tab Syn := []
  ramp : Ramp := {}
  dieTemp : Int := 0
  deriving DecidableEq, Repr, Inhabited

end Sys2Proof.Machine
end

