-- ==== Sys2Proof/Machine/Parts/Video.lean ====
section
/-! DEFINITION. State of the SDI lanes and the panel ports (R374 to R396). -/
namespace Sys2Proof.Machine
open Sys2Proof

/-- The settings of SDI_LANE_SET. -/
structure LaneSet where
  enabled : Bool := false
  head : Nat := 0
  fmt : Nat := 0
  pid : Bool := false
  atc : Bool := false
  held : Bool := false
  quad : Bool := false
  tcSource : Bool := false
  tcLayer : Nat := 0
  pidOverride : Nat := 0
  deriving DecidableEq, Repr, Inhabited

/-- The counters of an SDI lane. -/
structure SdiCounters where
  frames : Nat := 0
  slips : Nat := 0
  ancEmpty : Nat := 0
  ancDrop : Nat := 0
  deriving DecidableEq, Repr, Inhabited

/-- One line of a 10-bit data stream of an SDI link (R378): its stream within the link, whether it is the C stream, its line
number, and its words from EAV on, as runs (count, word). -/
structure SdiLine where
  stream : Nat := 0
  chroma : Bool := false
  line : Nat := 0
  words : List (Nat × Nat) := []
  deriving DecidableEq, Repr, Inhabited

/-- What of its picture an SDI lane keeps for its structure (R378, R387): the format, the words per line of a stream, those
of its active part, those of one pair of black pixels on each of its two streams, and what its payload identifier is built from. -/
structure SdiGeo where
  fmt : Nat := 0
  words : Nat := 0
  active : Nat := 0
  black : List Nat := []
  blackC : List Nat := []
  key : List Nat := []
  deriving DecidableEq, Repr, Inhabited

/-- One SDI lane. `out` are the lines that it put out last, `crcs` the line CRCs that run on from line to line, `label` the 64 bits of
the timecode of the head frame that began last and what its payload identifier is built from, `pendLabel` the same for the settings that
wait, `atc` the timecode of the frame it sends. `odd` tells which of the two frames that share the two streams of FMT 6 it sends;
`blackFrom` is the instant from which it sends black frames of its own. `anc` holds the host packets for the next SDI frame, as (line, where, words); `sent` is the buffer a
FMT 3 lane sends, with a reference. -/
structure SdiLane where
  cfg : LaneSet := {}
  pending : Option LaneSet := none
  ref : Bool := false
  mismatch : Bool := false
  hadPicture : Bool := false
  picture : Bool := false
  fill : Nat := 0
  slipDue : Bool := false
  slip : Bool := false
  ancEmpty : Bool := false
  ancDrop : Bool := false
  mismatchSeen : Bool := false
  ringCount : Nat := 0
  slotBytes : Nat := 0
  ringFsa : Nat := 0
  prod : Nat := 0
  cons : Nat := 0
  anc : List (Nat × Nat × List Nat) := []
  sent : Option (Nat × Nat) := none
  geo : SdiGeo := {}
  label : Nat × List Nat := (0, [])
  pendLabel : Nat × List Nat := (0, [])
  atc : Nat := 0
  odd : Bool := false
  blackFrom : Option Nat := none
  crcs : Tab Nat := []
  out : List SdiLine := []
  ctr : SdiCounters := {}
  shadow : SdiCounters := {}
  deriving DecidableEq, Repr, Inhabited

/-- The settings of PANEL_PORT_SET. -/
structure PanelCfg where
  head : Nat := 0
  half : Nat := 0
  lanes : Nat := 1
  mode : Nat := 0
  dt : Nat := 0
  eotp : Bool := false
  deskew : Bool := false
  mbps : Nat := 0
  deriving DecidableEq, Repr, Inhabited

/-- `PP_STATUS.STATE` (R393). -/
inductive PanelState where
  | off | init | video | standby
  deriving DecidableEq, Repr, Inhabited

/-- A DCS packet: data type, delay in ms, data (R394). -/
structure DcsPacket where
  dt : Nat := 0
  delay : Nat := 0
  data : List Byte := []
  deriving DecidableEq, Repr, Inhabited

/-- A packet on a DSI link (R389): its data type and its data; `long` tells a long packet. -/
structure DsiPacket where
  dt : Nat := 0
  long : Bool := false
  data : List Byte := []
  deriving DecidableEq, Repr, Inhabited

/-- A line of DSI video (R390, R391): the head line, whether skew calibration precedes it, its packets in HS, and whether the lanes
then hold LP-11. -/
structure DsiLine where
  line : Nat := 0
  skew : Bool := false
  packets : List DsiPacket := []
  lp : Bool := false
  deriving DecidableEq, Repr, Inhabited

/-- One panel port. `resume` is set while it stands by only for its head, `running` while video runs. `queue` is what is left to send
of the shutdown list, `due` the instant from which the next DCS packet can start, and `leaving` is set while the port is to be OFF once its
list has run; `uppb` is the offset of its D-PHY PLL in 10⁻⁶ ppb. `out` are the lines of video
that it put out last, `sent` the DCS packets that it sent last, each with whether it went in HS, and `dcsLine` the vertical blanking
line that the next DCS packet can take. -/
structure Panel where
  state : PanelState := .off
  cfg : PanelCfg := {}
  pending : Option (Nat × PanelCfg) := none
  resume : Bool := false
  running : Bool := false
  leaving : Bool := false
  queue : List DcsPacket := []
  due : Nat := 0
  uppb : Int := 0
  list : List DcsPacket := []
  out : List DsiLine := []
  sent : List (Bool × List Byte) := []
  dcsLine : Nat := 0
  mismatchSeen : Bool := false
  frames : Nat := 0
  dcs : Nat := 0
  fshadow : Nat := 0
  dshadow : Nat := 0
  deriving DecidableEq, Repr, Inhabited

/-- The output formatters. -/
structure VideoPart where
  lanes : Tab SdiLane := []
  panels : Tab Panel := []
  deriving DecidableEq, Repr, Inhabited

end Sys2Proof.Machine
end

