-- ==== Sys2Proof/Machine/State.lean ====
section
/-! DEFINITION. The whole state of the block as plain data, the ways a step can stop, and the state after reset. Every
field's default is its value after reset. -/
namespace Sys2Proof.Machine
open Sys2Proof

/-- The state of the device, with the queue of commands that wait, first in, first out. `free` counts the free values used
so far; it is the model's own and means nothing on the device (DESIGN CHOICE, log entries 9 and 137). -/
structure State where
  ctl : Control := {}
  time : TimePart := {}
  sched : SchedPart := {}
  fs : FsPart := {}
  ledger : LedgerPart := {}
  mac : MacPart := {}
  ingest : IngestPart := {}
  pic : PicPart := {}
  vid : VideoPart := {}
  mag : RecPart := {}
  st : StreamPart := {}
  dma : DmaPart := {}
  ev : EventPart := {}
  power : PowerPart := {}
  sl : Safelight := {}
  rel : RelPart := {}
  boot : BootPart := {}
  host : HostPart := {}
  free : Nat := 0
  pending : List Instr := []
  deriving DecidableEq, Repr, Inhabited

/-- The spec gives every command of the block an outcome after which the block goes on, so no step ends in a fault. -/
inductive Fault where
  deriving DecidableEq, Repr

/-- Why a step has no meaning. -/
inductive Refusal where
  /-- Raised by an arm of exec for a command that has no meaning in the model yet; safe, since the run stops there. -/
  | notModelled (mnemonic : String)
  deriving DecidableEq, Repr

/-- The machine right after reset: every register at its Reset value, nothing in flight, nothing in memory, no command
waiting (DESIGN CHOICE, log entry 23). -/
def State.reset : State := {}

end Sys2Proof.Machine
end

