-- ==== Sys2Proof/Machine/Tab.lean ====
section
/-! DEFINITION. Reading and writing the sparse tables that hold indexed state, and byte and integer helpers. -/
namespace Sys2Proof.Machine
open Sys2Proof

/-- The record a table holds under `k`; an unlisted number holds the default record. -/
def tabGet {α : Type} [Inhabited α] : Tab α → Nat → α
  | [], _ => default
  | e :: t, k => if e.1 = k then e.2 else tabGet t k

/-- Drop every entry with number `k`. -/
def tabDrop {α : Type} : Tab α → Nat → Tab α
  | [], _ => []
  | e :: t, k => if e.1 = k then tabDrop t k else e :: tabDrop t k

/-- Put an entry in front of the first entry with a larger number. -/
def tabInsert {α : Type} (k : Nat) (v : α) : Tab α → Tab α
  | [] => [(k, v)]
  | e :: t => if k < e.1 then (k, v) :: e :: t else e :: tabInsert k v t

/-- Write `v` under `k`, keeping the canonical form: rising numbers, and no entry that holds the default. -/
def tabSet {α : Type} [Inhabited α] [DecidableEq α] (t : Tab α) (k : Nat) (v : α) : Tab α :=
  if v = default then tabDrop t k else tabInsert k v (tabDrop t k)

/-- Replace the record under `k` by `f` of it. -/
def tabMod {α : Type} [Inhabited α] [DecidableEq α] (t : Tab α) (k : Nat) (f : α → α) : Tab α :=
  tabSet t k (f (tabGet t k))

/-- Replace every listed record by `f` of it; `f` keeps the default record. -/
def tabMap {α : Type} [Inhabited α] [DecidableEq α] (t : Tab α) (f : α → α) : Tab α :=
  t.foldl (fun a e => tabMod a e.1 f) t

/-- The numbers of a table's entries rise strictly. -/
def tabSorted {α : Type} : Tab α → Bool
  | [] => true
  | e :: t => (match t with | [] => true | e' :: _ => decide (e.1 < e'.1)) && tabSorted t

/-- The canonical form of a table: rising numbers, no entry equal to what an unlisted number holds. -/
def tabWf {α : Type} [Inhabited α] [DecidableEq α] (t : Tab α) : Bool :=
  tabSorted t && t.all (fun e => decide (e.2 ≠ default))

/-- A memory is in its canonical form: addresses rising strictly, and no byte equal to what an unlisted address reads as. -/
def Memory.wf (m : Tab Byte) : Bool := tabWf m

/-- Clamp an integer to an interval. -/
def clampI (lo hi v : Int) : Int := if v < lo then lo else if hi < v then hi else v

/-- Count up with saturation at `m`. -/
def satAdd (m a b : Nat) : Nat := min m (a + b)

/-- Integer division rounding half up, for a positive divisor. -/
def roundHalfUp (n : Int) (d : Nat) : Int := (2 * n + d) / (2 * d)

/-- Integer division rounding up. -/
def ceilDiv (a b : Nat) : Nat := (a + b - 1) / b

/-- The low `n` bytes of a number, least significant first (R11). -/
def leBytes : Nat → Nat → List Byte
  | 0, _ => []
  | n + 1, v => BitVec.ofNat 8 v :: leBytes n (v / 256)

/-- A number from little-endian bytes (R11). -/
def leNat : List Byte → Nat
  | [] => 0
  | b :: t => b.toNat + 256 * leNat t

/-- A number from big-endian bytes (R11). -/
def beNat (l : List Byte) : Nat := l.foldl (fun a b => 256 * a + b.toNat) 0

/-- The low `n` bytes of a number, most significant first. -/
def beBytes (n v : Nat) : List Byte := (leBytes n v).reverse

/-- A number read as a signed value of `w` bits. -/
def signedOf (w v : Nat) : Int := if v < 2 ^ (w - 1) then (v : Int) else (v : Int) - (2 : Int) ^ w

/-- A signed value as the number of its `w` two's complement bits. -/
def unsignedOf (w : Nat) (v : Int) : Nat := (v % ((2 : Int) ^ w)).toNat

/-- `w` bits of a number from bit `lo`. -/
def bits (v lo w : Nat) : Nat := v / 2 ^ lo % 2 ^ w

/-- One bit of a number. -/
def bit (v k : Nat) : Bool := bits v k 1 = 1

/-- 1 for true, 0 for false. -/
def b2n (b : Bool) : Nat := if b then 1 else 0

/-- Whether some number below `n` satisfies a test. -/
def anyUpTo (n : Nat) (p : Nat → Bool) : Bool := (List.range n).any p

/-- Apply a numbered update for every number below `n`, in rising order. -/
def forUpTo {σ : Type} (n : Nat) (f : Nat → σ → σ) (s : σ) : σ := (List.range n).foldl (fun a i => f i a) s

/-- Apply an update for every element of a list, in order. -/
def forEach {α σ : Type} (l : List α) (f : α → σ → σ) (s : σ) : σ := l.foldl (fun a i => f i a) s

end Sys2Proof.Machine
end

