-- ==== Sys2Proof/Machine/Ops.lean ====
section
/-! DEFINITION. The shared operations: raising events, posting responses, ending waiting commands, the fault log, host
memory, and the small questions that many units ask of the state. -/
namespace Sys2Proof.Machine
open Sys2Proof

/-- How a command stands after its first slice (R42): done with its final status; waiting for a device event; or a
step-cut command that posts ACCEPTED and goes on, or ends in the same slice. -/
inductive CmdRes where
  | final (st : Status) (detail : Nat) (result : List Byte) (s : State)
  | wait (w : WaitFor) (s : State)
  | accept (j : Job) (fin : Option (Status × Nat × List Byte)) (s : State)
  deriving DecidableEq, Repr

/-- Units of 2⁻¹⁶ ns in a second. -/
def secUnits : Nat := 65536000000000
/-- Units of 2⁻¹⁶ ns in a nanosecond. -/
def nsUnits : Nat := 65536

/-- The time that has run, whatever steps have moved the timebase since (R78): elapsed times are differences of it. -/
def runTime (s : State) : Nat := ((s.time.tb.now : Int) - s.time.tb.stepSum).toNat

/-- What units outside the Safelight domain do leaves it as it is (R503, R549). -/
def outsideSafelight (f : State → State) (s : State) : State := { f s with sl := s.sl }

/-- Put one bit into a word of an event view. -/
def setEventBit (n : Nat) (t : Tab Word) : Tab Word := tabMod t (n / 32) (fun w => w ||| (1#32 <<< (n % 32)))

/-- The power domains of the unit that raises a source, of which one is on while the unit is (R486, R489, R503): the
comparators' and a MAC wake detector's is the Safelight domain, which keeps them; a MAC's are the quads of its lanes. -/
def sourceDomains (s : State) (n : Nat) : List Nat :=
  let head := fun (h : Nat) => 15 + h
  if n < 32 then
    (if 8 ≤ n ∧ n < 16 then [head (n - 8)] else if n = 16 ∨ n = 17 ∨ n = 20 ∨ n = 21 then [4]
     else if n = 18 ∨ n = 19 ∨ n = 27 then [28] else if n = 28 then [29] else [1])
  else if n < 96 then [4]
  else if n < 224 then (if n % 16 = 1 then [1] else [head ((n - 96) / 16)])
  else if n < 352 then [27]
  else if n < 416 then [head ((n - 352) / 8)]
  else if n < 544 then
    let k := (tabGet s.mac.macs ((n - 416) / 8)).cfg
    if n % 8 = 5 then [0] else (List.range (max 1 k.width)).map (fun i => 5 + (k.first + i) / 4)
  else if n < 672 then [30]
  else if n < 800 then [31]
  else if n < 896 then [11, 12, 13, 14]
  else if n < 928 then [2]
  else if n < 960 then [1]
  else if n < 976 then [2]
  else if n < 984 then [0]
  else if n < 992 then [4]
  else [2]

/-- The unit that raises a source is powered (R489). -/
def unitOn (s : State) (n : Nat) : Bool := (sourceDomains s n).any (fun d => decide ((tabGet s.power.doms d).level = .on))

/-- A source number that its chapter lists as reserved, and 1023, which no unit raises (R486). -/
def sourceReserved (n : Nat) : Bool :=
  decide (n = 31) || (decide (65 ≤ n) && decide (n < 96)) || (decide (96 ≤ n) && decide (n < 224) && decide (8 ≤ n % 16) && decide (n % 16 < 14)) ||
  (decide (352 ≤ n) && decide (n < 416) && decide (3 ≤ n % 8)) || (decide (577 ≤ n) && decide (n < 608)) || (decide (642 ≤ n) && decide (n < 672)) ||
  (decide (719 ≤ n) && decide (n < 800)) || (decide (877 ≤ n) && decide (n < 896)) || (decide (902 ≤ n) && decide (n < 928)) ||
  decide (n = 982) || decide (n = 983) || decide (n = 990) || decide (n = 991) || decide (998 ≤ n)

/-- Raise a source (R487): its pending bit is set in both views, or kept for the wake while the event unit is held in
retention (R502). A unit whose domain is not on raises nothing (R489). -/
def raise (n : Nat) (s : State) : State :=
  if !unitOn s n then s
  else if s.ev.retention then { s with ev.recorded := s.ev.recorded ++ [n] }
  else { s with ev.pend := setEventBit n s.ev.pend, ev.evcPend := setEventBit n s.ev.evcPend }

/-- Mailbox `n`. -/
def mbAt (s : State) (n : Nat) : Mailbox := tabGet s.ctl.mbs n
/-- Change mailbox `n`. -/
def modMb (n : Nat) (f : Mailbox → Mailbox) (s : State) : State := { s with ctl.mbs := tabMod s.ctl.mbs n f }

/-- Post a response (R39): the entry, the tail count, the event. -/
def postResp (n : Nat) (r : Resp) (s : State) : State :=
  raise (928 + 2 * n) (modMb n (fun m => { m with
    rspRing := tabSet m.rspRing (m.rspTail % 64) r, rspTail := (m.rspTail + 1) % 65536 }) s)

/-- The mark of a refusal or failure whose DETAIL the command's chapter does not state: above every DETAIL of 32 bits. -/
def unstated : Nat := 2 ^ 32

/-- The response of a command with a status (R35, R53); an unstated DETAIL is a free value (R595). -/
def respOf (c : Cmd) (st : Status) (fin : Bool) (detail progress : Nat) (result : List Byte) : Resp :=
  { opcode := c.opcode, ticket := c.ticket, status := st, final := fin, restarted := c.restarted, seq := c.seq,
    detail := if detail = unstated then Config.freeDetail c.opcode c.mb c.seq % 2 ^ 32 else detail, progress := progress, result := result }

/-- The opcodes of commands that change configuration in force, rather than a shadow (R542) (DEDUCED, log entry 30). -/
def configOpcodes : List Nat :=
  [0x0201, 0x0202, 0x0203, 0x0204, 0x0205, 0x0206, 0x0207, 0x0208, 0x0209, 0x020B, 0x0301, 0x0303, 0x0304, 0x0402, 0x0405, 0x0410,
   0x0411, 0x0501, 0x0602, 0x0615, 0x0620, 0x0622, 0x0623, 0x0630, 0x0701, 0x070A, 0x070B, 0x0901, 0x0902, 0x0903] ++
  [0x0A01, 0x0A10, 0x0A11, 0x0B01, 0x0B02, 0x0B03, 0x0B04, 0x0B05, 0x0B07, 0x0B10, 0x0B11, 0x0B13, 0x0B14, 0x0B18, 0x0B19, 0x0C01,
   0x0D01]

/-- The configuration epoch rises by 1, skipping 0 (R542). -/
def bumpEpoch (s : State) : State :=
  { s with rel.epoch := if s.rel.epoch + 1 < 2 ^ 32 then s.rel.epoch + 1 else 1 }

/-- Post the final status of a command, unless a mailbox reset has detached it (R49); OK of a command that changes
configuration in force moves the epoch on (R542). -/
def postFinal (c : Cmd) (st : Status) (detail : Nat) (result : List Byte) (s : State) : State :=
  let s1 := if st = .ok ∧ configOpcodes.contains c.opcode then bumpEpoch s else s
  if c.detached then s1 else postResp c.mb (respOf c st true detail 0 result) s1

/-- Put a taken command among the commands in flight (DESIGN CHOICE, log entry 155). -/
def addCmd (c : Cmd) (s : State) : State :=
  { s with ctl.inflight := s.ctl.inflight ++ [{ c with uid := s.ctl.nextUid }], ctl.nextUid := s.ctl.nextUid + 1 }

/-- Take one command out of those in flight. -/
def dropCmd (c : Cmd) (s : State) : State := { s with ctl.inflight := s.ctl.inflight.filter (fun x => decide (x.uid ≠ c.uid)) }

/-- Change one command in flight. -/
def modCmd (c : Cmd) (f : Cmd → Cmd) (s : State) : State :=
  { s with ctl.inflight := s.ctl.inflight.map (fun x => if x.uid = c.uid then f x else x) }

/-- The Onyx pair executes (R51). -/
def firmwareRunning (s : State) : Bool := decide (s.ctl.pair = .running)

/-- End every command in flight that meets a test with a final status; during a restart it is posted afterwards (R53,
R55). -/
def finishCmds (p : Cmd → Bool) (st : Status) (detail : Nat) (result : List Byte) (s : State) : State :=
  let l := s.ctl.inflight.filter p
  if l.isEmpty then s
  else if firmwareRunning s then
    forEach l (fun c => postFinal c st detail result) { s with ctl.inflight := s.ctl.inflight.filter (fun c => !p c) }
  else
    { s with ctl.inflight := s.ctl.inflight.map (fun c => if p c then { c with phase := .ended st detail result } else c) }

/-- End every command that waits for `w`. -/
def finishWait (w : WaitFor) (st : Status) (detail : Nat) (result : List Byte) (s : State) : State :=
  finishCmds (fun c => decide (c.phase = .waiting w)) st detail result s

/-- Some command waits for `w`. -/
def waits (s : State) (w : WaitFor) : Bool := s.ctl.inflight.any (fun c => decide (c.phase = .waiting w))

/-- The open jobs of step-cut commands. -/
def openJobs (s : State) : List Job :=
  s.ctl.inflight.filterMap (fun c => match c.phase with
    | .stepping j => some j
    | _ => none)

/-- Some step-cut command is open (R508). -/
def anyStepCut (s : State) : Bool := !(openJobs s).isEmpty

/-- Write a fault record (R547): the 256 newest are kept; event 23, and 997 for one written over unread. -/
def logFault (kind unit detail : Nat) (s : State) : State :=
  let r : FaultRec := { sec := s.time.tb.now / secUnits, ns := s.time.tb.now % secUnits / nsUnits, kind := kind, unit := unit, detail := detail }
  if s.rel.log.length < 256 then raise 23 { s with rel.log := s.rel.log ++ [r] }
  else raise 23 (raise 997 { s with rel.log := s.rel.log.drop 1 ++ [r], rel.lost := satAdd 65535 s.rel.lost 1 })

/-- Charge the present frame of an output with a fault kind, at most once a frame (R534, R536) (DEDUCED, log entry 108). -/
def chargeFrame (o kind : Nat) (s : State) : State :=
  let x := tabGet s.rel.outputs o
  { s with rel.outputs := tabSet s.rel.outputs o { x with
      ctr := if x.chargedFrame then x.ctr else { x.ctr with faultFrames := (x.ctr.faultFrames + 1) % 2 ^ 32 },
      chargedFrame := true, chargedTick := true, lastKind := kind, lastValid := true } }

/-- An output that was enabled counts as enabled in the tick in progress (R534). -/
def outputStops (o : Nat) (s : State) : State := { s with rel.outputs := tabMod s.rel.outputs o (fun x => { x with enabledTick := true }) }

/-- A unit was loaded again outside a commit (R543, R544): counted, with event 30. -/
def countReload (s : State) : State := raise 30 { s with rel.reloads := (s.rel.reloads + 1) % 2 ^ 32 }

/-- The host has loaded a table again (R536 kind 11), by its code of R547 and its unit. -/
def tableReloaded (code unit : Nat) (s : State) : State :=
  { s with rel.badTables := s.rel.badTables.filter (fun e => !(decide (e.1 = code) && (decide (code = 4) || decide (e.2 = unit)))) }

/-- Head `h`. -/
def hdAt (s : State) (h : Nat) : Head := tabGet s.pic.heads h
/-- Change head `h`. -/
def modHd (h : Nat) (f : Head → Head) (s : State) : State := { s with pic.heads := tabMod s.pic.heads h f }
/-- Layer `l`. -/
def layAt (s : State) (l : Nat) : Layer := tabGet s.pic.layers l
/-- Change layer `l`. -/
def modLay (l : Nat) (f : Layer → Layer) (s : State) : State := { s with pic.layers := tabMod s.pic.layers l f }
/-- 3D LUT unit `u`. -/
def lutAt (s : State) (u : Nat) : LutUnit := tabGet s.pic.luts u
/-- Change 3D LUT unit `u`. -/
def modLut (u : Nat) (f : LutUnit → LutUnit) (s : State) : State := { s with pic.luts := tabMod s.pic.luts u f }

/-- Whether a head's raster runs. -/
def headEnabled (s : State) (h : Nat) : Bool := (hdAt s h).enabled
/-- Whether any head's raster runs. -/
def anyHeadEnabled (s : State) : Bool := anyUpTo 8 (headEnabled s)
/-- The pair of a head is locked (R318). -/
def pairLocked (s : State) (h : Nat) : Bool := (hdAt s (h / 2 * 2)).pair
/-- The heads that move with a head: itself, or both of its locked pair. -/
def pairOf (s : State) (h : Nat) : List Nat := if pairLocked s h then [h / 2 * 2, h / 2 * 2 + 1] else [h]
/-- The head that holds the settings: itself, or the lower of its locked pair. -/
def lowerOf (s : State) (h : Nat) : Nat := if pairLocked s h then h / 2 * 2 else h
/-- The upper head of a locked pair. -/
def isUpperOfPair (s : State) (h : Nat) : Bool := pairLocked s h && decide (h % 2 = 1)

/-- HTOTAL of a raster (R310). -/
def hTotal (t : Timing) : Nat := t.hact + t.hfp + t.hsync + t.hbp
/-- VTOTAL of a raster (R310). -/
def vTotal (t : Timing) : Nat := t.vact + t.vfp + t.vsync + t.vbp
/-- The timing in force on a head; a locked pair's is the lower head's. -/
def timingOf (s : State) (h : Nat) : Timing := (hdAt s (lowerOf s h)).cfg.timing
/-- The lines and the samples per line of a head's raster. -/
def headTotals (s : State) (h : Nat) : Nat × Nat := (vTotal (timingOf s h), hTotal (timingOf s h))
/-- The head frame number (R314). -/
def headFrame (s : State) (h : Nat) : Int := (hdAt s (lowerOf s h)).frame

/-- The frame rate of a timing as a fraction (R312). -/
def frameRate (s : State) (t : Timing) : Nat × Nat := (s.time.ref.num * t.p, s.time.ref.den * t.q)
/-- Fold a phase error in ns into (−P/2, P/2] for the exact period P of `den / num` seconds (R66); where P is no whole number
of ns the folded error is rounded half up to one (DESIGN CHOICE, log entry 160). -/
def foldError (e : Int) (num den : Nat) : Int :=
  if num = 0 ∨ den = 0 then e else
    let p : Int := (den * 1000000000 : Nat)
    let r := e * (num : Nat) % p
    roundHalfUp (if 2 * r ≤ p then r else r - p) num

/-- Synthesizer `k`. -/
def synAt (s : State) (k : Nat) : Syn := tabGet s.time.syns k
/-- The synthesizers that move together (R98). -/
def synPairOf (s : State) (k : Nat) : List Nat := if k < 8 then pairOf s k else [k]
/-- SDI lane `n`. -/
def sdiAt (s : State) (n : Nat) : SdiLane := tabGet s.vid.lanes n
/-- Change SDI lane `n`. -/
def modSdi (n : Nat) (f : SdiLane → SdiLane) (s : State) : State := { s with vid.lanes := tabMod s.vid.lanes n f }
/-- An enabled SDI lane serializes from synthesizer `k` (R379). -/
def sdiUses (s : State) (k n : Nat) : Bool := (sdiAt s n).cfg.enabled && ((sdiAt s n).ref == decide (k = 11))

/-- A synthesizer clocks an output that runs (R89). -/
def synInUse (s : State) (k : Nat) : Bool :=
  if k < 8 then headEnabled s k
  else if k = 8 then s.time.cap.mode.drive
  else if k = 9 then true
  else anyUpTo 8 (sdiUses s k)

/-- The heads whose frames a gated synthesizer holds or leaves unsent (R536 kinds 2 and 3). -/
def synHeads (s : State) (k : Nat) : List Nat :=
  if k < 8 then (if headEnabled s k then [k] else [])
  else if k < 10 then []
  else (List.range 8).filter (fun h => anyUpTo 8 (fun n => sdiUses s k n && decide ((sdiAt s n).cfg.head = h) && headEnabled s h))

/-- A synthesizer lost lock (R536 kind 2): the record and the charge. -/
def synLossFault (k : Nat) (s : State) : State := forEach (synHeads s k) (fun h => chargeFrame h 2) (logFault 2 k (synAt s k).relocks s)

/-- A synthesizer entered FAILED (R97, R536 kind 3, R539): event 996, and a recovery that waits for it has failed. -/
def synFailedFault (k : Nat) (s : State) : State :=
  finishWait (.faultRecover k) .internal 1 []
    (raise 996 (forEach (synHeads s k) (fun h => chargeFrame h 3) (logFault 3 k (synAt s k).relocks s)))

/-- An open SYN_CACHE_FILL holds synthesizer `k` (R106) (DESIGN CHOICE, log entry 157). -/
def synHeld (s : State) (k : Nat) : Bool :=
  (openJobs s).any (fun j => match j with
    | .cacheFill u _ _ => decide (u = k)
    | _ => false)

/-- The whole number of reference frames that have started at an instant (R82). -/
def refFrameAt (r : RefRaster) (now : Nat) : Int :=
  if r.den = 0 then 0 else (((now : Int) - r.offsetNs * (nsUnits : Nat)) * (r.num : Nat)) / (r.den * secUnits : Nat)

/-- Hold the value a read returns. -/
def setRead (v : Nat) (s : State) : State := { s with host.readData := v }

/-- Write bytes to host memory (posted). -/
def hostPoke (a : Nat) (b : List Byte) (s : State) : State :=
  { s with host.mem := (b.foldl (fun (acc : Nat × Tab Byte) x => (acc.1 + 1, tabSet acc.2 acc.1 x)) ((a, s.host.mem) : Nat × Tab Byte)).2 }

/-- The device can reach host memory: the link is up, the function is a bus master and not in D3hot (R582). -/
def hostReachable (s : State) : Bool := s.host.linkUp && s.host.busMaster && !s.host.d3hot

/-- Write bytes to host memory, or none where the host interface cannot. -/
def hostWrite (a : Nat) (b : List Byte) (s : State) : Option State := if hostReachable s then some (hostPoke a b s) else none

/-- Read bytes of host memory, or none where the read fails (DESIGN CHOICE, log entry 21). -/
def hostRead (a n : Nat) (s : State) : Option (List Byte) :=
  if hostReachable s then some ((List.range n).map (fun i => tabGet s.host.mem (a + i))) else none

/-- A write without effect is reported (R545): source, offset and value latched, counted, event 22. -/
def lockedWrite (off src v : Nat) (s : State) : State :=
  raise 22 { s with rel.lockedOff := off, rel.lockedSrc := src, rel.lockedVal := v % 2 ^ 32, rel.lockedValid := true, rel.lockedCount := (s.rel.lockedCount + 1) % 2 ^ 32 }

end Sys2Proof.Machine
end

