-- ==== Sys2Proof/Machine/Act.lean ====
section
/-! DEFINITION. How a row answers: every row has a next state, and no row touches the queue of commands that wait. -/
namespace Sys2Proof.Machine
open Sys2Proof

/-- A row whose effect is `f` (DESIGN CHOICE, log entry 8). -/
def act (f : State → State) (s : State) : Host.Outcome State Fault Refusal := .next { f s with pending := s.pending }

/-- A row whose effect is `f` and that leaves the Safelight domain as it is (R503). -/
def actOutside (f : State → State) (s : State) : Host.Outcome State Fault Refusal := act (outsideSafelight f) s

end Sys2Proof.Machine
end

