-- ==== Sys2Proof/Machine/Crypto.lean ====
section
/-! DEFINITION. SHA-384 and the verification of ECDSA P-384 signatures, which R555 and R556 name (PRESUMED: the standards
FIPS 180-4 and FIPS 186-4, which the spec does not restate). -/
namespace Sys2Proof.Machine
open Sys2Proof

/-- The first `n` primes. -/
def firstPrimes (n : Nat) : List Nat :=
  ((List.range 410).filter (fun p => decide (2 ≤ p) && (List.range p).all (fun d => decide (d < 2) || decide (p % d ≠ 0)))).take n

/-- The first 64 fraction bits of the `k`-th root of `p`: the largest `r` with `r ^ k ≤ p · 2 ^ (64 k)`, found bit by bit, without
its whole part. -/
def rootFraction (k p : Nat) : Nat :=
  (List.range 72).foldl (fun r i => let c := r + 2 ^ (71 - i); if c ^ k ≤ p * 2 ^ (64 * k) then c else r) 0 % 2 ^ 64

/-- The round constants of SHA-384 (FIPS 180-4): from the cube roots of the first 80 primes. -/
def shaK : List Nat := (firstPrimes 80).map (rootFraction 3)

/-- The initial hash value of SHA-384 (FIPS 180-4): from the square roots of the ninth to the sixteenth prime. -/
def shaInit : List (BitVec 64) := ((firstPrimes 16).drop 8).map (fun p => BitVec.ofNat 64 (rootFraction 2 p))

/-- Rotate right. -/
def ror64 (n : Nat) (x : BitVec 64) : BitVec 64 := (x >>> n) ||| (x <<< (64 - n))

/-- The message schedule, extended by `n` words; `w` holds the words so far, the newest first. -/
def shaSchedule : Nat → List (BitVec 64) → List (BitVec 64)
  | 0, w => w
  | n + 1, w =>
    let at_ := fun i => w.getD (i - 1) 0
    let s0 := ror64 1 (at_ 15) ^^^ ror64 8 (at_ 15) ^^^ (at_ 15 >>> 7)
    let s1 := ror64 19 (at_ 2) ^^^ ror64 61 (at_ 2) ^^^ (at_ 2 >>> 6)
    shaSchedule n ((at_ 16 + s0 + at_ 7 + s1) :: w)

/-- The exclusive or of rotations of a word by three amounts. -/
def rotMix (n : Nat × Nat × Nat) (x : BitVec 64) : BitVec 64 := ror64 n.1 x ^^^ ror64 n.2.1 x ^^^ ror64 n.2.2 x

/-- The compression as two registers of four words, newest first, each shifted by one word a round: `top` holds FIPS 180-4's a to d,
`low` its e to h. A round puts into `low` the oldest word of `top` plus the round's sum, and into `top` that sum plus the mix and
the majority of `top`'s three newest words. -/
def shaShift (top low : List (BitVec 64)) : List (BitVec 64) → List (BitVec 64) × List (BitVec 64)
  | [] => (top, low)
  | kw :: rest =>
    let u := fun i => top.getD i 0
    let v := fun i => low.getD i 0
    let chosen := v 2 ^^^ (v 0 &&& (v 1 ^^^ v 2))
    let most := (u 0 &&& (u 1 ||| u 2)) ||| (u 1 &&& u 2)
    let sum := kw + v 3 + chosen + rotMix (14, 18, 41) (v 0)
    shaShift ((most + rotMix (28, 34, 39) (u 0) + sum) :: top.take 3) ((u 3 + sum) :: low.take 3) rest

/-- One block of 128 bytes: the 80 words of the schedule with their constants shifted through the hash, and the result added. -/
def shaBlock (h : List (BitVec 64)) (b : List Byte) : List (BitVec 64) :=
  let w := (List.range 16).map (fun i => BitVec.ofNat 64 (beNat ((b.drop (8 * i)).take 8)))
  let keyed := (shaK.zip (shaSchedule 64 w.reverse).reverse).map (fun x => BitVec.ofNat 64 x.1 + x.2)
  let r := shaShift (h.take 4) (h.drop 4) keyed
  h.zipWith (· + ·) (r.1 ++ r.2)

/-- The padded message. -/
def shaPad (l : List Byte) : List Byte :=
  l ++ [0x80#8] ++ List.replicate ((239 - l.length % 128) % 128) 0 ++ beBytes 16 (8 * l.length)

/-- `n` blocks in order. -/
def shaBlocks : Nat → List Byte → List (BitVec 64) → List (BitVec 64)
  | 0, _, h => h
  | n + 1, l, h => shaBlocks n (l.drop 128) (shaBlock h (l.take 128))

/-- SHA-384 (R555) (PRESUMED, log entry 131). -/
def sha384 (l : List Byte) : List Byte :=
  let p := shaPad l
  ((shaBlocks (p.length / 128) p shaInit).take 6).flatMap (fun w => beBytes 8 w.toNat)

/-- The field prime of P-384. -/
def p384 : Nat := 2 ^ 384 - 2 ^ 128 - 2 ^ 96 + 2 ^ 32 - 1
/-- The order of the base point of P-384. -/
def n384 : Nat := 0xffffffffffffffffffffffffffffffffffffffffffffffffc7634d81f4372ddf581a0db248b0a77aecec196accc52973
/-- The constant of the curve y² = x³ − 3x + b. -/
def b384 : Nat := 0xb3312fa7e23ee7e4988e056be3f82d19181d9c6efe8141120314088f5013875ac656398d8a2ed19d2a85c8edd3ec2aef
/-- The base point of P-384. -/
def g384 : Nat × Nat :=
  (0xaa87ca22be8b05378eb1c71ef320ad746e1d3b628ba79b9859f741e082542a385502f25dbf55296c3a545e3872760ab7,
   0x3617de4a96262c6f5d9e98bf9292dc29f8f41dbd289a147ce9da3113b5f0b8c00a60b1ce1d7e819d7a431d7c90ea0e5f)

/-- A power modulo `m`; `n` bounds the bits of the exponent. -/
def powMod (m : Nat) : Nat → Nat → Nat → Nat
  | 0, _, _ => 1
  | n + 1, b, e => if e % 2 = 1 then b * powMod m n (b * b % m) (e / 2) % m else powMod m n (b * b % m) (e / 2)

/-- The inverse modulo a prime. -/
def invMod (m a : Nat) : Nat := powMod m 384 (a % m) (m - 2)

/-- A point of the curve; none is the point at infinity. -/
abbrev EcPoint := Option (Nat × Nat)

/-- The sum of two points. -/
def ecAdd (p q : EcPoint) : EcPoint :=
  match p, q with
  | none, _ => q
  | _, none => p
  | some (x1, y1), some (x2, y2) =>
    let m := p384
    if x1 = x2 ∧ (y1 + y2) % m = 0 then none
    else
      let l := if x1 = x2 then (3 * x1 * x1 + m - 3) * invMod m (2 * y1) % m
        else (y2 + m - y1) * invMod m (x2 + m - x1) % m
      let x := (l * l + 2 * m - x1 - x2) % m
      some (x, (l * (x1 + m - x) + m - y1) % m)

/-- A multiple of a point; `n` bounds the bits of the factor. -/
def ecMul : Nat → Nat → EcPoint → EcPoint
  | 0, _, _ => none
  | n + 1, k, p => let r := ecMul n (k / 2) (ecAdd p p); if k % 2 = 1 then ecAdd p r else r

/-- A key is a point of the curve. -/
def onCurve (x y : Nat) : Bool :=
  decide (x < p384) && decide (y < p384) && decide (y * y % p384 = (x * x * x + (p384 - 3) * x + b384) % p384)

/-- ECDSA P-384 verification of a hash (R555, R556). -/
def ecdsaValid (pub sig hash : List Byte) : Bool :=
  let x := beNat (pub.take 48)
  let y := beNat (pub.drop 48)
  let r := beNat (sig.take 48)
  let s := beNat (sig.drop 48)
  let w := invMod n384 s
  let u1 := beNat hash * w % n384
  let u2 := r * w % n384
  onCurve x y && decide (0 < r) && decide (r < n384) && decide (0 < s) && decide (s < n384) &&
    (match ecAdd (ecMul 384 u1 (some g384)) (ecMul 384 u2 (some (x, y))) with
     | some (a, _) => decide (a % n384 = r)
     | none => false)

end Sys2Proof.Machine
end

