-- ==== Sys2Proof/Machine/Operands.lean ====
section
/-! DEFINITION. The operand forms of commands: fields of a payload, and the checks of R602 in their order. -/
namespace Sys2Proof.Machine
open Sys2Proof

/-- The payload byte at an offset (R32); beyond the payload in hand it is 0. -/
def Cmd.byte (c : Cmd) (o : Nat) : Byte := c.params.getD o 0

/-- `n` payload bytes from an offset. -/
def Cmd.bytes (c : Cmd) (o n : Nat) : List Byte := (List.range n).map (fun i => c.byte (o + i))

/-- The unsigned little-endian field of `n` bytes at an offset (R11). -/
def Cmd.un (c : Cmd) (o n : Nat) : Nat := leNat (c.bytes o n)

/-- The 1-byte field at an offset. -/
def Cmd.u8 (c : Cmd) (o : Nat) : Nat := (c.byte o).toNat
/-- The 2-byte field at an offset. -/
def Cmd.u16 (c : Cmd) (o : Nat) : Nat := c.un o 2
/-- The 4-byte field at an offset. -/
def Cmd.u32 (c : Cmd) (o : Nat) : Nat := c.un o 4
/-- The 8-byte field at an offset. -/
def Cmd.u64 (c : Cmd) (o : Nat) : Nat := c.un o 8
/-- The signed 4-byte field at an offset. -/
def Cmd.i32 (c : Cmd) (o : Nat) : Int := signedOf 32 (c.un o 4)
/-- The signed 2-byte field at an offset. -/
def Cmd.i16 (c : Cmd) (o : Nat) : Int := signedOf 16 (c.un o 2)

/-- A check of R602: when it holds, the final status and its DETAIL. -/
abbrev Check := Bool × Status × Nat

/-- LENGTH shorter than the parameter table needs (R34 order 7). -/
def tooShort (c : Cmd) (n : Nat) : Check := (decide (c.length < n), .rejRange, unstated)
/-- `n` reserved payload bytes from an offset are not all 0 (R598). -/
def rsv (c : Cmd) (o n : Nat) : Check := ((c.bytes o n).any (fun b => decide (b ≠ 0)), .rejRange, 0xFFFF0002)
/-- A reserved bit is set (R598). -/
def rsvIf (b : Bool) : Check := (b, .rejRange, 0xFFFF0002)
/-- A parameter value is out of range (R602 order 3); the chapter states no DETAIL. -/
def bad (b : Bool) : Check := (b, .rejRange, unstated)
/-- A parameter value is out of range, with a DETAIL. -/
def badD (b : Bool) (d : Nat) : Check := (b, .rejRange, d)
/-- A locked setting would change (R602 order 4). -/
def lockedIf (b : Bool) (off : Nat) : Check := (b, .rejLocked, off)
/-- Another owner holds the object (R602 order 5). -/
def ownerIf (b : Bool) (d : Nat) : Check := (b, .rejOwner, d)
/-- The device or object is not in a state that allows the command (R602 order 6). -/
def stateIf (b : Bool) (d : Nat) : Check := (b, .rejState, d)
/-- An object is held, or the fill has not come far enough (R602 order 7). -/
def busyIf (b : Bool) (d : Nat) : Check := (b, .busy, d)
/-- Admission fails (R602 order 8). -/
def admissionIf (b : Bool) (d : Nat) : Check := (b, .rejAdmission, d)
/-- The governor refuses leave (R602 order 9). -/
def powerIf (b : Bool) (d : Nat) : Check := (b, .deniedPower, d)

/-- Make the checks in order: the first that holds ends the command with no change of state (R20, R602) (DEDUCED, log entry 29). -/
def checks (s : State) (l : List Check) (k : CmdRes) : CmdRes :=
  match l.find? (fun x => x.1) with
  | some (_, st, d) => .final st d [] s
  | none => k

/-- The command is done: OK with no RESULT. -/
def done (s : State) : CmdRes := .final .ok 0 [] s

/-- The command is done: OK with a RESULT. -/
def doneWith (r : List Byte) (s : State) : CmdRes := .final .ok 0 r s

end Sys2Proof.Machine
end

