-- ==== Sys2Proof/Machine/Events.lean ====
section
/-! DEFINITION. The event unit: command 0x0304, messages, the Onyx view and the EVI pins (R486 to R502). -/
namespace Sys2Proof.Machine
open Sys2Proof

/-- Change the event unit. -/
def modEv (f : EventPart → EventPart) (s : State) : State := { s with ev := f s.ev }
/-- Pin EVIn. -/
def eviAt (s : State) (n : Nat) : EviPin := tabGet s.ev.pins n

/-- EVI_CONFIG (R491, R493): the recognized level becomes the pin's level under the new settings, without an edge. -/
def cmdEviConfig (c : Cmd) (s : State) : CmdRes :=
  checks s [tooShort c 4, rsvIf (decide (1 < c.u8 3)), bad (decide (15 < c.u8 0)), bad (decide (3 < c.u8 1)), bad (decide (c.u8 2 = 0))]
    (done (modEv (fun e => { e with pins := tabMod e.pins (c.u8 0) (fun p => { p with
      edge := c.u8 1, filt := c.u8 2, invert := bit (c.u8 3) 0, level := Bool.xor p.ball (bit (c.u8 3) 0) }) }) s))

/-- `EVT_SUM` bit g (R494). -/
def evtSum (s : State) (g : Nat) : Bool := decide (tabGet s.ev.pend g &&& tabGet s.ev.en g ≠ 0#32)

/-- One group's bit of a group word. -/
def groupBit (g : Nat) : Word := 1#32 <<< g

/-- A group may send its message now (R495). -/
def canSend (s : State) (g : Nat) : Bool :=
  decide (s.ev.armed &&& groupBit g ≠ 0#32) && evtSum s g && decide (s.ev.running &&& groupBit g = 0#32) &&
    s.host.msixEnable && s.host.busMaster && s.host.linkUp && !s.ev.retention

/-- Deliver the message of a group: a posted write of its data, or its pending bit while it is masked (R495, R589). -/
def deliver (g : Nat) (s : State) : State :=
  let e := tabGet s.ev.table g
  if e.masked ∨ s.host.functionMask then modEv (fun v => { v with pba := v.pba ||| groupBit g }) s
  else modEv (fun v => { v with pba := v.pba &&& ~~~ groupBit g }) (hostPoke e.addr (leBytes 4 e.data) s)

/-- MSI_X_SEND (R495): ARMED is cleared, the hold-off starts and the message is counted. -/
def msixSend (g : Nat) (s : State) : State :=
  if canSend s g then
    deliver g (modEv (fun e => { e with
      armed := e.armed &&& ~~~ groupBit g,
      running := if tabGet e.holdoff g = 0 then e.running else e.running ||| groupBit g,
      msgs := tabMod e.msgs g (fun n => (n + 1) % 2 ^ 32) }) s)
  else s

/-- EVT_REARM_WRITE (R496). -/
def evtRearm (v : Word) (s : State) : State := modEv (fun e => { e with armed := e.armed ||| v }) s

/-- EVT_HOLDOFF_WRITE (R497): a running timer of the group ends, and the new value applies from the next message. -/
def evtHoldoff (g : Nat) (v : Nat) (s : State) : State :=
  modEv (fun e => { e with holdoff := tabSet e.holdoff g (v % 65536), running := e.running &&& ~~~ groupBit g }) s

/-- HOLDOFF_EXPIRY (R497). -/
def holdoffExpiry (g : Nat) (s : State) : State := modEv (fun e => { e with running := e.running &&& ~~~ groupBit g }) s

/-- The bit of a source within its group's word (R486). -/
def sourceBit (n : Nat) : Word := 1#32 <<< (n % 32)

/-- The lowest enabled pending number of the Onyx view (R498). -/
def lowestClaim (s : State) : Option Nat :=
  (List.range 1023).find? (fun n => decide (tabGet s.ev.evcPend (n / 32) &&& tabGet s.ev.evcEn (n / 32) &&& sourceBit n ≠ 0#32))

/-- EVC_CLAIM_READ (R498, R499); `claim` holds what the read returns. -/
def evcClaim (s : State) : State :=
  match s.ev.inService, lowestClaim s with
  | none, some n => modEv (fun e => { e with
      inService := some n, claim := n, evcPend := tabMod e.evcPend (n / 32) (fun w => w &&& ~~~ sourceBit n) }) s
  | _, _ => modEv (fun e => { e with claim := 1023, spurious := satAdd 65535 e.spurious 1 }) s

/-- EVC_COMPLETE_WRITE (R498). -/
def evcComplete (n : Nat) (s : State) : State :=
  if s.ev.inService = some n then modEv (fun e => { e with inService := none }) s
  else modEv (fun e => { e with completeErr := true }) s

/-- EVI_EDGE (R491, R492): the recognized level changes; the timestamp is the instant of the first sample of the run. While the
unit is in retention the ball changes and no edge is recognized (R501). -/
def eviEdge (n instant : Nat) (s : State) : State :=
  let p := eviAt s n
  if s.ev.retention then modEv (fun e => { e with pins := tabSet e.pins n { p with ball := !p.ball } }) s else
  let up := !p.level
  let s1 := modEv (fun e => { e with pins := tabSet e.pins n { p with
    level := up, ball := Bool.xor up p.invert, count := (p.count + 1) % 65536,
    sec := instant / secUnits % 2 ^ 48, ns := instant % secUnits / nsUnits } }) s
  if p.edge = 3 ∨ (p.edge = 1 ∧ up) ∨ (p.edge = 2 ∧ !up) then raise (960 + n) s1 else s1

/-- The event unit enters retention (R501). -/
def evRetain (s : State) : State := modEv (fun e => { e with retention := true, running := 0, recorded := [] }) s

/-- The event unit is restored (R501): every timer counts as expired, the recorded sources are raised in ascending
number, and the recognized levels are sampled anew. -/
def evRestore (s : State) : State :=
  let l := s.ev.recorded
  let s1 := modEv (fun e => { e with
    retention := false, recorded := [],
    pins := tabMap e.pins (fun x => { x with level := Bool.xor x.ball x.invert }) }) s
  forUpTo 1023 (fun n s => if l.contains n then raise n s else s) s1

end Sys2Proof.Machine
end

