-- ==== Sys2Proof/Machine/Aes.lean ====
section
/-! DEFINITION. The codes of the picture record: CRC-64 (R408) and AES-256-XTS (R409), the latter PRESUMED from FIPS 197 and
IEEE 1619, which the spec names and does not restate. -/
namespace Sys2Proof.Machine
open Sys2Proof

/-- One byte through the CRC-64 register (R408). -/
def crc64Byte (r : BitVec 64) (b : Byte) : BitVec 64 :=
  (List.range 8).foldl (fun c _ => if c.getLsbD 63 then (c <<< 1) ^^^ 0x42F0E1EBA9EA3693#64 else c <<< 1) (r ^^^ (b.setWidth 64 <<< 56))

/-- CRC-64 over bytes, initial value 0, no reflection (R408). -/
def crc64 (l : List Byte) : BitVec 64 := l.foldl crc64Byte 0

/-- Multiplication by x in the field of AES. -/
def aesX (b : Byte) : Byte := if b.getLsbD 7 then (b <<< 1) ^^^ 0x1B#8 else b <<< 1

/-- Multiplication in the field of AES. -/
def aesMul (a b : Byte) : Byte :=
  ((List.range 8).foldl (fun (acc : Byte × Byte) i => (if b.getLsbD i then acc.1 ^^^ acc.2 else acc.1, aesX acc.2)) ((0, a) : Byte × Byte)).1

/-- The inverse in the field of AES, b²⁵⁴, with 0 for 0. -/
def aesInv (b : Byte) : Byte :=
  let sq := fun (x : Byte) => aesMul x x
  let b2 := sq b
  let b3 := aesMul b2 b
  let b12 := sq (sq b3)
  let b15 := aesMul b12 b3
  let b240 := sq (sq (sq (sq b15)))
  aesMul (aesMul b240 b12) b2

/-- The S-box of AES. -/
def aesSub (b : Byte) : Byte :=
  let v := aesInv b
  v ^^^ v.rotateLeft 1 ^^^ v.rotateLeft 2 ^^^ v.rotateLeft 3 ^^^ v.rotateLeft 4 ^^^ 0x63#8

/-- Byte-wise exclusive or. -/
def xorBytes (a b : List Byte) : List Byte := List.zipWith (fun x y => x ^^^ y) a b

/-- The words of the AES-256 key schedule, 4 bytes each, newest first, from the 8 words of the key in the same order. -/
def aesExpand : Nat → Nat → List (List Byte) → List (List Byte)
  | 0, _, ws => ws
  | n + 1, i, ws =>
    let prev := ws.headD []
    let back := ws.getD 7 []
    let rot := (prev.drop 1 ++ prev.take 1).map aesSub
    let rcon := (List.range (i / 8 - 1)).foldl (fun (r : Byte) _ => aesX r) 1
    let t := if i % 8 = 0 then xorBytes rot [rcon, 0, 0, 0] else if i % 8 = 4 then prev.map aesSub else prev
    aesExpand n (i + 1) (xorBytes back t :: ws)

/-- The 15 round keys of a 32-byte key. -/
def aesKeys (k : List Byte) : List (List Byte) :=
  let ws := (aesExpand 52 8 ((List.range 8).map (fun i => (k.drop (4 * i)).take 4)).reverse).reverse
  (List.range 15).map (fun r => ((ws.drop (4 * r)).take 4).flatten)

/-- ShiftRows on a block held column by column. -/
def aesShift (b : List Byte) : List Byte :=
  (List.range 16).map (fun i => b.getD ((i / 4 + i % 4) % 4 * 4 + i % 4) 0)

/-- MixColumns on a block held column by column. -/
def aesMix (b : List Byte) : List Byte :=
  (List.range 16).map (fun i =>
    let g := fun k => b.getD (i / 4 * 4 + (i % 4 + k) % 4) 0
    aesX (g 0) ^^^ aesX (g 1) ^^^ g 1 ^^^ g 2 ^^^ g 3)

/-- AES-256 encryption of one block under round keys (PRESUMED, log entry 101). -/
def aesBlock (ks : List (List Byte)) (b : List Byte) : List Byte :=
  let b0 := xorBytes b (ks.headD [])
  let r := (List.range 13).foldl (fun x i => xorBytes (aesMix (aesShift (x.map aesSub))) (ks.getD (i + 1) [])) b0
  xorBytes (aesShift (r.map aesSub)) (ks.getD 14 [])

/-- The tweak of the next block of a data unit: multiplication by x in GF(2¹²⁸), least significant byte first. -/
def xtsNext (t : List Byte) : List Byte :=
  let v := leNat t
  leBytes 16 (if v < 2 ^ 127 then 2 * v else Nat.xor (2 * v - 2 ^ 128) 0x87)

/-- The blocks of a data unit under a tweak. -/
def xtsBlocks (ks : List (List Byte)) : Nat → List Byte → List Byte → List Byte
  | 0, _, _ => []
  | n + 1, t, p => xorBytes (aesBlock ks (xorBytes (p.take 16) t)) t ++ xtsBlocks ks n (xtsNext t) (p.drop 16)

/-- AES-256-XTS encryption of one data unit (R409): its number, key 1 and key 2. -/
def xtsUnit (k1 k2 : List (List Byte)) (unit : Nat) (p : List Byte) : List Byte :=
  xtsBlocks k1 (p.length / 16) (aesBlock k2 (leBytes 16 unit)) p

/-- The payload of a record encrypted (R409): 4,096-byte data units, unit u of picture P numbered P × 2³² + u. -/
def xtsPayload (key : List Byte) (picture : Nat) (p : List Byte) : List Byte :=
  let k1 := aesKeys (key.take 32)
  let k2 := aesKeys ((key.drop 32).take 32)
  (List.range (ceilDiv p.length 4096)).flatMap (fun u => xtsUnit k1 k2 (picture * 2 ^ 32 + u) ((p.drop (4096 * u)).take 4096))

end Sys2Proof.Machine
end

