-- ==== Sys2Proof/Machine/Curves.lean ====
section
/-! DEFINITION. The 1D tables and their standard curves (R279 to R284), in exact integers and in binary64. -/
namespace Sys2Proof.Machine
open Sys2Proof

/-- rnd of R265: narrow by `s` bits, rounding half up. -/
def rnd (x : Int) (s : Nat) : Int := if s = 0 then x else (x + (2 : Int) ^ (s - 1)) / (2 : Int) ^ s
/-- clamp24 of R265. -/
def clamp24 (x : Int) : Int := clampI (-8388608) 8388607 x

/-- A binary64 number `man · 2 ^ exp` with at most 53 significant bits (R280). The curves stay within the normal numbers. -/
structure Dbl where
  man : Int := 0
  exp : Int := 0
  deriving DecidableEq, Repr, Inhabited

/-- `v · 2 ^ k` for an integer exponent, rounding down where it is negative. -/
def scaleI (v k : Int) : Int := if 0 ≤ k then v * (2 : Int) ^ k.toNat else v / (2 : Int) ^ (-k).toNat

/-- The binary64 number nearest to `n / d · 2 ^ e`, ties to even. -/
def dblRound (n : Int) (d : Nat) (e : Int) : Dbl :=
  if n = 0 ∨ d = 0 then {} else
    let k : Int := (Nat.log2 d : Int) + 54 - Nat.log2 n.natAbs
    let num := if 0 ≤ k then n.natAbs * 2 ^ k.toNat else n.natAbs
    let den := if 0 ≤ k then d else d * 2 ^ (-k).toNat
    let q := num / den
    let drop := Nat.log2 q - 52
    let h := 2 ^ drop
    let up := decide (h < 2 * (q % h)) || (decide (2 * (q % h) = h) && (decide (num % den ≠ 0) || decide (q / h % 2 = 1)))
    let m : Int := (q / h + b2n up : Nat)
    { man := if n < 0 then -m else m, exp := e - k + drop }

/-- A decimal or a whole number in binary64. -/
def dbl (n : Int) (d : Nat) : Dbl := dblRound n d 0
/-- The binary64 sum. -/
def dblAdd (a b : Dbl) : Dbl :=
  let e := min a.exp b.exp
  dblRound (a.man * (2 : Int) ^ (a.exp - e).toNat + b.man * (2 : Int) ^ (b.exp - e).toNat) 1 e
/-- The negative of a binary64 number. -/
def dblNeg (a : Dbl) : Dbl := { a with man := -a.man }
/-- The binary64 difference. -/
def dblSub (a b : Dbl) : Dbl := dblAdd a (dblNeg b)
/-- The binary64 product. -/
def dblMul (a b : Dbl) : Dbl := dblRound (a.man * b.man) 1 (a.exp + b.exp)
/-- The binary64 quotient. -/
def dblDiv (a b : Dbl) : Dbl := dblRound (if b.man < 0 then -a.man else a.man) b.man.natAbs (a.exp - b.exp)
/-- One binary64 number is at most another. -/
def dblLe (a b : Dbl) : Bool := decide ((dblSub a b).man ≤ 0)
/-- A binary64 number held within an interval. -/
def dblClamp (lo hi v : Dbl) : Dbl := if dblLe v lo then lo else if dblLe hi v then hi else v

/-! The elementary functions are those of binary64 with correct rounding. They are computed in fixed point with 128 fraction
bits. -/

/-- One in that fixed point. -/
def fxOne : Int := 340282366920938463463374607431768211456
/-- ln 2 in that fixed point. -/
def fxLn2 : Int := 235865763225513294137944142764154484399

/-- The series of 2 artanh, of odd powers of `z` from power `k`. -/
def fxAtanh (z z2 : Int) : Nat → Nat → Int → Int
  | 0, _, acc => acc
  | n + 1, k, acc => fxAtanh (z * z2 / fxOne) z2 n (k + 2) (acc + 2 * z / (k : Int))

/-- The natural logarithm of a positive binary64 number, in fixed point. -/
def fxLn (x : Dbl) : Int :=
  let g := Nat.log2 x.man.natAbs
  let m := scaleI x.man (128 - (g : Int))
  let z := (m - fxOne) * fxOne / (m + fxOne)
  (x.exp + g) * fxLn2 + fxAtanh z (z * z / fxOne) 44 1 0

/-- The series of the exponential. -/
def fxExpSeries (r : Int) : Nat → Nat → Int → Int → Int
  | 0, _, _, acc => acc
  | n + 1, k, t, acc => let t1 := t * r / fxOne / (k : Int); fxExpSeries r n (k + 1) t1 (acc + t1)

/-- The exponential of a fixed point value. -/
def dblExpFx (x : Int) : Dbl :=
  let k := x / fxLn2
  dblRound (fxExpSeries (x - k * fxLn2) 36 1 fxOne fxOne) 1 (k - 128)

/-- The exponential. -/
def dblExp (x : Dbl) : Dbl := dblExpFx (scaleI x.man (x.exp + 128))
/-- The natural logarithm of a positive number. -/
def dblLn (x : Dbl) : Dbl := dblRound (fxLn x) 1 (-128)
/-- A positive number to a power, and 0 for others. -/
def dblPow (x y : Dbl) : Dbl := if x.man ≤ 0 then {} else dblExpFx (scaleI (fxLn x * y.man) y.exp)

/-! ST 2084, with its constants m1, m2, c1, c2 and c3, which binary64 holds exactly. -/

/-- ST 2084: the luminance of a signal in cd/m². -/
def pqEotf (v : Dbl) : Dbl :=
  let p := dblPow v (dblDiv (dbl 1 1) (dbl 2523 32))
  let n := dblSub p (dbl 3424 4096)
  dblMul (dbl 10000 1) (dblPow (dblDiv n (dblSub (dbl 2413 128) (dblMul (dbl 2392 128) p))) (dblDiv (dbl 1 1) (dbl 2610 16384)))

/-- ST 2084: the signal of a luminance, as a part of 10,000 cd/m². -/
def pqInverse (y : Dbl) : Dbl :=
  let p := dblPow y (dbl 2610 16384)
  dblPow (dblDiv (dblAdd (dbl 3424 4096) (dblMul (dbl 2413 128) p)) (dblAdd (dbl 1 1) (dblMul (dbl 2392 128) p))) (dbl 2523 32)

/-- The HLG constant a. -/
def hlgA : Dbl := dbl 17883277 100000000
/-- The HLG constant b, 1 − 4a. -/
def hlgB : Dbl := dblSub (dbl 1 1) (dblMul (dbl 4 1) hlgA)
/-- The HLG constant c, 0.5 − a ln 4a. -/
def hlgC : Dbl := dblSub (dbl 1 2) (dblMul hlgA (dblLn (dblMul (dbl 4 1) hlgA)))

/-- HLG inverse OETF. -/
def hlgInverse (v : Dbl) : Dbl :=
  if dblLe v (dbl 1 2) then dblDiv (dblMul v v) (dbl 3 1)
  else dblDiv (dblAdd (dblExp (dblDiv (dblSub v hlgC) hlgA)) hlgB) (dbl 12 1)
/-- HLG OETF. -/
def hlgOetf (e : Dbl) : Dbl :=
  if dblLe e (dblDiv (dbl 1 1) (dbl 12 1)) then dblPow (dblMul (dbl 3 1) e) (dbl 1 2)
  else dblAdd (dblMul hlgA (dblLn (dblSub (dblMul (dbl 12 1) e) hlgB))) hlgC

/-- The C24 number of a binary64 value, rounded half up (R280). -/
def dblToC24 (x : Dbl) : Int := clamp24 ((scaleI x.man (x.exp + 21) + 1) / 2)

/-- NORM in binary64; 0 stands for its default (R280). -/
def normOf (norm : Nat) : Dbl := dbl (if norm = 0 then 203 else norm : Nat) 1

/-- A curve of the linearization and graphic tables at a point x (R280) (PRESUMED, log entry 72). -/
def linCurve (curve norm : Nat) (x : Dbl) : Int :=
  let c := dblClamp {} (dbl 1 1) x
  match curve with
  | 1 => dblToC24 (dblDiv (pqEotf c) (normOf norm))
  | 2 => dblToC24 (hlgInverse c)
  | _ => dblToC24 (dblPow x (dbl 12 5))

/-- A curve of the encode tables at a point x (R280). -/
def encCurve (curve norm : Nat) (x : Dbl) : Int :=
  let hold := dblClamp {} (dbl 1 1)
  match curve with
  | 1 => dblToC24 (hold (pqInverse (dblDiv (dblMul x (normOf norm)) (dbl 10000 1))))
  | 2 => dblToC24 (if x.man ≤ 0 then {} else hlgOetf (hold x))
  | _ => dblToC24 (hold (dblPow x (dblDiv (dbl 1 1) (dbl 12 5))))

/-- The entry point of linearization entry `i`, in C24 units (R279). -/
def linPoint (i : Nat) : Int := 512 * (i : Int) - 524288
/-- The entry point of encode entry `i`, in C24 units (R283). -/
def encPoint (i : Nat) : Int := if i < 256 then i else ((256 + i % 256) * 2 ^ (i / 256 - 1) : Nat)

/-- Entry `i` of a linearization table. -/
def linEntry (t : Lut) (i : Nat) : Int :=
  match t with
  | .identity => linPoint i
  | .builtin c n => linCurve c n (dblRound (linPoint i) 1 (-20))
  | .loaded l => l.getD i 0

/-- Entry `i` of an encode table. -/
def encEntry (t : Lut) (i : Nat) : Int :=
  match t with
  | .identity => encPoint i
  | .builtin c n => encCurve c n (dblRound (encPoint i) 1 (-20))
  | .loaded l => l.getD i 0

/-- Entry `i` of the graphic curve table (R282): filled at boot by curve 3 at i / 255. -/
def graphicEntry (t : Lut) (i : Nat) : Int :=
  match t with
  | .identity => roundHalfUp ((i : Int) * 1048576) 255
  | .builtin c n => linCurve c n (dbl i 255)
  | .loaded l => l.getD i 0

/-- The entries of a table: target 0 linearization, 1 encode, 2 graphic curve. -/
def lutEntries (target : Nat) (t : Lut) : List Int :=
  match target with
  | 0 => (List.range 4096).map (linEntry t)
  | 1 => (List.range 4096).map (encEntry t)
  | _ => (List.range 256).map (graphicEntry t)

/-- Linearization of one component (R279). -/
def linearize (t : Lut) (d : Int) : Int :=
  let pos := d + 524288
  let i := if pos < 0 then 0 else (pos / 512).toNat
  let f := if pos < 0 then 0 else pos % 512
  if 4095 ≤ i then linEntry t 4095 else (linEntry t i * (512 - f) + linEntry t (i + 1) * f + 256) / 512

/-- The output encode of one component (R283). -/
def encode1 (t : Lut) (neg : Bool) (x : Int) : Int :=
  let m := min x.natAbs 8388607
  let e :=
    if m < 256 then encEntry t m
    else
      let g := Nat.log2 m - 7
      let i := g * 256 + m / 2 ^ (g - 1) % 256
      let w := 2 ^ (g - 1)
      let f := m % w
      if i = 4095 ∨ w = 1 then encEntry t i
      else (encEntry t i * ((w : Int) - f) + encEntry t (i + 1) * f + (w : Int) / 2) / w
  if 0 ≤ x then e else if neg then -e else encEntry t 0

end Sys2Proof.Machine
end

