-- ==== Sys2Proof/Machine/Surface.lean ====
section
/-! DEFINITION. Surface formats, where a pixel's components lie in memory, and orientation (R235 to R245). -/
namespace Sys2Proof.Machine
open Sys2Proof

/-- The families of layouts (R236). -/
inductive Fam where
  | yc422 | yc444 | pl422 | pl444 | rgb | f16 | raw | rgba8 | rgb565 | pal8 | mask
  deriving DecidableEq, Repr, Inhabited

/-- A layout: its family, the bits of a sample and the bits per pixel (R236). -/
structure Layout where
  fam : Fam := .raw
  n : Nat := 8
  b : Nat := 8
  deriving DecidableEq, Repr, Inhabited

/-- The layouts of R236. -/
def layoutOf (code : Nat) : Option Layout :=
  match code with
  | 0x10 => some { fam := .yc422, n := 10, b := 20 }
  | 0x11 => some { fam := .yc422, n := 12, b := 24 }
  | 0x12 => some { fam := .yc422, n := 16, b := 32 }
  | 0x14 => some { fam := .yc444, n := 10, b := 30 }
  | 0x15 => some { fam := .yc444, n := 12, b := 36 }
  | 0x16 => some { fam := .yc444, n := 16, b := 48 }
  | 0x18 => some { fam := .pl422, n := 10, b := 20 }
  | 0x19 => some { fam := .pl422, n := 12, b := 24 }
  | 0x1A => some { fam := .pl422, n := 16, b := 32 }
  | 0x1C => some { fam := .pl444, n := 10, b := 30 }
  | 0x1D => some { fam := .pl444, n := 12, b := 36 }
  | 0x1E => some { fam := .pl444, n := 16, b := 48 }
  | 0x20 => some { fam := .rgb, n := 10, b := 30 }
  | 0x21 => some { fam := .rgb, n := 12, b := 36 }
  | 0x22 => some { fam := .rgb, n := 16, b := 48 }
  | 0x24 => some { fam := .f16, n := 16, b := 64 }
  | 0x28 => some { fam := .raw, n := 10, b := 10 }
  | 0x29 => some { fam := .raw, n := 12, b := 12 }
  | 0x2A => some { fam := .raw, n := 14, b := 14 }
  | 0x2B => some { fam := .raw, n := 16, b := 16 }
  | 0x40 => some { fam := .rgba8, n := 8, b := 32 }
  | 0x41 => some { fam := .rgb565, n := 6, b := 16 }
  | 0x42 => some { fam := .pal8, n := 8, b := 8 }
  | 0x43 => some { fam := .mask, n := 1, b := 1 }
  | 0x44 => some { fam := .mask, n := 2, b := 2 }
  | _ => none

/-- The LAYOUT code of a format (R235). -/
def fmtLayout (fmt : Nat) : Nat := fmt % 256
/-- RANGE of a format: full range. -/
def fmtFull (fmt : Nat) : Bool := bit fmt 8
/-- T64 of a format. -/
def fmtTiled (fmt : Nat) : Bool := bit fmt 9

/-- A YCbCr family. -/
def famYcc (f : Fam) : Bool := match f with
  | .yc422 | .yc444 | .pl422 | .pl444 => true
  | _ => false
/-- A planar family. -/
def famPlanar (f : Fam) : Bool := match f with
  | .pl422 | .pl444 => true
  | _ => false
/-- A format that ingest cannot place lines in: tiled or planar (R243). -/
def notLinear (fmt : Nat) : Bool := fmtTiled fmt || famPlanar ((layoutOf (fmtLayout fmt)).getD {}).fam
/-- A family with chroma pairs. -/
def fam422 (f : Fam) : Bool := match f with
  | .yc422 | .pl422 => true
  | _ => false
/-- A layout allowed on a layer of a kind (R236). -/
def layerTakes (video : Bool) (f : Fam) : Bool := match f with
  | .rgba8 => true
  | .rgb565 | .pal8 | .mask => !video
  | _ => video

/-- A format code is one of R235 and R236: a listed layout, RANGE only for YCbCr, planar never tiled, reserved bits 0. -/
def formatOk (fmt : Nat) : Bool :=
  match layoutOf (fmtLayout fmt) with
  | some l => decide (fmt < 1024) && (!fmtFull fmt || famYcc l.fam) && !(fmtTiled fmt && famPlanar l.fam)
  | none => false

/-- C, the chroma stride of a planar surface (R238). -/
def chromaStride (f : Fam) (stride : Nat) : Nat := if f = .pl422 then stride / 2 else stride

/-- The least BUF_SIZE for a format's lines and stride (R238, R242). -/
def formatMinSize (fmt lines stride : Nat) : Nat :=
  match layoutOf (fmtLayout fmt) with
  | some l =>
    if famPlanar l.fam then lines * (stride + 2 * chromaStride l.fam stride)
    else if fmtTiled fmt then ceilDiv lines 64 * 64 * stride
    else lines * stride
  | none => 0

/-- A surface: its base FSA, its stride, its lines and its format. -/
structure Surf where
  base : Nat := 0
  stride : Nat := 0
  lines : Nat := 0
  fmt : Nat := 0
  deriving DecidableEq, Repr, Inhabited

/-- The layout of a surface. -/
def Surf.lay (u : Surf) : Layout := (layoutOf (fmtLayout u.fmt)).getD {}

/-- The byte at which the bits of pixel column `x` of line `y` are counted from, and the column within it: a tile line
of R242, or the whole line of R237. -/
def lineOrigin (u : Surf) (x y : Nat) : Nat × Nat :=
  let b := u.lay.b
  if fmtTiled u.fmt then (u.base + y / 64 * 64 * u.stride + x / 64 * 512 * b + y % 64 * 8 * b, x % 64)
  else (u.base + y * u.stride, x)

/-- Component `c` of pixel (x, y): the byte its line starts at, its bit offset in that line and its width (R236 to
R238, R242). Components are Y, Cb, Cr; or R, G, B, A; or the one sample. -/
def compAt (u : Surf) (x y c : Nat) : Nat × Nat × Nat :=
  let l := u.lay
  let o := lineOrigin u x y
  let n := l.n
  match l.fam with
  | .yc422 => (o.1, o.2 / 2 * (4 * n) + (if c = 0 then n + 2 * n * (o.2 % 2) else if c = 1 then 0 else 2 * n), n)
  | .yc444 | .rgb => (o.1, o.2 * (3 * n) + c * n, n)
  | .pl422 | .pl444 =>
    let cs := chromaStride l.fam u.stride
    let j := if l.fam = .pl422 then x / 2 else x
    if c = 0 then (u.base + y * u.stride, x * n, n)
    else if c = 1 then (u.base + u.lines * u.stride + y * cs, j * n, n)
    else (u.base + u.lines * (u.stride + cs) + y * cs, j * n, n)
  | .f16 => (o.1, o.2 * 64 + c * 16, 16)
  | .raw => (o.1, o.2 * n, n)
  | .rgba8 => (o.1, o.2 * 32 + c * 8, 8)
  | .rgb565 => (o.1, o.2 * 16 + (if c = 0 then 11 else if c = 1 then 5 else 0), if c = 1 then 6 else 5)
  | .pal8 => (o.1, o.2 * 8, 8)
  | .mask => (o.1, o.2 * n, n)

/-- How many components a pixel of a layout has. -/
def compCount (f : Fam) : Nat := match f with
  | .raw | .pal8 | .mask => 1
  | .f16 | .rgba8 => 4
  | _ => 3

/-- The 64-byte lines of the frame store that hold a bit of a component (R251). -/
def compLines (p : Nat × Nat × Nat) : List Nat :=
  let a := p.1 + p.2.1 / 8
  let z := p.1 + (p.2.1 + p.2.2 - 1) / 8
  if a / 64 = z / 64 then [a / 64] else [a / 64, z / 64]

/-- The 64-byte lines that hold a bit of a pixel. -/
def pixelLines (u : Surf) (x y : Nat) : List Nat :=
  (List.range (compCount u.lay.fam)).flatMap (fun c => compLines (compAt u x y c))

/-- Read a component through a byte source (R237). -/
def readComp (g : Nat → Byte) (p : Nat × Nat × Nat) : Nat :=
  let a := p.1 + p.2.1 / 8
  bits (leNat ((List.range 3).map (fun i => g (a + i)))) (p.2.1 % 8) p.2.2

/-- ROT, HFLIP and VFLIP of an ORIENT (R244). -/
def rotOf (o : Nat) : Nat := o % 4
/-- The oriented image of a w × h crop is h × w. -/
def rotated (o : Nat) : Bool := decide (rotOf o % 2 = 1)
/-- W′ of an oriented crop. -/
def orientW (s : Source) : Nat := if rotated s.orient then s.ch else s.cw
/-- H′ of an oriented crop. -/
def orientH (s : Source) : Nat := if rotated s.orient then s.cw else s.ch

/-- The crop pixel that oriented pixel (u, v) is taken from (R244). -/
def orientMap (s : Source) (u v : Nat) : Nat × Nat :=
  let w := s.cw
  let h := s.ch
  let ur := if bit s.orient 2 then orientW s - 1 - u else u
  let vr := if bit s.orient 3 then orientH s - 1 - v else v
  match rotOf s.orient with
  | 0 => (ur, vr)
  | 1 => (vr, h - 1 - ur)
  | 2 => (w - 1 - ur, h - 1 - vr)
  | _ => (w - 1 - vr, ur)

/-- Why a source may not be shown on a layer of a kind, as the DETAIL of LAYER_SOURCE_SET, or none (R236, R241, R242,
R245, R250). -/
def sourceFault (video : Bool) (s : Source) (fmt stride lines : Nat) : Option Nat :=
  match layoutOf (fmtLayout fmt) with
  | none => some 1
  | some l =>
    let stop := s.cx + s.cw
    if !layerTakes video l.fam then some 1
    else if decide (stride % 64 ≠ 0) || (decide (l.fam = .pl422) && decide (stride % 128 ≠ 0)) ||
        (if fmtTiled fmt then decide (stride % (8 * l.b) ≠ 0) || decide (stride / (8 * l.b) * 64 < stop)
         else if famPlanar l.fam then decide (8 * stride < stop * l.n) else decide (8 * stride < stop * l.b)) ||
        decide (lines < s.cy + s.ch) || (!video && (decide (8192 < orientW s) || decide (16384 < orientH s))) then some 2
    else if (rotated s.orient && (!fmtTiled fmt || fam422 l.fam || famPlanar l.fam)) ||
        (fam422 l.fam && (decide (s.cx % 2 = 1) || decide (s.cw % 2 = 1))) then some 3
    else none

/-- The bits of a run of components, least significant first, as bytes (R237). -/
def packBits (l : List (Nat × Nat)) : List Byte :=
  let r := l.foldl (fun (acc : Nat × Nat) x => (acc.1 + x.2 % 2 ^ x.1 * 2 ^ acc.2, acc.2 + x.1)) ((0, 0) : Nat × Nat)
  leBytes (ceilDiv r.2 8) r.1

end Sys2Proof.Machine
end

