-- ==== Sys2Proof/Machine/Colour.lean ====
section
/-! DEFINITION. The arithmetic of the colour path, of the scaler and of the blend (R264 to R304). -/
namespace Sys2Proof.Machine
open Sys2Proof

/-- A pixel on its way: three components in C24 form and its alpha (16 bits, or × 16 while it is scaled). -/
structure Px where
  r : Int := 0
  g : Int := 0
  b : Int := 0
  a : Int := 0
  deriving DecidableEq, Repr, Inhabited

/-- Apply a function to all four values. -/
def Px.map (f : Int → Int) (p : Px) : Px := ⟨f p.r, f p.g, f p.b, f p.a⟩
/-- Apply a function to the colour only. -/
def Px.rgb (f : Int → Int) (p : Px) : Px := ⟨f p.r, f p.g, f p.b, p.a⟩
/-- Component-wise sum. -/
def Px.add (p q : Px) : Px := ⟨p.r + q.r, p.g + q.g, p.b + q.b, p.a + q.a⟩
/-- A weighted sum of pixels. -/
def pxSum (l : List (Int × Px)) : Px := l.foldl (fun acc x => acc.add (x.2.map (x.1 * ·))) {}

/-- Decode of an integer code with zero `z` and range `r` (R266). -/
def decodeC (z r : Nat) (c : Int) : Int :=
  if r = 0 then 0 else rnd ((c - z) * roundHalfUp (68719476736 : Nat) r) 16

/-- Zero and range of a component (R266): luma, or chroma, of n bits. -/
def zeroRange (chroma full : Bool) (n : Nat) : Nat × Nat :=
  match chroma, full with
  | false, false => (16 * 2 ^ (n - 8), 219 * 2 ^ (n - 8))
  | true, false => (2 ^ (n - 1), 448 * 2 ^ (n - 8))
  | false, true => (0, 2 ^ n - 1)
  | true, true => (2 ^ (n - 1), 2 ^ n - 1)

/-- A binary16 value in C24 form (R268). -/
def decodeF16 (h : Nat) : Int :=
  let sg : Int := if bit h 15 then -1 else 1
  let e := bits h 10 5
  let m := bits h 0 10
  if e = 31 then (if m = 0 then (if bit h 15 then -8388608 else 8388607) else 0)
  else if e = 0 then rnd (sg * m) 4
  else if 5 ≤ e then clamp24 (sg * ((1024 + m) * 2 ^ (e - 5) : Nat))
  else rnd (sg * (1024 + m : Nat)) (5 - e)

/-- The coefficients KRV, KGU, KGV, KBU of a YCC_SET (R270). -/
def yccCoef (k : Nat) : Int × Int × Int × Int :=
  if k = 1 then (96639, 10784, 37444, 123299) else (103206, 12276, 30679, 121609)

/-- YCbCr to R′G′B′ (R270). -/
def toRgb (k : Nat) (y cb cr : Int) : Px :=
  let c := yccCoef k
  { r := clamp24 (rnd (65536 * y + c.1 * cr) 16),
    g := clamp24 (rnd (65536 * y - c.2.1 * cb - c.2.2.1 * cr) 16),
    b := clamp24 (rnd (65536 * y + c.2.2.2 * cb) 16) }

/-- The code that stands for black in a component of a format (R178). -/
def blackCode (u : Surf) (c : Nat) : Nat :=
  let l := u.lay
  if famYcc l.fam then
    (if c = 0 then (if fmtFull u.fmt then 0 else 16 * 2 ^ (l.n - 8)) else if fmtFull u.fmt then 2 ^ (l.n - 1) else 128 * 2 ^ (l.n - 8))
  else 0

/-- The code of component `c` of surface pixel (x, y): as stored, or black where its line is a hole. -/
def codeAt (u : Surf) (hole : Nat → Bool) (g : Nat → Byte) (x y c : Nat) : Nat :=
  if hole y then blackCode u c else readComp g (compAt u x y c)

/-- Chroma of a crop pixel (R269): `x` counts from the crop's first column. `c` is 1 for Cb and 2 for Cr. -/
def chromaAt (mode : Nat) (cw : Nat) (at_ : Nat → Int) (x : Nat) : Int :=
  let n := cw / 2
  let j : Int := (x / 2 : Nat)
  let C := fun (k : Int) => at_ (clampI 0 ((n : Int) - 1) k).toNat
  if x % 2 = 0 ∨ mode = 0 then C j
  else if mode = 1 then rnd (C j + C (j + 1)) 1
  else rnd (-(C (j - 1)) + 9 * C j + 9 * C (j + 1) - C (j + 2)) 4

/-- The 16-bit alpha of a binary16 component (R299). -/
def alphaF16 (h : Nat) : Int := clampI 0 65535 (rnd (decodeF16 h * 65535) 20)

/-- A video layer's crop pixel after decode, with its alpha × 16 (R264 to R270, R299). -/
def videoPixel (k : LayerCfg) (u : Surf) (hole : Nat → Bool) (g : Nat → Byte) (x y : Nat) : Px :=
  let l := u.lay
  let v := k.video
  let code := fun dx c => (codeAt u hole g (k.src.cx + dx) (k.src.cy + y) c : Int)
  let full := fmtFull u.fmt
  let zy := zeroRange false full l.n
  let zc := zeroRange true full l.n
  let opaque_ : Int := 65535
  let p : Px × Int :=
    match l.fam with
    | .yc422 | .pl422 =>
      let ch := fun c => chromaAt v.chroma k.src.cw (fun j => decodeC zc.1 zc.2 (code (2 * j) c)) x
      (toRgb v.ycc (decodeC zy.1 zy.2 (code x 0)) (ch 1) (ch 2), opaque_)
    | .yc444 | .pl444 =>
      (toRgb v.ycc (decodeC zy.1 zy.2 (code x 0)) (decodeC zc.1 zc.2 (code x 1)) (decodeC zc.1 zc.2 (code x 2)), opaque_)
    | .f16 =>
      let h := fun c => codeAt u hole g (k.src.cx + x) (k.src.cy + y) c
      ({ r := decodeF16 (h 0), g := decodeF16 (h 1), b := decodeF16 (h 2) }, alphaF16 (h 3))
    | .raw =>
      let w := v.rawWhite.getD (2 ^ l.n - 1)
      let d := decodeC v.rawBlack (w - v.rawBlack) (code x 0)
      ({ r := d, g := d, b := d }, opaque_)
    | _ =>
      let d := fun c => decodeC 0 (2 ^ l.n - 1) (code x c)
      ({ r := d 0, g := d 1, b := d 2 }, if l.fam = .rgba8 then 257 * code x 3 else opaque_)
  { p.1 with a := 16 * (if k.src.opaq then opaque_ else p.2) }

/-- The graphic curve and gain on a component, given its 8-bit code and its decoded value (R282). -/
def graphicComp (k : LayerCfg) (curve : Lut) (c8 : Nat) (d : Int) : Int :=
  clamp24 (rnd ((if k.curve then graphicEntry curve c8 else d) * k.gain) 16)

/-- A pixel of 8-bit components with an 8-bit alpha on a graphic layer. -/
def graphic8 (k : LayerCfg) (curve : Lut) (r g b a : Nat) : Px :=
  let f := fun c => graphicComp k curve c (decodeC 0 255 c)
  { r := f r, g := f g, b := f b, a := if k.src.opaq then 65535 else 257 * (a : Int) }

/-- A graphic layer's crop pixel (R239, R282, R299), or none where a mask has no pixel (DEDUCED, log entry 193). -/
def graphicPixel (k : LayerCfg) (curve : Lut) (u : Surf) (hole : Nat → Bool) (g : Nat → Byte) (x y : Nat) : Option Px :=
  let l := u.lay
  let code := fun c => codeAt u hole g (k.src.cx + x) (k.src.cy + y) c
  let pal := fun i => let e := tabGet k.palette i; graphic8 k curve (bits e 0 8) (bits e 8 8) (bits e 16 8) (bits e 24 8)
  match l.fam with
  | .rgba8 => some (graphic8 k curve (code 0) (code 1) (code 2) (code 3))
  | .rgb565 =>
    let f5 := fun c => graphicComp k curve (c * 8 + c / 4) (decodeC 0 31 c)
    let f6 := fun c => graphicComp k curve (c * 4 + c / 16) (decodeC 0 63 c)
    some { r := f5 (code 0), g := f6 (code 1), b := f5 (code 2), a := if hole (k.src.cy + y) && !k.src.opaq then 0 else 65535 }
  | .mask => if code 0 = 0 ∧ !k.src.opaq then none else some (pal (code 0))
  | _ => some (pal (code 0))

/-- The pre-decimation factors of a video layer on its destination (R271, R272). -/
def predec (v : VideoCfg) (w h dw dh : Nat) : Nat × Nat :=
  let fh := if v.predecH ≠ 0 then v.predecH
    else if w ≤ 4 * dw ∧ w ≤ 8192 then 1 else if ceilDiv w 2 ≤ 4 * dw ∧ ceilDiv w 2 ≤ 8192 then 2 else 4
  let fv := if v.predecV ≠ 0 then v.predecV else if h ≤ 4 * dh then 1 else 2
  (fh, fv)

/-- A scaler step (R274). -/
def scalerStep (n d : Nat) : Nat := if d = 0 then 0 else (roundHalfUp ((n * 1048576 : Nat) : Int) d).toNat

/-- The base sample and the phase of output pixel `i` (R274). -/
def scalerPos (step i : Nat) : Int × Nat :=
  let p : Int := (step / 2 : Nat) - 524288 + (i * step : Nat)
  let q := (p + 8192) / 16384
  (q / 64, (q % 64).toNat)

/-- A tap of a coefficient set (R276): `t` of phase `φ`, horizontal with 8 taps or vertical with 6. -/
def coefTap (set : Nat) (c : CoefSet) (vert : Bool) (phase t : Nat) : Int :=
  if set = 0 then
    let t0 := if vert then 2 else 3
    if t = t0 then 4096 - 64 * (phase : Int) else if t = t0 + 1 then 64 * (phase : Int) else 0
  else if vert then c.taps.getD (512 + 6 * phase + t) 0 else c.taps.getD (8 * phase + t) 0

/-- Weights and sample indices of one output position: `taps` of a filter, edges replicated (R275). -/
def filterTaps (set : Nat) (c : CoefSet) (vert : Bool) (step n i : Nat) : List (Int × Nat) :=
  let k := scalerPos step i
  let cnt := if vert then 6 else 8
  let off : Int := if vert then 2 else 3
  (List.range cnt).map (fun t => (coefTap set c vert k.2 t, (clampI 0 ((n : Int) - 1) (k.1 - off + (t : Nat))).toNat))

/-- One pre-decimated sample (R271) of an image of w × h pixels. -/
def predecPixel (img : Nat → Nat → Px) (w h fh fv i j : Nat) : Px :=
  let lg := fun n => Nat.log2 n
  let line := fun y => (pxSum ((List.range fh).map (fun t => ((1 : Int), img (min (fh * i + t) (w - 1)) (min y (h - 1)))))).map (rnd · (lg fh))
  (pxSum ((List.range fv).map (fun t => ((1 : Int), line (fv * j + t))))).map (rnd · (lg fv))

/-- A row of three dot products with offsets: the matrices of R281. -/
def applyMatrix (m : Matrix) (p : Px) : Px :=
  let row := fun r => clamp24 (rnd (m.m.getD (3 * r) 0 * p.r + m.m.getD (3 * r + 1) 0 * p.g + m.m.getD (3 * r + 2) 0 * p.b) 16 + m.off.getD r 0)
  { p with r := row 0, g := row 1, b := row 2 }

/-- Steps 5 and 6 of the colour path on a scaled pixel, and its alpha back at 16 bits (R264, R279, R281). -/
def finishVideo (k : LayerCfg) (p : Px) : Px :=
  let q := applyMatrix k.matrix (if k.video.lin then p.rgb (linearize k.lin) else p)
  { q with a := clampI 0 65535 (rnd p.a 4) }

/-- wp and lw of R300. -/
def weight16 (a : Int) : Int := a + a / 32768

/-- The blend of one component (R301). -/
def blendComp (mode : Nat) (premult : Bool) (w lw src d : Int) : Int :=
  if mode = 2 then
    clamp24 ((clamp24 (rnd (src * d) 20) * w + d * (65536 - w) + 32768) / 65536)
  else
    clamp24 ((src * (if premult then lw else w) + d * (if mode = 1 then 65536 else 65536 - w) + 32768) / 65536)

/-- A layer's pixel over what lies beneath (R295, R300, R301). -/
def blendPx (k : Blend) (src d : Px) : Px :=
  let lw := weight16 k.lw
  let w := (weight16 src.a * lw + 32768) / 65536
  let f := blendComp k.mode k.premult w lw
  { r := f src.r d.r, g := f src.g d.g, b := f src.b d.b, a := 0 }

/-- A blend is occluding (R304). -/
def blendOccludes (k : Blend) : Bool := decide (k.mode = 0) && decide (k.lw = 65535)

/-- A node of a 3D LUT bank of size n (R287). -/
def lutNode (bank : List Nat) (n r g b : Nat) : Nat × Nat × Nat :=
  let v := bank.getD ((b * n + g) * n + r) 0
  (bits v 0 16, bits v 16 16, bits v 32 16)

/-- Tetrahedral interpolation (R286). -/
def lut3d (bank : List Nat) (n : Nat) (p : Px) : Px :=
  let sh := if n = 65 then 14 else 15
  let split := fun (x : Int) =>
    let c := (clampI 0 1048576 x).toNat
    let i := c / 2 ^ sh
    if i = n - 1 then (n - 2, 65536) else (i, c % 2 ^ sh * 2 ^ (16 - sh))
  let s := [split p.r, split p.g, split p.b]
  let w := fun k => (s.getD k (0, 0)).2
  let i := fun k => (s.getD k (0, 0)).1
  let before := fun a b => decide (w b < w a) || (decide (w a = w b) && decide (a < b))
  let ord := [0, 1, 2].mergeSort (fun a b => before a b)
  let a1 := ord.getD 0 0
  let a2 := ord.getD 1 0
  let a3 := ord.getD 2 0
  let at_ := fun (on : List Nat) => lutNode bank n (i 0 + b2n (on.contains 0)) (i 1 + b2n (on.contains 1)) (i 2 + b2n (on.contains 2))
  let v0 := at_ []
  let v1 := at_ [a1]
  let v2 := at_ [a1, a2]
  let v3 := at_ [0, 1, 2]
  let mix := fun (f : Nat × Nat × Nat → Nat) =>
    let acc := (65536 - w a1) * f v0 + (w a1 - w a2) * f v1 + (w a2 - w a3) * f v2 + w a3 * f v3
    (((acc * 1048592 + 2147483648) / 4294967296 : Nat) : Int)
  { p with r := mix (·.1), g := mix (·.2.1), b := mix (·.2.2) }

/-- KYR … KVB of a YCC_SET (R290). -/
def formCoef (k : Nat) : List Int :=
  if k = 1 then [17216, 44434, 3886, -9151, -23617, -30133, -2635] else [13933, 46871, 4732, -7509, -25259, -29763, -3005]

/-- Encoded R′G′B′ to Y, Cb, Cr (R290). -/
def toYcc (k : Nat) (p : Px) : Px :=
  let c := fun i => (formCoef k).getD i 0
  { r := rnd (c 0 * p.r + c 1 * p.g + c 2 * p.b) 16,
    g := rnd (c 3 * p.r + c 4 * p.g + 32768 * p.b) 16,
    b := rnd (32768 * p.r + c 5 * p.g + c 6 * p.b) 16 }

/-- The dither matrix (R292). -/
def ditherAt (x y : Nat) : Nat :=
  [0, 8, 2, 10, 12, 4, 14, 6, 3, 11, 1, 9, 15, 7, 13, 5].getD (4 * (y % 4) + x % 4) 0

/-- One step of the 24-bit dither LFSR (R292). -/
def lfsr24 (s : Nat) : Nat :=
  (s * 2 + (b2n (bit s 23) + b2n (bit s 22) + b2n (bit s 21) + b2n (bit s 16)) % 2) % 16777216

/-- Quantization of one component (R291): `bias` is B. -/
def quantize (o : OutputCfg) (chroma : Bool) (bias v : Int) : Nat :=
  let zr := if o.form = 0 then zeroRange false true o.bits else zeroRange chroma o.full o.bits
  let code := (zr.1 : Int) + (v * zr.2 + bias) / 1048576
  let top : Int := (2 ^ o.bits - 1 : Nat)
  let edge : Int := (2 ^ (o.bits - 8) : Nat)
  (if o.clip then clampI edge (top - edge) code else clampI 0 top code).toNat

/-- B of R291 and R292 at pixel (x, y). -/
def ditherBias (o : OutputCfg) (lfsr x y : Nat) : Int :=
  if o.dither = 0 then 524288
  else
    let ox := if o.dither = 2 then lfsr % 4 else 0
    let oy := if o.dither = 2 then lfsr / 4 % 4 else 0
    (2 * (ditherAt (x + ox) (y + oy) : Int) + 1) * 32768

/-- The codes of one line of one head (R290 to R292), three per pixel: `x0` is the panel column of its first pixel. With
FORM 2 an odd pixel carries no chroma, which its second and third code of 0 stand for. -/
def quantLine (o : OutputCfg) (lfsr x0 y : Nat) (l : List Px) : List (Nat × Nat × Nat) :=
  let v := if o.form = 0 then l else l.map (toYcc o.ycc)
  let n := l.length
  let at_ := fun (i : Nat) => v.getD i {}
  (List.range n).map (fun i =>
    let b := ditherBias o lfsr (x0 + i) y
    let p := at_ i
    let ch := fun (f : Px → Int) =>
      if o.form = 2 then rnd (f (at_ (i - 1)) + 2 * f p + f (at_ (min (i + 1) (n - 1)))) 2 else f p
    let chroma := decide (o.form ≠ 0)
    if o.form = 2 ∧ i % 2 = 1 then (quantize o false b p.r, 0, 0)
    else (quantize o false b p.r, quantize o chroma b (ch (·.g)), quantize o chroma b (ch (·.b))))

end Sys2Proof.Machine
end

