-- ==== Sys2Proof/Machine/FrameStore.lean ====
section
/-! DEFINITION. The frame store: access to lines with their ECC, the fill, training, refresh, patrol and retirement, and
commands 0x0401 to 0x0405 (R137 to R165). -/
namespace Sys2Proof.Machine
open Sys2Proof

/-- Channel `c`. -/
def chanAt (s : State) (c : Nat) : Channel := tabGet s.fs.chans c
/-- Change channel `c`. -/
def modChan (c : Nat) (f : Channel → Channel) (s : State) : State := { s with fs.chans := tabMod s.fs.chans c f }

/-- The logical channel of an FSA (R140). -/
def chanOf (fsa : Nat) : Nat :=
  let g := fsa / 256
  (List.range 8).foldl (fun a i => Nat.xor a (bits g (4 * i) 4)) 0

/-- The data offset of an FSA within its channel (R140). -/
def localOf (fsa : Nat) : Nat := fsa / 4096 * 256 + fsa % 256

/-- The physical byte of a channel-local data offset (R142). -/
def physOf (o : Nat) : Nat := o / 960 * 1024 + o % 960

/-- The physical byte of the check word of the line that holds a channel-local data offset (R142). -/
def checkOf (o : Nat) : Nat := o / 960 * 1024 + 960 + 4 * (o % 960 / 64)

/-- GiB fitted (R137). -/
def fittedGib (c : FsConfig) : Nat := 16 * c.ranks * c.density / 8

/-- The usable capacity in bytes (R137, R142, R162). -/
def capacity (s : State) : Nat :=
  let b := fittedGib s.fs.cfg * 1073741824 / 16 * 15
  if s.fs.cfg.reserve then b / 16 * 15 else b

/-- The usable capacity in 64 KiB units, as `FS_CAPACITY` reports it. -/
def capacityUnits (s : State) : Nat := capacity s / 65536

/-- The granules of one channel's normal region (R140, R162). -/
def chanGranules (s : State) : Nat := capacity s / 4096

/-- The bytes of one channel's normal region (R140, R162). -/
def normalSpace (s : State) : Nat := capacity s / 16

/-- The data bytes of one channel, its share of the retirement reserve among them (R142, R162). -/
def dataSpace (s : State) : Nat := fittedGib s.fs.cfg * 1073741824 / 16 / 16 * 15

/-- The reserve granule of the remaining channels that takes granule `k` of a retired channel: its place among the
remaining channels, and the reserve granule (R162). -/
def reservePlace (k : Nat) : Nat × Nat := (k % 15, k / 15)

/-- Whether granule `k` of channel `c` has moved to the reserve (R155, R162, R163). -/
def granuleMoved (s : State) (c k : Nat) : Bool :=
  decide ((chanAt s c).state = .retired) || (decide ((chanAt s c).state = .retiring) && decide (k < s.fs.migrateNext))

/-- Where an FSA lies now: its channel and its data offset there (R140, R162, R163). -/
def placeOf (s : State) (fsa : Nat) : Nat × Nat :=
  let c := chanOf fsa
  let o := localOf fsa
  if granuleMoved s c (o / 256) then
    let r := reservePlace (o / 256)
    (if r.1 < c then r.1 else r.1 + 1, normalSpace s + r.2 * 256 + o % 256)
  else (c, o)

/-- The FSA of a channel-local data offset, the inverse of R140. -/
def fsaOf (chan loc : Nat) : Nat :=
  let hi := loc / 256
  let x := (List.range 7).foldl (fun a i => Nat.xor a (bits hi (4 * i) 4)) chan
  (hi * 16 + x % 16) * 256 + loc % 256

/-- The channel that is retiring or retired (R164). -/
def retiree (s : State) : Option Nat :=
  (List.range 16).find? (fun c => decide ((chanAt s c).state = .retiring) || decide ((chanAt s c).state = .retired))

/-- The FSA that lies at a data offset of a channel now, if one does. -/
def fsaAt (s : State) (c loc : Nat) : Option Nat :=
  if loc < normalSpace s then (let f := fsaOf c loc; if placeOf s f = (c, loc) then some f else none)
  else match retiree s with
    | none => none
    | some r =>
      let o := loc - normalSpace s
      let k := 15 * (o / 256) + (if c < r then c else c - 1)
      let f := fsaOf r (k * 256 + o % 256)
      if c ≠ r ∧ k < chanGranules s ∧ placeOf s f = (c, loc) then some f else none

/-- The number of a place that no FSA names. -/
def looseAt (c loc : Nat) : Nat := c * 2 ^ 36 + loc

/-- The rank that holds a data offset of a channel: the ranks lie one above the other (DESIGN CHOICE, log entry 179). -/
def rankOf (s : State) (loc : Nat) : Nat := physOf loc / (s.fs.cfg.density * 134217728)

/-- The usable bandwidth of an active channel at a speed bin and multiplier (R158). -/
def chanMbps (speed mult : Nat) : Nat :=
  if speed = 8533 then (if mult = 0 then 11875 else if mult = 1 then 11125 else 9625)
  else if speed = 7500 then (if mult = 0 then 10437 else if mult = 1 then 9778 else 8459)
  else (if mult = 0 then 8906 else if mult = 1 then 8344 else 7219)

/-- `FS_USABLE` (R158), of a store that has been brought up. -/
def fsUsable (s : State) : Nat :=
  if !s.fs.brought then 0 else
  (List.range 16).foldl (fun a c =>
    if (chanAt s c).state = .active then a + chanMbps s.fs.cfg.speed (chanAt s c).mult else a) 0

/-- A request brings the rank it names out of power-down (R156). -/
def wakeRank (c loc : Nat) (s : State) : State :=
  let r := rankOf s loc
  if (chanAt s c).pdRanks.contains r then modChan c (fun x => { x with pdRanks := x.pdRanks.filter (fun q => decide (q ≠ r)) }) s else s

/-- The record of an uncorrectable read (R536 kind 7, R547). -/
def fsUeFault (line c : Nat) (s : State) : State := logFault 7 c (line % 2 ^ 32) s

/-- A range overlaps a ledger buffer or the valid-line map region (R172). -/
def ledgerOverlap (s : State) (a n : Nat) : Bool :=
  decide (a < 8388608) || anyUpTo 64 (fun p => let q := tabGet s.ledger.pools p
    q.used && decide (a < q.base + q.size * q.count) && decide (q.base < a + n))

/-- An open FS_FILL holds bytes of a range. -/
def fillHeld (s : State) (a n : Nat) : Bool :=
  (openJobs s).any (fun j => match j with
    | .fsFill f m _ _ => decide (f < a + n) && decide (a < f + m)
    | _ => false)

/-- An FS_FILL is open. -/
def fillHeldAny (s : State) : Bool :=
  (openJobs s).any (fun j => match j with
    | .fsFill _ _ _ _ => true
    | _ => false)

/-- An FS_CHANNEL_RETIRE is open. -/
def retireHeld (s : State) : Bool :=
  (openJobs s).any (fun j => match j with
    | .retire _ _ _ => true
    | _ => false)

/-- Every channel but `c` is trained or failed. -/
def fsAllTrained (c : Nat) (s : State) : Bool :=
  (List.range 16).all (fun k => decide (k = c) || (chanAt s k).trained || decide ((chanAt s k).state = .failed))

/-- The valid bits of a buffer that lie outside the granules of a channel: its map of 2 KiB has eight granules (R172). -/
def mapWithout (c b valid : Nat) : Nat :=
  (List.range 8).foldl (fun v i =>
    if chanOf (b * 2048 + 256 * i) = c then v - v / 2 ^ (2048 * i) % 2 ^ 2048 * 2 ^ (2048 * i) else v) valid

/-- The granules of a channel that is retired without migration read as zero, those of the valid-line map among them (R155). -/
def dropGranules (c : Nat) (s : State) : State :=
  let out := fun (line : Nat) => decide (chanOf (64 * line) ≠ c)
  { s with
    fs.mem := s.fs.mem.filter (fun e => decide (chanOf e.1 ≠ c)), fs.ecc := s.fs.ecc.filter (fun e => out e.1),
    fs.raw := s.fs.raw.filter (fun e => out e.1),
    ledger.bufs := s.ledger.bufs.foldl (fun t e => tabMod t e.1 (fun x => { x with valid := mapWithout c e.1 x.valid })) s.ledger.bufs }

/-- The open FS_CHANNEL_RETIRE ends (R163). -/
def finishRetire (s : State) : State :=
  finishCmds (fun c => match c.phase with
    | .stepping (.retire _ _ _) => true
    | _ => false) .ok 0 [] s

/-- Apply a change of channels; where `FS_USABLE` changes, event 868 is raised, the
restore hold restarts and an evaluation is due (R159, R350, R354). -/
def withUsable (f : State → State) (s : State) : State :=
  let t := f s
  if fsUsable t = fsUsable s then t
  else raise 868 { t with pic.shed.holding := decide (0 < t.pic.shed.holdMs), pic.shed.evalDue := true }

/-- A byte as stored: the first 8 MiB hold the valid-line maps, 2 KiB for each buffer (R172) (DESIGN CHOICE, log entry 19; PRESUMED, log entry 45). -/
def storedByte (s : State) (a : Nat) : Byte :=
  if a < 8388608 then BitVec.ofNat 8 ((tabGet s.ledger.bufs (a / 2048)).valid / 2 ^ (8 * (a % 2048)))
  else tabGet s.fs.mem a

/-- The 64 bytes of a line as stored. -/
def lineBytes (s : State) (line : Nat) : List Byte := (List.range 64).map (fun i => storedByte s (64 * line + i))

/-- Store bytes at an FSA. -/
def pokeBytes (a : Nat) : List Byte → Tab Byte → Tab Byte
  | [], m => m
  | b :: l, m => pokeBytes (a + 1) l (tabSet m a b)

/-- Start retirement of a channel (R163 step 2). -/
def startRetire (c : Nat) (s : State) : State :=
  raise 872 (withUsable (fun s => modChan c (fun x => { x with dead := decide (x.state = .failed), state := .retiring, migrated := 0 }) { s with fs.migrateNext := 0 }) s)

/-- A channel is retiring or retired, so none other can be (R164). -/
def anyRetired (s : State) : Bool :=
  anyUpTo 16 (fun c => decide ((chanAt s c).state = .retiring) || decide ((chanAt s c).state = .retired))

/-- Automatic retirement (R163): the uncorrectable reads of a channel within one scrub period reach the limit. -/
def autoRetire (c : Nat) (s : State) : State :=
  let now := runTime s
  let s1 := modChan c (fun x => { x with
    ueTimes := (x.ueTimes.filter (fun t => decide (now < t + s.fs.scrubH * 3600 * secUnits))) ++ [now] }) s
  if s.fs.autoRetire ∧ s.fs.autoLimit ≤ (chanAt s1 c).ueTimes.length ∧ s.fs.cfg.reserve ∧ s.fs.fillDone ∧
      !anyRetired s ∧ (chanAt s c).state = .active then startRetire c s1 else s1

/-- Put a line into the patrol log, within its 1,024 records (R147). -/
def patrolLog (line c : Nat) (rep : Bool) (s : State) : State :=
  let p := s.fs.patrol
  if p.log.length < 1024 then
    { s with fs.patrol.log := p.log ++ [{ fsa := 64 * line, channel := c, repeated := rep, pass := p.pass }] }
  else { s with fs.patrol.lost := p.lost + 1 }

/-- Count a corrected line of channel `c` (R144): CE set, event 864 as CE rises. -/
def countCe (c : Nat) (s : State) : State :=
  let s1 := modChan c (fun x => { x with ctr.ce := satAdd 0xFFFFFFFF x.ctr.ce 1, ueRun := 0 }) s
  if s.fs.ce then s1 else raise 864 { s1 with fs.ce := true }

/-- Report a corrected line (R144): counted where it lies, and the corrected line written back. -/
def reportCe (line : Nat) (s : State) : State := countCe (placeOf s (64 * line)).1 { s with fs.ecc := tabSet s.fs.ecc line {} }

/-- Report an uncorrectable line of channel `c` (R145, R147, R163): counted, latched, UE set, event 865, logged, a line found again
too (DESIGN CHOICE, log entry 212). -/
def countUe (line c : Nat) (s : State) : State :=
  let s1 := modChan c (fun x => { x with ctr.ue := satAdd 0xFFFFFFFF x.ctr.ue 1, ueRun := x.ueRun + 1 }) s
  let s2 : State := { s1 with fs.ue := true, fs.lastUe := 64 * line, fs.lastUeChan := c, fs.lastUeValid := true }
  autoRetire c (patrolLog line c false (fsUeFault line c (raise 865 s2)))

/-- Report an uncorrectable line where it lies. -/
def reportUe (line : Nat) (s : State) : State := countUe line (placeOf s (64 * line)).1 s

/-- Whether an access to an FSA lies beyond the capacity (R141). -/
def beyond (s : State) (fsa : Nat) : Bool := decide (capacity s ≤ fsa)
/-- Whether an access to an FSA lies above the fill boundary before DONE (R149). -/
def aboveFill (s : State) (fsa : Nat) : Bool := !s.fs.fillDone && decide (s.fs.fillPtr * 65536 ≤ fsa)

/-- Whether the read of a line with at least three wrong symbols is taken as good: a free value (R143) (DESIGN CHOICE, log entry 12). -/
def miscorrects (e : LineEcc) (s : State) : Bool := decide (3 ≤ e.symbols) && !e.poison && Config.freeMiscorrect s.free

/-- The check word of 64 data bytes (R143). -/
def codeWord (d : List Byte) : List Byte := leBytes 4 (Config.freeCheckWord d)

/-- In how many symbols a line and its check word differ from the codeword of some data (R143). -/
def symbolsOff (d : List Byte) (chk : Nat) (good : List Byte) : Nat :=
  ((d ++ leBytes 4 chk).zip (good ++ codeWord good)).countP (fun p => decide (p.1 ≠ p.2))

/-- The corrected data of a line with one wrong symbol (R143, R144), of its bytes and of what DIAG_FS_RAW wrote beside them: with
a check word of its own, the data of the codeword one symbol away, and a free value where the model knows of none. -/
def corrected (d : List Byte) (raw : Option RawCheck) : List Byte :=
  match raw with
  | none => d
  | some r => match r.good with
    | some g => if symbolsOff d r.chk g = 1 then g else (List.range 64).map (Config.freeCorrected d r.chk)
    | none => (List.range 64).map (Config.freeCorrected d r.chk)

/-- The corrected data of a line of the FSA. -/
def correctedLine (s : State) (line : Nat) : List Byte := corrected (lineBytes s line) (tabGet s.fs.raw line)

/-- A channel whose reads return poisoned zeros and whose writes are discarded: it has failed, and keeps so for what has not
migrated (R164, R540). -/
def chanDead (s : State) (c : Nat) : Bool :=
  decide ((chanAt s c).state = .failed) || (decide ((chanAt s c).state = .retiring) && (chanAt s c).dead)

/-- Read one line (R141, R143 to R145, R149, R164): its bytes, its poison mark and the state after (DEDUCED, log entry 59). A
store that is not brought up reads as zero and takes no write (DEDUCED, log entry 59; DESIGN CHOICE, log entry 180). -/
def fsReadLine (line : Nat) (s : State) : List Byte × Bool × State :=
  let a := 64 * line
  let zeros := List.replicate 64 (0 : Byte)
  let p := placeOf s a
  if beyond s a then (zeros, false, raise 875 { s with fs.oor := true })
  else if aboveFill s a then (zeros, false, raise 866 { s with fs.unfilled := true })
  else if !s.fs.up then (zeros, false, s)
  else if chanDead s p.1 then (zeros, true, s)
  else
    let e := tabGet s.fs.ecc line
    let s0 := wakeRank p.1 p.2 s
    if e.poison ∨ e.symbols = 2 then (zeros, true, reportUe line s0)
    else if e.symbols = 0 then (lineBytes s0 line, false, s0)
    else if e.symbols = 1 then
      let b := correctedLine s0 line
      (b, false, reportCe line { s0 with fs.mem := pokeBytes a b s0.fs.mem, fs.raw := tabSet s0.fs.raw line none })
    else if miscorrects e s0 then
      let b := (List.range 64).map (fun i => Config.freeLineByte (s0.free + i))
      (b, false, reportCe line { s0 with fs.mem := pokeBytes a b s0.fs.mem, fs.raw := tabSet s0.fs.raw line none, free := s0.free + 64 })
    else (zeros, true, reportUe line { s0 with free := s0.free + 1 })

/-- Write bytes within one line, from offset `off` of the line (R141, R146, R149, R164). -/
def fsWriteLine (line off : Nat) (b : List Byte) (s : State) : State :=
  let a := 64 * line
  let p := placeOf s a
  if beyond s a then raise 875 { s with fs.oor := true }
  else if aboveFill s a then raise 866 { s with fs.unfilled := true }
  else if !s.fs.up then s
  else if chanDead s p.1 then s
  else if off = 0 ∧ b.length = 64 then
    let s0 := wakeRank p.1 p.2 s
    { s0 with fs.mem := pokeBytes a b s0.fs.mem, fs.ecc := tabSet s0.fs.ecc line {}, fs.raw := tabSet s0.fs.raw line none }
  else
    let r := fsReadLine line s
    let s1 := r.2.2
    if r.2.1 then
      { s1 with fs.mem := pokeBytes (a + off) b (pokeBytes a (List.replicate 64 0) s1.fs.mem), fs.ecc := tabSet s1.fs.ecc line { poison := true }, fs.raw := tabSet s1.fs.raw line none }
    else { s1 with fs.mem := pokeBytes (a + off) b s1.fs.mem }

/-- A write to a line reaches it (R141, R149, R164). -/
def lineTakes (s : State) (line : Nat) : Bool :=
  !beyond s (64 * line) && !aboveFill s (64 * line) && s.fs.up && !chanDead s (placeOf s (64 * line)).1

/-- Write the given bytes of one line, any of its 64 (R146): all of them make a whole line, and fewer a partial one with one
internal read. -/
def fsWriteMasked (line : Nat) (b : List (Option Byte)) (s : State) : State :=
  let full := (List.range 64).all (fun i => (b.getD i none).isSome)
  if full ∨ !lineTakes s line then fsWriteLine line 0 ((List.range 64).map (fun i => (b.getD i none).getD 0)) s
  else
    let r := fsReadLine line s
    let old := if r.2.1 then List.replicate 64 (0 : Byte) else lineBytes r.2.2 line
    let s1 : State := { r.2.2 with
      fs.mem := pokeBytes (64 * line) ((List.range 64).map (fun i => (b.getD i none).getD (old.getD i 0))) r.2.2.fs.mem }
    if r.2.1 then { s1 with fs.ecc := tabSet s1.fs.ecc line { poison := true }, fs.raw := tabSet s1.fs.raw line none } else s1

/-- Read `n` bytes from an FSA, line by line: the bytes, whether any line was poisoned, and the state after. -/
def fsRead (fsa n : Nat) (s : State) : List Byte × Bool × State :=
  if n = 0 then ([], false, s) else
  let l0 := fsa / 64
  let lines := (fsa + n - 1) / 64 - l0 + 1
  let r := (List.range lines).foldl (fun (acc : List Byte × Bool × State) i =>
    let x := fsReadLine (l0 + i) acc.2.2
    (acc.1 ++ x.1, acc.2.1 || x.2.1, x.2.2)) (([], false, s) : List Byte × Bool × State)
  ((r.1.drop (fsa % 64)).take n, r.2.1, r.2.2)

/-- Write bytes at an FSA, line by line. -/
def fsWrite (fsa : Nat) (b : List Byte) (s : State) : State :=
  if b.isEmpty then s else
  let l0 := fsa / 64
  let lines := (fsa + b.length - 1) / 64 - l0 + 1
  (List.range lines).foldl (fun t i =>
    let line := l0 + i
    let lo := max fsa (64 * line)
    let hi := min (fsa + b.length) (64 * line + 64)
    fsWriteLine line (lo - 64 * line) ((b.drop (lo - fsa)).take (hi - lo)) t) s

/-- FS_INFO (R137). -/
def cmdFsInfo (_ : Cmd) (s : State) : CmdRes :=
  let c := s.fs.cfg
  let mask := (List.range 16).foldl (fun a k => if s.fs.brought ∧ (chanAt s k).state = .active then a + 2 ^ k else a) 0
  doneWith (leBytes 1 c.ranks ++ leBytes 1 c.density ++ leBytes 2 c.speed ++ leBytes 1 (b2n c.reserve) ++ leBytes 1 0 ++
    leBytes 2 mask ++ leBytes 8 (capacity s) ++ leBytes 4 (fsUsable s)) s

/-- FS_POLICY_SET (R147, R156, R161, R163). -/
def cmdFsPolicySet (c : Cmd) (s : State) : CmdRes :=
  checks s [tooShort c 8, bad (decide (4000 < c.u16 0)), bad (decide (c.u16 2 = 0) || decide (1000 < c.u16 2)),
    bad (decide (c.u8 4 = 0) || decide (168 < c.u8 4)), bad (decide (1 < c.u8 5)), bad (decide (c.u16 6 = 0))]
    (done { s with fs.pdIdle := c.u16 0, fs.agingUs := c.u16 2, fs.scrubH := c.u8 4, fs.autoRetire := decide (c.u8 5 = 1), fs.autoLimit := c.u16 6 })

/-- Write a pattern of 4 bytes through whole lines (FS_FILL). -/
def fillLines (fsa n : Nat) (p : List Byte) (s : State) : State :=
  let line := (List.replicate 16 p).flatten
  (List.range (n / 64)).foldl (fun t i => fsWriteLine (fsa / 64 + i) 0 line t) s

/-- 1 GiB, the step of FS_FILL and of the start-up fill. -/
def gib : Nat := 1073741824

/-- FS_FILL (R148): whole lines of a pattern, one step per 1 GiB. -/
def cmdFsFill (c : Cmd) (s : State) : CmdRes :=
  let a := c.u64 0
  let n := c.u64 8
  checks s [tooShort c 24, rsv c 20 4, bad (decide (a % 65536 ≠ 0)), bad (decide (n = 0) || decide (n % 65536 ≠ 0)),
    bad (decide (capacity s < a + n)), ownerIf (ledgerOverlap s a n) unstated, busyIf (!s.fs.fillDone) 0,
    busyIf (fillHeld s a n || retireHeld s) 0]
    (.accept (.fsFill a n (c.bytes 16 4) (min gib n)) (if n ≤ gib then some (.ok, 0, []) else none)
      (fillLines a (min gib n) (c.bytes 16 4) s))

/-- One further step of FS_FILL. -/
def stepFsFill (a n : Nat) (p : List Byte) (d : Nat) (s : State) : Nat × State :=
  let k := min gib (n - d)
  (d + k, fillLines (a + d) k p s)

/-- The 16 bytes of a patrol log record. -/
def patrolBytes (r : PatrolRec) : List Byte :=
  leBytes 8 r.fsa ++ leBytes 1 r.channel ++ leBytes 1 (b2n r.repeated) ++ leBytes 2 0 ++ leBytes 4 r.pass

/-- FS_PATROL_REPORT (R147): the log is written to host memory and the records written leave it. -/
def cmdFsPatrolReport (c : Cmd) (s : State) : CmdRes :=
  let a := c.u64 0
  let n := c.u32 8
  let k := min (n / 16) s.fs.patrol.log.length
  let recs := s.fs.patrol.log.take k
  let lost := s.fs.patrol.lost
  checks s [tooShort c 16, rsv c 12 4, bad (decide (a % 4 ≠ 0)), bad (decide (n < 16) || decide (16384 < n))]
    (match hostWrite a (recs.map patrolBytes).flatten s with
     | none => .accept (.patrolReport a n 0) (some (.timeout, unstated, leBytes 4 0 ++ leBytes 4 lost)) s
     | some s1 => .accept (.patrolReport a n k) (some (.ok, 0, leBytes 4 k ++ leBytes 4 lost))
        { s1 with fs.patrol.log := s.fs.patrol.log.drop k, fs.patrol.lost := 0 })

/-- FS_CHANNEL_RETIRE (R163, R164). -/
def cmdFsChannelRetire (c : Cmd) (s : State) : CmdRes :=
  let k := c.u8 0
  checks s [tooShort c 4, rsv c 1 3, bad (decide (15 < k)),
    stateIf (!s.fs.cfg.reserve || (anyRetired s && !retireHeld s) || !s.fs.fillDone) unstated,
    busyIf (retireHeld s || fillHeldAny s) 0]
    (.accept (.retire k 0 (chanGranules s)) none (startRetire k s))

/-- FS_READ_REQUEST (R145): the line read is the one that holds an FSA; `upset` symbols of it have gone wrong since. -/
def fsReadRequest (fsa upset : Nat) (s : State) : State :=
  let line := fsa / 64
  let s1 : State := { s with fs.ecc := tabMod s.fs.ecc line (fun e => { e with symbols := e.symbols + upset }) }
  (fsReadLine line (if upset = 0 then s else s1)).2.2

/-- FS_WRITE_REQUEST (R146). -/
def fsWriteRequest (fsa : Nat) (b : List Byte) (s : State) : State := fsWrite fsa b s

/-- BE_AGING_PROMOTION (R161). -/
def beAging (c : Nat) (s : State) : State :=
  modChan c (fun x => { x with ctr.aged := satAdd 0xFFFFFFFF x.ctr.aged 1 }) s

/-- The lines that a patrol pass reads: those of the FSA, then those of the retirement reserve (R147). -/
def patrolLines (s : State) : Nat := capacity s / 64 + 16 * (dataSpace s - normalSpace s) / 64

/-- The patrol reads a line of the FSA where it lies (R147): of an active channel only. The result says whether it was
corrected. -/
def scrubLine (line upset : Nat) (s : State) : Bool × State :=
  let e := tabGet s.fs.ecc line
  let s0 : State := { s with fs.ecc := tabSet s.fs.ecc line { e with symbols := e.symbols + upset } }
  if (chanAt s (placeOf s (64 * line)).1).state ≠ .active then (false, s0)
  else
    let r := fsReadLine line s0
    (!r.2.1 && decide (e.symbols + upset ≠ 0), r.2.2)

/-- The patrol reads a line of the reserve that no FSA names (R147); it is reported by its number in the pass (DESIGN CHOICE,
log entry 181); a corrected one is written back (DESIGN CHOICE, log entry 181). -/
def scrubReserve (line upset : Nat) (s : State) : Bool × State :=
  let j := line - capacity s / 64
  let c := j % 16
  let loc := normalSpace s + j / 16 * 64
  let at_ := looseAt c loc
  let e := tabGet s.fs.looseEcc (at_ / 64)
  let raw := tabGet s.fs.looseRaw (at_ / 64)
  let d := (List.range 64).map (fun j => tabGet s.fs.loose (at_ + j))
  let n := e.symbols + upset
  let put := fun (x : LineEcc) (s : State) => ({ s with fs.looseEcc := tabSet s.fs.looseEcc (at_ / 64) x } : State)
  let mend := fun (b : List Byte) (s : State) =>
    ({ s with fs.loose := pokeBytes at_ b s.fs.loose, fs.looseRaw := tabSet s.fs.looseRaw (at_ / 64) none } : State)
  if (fsaAt s c loc).isSome ∨ (chanAt s c).state ≠ .active then (false, s)
  else if e.poison ∨ n = 2 ∨ (3 ≤ n ∧ !Config.freeMiscorrect s.free) then
    (false, countUe line c (put { e with symbols := n } { wakeRank c loc s with free := s.free + 1 }))
  else if n = 0 then (false, wakeRank c loc s)
  else if n = 1 then (true, countCe c (put {} (mend (corrected d raw) (wakeRank c loc s))))
  else (true, countCe c (put {} (mend ((List.range 64).map (fun i => Config.freeLineByte (s.free + i))) { wakeRank c loc s with free := s.free + 64 })))

/-- PATROL_SCRUB_READ (R147): the next line of an active channel, with its report; the end of a pass raises 874 (DEDUCED, log entry 60). -/
def patrolRead (upset : Nat) (s : State) : State :=
  if !s.fs.fillDone ∨ !s.fs.up then s else
  let line := s.fs.patrol.line
  let c := if line < capacity s / 64 then (placeOf s (64 * line)).1 else (line - capacity s / 64) % 16
  let r := if line < capacity s / 64 then scrubLine line upset s else scrubReserve line upset s
  let s2 : State := if r.1 then { r.2 with fs.patrol.corrected := line :: r.2.fs.patrol.corrected } else r.2
  let s3 := if r.1 && s.fs.patrol.correctedBefore.contains line then patrolLog line c true s2 else s2
  if line + 1 < patrolLines s then { s3 with fs.patrol.line := line + 1 }
  else raise 874 { s3 with fs.patrol := { s3.fs.patrol with
    line := 0, pass := s3.fs.patrol.pass + 1, correctedBefore := s3.fs.patrol.corrected, corrected := [] } }

/-- Zeros and valid check words through a range of the FSA (R148). -/
def zeroRange64 (lo hi : Nat) (s : State) : State :=
  let out := fun (line : Nat) => decide (64 * line < lo) || decide (hi ≤ 64 * line)
  { s with fs.mem := s.fs.mem.filter (fun e => decide (e.1 < lo) || decide (hi ≤ e.1)), fs.ecc := s.fs.ecc.filter (fun e => out e.1),
           fs.raw := s.fs.raw.filter (fun e => out e.1) }

/-- A request to every channel from one data offset to another brings the ranks that hold them out of power-down (R156). -/
def wakeRange (lo hi : Nat) (s : State) : State :=
  forUpTo 16 (fun c s => forUpTo s.fs.cfg.ranks (fun r s => if rankOf s lo ≤ r ∧ r ≤ rankOf s (hi - 1) then
    modChan c (fun x => if x.pdRanks.contains r then { x with pdRanks := x.pdRanks.filter (fun q => decide (q ≠ r)) } else x) s else s) s) s

/-- STARTUP_FILL_STEP (R148): one more GiB of the FSA is filled with zeros and check words, and after the last the retirement
reserve. -/
def startupFillStep (s : State) : State :=
  if !s.fs.up ∨ s.fs.fillDone then s
  else if s.fs.fillPtr < capacityUnits s then
    let p := min (capacityUnits s) (s.fs.fillPtr + 16384)
    { zeroRange64 (65536 * s.fs.fillPtr) (65536 * p) (wakeRange (4096 * s.fs.fillPtr) (4096 * p) s) with fs.fillPtr := p }
  else { wakeRange (normalSpace s) (dataSpace s) s with fs.loose := [], fs.looseEcc := [], fs.looseRaw := [], fs.spare := [], fs.reserveFilled := true }

/-- STARTUP_FILL_DONE (R148): DONE and event 867. -/
def startupFillDone (s : State) : State :=
  if s.fs.up ∧ !s.fs.fillDone ∧ s.fs.fillPtr = capacityUnits s ∧ (s.fs.reserveFilled ∨ !s.fs.cfg.reserve) then raise 867 { s with fs.fillDone := true } else s

/-- The delays that training finds: free values (R151) (DESIGN CHOICE, log entry 13). -/
def trainedDelays (n : Nat) : FsDelays :=
  let d := fun i => Config.freeTraining n i
  { ca := d 0 % 512, ck := d 1 % 512, wck := d 2 % 512, wr0 := d 3 % 512, wrDmi0 := d 4 % 512, wr1 := d 5 % 512, wrDmi1 := d 6 % 512,
    rd0 := d 7 % 512, rdGate0 := d 8 % 32, rd1 := d 9 % 512, rdGate1 := d 10 % 32, vref0 := d 11 % 128, vref1 := d 12 % 128, vrefCa := d 13 % 128 }

/-- A channel is to be trained (R151, R540): at boot or on exit from STANDBY, once, and not one that has failed. -/
def chanToTrain (s : State) (c : Nat) : Bool :=
  !(chanAt s c).trained && decide ((chanAt s c).state ≠ .failed)

/-- CHANNEL_TRAINING (R151, R155): the delays are set, or the channel is retired or the store stays down. A retired channel that
fails stays retired, and a channel that fails when the reserve is taken leaves the store down (DEDUCED, log entry 213). -/
def channelTraining (c : Nat) (ok : Bool) (s : State) : State :=
  if !chanToTrain s c then s
  else if ok then
    (if s.power.waking then countReload else id) <| withUsable (fun s => { modChan c (fun x => { x with
      trained := true, retrain := false, nudge0 := 0, nudge1 := 0, nudgeDue := none, temp := (Config.freeTemp s.free).toInt,
      trainings := satAdd 15 x.trainings 1, delays := trainedDelays s.free }) s with free := s.free + 1, fs.up := s.fs.up || fsAllTrained c s, fs.brought := s.fs.brought || fsAllTrained c s, power.waking := s.power.waking && !fsAllTrained c s }) s
  else if (chanAt s c).state = .retired then
    raise 876 { modChan c (fun x => { x with trained := true }) s with
      fs.up := s.fs.up || fsAllTrained c s, fs.brought := s.fs.brought || fsAllTrained c s, power.waking := s.power.waking && !fsAllTrained c s }
  else if s.fs.cfg.reserve ∧ !anyRetired s then
    raise 876 (withUsable (fun s => { modChan c (fun x => { x with state := .retired, trained := true }) (dropGranules c s) with
      fs.up := s.fs.up || fsAllTrained c s, fs.brought := s.fs.brought || fsAllTrained c s, power.waking := s.power.waking && !fsAllTrained c s }) s)
  else raise 876 (withUsable (fun s => { s with fs.up := false, fs.brought := false }) s)

/-- WCK_OSC_READ (R152): a drift of at least one step queues a nudge of at most 2 steps a lane. -/
def wckOscRead (c : Nat) (drift0 drift1 : Int) (s : State) : State :=
  if !firmwareRunning s ∨ !(chanAt s c).trained then s
  else if drift0 = 0 ∧ drift1 = 0 then s
  else modChan c (fun x => { x with nudgeDue := some (clampI (-2) 2 drift0, clampI (-2) 2 drift1) }) s

/-- Add a signed nudge to a 9-bit delay field, within the field. -/
def nudged (d : Nat) (n : Int) : Nat := (clampI 0 511 ((d : Int) + n)).toNat

/-- NUDGE_APPLY (R152, R153): every data delay of a byte lane moves; nudges pause while the Onyx pair restarts. -/
def nudgeApply (c : Nat) (s : State) : State :=
  match if firmwareRunning s then (chanAt s c).nudgeDue else none with
  | none => s
  | some (a, b) =>
    let x := chanAt s c
    let y : Channel := { x with
      nudgeDue := none, nudge0 := clampI (-128) 127 (x.nudge0 + a), nudge1 := clampI (-128) 127 (x.nudge1 + b), ctr.nudge := satAdd 0xFFFFFFFF x.ctr.nudge 1,
      delays := { x.delays with wr0 := nudged x.delays.wr0 a, wrDmi0 := nudged x.delays.wrDmi0 a,
                                wr1 := nudged x.delays.wr1 b, wrDmi1 := nudged x.delays.wrDmi1 b,
                                rd0 := nudged x.delays.rd0 a, rd1 := nudged x.delays.rd1 b } }
    let reached := decide (x.nudge0.natAbs < 16) && decide (16 ≤ y.nudge0.natAbs) || decide (x.nudge1.natAbs < 16) && decide (16 ≤ y.nudge1.natAbs)
    let s1 := modChan c (fun _ => if reached then { y with retrain := true } else y) s
    if reached then raise 871 s1 else s1

/-- The refresh multiplier code of a temperature band 0 to 3 (R157). -/
def bandMult (band : Nat) : Nat := if band = 0 then 0 else if band = 1 then 1 else 2

/-- One channel at an MR4 poll (R157): a higher multiplier at once, a lower one after three lower polls in a row. -/
def pollChannel (c code band : Nat) (s : State) : State :=
  let x := chanAt s c
  if !x.trained then s else
  let m := bandMult band
  let low := if m < x.mult then x.lowPolls ++ [m] else []
  let new := if x.mult < m then m else if low.length = 3 then low.foldl max 0 else x.mult
  let hot := decide (band = 3)
  let s1 := modChan c (fun x => { x with
    mult := new, lowPolls := if low.length = 3 ∨ new ≠ x.mult then [] else low, dramTemp := code % 256, above105 := hot }) s
  let s2 := if new ≠ x.mult then raise 869 s1 else s1
  if hot ∧ !x.above105 then raise 870 s2 else s2

/-- The MR4 code and the band of the hottest rank of a channel (R157): the polls list the ranks of C0, then those of C1. -/
def hottest (s : State) (c : Nat) (codes bands : List Nat) : Nat × Nat :=
  (List.range s.fs.cfg.ranks).foldl (fun m r =>
    let i := s.fs.cfg.ranks * c + r
    if m.2 < bands.getD i 0 ∨ (bands.getD i 0 = m.2 ∧ m.1 < codes.getD i 0) then (codes.getD i 0, bands.getD i 0) else m) (0, 0)

/-- MR4_POLL (R157, R159): every rank of every channel is polled at the same instant, by the controllers that are on. -/
def mr4Poll (codes bands : List Nat) (s : State) : State :=
  withUsable (forUpTo 16 (fun c s => let x := hottest s c codes bands; if (tabGet s.power.doms (11 + c / 4)).level = .on then pollChannel c x.1 x.2 s else s)) s

/-- The retiring channel, if there is one. -/
def retiringChan (s : State) : Option Nat := (List.range 16).find? (fun c => decide ((chanAt s c).state = .retiring))

/-- Leave what stands at a place that its FSA leaves. -/
def leaveBehind (c loc : Nat) (b : List Byte) (e : LineEcc) (r : Option RawCheck) (s : State) : State :=
  let n := looseAt c loc
  { s with fs.loose := pokeBytes n b s.fs.loose, fs.looseEcc := tabSet s.fs.looseEcc (n / 64) e, fs.looseRaw := tabSet s.fs.looseRaw (n / 64) r }

/-- Copy one line of the retiring channel to the reserve (R163): it is read, corrected and reported as any line is, and a
poisoned one is written poisoned, as is every line of a channel that has failed (R164, R540). -/
def copyLine (line : Nat) (s : State) : State :=
  let a := 64 * line
  let r := fsReadLine line s
  let q := reservePlace (localOf a / 256)
  let s0 := wakeRank (if q.1 < chanOf a then q.1 else q.1 + 1) (normalSpace s + q.2 * 256 + localOf a % 256) r.2.2
  let s1 := leaveBehind (chanOf a) (localOf a) (lineBytes s line) (tabGet s.fs.ecc line) (tabGet s.fs.raw line) s0
  { s1 with
    fs.mem := pokeBytes a r.1 s1.fs.mem, fs.ecc := tabSet s1.fs.ecc line { poison := r.2.1 }, fs.raw := tabSet s1.fs.raw line none }

/-- MIGRATION_GRANULE_COPY (R163): the next granule goes to the reserve and the pointer moves on by one (DEDUCED, log entry 35). -/
def migrationCopy (s : State) : State :=
  match retiringChan s with
  | none => s
  | some c =>
    let k := s.fs.migrateNext
    if k < chanGranules s then
      let s1 := forUpTo 4 (fun i => copyLine (fsaOf c (256 * k) / 64 + i)) s
      modChan c (fun x => { x with migrated := (k + 1) * 1000 / chanGranules s }) { s1 with fs.migrateNext := k + 1 }
    else s

/-- MIGRATION_COMPLETE (R163): STATE 2, event 873, and the command that started it ends. -/
def migrationComplete (s : State) : State :=
  match retiringChan s with
  | none => s
  | some c =>
    if s.fs.migrateNext = chanGranules s then
      finishRetire (raise 873 (modChan c (fun x => { x with state := .retired, migrated := 0 }) s))
    else s

/-- RANK_POWER_DOWN_ENTRY (R156); in IDLE every rank has an idle time, whatever the policy says (R507). -/
def rankPowerDown (c rank : Nat) (s : State) : State :=
  if (s.fs.pdIdle = 0 ∧ s.power.state ≠ .idle) ∨ s.fs.cfg.ranks ≤ rank ∨ (chanAt s c).pdRanks.contains rank ∨ (chanAt s c).selfRefresh then s
  else modChan c (fun x => { x with pdRanks := x.pdRanks ++ [rank] }) s

end Sys2Proof.Machine
end

