-- ==== Sys2Proof/Machine/Ledger.lean ====
section
/-! DEFINITION. The frame ledger: tokens, pools, buffers, references, line maps, and commands 0x0410 to 0x0413 (R166 to
R180). -/
namespace Sys2Proof.Machine
open Sys2Proof

/-- The class codes of R166. -/
def clsIngest : Nat := 1
/-- Record channel. -/
def clsRecord : Nat := 2
/-- Head write-back. -/
def clsHead : Nat := 3
/-- Stream packetizer. -/
def clsPacketizer : Nat := 4
/-- Depacketizer. -/
def clsDepack : Nat := 5
/-- DMA channel. -/
def clsDma : Nat := 6
/-- Mailbox client. -/
def clsMailbox : Nat := 7
/-- Firmware. -/
def clsFirmware : Nat := 8

/-- The current token of an agent (R166). -/
def agentToken (s : State) (cls inst : Nat) : Nat := 2048 * cls + 64 * inst + tabGet s.ledger.gens (32 * cls + inst)
/-- The class of a token. -/
def tokClass (t : Nat) : Nat := t / 2048
/-- The agent of a token, as 32 × CLASS + INSTANCE. -/
def tokAgent (t : Nat) : Nat := t / 64
/-- A token is a previous generation of its agent's current token (R174). -/
def tokStale (s : State) (t : Nat) : Bool := decide (t % 64 ≠ tabGet s.ledger.gens (tokAgent t))

/-- Buffer `b`. -/
def bufAt (s : State) (b : Nat) : Buffer := tabGet s.ledger.bufs b
/-- Pool `p`. -/
def poolAt (s : State) (p : Nat) : Pool := tabGet s.ledger.pools p
/-- Change buffer `b`. -/
def modBuf (b : Nat) (f : Buffer → Buffer) (s : State) : State := { s with ledger.bufs := tabMod s.ledger.bufs b f }
/-- Change pool `p`. -/
def modPool (p : Nat) (f : Pool → Pool) (s : State) : State := { s with ledger.pools := tabMod s.ledger.pools p f }

/-- The pool a buffer number belongs to (R170). -/
def poolOf (s : State) (b : Nat) : Option Nat :=
  (List.range 64).find? (fun p => let q := poolAt s p; q.used && decide (q.first ≤ b) && decide (b < q.first + q.count))

/-- The buffer numbers of a pool. -/
def poolBufs (q : Pool) : List Nat := (List.range q.count).map (fun i => q.first + i)

/-- REFS of a buffer (R173). -/
def refCount (s : State) (b : Nat) : Nat := (s.ledger.refs.filter (fun r => decide (r.buf = b))).length

/-- A (buffer, token) reference exists. -/
def holdsRef (s : State) (b tok : Nat) : Bool := s.ledger.refs.any (fun r => decide (r.buf = b) && decide (r.token = tok))

/-- An OWNED buffer that has been abandoned (R168). -/
def abandoned (x : Buffer) : Bool := decide (x.state = .owned) && decide (x.owner = 0)

/-- The FSA of a buffer's first byte (R170). -/
def bufBase (s : State) (b : Nat) : Nat :=
  match poolOf s b with
  | some p => (poolAt s p).base + (b - (poolAt s p).first) * (poolAt s p).size
  | none => 0

/-- The lowest element of a list by a key. -/
def argMin (key : Nat → Nat) : List Nat → Option Nat
  | [] => none
  | b :: l => match argMin key l with
    | none => some b
    | some c => if key b ≤ key c then some b else some c

/-! LOW of the ingest contexts, which follows their pools. -/

/-- Context `k`. -/
def inAt (s : State) (k : Nat) : Ingest := tabGet s.ingest.ctxs k
/-- Change context `k`. -/
def modIn (k : Nat) (f : Ingest → Ingest) (s : State) : State := { s with ingest.ctxs := tabMod s.ingest.ctxs k f }
/-- Raise source `j` of stream `k` (R231). -/
def raiseIn (k j : Nat) (s : State) : State := raise (544 + 8 * k + j) s
/-- AVAIL: buffers an acquire could take now (R220). -/
def poolAvail (s : State) (p : Nat) : Nat :=
  let q := poolAt s p
  ((poolBufs q).filter (fun b => decide ((bufAt s b).state = .free) ||
    (q.ring && decide ((bufAt s b).state = .published) && decide (refCount s b = 0)))).length

/-- LOW follows AVAIL; event 6 as AVAIL falls below LOW_MARK (R220, R231). -/
def updateLow (k : Nat) (s : State) : State :=
  let x := inAt s k
  let low := decide (poolAvail s x.cfg.pool < x.cfg.lowMark)
  let s1 := modIn k (fun x => { x with low := low }) s
  if low ∧ !x.low then raiseIn k 6 s1 else s1

/-- LOW of every ingest context of a pool follows what an acquire from the pool could take (R220, R231). -/
def lowCheck (p : Nat) (s : State) : State :=
  forUpTo 4 (fun k s => if (inAt s k).enabled ∧ (inAt s k).cfg.pool = p then updateLow k s else s) s

/-- The same for the pool of a buffer. -/
def lowCheckOf (b : Nat) (s : State) : State :=
  match poolOf s b with
  | some p => lowCheck p s
  | none => s

/-- Make a buffer FREE. -/
def freeBuf (b : Nat) (s : State) : State :=
  modBuf b (fun x => { x with state := .free, owner := 0, freeSeq := s.ledger.seq }) { s with ledger.seq := s.ledger.seq + 1 }

/-- The KEEP rule of a free-list pool (R171): an unreferenced PUBLISHED buffer not among the KEEP most recently
published returns to FREE. -/
def keepRule (p : Nat) (s : State) : State :=
  let q := poolAt s p
  if !q.used ∨ q.ring then s else
  let pub := (poolBufs q).filter (fun b => decide ((bufAt s b).state = .published))
  let newer := fun b => (pub.filter (fun c => decide ((bufAt s b).pubSeq < (bufAt s c).pubSeq))).length
  forEach (pub.filter (fun b => decide (q.keep ≤ newer b) && decide (refCount s b = 0))) freeBuf s

/-- What happens to a buffer whose REFS has fallen (R168, R171). -/
def afterRelease (b : Nat) (s : State) : State :=
  let s1 := if abandoned (bufAt s b) ∧ refCount s b = 0 then freeBuf b s else s
  match poolOf s1 b with
  | some p => lowCheck p (keepRule p s1)
  | none => s1

/-- The buffer an acquire takes (R171): the longest FREE, or in a ring the least recently published without
references; with it, whether it is a reclaim. -/
def acquirePick (s : State) (q : Pool) : Option (Nat × Bool) :=
  let l := poolBufs q
  match argMin (fun b => (bufAt s b).freeSeq) (l.filter (fun b => decide ((bufAt s b).state = .free))) with
  | some b => some (b, false)
  | none =>
    if q.ring then
      (argMin (fun b => (bufAt s b).pubSeq)
        (l.filter (fun b => decide ((bufAt s b).state = .published) && decide (refCount s b = 0)))).map (fun b => (b, true))
    else none

/-- An acquire under a token (R168, R171): the buffer, or a failure with its count and event 899. -/
def ledgerAcquire (p tok : Nat) (s : State) : Option Nat × State :=
  let q := poolAt s p
  if !q.used then (none, s) else
  match acquirePick s q with
  | some (b, rc) =>
    let s1 := modBuf b (fun x => { x with state := .owned, owner := tok, valid := 0, holeReads := 0 }) s
    (some b, lowCheck p (modPool p (fun q => { q with
      ctr.acq := satAdd 0xFFFFFFFF q.ctr.acq 1,
      ctr.reclaim := if rc then satAdd 0xFFFFFFFF q.ctr.reclaim 1 else q.ctr.reclaim }) s1))
  | none => (none, raise 899 (modPool p (fun q => { q with ctr.empty := satAdd 0xFFFFFFFF q.ctr.empty 1 }) s))

/-- The outcome of a publish, a discard or a reference release (R174). -/
inductive LgOut where
  | stale | ignored | rejected | ok
  deriving DecidableEq, Repr, Inhabited

/-- Record a release error (R174): event 896 or 897, and `LG_LAST_ERR`. -/
def releaseError (b tok : Nat) (rejected : Bool) (s : State) : State :=
  raise (if rejected then 897 else 896) { s with
    ledger.errBuf := b, ledger.errKind := if rejected then 2 else 1, ledger.errToken := tok }

/-- The row of R174 that a publish or discard meets (DESIGN CHOICE, log entry 216). -/
def writerCase (s : State) (b tok : Nat) : LgOut :=
  if tokStale s tok then .stale
  else if (bufAt s b).state = .free then .ignored
  else if (bufAt s b).state ≠ .owned ∨ (bufAt s b).owner ≠ tok then .rejected
  else .ok

/-- The row of R174 that a reference release meets (DEDUCED, log entry 61). -/
def releaseCase (s : State) (b tok : Nat) : LgOut :=
  if tokStale s tok then .stale
  else if holdsRef s b tok then .ok
  else if (bufAt s b).state = .free ∨ refCount s b = 0 then .ignored
  else .rejected

/-- Apply an operation under R174: only where the release takes effect does `f` apply. -/
def underRelease (o : LgOut) (b tok : Nat) (f : State → State) (s : State) : LgOut × State :=
  match o with
  | .stale => (.stale, s)
  | .ignored => (.ignored, releaseError b tok false s)
  | .rejected => (.rejected, releaseError b tok true s)
  | .ok => (.ok, f s)

/-- Why a reference take is refused (R173), as the DETAIL of LEDGER_OP: 2 for the state, 3 for REFS, 4 for the table (DESIGN CHOICE, log entry 215). -/
def takeRefusal (follow : Bool) (b tok : Nat) (s : State) : Option Nat :=
  let x := bufAt s b
  if x.state = .free ∨ abandoned x ∨ x.state = .quarantined then some 2
  else if !follow ∧ x.state ≠ .published then some 2
  else if follow ∧ x.state = .owned ∧ x.owner ≠ tok ∧ ¬(2 ≤ tokClass tok ∧ tokClass tok ≤ 4) then some 2
  else if 255 ≤ refCount s b then some 3
  else if 16384 ≤ s.ledger.refs.length then some 4
  else none

/-- A reference take for one use under a token (R173): refused with event 901 for REFS or a full table, else entered in the
table. -/
def ledgerTakeFor (holder : Nat) (follow : Bool) (b tok : Nat) (s : State) : Option Nat × State :=
  match takeRefusal follow b tok s with
  | some d => (some d, if d = 2 then s else raise 901 s)
  | none => (none, lowCheckOf b { s with ledger.refs := s.ledger.refs ++ [{ buf := b, token := tok, holder := holder }] })

/-- A reference take under a token that tells its uses not apart (R173). -/
def ledgerTake (follow : Bool) (b tok : Nat) (s : State) : Option Nat × State := ledgerTakeFor 0 follow b tok s

/-- Take a reference for one use and forget the outcome, saying whether it was taken. -/
def takeRefFor (holder : Nat) (follow : Bool) (b tok : Nat) (s : State) : Bool × State :=
  let r := ledgerTakeFor holder follow b tok s
  (r.1.isNone, r.2)

/-- Take a reference and forget the outcome, saying whether it was taken. -/
def takeRef (follow : Bool) (b tok : Nat) (s : State) : Bool × State := takeRefFor 0 follow b tok s

/-- The newest mark at or before an instant (R407). -/
def markAt (l : List CapMark) (t : Nat) : CapMark := ((l.filter (fun m => decide (m.instant ≤ t))).getLast?).getD {}

/-- The mark of a record's header (R407): for MATCH 0 at the boundary of the capture frame, for MATCH 1 at the capture
instant; the timecode is that of the reference frame in progress there. -/
def recordMark (s : State) (match1 : Bool) (frame cap : Nat) : CapMark :=
  let b := if match1 then markAt s.mag.marks cap
    else ((s.mag.marks.filter (fun m => decide (m.frame = frame))).getLast?).getD {}
  let r := markAt s.mag.refMarks (if match1 then cap else b.instant)
  { b with tc := r.tc, sub := r.sub, drop := r.drop }

/-- Record channel `c`. -/
def recAt (s : State) (c : Nat) : RecChan := tabGet s.mag.chans c
/-- Change record channel `c`. -/
def modRec (c : Nat) (f : RecChan → RecChan) (s : State) : State := { s with mag.chans := tabMod s.mag.chans c f }
/-- Raise source `k` of record channel `c` (R427). -/
def raiseRec (c k : Nat) (s : State) : State := raise (624 + 8 * c + k) s

/-- Count capture frames that are missing (R411). -/
def recGap (c n : Nat) (s : State) : State :=
  if n = 0 then s else
  raiseRec c 5 (modRec c (fun x => { x with gapNext := x.gapNext + n, ctr.gap := (x.ctr.gap + n) % 2 ^ 32 }) s)

/-- A clip picture is taken: referenced under the channel's token and put behind the others (R411, R412). A picture whose
reference the ledger refuses is missing (DEDUCED, log entry 96). -/
def recTake (c b : Nat) (preroll : Bool) (s : State) : State :=
  let x := recAt s c
  let f := bufAt s b
  let r := takeRef false b (agentToken s clsRecord c) s
  if r.1 then
    modRec c (fun x => { x with
      backlog := x.backlog ++ [{ idx := x.count, buf := b, gap := x.gapNext, preroll := preroll,
                                 mark := recordMark s x.cfg.match1 f.frame (f.capSec * secUnits + f.capNs * nsUnits) }],
      count := x.count + 1, gapNext := 0 }) r.2
  else if preroll then r.2 else recGap c 1 (modRec c (fun _ => x) r.2)

/-- A buffer published to a pool that a channel records, under MATCH 0 (R411). -/
def recMatch0 (c b : Nat) (s : State) : State :=
  let x := recAt s c
  let f := (bufAt s b).frame
  match x.start with
  | none => s
  | some fs =>
    let want := max x.nextFrame fs
    let stop := x.stop.getD (2 ^ 64)
    if x.ended ∨ f < want then s
    else
      let s1 := recGap c (min f stop - want) s
      let s2 := modRec c (fun x => { x with nextFrame := f + 1, ended := decide (stop ≤ f + 1) }) s1
      if f < stop then recTake c b false s2 else s2

/-- The capture instant of a buffer. -/
def bufCap (s : State) (b : Nat) : Nat := (bufAt s b).capSec * secUnits + (bufAt s b).capNs * nsUnits

/-- The pictures of a clip that the main stream has not begun, in CAP order (R411). -/
def capOrder (s : State) (x : RecChan) : List ClipPicture :=
  let late := fun (p : ClipPicture) => decide (x.main ≤ p.idx) && !p.preroll
  let l := x.backlog.filter late
  x.backlog.filter (fun p => !late p) ++
    ((l.mergeSort (fun a b => decide (bufCap s a.buf ≤ bufCap s b.buf))).zip (l.map (·.idx))).map (fun q => { q.1 with idx := q.2 })

/-- A buffer published to a pool that a channel records, under MATCH 1 (R411): in CAP order with those that wait (DEDUCED, log entry 226). -/
def recMatch1 (c b : Nat) (s : State) : State :=
  let x := recAt s c
  let cap := bufCap s b
  match x.startAt with
  | none => s
  | some t =>
    if !x.ended ∧ t ≤ cap ∧ x.stopAt.all (fun u => decide (cap < u)) then
      let s1 := recTake c b false s
      modRec c (fun x => { x with lastCap := max x.lastCap cap, backlog := if cap < x.lastCap then capOrder s1 x else x.backlog }) s1
    else s

/-- The record channels look at a buffer that has been published to pool `p` (R411). -/
def recPublished (p b : Nat) (s : State) : State :=
  forUpTo 2 (fun c s =>
    let x := recAt s c
    if x.enabled ∧ x.started ∧ x.cfg.pool = p ∧ (x.state = .recording ∨ x.state = .draining) then
      (if x.cfg.match1 then recMatch1 c b s else recMatch0 c b s) else s) s

/-- Publish by the owner (R168, R171): frame number and capture instant recorded; record channels take it (R411). -/
def ledgerPublish (b tok frame capSec capNs : Nat) (s : State) : LgOut × State :=
  underRelease (writerCase s b tok) b tok (fun s =>
    let s1 := modBuf b (fun x => { x with
      state := .published, owner := 0, frame := frame, capSec := capSec, capNs := capNs, pubSeq := s.ledger.seq })
      { s with ledger.seq := s.ledger.seq + 1 }
    match poolOf s1 b with
    | some p => lowCheck p (keepRule p (recPublished p b s1))
    | none => s1) s

/-- Discard by the owner (R168): FREE, or abandoned while references remain. -/
def ledgerDiscard (b tok : Nat) (s : State) : LgOut × State :=
  underRelease (writerCase s b tok) b tok (fun s =>
    if refCount s b = 0 then lowCheckOf b (freeBuf b s) else modBuf b (fun x => { x with owner := 0 }) s) s

/-- Remove the first reference of a token on a buffer. -/
def dropRef (b tok : Nat) : List RefEntry → List RefEntry
  | [] => []
  | r :: l => if r.buf = b ∧ r.token = tok then l else r :: dropRef b tok l

/-- A reference release (R174). -/
def ledgerRelease (b tok : Nat) (s : State) : LgOut × State :=
  underRelease (releaseCase s b tok) b tok (fun s =>
    afterRelease b { s with ledger.refs := dropRef b tok s.ledger.refs }) s

/-- The reference that one use of a token holds on a buffer is the first of them. -/
def refFirst (holder b tok : Nat) (l : List RefEntry) : List RefEntry :=
  let mine := fun (r : RefEntry) => decide (r.buf = b) && decide (r.token = tok) && decide (r.holder = holder)
  match l.find? mine with
  | some r => r :: l.eraseP mine
  | none => l

/-- The release of the reference that one use of a token holds (R173, R174). -/
def ledgerReleaseFor (holder b tok : Nat) (s : State) : LgOut × State :=
  ledgerRelease b tok { s with ledger.refs := refFirst holder b tok s.ledger.refs }

/-- The buffers on which a token holds anything (R175). -/
def heldBufs (s : State) (tok : Nat) : List Nat :=
  (List.range 4096).filter (fun b => (decide ((bufAt s b).state = .owned) && decide ((bufAt s b).owner = tok)) || holdsRef s b tok)

/-- Everything an old token held is taken back (R175): event 900 once where it held anything. -/
def reclaimToken (tok : Nat) (s : State) : State :=
  let l := heldBufs s tok
  if l.isEmpty then s else
  let s1 := forEach l (fun b s =>
    if (bufAt s b).state = .owned ∧ (bufAt s b).owner = tok then
      (if (s.ledger.refs.filter (fun r => decide (r.buf = b) && decide (r.token ≠ tok))).isEmpty then
        freeBuf b { s with ledger.refs := s.ledger.refs.filter (fun r => decide (r.buf ≠ b)) }
       else modBuf b (fun x => { x with owner := 0 }) s)
    else s) s
  let s2 : State := { s1 with ledger.refs := s1.ledger.refs.filter (fun r => decide (r.token ≠ tok)) }
  raise 900 { forEach l afterRelease s2 with ledger.reclaimed := (s.ledger.reclaimed + l.length) % 2 ^ 32 }

/-- An agent is reset (R167, R175): its GEN rises, and its old token drains before it is reclaimed. -/
def resetAgent (cls inst : Nat) (s : State) : State :=
  let old := agentToken s cls inst
  { s with ledger.gens := tabMod s.ledger.gens (32 * cls + inst) (fun g => (g + 1) % 64), ledger.drains := s.ledger.drains ++ [old] }

/-- AGENT_RESET_RECLAIM (R175): the agent's requests have drained. -/
def agentReclaim (cls inst : Nat) (s : State) : State :=
  let l := s.ledger.drains.filter (fun t => decide (tokAgent t = 32 * cls + inst))
  forEach l reclaimToken { s with ledger.drains := s.ledger.drains.filter (fun t => decide (tokAgent t ≠ 32 * cls + inst)) }

/-- Mark `n` lines of a buffer valid from line `i` (R177). -/
def markLines (b i n : Nat) (s : State) : State :=
  modBuf b (fun x => { x with valid := Nat.lor x.valid ((2 ^ n - 1) * 2 ^ i) }) s

/-- VALID of a buffer: how many of its lines are marked (R177). -/
def validCount (lines : Nat) (x : Buffer) : Nat := ((List.range lines).filter (fun i => x.valid.testBit i)).length

/-- A line of a buffer holds real data. -/
def lineValid (s : State) (b i : Nat) : Bool := (bufAt s b).valid.testBit i

/-- The reference under which a use of a token reads a buffer: its own, else one that tells its uses not apart. -/
def readsUnder (holder b tok : Nat) (l : List RefEntry) : Option RefEntry :=
  let of := fun (k : Nat) => l.find? (fun r => decide (r.buf = b) && decide (r.token = tok) && decide (r.holder = k))
  (of holder).or (of 0)

/-- Set the hole mark of a reference. -/
def markHole (e : RefEntry) : List RefEntry → List RefEntry
  | [] => []
  | r :: l => if r = e then { r with holeSeen := true } :: l else r :: markHole e l

/-- A hole read by one use of a token (R178): counted, and event 898 on the first under each reference. -/
def holeRead (holder b tok : Nat) (s : State) : State :=
  let under := readsUnder holder b tok s.ledger.refs
  let s1 := modBuf b (fun x => { x with holeReads := satAdd 0xFFFF x.holeReads 1 }) s
  let s2 := match poolOf s b with
    | some p => modPool p (fun q => { q with ctr.holes := satAdd 0xFFFFFFFF q.ctr.holes 1 }) s1
    | none => s1
  let s3 : State := match under with
    | some e => { s2 with ledger.refs := markHole e s2.ledger.refs }
    | none => s2
  if under.any (·.holeSeen) then s3 else raise 898 { s3 with ledger.errBuf := b, ledger.errKind := 3, ledger.errToken := tok }

/-- HOLED: published with VALID below LINES (R179). -/
def holed (s : State) (b : Nat) : Bool :=
  match poolOf s b with
  | some p => decide ((bufAt s b).state = .published) && decide (validCount (poolAt s p).lines (bufAt s b) < (poolAt s p).lines)
  | none => false

/-- Read a 64-byte line for a reader of buffer `b`: a quarantined buffer gives zeros with a poison mark (R541). -/
def bufReadLine (b n : Nat) (s : State) : List Byte × Bool × State :=
  if (bufAt s b).state = .quarantined then (List.replicate 64 0, true, s) else fsReadLine n s

/-- The code of a buffer state in the descriptor (R179). -/
def bufStateCode (x : BufState) : Nat :=
  match x with
  | .free => 0
  | .owned => 1
  | .published => 2
  | .quarantined => 3

/-- The 48-byte descriptor of a buffer (R179, R170). -/
def descBytes (s : State) (b : Nat) : List Byte :=
  match poolOf s b with
  | none => leBytes 24 0 ++ leBytes 1 255 ++ leBytes 23 0
  | some p =>
    let q := poolAt s p
    let x := bufAt s b
    leBytes 8 (bufBase s b) ++ leBytes 4 q.size ++ leBytes 4 q.stride ++ leBytes 2 q.lines ++ leBytes 2 q.format ++ leBytes 2 x.owner ++
      leBytes 1 (refCount s b) ++ leBytes 1 (bufStateCode x.state + 4 * b2n (holed s b)) ++ leBytes 1 p ++ leBytes 1 0 ++
      leBytes 2 (validCount q.lines x) ++ leBytes 4 x.capNs ++ leBytes 6 x.capSec ++ leBytes 2 x.holeReads ++ leBytes 8 x.frame

/-- A byte range overlaps a pool's region. -/
def poolOverlap (s : State) (a n : Nat) : Bool :=
  anyUpTo 64 (fun p => let q := poolAt s p; q.used && decide (a < q.base + q.size * q.count) && decide (q.base < a + n))

/-- A run of `n` buffer numbers from `f` lies in no pool. -/
def runFree (s : State) (f n : Nat) : Bool :=
  decide (f + n ≤ 4096) && !anyUpTo 64 (fun p => let q := poolAt s p; q.used && decide (f < q.first + q.count) && decide (q.first < f + n))

/-- LEDGER_POOL_CREATE (R170, R172) (DESIGN CHOICE, log entry 62). -/
def cmdLedgerPoolCreate (c : Cmd) (s : State) : CmdRes :=
  let base := c.u64 0
  let size := c.u32 8
  let count := c.u16 12
  let ring := decide (c.u8 14 = 1)
  let keep := c.u8 15
  let lines := c.u16 16
  let fmt := c.u16 18
  let stride := c.u32 20
  let stop := base + size * count
  let num := (List.range 64).find? (fun p => !(poolAt s p).used)
  let first := (List.range 4096).find? (fun f => runFree s f count)
  checks s [tooShort c 24, bad (decide (base % 4096 ≠ 0) || decide (base < 8388608)), bad (decide (size = 0) || decide (size % 4096 ≠ 0)),
    bad (decide (count = 0) || decide (4096 < count)), bad (decide (1 < c.u8 14)), bad (ring && (decide (count < 2) || decide (keep ≠ 0))),
    bad (!ring && (decide (keep = 0) || decide (min count 255 < keep))), bad (decide (lines = 0) || decide (16384 < lines)),
    bad (!formatOk fmt), bad (decide (size < lines * stride) || decide (size < formatMinSize fmt lines stride)),
    bad (decide (capacity s < stop)), bad (poolOverlap s base (size * count)),
    stateIf num.isNone 1, stateIf first.isNone 2, busyIf (fillHeld s base (size * count)) 0,
    busyIf (!s.fs.fillDone && decide (s.fs.fillPtr * 65536 < stop)) (ceilDiv stop 65536)]
    (let p := num.getD 0
     let f := first.getD 0
     let q : Pool := { used := true, base := base, size := size, count := count, ring := ring, keep := keep, lines := lines, format := fmt,
                       stride := stride, first := f }
     let s1 : State := { s with ledger.pools := tabSet s.ledger.pools p q }
     let s2 := forUpTo count (fun i s => modBuf (f + i) (fun _ => { freeSeq := s.ledger.seq + i }) s) s1
     doneWith (leBytes 1 p ++ leBytes 1 0 ++ leBytes 2 f) { s2 with ledger.seq := s.ledger.seq + count })

/-- A pool is named by a binding (R170). -/
def poolBound (s : State) (p : Nat) : Bool :=
  anyUpTo 8 (fun h => let x := tabGet s.pic.heads h
    decide (x.cfg.wbPool = some p) || decide (x.shadow.wbPool = some p)) ||
  anyUpTo 4 (fun k => let x := tabGet s.ingest.ctxs k
    x.enabled && decide (x.cfg.pool = p)) ||
  anyUpTo 2 (fun c => (recAt s c).enabled && decide ((recAt s c).cfg.pool = p)) ||
  anyUpTo 16 (fun d => (tabGet s.st.depacks d).enabled && decide ((tabGet s.st.depacks d).pool = p)) ||
  s.st.subs.any (fun e => e.2.enabled && decide (e.2.cfg.kind = 1) && decide (e.2.cfg.pool = p)) ||
  anyUpTo 64 (fun l => let x := tabGet s.pic.layers l
    (decide (x.cfg.src.kind = 2) && decide (x.cfg.src.pool = p)) || (decide (x.shadow.src.kind = 2) && decide (x.shadow.src.pool = p)))

/-- LEDGER_POOL_DELETE (R170, R541). -/
def cmdLedgerPoolDelete (c : Cmd) (s : State) : CmdRes :=
  let p := c.u8 0
  let q := poolAt s p
  checks s [tooShort c 4, rsv c 1 3, bad (decide (63 < p)), stateIf (!q.used) 1,
    stateIf ((poolBufs q).any (fun b => decide ((bufAt s b).state ≠ .free) && decide ((bufAt s b).state ≠ .quarantined))) 2,
    stateIf (poolBound s p) 3]
    (done { forEach (poolBufs q) (fun b => modBuf b (fun _ => {})) s with
      ledger.pools := tabSet s.ledger.pools p {},
      ledger.refs := s.ledger.refs.filter (fun r => !(poolBufs q).contains r.buf) })

/-- The answer of LEDGER_OP for a publish, a discard or a release. -/
def opAnswer (b : Nat) (s : State) (r : LgOut × State) : CmdRes :=
  match r.1 with
  | .ok | .stale => done r.2
  | .ignored => doneWith (leBytes 2 0 ++ leBytes 1 1) r.2
  | .rejected => .final .rejOwner (bufAt s b).owner [] r.2

/-- LEDGER_OP (R168, R173, R174) under the mailbox's token. -/
def cmdLedgerOp (c : Cmd) (s : State) : CmdRes :=
  let op := c.u8 0
  let p := c.u8 1
  let b := c.u16 2
  let tok := agentToken s clsMailbox c.mb
  let lines := match poolOf s b with
    | some p => (poolAt s p).lines
    | none => 0
  checks s [tooShort c 28, rsv c 22 2, bad (decide (4 < op)), badD (decide (op = 0) && decide (63 < p)) 0,
    bad (decide (op ≠ 0) && decide (4095 < b)), badD (decide (op ≠ 0) && (poolOf s b).isNone) 1,
    badD (decide (op = 1) && decide (lines < c.u16 4 + c.u16 6)) 0, bad (decide (op = 1) && decide (1000000000 ≤ c.u32 24)),
    stateIf (decide (op = 0) && !(poolAt s p).used) 5]
    (match op with
     | 0 => match ledgerAcquire p tok s with
       | (some b, s1) => doneWith (leBytes 2 b) s1
       | (none, s1) => .final .rejState 1 [] s1
     | 1 => let s0 := if writerCase s b tok = .ok then markLines b (c.u16 4) (c.u16 6) s else s
            opAnswer b s (ledgerPublish b tok (c.u64 8) (c.un 16 6) (c.u32 24) s0)
     | 2 => opAnswer b s (ledgerDiscard b tok s)
     | 3 => match ledgerTake (decide ((bufAt s b).state = .owned) && decide ((bufAt s b).owner = tok)) b tok s with
       | (some d, s1) => .final .rejState d [] s1
       | (none, s1) => done s1
     | _ => opAnswer b s (ledgerRelease b tok s))

/-- LEDGER_DESC_GET (R179). -/
def cmdLedgerDescGet (c : Cmd) (s : State) : CmdRes :=
  checks s [tooShort c 2, bad (decide (4095 < c.u16 0))] (doneWith (descBytes s (c.u16 0)) s)

/-- The surface that a buffer is, under its pool's format (R170). -/
def bufSurf (s : State) (b : Nat) : Surf :=
  match poolOf s b with
  | some p => { base := bufBase s b, stride := (poolAt s p).stride, lines := (poolAt s p).lines, fmt := (poolAt s p).format }
  | none => {}

/-! The masters of the memory fabric, and a reset that cuts a burst. -/

/-- The agents that reach the frame store through the memory fabric (R26). -/
inductive Agent where
  | fetch (head : Nat) | writeBack (head : Nat) | ingest (ctx : Nat) | record (chan : Nat) | packetizer | psfLane (lane : Nat)
  | depack (index : Nat) | lutLoad (unit : Nat) | tables | dma (chan : Nat) | bar2 | onyx
  deriving DecidableEq, Repr

/-- The number of a fabric master (R484): none for the loads of 1D LUTs and coefficient sets, which R484 does not number. -/
def masterNumber : Agent → Option Nat
  | .dma n => some n
  | .ingest k => some (0x20 + k)
  | .record c => some (0x24 + c)
  | .fetch h => some (0x28 + h)
  | .writeBack h => some (0x30 + h)
  | .packetizer => some 0x38
  | .depack d => some (0x40 + d)
  | .lutLoad u => some (0x50 + u)
  | .bar2 => some 0x58
  | .onyx => some 0x59
  | .psfLane n => some (0x60 + n)
  | .tables => none

/-- A master is reset with a burst open (R483): `b` is the master, whether the burst writes, and the first byte not written or not
delivered. -/
def cutBurst (b : Agent × Bool × Nat) (s : State) : State :=
  match masterNumber b.1 with
  | some k => raise 992 { s with dma := { s.dma with lastMaster := k, lastWrite := b.2.1, lastValid := true, lastAddr := b.2.2 / 64 * 64 } }
  | none => s

/-- The burst that the writer of an open picture has open: a line of it is placed in part (R483) (DESIGN CHOICE, log entry 120). -/
def pictureBurst (m : Agent) (q : OpenPicture) : List (Agent × Bool × Nat) :=
  (q.expected.filter (fun e => decide (0 < e.2) && decide (e.2 < q.lineBytes) && !q.broken.testBit e.1)).take 1 |>.map
    (fun e => (m, true, q.base + e.1 * q.stride + e.2))

end Sys2Proof.Machine
end

