-- ==== Sys2Proof/Machine/Governor.lean ====
section
/-! DEFINITION. The power governor: the committed figure, requests for leave and the switch queue (R503 to R518). -/
namespace Sys2Proof.Machine
open Sys2Proof

/-- Domain `d`. -/
def domAt (s : State) (d : Nat) : Domain := tabGet s.power.doms d
/-- Change domain `d`. -/
def modDom (d : Nat) (f : Domain → Domain) (s : State) : State := { s with power.doms := tabMod s.power.doms d f }
/-- Change the governor. -/
def modPwr (f : PowerPart → PowerPart) (s : State) : State := { s with power := f s.power }
/-- Change the Safelight domain. -/
def modSl (f : Safelight → Safelight) (s : State) : State := { s with sl := f s.sl }

/-- The committed figure in mW (R511). -/
def committed (s : State) : Nat := (s.power.doms.map (fun e => e.2.cost)).sum

/-- `PWR_STATE.OVER` follows the committed figure (R516); event 2 as it rises. -/
def updateOver (s : State) : State :=
  let o := decide (s.power.budget < committed s)
  let s1 := modPwr (fun p => { p with overBudget := o }) s
  if o ∧ !s.power.overBudget then raise 2 s1 else s1

/-- The domains that keep the device in RUN (R507). -/
def runDomains : List Nat := [5, 6, 7, 8, 9, 10, 15, 16, 17, 18, 19, 20, 21, 22, 23, 24, 25, 26, 27, 28, 29]

/-- RUN or IDLE by the levels of the domains; a change raises event 0 (R507). -/
def updateRun (s : State) : State :=
  let st : DevState := if runDomains.any (fun d => decide ((domAt s d).level = .on)) then .run else .idle
  if s.power.state = .standby ∨ s.power.state = .safelight ∨ s.power.state = st then s
  else raise 0 (modPwr (fun p => { p with state := st }) s)

/-- A request for leave: the domains to switch on where off, as (domain, cost, step), and the costs added to domains
already on (R511). -/
structure Grant where
  doms : List (Nat × Nat × Nat) := []
  adds : List (Nat × Nat × Nat) := []
  deriving DecidableEq, Repr, Inhabited

/-- A domain of a request must be switched: it is not on, and no switch-on of it is queued (R511). -/
def mustSwitch (s : State) (d : Nat) : Bool :=
  decide ((domAt s d).level ≠ .on) && !s.power.queue.any (fun q => decide (q.domain = d) && decide (q.target = .on))

/-- The domains of a request that are switched on. -/
def grantSwitches (s : State) (g : Grant) : List (Nat × Nat × Nat) := g.doms.filter (fun x => mustSwitch s x.1)

/-- The cost a request adds (R511). -/
def grantCost (s : State) (g : Grant) : Nat :=
  ((grantSwitches s g).map (fun x => x.2.1)).sum + (g.adds.map (fun x => x.2.1)).sum

/-- `PWR_STATE.HOT` follows the state of the die temperature comparator (R517). -/
def isHot (s : State) : Bool := (tabGet s.sl.cmps 4).state

/-- Why a request is refused, as DETAIL of DENIED_POWER (R512, R518), or none where it is granted. -/
def refusal (s : State) (g : Grant) : Option (Nat × Nat) :=
  if s.power.holdup ∨ s.power.waking ∨ s.power.leaving ∨ s.power.state = .standby ∨ s.power.state = .safelight then some (2, 0)
  else if isHot s then some (3, 0)
  else if s.power.budget < committed s + grantCost s g ∧ 0 < grantCost s g then
    some (1, min 65535 (committed s + grantCost s g - s.power.budget))
  else none

/-- The lowest domain of a request. -/
def grantDomain (g : Grant) : Nat := ((g.doms ++ g.adds).map (·.1)).foldl min 31

/-- The DETAIL of DENIED_POWER (R518). -/
def denyDetail (g : Grant) (r : Nat × Nat) : Nat := r.1 + 256 * grantDomain g + 65536 * r.2

/-- A refused request: latched, counted, event 1 (R518). -/
def denyPower (g : Grant) (r : Nat × Nat) (s : State) : State :=
  raise 1 (modPwr (fun p => { p with
    denyReason := r.1, denyDomain := grantDomain g, denyExcess := r.2, denyValid := true, ctr.deny := (p.ctr.deny + 1) % 2 ^ 32 }) s)

/-- A granted request: its cost is committed, queued switch-offs of its domains are cancelled and its switches join the
queue (R511 to R513). -/
def givePower (g : Grant) (s : State) : State :=
  let sw := grantSwitches s g
  let s1 := modPwr (fun p => { p with
    ctr.grant := (p.ctr.grant + 1) % 2 ^ 32, grants := p.grants + 1,
    queue := p.queue.filter (fun q => !(decide (q.target ≠ .on) && g.doms.any (fun x => decide (x.1 = q.domain)))) ++
      sw.map (fun x => { grant := p.grants + 1, domain := x.1, target := .on, step := x.2.2 }),
    window := p.window ++ (g.adds.filter (fun x => decide (x.2.2 ≠ 0))).map (fun x => (runTime s, x.2.2)) }) s
  let s2 := forEach sw (fun x s => modDom x.1 (fun d => { d with cost := d.cost + x.2.1 }) s) s1
  forEach g.adds (fun x s => modDom x.1 (fun d => { d with cost := d.cost + x.2.1 }) s) s2

/-- Ask the governor for leave (R512): `k` goes on with the grant; a refusal answers DENIED_POWER. -/
def askPower (g : Grant) (s : State) (k : State → CmdRes) : CmdRes :=
  match refusal s g with
  | some r => .final .deniedPower (denyDetail g r) [] (denyPower g r s)
  | none => k (givePower g s)

/-- The last domain that a request still has to switch, for which its command waits (R512). -/
def lastSwitch (s : State) (g : Grant) : Option Nat := ((grantSwitches s g).map (·.1)).getLast?

/-- Release cost of a domain that stays on (R515). -/
def releaseCost (d mw : Nat) (s : State) : State := updateOver (modDom d (fun x => { x with cost := x.cost - mw }) s)

/-- Queue a switch-off (R515). -/
def queueOff (d : Nat) (s : State) : State :=
  if (domAt s d).level = .on ∧ !s.power.queue.any (fun q => decide (q.domain = d) && decide (q.target ≠ .on)) then
    modPwr (fun p => { p with queue := p.queue.filter (fun q => decide (q.domain ≠ d)) ++ [{ domain := d, target := .off }] }) s
  else s

/-- Switch-ons begun within the last 1,000 µs (R513). -/
def windowSum (s : State) : Nat :=
  ((s.power.window.filter (fun w => decide (runTime s < w.1 + 1000000 * nsUnits))).map (·.2)).sum

/-- The sub-second count of the real-time clock (R526): of a crystal at its nominal rate, trimmed, since the second began (DESIGN CHOICE, log entry 202). -/
def rtcSub (s : State) : Nat :=
  min 32767 ((runTime s - s.sl.secAt) * 32768 * (2000000 + s.sl.trim).toNat / (secUnits * 2000000))

/-- A wake source fires (R530): its cause bit, and in STANDBY or SAFELIGHT what it starts. `k` is the bit of
`SL_WAKE_CAUSE`; bit 9 is the host. -/
def slWake (k : Nat) (s : State) : State :=
  let enabled := decide (k = 9) || s.sl.wakeEn.testBit k
  let here := decide (k ≠ 8) || decide (s.power.state = .standby)
  if !enabled ∨ !here then s else
  let s1 := modSl (fun l => { l with wakeCause := Nat.lor l.wakeCause (2 ^ k) }) s
  if s.power.state = .standby then modPwr (fun p => { p with wakeDue := true }) s1
  else if s.power.state = .safelight ∧ k ≠ 9 then
    modSl (fun l => { l with pwrReq := true }) (modPwr (fun p => { p with wakeDue := (tabGet s.sl.cmps 1).state }) s1)
  else s1

end Sys2Proof.Machine
end

