-- ==== Sys2Proof/Machine/Raster.lean ====
section
/-! DEFINITION. Where the rasters stand: the reference raster by the timebase (R82, R83), a head's by its synthesizer (R311
to R316), and the capture raster in DRIVE mode by SYN8 (R84, R89). A raster that runs is where its position at one instant and
its rate since then put it; one that a gate holds stays (R96). -/
namespace Sys2Proof.Machine
open Sys2Proof

/-- The parts of a sample or tick in which positions are kept (DESIGN CHOICE, log entry 158). -/
def posUnit : Nat := 4294967296

/-- The parts of the 0.5 ns grid rounded half up, of an instant given as a fraction of 2⁻¹⁶ ns (R116). -/
def gridInstant (n : Int) (d : Nat) : Nat := if d = 0 then 0 else (roundHalfUp n (d * 32768)).toNat * 32768

/-- Frame, line and sample of the reference raster at an instant, exactly (R82, R83). -/
def refPos (r : RefRaster) (now : Nat) : Int × Nat × Nat :=
  let f := refFrameAt r now
  let e : Int := ((now : Int) - r.offsetNs * (nsUnits : Nat)) * (r.num : Nat) - f * (r.den * secUnits : Nat)
  let line := (e * (r.lines : Nat) / (r.den * secUnits : Nat)).toNat
  (f, line, (e * (r.lines * r.samples : Nat) / (r.den * secUnits : Nat)).toNat - line * r.samples)

/-- The instant of (frame, line, sample) of the reference raster on the grid (R82, R83, R116). -/
def refInstant (r : RefRaster) (frame : Int) (line sample : Nat) : Nat :=
  let pos : Int := frame * (r.lines * r.samples : Nat) + (line * r.samples + sample : Nat)
  let d := r.num * r.lines * r.samples
  gridInstant (pos * (r.den * secUnits : Nat) + r.offsetNs * (nsUnits * d : Nat)) d

/-- A frequency offset in 10⁻⁶ ppb against the timebase's own, as a factor (R101). -/
def rateFactor (s : State) (uppb : Int) : Nat × Nat :=
  ((1000000000000000 + uppb).toNat, (1000000000000000 + s.time.tb.freqPpb * 1000000).toNat)

/-- The samples a head's raster passes in one timebase unit, as a fraction (R101, R312). -/
def headRate (s : State) (h : Nat) : Nat × Nat :=
  let t := timingOf s h
  let f := frameRate s t
  let k := rateFactor s (tabGet s.time.tb.heads (lowerOf s h)).offsetUppb
  (vTotal t * hTotal t * f.1 * k.1, secUnits * f.2 * k.2)

/-- The ticks the capture raster passes in one timebase unit in DRIVE mode, as a fraction (R89, R90). -/
def capRate (s : State) : Nat × Nat :=
  let w := (synAt s 8).words
  let d := ((w.od * posUnit + w.frac * 256 : Nat) + (synAt s 8).trim : Int).toNat
  let k := rateFactor s 0
  (8640000000 * posUnit * k.1, d * secUnits * k.2)

/-- f_pfd in units of 13.5 MHz (R90). -/
def pfdUnits (refMode : Nat) : Nat := if refMode = 1 then 4 else if refMode = 2 then 1 else 2

/-- The cycles that clock the modulator of synthesizer `k` in one timebase unit, as a fraction (R93): of the PFD, or of SYN8's
output, which stands while it is gated. -/
def ditherRate (s : State) (k : Nat) : Nat × Nat :=
  if k = 8 then (if (synAt s 8).gated then (0, 1) else capRate s)
  else let f := rateFactor s 0; (13500000 * pfdUnits (synAt s k).words.refMode * f.1, secUnits * f.2)

/-- Where a raster stands that stood at `base` at the instant `at_` and has run since. -/
def runPos (base at_ now : Nat) (rate : Nat × Nat) : Nat := if rate.2 = 0 then base else base + (now - at_) * rate.1 * posUnit / rate.2

/-- The cycles that have clocked the modulator of synthesizer `k` since its LFSR was loaded, in units of 2⁻³² (R93). -/
def synCycles (s : State) (k : Nat) : Nat := runPos (synAt s k).cycles (synAt s k).seedAt s.time.tb.now (ditherRate s k)

/-- When a raster that stands at `base` at the instant `at_` reaches a position, as a fraction of a timebase unit. -/
def reachAt (base at_ : Nat) (rate : Nat × Nat) (target : Int) : Int × Nat :=
  if rate.1 = 0 then ((at_ : Int), 1)
  else ((at_ : Int) * (rate.1 * posUnit : Nat) + (target - base) * (rate.2 : Nat), rate.1 * posUnit)

/-- An instant given as a fraction, rounded up to a timebase unit. -/
def ceilInstant (q : Int × Nat) : Nat := ((q.1 + (q.2 : Int) - 1) / (q.2 : Int)).toNat

/-- The units of a whole frame of a head's raster. -/
def headTotal (s : State) (h : Nat) : Nat := let t := timingOf s h; vTotal t * hTotal t * posUnit

/-- A position within a frame of a head, in units. -/
def headTarget (s : State) (h line sample : Nat) : Nat := (line * hTotal (timingOf s h) + sample) * posUnit

/-- Where a head's raster stands in its frame (R9, R96): held while its synthesizer is gated, and at its last sample while
its blanking is lengthened (R79, R315). -/
def headPos (s : State) (h : Nat) : Nat :=
  let d := hdAt s (lowerOf s h)
  if !headEnabled s h then 0
  else if (synAt s (lowerOf s h)).gated then d.posBase
  else min (headTotal s h - 1) (runPos d.posBase d.posAt s.time.tb.now (headRate s h))

/-- Where the capture raster stands in its frame in DRIVE mode (R84, R96). -/
def capPos (s : State) : Nat :=
  let c := s.time.cap
  if (synAt s 8).gated then c.posBase else min (16 * c.mode.lines * posUnit - 1) (runPos c.posBase c.posAt s.time.tb.now (capRate s))

/-- The rasters as they stand now become the positions from which they go on, and so do the cycles of the dithered synthesizers:
done where a gate closes or opens and where a rate changes. -/
def holdRasters (s : State) : State :=
  let syn := fun (k : Nat) (y : Syn) => if y.cfg.dither then { y with cycles := synCycles s k, seedAt := s.time.tb.now } else y
  let s1 := forUpTo 8 (fun h t => if headEnabled s h then modHd h (fun x => { x with posBase := headPos s h, posAt := s.time.tb.now }) t else t)
    (forUpTo 12 (fun k t => { t with time.syns := tabMod t.time.syns k (syn k) }) s)
  if s.time.cap.mode.drive then { s1 with time.cap := { s1.time.cap with posBase := capPos s, posAt := s.time.tb.now } } else s1

/-- When a head's raster reaches a position of its present frame. -/
def headReach (s : State) (h target : Nat) : Nat :=
  let d := hdAt s (lowerOf s h)
  max d.posAt (ceilInstant (reachAt d.posBase d.posAt (headRate s h) target))

/-- The first locked position of a head at or after an instant (R313). -/
def lockedFrom (s : State) (h at_ : Nat) : Nat :=
  let t := timingOf s h
  let f := frameRate s t
  let base : Int := (s.time.ref.offsetNs + t.phase) * (nsUnits : Nat)
  if f.1 = 0 ∨ f.2 = 0 then at_
  else
    let m : Int := -(-(((at_ : Int) - base) * (f.1 : Nat)) / (secUnits * f.2 : Nat))
    (base - -(m * (secUnits * f.2 : Nat)) / (f.1 : Nat)).toNat

/-- When the next frame of a head begins: where its raster reaches the end of this one, or on the first locked position from
there while its blanking is lengthened, so by the least amount (R79, R315). -/
def nextFrameStart (s : State) (h : Nat) : Nat :=
  let e := headReach s h (headTotal s h)
  if (hdAt s (lowerOf s h)).longBlank ∨ (tabGet s.time.tb.heads (lowerOf s h)).realignDue then lockedFrom s h e else e

/-- The instant of a position of a head's raster, on the grid, predicted from where it stands and its rate (R116, R126), or for a
frame that is over reckoned back from there (DEDUCED, log entry 209). -/
def headInstant (s : State) (h : Nat) (frame : Int) (line sample : Nat) : Option Nat :=
  let d := hdAt s (lowerOf s h)
  let r := headRate s h
  let ahead := frame - headFrame s h
  if !headEnabled s h ∨ r.1 = 0 then none
  else
    let q := if ahead ≤ 0 then reachAt d.posBase d.posAt r (ahead * (headTotal s h : Nat) + (headTarget s h line sample : Nat))
      else reachAt 0 (nextFrameStart s h) r ((ahead - 1) * (headTotal s h : Nat) + (headTarget s h line sample : Nat))
    some (gridInstant q.1 q.2)

/-- The instant of a position of the capture raster in DRIVE mode, on the grid (R116, R126); for a frame that is over reckoned back
(DESIGN CHOICE, log entry 209). -/
def capInstant (s : State) (frame : Int) (line tick : Nat) : Option Nat :=
  let c := s.time.cap
  let r := capRate s
  let ahead := frame - (c.frame : Int)
  if !c.mode.drive ∨ r.1 = 0 ∨ r.2 = 0 then none
  else
    let q := reachAt c.posBase c.posAt r ((ahead * (c.mode.lines : Nat) * 16 + (line * 16 + tick : Nat)) * (posUnit : Nat))
    some (gridInstant q.1 q.2)

/-- The length of a head's vertical blanking (R311, R319), rounded up to the unit in which its start was rounded down. -/
def blankLength (s : State) (t : Timing) : Nat :=
  let f := frameRate s t
  if vTotal t * f.1 = 0 then 0 else ceilDiv ((vTotal t - t.vact) * secUnits * f.2) (vTotal t * f.1)

/-- Where the first frame of a head begins (R316): on the first locked position at least 2 ms after lock whose blanking also
starts after lock. -/
def firstFrameStart (s : State) (h : Nat) : Nat :=
  let lock := (pairOf s h).foldl (fun m j => max m (synAt s j).lockAt) 0
  lockedFrom s h (max (lock + 2000000 * nsUnits) (lock + blankLength s (timingOf s h)))

/-- Slot `n`. -/
def slotAt (s : State) (n : Nat) : Slot := tabGet s.sched.slots n
/-- Change slot `n`. -/
def modSlot (n : Nat) (f : Slot → Slot) (s : State) : State := { s with sched.slots := tabMod s.sched.slots n f }

/-- Some slot has a snapshot armed. -/
def snapArmed (s : State) : Bool := s.sched.slots.any (fun e => e.2.armed.isSome && decide (e.2.content.action = 6))

/-- A raster trigger's raster is held by its synthesizer's gate (R96, R119). -/
def rasterHeld (s : State) (kind unit : Nat) : Bool :=
  if kind = 3 then (synAt s (lowerOf s unit)).gated else decide (kind = 2) && s.time.cap.mode.drive && (synAt s 8).gated

/-- 2 µs in timebase units, the lead of arming (R126). -/
def armLead : Nat := 2000 * nsUnits

/-- The line and the sample of a raster position as POS holds it. -/
def posLine (pos : Nat) : Nat := pos % 65536
/-- The sample or tick of a raster position as POS holds it. -/
def posSample (pos : Nat) : Nat := pos / 65536

/-- The lines and the samples per line of the raster a trigger kind names (R115, R118). -/
def rasterTotals (s : State) (kind unit : Nat) : Nat × Nat :=
  if kind = 1 then (s.time.ref.lines, s.time.ref.samples)
  else if kind = 2 then (s.time.cap.mode.lines, 16)
  else headTotals s unit

/-- A raster trigger's position is given as an offset in ns: the capture raster in FOLLOW mode (R115). -/
def offsetTrigger (s : State) (kind : Nat) : Bool := decide (kind = 2) && !s.time.cap.mode.drive

/-- A position lies in its raster (R118). -/
def posInRaster (s : State) (kind unit pos : Nat) : Bool :=
  decide (kind = 0) || offsetTrigger s kind ||
    (decide (posLine pos < (rasterTotals s kind unit).1) && decide (posSample pos < (rasterTotals s kind unit).2))

/-- The boundary of a capture frame in FOLLOW mode, once its marker has come (R84). -/
def followBoundary (c : Capture) (frame : Int) : Option Nat :=
  if frame ≤ 0 ∨ !c.hasBoundary then none
  else if frame = c.frame then some c.boundary
  else (c.past.find? (fun p => decide ((p.1 : Int) = frame))).map (·.2)

/-- The instant of a position in a frame (R116): none where its raster does not run, and for a FOLLOW capture frame whose marker
has not come. -/
def posInstant (s : State) (c : SlotContent) (frame : Int) (line pos : Nat) : Option Nat :=
  if c.kind = 0 then some (c.frame % 2 ^ 48 * secUnits + pos * nsUnits + (if bit c.flags 3 then 32768 else 0))
  else if c.kind = 1 then some (refInstant s.time.ref frame line (posSample pos))
  else if c.kind = 3 then headInstant s c.unit frame line (posSample pos)
  else if !offsetTrigger s c.kind then capInstant s frame line (posSample pos)
  else (followBoundary s.time.cap frame).map (fun b => gridInstant (b + pos * nsUnits : Nat) 1)

/-- The frame in progress of the raster a trigger kind names. -/
def rasterFrame (s : State) (kind unit : Nat) : Int :=
  if kind = 1 then refFrameAt s.time.ref s.time.tb.now
  else if kind = 2 then s.time.cap.frame
  else headFrame s unit

/-- The frame of the first occurrence of new content (R117): the named frame, or with FRAME_NEXT the first whose
position lies at least 2 µs ahead. A frame lasts longer than 0.5 µs, so that one of the next four does. -/
def firstFrame (s : State) (c : SlotContent) : Int :=
  if bit c.flags 1 ∧ c.kind ≠ 0 then
    let f := rasterFrame s c.kind c.unit
    let far := fun (k : Nat) => match posInstant s c (f + k) (posLine c.pos) c.pos with
      | some t => decide (s.time.tb.now + armLead ≤ t)
      | none => decide (0 < k)
    f + (([0, 1, 2, 3, 4] : List Nat).find? far).getD 5
  else c.frame

/-- A slot's position lies in its raster as it is now (R118): a per-line slot that has begun wants its sample only. -/
def slotInRaster (s : State) (x : Slot) : Bool :=
  let c := x.content
  posInRaster s c.kind c.unit (if c.repeats = 2 ∧ x.fired ≠ 0 then 65536 * posSample c.pos else c.pos)

/-- The line at which the raster of a trigger stands. -/
def rasterLine (s : State) (kind unit : Nat) : Nat :=
  if kind = 1 then (refPos s.time.ref s.time.tb.now).2.1
  else if kind = 2 then (if s.time.cap.mode.drive then capPos s / (16 * posUnit) else 0)
  else if hTotal (timingOf s unit) = 0 then 0 else headPos s unit / (hTotal (timingOf s unit) * posUnit)

/-- The first position of a repeating raster slot from now on: its frame and its line (R80, R83, R118). -/
def nextPlace (s : State) (x : Slot) : Int × Nat :=
  let c := x.content
  let f := rasterFrame s c.kind c.unit
  let line := rasterLine s c.kind c.unit
  let ahead := fun (l : Nat) => match posInstant s c f l c.pos with
    | some t => decide (s.time.tb.now ≤ t)
    | none => false
  if c.repeats = 2 then
    (if ahead line then (f, line) else if line + 1 < (rasterTotals s c.kind c.unit).1 then (f, line + 1) else (f + 1, 0))
  else if ahead x.occLine then (f, x.occLine) else (f + 1, x.occLine)

/-- A slot has begun to repeat: it goes on in every frame, whatever number that has (R117). -/
def begun (x : Slot) : Bool := decide (x.fired ≠ 0) && decide (x.content.repeats ≠ 0)

/-- A slot after a timing change (R117, R118): one whose position has left its raster is marked and does not fire, and one whose
position is back goes on from the first frame that contains it. On a raster that numbers its frames anew, `renum`, a slot that has
begun goes on from the next position. -/
def slotPlaced (s : State) (renum : Nat → Nat → Bool) (x : Slot) : Slot :=
  let c := x.content
  let anew := renum c.kind c.unit && begun x
  if !x.enabled ∨ c.kind = 0 then x
  else if !slotInRaster s x then
    { x with outOfRaster := true, armed := none, occFrame := if anew then rasterFrame s c.kind c.unit else x.occFrame }
  else
    let line := if x.occLine < (rasterTotals s c.kind c.unit).1 ∨ offsetTrigger s c.kind then x.occLine else 0
    let p := nextPlace s { x with occLine := line }
    if anew then { x with outOfRaster := false, armed := none, rearm := true, occFrame := p.1, occLine := p.2 }
    else if x.outOfRaster then { x with outOfRaster := false, rearm := true, occLine := line, occFrame := max x.occFrame p.1 }
    else { x with occLine := line }

/-- Put new content into a slot (R117, R130). -/
def applyContent (n : Nat) (c : SlotContent) (s : State) : State :=
  modSlot n (fun x => { pending := x.pending, writes := x.writes, content := c, enabled := bit c.flags 0, occFrame := firstFrame s c, occLine := posLine c.pos }) s

/-- The first occurrence of enabled content comes too soon, or in a frame already begun (R130); that of FRAME_NEXT content may
come in the frame in progress (DEDUCED, log entry 210). -/
def tooSoon (s : State) (c : SlotContent) : Bool :=
  if !bit c.flags 0 then false else
  let f := firstFrame s c
  let early := match posInstant s c f (posLine c.pos) c.pos with
    | some t => decide (t < s.time.tb.now + armLead)
    | none => false
  early || (decide (c.kind ≠ 0) && !bit c.flags 1 && decide (f ≤ rasterFrame s c.kind c.unit))

/-- The contents written while an occurrence was armed apply once none is, in the order of their commands (R130) (DESIGN CHOICE, log entry 177). -/
def applyPending (n : Nat) (s : State) : State :=
  forEach (slotAt s n).pending (fun p s =>
    if tooSoon s p.2 then finishWait (.slotApply n p.1) .rejRange 1 [] s
    else finishWait (.slotApply n p.1) .ok 0 [] (applyContent n p.2 s)) (modSlot n (fun x => { x with pending := [] }) s)

/-- After armed occurrences have gone without firing: a snapshot among them is no longer pending (R134), and contents that
waited for them apply (R130). -/
def disarmed (s : State) : State :=
  let s1 : State := { s with sched.snap.pend := s.sched.snap.pend && (snapArmed s || s.sched.snap.running.isSome) }
  forEach (s.sched.slots.filter (fun e => e.2.armed.isNone && !e.2.pending.isEmpty)) (fun e => applyPending e.1) s1

/-- No raster numbers its frames anew. -/
def noRenum (_ _ : Nat) : Bool := false
/-- The reference raster numbers its frames anew at another rate or offset (R82). -/
def refRenum (old new : RefRaster) (kind _ : Nat) : Bool :=
  decide (kind = 1) && decide ((old.num, old.den, old.offsetNs) ≠ (new.num, new.den, new.offsetNs))
/-- A head's raster numbers its frames anew (R314). -/
def headRenum (s : State) (h kind unit : Nat) : Bool := decide (kind = 3) && decide (lowerOf s unit = h)

/-- Every slot is held against its raster after a timing change (R117, R118): event 989 once for each whose position leaves it. -/
def slotsInRaster (renum : Nat → Nat → Bool) (s : State) : State :=
  let out := s.sched.slots.filter (fun e => !e.2.outOfRaster && (slotPlaced s renum e.2).outOfRaster)
  disarmed (forEach out (fun _ => raise 989) { s with sched.slots := tabMap s.sched.slots (slotPlaced s renum) })

/-- Armed occurrences are withdrawn, to be armed again (R119); a snapshot among them is no longer pending (R134). -/
def withdraw (p : Slot → Bool) (s : State) : State :=
  if s.sched.slots.any (fun e => e.2.armed.isSome && p e.2) then
    disarmed { s with sched.slots := tabMap s.sched.slots (fun x => if x.armed.isSome ∧ p x then { x with armed := none, rearm := true } else x) }
  else s

/-- The occurrences armed on rasters that gates hold now are withdrawn (R96, R119). -/
def withdrawHeld (s : State) : State := withdraw (fun x => rasterHeld s x.content.kind x.content.unit) s

/-- The occurrences armed on a head's raster for frames after the present one are withdrawn, as its blanking is lengthened
(R79, R119). -/
def withdrawLater (h : Nat) (s : State) : State :=
  withdraw (fun x => decide (x.content.kind = 3) && decide (lowerOf s x.content.unit = lowerOf s h) &&
    (match x.armed with
     | some a => decide (headFrame s h < a.frame)
     | none => false)) s

end Sys2Proof.Machine
end

