-- ==== Sys2Proof/Machine/Across.lean ====
section
/-! DEFINITION. Questions and small effects that one unit needs of another, over plain state. -/
namespace Sys2Proof.Machine
open Sys2Proof

/-- A MAC is enabled in the network role (R428). -/
def macIsNetwork (s : State) (m : Nat) : Bool := (tabGet s.mac.macs m).enabled && decide ((tabGet s.mac.macs m).cfg.role = 0)

/-- An ingest context is enabled (R65). -/
def ingestConfigured (s : State) (k : Nat) : Bool := (tabGet s.ingest.ctxs k).enabled

/-- A clip copy is open on some slot (R84). -/
def anyClipOpen (s : State) : Bool := anyUpTo 2 (fun i => (tabGet s.mag.slots i).copy.isSome)

/-- A changed OFFSET moves the locked positions of every enabled head, which then seeks the new ones (R313, R315). -/
def headsSeekLock (moved : Bool) (s : State) : State :=
  if moved then forUpTo 8 (fun h s => if headEnabled s h then modHd h (fun x => { x with realign := true }) s else s) s else s

/-- A replica was reloaded (R63, R536 kind 1). -/
def countReplicaReload (d : Nat) (s : State) : State := logFault 1 d 0 s

/-- The Safelight timecode is loaded at a reference frame start while the generator runs (R527). -/
def safelightTcLoad (s : State) : State :=
  let g := s.time.tc
  if g.running then
    { s with sl := { s.sl with
        tcHh := g.current.hh, tcMm := g.current.mm, tcSs := g.current.ss, tcFf := g.current.ff, tcBase := g.mode.base, tcDrop := g.mode.drop,
        tcValid := true } }
  else s

/-- `TB_STATE.STATE` as a code (R71). -/
def tbStateCode (t : TbState) : Nat :=
  match t with
  | .freerun => 0
  | .acquire => 1
  | .locked => 2
  | .hold => 3
  | .stepPending => 4

/-- A record channel is RECORDING, DRAINING or STOP_BATH (R533). -/
def recActive (s : State) (c : Nat) : Bool :=
  let x := tabGet s.mag.chans c
  decide (x.state = .recording) || decide (x.state = .draining) || (decide (x.state = .stopBath) && x.started)

/-- A subscriber is paced (R431). -/
def subPaced (x : Sub) : Bool := decide (x.cfg.kind ≤ 1)

/-- A paced subscriber sends on network port `m` (R533). -/
def portPaces (s : State) (m : Nat) : Bool :=
  s.st.subs.any (fun e => e.2.enabled && e.2.started && subPaced e.2 && (decide (e.2.cfg.portA = m) || decide (e.2.cfg.portB = some m)))

/-- Whether an output is enabled now (R533). -/
def outputEnabled (s : State) (o : Nat) : Bool :=
  if o < 8 then headEnabled s o else if o < 10 then recActive s (o - 8) else portPaces s (o - 10)

/-- A reference fault (R100, R536 kind 4): the frame of every enabled output is charged. -/
def refFaultRecord (s : State) : State := forUpTo 26 (fun o s => if outputEnabled s o then chargeFrame o 4 s else s) (logFault 4 255 0 s)

/-- The station address of a port or of another MAC that sends (R430). -/
def stationAddr (s : State) (m : Nat) : List Byte := (tabGet s.st.ports m).srcMac

/-- MAC `m` is the rig port of a leader (R458). -/
def leaderPort (s : State) (m : Nat) : Bool := decide (s.st.rig.state = .leader) && decide (s.st.rig.port = m)

end Sys2Proof.Machine
end

