-- ==== Sys2Proof/Machine/MacBase.lean ====
section
/-! DEFINITION. What the engines need of the MACs: their counters, whether a link carries frames, and sending (R188, R194,
R199, R210, R212). -/
namespace Sys2Proof.Machine
open Sys2Proof

/-- MAC `m`. -/
def macAt (s : State) (m : Nat) : Mac := tabGet s.mac.macs m
/-- Lane `n`. -/
def laneAt (s : State) (n : Nat) : Lane := tabGet s.mac.lanes n
/-- Change MAC `m`. -/
def modMac (m : Nat) (f : Mac → Mac) (s : State) : State := { s with mac.macs := tabMod s.mac.macs m f }
/-- Change lane `n`. -/
def modLane (n : Nat) (f : Lane → Lane) (s : State) : State := { s with mac.lanes := tabMod s.mac.lanes n f }
/-- Raise source `k` of MAC `m` (R212). -/
def raiseMac (m k : Nat) (s : State) : State := raise (416 + 8 * m + k) s

/-- Add to counter `k` of a MAC (R210): it wraps at 2⁴⁸, and crossing half range sets its HALF bit with event 1. -/
def macCount (m k n : Nat) (s : State) : State :=
  let old := tabGet (macAt s m).ctr k
  let new := (old + n) % 2 ^ 48
  let s1 := modMac m (fun x => { x with ctr := tabSet x.ctr k new }) s
  if old < 2 ^ 47 ∧ 2 ^ 47 ≤ new then raiseMac m 1 (modMac m (fun x => { x with half := Nat.lor x.half (2 ^ k) }) s1) else s1

/-- A MAC frame is network, management, ingest or magazine traffic by its MAC's role. -/
def isKml (x : Mac) : Bool := decide (x.cfg.mode = 6)

/-- The link carries frames: UP, or SPARING, and awake (R188, R199). -/
def linkUp (x : Mac) : Bool := x.enabled && !x.sleep && (decide (x.lk.link = .up) || decide (x.lk.link = .sparing))

/-- The 16-bit big-endian field of a frame at an offset. -/
def be16 (b : List Byte) (o : Nat) : Nat := 256 * (b.getD o 0).toNat + (b.getD (o + 1) 0).toNat

/-- The frame carries a VLAN tag (R206). -/
def tagged (b : List Byte) : Bool := decide (be16 b 12 = 0x8100) || decide (be16 b 12 = 0x88A8)
/-- The EtherType after the outer tag (R206). -/
def etherType (b : List Byte) : Nat := if tagged b then be16 b 16 else be16 b 12
/-- The offset of what follows the EtherType. -/
def payloadAt (b : List Byte) : Nat := if tagged b then 18 else 14
/-- 0 unicast, 1 multicast, 2 broadcast. -/
def addrType (b : List Byte) : Nat :=
  if b.take 6 = List.replicate 6 (0xFF : Byte) then 2 else if (b.getD 0 0).getLsbD 0 then 1 else 0
/-- The frame carries IPv4 or IPv6. -/
def isIp (b : List Byte) : Bool := decide (etherType b = 0x0800) || decide (etherType b = 0x86DD)
/-- The DSCP of an IP frame. -/
def dscpOf (b : List Byte) : Nat :=
  let p := payloadAt b
  if etherType b = 0x0800 then (b.getD (p + 1) 0).toNat / 4 else be16 b p / 64 % 64
/-- The offset of the UDP header, where there is one. -/
def udpAt (b : List Byte) : Option Nat :=
  let p := payloadAt b
  if etherType b = 0x0800 ∧ (b.getD (p + 9) 0).toNat = 17 then some (p + 4 * ((b.getD p 0).toNat % 16))
  else if etherType b = 0x86DD ∧ (b.getD (p + 6) 0).toNat = 17 then some (p + 40) else none

/-- A steering rule matches a frame (R206). -/
def ruleMatches (r : Rule) (b : List Byte) : Bool :=
  let vlan := if r.vlanMode = 0 then true else if r.vlanMode = 1 then !tagged b
    else tagged b && decide (Nat.land (Nat.xor (be16 b 14) r.tci) r.tciMask = 0)
  let et := decide (Nat.land (Nat.xor (etherType b) r.etype) r.etypeMask = 0)
  let ds := decide (r.dscpMask = 0) || (isIp b && decide (Nat.land (Nat.xor (dscpOf b) r.dscp) r.dscpMask = 0))
  let l4 := decide (r.l4 = 0) || match udpAt b with
    | some o => decide (be16 b (o + 2) = 319) || decide (be16 b (o + 2) = 320)
    | none => false
  decide (r.queue ≠ 254) && vlan && et && ds && l4

/-- The queue that steering gives a frame, or none where it is dropped (R206). -/
def steer (x : Mac) (b : List Byte) : Option Nat :=
  let q := match (List.range 64).find? (fun i => ruleMatches (tabGet x.rules i) b) with
    | some i => (tabGet x.rules i).queue
    | none => x.cfg.defaultQ
  if q < 8 then some q else none

/-- A frame passes the destination address filter of a MAC outside the network role (R205). -/
def filterPass (x : Mac) (b : List Byte) : Bool :=
  (List.range 4).any (fun i => let f := tabGet x.filter i; f.valid && decide (f.addr = b.take 6))

/-- The kind of destination of a receive queue (R207): 0 the engine, 1 the firmware, 2 a host ring. -/
def queueKind (x : Mac) (q : Nat) : Nat := x.cfg.dest.getD q 0 % 4

/-- A good frame reaches the protocol engine of a MAC outside the network role (R205, R207). -/
def toEngine (x : Mac) (b : List Byte) : Bool := linkUp x && decide (x.cfg.role ≠ 0) && filterPass x b && decide (queueKind x 0 = 0)

/-- A good frame reaches the firmware (R206, R207). -/
def toFirmware (x : Mac) (b : List Byte) : Bool :=
  linkUp x && decide (x.cfg.role = 0) && (steer x b).any (fun q => decide (queueKind x q = 1))

/-- One byte through a reflected CRC-32 register with a polynomial (R195, R218). -/
def crcByte (poly r : BitVec 32) (b : Byte) : BitVec 32 :=
  (List.range 8).foldl (fun c _ => if c.getLsbD 0 then (c >>> 1) ^^^ poly else c >>> 1) (r ^^^ b.setWidth 32)

/-- The frame check sequence of a MAC frame as its four bytes on the wire (R195). -/
def fcsOf (b : List Byte) : List Byte := leBytes 4 (~~~ (b.foldl (crcByte 0xEDB88320#32) 0xFFFFFFFF#32)).toNat

/-- The ones' complement of the frame check sequence, which every receiver sees as an error (R197). -/
def badFcs (b : List Byte) : List Byte := (fcsOf b).map (fun x => ~~~x)

/-- The lanes of a group. -/
def groupLanes (first width : Nat) : List Nat := (List.range width).map (first + ·)
/-- The lanes of a MAC, without spares. -/
def macLanes (x : Mac) : List Nat := groupLanes x.cfg.first x.cfg.width
/-- The assigned spare lanes of a MAC. -/
def spareLanes (x : Mac) : List Nat := ([0, 1].filter (fun i => (tabGet x.lk.spares i).valid)).map (fun i => (tabGet x.lk.spares i).lane)

/-- An engine presents a frame at a transmit queue (R194, R199). -/
def macSend (m q owner : Nat) (b : List Byte) (s : State) : State :=
  let x := macAt s m
  if linkUp x ∧ !x.stopping then modMac m (fun x => { x with tx.waiting := x.tx.waiting ++ [{ bytes := b, queue := q, owner := owner }] }) s
  else macCount m 51 1 s

end Sys2Proof.Machine
end

