-- ==== Sys2Proof/Machine/Record.lean ====
section
/-! DEFINITION. The picture record: the payload read from the frame store, the header, the trailer and the KMP messages that
carry them (R398 to R400, R406 to R409). -/
namespace Sys2Proof.Machine
open Sys2Proof

/-- Slot `i`. -/
def magAt (s : State) (i : Nat) : MagSlot := tabGet s.mag.slots i
/-- Change slot `i`. -/
def modMag (i : Nat) (f : MagSlot → MagSlot) (s : State) : State := { s with mag.slots := tabMod s.mag.slots i f }
/-- Raise source `k` of slot `i` (R427). -/
def raiseMag (i k : Nat) (s : State) : State := raise (608 + 8 * i + k) s
/-- Change the copy open on slot `i`. -/
def modCopy (i : Nat) (f : Copy → Copy) (s : State) : State := modMag i (fun x => { x with copy := x.copy.map f }) s

/-- A KMP message as a MAC frame (R397, R398). -/
def kmpFrame (s : State) (i type flags seq : Nat) (body : List Byte) : List Byte :=
  let x := magAt s i
  x.src.getD (List.replicate 6 (0xFF : Byte)) ++ stationAddr s x.mac ++ beBytes 2 0x88B6 ++
    beBytes 1 type ++ beBytes 1 1 ++ beBytes 1 flags ++ beBytes 1 i ++ beBytes 4 x.epoch ++ beBytes 4 seq ++ beBytes 2 body.length ++
    beBytes 2 0 ++ body

/-- Send a KMP message: a write on transmit queue 0, any other on queue 1 (R397). -/
def kmpSend (i type flags seq owner : Nat) (body : List Byte) (s : State) : State :=
  macSend (magAt s i).mac (if type = 0x20 then 0 else 1) owner (kmpFrame s i type flags seq body) s

/-- Send a request, which is kept until its reply (R398, R401). -/
def kmpRequest (i type flags : Nat) (body : List Byte) (s : State) : State :=
  let q := (magAt s i).seq
  kmpSend i type flags q 0 body (modMag i (fun x => { x with
    seq := if q + 1 < 2 ^ 32 then q + 1 else 1, reqs := x.reqs ++ [{ type := type, seq := q, body := body, flags := flags }] }) s)

/-- The record surface of a buffer (R406). -/
def recSurf (s : State) (b : Nat) : Surf := bufSurf s b

/-- PAYLOAD_BYTES of a surface (R406). -/
def payloadBytes (u : Surf) : Nat := formatMinSize u.fmt u.lines u.stride

/-- Where a payload byte lies: its line, its plane, and its offset in the run of that line's samples (R238, R242, R406). -/
def recPlace (u : Surf) (off : Nat) : Nat × Nat × Nat :=
  let y := u.lay
  if famPlanar y.fam then
    let luma := u.lines * u.stride
    let cs := chromaStride y.fam u.stride
    if off < luma then (off / u.stride, 0, off % u.stride)
    else let r := (off - luma) % (u.lines * cs); (r / cs, 1 + (off - luma) / (u.lines * cs), r % cs)
  else if fmtTiled u.fmt then
    let t := off % (64 * u.stride) % (512 * y.b)
    (off / (64 * u.stride) * 64 + t / (8 * y.b), 0, t % (8 * y.b))
  else (off / u.stride, 0, off % u.stride)

/-- The bytes that black samples of a plane repeat with (R178). -/
def blackPattern (u : Surf) (plane : Nat) : List Byte :=
  let y := u.lay
  let k := fun c => (y.n, blackCode u c)
  let group := match y.fam with
    | .yc422 => [k 1, k 0, k 2, k 0]
    | .yc444 | .rgb => [k 0, k 1, k 2]
    | .pl422 | .pl444 => [k plane]
    | _ => [(y.n, 0)]
  packBits (List.replicate 8 group).flatten

/-- A payload byte lies in a line whose valid bit is clear (R178). -/
def inHole (s : State) (b : Nat) (u : Surf) (off : Nat) : Bool :=
  let l := (recPlace u off).1
  decide (l < u.lines) && !lineValid s b l

/-- What a read of the wanted bytes of a picture's payload gives (R178, R406, R419): its bytes, 0 those that are not wanted, how many
64-byte lines were poisoned, and the state after. Each frame-store line that holds real data is read once. -/
def readWanted (want : Nat → Bool) (b tok : Nat) (s : State) : List Byte × Nat × State :=
  let u := recSurf s b
  let n := payloadBytes u
  let l0 := u.base / 64
  let real := fun j => (List.range 64).any (fun o => decide (64 * j + o < n) && want (64 * j + o) && !inHole s b u (64 * j + o))
  let r := ((List.range (ceilDiv n 64)).filter real).foldl (fun (acc : Tab (List Byte) × Nat × State) j =>
    let v := bufReadLine b (l0 + j) acc.2.2
    (tabSet acc.1 j v.1, acc.2.1 + b2n v.2.1, v.2.2)) (([], 0, s) : Tab (List Byte) × Nat × State)
  let holes := ((((List.range n).filter (fun o => want o && inHole s b u o)).map (fun o => (recPlace u o).1))).eraseDups
  let byte := fun off =>
    if !want off then 0
    else if inHole s b u off then
      let p := recPlace u off
      let pat := blackPattern u p.2.1
      pat.getD (p.2.2 % pat.length) 0
    else (tabGet r.1 (off / 64)).getD (off % 64) 0
  ((List.range n).map byte, r.2.1, forEach holes (fun _ => holeRead 0 b tok) r.2.2)

/-- A read of a picture's whole payload (R406, R412). -/
def readPayload (b tok : Nat) (s : State) : List Byte × Nat × State := readWanted (fun _ => true) b tok s

/-- The 128 bytes of a record's header (R407) (DEDUCED, log entries 97 and 100). -/
def recHeader (s : State) (c clip : Nat) (p : ClipPicture) (poison : Nat) (isLast : Bool) : List Byte :=
  let x := recAt s c
  let f := bufAt s p.buf
  let q := (poolOf s p.buf).elim ({} : Pool) (poolAt s)
  let valid := validCount q.lines f
  let flags := b2n (decide (valid < q.lines)) + 2 * b2n (decide (0 < poison)) + 4 * b2n x.cfg.encrypt + 8 * b2n p.preroll + 16 * b2n isLast +
    32 * b2n p.mark.unlocked
  beBytes 4 0x4B4D4652 ++ beBytes 1 1 ++ beBytes 1 flags ++ beBytes 2 128 ++ beBytes 4 clip ++ beBytes 4 p.idx ++ beBytes 8 f.frame ++
    beBytes 6 f.capSec ++ beBytes 2 0 ++ beBytes 4 f.capNs ++ beBytes 4 p.mark.tc ++ beBytes 1 (p.mark.sub % 4 + 4 * b2n p.mark.drop) ++
    beBytes 1 c ++ beBytes 2 q.format ++ beBytes 2 q.lines ++ beBytes 2 valid ++ beBytes 4 q.stride ++
    beBytes 8 (payloadBytes (recSurf s p.buf)) ++ beBytes 4 p.gap ++ beBytes 4 (if x.cfg.encrypt then (x.key.map (·.1)).getD 0 else 0) ++
    beBytes 4 poison ++ beBytes 56 0

/-- The payload as it is sent: encrypted where the channel encrypts (R409). -/
def sentPayload (s : State) (c : Nat) (p : ClipPicture) (pay : List Byte) : List Byte :=
  let x := recAt s c
  if x.cfg.encrypt then xtsPayload ((x.key.map (·.2)).getD []) p.idx pay else pay

/-- One WRITE message (R400). -/
def kmpWrite (i clip pic off owner : Nat) (isLast : Bool) (d : List Byte) (s : State) : State :=
  kmpSend i 0x20 (b2n isLast) 0 owner (beBytes 4 clip ++ beBytes 4 pic ++ beBytes 8 off ++ d) s

/-- The most bytes of DATA in a write to slot `i` (R400). -/
def maxData (s : State) (i : Nat) : Nat := min 9000 (magAt s i).maxWrite

/-- Write a run of record bytes from an offset, every write full but the last (R400). -/
def kmpWrites (i clip pic off : Nat) (d : List Byte) (s : State) : State :=
  let w := maxData s i
  if w = 0 then s else
  forUpTo (ceilDiv d.length w) (fun k s => kmpWrite i clip pic (off + k * w) 0 false ((d.drop (k * w)).take w) s) s

/-- The trailer of a record: the CRC over the payload as sent and the header (R408). -/
def recTrailer (pay hdr : List Byte) : List Byte := beBytes 8 (crc64 (pay ++ hdr)).toNat

/-- The picture is the last of the clip (R416). -/
def isLastPicture (s : State) (c idx : Nat) : Bool := (recAt s c).ended && decide (idx + 1 = (recAt s c).count)

/-- Whether picture `idx` is the clip's last is not known yet: the channel drains, and more pictures may belong to the clip (R411, R416). -/
def lastOpen (s : State) (c idx : Nat) : Bool :=
  decide ((recAt s c).state = .draining) && !(recAt s c).ended && decide (idx + 1 = (recAt s c).count)

/-- The next write of the record on its way to slot `i`, of at most `w` bytes of payload (R400): payload, then the trailer, once it is
known whether the record is the last, and the header last; owner 100 + slot marks this. -/
def nextWrite (c i w : Nat) (s : State) : State :=
  match (magAt s i).copy with
  | none => s
  | some k => match k.record with
    | none => s
    | some r =>
      if r.off < r.pay.length then
        kmpWrite i k.clip r.pic.idx (128 + r.off) 0 false ((r.pay.drop r.off).take w)
          (modCopy i (fun k => { k with record := some { r with off := r.off + w } }) s)
      else match r.hdr with
        | some hdr => kmpWrite i k.clip r.pic.idx 0 (100 + i) true hdr (modCopy i (fun k => { k with record := none }) s)
        | none =>
          if lastOpen s c r.pic.idx then s
          else
            let hdr := recHeader s c k.clip r.pic r.poison (isLastPicture s c r.pic.idx)
            let tr := recTrailer r.pay hdr
            kmpWrite i k.clip r.pic.idx (128 + r.pay.length) 0 false tr (modCopy i (fun k => { k with
              record := some { r with hdr := some hdr }, done := k.done ++ [{ idx := r.pic.idx, hdr := hdr, trailer := tr }] }) s)

/-- The MAC of slot `i` takes a write (R417): its link is up, PAUSE does not hold it, and no earlier write waits. -/
def macTakes (s : State) (i : Nat) : Bool :=
  let m := macAt s (magAt s i).mac
  linkUp m && !m.tx.paused && !m.tx.waiting.any (fun f => decide (f.queue = 0))

/-- Charge the record of a picture of a channel, at most once for all the slots it goes to (R533, R534, R536). -/
def chargeRecord (c kind : Nat) (p : ClipPicture) (s : State) : State :=
  if (recAt s c).backlog.any (fun q => decide (q.idx = p.idx) && q.charged) then s
  else chargeFrame (8 + c) kind { modRec c (fun x => { x with
      backlog := x.backlog.map (fun q => if q.idx = p.idx then { q with charged := true } else q) }) s with
    rel.outputs := tabMod s.rel.outputs (8 + c) (fun o => { o with chargedFrame := false }) }

/-- A record was sent with HOLED or POISONED: its counts, event 6 and the charge of R536 kind 7; under a reference fault every
record is charged (R536 kind 4) (DEDUCED, log entry 100). -/
def recFlags (c : Nat) (p : ClipPicture) (poison : Nat) (s : State) : State :=
  let h := holed s p.buf
  if !h ∧ poison = 0 then (if (synAt s 9).refFault then chargeRecord c 4 p s else s)
  else
    let s1 := raiseRec c 6 (modRec c (fun x => { x with
      ctr.holed := (x.ctr.holed + b2n h) % 2 ^ 32, ctr.poisoned := (x.ctr.poisoned + b2n (decide (0 < poison))) % 2 ^ 32 }) s)
    if 0 < poison then chargeRecord c 7 p s1 else if (synAt s 9).refFault then chargeRecord c 4 p s1 else s1

end Sys2Proof.Machine
end

