-- ==== Sys2Proof/Machine/Synth.lean ====
section
/-! DEFINITION. Clock synthesis: commands 0x0209 to 0x020C, the synthesizers' events and the ramp generator (R89 to
R113). -/
namespace Sys2Proof.Machine
open Sys2Proof

/-- Change synthesizer `k`. -/
def modSyn (k : Nat) (f : Syn → Syn) (s : State) : State := { s with time.syns := tabMod s.time.syns k f }

/-- MOD with the register code 0 read as 2²⁴ (R90). -/
def modOf (w : SynWords) : Nat := if w.modw = 0 then 16777216 else w.modw

/-- The swept word of a synthesizer without TRIM, as a fraction: N, or D for SYN8 (R90). -/
def sweptWord (k : Nat) (w : SynWords) : Nat × Nat :=
  if k = 8 then (w.od * 16777216 + w.frac, 16777216) else (w.int * modOf w + w.frac, modOf w)

/-- The loop words for an output frequency of `num / den` Hz at a REF_MODE, or none where the VCO would fall below
5,000 MHz (R91). -/
def synWordsFor (refMode num den : Nat) : Option SynWords :=
  if num = 0 ∨ den = 0 then none else
  let od := 2 * (10000000000 * den / num / 2)
  let od := if 510 < od then 510 else od
  if od < 8 ∨ num * od < 5000000000 * den then none else
    let a := num * od
    let b := den * 13500000 * pfdUnits refMode
    let g := Nat.gcd a b
    let a' := a / g
    let b' := b / g
    if b' ≤ 16777216 then
      some { refMode := refMode, int := a' / b', frac := a' % b', modw := if b' = 16777216 then 0 else b', od := od, tnum := num, tden := den }
    else
      let n := (roundHalfUp (a' * 16777216 : Nat) b').toNat
      some { refMode := refMode, int := n / 16777216, frac := n % 16777216, modw := 0, od := od, tnum := num, tden := den }

/-- The words at another REF_MODE, derived from the same target frequency (R91). -/
def wordsAtRefMode (w : SynWords) (refMode : Nat) : SynWords :=
  (synWordsFor refMode w.tnum w.tden).getD { w with refMode := refMode }

/-- The VCO target rounded half up to 1 MHz, the key of the band cache (R106); that of SYN8 is fixed (R90). -/
def vcoMhz (k : Nat) (w : SynWords) : Nat :=
  if k = 8 then 8640 else
  let n := sweptWord 0 w
  (roundHalfUp (n.1 * pfdUnits w.refMode * 27 : Nat) (2 * n.2)).toNat

/-- The cache entry that a lookup hits (R106). -/
def cacheLookup (y : Syn) (temp : Int) (refMode mhz : Nat) : Option BandEntry :=
  y.cache.find? (fun e => decide (e.refMode = refMode) && decide (e.vcoMhz = mhz) && decide ((e.temp - temp).natAbs ≤ 20))

/-- Put a search result into the cache, in place of the entry with its key or the least recently used (R106). -/
def cacheInsert (e : BandEntry) (l : List BandEntry) : List BandEntry :=
  let l1 := l.filter (fun x => !(decide (x.refMode = e.refMode) && decide (x.vcoMhz = e.vcoMhz)))
  (if 16 ≤ l1.length then l1.drop 1 else l1) ++ [e]

/-- Make an entry the most recently used. -/
def cacheTouch (e : BandEntry) (l : List BandEntry) : List BandEntry := l.filter (fun x => decide (x ≠ e)) ++ [e]

/-- TRIM for an offset of the output in 10⁻⁶ ppb (R90, R101): it adds to the feedback word, or to the divider of SYN8, which
a faster output makes smaller (DESIGN CHOICE, log entry 168). -/
def trimFor (k : Nat) (w : SynWords) (uppb : Int) : Int :=
  let n := sweptWord k w
  let one : Int := 1000000000000000
  let d := if k = 8 then n.2 * (one + uppb).toNat else n.2 * one.toNat
  let x := if k = 8 then -uppb else uppb
  if d = 0 then 0 else clampI (-2147483648) 2147483647 (roundHalfUp (x * (n.1 * 4294967296 : Nat)) d)

/-- Set a synthesizer's TRIM from an offset in 10⁻⁶ ppb (DESIGN CHOICE, log entry 168). -/
def setOffset (k : Nat) (uppb : Int) (s : State) : State :=
  modSyn k (fun y => { y with trim := trimFor k y.words uppb, offsetPpb := uppb / 1000000 }) s

/-- TRIM rescaled at an update point, by the formula of R103 (DEDUCED, log entry 49). -/
def rescaleTrim (k : Nat) (t : Int) (old new : SynWords) : Int :=
  let a := sweptWord k old
  let b := sweptWord k new
  if b.1 * a.2 = 0 then 0 else
    clampI (-2147483648) 2147483647 (roundHalfUp (t * (a.1 * b.2 : Nat)) (b.1 * a.2))

/-- The loop words that gate the output when they change (R105). -/
def gatingChange (k : Nat) (old new : SynWords) : Bool :=
  decide (k ≠ 8) && decide ((old.int, old.frac, old.modw, old.od, old.refMode) ≠ (new.int, new.frac, new.modw, new.od, new.refMode))

/-- A synthesizer after its update point: every pending shadow field applies at once, TRIM is rescaled, the dither
LFSR is loaded, and a change of loop words gates the output and selects a band (R93, R95, R103 to R106). A new VCO frequency
lies in the current band when its cache key is the one in force (DESIGN CHOICE, log entry 167). -/
def synUpdated (k now : Nat) (temp : Int) (y : Syn) : Syn :=
  let w := y.shadow.getD y.words
  let cfg := y.cfgShadow.getD y.cfg
  let y1 := { y with
    words := w, cfg := cfg, shadow := none, cfgShadow := none, lfsr := cfg.seed, cycles := 0, seedAt := now, trim := rescaleTrim k y.trim y.words w }
  if gatingChange k y.words w then
    let y2 := { y1 with state := .acquiring, gated := true, attempts := 0 }
    if y.state ≠ .off ∧ w.refMode = y.words.refMode ∧ vcoMhz k w = vcoMhz k y.words then { y2 with searching := false }
    else match cacheLookup y temp w.refMode (vcoMhz k w) with
      | some e => { y2 with cacheHit := true, band := e.band, searching := false, cache := cacheTouch e y.cache }
      | none => { y2 with cacheHit := false, searching := true }
  else y1

/-- The die temperature as it is measured now (DESIGN CHOICE, log entry 173). -/
def dieMeasured (s : State) : State := { s with time.dieTemp := (Config.freeTemp s.free).toInt, free := s.free + 1 }

/-- One step of the dither LFSR, of polynomial x²⁴ + x²³ + x²² + x¹⁷ + 1 (R93) (DESIGN CHOICE, log entry 172). -/
def ditherStep (x : Nat) : Nat := (x * 2 + (b2n (bit x 23) + b2n (bit x 22) + b2n (bit x 21) + b2n (bit x 16)) % 2) % 16777216

/-- The LFSR after some cycles. -/
def ditherRun : Nat → Nat → Nat
  | 0, x => x
  | n + 1, x => ditherRun n (ditherStep x)

/-- The whole cycles that have clocked the modulator of synthesizer `k` since its LFSR was loaded (R93). -/
def ditherCycles (s : State) (k : Nat) : Nat := synCycles s k / posUnit

/-- What the dither adds to the modulator input now, in units of 2⁻³² of the swept word (R93): the first difference
of the LFSR's lowest bit, so that the sum over any run is at most one unit (DESIGN CHOICE, log entry 172). -/
def ditherValue (s : State) (k : Nat) : Int :=
  if !(synAt s k).cfg.dither then 0 else
    let x := ditherRun (ditherCycles s k) (synAt s k).lfsr
    (b2n (bit (ditherStep x) 0) : Int) - b2n (bit x 0)

/-- The word that the modulator divides by on average now, in units of 2⁻³² rounded down: INT + FRAC/MOD, or
DI + DF × 2⁻²⁴ for SYN8, with TRIM and the dither (R90, R92, R93). -/
def modulatorInput (s : State) (k : Nat) : Int :=
  let n := sweptWord k (synAt s k).words
  (n.1 * 4294967296 / n.2 : Nat) + (synAt s k).trim + ditherValue s k

/-- The least and the greatest division of the noise-shaping modulator for its word (R92). -/
def divisionRange (s : State) (k : Nat) : Int × Int :=
  let w := modulatorInput s k / 4294967296
  (w - 3, w + 4)

/-- The update point of synthesizer `k` (R104); a locked pair's synthesizers share theirs (R98). -/
def synUpdatePoint (k : Nat) (s : State) : State :=
  let s0 := dieMeasured (holdRasters s)
  let s1 := forEach (synPairOf s k) (fun j s => modSyn j (synUpdated j s.time.tb.now s.time.dieTemp) s) s0
  forEach (synPairOf s k) (fun j s => finishWait (.synUpdate j) .ok 0 [] s) (withdrawHeld s1)

/-- Write a synthesizer's shadow words, which apply at its update point, or at once where that is its point (R89). -/
def setSynShadow (k : Nat) (w : Option SynWords) (s : State) : State :=
  let s1 := modSyn k (fun y => { y with shadow := w }) s
  if k = 8 ∧ ¬s.time.cap.mode.drive then synUpdatePoint 8 s1 else s1

/-- A synthesizer that is OFF holds its settings until its domain is on; nothing is searched (R504) (DEDUCED, log entry 144). -/
def synStored (y : Syn) : Syn :=
  { y with words := y.shadow.getD y.words, cfg := y.cfgShadow.getD y.cfg, shadow := none, cfgShadow := none }

/-- SYN_CONFIG (R93, R94, R98, R104); BUSY while an open SYN_CACHE_FILL holds the synthesizer (R46, R106). -/
def cmdSynConfig (c : Cmd) (s : State) : CmdRes :=
  let k := c.u8 0
  let y := synAt s k
  let rm := if k = 8 then 0 else c.u8 1
  let sdi := decide (k = 10) || decide (k = 11)
  let lead := c.u8 12
  let cfg : SynCfg := { refMode := rm, dither := bit (c.u8 2) 0, lockWin := c.u8 3, lockCnt := c.u16 4, seed := c.un 8 3,
                        sdiLead := if sdi ∧ lead ≤ 7 then some lead else none }
  let changed := decide (rm ≠ y.words.refMode)
  let next := y.shadow.getD y.words
  checks s [tooShort c 16, rsvIf (decide (1 < c.u8 2)), rsv c 6 2, rsv c 11 1, rsv c 13 3, bad (decide (11 < k)),
    bad (decide (k ≠ 8) && decide (2 < c.u8 1)), bad (decide (c.u8 3 = 0)), bad (decide (c.u16 4 < 16)),
    bad (decide (c.un 8 3 = 0)), bad (sdi && decide (7 < lead) && decide (lead ≠ 255)),
    stateIf (decide (k < 8) && isUpperOfPair s k) unstated, stateIf (decide (k = 9) && changed) unstated,
    stateIf (sdi && changed && synInUse s k) unstated, busyIf (synHeld s k) 0]
    (let w := if rm ≠ next.refMode then some (wordsAtRefMode next rm) else y.shadow
     let s1 := forEach (synPairOf s k) (fun j => modSyn j (fun z => { z with cfgShadow := some cfg, shadow := w })) s
     if synInUse s k ∧ k ≠ 8 then .wait (.synUpdate k) s1
     else if k = 8 ∧ s.time.cap.mode.drive then .wait (.synUpdate k) s1
     else done (if y.state = .off then forEach (synPairOf s k) (fun j => modSyn j synStored) s1 else synUpdatePoint k s1))

/-- One band search of SYN_CACHE_FILL (R106): its result is a free value (DESIGN CHOICE, log entry 10). -/
def cacheSearch (k mhz : Nat) (s : State) : State :=
  let e : BandEntry := { refMode := (synAt s k).words.refMode, vcoMhz := mhz, band := (Config.freeBand s.free).toNat,
                         fine := (Config.freeFine s.free).toNat, temp := (Config.freeTemp s.free).toInt }
  modSyn k (fun y => { y with cache := cacheInsert e y.cache }) { s with free := s.free + 1 }

/-- SYN_CACHE_FILL (R106): each search is one step; the command holds the synthesizer. -/
def cmdSynCacheFill (c : Cmd) (s : State) : CmdRes :=
  let k := c.u8 0
  let n := c.u8 1
  let ts := (List.range n).map (fun i => c.u32 (4 + 4 * i))
  checks s [tooShort c 4, bad (decide (n = 0) || decide (16 < n)), tooShort c (4 + 4 * n), rsv c 2 2,
    bad (decide (11 < k) || decide (k = 8) || decide (k = 9)), bad (ts.any (fun t => decide (t < 5000) || decide (10000 < t))),
    stateIf (synInUse s k) unstated, busyIf (synHeld s k) 0]
    (.accept (.cacheFill k ts 1) (if n = 1 then some (.ok, 0, []) else none) (cacheSearch k (ts.getD 0 0) s))

/-- CAPTURE_RAMP_LOAD (R108, R111). -/
def cmdCaptureRampLoad (c : Cmd) (s : State) : CmdRes :=
  let n := c.u8 0
  let seg := fun i => ({ endRate := c.u32 (4 + 8 * i), duration := c.u32 (8 + 8 * i) } : RampSeg)
  let l := (List.range n).map seg
  checks s [tooShort c 4, bad (decide (n = 0) || decide (64 < n)), tooShort c (4 + 8 * n), rsv c 1 3,
    bad (l.any (fun g => decide (g.endRate < 1000) || decide (4000000000 < g.endRate) || decide (g.duration = 0) ||
      decide (60000000 < g.duration))),
    stateIf s.time.ramp.run.isSome unstated]
    (done { s with time.ramp.profile := l })

/-- The rate of a running ramp in 10⁻⁶ fps at its present microsecond, as a fraction (R109). -/
def rampRate (r : RampRun) : Nat × Nat :=
  match r.segs with
  | [] => (r.startNum, r.startDen)
  | g :: _ => (r.startNum * (g.duration - r.tUs) + g.endRate * r.startDen * r.tUs, r.startDen * g.duration)

/-- The divider word of SYN8 for a rate in 10⁻⁶ fps, D in units of 2⁻²⁴ rounded half up (R109). -/
def rampDivider (rate : Nat × Nat) (lines : Nat) : Nat :=
  if rate.1 * lines = 0 then 0 else
    (roundHalfUp (8640000000 * 1000000 * 16777216 * rate.2 : Nat) (rate.1 * lines * 16)).toNat

/-- Put a divider word of the ramp into SYN8, to which its TRIM is added (R109). -/
def setDivider (d : Nat) (s : State) : State :=
  modSyn 8 (fun y => { y with words := { y.words with od := d / 16777216, frac := d % 16777216 } }) (holdRasters s)

/-- Every end rate of a profile gives a divider within SYN8's range (R110). -/
def rampEndsOk (l : List RampSeg) (lines : Nat) : Bool :=
  l.all (fun g => let d := rampDivider (g.endRate, 1) lines
                  decide (d ≤ 65535 * 16777216) && decide (8640 * 16777216 ≤ 250 * d))

/-- The ramp ends (R109): its rate holds and event 21 is raised. -/
def endRamp (rate : Nat × Nat) (s : State) : State :=
  raise 21 { s with time.ramp := { s.time.ramp with run := none, rateNum := rate.1, rateDen := rate.2 } }

/-- CAPTURE_RAMP_START (R109, R110); one start waits at a time (DESIGN CHOICE, log entry 169). -/
def cmdCaptureRampStart (c : Cmd) (s : State) : CmdRes :=
  let r := s.time.ramp
  let cap := s.time.cap
  let start := c.u8 0 = 0
  let f := c.u64 8
  checks s [tooShort c 16, rsv c 1 7, bad (decide (1 < c.u8 0)),
    bad (decide start && decide (f ≠ 0) && decide (f ≤ cap.frame)),
    bad (decide start && cap.mode.drive && !rampEndsOk r.profile cap.mode.lines),
    stateIf (decide start && (!cap.mode.drive || r.profile.isEmpty || r.run.isSome || r.startFrame.isSome)) unstated,
    stateIf (!decide start && r.run.isNone) unstated]
    (if start then .wait .rampStart { s with time.ramp.startFrame := some (if f = 0 then cap.frame + 1 else f) }
     else match r.run with
       | some run => done (endRamp (rampRate run) s)
       | none => done s)

/-- Loss of lock (R97, R98): event 8 + k, the output gated, and the first of up to three relock attempts. -/
def synLoseLock (k : Nat) (s : State) : State :=
  let s1 := modSyn k (fun y => { y with
    state := .acquiring, gated := true, lost := true, attempts := 1, searching := true, cacheHit := false }) (raise (8 + k) (holdRasters s))
  let s2 := withdrawHeld (forEach (synPairOf s k) (fun j => modSyn j (fun y => { y with gated := true })) s1)
  synLossFault k (if k = 9 then { s2 with time.tb.onFabric := true } else s2)

/-- SYN_LOSS_OF_LOCK: a synthesizer that was locked loses lock. -/
def synLossOfLock (k : Nat) (s : State) : State := if (synAt s k).state = .locked then synLoseLock k s else s

/-- SYN_LOCK_TIMEOUT (R105): no lock 2 ms after an update is loss of lock. -/
def synLockTimeout (k : Nat) (s : State) : State :=
  if (synAt s k).state = .acquiring ∧ (synAt s k).attempts = 0 then synLoseLock k s else s

/-- A synthesizer that has declared lock (R94, R97, R106); `band` and `fine` are what its search found. -/
def synLockedOf (k now : Nat) (temp : Int) (band fine us : Nat) (y : Syn) : Syn :=
  let y1 := if y.searching then
      { y with band := band % 64, searching := false,
               cache := cacheInsert { refMode := y.words.refMode, vcoMhz := vcoMhz k y.words, band := band % 64, fine := fine, temp := temp } y.cache }
    else y
  { y1 with state := .locked, lockAt := now, lockUs := min us 65535, attempts := 0,
            relocks := if y.attempts = 0 then y.relocks else satAdd 255 y.relocks 1 }

/-- Open the gates that may open: all synthesizers of a pair have declared lock, and no reference fault (R95, R98, R100). -/
def openGates (k : Nat) (s : State) : State :=
  let l := synPairOf s k
  if l.all (fun j => decide ((synAt s j).state = .locked) && !(synAt s j).refFault) then
    let s1 := forEach l (fun j => modSyn j (fun y => { y with gated := false })) (holdRasters s)
    if k = 9 then { s1 with time.tb.onFabric := false } else s1
  else s

/-- SYN_LOCK_DECLARED (R94 to R99) (DESIGN CHOICE, log entry 53). -/
def synLockDeclared (k band fine us : Nat) (s : State) : State :=
  if (synAt s k).state = .acquiring then
    finishWait (.faultRecover k) .ok 0 [] (openGates k (modSyn k (synLockedOf k s.time.tb.now (dieMeasured s).time.dieTemp band fine us) (dieMeasured s)))
  else s

/-- SYN_RELOCK_ATTEMPT_END (R97): an attempt failed; after the third the synthesizer is FAILED. -/
def synRelockAttemptEnd (k : Nat) (s : State) : State :=
  let y := synAt s k
  if y.state = .acquiring ∧ 0 < y.attempts then
    if y.attempts < 3 then modSyn k (fun y => { y with attempts := y.attempts + 1 }) s
    else synFailedFault k (modSyn k (fun y => { y with state := .failed, attempts := 0, searching := false }) s)
  else s

/-- CACHED_BAND_TIMEOUT (R107): the cached band did not lock; its entry goes and a full search follows. -/
def cachedBandTimeout (k : Nat) (s : State) : State :=
  let y := synAt s k
  if y.state = .acquiring ∧ y.cacheHit ∧ !y.searching then
    modSyn k (fun y => { y with
      cacheHit := false, searching := true,
      cache := y.cache.filter (fun e => !(decide (e.refMode = y.words.refMode) && decide (e.vcoMhz = vcoMhz k y.words))) }) s
  else s

/-- REFERENCE_FAULT (R100): every synthesizer is gated, and event 20. -/
def referenceFault (s : State) : State :=
  refFaultRecord (raise 20 (withdrawHeld (forUpTo 12 (fun k => modSyn k (fun y => { y with gated := true, refFault := true }))
    { holdRasters s with time.tb.onFabric := true })))

/-- The frequency offset of a head after one microsecond of its tracking loop, in 10⁻⁶ ppb: toward `target`, within
MAX_PPB and MAX_PPB_PER_S (R77, R101) (DESIGN CHOICE, log entry 56). -/
def trackedOffset (cur target : Int) (maxPpb maxPerS : Nat) : Int :=
  let t := clampI (-(maxPpb * 1000000 : Nat)) (maxPpb * 1000000 : Nat) target
  cur + clampI (-(maxPerS : Int)) maxPerS (t - cur)

/-- The limits a head follows: a locked pair uses the tighter of the two (R77). -/
def slewLimits (s : State) (h : Nat) : Nat × Nat :=
  (pairOf s h).foldl (fun m j =>
    (min m.1 (tabGet s.time.tb.heads j).maxPpb, min m.2 (tabGet s.time.tb.heads j).maxPpbPerS)) (200000, 1000000)

/-- A head's phase error folded into (−T/2, T/2] for its frame period T (R313). -/
def headError (s : State) (h : Nat) (err : Int) : Int :=
  let f := frameRate s (timingOf s h)
  foldError err f.1 f.2

/-- TRACKING_LOOP_UPDATE (R101): the head's TRIM follows the timebase rate plus a correction toward its locked position, and
SYN8, SYN10 and SYN11 follow theirs (DESIGN CHOICE, log entries 11 and 174). -/
def trackingUpdate (h : Nat) (phaseErr : Int) (s : State) : State :=
  let b := s.time.tb
  let e := headError s h phaseErr
  let want := (b.freqPpb + e.sign * (Config.freeTracking e s.free).natAbs) * 1000000
  let lim := slewLimits s h
  let off := trackedOffset (tabGet b.heads h).offsetUppb want lim.1 lim.2
  let s1 : State := { holdRasters s with
    free := s.free + 1,
    time.tb.heads := (pairOf s h).foldl (fun t j => tabMod t j (fun x => { x with phaseErrNs := e, offsetUppb := off })) b.heads }
  let s2 := forEach (synPairOf s h) (fun j => setOffset j off) s1
  let s3 := setOffset 8 (if s.time.cap.mode.drive then b.freqPpb * 1000000 else 0) s2
  forEach [10, 11] (fun k s => setOffset k (match (synAt s k).cfg.sdiLead with
    | some l => (tabGet s.time.tb.heads l).offsetUppb
    | none => b.freqPpb * 1000000) s) s3

/-- RAMP_UPDATE (R109): at each whole microsecond the divider is computed anew; it waits while SYN8 is gated (R96). -/
def rampUpdate (s : State) : State :=
  match s.time.ramp.run with
  | none => s
  | some r =>
    if (synAt s 8).gated then s else
    match r.segs with
    | [] => s
    | g :: rest =>
      let r1 := { r with tUs := min (r.tUs + 1) g.duration }
      let s1 := setDivider (rampDivider (rampRate r1) s.time.cap.mode.lines) s
      let r2 := if r1.tUs = g.duration ∧ rest ≠ [] then
          ({ segs := rest, startNum := g.endRate, startDen := 1, tUs := 0 } : RampRun) else r1
      { s1 with time.ramp.run := some r2 }

/-- RAMP_END (R109): the last segment has run its time. -/
def rampEnd (s : State) : State :=
  match s.time.ramp.run with
  | some r => match r.segs with
    | [g] => if r.tUs = g.duration then endRamp (g.endRate, 1) s else s
    | _ => s
  | none => s

end Sys2Proof.Machine
end

