-- ==== Sys2Proof/Machine/Timebase.lean ====
section
/-! DEFINITION. The timebase, its references, the rasters and the timecode: commands 0x0201 to 0x0208 and their
events (R61 to R88). -/
namespace Sys2Proof.Machine
open Sys2Proof

/-- Change the timebase part. -/
def modTb (f : Timebase → Timebase) (s : State) : State := { s with time.tb := f s.time.tb }
/-- Change the capture raster. -/
def modCap (f : Capture → Capture) (s : State) : State := { s with time.cap := f s.time.cap }
/-- Change the timecode generator. -/
def modTc (f : TcGen → TcGen) (s : State) : State := { s with time.tc := f s.time.tc }

/-- The firmware servo stands still: during a checkpoint restart, and when the control path has failed, the timebase runs at
its last frequency word and its references and steps wait (R55) (DEDUCED, log entry 159). -/
def servoHeld (s : State) : Bool := decide (s.ctl.pair = .restarting) || decide (s.ctl.pair = .held)

/-- What the firmware servo does with an event of a reference, where it runs. -/
def byServo (f : State → State) (s : State) : State := if servoHeld s then s else f s

/-- Set `TB_STATE.STATE`; a change raises event 32 (R71). -/
def setTbState (t : TbState) (s : State) : State :=
  if s.time.tb.state = t then s else raise 32 (modTb (fun b => { b with state := t }) s)

/-- The identity of a candidate: its type and unit. -/
def candId (l : List Candidate) (m : Option Nat) : Option (Nat × Nat) :=
  m.bind (fun i => (l[i]?).map (fun c => (c.type, c.unit)))

/-- The position of the first candidate that meets a test. -/
def firstCand (l : List Candidate) (p : Candidate → Bool) : Option Nat :=
  let i := l.findIdx p
  if i < l.length then some i else none

/-- The master a list gives: the qualified candidate nearest position 0, else a free-run candidate (R69, R70). -/
def pickMaster (l : List Candidate) : Option Nat :=
  match firstCand l (fun c => decide (c.type ≠ 0) && decide (c.state = .qualified)) with
  | some i => some i
  | none => firstCand l (fun c => decide (c.type = 0))

/-- A rate within the ±200 ppm of the servo (R62). -/
def servoRate (ppb : Int) : Int := clampI (-200000) 200000 ppb

/-- The holdover frequency: the mean of the servo rates measured in the unslewed parts of the last 16 s (R72) (DESIGN CHOICE, log entry 206). -/
def holdoverPpb (run : Nat) (t : Timebase) : Int :=
  servoRate <|
  let l := t.history.filter (fun r => !r.slewing && decide (run ≤ r.at_ + 16 * secUnits))
  if l.isEmpty then t.masterPpb else (l.map (·.ppb)).sum / (l.length : Int)

/-- A qualified source of time of day is master (R64, R65). -/
def masterGivesTod (s : State) : Bool :=
  match s.time.tb.master with
  | some i => let ty := (s.time.tb.cands.getD i {}).type; decide (ty = 3) || decide (ty = 4)
  | none => false

/-- The timebase has taken the value of its master: a source of time of day has set it (R64). -/
def takeTod (s : State) : State := if masterGivesTod s then modTb (fun b => { b with todValid := true }) s else s

/-- A step that awaited the host or a frame start is no longer wanted (R76). -/
def dropStep (s : State) : State :=
  finishWait .stepApplied .rejState unstated [] (modTb (fun b => { b with stepDue := none }) s)

/-- The rate of the timebase changes: the rasters as they stand now are the positions from which they go on. -/
def setFreq (ppb : Int) (s : State) : State := modTb (fun b => { b with freqPpb := ppb }) (holdRasters s)

/-- Re-evaluate the master (R69, R70, R76): a candidate that becomes master starts in ACQUIRE; with none, the
timebase coasts or runs free (DEDUCED, log entry 50). -/
def reevaluateMaster (s : State) : State :=
  let t := s.time.tb
  match pickMaster t.cands with
  | some i =>
    let id := candId t.cands (some i)
    let c := t.cands.getD i {}
    if c.type = 0 then
      let s1 := setFreq 0 (modTb (fun b => { b with master := some i, slew := none, masterPpb := 0, lastMaster := id }) (dropStep s))
      setTbState .freerun (if id = t.lastMaster then s1 else raise 33 s1)
    else if id = t.lastMaster ∧ t.state ≠ .hold ∧ t.state ≠ .freerun then
      modTb (fun b => { b with master := some i }) s
    else
      let s1 := modTb (fun b => { b with
        master := some i, hadMaster := true, slew := none, declined := false, lastMaster := id }) (dropStep s)
      setTbState .acquire (if id = t.lastMaster then s1 else raise 33 s1)
  | none =>
    let s1 := modTb (fun b => { b with master := none, slew := none, declined := false }) (dropStep s)
    if t.hadMaster then
      setTbState .hold
        (if t.state = .hold then s1 else setFreq (holdoverPpb (runTime s) t) s1)
    else setTbState .freerun (setFreq 0 (modTb (fun b => { b with masterPpb := 0 }) s1))

/-- Change the state of candidate `i` and re-evaluate the master. -/
def setCandState (i : Nat) (st : CandState) (s : State) : State :=
  reevaluateMaster (modTb (fun b => { b with cands := b.cands.modify i (fun c => { c with state := st }) }) s)

/-- Candidate `i` of the list. -/
def candAt (s : State) (i : Nat) : Candidate := s.time.tb.cands.getD i {}

/-- A candidate that exists and has an input (free-run has none). -/
def candReal (s : State) (i : Nat) : Bool := decide (i < s.time.tb.cands.length) && decide ((candAt s i).type ≠ 0)

/-- Whether a reference type gives no time of day, so that its error is folded (R65, R66). -/
def foldsError (ty : Nat) : Bool := decide (ty = 1) || decide (ty = 2) || decide (ty = 5)

/-- The rate of the timebase under a slew offset, held within ±200 ppm (R62, R74). -/
def slewedPpb (base : Int) (slew : Option Int) : Int := servoRate (base + slew.getD 0)

/-- Start removing the error by slew: STATE becomes ACQUIRE and every enabled head lags (R74, R77). -/
def startSlew (err : Int) (declined : Bool) (s : State) : State :=
  let lim : Int := s.time.tb.slewPpb
  let off := if err < 0 then -lim else lim
  let s1 := modTb (fun b => { b with
    slew := some off, declined := declined, stepDue := none,
    heads := (List.range 8).foldl (fun hs h =>
      if headEnabled s h then tabMod hs h (fun x => { x with lag := true }) else hs) b.heads }) (setFreq (slewedPpb s.time.tb.masterPpb (some off)) s)
  setTbState .acquire s1

/-- A slew in progress keeps its limit and takes the sign that reduces the error as it is now (R74). -/
def steerSlew (err off : Int) (s : State) : State :=
  let o : Int := if err < 0 then -(off.natAbs : Int) else off.natAbs
  setFreq (slewedPpb s.time.tb.masterPpb (some o)) (modTb (fun b => { b with slew := some o }) s)

/-- The measured error of the master starts a slew or a step (R74, R75, R76). A step that waits takes the error as last
measured (R78), and ends without being applied when the error comes within the slew window, in ACQUIRE (R76). An error within
100 ns that nothing corrects needs no slew: STATE is LOCKED, with no event 36 (DESIGN CHOICE, log entry 161). -/
def correctMaster (err : Int) (s : State) : State :=
  let t := s.time.tb
  let small := decide (err.natAbs ≤ t.slewWindow) || decide (err.natAbs ≤ 100)
  match t.slew with
  | some off => steerSlew err off s
  | none =>
  if t.stepDue.isSome ∨ t.state = .stepPending then
    if small then startSlew err false (dropStep s)
    else if t.stepDue.isSome || t.stepAuto || !anyHeadEnabled s then modTb (fun b => { b with stepDue := some err }) s
    else setFreq (slewedPpb t.masterPpb none) s
  else if err.natAbs ≤ 100 then takeTod (setTbState .locked (setFreq (slewedPpb t.masterPpb none) s))
  else if small then startSlew err false s
  else if t.stepAuto || !anyHeadEnabled s then modTb (fun b => { b with stepDue := some err }) s
  else raise 34 (setTbState .stepPending (setFreq (slewedPpb t.masterPpb none) s))

/-- Two candidates of a list name the same reference: the same type and unit (R65). REF_IN as bi-level and REF_IN as tri-level
sync are two references (DESIGN CHOICE, log entry 162). -/
def sameRef : List (Nat × Nat) → Bool
  | [] => false
  | x :: l => l.contains x || sameRef l

/-- TIME_REF_SELECT (R65, R69): the list of reference candidates. For PTP and free-run RATE_DEN is to be 0 as RATE_NUM is (DESIGN CHOICE, log entry 163). -/
def cmdTimeRefSelect (c : Cmd) (s : State) : CmdRes :=
  let n := c.u8 0
  let ty := fun i => c.u8 (4 + 12 * i)
  let un := fun i => c.u8 (5 + 12 * i)
  let num := fun i => c.u32 (8 + 12 * i)
  let den := fun i => c.u32 (12 + 12 * i)
  let any := anyUpTo n
  let old := s.time.tb.cands
  let mk := fun i =>
    match old.find? (fun o => decide (o.type = ty i) && decide (o.unit = un i)) with
    | some o => { o with rateNum := num i, rateDen := den i }
    | none => ({ type := ty i, unit := un i, rateNum := num i, rateDen := den i } : Candidate)
  checks s [tooShort c 4, bad (decide (n = 0) || decide (4 < n)), tooShort c (4 + 12 * n), rsv c 1 3,
    rsvIf (any (fun i => decide (c.u16 (6 + 12 * i) ≠ 0))),
    bad (any (fun i => decide (5 < ty i) || (decide (ty i = 4) && decide (15 < un i)) ||
      (decide (ty i = 5) && decide (3 < un i)) || (decide (ty i ≠ 4) && decide (ty i ≠ 5) && decide (un i ≠ 0)) ||
      (if ty i = 0 ∨ ty i = 4 then decide (num i ≠ 0) || decide (den i ≠ 0) else decide (num i = 0) || decide (den i = 0)))),
    bad (sameRef ((List.range n).map (fun i => (ty i, un i)))),
    stateIf (any (fun i => (decide (ty i = 4) && !macIsNetwork s (un i)) ||
      (decide (ty i = 5) && !ingestConfigured s (un i)))) unstated]
    (done (reevaluateMaster (modTb (fun b => { b with cands := (List.range n).map mk }) s)))

/-- TIME_CORRECTION_SET (R67, R74, R75): slew window, slew limit, qualification time, step policy. -/
def cmdTimeCorrectionSet (c : Cmd) (s : State) : CmdRes :=
  checks s [tooShort c 12, rsv c 11 1, bad (decide (100000000 < c.u32 0)),
    bad (decide (c.u32 4 < 1000) || decide (200000 < c.u32 4)),
    bad (decide (c.u16 8 < 100) || decide (60000 < c.u16 8)), bad (decide (1 < c.u8 10))]
    (done (modTb (fun b => { b with
      slewWindow := c.u32 0, slewPpb := c.u32 4, qualMs := c.u16 8, stepAuto := decide (c.u8 10 = 1) }) s))

/-- TIME_STEP_APPROVE (R75, R76): the pending step is applied at the next reference frame start, or slewed. A step already
approved that is then declined is not applied, and its command is answered as one that R76 ends (DESIGN CHOICE, log entry 208). -/
def cmdTimeStepApprove (c : Cmd) (s : State) : CmdRes :=
  checks s [tooShort c 4, rsv c 1 3, bad (decide (1 < c.u8 0)), stateIf (decide (s.time.tb.state ≠ .stepPending)) unstated]
    (if c.u8 0 = 0 then .wait .stepApplied (modTb (fun b => { b with stepDue := some b.errFull }) s)
     else done (startSlew s.time.tb.errFull true (dropStep s)))

/-- TIME_SET (R78): the value is applied as a step at the next reference frame start. -/
def cmdTimeSet (c : Cmd) (s : State) : CmdRes :=
  let t := s.time.tb
  let masterNoTod := match t.master with
    | some i => foldsError (candAt s i).type
    | none => false
  checks s [tooShort c 12, rsv c 6 2, bad (decide (999999999 < c.u32 8)),
    stateIf (!(decide (t.state = .freerun) || masterNoTod)) unstated]
    (.wait .timeSet (modTb (fun b => { b with timeSetDue := some (c.un 0 6 * secUnits + c.u32 8 * nsUnits) }) s))

/-- REF_RASTER_SET (R82): rate, totals and offset of the reference raster, from the next frame start it defines. -/
def cmdRefRasterSet (c : Cmd) (s : State) : CmdRes :=
  let num := c.u32 0
  let den := c.u32 4
  checks s [tooShort c 16, bad (decide (num = 0) || decide (240000 < num)), bad (decide (den ≠ 1000) && decide (den ≠ 1001)),
    bad (decide (c.u16 8 < 2) || decide (8192 < c.u16 8)), bad (decide (c.u16 10 < 2) || decide (16384 < c.u16 10)),
    bad (decide (den * 1000000000 ≤ (c.i32 12).natAbs * num)),
    stateIf (anyHeadEnabled s && (decide (num ≠ s.time.ref.num) || decide (den ≠ s.time.ref.den))) unstated]
    (.wait .refRaster { s with time.refPending := some { num := num, den := den, lines := c.u16 8, samples := c.u16 10, offsetNs := c.i32 12 } })

/-- The nominal frames per second of a timecode base code, and whether it is divided by 1.001 (R86). -/
def tcBase (b : Nat) : Nat × Bool :=
  if b = 0 then (24, false) else if b = 1 then (25, false) else if b = 2 then (30, false)
  else if b = 3 then (24, true) else (30, true)

/-- The number of raster frames each timecode value covers, when it is 1, 2 or 4 (R86). -/
def tcFactor (r : RefRaster) (base : Nat) : Option Nat :=
  let b := tcBase base
  let bn := b.1 * 1000
  let bd := if b.2 then 1001 else 1000
  [1, 2, 4].find? (fun k => decide (r.num * bd = k * bn * r.den))

/-- A timecode whose fields are those of a base rate. -/
def tcFieldsOk (t : Timecode) (base : Nat) : Bool :=
  decide (t.hh < 24) && decide (t.mm < 60) && decide (t.ss < 60) && decide (t.ff < (tcBase base).1)

/-- The frame count of a timecode (R86), drop-frame counting where it is set. -/
def tcCount (m : TcMode) (t : Timecode) : Int :=
  let f := (tcBase m.base).1
  let n := ((t.hh * 60 + t.mm) * 60 + t.ss) * f + t.ff
  let mins := t.hh * 60 + t.mm
  if m.drop then (n : Int) - 2 * ((mins : Int) - mins / 10) else n

/-- The frames in one day. -/
def tcDay (m : TcMode) : Nat :=
  if m.drop then 2589408 else 86400 * (tcBase m.base).1

/-- The timecode of a frame count, modulo one day (R86). -/
def tcOfCount (m : TcMode) (n : Int) : Timecode :=
  let f := (tcBase m.base).1
  let k := (n % (tcDay m : Int)).toNat
  let k' := if m.drop then
      let d := k / 17982
      let r := k % 17982
      k + 18 * d + (if r < 1800 then 0 else 2 * ((r - 1800) / 1798 + 1))
    else k
  { hh := k' / (3600 * f) % 24, mm := k' / (60 * f) % 60, ss := k' / f % 60, ff := k' % f }

/-- TC_SET (R85, R86, R87). -/
def cmdTcSet (c : Cmd) (s : State) : CmdRes :=
  let base := c.u8 1
  let tc : Timecode := { ff := c.u8 4, ss := c.u8 5, mm := c.u8 6, hh := c.u8 7 }
  let r := s.time.refPending.getD s.time.ref
  checks s [tooShort c 24, rsv c 3 1, rsvIf (decide (3 < c.u8 2)), bad (decide (3 < c.u8 0)), bad (decide (4 < base)),
    bad (bit (c.u8 2) 0 && decide (base ≠ 4)), bad (!tcFieldsOk tc base), bad (tcFactor r base).isNone]
    (.wait .tcFrame (modTc (fun g => { g with
      pendTaken := false,
      pending := some { mode := c.u8 0, base := base, drop := bit (c.u8 2) 0, ltcOut := bit (c.u8 2) 1, tc0 := tc,
                        n0 := (c.u64 8 : Int), userBits := c.u32 16, todOffset := c.i32 20 } }) s))

/-- HEAD_SLEW_SET (R77): a head's frequency-offset limit and its rate-of-change limit. -/
def cmdHeadSlewSet (c : Cmd) (s : State) : CmdRes :=
  checks s [tooShort c 12, rsv c 1 3, bad (decide (7 < c.u8 0)), bad (decide (c.u32 4 < 100) || decide (200000 < c.u32 4)),
    bad (decide (c.u32 8 < 100) || decide (1000000 < c.u32 8))]
    (done (modTb (fun b => { b with
      heads := tabMod b.heads (c.u8 0) (fun x => { x with maxPpb := c.u32 4, maxPpbPerS := c.u32 8 }) }) s))

/-- The SYN8 divider words for a capture rate of `num / den` in 10⁻⁶ fps (R90, R109): D in units of 2⁻²⁴. -/
def capDivider (num den lines : Nat) : Nat :=
  if num * lines = 0 then 0 else
    (roundHalfUp (8640000000 * 1000000 * 16777216 * den : Nat) (num * lines * 16)).toNat

/-- A divider word of SYN8 lies within its range: D at most 65,535 and the output at most 250 MHz (R90, R110). -/
def capDividerOk (d : Nat) : Bool := decide (d ≤ 65535 * 16777216) && decide (8640 * 16777216 ≤ 250 * d)

/-- CAPTURE_RASTER_SET (R84, R111): FOLLOW or DRIVE mode, from the next capture boundary under it. Markers of a stream no longer
to be followed begin no frame. -/
def cmdCaptureRasterSet (c : Cmd) (s : State) : CmdRes :=
  let drive := decide (c.u8 0 = 1)
  let m : CapMode := if drive then { drive := true, lines := c.u16 2, num := c.u32 8, den := c.u32 12 }
    else { drive := false, stream := c.u8 1, latencyNs := c.u32 4 }
  let d := capDivider (m.num * 1000000) m.den m.lines
  let old := s.time.cap.pending.getD s.time.cap.mode
  let kept := decide (m.drive = old.drive) && decide (m.stream = old.stream)
  checks s [tooShort c 16, bad (decide (1 < c.u8 0)), bad (!drive && decide (3 < c.u8 1)),
    bad (drive && (decide (m.lines = 0) || decide (m.num = 0) || decide (m.den = 0) || !capDividerOk d)),
    stateIf (s.time.ramp.run.isSome) unstated,
    stateIf (decide (drive ≠ s.time.cap.mode.drive) && anyClipOpen s) unstated]
    (.wait .captureRaster (modCap (fun x => { x with pending := some m, markers := if kept then x.markers else [] }) (setSynShadow 8
      (if drive then some { refMode := 0, int := 320, frac := d % 16777216, modw := 0, od := d / 16777216 }
       else (synAt s 8).shadow) s)))

/-- TB_LATCH (R61): the registers hold the timebase of this instant. -/
def latchTb (s : State) : State := modTb (fun b => { b with latched := b.now }) s

/-- Saturate a signed ns value as `TB_ERR_NS` does. -/
def satNs (v : Int) : Int := clampI (-2147483647) 2147483647 v

/-- The comparison of one replica (R63): a difference beyond 1 ns raises event 64, is counted and is reloaded. -/
def replicaCheck (d : Nat) (diffNs : Int) (s : State) : State :=
  if 1 < diffNs.natAbs then
    countReplicaReload d (raise 64 (modTb (fun b => { b with replicaErr := tabSet b.replicaErr d 0 }) s))
  else modTb (fun b => { b with replicaErr := tabSet b.replicaErr d diffNs }) s

/-- A candidate's input shows a valid signal (R67); a PTP candidate on a leader's own rig port stays ABSENT (R458). -/
def refSignalValid (i : Nat) : State → State := byServo fun s =>
  if (candAt s i).type = 4 ∧ leaderPort s (candAt s i).unit then s
  else if candReal s i ∧ ((candAt s i).state = .absent ∨ (candAt s i).state = .lost) then setCandState i .qualifying s else s

/-- A qualifying candidate's signal becomes invalid (R67). -/
def refSignalInvalid (i : Nat) : State → State := byServo fun s =>
  if candReal s i ∧ (candAt s i).state = .qualifying then setCandState i .absent s else s

/-- A candidate qualifies (R67, R68), with event 42 + i. -/
def refQualified (i : Nat) : State → State := byServo fun s =>
  if candReal s i ∧ (candAt s i).state = .qualifying ∧ ¬((candAt s i).type = 5 ∧ s.time.ramp.run.isSome) then
    setCandState i .qualified (raise (42 + i) s)
  else s

/-- A qualified candidate is lost (R67, R70, R72, R76), with event 38 + i. -/
def refLost (i : Nat) : State → State := byServo fun s =>
  if candReal s i ∧ (candAt s i).state = .qualified then setCandState i .lost (raise (38 + i) s) else s

/-- Ten seconds in LOST (R67). -/
def refLostTimeout (i : Nat) : State → State := byServo fun s =>
  if candReal s i ∧ (candAt s i).state = .lost then setCandState i .absent s else s

/-- A phase error is measured (R66): the candidate's offset, and for the master the correction of R74 and R75. The servo's
rate stays within ±200 ppm (R62). -/
def refErrorMeasure (i : Nat) (err ppb : Int) : State → State := byServo fun s =>
  if candReal s i ∧ (candAt s i).state = .qualified then
    let c := candAt s i
    let e := if foldsError c.type then foldError err c.rateNum c.rateDen else err
    let s1 := modTb (fun b => { b with cands := b.cands.modify i (fun c => { c with offsetNs := e }) }) s
    if s.time.tb.master = some i then
      let s2 := setFreq (slewedPpb (servoRate ppb) s.time.tb.slew) (modTb (fun b => { b with
        errNs := satNs e, errFull := e, masterPpb := servoRate ppb,
        history := (b.history.filter (fun r => decide (runTime s ≤ r.at_ + 16 * secUnits))) ++
          [{ at_ := runTime s, ppb := servoRate ppb, slewing := b.slew.isSome }] }) s1)
      correctMaster e s2
    else s1
  else s

/-- A slew ends within 100 ns (R74): event 36 and LOCKED; a master that gives time of day has set it (R64). -/
def slewComplete : State → State := byServo fun s =>
  let t := s.time.tb
  if t.slew.isSome ∧ t.errFull.natAbs ≤ 100 then
    takeTod <| setTbState .locked (raise 36 (setFreq (slewedPpb t.masterPpb none)
      (modTb (fun b => { b with slew := none, declined := false }) s)))
  else s

/-- A head realigned after a step (R79): event 48 + h, its step flag, and it no longer lags. -/
def realignOne (h : Nat) (s : State) : State :=
  raise (48 + h) (modTb (fun b => { b with
    heads := tabMod b.heads h (fun x => { x with lag := false, stepped := true, realignDue := false, phaseErrNs := 0 }) }) s)

/-- The blanking of a head is lengthened to its next locked position (R79, R315); what was armed on its raster for a later
frame is withdrawn with it (R119). -/
def lengthenBlank (h : Nat) (s : State) : State := withdrawLater h (modHd (lowerOf s h) (fun x => { x with longBlank := true }) s)

/-- HEAD_REALIGN: after a step a head lengthens one vertical blanking, a locked pair one that both share (R79). -/
def headRealign (h : Nat) (s : State) : State :=
  if headEnabled s h ∧ (tabGet s.time.tb.heads h).realignDue then forEach (pairOf s h) realignOne (lengthenBlank h s) else s

/-- A head's remaining phase error comes within 100 ns (R77): event 56 + h. -/
def convergeOne (h : Nat) (s : State) : State :=
  raise (56 + h) (modTb (fun b => { b with heads := tabMod b.heads h (fun x => { x with lag := false }) }) s)

/-- A head's phase error is within 100 ns (R77, R315). -/
def headNear (s : State) (h : Nat) : Bool := decide ((tabGet s.time.tb.heads h).phaseErrNs.natAbs ≤ 100)

/-- HEAD_SLEW_CONVERGED: the remaining error of a head that lags is within 100 ns; a locked pair moves together (R77). -/
def headSlewConverged (h : Nat) (s : State) : State :=
  if headEnabled s h ∧ headNear s h ∧ (tabGet s.time.tb.heads h).lag ∧ ¬(tabGet s.time.tb.heads h).realignDue then
    forEach (pairOf s h) convergeOne s else s

/-- The timecode of reference frame `n` and its sub-frame index (R85, R86); where a later reference rate is not 1, 2 or 4 times
the base, each value covers one frame (DESIGN CHOICE, log entry 207). -/
def tcAt (s : State) (n : Int) : Timecode × Nat :=
  let m := s.time.tc.mode
  let k : Int := ((tcFactor s.time.ref m.base).getD 1 : Nat)
  if m.mode = 3 then
    let b := tcBase m.base
    let units := (s.time.tb.now : Int) + m.todOffset * (secUnits : Nat)
    let day := units % (86400 * secUnits : Nat)
    let fr := if b.2 then day * (b.1 * 1000 : Nat) / (1001 * secUnits : Nat) else day * (b.1 : Nat) / (secUnits : Nat)
    (tcOfCount m fr, (n % k).toNat)
  else (tcOfCount m (tcCount m m.tc0 + (n - m.n0) / k), ((n - m.n0) % k).toNat)

/-- The reference raster begins a frame: pending settings apply, and the timecode and LTC_OUT advance (R82 to R87) (DEDUCED, log entry 57). -/
def refFrameStart (s : State) : State :=
  let s1 : State := match s.time.refPending with
    | some r => finishWait .refRaster .ok 0 [] (slotsInRaster (refRenum s.time.ref r) (headsSeekLock (decide (r.offsetNs ≠ s.time.ref.offsetNs))
        { s with time.ref := r, time.refPending := none }))
    | none => s
  let n := refFrameAt s1.time.ref s1.time.tb.now
  let s2 : State := { s1 with time.refFrame := n }
  let g := s2.time.tc
  let s3 : State := match g.pending with
    | some m =>
      let m0 := { m with n0 := if m.n0 = 0 ∧ !g.pendTaken then n else m.n0 }
      let m' := if m.mode = 2 ∧ g.ltcValid then { m0 with tc0 := g.ltcIn, n0 := g.ltcFrame } else m0
      finishWait .tcFrame .ok 0 [] (modTc (fun g => { g with
        mode := m', pending := none, pendTaken := false, running := true, armed := decide (m.mode = 1) && !g.pendTaken }) s2)
    | none => s2
  let r := tcAt s3 n
  let s5 := modTc (fun g => { g with current := r.1, sub := r.2, frame := n }) s3
  let s6 := if s5.time.tc.mode.ltcOut then
      modTc (fun g => { g with ltcWord := g.current, ltcUser := g.mode.userBits, ltcPair := decide (g.sub % 2 = 1) }) s5
    else s5
  safelightTcLoad { s6 with sl := s.sl }

/-- An LTC_IN word is decoded, or LTC_IN is no longer valid (R85). JAM begins on the newest word where LTC_IN is valid. A word labels the reference frame in progress as it ends. In
JAM a word that continues the generator's count changes nothing; another is a discontinuity, from which the generator counts
on. JAM_ONCE takes the first word after its command, which may come before its settings apply (DESIGN CHOICE, log entry 57). -/
def ltcWord (valid : Bool) (tc : Timecode) (s : State) : State :=
  let g := s.time.tc
  let n := s.time.refFrame
  let jam := fun (m : TcMode) => { m with tc0 := tc, n0 := n }
  if !valid then modTc (fun g => { g with ltcValid := false }) s
  else
    let s1 := modTc (fun g => { g with ltcValid := true, ltcIn := tc, ltcFrame := n }) s
    let s2 := match g.pending with
      | some m => if m.mode = 1 ∧ !g.pendTaken then modTc (fun g => { g with pending := some (jam m), pendTaken := true }) s1 else s1
      | none => s1
    if g.running ∧ g.mode.mode = 1 ∧ g.armed then modTc (fun g => { g with armed := false, mode := jam g.mode }) s2
    else if g.running ∧ g.mode.mode = 2 ∧ (tcAt s n).1 ≠ tc then
      raise 46 (modTc (fun g => { g with mode := { jam g.mode with n0 := n - ((tcAt s n).2 : Nat) } }) s2)
    else s2

/-- While a ramp runs a sensor-cadence candidate is not qualified, and a master of that type is lost (R68, R111). -/
def rampUnqualifies (s : State) : State :=
  if s.time.ramp.run.isSome ∧ s.time.tb.cands.any (fun c => decide (c.type = 5) && decide (c.state = .qualified)) then
    reevaluateMaster (modTb (fun b => { b with
      cands := b.cands.map (fun c => if c.type = 5 ∧ c.state = .qualified then { c with state := .qualifying } else c) }) s)
  else s

/-- A ramp begins at this boundary (R109); a sensor-cadence candidate is no longer qualified (R68), which waits for the firmware
during a restart (R55). -/
def rampBegin (s : State) : State :=
  let r := s.time.ramp
  let s1 : State := { s with time.ramp := { r with
    startFrame := none, run := some { segs := r.profile, startNum := r.rateNum, startDen := r.rateDen, tUs := 0 } } }
  finishWait .rampStart .ok 0 [] (byServo rampUnqualifies s1)

/-- The slots are held against their rasters where a timing has changed (R118). -/
def slotsIf (changed : Bool) (s : State) : State := if changed then slotsInRaster noRenum s else s

/-- The boundaries kept, newest first: those of the last 5 s, and the one before them, whose frame was in progress then. Frame 0,
which has no boundary (R84), stands at 0. -/
def keepPast (b : Nat) (l : List (Nat × Nat)) : List (Nat × Nat) := l.take ((l.takeWhile (fun p => decide (b ≤ p.2 + 5 * secUnits))).length + 1)

/-- A capture frame begins at an instant (R84). A ramp whose boundary comes in FOLLOW mode does not start, and its command is
answered as it would be then (R109) (DESIGN CHOICE, log entry 164). -/
def capFrameBegin (b : Nat) (s : State) : State :=
  let c := s.time.cap
  let m := c.pending.getD c.mode
  let s1 := modCap (fun x => { x with
    mode := m, pending := none, frame := x.frame + 1, boundary := b, hasBoundary := true, posBase := 0, posAt := b,
    past := keepPast b ((x.frame, if x.hasBoundary then x.boundary else 0) :: x.past),
    period := if x.hasBoundary then b - x.boundary else x.period }) s
  let s2 := if c.pending.isSome then
      finishWait .captureRaster .ok 0 [] (if m.drive then
        { s1 with time.ramp.rateNum := m.num * 1000000, time.ramp.rateDen := m.den } else s1)
    else s1
  let s3 := slotsIf c.pending.isSome (if m.drive then synUpdatePoint 8 s2 else s2)
  if s3.time.ramp.startFrame = some s3.time.cap.frame then
    (if m.drive then rampBegin s3 else finishWait .rampStart .rejState unstated [] { s3 with time.ramp.startFrame := none })
  else s3

/-- CAPTURE_FRAME_BOUNDARY (R84): a marker of the followed stream, or SYN8 in DRIVE mode. Boundaries always
increase. Each marker begins its own frame; while a CAPTURE_RASTER_SET waits only a boundary under its mode begins one (DEDUCED, log entries 51 and 55; DESIGN CHOICE, log entry 165). -/
def captureBoundary (marker : Option Nat) (s : State) : State :=
  let c := s.time.cap
  let m := c.pending.getD c.mode
  let now := s.time.tb.now
  match marker with
  | some st =>
    if !m.drive ∧ st = m.stream then
      let b0 := c.markers.headD now - m.latencyNs * nsUnits
      let b := if c.hasBoundary ∧ b0 ≤ c.boundary then c.boundary + nsUnits else b0
      modCap (fun x => { x with gapRaised := false, continuing := false, markers := x.markers.drop 1 }) (capFrameBegin b s)
    else s
  | none =>
    if m.drive ∧ ¬(synAt s 8).gated then
      let e := max c.posAt (ceilInstant (reachAt c.posBase c.posAt (capRate s) (16 * c.mode.lines * posUnit : Nat)))
      capFrameBegin (max (if c.mode.drive ∧ c.hasBoundary then e else now) (c.boundary + 1)) s
    else s

/-- No marker for twice the last frame period (R84): event 47 once per gap, and continuation begins. -/
def captureTimeout (s : State) : State :=
  let c := s.time.cap
  if !c.mode.drive ∧ !c.gapRaised ∧ c.hasBoundary ∧ 0 < c.period ∧ c.markers = [] ∧ c.lastMarker + 2 * c.period ≤ s.time.tb.now then
    raise 47 (modCap (fun x => { x with gapRaised := true, continuing := true }) s)
  else s

/-- In a gap the capture raster begins a frame at its last period (R84); a CAPTURE_RASTER_SET that waits applies with it
(DESIGN CHOICE, log entry 165). -/
def captureContinue (s : State) : State :=
  let c := s.time.cap
  if !c.mode.drive ∧ c.continuing then
    modCap (fun x => { x with period := c.period }) (capFrameBegin (c.boundary + c.period) s)
  else s

/-- The increment of one clock cycle, in units of 2⁻¹⁶ ns times 10⁹ (R62): 4 ns of the video system clock, or one
quarter of that on the fabric clock (R99), at the rate the servo has set. -/
def tickIncrement (t : Timebase) : Nat :=
  (if t.onFabric then nsUnits else 4 * nsUnits) * ((1000000000 : Int) + t.freqPpb).toNat

/-- One cycle of the clock that advances the timebase (R62, R99). The part of the increment below 2⁻¹⁶ ns is carried to
the next cycle (DESIGN CHOICE, log entry 140). -/
def tick (s : State) : State :=
  modTb (fun t => { t with
    now := t.now + (t.residue + tickIncrement t) / 1000000000,
    residue := (t.residue + tickIncrement t) % 1000000000 }) s

end Sys2Proof.Machine
end

