-- ==== Sys2Proof/Machine/Magazine.lean ====
section
/-! DEFINITION. The record channels: clips, read streams, holds, decoupling, closing, spanning, starts and stops, and the
stop-bath sequence (R410 to R427). -/
namespace Sys2Proof.Machine
open Sys2Proof

/-- The copy open on slot `i` belongs to channel `c`. -/
def copyOf (s : State) (c i : Nat) : Option Copy := (magAt s i).copy.filter (fun k => decide (k.channel = c))
/-- The slots with a copy of channel `c` that is not closing. -/
def liveCopies (s : State) (c : Nat) : List Nat := [0, 1].filter (fun i => (copyOf s c i).any (fun k => k.closing.isNone))
/-- The slots whose copies the main stream serves (R417). -/
def coupled (s : State) (c : Nat) : List Nat := (liveCopies s c).filter (fun i => (copyOf s c i).any (fun k => k.opened && !k.decoupled))
/-- The slots whose copies their own streams serve (R417). -/
def decoupled (s : State) (c : Nat) : List Nat := (liveCopies s c).filter (fun i => (copyOf s c i).any (fun k => k.opened && k.decoupled))
/-- The copy on slot `i`, or an empty one. -/
def copyAt (s : State) (i : Nat) : Copy := (magAt s i).copy.getD {}

/-- The sum of RATE_MBPS over every read stream of both channels (R418). -/
def recordRates (s : State) : Nat :=
  ((List.range 2).map (fun c =>
    (recAt s c).cfg.rate * ((if (coupled s c).isEmpty then 0 else 1) + (decoupled s c).length))).sum

/-- The firmware slot of a start, or of a stop, of channel `c` (R114, R414) (DESIGN CHOICE, log entry 54). -/
def recSlot (c : Nat) (stop : Bool) : Nat := 4032 + 2 * c + b2n stop

/-- Arm a firmware slot with an action on a capture frame, or at an instant (R414, R415). -/
def armSlot (n action kind frame instant c : Nat) (s : State) : State :=
  let half := b2n (decide (nsUnits / 2 ≤ instant % nsUnits))
  let base : SlotContent := { action := action, flags := 1, arg := c }
  let k : SlotContent := if kind = 2 then { base with flags := 1 + 8 * half, frame := instant / secUnits, pos := instant % secUnits / nsUnits }
    else { base with kind := 2, frame := frame }
  modSlot n (fun _ => { content := k, enabled := true, occFrame := if kind = 2 then 0 else frame }) s

/-- Disarm the start and the stop of a channel. -/
def disarmRec (c : Nat) (s : State) : State :=
  modSlot (recSlot c false) (fun _ => {}) (modSlot (recSlot c true) (fun _ => {}) s)

/-- Release the references on some pictures (R412). -/
def dropPictures (c : Nat) (l : List ClipPicture) (s : State) : State :=
  forEach l (fun p s => (ledgerRelease p.buf (agentToken s clsRecord c) s).2) s

/-- The pictures that every open copy has committed, or that none needs, are let go (R412, R421). -/
def recRelease (c : Nat) (s : State) : State :=
  let x := recAt s c
  let l := liveCopies s c
  let has := fun (p : ClipPicture) (k : Copy) => decide (p.idx < k.committed) || k.ahead.contains p.idx
  let free := fun (p : ClipPicture) => l.all (fun i => has p (copyAt s i)) && (match x.spanDue with
    | some (_, _, m) => decide (p.idx < m)
    | none => true)
  if l.isEmpty ∧ x.spanDue.isNone then s
  else
    let gone := x.backlog.filter free
    let s1 := forEach l (fun i => modCopy i (fun k => { k with done := k.done.filter (fun d => !gone.any (fun p => decide (p.idx = d.idx))) })) s
    dropPictures c gone (modRec c (fun x => { x with backlog := x.backlog.filter (fun p => !free p) }) s1)

/-- The clip of a channel ends (R413, R416, R420, R515): its references, its key and its recording activity go, and it is
IDLE, unless the stop-bath sequence has still to complete. -/
def recEnd (c : Nat) (s : State) : State :=
  let x := recAt s c
  let bath := decide (x.state = .stopBath) && decide (s.mag.bath.state = 1)
  let s1 := dropPictures c x.backlog (disarmRec c (if recActive s c then outputStops (8 + c) s else s))
  let s2 := if x.activity = 0 then s1 else releaseCost 30 x.activity s1
  let rest : RecState := if bath then .stopBath else .idle
  let s3 := modRec c (fun x => ({
    enabled := x.enabled, cfg := x.cfg, state := rest, ctr := x.ctr, shadow := x.shadow, start := x.start, stop := x.stop,
    mainFrame := x.mainFrame } : RecChan)) s2
  if x.cancelled ∨ x.state = .idle then s3 else raiseRec c 1 s3

/-- A hold of the main stream ends; its microseconds are counted (R417). -/
def endHold (c : Nat) (s : State) : State :=
  match (recAt s c).hold with
  | none => s
  | some (i, t) => modRec c (fun x => { x with hold := none })
      (modMag i (fun m => { m with ctr.holdUs := (m.ctr.holdUs + (runTime s - t) / (1000 * nsUnits)) % 2 ^ 32 }) s)

/-- The coupled slots to which the main stream is sending a record. -/
def mainSending (s : State) (c : Nat) : List Nat := (coupled s c).filter (fun i => (copyAt s i).record.isSome)

/-- The main stream hands out its next write, once every MAC that it goes to takes it (R417). -/
def mainFeed (c : Nat) (s : State) : State :=
  let l := mainSending s c
  if l.isEmpty ∨ !l.all (macTakes s) then s
  else forEach l (fun i => nextWrite c i (((l.map (maxData s)).min?).getD 0)) s

/-- The own stream of a decoupled magazine hands out its next write, once its MAC takes it (R417). -/
def ownFeed (i : Nat) (s : State) : State :=
  match (magAt s i).copy with
  | some k => if (decoupled s k.channel).contains i ∧ macTakes s i then nextWrite k.channel i (maxData s i) s else s
  | none => s

/-- With no coupled magazine left the most advanced decoupled stream becomes the main stream (R418). -/
def fixMain (c : Nat) (s : State) : State :=
  mainFeed c (if (coupled s c).isEmpty then
    match argMin (fun i => 2 ^ 32 - (copyAt s i).next) (decoupled s c) with
    | some i => modRec c (fun x => { x with main := (copyAt s i).next }) (modCopy i (fun k => { k with decoupled := false }) (endHold c s))
    | none => endHold c s
  else s)

/-- A slot leaves RECORDING once it has no copy. -/
def slotFree (i : Nat) (s : State) : State :=
  if (magAt s i).state = .recording then raiseMag i 0 (modMag i (fun x => { x with state := .ready }) s) else s

/-- A copy is gone: closed, lost or never opened (R412, R416, R420). -/
def copyGone (i : Nat) (s : State) : State :=
  match (magAt s i).copy with
  | none => s
  | some k =>
    let c := k.channel
    let s1 := slotFree i (modMag i (fun x => { x with copy := none }) s)
    if (copyOf s1 c 0).isNone ∧ (copyOf s1 c 1).isNone ∧ (recAt s1 c).spanDue.isNone then recEnd c s1
    else recRelease c (fixMain c s1)

/-- The other slot. -/
def otherSlot (i : Nat) : Nat := 1 - i

/-- The clip of a closing copy is to go on on the other slot (R421). -/
def spanWanted (s : State) (i reason : Nat) (k : Copy) : Bool :=
  let x := recAt s k.channel
  decide (3 ≤ reason) && decide (reason ≤ 5) && k.opened && x.cfg.span && (decide (x.state = .recording) || decide (x.state = .draining)) &&
    decide ((magAt s (otherSlot i)).state = .ready)

/-- A copy is closed with a reason (R420): CLIP_CLOSE is sent, but for LINK, where no message is. -/
def closeCopy (i reason flags : Nat) (s : State) : State :=
  match (magAt s i).copy with
  | none => s
  | some k =>
    if k.closing.isSome then (if reason = 3 then copyGone i s else s)
    else
      let s1 := if 2 ≤ reason ∧ reason ≤ 7 then raiseMag i 5 (modMag i (fun x => { x with lastClose := reason }) s) else s
      let s2 := if spanWanted s i reason k then modRec k.channel (fun x => { x with spanDue := some (otherSlot i, k.clip, k.committed) }) s1 else s1
      if reason = 3 ∨ !k.opened then copyGone i s2
      else
        let kept := if reason = 1 then 0 else k.committed - k.first
        let s3 := modCopy i (fun k => { k with closing := some reason, record := none }) s2
        let s4 := kmpRequest i 0x12 flags (beBytes 4 k.clip ++ beBytes 4 kept ++ beBytes 1 reason) s3
        recRelease k.channel (fixMain k.channel s4)

/-- A stream cannot begin picture `p` to a slot (R412, R417): the one before is not sent, or there is no credit. -/
def slotBlocks (s : State) (i p : Nat) : Bool := (copyAt s i).sending.isSome || decide ((copyAt s i).credit ≤ p)

/-- Magazine `i` is decoupled, or closed with LAGGED where the RECORD reservation does not carry its stream (R417, R418). It leaves the
main stream, and its own begins at the first picture that it has not been sent whole. -/
def decouple (c i : Nat) (s : State) : State :=
  let s1 := modCopy i (fun k => if k.record.isSome then { k with decoupled := true, record := none, sending := none, next := k.sending.getD k.next }
    else { k with decoupled := true }) (endHold c s)
  if recordRates s1 ≤ s.pic.shed.resRecord then
    fixMain c (raiseRec c 3 (modRec c (fun x => { x with ctr.decouple := (x.ctr.decouple + 1) % 2 ^ 32 }) s1))
  else closeCopy i 2 0 s1

/-- The main stream waits for slot `i` (R417, R419): in a record for its MAC, between records for its credit or the end of what it is
being sent. -/
def streamWaits (s : State) (c i : Nat) : Bool :=
  if (mainSending s c).isEmpty then slotBlocks s i (recAt s c).main else (copyAt s i).record.isSome && !macTakes s i

/-- The main stream goes on, or looks at what it waits for (R417): a hold on one magazine's account begins, goes on or ends, and a
magazine more than two commits behind the other is decoupled at once (DEDUCED, log entry 95). -/
def recEval (c : Nat) (s0 : State) : State :=
  let s := mainFeed c s0
  let x := recAt s c
  let co := coupled s c
  let due := !(mainSending s c).isEmpty ||
    (decide (x.state = .recording) || decide (x.state = .draining)) && x.backlog.any (fun p => decide (p.idx = x.main))
  let held := co.filter (streamWaits s c)
  match held with
  | [i] =>
    if due ∧ co.length = 2 then
      let s1 := if x.hold.any (fun h => decide (h.1 = i)) then s
        else modRec c (fun x => { x with hold := some (i, runTime s) }) (endHold c s)
      if (copyAt s i).committed + 2 < (copyAt s (otherSlot i)).committed then decouple c i s1 else s1
    else endHold c s
  | _ => endHold c s

/-- A decoupled copy whose lag exceeds LAG_MAX is closed with LAGGED (R418). -/
def lagCheck (c : Nat) (s : State) : State :=
  forEach (decoupled s c) (fun i s =>
    if (recAt s c).cfg.lagMax < (recAt s c).main - (copyAt s i).next then closeCopy i 2 0 s else s) s

/-- MAIN_STREAM_PICTURE_BEGIN (R412, R417): the next clip picture is read once, to be sent to every coupled magazine. -/
def mainBegin (c : Nat) (s : State) : State :=
  let x := recAt s c
  let co := coupled s c
  if x.state ≠ .recording ∧ x.state ≠ .draining ∨ co.isEmpty then s
  else match x.backlog.find? (fun p => decide (p.idx = x.main)) with
    | none => s
    | some p =>
      if co.any (fun i => slotBlocks s i x.main) then recEval c s
      else
        let r := readPayload p.buf (agentToken s clsRecord c) (endHold c s)
        let pay := sentPayload s c p r.1
        let s1 := forEach co (fun i => modCopy i (fun k => { k with
          sending := some p.idx, next := p.idx + 1, record := some { pic := p, pay := pay, poison := r.2.1 } })) r.2.2
        let s2 := modRec c (fun x => { x with
          main := p.idx + 1, mainFrame := (bufAt s p.buf).frame, ctr.pictures := (x.ctr.pictures + 1) % 2 ^ 32 }) s1
        recEval c (lagCheck c (recFlags c p r.2.1 s2))

/-- Bytes read by a magazine's own stream are counted in MiB (R417, R419). -/
def countReread (c n : Nat) (s : State) : State :=
  modRec c (fun x => { x with
    reread := (x.reread + n) % 1048576, ctr.rereadMib := (x.ctr.rereadMib + (x.reread + n) / 1048576) % 2 ^ 32 }) s

/-- MAGAZINE_STREAM_PICTURE_BEGIN (R417): a decoupled magazine's own stream begins its next picture. -/
def ownBegin (i : Nat) (s : State) : State :=
  let k := copyAt s i
  let c := k.channel
  let x := recAt s c
  if !(decoupled s c).contains i ∨ (magAt s i).copy.isNone ∨ slotBlocks s i k.next ∨ (x.state ≠ .recording ∧ x.state ≠ .draining) then s
  else match x.backlog.find? (fun p => decide (p.idx = k.next)) with
    | none => s
    | some p =>
      let r := readPayload p.buf (agentToken s clsRecord c) s
      let s1 := modCopy i (fun k => { k with
        sending := some p.idx, next := p.idx + 1, record := some { pic := p, pay := sentPayload s c p r.1, poison := r.2.1 } }) r.2.2
      ownFeed i (recFlags c p r.2.1 (countReread c r.1.length s1))

/-- HOLD_MAX_EXPIRY (R417): the magazine that the hold is on is decoupled. -/
def holdMaxExpiry (c : Nat) (s : State) : State :=
  match (recAt s c).hold with
  | some (i, _) => if (coupled s c).contains i then decouple c i s else endHold c s
  | none => s

/-- MAGAZINE_RECOUPLE (R418): the stream has finished picture k − 1 before the main stream begins k. -/
def recouple (i : Nat) (s : State) : State :=
  let k := copyAt s i
  let c := k.channel
  if (magAt s i).copy.isSome ∧ (decoupled s c).contains i ∧ k.sending.isNone ∧ k.next = (recAt s c).main ∧ !(coupled s c).isEmpty then
    raiseRec c 4 (modCopy i (fun k => { k with decoupled := false }) s)
  else s

/-- The final write of a record has left for slot `i`. -/
def recordSent (i : Nat) (s : State) : State :=
  match (magAt s i).copy with
  | some k => match k.sending with
    | some p => if k.record.isSome then s else recEval k.channel (modCopy i (fun k => { k with sending := none, sent := p + 1 }) s)
    | none => s
  | none => s

/-- The MAC of slot `i` may take a write again (R417). -/
def recFeed (i : Nat) (s : State) : State :=
  match (magAt s i).copy with
  | some k => recEval k.channel (ownFeed i s)
  | none => s

/-- MAC `m` may take writes again: the slot that it serves goes on (R417). -/
def recFeeds (m : Nat) (s : State) : State :=
  forUpTo 2 (fun i s => if (magAt s i).state ≠ .off ∧ (magAt s i).mac = m then recFeed i s else s) s

/-- The last write of resent ranges has left for slot `i` (R419): what waited for it is looked at again. -/
def resendSent (i : Nat) (s : State) : State :=
  match (magAt s i).copy with
  | some k => recEval k.channel s
  | none => s

/-- COPY_CLOSE (R416): a copy that has committed the clip's last picture is closed with STOP. -/
def copyCloseStop (i : Nat) (s : State) : State :=
  match (magAt s i).copy with
  | some k =>
    let x := recAt s k.channel
    if k.opened ∧ k.closing.isNone ∧ x.state = .draining ∧ x.ended ∧ !x.cancelled ∧ x.count ≤ k.committed then closeCopy i 0 0 s else s
  | none => s

/-- The body of CLIP_OPEN (R399) (DESIGN CHOICE, log entry 14). -/
def openBody (s : State) (c clip spanOf first : Nat) : List Byte :=
  let x := recAt s c
  let fs := x.start.getD (match x.trigger with
    | some t => if t.kind = 2 then 2 ^ 64 - 1 else t.frame
    | none => 2 ^ 64 - 1)
  let tc := match x.trigger with
    | some t => if t.kind = 2 then t.tc else Config.freeStartTc s.free
    | none => Config.freeStartTc s.free
  beBytes 4 clip ++ beBytes 4 spanOf ++ beBytes 4 first ++ beBytes 1 c ++ beBytes 1 (b2n x.cfg.encrypt) ++ beBytes 2 (poolAt s x.cfg.pool).format ++
    beBytes 8 fs ++ beBytes 4 tc ++ beBytes 4 (if x.cfg.encrypt then (x.key.map (·.1)).getD 0 else 0)

/-- Open a copy on slot `i` (R399, R405): the next clip number, and CLIP_OPEN. -/
def openCopy (c i spanOf first : Nat) (s : State) : State :=
  let clip := (magAt s i).nextClip
  let s1 := modMag i (fun x => { x with
    nextClip := (clip + 1) % 2 ^ 32, state := .recording,
    copy := some { clip := clip, channel := c, spanOf := spanOf, first := first, next := first, sent := first, committed := first } }) s
  kmpRequest i 0x10 0 (openBody s c clip spanOf first) { s1 with free := s1.free + 1 }

/-- The slots that a channel names as targets. -/
def recTargets (x : RecChan) : List Nat := [0, 1].filter (fun i => x.cfg.targets.testBit i)

/-- A CLIP_OPEN of a start has failed (REC_START_AT): the other copies are closed with CANCEL and the command ends. -/
def startFailed (c status : Nat) (s : State) : State :=
  let x := recAt s c
  let s1 := modRec c (fun x => { x with trigger := none, cancelled := true }) s
  let s2 := forEach (liveCopies s1 c) (fun i => closeCopy i 1 0) s1
  let s3 := if (copyOf s2 c 0).isNone ∧ (copyOf s2 c 1).isNone then recEnd c s2 else s2
  if x.trigger.isSome then finishWait (.recOpen c) .internal (0x10 + status) [] s3 else s3

/-- Every target has acknowledged CLIP_OPEN: the start is armed (R414). -/
def armStart (c : Nat) (s : State) : State :=
  match (recAt s c).trigger with
  | none => s
  | some t =>
    if (recTargets (recAt s c)).all (fun i => (copyOf s c i).any (·.opened)) then
      let s1 := armSlot (recSlot c false) 9 t.kind t.frame t.instant c (modRec c (fun x => { x with
        trigger := none, state := .armed, start := if t.kind = 2 then none else some t.frame }) s)
      let clip := fun i => match copyOf s c i with
        | some k => leBytes 4 k.clip
        | none => leBytes 4 0
      finishWait (.recOpen c) .ok 0 (clip 0 ++ clip 1 ++ leBytes 8 (if t.kind = 2 then 2 ^ 64 - 1 else t.frame)) s1
    else s

/-- The clip is cancelled (R415): the copies are closed with CANCEL; event 2. -/
def cancelClip (c : Nat) (s : State) : State :=
  let s1 := raiseRec c 2 (disarmRec c (modRec c (fun x => { x with
    cancelled := true, state := .draining, backlog := [], startDue := none, stopDue := none }) (dropPictures c (recAt s c).backlog s)))
  let s2 := forEach (liveCopies s1 c) (fun i => closeCopy i 1 0) s1
  if (copyOf s2 c 0).isNone ∧ (copyOf s2 c 1).isNone ∧ (recAt s2 c).state = .draining then recEnd c s2 else s2

/-- The published buffers of a channel's pool, least recently published first. -/
def poolPublished (s : State) (p : Nat) : List Nat :=
  ((poolBufs (poolAt s p)).filter (fun b => decide ((bufAt s b).state = .published))).mergeSort
    (fun a b => decide ((bufAt s a).pubSeq ≤ (bufAt s b).pubSeq))

/-- The instant of the boundary of a capture frame that has begun. -/
def boundaryOf (s : State) (frame : Nat) : Option Nat :=
  ((s.mag.marks.filter (fun m => decide (m.frame = frame))).getLast?).map (·.instant)

/-- The first capture frame begun whose boundary is at or after an instant. -/
def frameFrom (s : State) (t : Nat) : Option Nat := ((s.mag.marks.filter (fun m => decide (t ≤ m.instant))).head?).map (·.frame)

/-- A resolved start lets in the buffers already published that belong to the clip (R122, R411). -/
def recCatchUp (c : Nat) (s : State) : State :=
  let x := recAt s c
  let l := poolPublished s x.cfg.pool
  match x.start with
  | none => s
  | some fs =>
    if x.cfg.match1 then forEach l (recMatch1 c) s
    else forEach ((l.filter (fun b => decide (fs ≤ (bufAt s b).frame))).mergeSort (fun a b => decide ((bufAt s a).frame ≤ (bufAt s b).frame)))
      (recMatch0 c) s

/-- A stop of one frame, taken before the start had resolved (R415). -/
def armAfterOne (c fs : Nat) (s : State) : State :=
  if (recAt s c).stopAfterOne then
    armSlot (recSlot c true) 10 0 (fs + 1) 0 c (modRec c (fun x => { x with stopAfterOne := false, stop := some (fs + 1) }) s)
  else s

/-- The start has fired (R414): RECORDING, the pre-roll, event 0. A target that cannot take it refuses the action (DEDUCED, log entry 98). -/
def recStartFire (c kind frame instant : Nat) (s : State) : Option State :=
  let x := recAt s c
  if x.state ≠ .armed then none
  else
    let fs := if kind = 2 then some frame else frameFrom s instant
    let s1 := modRec c (fun x => { x with
      state := .recording, started := true, start := fs, startAt := fs.bind (boundaryOf s), startDue := if fs.isNone then some instant else none }) s
    let pre := (poolPublished s x.cfg.pool).filter (fun b => fs.all (fun f => decide ((bufAt s b).frame < f)))
    let s2 := forEach (pre.drop (pre.length - x.cfg.preroll)) (fun b => recTake c b true) s1
    let s3 := raiseRec c 0 s2
    match fs with
    | some f => some (recEval c (recCatchUp c (armAfterOne c f s3)))
    | none => some (recEval c s3)

/-- The pictures that a stop leaves out and that the main stream has not begun (R411): from capture frame X on, or captured at its
boundary or later. -/
def dropBeyond (c : Nat) (s : State) : State :=
  let r := recAt s c
  let out := fun (p : ClipPicture) => decide (r.main ≤ p.idx) && !p.preroll &&
    (if r.cfg.match1 then r.stopAt.any (fun u => decide (u ≤ bufCap s p.buf)) else r.stop.any (fun x => decide (x ≤ (bufAt s p.buf).frame)))
  let beyond := r.backlog.filter out
  dropPictures c beyond (modRec c (fun r => { r with backlog := r.backlog.filter (fun p => !out p), count := r.count - beyond.length }) s)

/-- The stop has resolved to capture frame X (R415, R416): the clip is cancelled where X ≤ Fs, else the channel drains. -/
def resolveStop (c x : Nat) (s : State) : State :=
  let r := recAt s c
  match r.start with
  | none => cancelClip c s
  | some fs =>
    if x ≤ fs ∨ !r.started then cancelClip c s
    else
      let ended := if r.cfg.match1 then decide (x < s.time.cap.frame) else decide (x ≤ max r.nextFrame fs)
      let s1 := modRec c (fun r => { r with
        state := .draining, stop := some x, stopAt := boundaryOf s x, stopDue := none, ended := ended }) s
      recEval c (dropBeyond c s1)

/-- The stop has fired (R415). -/
def recStopFire (c kind frame instant : Nat) (s : State) : Option State :=
  let x := recAt s c
  if x.state ≠ .recording ∧ x.state ≠ .armed then none
  else if kind = 2 then some (resolveStop c frame s)
  else match frameFrom s instant with
    | some f => some (resolveStop c f s)
    | none => some (modRec c (fun x => { x with stopDue := some instant }) s)

/-- What a channel does as a capture frame begins (R411, R414, R415). -/
def recFrame (c frame boundary : Nat) (s : State) : State :=
  let x := recAt s c
  let s1 := if x.startDue.any (fun t => decide (t ≤ boundary)) then
      armAfterOne c frame (modRec c (fun x => { x with start := some frame, startAt := some boundary, startDue := none }) s)
    else if x.start = some frame then modRec c (fun x => { x with startAt := some boundary }) s else s
  let s2 := if (recAt s1 c).stopDue.any (fun t => decide (t ≤ boundary)) then resolveStop c frame s1 else s1
  let s3 := if (recAt s2 c).stop = some frame ∧ (recAt s2 c).stopAt ≠ some boundary then
      dropBeyond c (modRec c (fun x => { x with stopAt := some boundary }) s2) else s2
  if x.cfg.match1 ∧ (recAt s3 c).state = .draining ∧ (recAt s3 c).stop.any (fun t => decide (t < frame)) then
    recEval c (forEach (decoupled s3 c) ownFeed (modRec c (fun x => { x with ended := true }) s3))
  else recEval c (forEach (decoupled s3 c) ownFeed s3)

/-- A timecode as the four bytes of R407 read as a number. -/
def tcNumber (t : Timecode) : Nat := ((t.hh * 256 + t.mm) * 256 + t.ss) * 256 + t.ff

/-- A capture frame has begun: its boundary is marked, and the channels look at it. -/
def recFrameBegin (s : State) : State :=
  let c := s.time.cap
  let m : CapMark := { frame := c.frame, instant := c.boundary, unlocked := decide (s.time.tb.state ≠ .locked) }
  let l := s.mag.marks ++ [m]
  forUpTo 2 (fun k => recFrame k c.frame c.boundary) { s with mag.marks := l.drop (l.length - 2048) }

/-- A reference frame has begun: its timecode is marked (R407). -/
def refFrameMark (s : State) : State :=
  let g := s.time.tc
  let m : CapMark := { instant := refInstant s.time.ref s.time.refFrame 0 0, tc := tcNumber g.current, sub := g.sub, drop := g.mode.drop }
  let l := s.mag.refMarks ++ [m]
  { s with mag.refMarks := l.drop (l.length - 2048) }

/-- A continuation that was due cannot be opened: the clip ends as in R420, unless a copy has still to close (R421). -/
def spanFailed (c : Nat) (s : State) : State :=
  if (recAt s c).spanDue.isNone then s
  else
    let s1 := modRec c (fun x => { x with spanDue := none }) s
    if (copyOf s c 0).isNone ∧ (copyOf s c 1).isNone then recEnd c s1 else recRelease c s1

/-- SPAN_CONTINUATION (R421): the clip goes on on the other slot, or ends where that slot is no longer READY. -/
def spanContinue (c : Nat) (s : State) : State :=
  match (recAt s c).spanDue with
  | none => s
  | some (i, clip, p) =>
    if !firmwareRunning s ∨ (copyOf s c i).isSome then s
    else if (magAt s i).state = .ready then openCopy c i clip p s
    else spanFailed c s

/-- The burst that a record channel has open: the payload of a picture is read in part for a write to a magazine (R483) (DESIGN CHOICE,
log entry 120). -/
def recordBursts (s : State) (c : Nat) : List (Agent × Bool × Nat) :=
  ((liveCopies s c).filterMap (fun i => (copyAt s i).record.bind (fun r =>
    if r.off < r.pay.length then some (Agent.record c, false, bufBase s r.pic.buf + r.off) else none))).take 1

/-- The reset of a channel (R426, R483): copies closed with RESET, which ends its clip (R420), the start and the stop disarmed, the key
erased, GEN moved on. -/
def resetRec (c : Nat) (s : State) : State :=
  let x := recAt s c
  let t := forEach (recordBursts s c) cutBurst s
  let s0 := if recActive s c then outputStops (8 + c) t else t
  let s1 := forEach (liveCopies s0 c) (fun i => closeCopy i 7 0) (modRec c (fun x => { x with spanDue := none }) s0)
  let s2 := disarmRec c (if x.activity = 0 ∨ (recAt s1 c).activity = 0 then s1 else releaseCost 30 x.activity s1)
  let s3 := if x.trigger.isSome then finishWait (.recOpen c) .rejState unstated [] s2 else s2
  let s4 := if (recAt s1 c).state = .idle ∨ (recAt s1 c).cancelled then s3 else raiseRec c 1 s3
  resetAgent clsRecord c (modRec c (fun x => ({ ctr := x.ctr, shadow := x.shadow } : RecChan)) s4)

/-! The stop-bath sequence. -/

/-- Change the stop-bath sequence. -/
def modBath (f : StopBath → StopBath) (s : State) : State := { s with mag.bath := f s.mag.bath }

/-- The slots with a copy open in the stop-bath sequence. -/
def bathSlots (s : State) : List Nat := [0, 1].filter (fun i => (magAt s i).copy.isSome)

/-- The sequence is complete (R423, R425): its duration, event 641, and the channels are IDLE. -/
def bathComplete (s : State) : State :=
  let us := (runTime s - s.mag.bath.startAt) / (1000 * nsUnits)
  let s1 := raise 641 (modBath (fun b => { b with state := 2, durationUs := min 65535 us }) s)
  forUpTo 2 (fun c s => if (recAt s c).state = .stopBath then modRec c (fun x => { x with state := .idle }) (if recActive s c then outputStops (8 + c) s else s) else s) s1

/-- A channel enters STOP_BATH (R423): nothing starts or stops any more, and a start that waits for its copies is refused (DESIGN CHOICE, log entry 227). -/
def bathEnter (c : Nat) (s : State) : State :=
  let waiting := (recAt s c).trigger.isSome
  let s1 := disarmRec c (endHold c (modRec c (fun x => { x with state := .stopBath, spanDue := none, trigger := none }) s))
  if waiting then finishWait (.recOpen c) .rejState unstated [] s1 else s1

/-- STOP_BATH_TRIGGER (R423): VMAIN reports low with a STOPBATH_EN copy open; every channel enters STOP_BATH. -/
def bathTrigger (s : State) : State :=
  let low := !(tabGet s.sl.cmps 1).state
  let due := (bathSlots s).any (fun i => (recAt s (copyAt s i).channel).cfg.stopbath)
  if low ∧ due ∧ s.mag.bath.state ≠ 1 then
    let s1 := raise 640 { s with mag.bath := { state := 1, startAt := runTime s } }
    forUpTo 2 bathEnter s1
  else s

/-- STOP_BATH_RECORD_DEADLINE (R423): a record still being sent is abandoned, with the writes that have not gone. -/
def bathRecordDeadline (s : State) : State :=
  if s.mag.bath.state ≠ 1 ∨ s.mag.bath.closingSent then s else
  forEach (bathSlots s) (fun i s =>
    if (copyAt s i).sending.isSome then
      modBath (fun b => { b with abandoned := Nat.lor b.abandoned (2 ^ i) }) (modCopy i (fun k => { k with sending := none, record := none })
        (modMac (magAt s i).mac (fun m => { m with tx.waiting := m.tx.waiting.filter (fun f => decide (f.queue ≠ 0)) }) s))
    else s) s

/-- STOP_BATH_COMMIT_DEADLINE (R423): CLIP_CLOSE with POWERFAIL is sent for every open copy. -/
def bathCommitDeadline (s : State) : State :=
  if s.mag.bath.state ≠ 1 ∨ s.mag.bath.closingSent then s else
  let s1 := forEach (bathSlots s) (fun i => closeCopy i 6 1) (modBath (fun b => { b with closingSent := true }) s)
  if (bathSlots s1).isEmpty then bathComplete s1 else s1

/-- STOP_BATH_ACK_DEADLINE (R423, R425): copies without CLIP_CLOSE_ACK are recorded and ended, and the sequence is
complete. -/
def bathAckDeadline (s : State) : State :=
  if s.mag.bath.state ≠ 1 ∨ !s.mag.bath.closingSent then s else
  let s1 := forEach (bathSlots s) (fun i s =>
    copyGone i (modBath (fun b => { b with noAck := Nat.lor b.noAck (2 ^ i) }) (modMag i (fun x => { x with reqs := [] }) s))) s
  bathComplete s1

end Sys2Proof.Machine
end

