-- ==== Sys2Proof/Machine/Kmp.lean ====
section
/-! DEFINITION. The magazine protocol and the commands of magazines and recording: 0x0A01 to 0x0A04 and 0x0A10 to 0x0A13
(R397 to R405, R412 to R421). -/
namespace Sys2Proof.Machine
open Sys2Proof

/-- A big-endian field of a KMP message; offsets count from its header (R398). -/
def kmpAt (f : List Byte) (o n : Nat) : Nat := beNat ((List.range n).map (fun i => (f.drop 14).getD (o + i) 0))

/-- A message is discarded and counted (R397, R399, R401, R419). -/
def kmpStale (i : Nat) (s : State) : State := modMag i (fun x => { x with ctr.stale := (x.ctr.stale + 1) % 2 ^ 32 }) s

/-- The next epoch, skipping 0 (R404). -/
def nextEpoch (e : Nat) : Nat := if e + 1 < 2 ^ 32 then e + 1 else 1

/-- The mount epoch moves on (R404). -/
def bumpMount (i : Nat) (s : State) : State := modMag i (fun x => { x with epoch := nextEpoch x.epoch }) s

/-- MAG_EJECT is complete (R404): the slot goes to SEARCH under a new epoch. -/
def ejectDone (i : Nat) (s : State) : State :=
  finishWait (.eject i) .ok 0 [] (bumpMount i (modMag i (fun x => { x with
    state := .search, reqs := [], held := [], noPartner := false, lastHello := runTime s }) s))

/-- The partner is lost (R402): event 2, the slot goes to SEARCH and an open copy is closed with LINK. -/
def partnerLost (i : Nat) (s : State) : State :=
  let x := magAt s i
  if x.state = .off ∨ x.state = .search then s
  else
    let opening := match x.copy with
      | some k => if !k.opened then some k.channel else none
      | none => none
    let s1 := closeCopy i 3 0 (modMag i (fun x => { x with
      state := .search, reqs := [], held := [], noPartner := false, lastHello := runTime s }) (endHoldOn i s))
    let s2 := raiseMag i 2 s1
    let s3 := match opening with
      | some c => if (recAt s2 c).trigger.isSome then startFailed c 0 s2 else spanFailed c s2
      | none => s2
    if waits s3 (.eject i) then ejectDone i s3 else s3
where
  /-- A hold on the account of slot `i` ends. -/
  endHoldOn (i : Nat) (s : State) : State :=
    forUpTo 2 (fun c s => if (recAt s c).hold.any (fun h => decide (h.1 = i)) then endHold c s else s) s

/-- The door of slot `i` has opened (R402, R404). -/
def doorOpened (i : Nat) (s : State) : State := bumpMount i (partnerLost i s)

/-- A 32-byte entry of a KMP index as the device holds it, little-endian (R405). -/
def entryOf (b : List Byte) : List Byte :=
  let f := fun o n => ((b.drop o).take n).reverse
  f 0 4 ++ f 4 4 ++ f 8 8 ++ f 16 4 ++ f 20 4 ++ f 24 1 ++ f 25 1 ++ f 26 2 ++ f 28 4

/-- The slot is READY (R402): event 0. -/
def slotReady (i : Nat) (s : State) : State := raiseMag i 0 (modMag i (fun x => { x with state := .ready }) s)

/-- The first entry the device reads of an index: the newest 4,096 are held (R405). -/
def indexFirst (x : MagSlot) : Nat := x.clips - 4096

/-- Ask for the next entries of the index, or end its read (R404, R405). -/
def indexNext (i : Nat) (s : State) : State :=
  let x := magAt s i
  let first := indexFirst x + x.index.length
  if first < x.clips then kmpRequest i 0x06 0 (beBytes 4 first ++ beBytes 2 (min 256 (x.clips - first))) s
  else
    let s1 := modMag i (fun x => { x with indexEpoch := some x.epoch }) s
    slotReady i (if x.helloEpoch = x.epoch then s1 else raiseMag i 3 s1)

/-- Mount the magazine (R404). -/
def mountSlot (i : Nat) (s : State) : State :=
  let t := s.time.tb.now
  kmpRequest i 0x04 0 (beBytes 4 (magAt s i).epoch ++ beBytes 6 (t / secUnits) ++ beBytes 2 0 ++ beBytes 4 (t % secUnits / nsUnits))
    (modMag i (fun x => { x with state := .mounting }) s)

/-- HELLO from the magazine (R399, R402, R403). -/
def rxHello (i : Nat) (f : List Byte) (s : State) : State :=
  let x := magAt s i
  let s1 := modMag i (fun x => { x with
    serial := kmpAt f 16 8, src := some ((f.drop 6).take 6), noPartner := false, lastHello := runTime s }) s
  if x.state = .search ∧ firmwareRunning s then
    kmpRequest i 0x02 0 [] (modMag i (fun x => { x with state := .caps, helloEpoch := kmpAt f 24 4 }) s1)
  else s1

/-- CAPS (R399, R402). -/
def rxCaps (i : Nat) (f : List Byte) (s : State) : State :=
  if (magAt s i).state ≠ .caps then s
  else mountSlot i (modMag i (fun x => { x with
    maxWrite := kmpAt f 16 2, bufferPictures := kmpAt f 20 4, capacity := kmpAt f 24 8, free := kmpAt f 32 8 }) s)

/-- MOUNT_ACK (R402, R404): the index is read unless the device holds it under the epoch the magazine reported. -/
def rxMountAck (i : Nat) (f : List Byte) (s : State) : State :=
  let x := magAt s i
  if x.state ≠ .mounting then s
  else
    let s1 := modMag i (fun x => { x with clips := kmpAt f 16 4, nextClip := kmpAt f 20 4, noticeSeq := none }) s
    if x.helloEpoch = x.epoch ∧ x.indexEpoch = some x.epoch then slotReady i s1
    else indexNext i (modMag i (fun x => { x with state := .index, index := [], indexEpoch := none }) s1)

/-- INDEX (R404): a reply that does not match loses the partner. -/
def rxIndex (i : Nat) (f : List Byte) (s : State) : State :=
  let x := magAt s i
  let n := min 256 (x.clips - (indexFirst x + x.index.length))
  if x.state ≠ .index then s
  else if kmpAt f 16 2 ≠ n ∨ f.length < 14 + 20 + 32 * n then partnerLost i s
  else indexNext i (modMag i (fun x => { x with
    index := x.index ++ (List.range n).map (fun k => entryOf ((f.drop (34 + 32 * k)).take 32)) }) s)

/-- Credit only grows (R412). -/
def giveCredit (i v : Nat) (s : State) : State := modCopy i (fun k => { k with credit := max k.credit v }) s

/-- CLIP_OPEN_ACK (R399, R414, R420, R421). -/
def rxOpenAck (i : Nat) (f : List Byte) (s : State) : State :=
  match (magAt s i).copy with
  | none => s
  | some k =>
    let st := kmpAt f 20 1
    let c := k.channel
    if k.opened ∨ k.clip ≠ kmpAt f 16 4 then s
    else if st = 0 then
      let s1 := giveCredit i (kmpAt f 24 4) (modCopy i (fun k => { k with opened := true }) s)
      if k.spanOf = 0 ∧ (recAt s c).spanDue.isNone then armStart c s1
      else
        let s2 := modRec c (fun x => { x with spanDue := none, main := k.first }) s1
        let s3 := raiseRec c 7 s2
        if recordRates s3 ≤ s.pic.shed.resRecord then recEval c s3 else closeCopy i 2 0 s3
    else
      let s1 := closeCopy i (if st = 1 then 5 else 4) 0 (modRec c (fun x => { x with spanDue := none }) s)
      if (recAt s c).trigger.isSome then startFailed c st s1 else s1

/-- CLIP_CLOSE_ACK (R420, R423). -/
def rxCloseAck (i : Nat) (f : List Byte) (s : State) : State :=
  match (magAt s i).copy with
  | none => s
  | some k =>
    if k.clip ≠ kmpAt f 16 4 ∨ k.closing.isNone then s
    else
      let s1 := copyGone i s
      if s1.mag.bath.state = 1 ∧ s1.mag.bath.closingSent ∧ (bathSlots s1).isEmpty then bathComplete s1 else s1

/-- Progress of a format, and its end (R404, MAG_FORMAT). -/
def rxFormatStatus (i : Nat) (f : List Byte) (s : State) : State :=
  let mine := fun (c : Cmd) => match c.phase with
    | .stepping (.magFormat j _) => decide (j = i)
    | _ => false
  if (magAt s i).state ≠ .busy ∨ waits s (.eject i) then s
  else if kmpAt f 18 1 % 2 = 0 then
    { s with ctl.inflight := s.ctl.inflight.map (fun c => if mine c then { c with phase := .stepping (.magFormat i (kmpAt f 16 2)) } else c) }
  else
    let s1 := bumpMount i (modMag i (fun x => { x with index := [], indexEpoch := none }) s)
    let s2 := mountSlot i s1
    if kmpAt f 19 1 = 2 then finishCmds mine .internal 2 [] s2 else finishCmds mine .ok 0 [] s2

/-- The device waits for a reply of a type with this SEQ. -/
def awaited (s : State) (i req seq : Nat) : Bool := (magAt s i).reqs.any (fun r => decide (r.type = req) && decide (r.seq = seq))

/-- What the firmware has to do with a message waits during its restart (R422) (DEDUCED, log entry 93). -/
def kmpHold (i : Nat) (f : List Byte) (s : State) : State := modMag i (fun x => { x with held := x.held ++ [f] }) s

/-- A reply ends its request; one that no request awaits has no effect (R401). -/
def onReply (i req : Nat) (fw : Bool) (f : List Byte) (k : State → State) (s : State) : State :=
  let q := kmpAt f 8 4
  if !awaited s i req q then s
  else if fw ∧ !firmwareRunning s then kmpHold i f s
  else k (modMag i (fun x => { x with reqs := x.reqs.filter (fun r => !(decide (r.type = req) && decide (r.seq = q))) }) s)

/-- Advance the committed count over pictures committed ahead of it. -/
def absorb : Nat → Copy → Copy
  | 0, k => k
  | n + 1, k => if k.ahead.contains k.committed then absorb n { k with committed := k.committed + 1, ahead := k.ahead.erase k.committed } else k

/-- The length of a picture's record (R406). -/
def recordLength (s : State) (p : ClipPicture) : Nat := 136 + payloadBytes (recSurf s p.buf)

/-- A payload byte lies in a range of its record; of an encrypted payload its whole cipher block is read for it (R409, R419). -/
def inRanges (blocks : Bool) (ranges : List (Nat × Nat)) (o : Nat) : Bool :=
  let a := if blocks then 128 + o / 16 * 16 else 128 + o
  let b := if blocks then a + 16 else a + 1
  ranges.any (fun g => decide (g.1 < b) && decide (a < g.1 + g.2))

/-- Send ranges of a record again, with its header last (R419): the ranges alone are read. A record sent whole before keeps its header and
trailer, unless it is all sent again (DEDUCED, log entry 228). -/
def resend (i : Nat) (p : ClipPicture) (ranges : List (Nat × Nat)) (s : State) : State :=
  let k := copyAt s i
  let c := k.channel
  let good := ranges.filter (fun g => decide (0 < g.2) && decide (g.1 + g.2 ≤ recordLength s p))
  let whole := good.contains (0, recordLength s p)
  let want := inRanges (recAt s c).cfg.encrypt good
  let r := readWanted want p.buf (agentToken s clsRecord c) s
  let pay := sentPayload s c p r.1
  let hdr0 := recHeader s c k.clip p r.2.1 (isLastPicture s c p.idx)
  let d := match k.done.find? (fun d => decide (d.idx = p.idx) && !whole) with
    | some d => d
    | none => { idx := p.idx, hdr := hdr0, trailer := recTrailer pay hdr0 }
  let rec_ := d.hdr ++ pay ++ d.trailer
  let s0 := modCopy i (fun k => if whole then { k with done := k.done.filter (fun e => decide (e.idx ≠ p.idx)) ++ [d] } else k) r.2.2
  let s1 := forEach good (fun g s => kmpWrites i k.clip p.idx g.1 ((rec_.drop g.1).take g.2) s) s0
  let s2 := kmpWrite i k.clip p.idx 0 (102 + i) true d.hdr s1
  recEval c (countReread c ((List.range (payloadBytes (recSurf s p.buf))).filter want).length
    (modMag i (fun x => { x with ctr.resend := (x.ctr.resend + good.length) % 2 ^ 32 }) s2))

/-- The copy on slot `i`, where a message names its clip (R399). -/
def namedCopy (s : State) (i : Nat) (f : List Byte) : Option Copy :=
  (magAt s i).copy.filter (fun k => decide (k.clip = kmpAt f 16 4) && k.opened)

/-- The channel's streams may begin pictures and resends (R423). -/
def streamsRun (s : State) (c : Nat) : Bool := decide ((recAt s c).state ≠ .stopBath)

/-- COMMIT (R408, R412, R419, R420). -/
def rxCommit (i : Nat) (f : List Byte) (s : State) : State :=
  match namedCopy s i f with
  | none => kmpStale i s
  | some k =>
    let c := k.channel
    let p := kmpAt f 20 4
    let s1 := giveCredit i (kmpAt f 28 4) s
    if kmpAt f 24 1 = 0 then
      let s2 := modMag i (fun x => { x with ctr.commit := (x.ctr.commit + 1) % 2 ^ 32 }) s1
      let s3 := modCopy i (fun k => absorb (k.ahead.length + 1)
        (if p < k.committed ∨ k.ahead.contains p then k else { k with ahead := k.ahead ++ [p] })) s2
      recEval c (recRelease c s3)
    else
      let s2 := raiseMag i 7 (modMag i (fun x => { x with ctr.crcBad := (x.ctr.crcBad + 1) % 2 ^ 32 }) s1)
      let n := k.bad.count p + 1
      let s3 := modCopy i (fun k => { k with bad := k.bad ++ [p] }) s2
      if 3 ≤ n then closeCopy i 4 0 s3
      else match (recAt s c).backlog.find? (fun x => decide (x.idx = p)) with
        | some q => if streamsRun s c then resend i q [(0, recordLength s q)] s3 else s3
        | none => kmpStale i s3

/-- RESEND (R419): event 6. -/
def rxResend (i : Nat) (f : List Byte) (s : State) : State :=
  match namedCopy s i f with
  | none => kmpStale i s
  | some k =>
    let n := min 4 (kmpAt f 24 1)
    let s1 := raiseMag i 6 s
    match (recAt s k.channel).backlog.find? (fun x => decide (x.idx = kmpAt f 20 4)) with
    | none => kmpStale i s1
    | some q =>
      if streamsRun s k.channel then resend i q ((List.range n).map (fun j => (kmpAt f (28 + 12 * j) 8, kmpAt f (36 + 12 * j) 4))) s1 else s1

/-- CREDIT (R412). -/
def rxCredit (i : Nat) (f : List Byte) (s : State) : State :=
  match namedCopy s i f with
  | none => kmpStale i s
  | some k => recEval k.channel (giveCredit i (kmpAt f 20 4) s)

/-- A copy whose CLIP_OPEN is still pending is closed with a reason (R420): CLIP_CLOSE is sent, and the start, or the continuation, fails
as if the magazine had refused it (DEDUCED, log entry 229). -/
def closePending (i reason : Nat) (k : Copy) (s : State) : State :=
  let s1 := raiseMag i 5 (modMag i (fun x => { x with lastClose := reason, reqs := x.reqs.filter (fun r => decide (r.type ≠ 0x10)) }) s)
  let s2 := kmpRequest i 0x12 0 (beBytes 4 k.clip ++ beBytes 4 0 ++ beBytes 1 reason) (modCopy i (fun k => { k with closing := some reason }) s1)
  if (recAt s2 k.channel).trigger.isSome then startFailed k.channel (if reason = 4 then 2 else 1) s2 else spanFailed k.channel s2

/-- A NOTICE closes the copy of its slot (R420). -/
def noticeClose (i reason : Nat) (s : State) : State :=
  match (magAt s i).copy with
  | some k => if !k.opened ∧ k.closing.isNone then closePending i reason k s else closeCopy i reason 0 s
  | none => s

/-- NOTICE (R402, R420): acknowledged; a repeated SEQ is acknowledged again without acting again (R401). -/
def rxNotice (i : Nat) (f : List Byte) (s : State) : State :=
  let q := kmpAt f 8 4
  let kind := kmpAt f 16 1
  let s1 := kmpSend i 0x31 0 q 0 [] s
  if (magAt s i).noticeSeq = some q then s1
  else
    let s2 := raiseMag i 4 (modMag i (fun x => { x with noticeSeq := some q, notice := kind % 8 }) s1)
    if kind = 1 then noticeClose i 4 s2
    else if kind = 2 then noticeClose i 5 s2
    else if kind = 4 then partnerLost i s2
    else s2

/-- The TYPEs of R399. -/
def kmpTypes : List Nat :=
  [0x01, 0x02, 0x03, 0x04, 0x05, 0x06, 0x07, 0x10, 0x11, 0x12, 0x13, 0x20, 0x21, 0x22, 0x23, 0x30, 0x31, 0x40, 0x41, 0x42, 0x43]

/-- What a message does once it has passed the checks (R399); those that only the device sends have no effect here. -/
def kmpAct (i : Nat) (f : List Byte) (s : State) : State :=
  match kmpAt f 0 1 with
  | 0x01 => rxHello i f s
  | 0x03 => onReply i 0x02 true f (rxCaps i f) s
  | 0x05 => onReply i 0x04 true f (rxMountAck i f) s
  | 0x07 => onReply i 0x06 true f (rxIndex i f) s
  | 0x11 => onReply i 0x10 true f (rxOpenAck i f) s
  | 0x13 => onReply i 0x12 false f (rxCloseAck i f) s
  | 0x21 => rxCommit i f s
  | 0x22 => rxResend i f s
  | 0x23 => rxCredit i f s
  | 0x30 => rxNotice i f s
  | 0x41 => if !firmwareRunning s then kmpHold i f s else rxFormatStatus i f (modMag i (fun x => { x with reqs := x.reqs.filter (fun r => decide (r.type ≠ 0x40)) }) s)
  | 0x43 => onReply i 0x42 true f (ejectDone i) s
  | _ => s

/-- The slot is past MOUNT_ACK, so messages must carry its epoch (R401). -/
def pastMount (x : MagSlot) : Bool :=
  decide (x.state = .index) || decide (x.state = .ready) || decide (x.state = .recording) || decide (x.state = .busy)

/-- A message is acted on unless its epoch is not the slot's (R401). -/
def kmpChecked (i : Nat) (f : List Byte) (s : State) : State :=
  let x := magAt s i
  if pastMount x ∧ kmpAt f 0 1 ≠ 1 ∧ kmpAt f 4 4 ≠ x.epoch then kmpStale i s else kmpAct i f s

/-- A KMP message arrives at slot `i`, past the filter of its MAC (R205, R207, R397, R399, R401); `only` restricts what is looked at to some TYPEs (DEDUCED, log entries 91 and 92). -/
def kmpReceive (only : Nat → Bool) (i : Nat) (f : List Byte) (s : State) : State :=
  let x := magAt s i
  let ty := kmpAt f 0 1
  if x.state = .off ∨ !toEngine (macAt s x.mac) f then s
  else if !only ty then s
  else if be16 f 12 ≠ 0x88B6 ∨ !kmpTypes.contains ty ∨ kmpAt f 1 1 ≠ 1 then kmpStale i s
  else kmpChecked i f s

/-- The messages that waited for the firmware are acted on once it runs again (R422). -/
def kmpResume (s : State) : State :=
  if !firmwareRunning s then s else
  forUpTo 2 (fun i s => forEach (magAt s i).held (kmpChecked i) (modMag i (fun x => { x with held := [] }) s)) s

/-- KMP_MESSAGE_RECEIVED (R399, R401): a message of any TYPE. -/
def kmpMessage (i : Nat) (f : List Byte) (s : State) : State := kmpReceive (fun _ => true) i f s
/-- KMP_COMMIT_RECEIVED (R412). -/
def kmpCommit (i : Nat) (f : List Byte) (s : State) : State := kmpReceive (fun t => decide (t = 0x21)) i f s
/-- KMP_RESEND_RECEIVED (R419). -/
def kmpResend (i : Nat) (f : List Byte) (s : State) : State := kmpReceive (fun t => decide (t = 0x22)) i f s
/-- KMP_NOTICE_RECEIVED (R420). -/
def kmpNotice (i : Nat) (f : List Byte) (s : State) : State := kmpReceive (fun t => decide (t = 0x30)) i f s

/-- KMP_REQUEST_TIMEOUT (R401, R423): the oldest request is sent again with its SEQ, up to three times; then the partner is
lost. A CLIP_CLOSE of the stop-bath sequence is not retried. -/
def kmpTimeout (i : Nat) (s : State) : State :=
  match (magAt s i).reqs with
  | [] => s
  | r :: rest =>
    if (r.type ≠ 0x12 ∧ !firmwareRunning s) ∨ (r.type = 0x12 ∧ r.flags = 1) then s
    else if r.retries < 3 then
      kmpSend i r.type r.flags r.seq 0 r.body (modMag i (fun x => { x with
        reqs := { r with retries := r.retries + 1 } :: rest, ctr.retry := (x.ctr.retry + 1) % 2 ^ 32 }) s)
    else partnerLost i s

/-- KMP_HELLO_SEND (R399, R402): the device's serial number and the slot's epoch. -/
def helloSend (i : Nat) (s : State) : State :=
  let x := magAt s i
  if x.state = .off ∨ !linkUp (macAt s x.mac) then s
  else kmpSend i 0x01 0 0 0 (beBytes 8 s.boot.fuses.serial ++ beBytes 4 x.epoch) s

/-- KMP_HELLO_TIMEOUT (R402). -/
def helloTimeout (i : Nat) (s : State) : State := partnerLost i s

/-- NO_PARTNER_TIMEOUT (R403). -/
def noPartnerTimeout (i : Nat) (s : State) : State :=
  if (magAt s i).state = .search ∧ !(magAt s i).noPartner then raiseMag i 1 (modMag i (fun x => { x with noPartner := true }) s) else s

/-- FORMAT_STATUS_TIMEOUT (MAG_FORMAT): the command ends with TIMEOUT and the slot is READY again. -/
def formatTimeout (i : Nat) (s : State) : State :=
  let mine := fun (c : Cmd) => match c.phase with
    | .stepping (.magFormat j _) => decide (j = i)
    | _ => false
  if s.ctl.inflight.any mine then
    finishCmds mine .timeout unstated [] (if (magAt s i).state = .busy then slotReady i (modMag i (fun x => { x with reqs := [] }) s) else s)
  else s

/-- An open MAG_FORMAT holds a slot (R46). -/
def formatHeld (s : State) (i : Nat) : Bool :=
  (openJobs s).any (fun j => match j with
    | .magFormat k _ => decide (k = i)
    | _ => false)

/-- MAG_SLOT_SET (R397, R402, R426). -/
def cmdMagSlotSet (c : Cmd) (s : State) : CmdRes :=
  let i := c.u8 0
  let en := decide (c.u8 1 = 1)
  let m := macAt s (c.u8 2)
  let fits := m.enabled && isKml m && m.cfg.rxPauseEn && decide (9050 ≤ m.cfg.maxFrame) && decide (m.cfg.role = 2 + i)
  checks s [tooShort c 4, rsv c 3 1, bad (decide (1 < i)), bad (decide (1 < c.u8 1)), bad (en && decide (15 < c.u8 2)),
    stateIf (magAt s i).copy.isSome unstated, stateIf (en && !fits) 1, busyIf (formatHeld s i) 0]
    (done (modMag i (fun x => if en then
        { x with state := .search, mac := c.u8 2, noPartner := false, reqs := [], held := [], src := none, noticeSeq := none, lastHello := runTime s }
      else { x with state := .off, mac := 0, noPartner := false, reqs := [], held := [], src := none, noticeSeq := none }) s))

/-- MAG_INDEX_READ (R405): newest first. -/
def cmdMagIndexRead (c : Cmd) (s : State) : CmdRes :=
  let i := c.u8 0
  let x := magAt s i
  let size := c.u32 4
  let a := c.u64 8
  let l := x.index.reverse.take (size / 32)
  checks s [tooShort c 16, rsv c 1 3, bad (decide (1 < i)), bad (decide (size % 32 ≠ 0) || decide (size < 32) || decide (131072 < size)),
    bad (decide (a % 4 ≠ 0)), stateIf (decide (x.state ≠ .ready) && decide (x.state ≠ .recording)) unstated, busyIf (formatHeld s i) 0]
    (match hostWrite a l.flatten s with
     | none => .accept (.magIndex i 0 0 a 0) (some (.timeout, unstated, leBytes 4 0)) s
     | some s1 => .accept (.magIndex i 0 l.length a l.length) (some (.ok, 0, leBytes 4 l.length)) s1)

/-- MAG_FORMAT (R404): the slot is BUSY until a FORMAT_STATUS says that it is done. -/
def cmdMagFormat (c : Cmd) (s : State) : CmdRes :=
  let i := c.u8 0
  checks s [tooShort c 4, rsv c 1 3, bad (decide (1 < i)), stateIf (decide ((magAt s i).state ≠ .ready)) unstated, busyIf (formatHeld s i) 0]
    (.accept (.magFormat i 0) none (kmpRequest i 0x40 0 [] (modMag i (fun x => { x with state := .busy }) s)))

/-- MAG_EJECT (R404) (DEDUCED, log entry 94). -/
def cmdMagEject (c : Cmd) (s : State) : CmdRes :=
  let i := c.u8 0
  let st := (magAt s i).state
  checks s [tooShort c 4, rsv c 1 3, bad (decide (1 < i)),
    stateIf (decide (st = .recording) || decide (st = .busy) || decide (st = .off)) unstated, busyIf (formatHeld s i) 0]
    (.wait (.eject i) (kmpRequest i 0x42 0 [] (modMag i (fun x => { x with state := .busy }) s)))

/-- REC_CHANNEL_SET (R410, R426). -/
def cmdRecChannelSet (c : Cmd) (s : State) : CmdRes :=
  let k := c.u8 0
  let en := decide (c.u8 1 = 1)
  let x := recAt s k
  let p := poolAt s (c.u8 4)
  let bytes := formatMinSize p.format p.lines p.stride
  let cfg : RecCfg := { targets := c.u8 2, span := bit (c.u8 3) 0, encrypt := bit (c.u8 3) 1, match1 := bit (c.u8 3) 2, stopbath := bit (c.u8 3) 3,
                        pool := c.u8 4, lagMax := if c.u8 5 = 0 then 8 else c.u8 5, holdMs := if c.u8 6 = 0 then 5 else c.u8 6,
                        preroll := c.u16 8, rate := c.u32 12 }
  checks s ([tooShort c 16, bad (decide (1 < k)), bad (decide (1 < c.u8 1))] ++
    (if en then [rsvIf (decide (3 < c.u8 2)), rsvIf (decide (15 < c.u8 3)), rsv c 7 1, rsv c 10 2, bad (decide (c.u8 2 = 0)),
      bad (decide (63 < c.u8 4) || !p.used), bad (decide (100 < c.u8 6)), bad (decide (1023 < c.u16 8)),
      bad (decide (c.u32 12 = 0) || decide (400000 < c.u32 12)), bad (cfg.span && decide (cfg.targets = 3)),
      bad (cfg.encrypt && decide (bytes % 16 ≠ 0)),
      stateIf (decide (x.state ≠ .idle) || x.trigger.isSome || (List.range 2).any (fun i => (copyOf s k i).isSome)) unstated] else []))
    (if en then done (modRec k (fun x => { x with enabled := true, cfg := cfg }) s)
     else .wait (.recReset k) (resetRec k s))

/-- REC_KEY_SET (R413). -/
def cmdRecKeySet (c : Cmd) (s : State) : CmdRes :=
  let k := c.u8 0
  let x := recAt s k
  checks s [tooShort c 72, rsv c 1 3, bad (decide (1 < k)), bad (decide (c.u32 4 = 0)), bad (decide (c.bytes 8 32 = c.bytes 40 32)),
    stateIf (decide (x.state ≠ .idle) && decide (x.state ≠ .armed)) unstated]
    (done (modRec k (fun x => { x with key := some (c.u32 4, c.bytes 8 64) }) s))

/-- The instant at which the reference frame labelled with a timecode and sub-frame begins (R82, R85, R86, R414), or none
where it has begun or is not reached: a label is taken as ahead when it lies within half a day of the present one. -/
def tcInstant (s : State) (t : Timecode) (sub : Nat) : Option Nat :=
  let m := s.time.tc.mode
  let r := s.time.ref
  let now := s.time.tb.now
  match tcFactor r m.base with
  | none => none
  | some k =>
    let day : Int := tcDay m
    let cur := tcAt s s.time.refFrame
    let ahead := (tcCount m t - tcCount m cur.1) % day
    if !s.time.tc.running ∨ !tcFieldsOk t m.base ∨ k ≤ sub ∨ day < 2 * ahead then none
    else if ahead = 0 ∧ sub ≤ cur.2 then none
    else if m.mode = 3 then
      let n := s.time.refFrame + ahead * (k : Int) - (cur.2 : Int) + (sub : Int)
      let i := refInstant r n 0 0
      if now < i then some i else none
    else
      let i := refInstant r (s.time.refFrame + ahead * (k : Int) + (sub : Int) - (cur.2 : Int)) 0 0
      if now < i then some i else none

/-- A trigger of REC_START_AT or REC_STOP_AT. -/
def triggerTc (c : Cmd) : Timecode := { ff := c.u8 4, ss := c.u8 5, mm := c.u8 6, hh := c.u8 7 }

/-- The first capture frame whose boundary lies at least 2 ms ahead (R414): in DRIVE mode as predicted (R126), else by the last
period (DESIGN CHOICE, log entry 200). -/
def nextCapture (s : State) : Nat :=
  let k := s.time.cap
  let far := s.time.tb.now + 2000000 * nsUnits
  if k.mode.drive then
    (match capInstant s (k.frame + 1) 0 0, capInstant s (k.frame + 2) 0 0 with
     | some a, some b => if b ≤ a then k.frame + 1 else k.frame + 1 + ceilDiv (far - a) (b - a)
     | _, _ => k.frame + 1)
  else if !k.hasBoundary ∨ k.period = 0 then k.frame + 1
  else k.frame + max 1 (ceilDiv (far - k.boundary) k.period)

/-- REC_START_AT (R413, R414, R511). -/
def cmdRecStartAt (c : Cmd) (s : State) : CmdRes :=
  let k := c.u8 0
  let tr := c.u8 1
  let x := recAt s k
  let at_ := tcInstant s (triggerTc c) (c.u8 2)
  let kib := ceilDiv x.cfg.rate 1000
  let g : Grant := if 12500 < x.cfg.rate then { adds := [(30, 40 * kib, 50 * kib)] } else {}
  let t : RecTrigger := if tr = 2 then { kind := 2, instant := at_.getD 0, tc := tcNumber (triggerTc c) }
    else if tr = 1 then { kind := 1, frame := c.u64 8 } else { kind := 0, frame := nextCapture s }
  let go := fun (s : State) =>
    let s1 := modRec k (fun x => { x with trigger := some t, activity := (g.adds.map (·.2.1)).sum, start := none, stop := none }) s
    CmdRes.wait (.recOpen k) (forEach (recTargets x) (fun i => openCopy k i 0 0) s1)
  checks s [tooShort c 16, rsv c 3 1, bad (decide (1 < k)), bad (decide (2 < tr)), bad (decide (tr = 2) && decide (3 < c.u8 2)),
    badD (decide (tr = 2) && at_.isNone) 2,
    stateIf (!x.enabled || decide (x.state ≠ .idle) || x.trigger.isSome || (List.range 2).any (fun i => (copyOf s k i).isSome)) unstated,
    stateIf ((recTargets x).any (fun i => decide ((magAt s i).state ≠ .ready))) unstated, stateIf (x.cfg.encrypt && x.key.isNone) 3]
    (if 12500 < x.cfg.rate then askPower g s go else go s)

/-- REC_STOP_AT (R415) (DEDUCED, log entry 99). -/
def cmdRecStopAt (c : Cmd) (s : State) : CmdRes :=
  let k := c.u8 0
  let tr := c.u8 1
  let x := recAt s k
  let n := recSlot k true
  let at_ := tcInstant s (triggerTc c) (c.u8 2)
  let ones := leBytes 8 (2 ^ 64 - 1)
  let clear := modRec k (fun x => { x with stop := none, stopAt := none, stopDue := none, stopAfterOne := false, ended := false }) s
  let toFrame := fun (v : Nat) =>
    if x.start.any (fun fs => decide (v ≤ fs)) then CmdRes.final .rejRange 1 [] (cancelClip k s)
    else doneWith (leBytes 8 v) (armSlot n 10 0 v 0 k (modRec k (fun x => { x with stop := some v }) clear))
  checks s [tooShort c 16, rsv c 3 1, bad (decide (1 < k)), bad (decide (2 < tr)), bad (decide (tr = 2) && decide (3 < c.u8 2)),
    badD (decide (tr = 2) && at_.isNone) 2, stateIf (decide (x.state ≠ .armed) && decide (x.state ≠ .recording)) unstated]
    (if tr = 2 then doneWith ones (armSlot n 10 2 0 (at_.getD 0) k clear)
     else if tr = 1 then toFrame (c.u64 8)
     else match x.start with
       | some fs => toFrame (if x.started then max (s.time.cap.frame + 1) (fs + 1) else fs + 1)
       | none => doneWith ones (modSlot n (fun _ => {}) (modRec k (fun x => { x with stopAfterOne := true }) clear)))

end Sys2Proof.Machine
end

