-- ==== Sys2Proof/Machine/Ingest.lean ====
section
/-! DEFINITION. Picture ingest: commands 0x0501 and 0x0502 and the KPI packets (R213 to R231). -/
namespace Sys2Proof.Machine
open Sys2Proof

/-- Count up with wrap at 2³². -/
def wrap32 (a b : Nat) : Nat := (a + b) % 2 ^ 32

/-- One byte through the reflected CRC-32C register (R218). -/
def crc32cByte (r : BitVec 32) (b : Byte) : BitVec 32 := crcByte 0x82F63B78#32 r b

/-- CRC-32C over bytes, going on from a register value before its final XOR (R218). -/
def crc32cFrom (r : Nat) (l : List Byte) : Nat := (l.foldl crc32cByte (BitVec.ofNat 32 r)).toNat

/-- CRC-32C of a string of bytes (R218). -/
def crc32c (l : List Byte) : Nat := Nat.xor (crc32cFrom 0xFFFFFFFF l) 0xFFFFFFFF

/-- The token of an ingest context. -/
def inToken (s : State) (k : Nat) : Nat := agentToken s clsIngest k

/-- The reset of a context (R230, R483): its GEN rises and its state is cleared, but not its counters. -/
def resetIngest (k : Nat) (s : State) : State :=
  let x := inAt s k
  resetAgent clsIngest k (modIn k (fun x => ({ ctr := x.ctr, shadow := x.shadow } : Ingest))
    (forEach (if x.state = .opened then pictureBurst (.ingest k) x.pic else []) cutBurst s))

/-- INGEST_STREAM_SET (R213, R230) (DEDUCED, log entry 142). ENABLE 0 resets the context whether it was enabled or not (DEDUCED, log entry 142). -/
def cmdIngestStreamSet (c : Cmd) (s : State) : CmdRes :=
  let k := c.u8 0
  let en := decide (c.u8 1 = 1)
  let m := c.u8 2
  let cfg : IngestCfg := { mac := m, pool := c.u8 3, lowMark := c.u16 4, latencyNs := c.u32 8, endTimeoutUs := c.u32 12 }
  checks s ([tooShort c 16, bad (decide (3 < k)), bad (decide (1 < c.u8 1))] ++
    (if en then [rsv c 6 2, bad (decide (15 < m)), bad (decide (63 < c.u8 3) || !(poolAt s (c.u8 3)).used || notLinear (poolAt s (c.u8 3)).format), bad (decide (4096 < c.u16 4)),
      bad (decide (1000000000 < c.u32 8)), bad (decide (c.u32 12 < 1000) || decide (10000000 < c.u32 12)),
      stateIf ((inAt s k).enabled || !((macAt s m).enabled && decide ((macAt s m).cfg.role = 1))) unstated] else []))
    (if en then
       .wait (.ingestStart k) (updateLow k (raiseIn k 7 (modIn k (fun x => ({ enabled := true, cfg := cfg, ctr := x.ctr, shadow := x.shadow } : Ingest)) s)))
     else .wait (.ingestReset k) (if (inAt s k).enabled then raiseIn k 7 (resetIngest k s) else resetIngest k s))

/-- INGEST_STREAM_GET (R213). -/
def cmdIngestStreamGet (c : Cmd) (s : State) : CmdRes :=
  let k := c.u8 0
  let x := inAt s k
  checks s [tooShort c 4, rsv c 1 3, bad (decide (3 < k))]
    (doneWith (leBytes 1 k ++ leBytes 1 (b2n x.enabled) ++ leBytes 1 x.cfg.mac ++ leBytes 1 x.cfg.pool ++ leBytes 2 x.cfg.lowMark ++ leBytes 2 0 ++
      leBytes 4 x.cfg.latencyNs ++ leBytes 4 x.cfg.endTimeoutUs ++ leBytes 2 x.width) s)

/-- The KPI packet of a MAC frame (R214). -/
def kpiOf (f : List Byte) : List Byte := f.drop 14
/-- A big-endian field of a packet. -/
def beAt (p : List Byte) (o n : Nat) : Nat := beNat ((List.range n).map (fun i => p.getD (o + i) 0))

/-- Count a discarded frame, with event 576 at most once a millisecond while it recurs (R214, R215, R222). -/
def countUnbound (withEvent : Bool) (s : State) : State :=
  let s1 : State := { s with ingest.unbound := wrap32 s.ingest.unbound 1 }
  let now := runTime s
  let due : Bool := match s.ingest.unboundRaised with
    | some t => decide (t + 1000000 * nsUnits ≤ now)
    | none => true
  if withEvent ∧ due then raise 576 { s1 with ingest.unboundRaised := some now } else s1

/-- The checks every KPI packet meets, past the filter of its MAC (R205, R207), before the context its STREAM names takes it (R214, R215, R222). -/
def kpiPacket (m ty : Nat) (f : List Byte) (k : Nat → List Byte → State → State) (s : State) : State :=
  let p := kpiOf f
  let x := macAt s m
  let t := beAt p 0 1
  let st := beAt p 2 1 % 4
  if !toEngine x f ∨ x.cfg.role ≠ 1 then s
  else if be16 f 12 ≠ 0x88B5 then countUnbound true s
  else if t = 0 ∨ 3 < t ∨ beAt p 1 1 ≠ 1 then countUnbound false s
  else if t ≠ ty then s
  else if !(inAt s st).enabled ∨ (inAt s st).cfg.mac ≠ m then countUnbound true s
  else k st p s

/-- The holes of a picture: its lines that are not valid. -/
def pictureHoles (s : State) (q : OpenPicture) : Nat := q.lines - validCount q.lines (bufAt s q.buffer)

/-- A picture is closed (R227): published, classed and reported. `crc` is the frame-end's FRAME_CRC, or none. -/
def closePicture (k : Nat) (crc : Option Nat) (s : State) : State :=
  let x := inAt s k
  let q := x.pic
  let holes := pictureHoles s q
  let bad := match crc with
    | some v => decide (v ≠ Nat.xor q.crc 0xFFFFFFFF)
    | none => false
  let s1 := (ledgerPublish q.buffer (inToken s k) q.capFrame q.capSec q.capNs s).2
  let s2 := modIn k (fun x => { x with
    state := .idle, lastDropped := false, lastHoled := decide (0 < holes), holeLines := wrap32 x.holeLines holes,
    ctr := { x.ctr with
      ok := wrap32 x.ctr.ok (b2n (decide (holes = 0) && crc.isSome && !bad)),
      holed := wrap32 x.ctr.holed (b2n (decide (0 < holes))), holeLines := wrap32 x.ctr.holeLines holes,
      frameCrcErr := wrap32 x.ctr.frameCrcErr (b2n bad), feMissing := wrap32 x.ctr.feMissing (b2n crc.isNone) } }) s1
  let s3 := if 0 < holes then raiseIn k 2 s2 else s2
  let s4 := if bad then raiseIn k 3 s3 else s3
  let s5 := if crc.isNone then raiseIn k 4 s4 else s4
  pictureFinished k s5
where
  /-- LOW is looked at anew once a picture has finished. -/
  pictureFinished (k : Nat) (s : State) : State := updateLow k s

/-- The capture instant and frame number of a picture (R229): `a` is the arrival instant. An instant before the oldest boundary
held takes its frame (DEDUCED, log entry 192). -/
def captureOf (k a : Nat) (p : List Byte) (s : State) : Nat × Nat × Nat :=
  let x := inAt s k
  let cap := beAt p 16 6 * secUnits + beAt p 24 4 * nsUnits
  let period := a - x.lastArrival
  let late := a - x.cfg.latencyNs * nsUnits
  let t := if bit (beAt p 3 1) 0 ∧ x.seenMarker ∧ cap ≤ a ∧ a ≤ cap + period ∧ beAt p 24 4 < 1000000000 then cap else late
  let c := s.time.cap
  let m := c.pending.getD c.mode
  let followed := !m.drive && decide (m.stream = k)
  let inProgress := if c.boundary ≤ late then c.frame
    else (((c.past.find? (fun b => decide (b.2 ≤ late))).orElse (fun _ => c.past.getLast?)).getD (c.frame, 0)).1
  let frame := if followed then c.frame + 1 + c.markers.length else if c.hasBoundary then inProgress else c.frame
  (t / secUnits % 2 ^ 48, t % secUnits / nsUnits, frame)

/-- A frame-start is dropped (R224, R225): `nobuf` for lack of a buffer, else as FORMAT_ERR. -/
def dropPicture (k frame : Nat) (nobuf : Bool) (s : State) : State :=
  let s1 := modIn k (fun x => { x with
    state := .dropping, pic := { x.pic with frame := frame }, lastDropped := true, drops := wrap32 x.drops 1, lastDrop := frame,
    ctr := if nobuf then { x.ctr with dropNoBuf := wrap32 x.ctr.dropNoBuf 1 } else { x.ctr with formatErr := wrap32 x.ctr.formatErr 1 } }) s
  updateLow k (raiseIn k (if nobuf then 0 else 1) s1)

/-- A frame-start marker at its context (R216, R223 to R225, R229) (DEDUCED, log entries 65 and 66). -/
def frameStart (f : List Byte) (k : Nat) (p : List Byte) (s : State) : State :=
  let s0 := if (inAt s k).state = .opened then closePicture k none s else s
  let a := s.time.tb.now
  let x := inAt s0 k
  let frame := beAt p 8 8
  let cap := captureOf k a p s0
  let gap := x.seenMarker && decide (frame ≠ (x.lastFrame + 1) % 2 ^ 64)
  let c := s.time.cap
  let m := c.pending.getD c.mode
  let s1 := if !m.drive ∧ m.stream = k then modCapMarker a s0 else s0
  let s2 := modIn k (fun x => { x with
    lastFrame := frame, seenMarker := true, lastArrival := a, srcAddr := some ((f.drop 6).take 6), width := beAt p 30 2,
    ctr := { x.ctr with frameGap := wrap32 x.ctr.frameGap (b2n gap) } }) s1
  let s3 := if gap then raiseIn k 5 s2 else s2
  let q := poolAt s3 x.cfg.pool
  let s4 := finishWait (.ingestStart k) .ok 0 [] s3
  if beAt p 28 2 ≠ q.format ∨ beAt p 32 2 ≠ q.lines ∨ q.stride < beAt p 36 4 ∨ beAt p 36 4 = 0 then dropPicture k frame false s4
  else match ledgerAcquire x.cfg.pool (inToken s4 k) s4 with
    | (none, s5) => dropPicture k frame true s5
    | (some b, s5) => updateLow k (modIn k (fun x => { x with
        state := .opened,
        pic := { frame := frame, buffer := b, lines := q.lines, lineBytes := beAt p 36 4, stride := q.stride, base := bufBase s5 b,
                 capSec := cap.1, capNs := cap.2.1, capFrame := cap.2.2 } }) s5)
where
  /-- The capture raster has a boundary to begin (R84). -/
  modCapMarker (a : Nat) (s : State) : State := { s with time.cap.markers := s.time.cap.markers ++ [a], time.cap.lastMarker := a }

/-- KPI_FRAME_START (R216). -/
def kpiFrameStart (m : Nat) (f : List Byte) (s : State) : State := kpiPacket m 1 f (frameStart f) s

/-- Count an orphan packet (R223). -/
def orphan (k : Nat) (s : State) : State := modIn k (fun x => { x with ctr.orphan := wrap32 x.ctr.orphan 1 }) s

/-- Place a line segment in the open picture (R226). -/
def placeSegment (k : Nat) (p : List Byte) (s : State) : State :=
  let x := inAt s k
  let q := x.pic
  let line := beAt p 8 2
  let off := beAt p 12 4
  let len := beAt p 16 2
  let crcField := beAt p (20 + len) 4
  let crcOk := decide (crc32c (p.take (20 + len)) = crcField) && decide (24 + len ≤ p.length)
  let exp := tabGet q.expected line
  let crc' := crc32cFrom q.crc ((p.drop (20 + len)).take 4)
  let brk := fun (x : Ingest) => if lineValid s q.buffer line then x.pic.broken else Nat.lor x.pic.broken (2 ^ line)
  let s0 := modIn k (fun x => { x with pic.crc := crc' }) s
  if !crcOk ∨ q.lines ≤ line ∨ q.lineBytes < off + len ∨ len = 0 ∨ 16320 < len then
    modIn k (fun x => { x with pic.broken := if line < q.lines then brk x else x.pic.broken, ctr.segErr := wrap32 x.ctr.segErr 1 }) s0
  else if lineValid s q.buffer line ∨ q.broken.testBit line then modIn k (fun x => { x with ctr.segOrder := wrap32 x.ctr.segOrder 1 }) s0
  else if off ≠ exp then modIn k (fun x => { x with pic.broken := brk x, ctr.segOrder := wrap32 x.ctr.segOrder 1 }) s0
  else
    let s1 := fsWrite (q.base + line * q.stride + off) ((p.drop 20).take len) s0
    let s2 := modIn k (fun x => { x with pic.expected := tabSet x.pic.expected line (exp + len) }) s1
    if exp + len = q.lineBytes then
      modIn k (fun x => { x with ctr.linesOk := wrap32 x.ctr.linesOk 1 }) (markLines q.buffer line 1 s2)
    else s2

/-- A line packet at its context (R223). -/
def linePacket (k : Nat) (p : List Byte) (s : State) : State :=
  let x := inAt s k
  let same := decide (beAt p 4 4 = x.pic.frame % 2 ^ 32)
  match x.state with
  | .opened => if same then placeSegment k p s else orphan k s
  | .dropping => if same then s else orphan k s
  | .idle => orphan k s

/-- KPI_LINE_PACKET (R217, R226). -/
def kpiLinePacket (m : Nat) (f : List Byte) (s : State) : State := kpiPacket m 2 f linePacket s

/-- A frame-end marker at its context (R219, R223, R227). -/
def frameEnd (k : Nat) (p : List Byte) (s : State) : State :=
  let x := inAt s k
  let same := decide (beAt p 8 8 = x.pic.frame)
  match x.state with
  | .opened => if same then closePicture k (some (beAt p 20 4)) s else orphan k s
  | .dropping => if same then modIn k (fun x => { x with state := .idle }) s else orphan k s
  | .idle => orphan k s

/-- KPI_FRAME_END (R219). -/
def kpiFrameEnd (m : Nat) (f : List Byte) (s : State) : State := kpiPacket m 3 f frameEnd s

/-- KPI_END_TIMEOUT (R227). -/
def kpiEndTimeout (k : Nat) (s : State) : State := if (inAt s k).state = .opened then closePicture k none s else s

/-- The pictures that a MAC's links leave open when it leaves UP are closed (R227). -/
def ingestLinkDown (m : Nat) (s : State) : State :=
  forUpTo 4 (fun k s => if (inAt s k).enabled ∧ (inAt s k).cfg.mac = m then kpiEndTimeout k s else s) s

/-- The status packet of a stream, from its destination address on (R220); its instant is filled in as it starts (R221). -/
def statusFrame (k : Nat) (s : State) : List Byte :=
  let x := inAt s k
  let t := s.time.tb
  (x.srcAddr.getD []) ++ stationAddr s x.cfg.mac ++ beBytes 2 0x88B5 ++
    beBytes 1 4 ++ beBytes 1 1 ++ beBytes 1 k ++ beBytes 1 (b2n (decide (poolAvail s x.cfg.pool < x.cfg.lowMark)) + 2 * b2n x.lastDropped + 4 * b2n x.lastHoled) ++ beBytes 4 x.lastFrame ++
    beBytes 2 (poolAvail s x.cfg.pool) ++ beBytes 2 (poolAt s x.cfg.pool).count ++ beBytes 4 x.drops ++ beBytes 8 x.lastDrop ++
    beBytes 4 x.holeLines ++ beBytes 4 0 ++ beBytes 6 (t.now / secUnits) ++ beBytes 2 0 ++ beBytes 4 (t.now % secUnits / nsUnits) ++
    beBytes 2 (tbStateCode t.state + 8 * b2n t.todValid) ++ beBytes 10 0

/-- KPI_STATUS_SEND (R220, R221): once the stream has received its first marker. -/
def kpiStatusSend (k : Nat) (s : State) : State :=
  if (inAt s k).enabled ∧ (inAt s k).srcAddr.isSome then macSend (inAt s k).cfg.mac 1 3 (statusFrame k s) s else s

end Sys2Proof.Machine
end

