-- ==== Sys2Proof/Machine/Pcs.lean ====
section
/-! DEFINITION. The KML-56 transmitter (R185, R186): 64b/66b blocks, scrambler, transcoding, dealing to lanes, Reed-Solomon
codewords, PAM4 levels and alignment markers. What R185 takes from IEEE 802.3 Clauses 82 and 91 is PRESUMED (log entry 184). -/
namespace Sys2Proof.Machine
open Sys2Proof

/-- An idle 66-bit block: a control block of eight idle characters. A block is whether it is a control block, and its 64
payload bits with the first on the line lowest. -/
def idleBlock : Bool × Nat := (true, 0x1E)

/-- The 66-bit blocks of a MAC frame with its FCS (R185 step 1): a start block with preamble and delimiter, data blocks, a
terminate block, and idle blocks up to a gap of 12 octets (PRESUMED, log entry 184). -/
def frameBlocks (f : List Byte) : List (Bool × Nat) :=
  let k := f.length % 8
  let data := (List.range (f.length / 8)).map (fun i => (false, leNat ((f.drop (8 * i)).take 8)))
  let term := [0x87, 0x99, 0xAA, 0xB4, 0xCC, 0xD2, 0xE1, 0xFF].getD k 0x87
  [(true, leNat [0x78, 0x55, 0x55, 0x55, 0x55, 0x55, 0x55, 0xD5])] ++ data ++
    [(true, term + 256 * leNat (f.drop (8 * (f.length / 8))))] ++ List.replicate (if k ≤ 4 then 1 else 2) idleBlock

/-- The payload of a block through the scrambler x⁵⁸ + x³⁹ + 1 (R185 step 2): the bits sent, and the last 58 of them, which
are its state, the oldest lowest. -/
def scramble (st d : Nat) : Nat × Nat :=
  let first := Nat.xor (Nat.xor d (st / 2 ^ 19)) st % 2 ^ 39
  let h := st + first * 2 ^ 58
  let o := Nat.xor (Nat.xor d (h / 2 ^ 19)) h % 2 ^ 64
  (o, o / 64)

/-- The payloads of blocks one after another. -/
def joinPayloads (l : List (Bool × Nat)) : Nat := l.foldr (fun x a => x.2 + 2 ^ 64 * a) 0

/-- Four 66-bit blocks as one 257-bit block (R185 step 3): the second nibble of the first control block gives way to the flags
that tell data from control. The first five bits of every block are mixed with those from bit 8. -/
def transcode (l : List (Bool × Nat)) : Nat :=
  let p := joinPayloads l
  let mixed := fun (x : Nat) => Nat.xor x (x / 256 % 32)
  match l.findIdx? (·.1) with
  | none => mixed (1 + 2 * p)
  | some c =>
    let kept := p % 2 ^ (64 * c + 4) + p / 2 ^ (64 * c + 8) * 2 ^ (64 * c + 4)
    let flags := (l.zipIdx.map (fun e => if e.1.1 then 0 else 2 ^ (e.2 + 1))).sum
    mixed (flags + 32 * kept)

/-- Twice an element of GF(2¹⁰), for the field polynomial x¹⁰ + x³ + 1. -/
def gfDouble (a : Nat) : Nat := if a < 512 then 2 * a else Nat.xor (2 * a) 0x409

/-- The product of two elements of GF(2¹⁰). -/
def gfMul (a b : Nat) : Nat :=
  ((List.range 10).foldl (fun (x : Nat × Nat) i => (if b.testBit i then Nat.xor x.1 x.2 else x.1, gfDouble x.2)) (0, a)).1

/-- The generator polynomial of RS(544,514) below its leading term, highest coefficient first: its roots are the powers 0 to
29 of the primitive element 2. -/
def rsGenerator : List Nat :=
  (((List.range 30).foldl (fun (x : List Nat × Nat) _ =>
    (List.zipWith Nat.xor (x.1 ++ [0]) (0 :: x.1.map (gfMul x.2)), gfDouble x.2)) ([1], 1)).1).drop 1

/-- The 30 parity symbols of a message, in the order sent (R185 step 5). -/
def rsParity (g : List Nat) (msg : List Nat) : List Nat :=
  msg.foldl (fun r m =>
    let fb := Nat.xor m (r.headD 0)
    List.zipWith Nat.xor (r.drop 1 ++ [0]) (g.map (gfMul fb))) (List.replicate 30 0)

/-- The 544 symbols of the codeword of 20 blocks (R185 step 5). -/
def codeword (blocks : List Nat) : List Nat :=
  let n := blocks.foldr (fun b a => b + 2 ^ 257 * a) 0
  let msg := (List.range 514).map (fun j => n / 2 ^ (10 * j) % 1024)
  msg ++ rsParity rsGenerator msg

/-- The Gray-coded PAM4 level of a pair of bits, the first on the line lowest (R185 step 6). -/
def grayLevel (pair : Nat) : Nat :=
  match pair with
  | 0 => 0
  | 2 => 1
  | 3 => 2
  | _ => 3

/-- The PAM4 levels of a codeword, with 1/(1+D) precoding after the level last sent where it applies (R185 step 6). -/
def pamLevels (precode : Bool) (last : Nat) (symbols : List Nat) : List Nat :=
  let g := symbols.flatMap (fun x => (List.range 5).map (fun i => grayLevel (x / 4 ^ i % 4)))
  if precode then (g.foldl (fun (a : List Nat × Nat) x => let p := (x + 4 - a.2) % 4; (p :: a.1, p)) ([], last)).1.reverse else g

/-- Even parity per bit position over the 32 bytes of a block after its header bit (R186). -/
def blockParity (x : Nat) : Nat := (List.range 32).foldl (fun a i => Nat.xor a (x / 2 ^ (8 * i + 1) % 256)) 0

/-- A lane takes a 257-bit block; the twentieth completes a codeword, which is sent (R185). -/
def laneBlock (precode : Bool) (x : Nat) (l : Lane) : Lane :=
  let b := l.blocks ++ [x]
  if b.length < 20 then { l with blocks := b }
  else
    let v := pamLevels precode l.level (codeword b)
    { l with blocks := [], sent := v, level := v.getLastD 0 }

/-- The lane on which a MAC sends logical lane `k`. -/
def txLaneOf (s : State) (x : Mac) (k : Nat) : Option Nat := (macLanes x ++ spareLanes x).find? (fun n => decide ((laneAt s n).txLogical = k))

/-- A 257-bit block is dealt to the next logical lane (R185 step 4), which counts it in its BIP byte (R186). -/
def dealBlock (m v : Nat) (s : State) : State :=
  let x := macAt s m
  let s1 := modMac m (fun x => { x with lk.dealt := x.lk.dealt + 1 }) s
  match txLaneOf s x (x.lk.dealt % x.cfg.width) with
  | some n => modLane n (fun l => laneBlock x.cfg.precode v { l with bip := Nat.xor l.bip (blockParity v) }) s1
  | none => s1

/-- A MAC sends a 66-bit block (R185 steps 2 and 3). -/
def sendBlock (m : Nat) (b : Bool × Nat) (s : State) : State :=
  let k := (macAt s m).lk
  let o := scramble k.scr b.2
  let l := k.blks ++ [(b.1, o.1)]
  let s1 := modMac m (fun x => { x with lk.scr := o.2, lk.blks := if l.length < 4 then l else [] }) s
  if l.length < 4 then s1 else dealBlock m (transcode l) s1

/-- A KML-56 MAC encodes a frame with its FCS (R185). -/
def kmlEncode (m : Nat) (f : List Byte) (s : State) : State := forEach (frameBlocks f) (sendBlock m) s

/-- The 257-bit blocks of a marker period on all lanes of a MAC (R186). -/
def periodBlocks (x : Mac) : Nat := 20480 * x.cfg.width

/-- A lane that carries no logical lane sends a scrambled idle block (R186), from a scrambler of its own (DESIGN CHOICE, log entry 219). -/
def laneIdle (precode : Bool) (l : Lane) : Lane :=
  let e := (List.range 4).foldl (fun (e : Nat × List (Bool × Nat)) _ => let o := scramble e.1 idleBlock.2; (o.2, e.2 ++ [(true, o.1)])) (l.scr, [])
  let v := transcode e.2
  laneBlock precode v { l with scr := e.1, bip := Nat.xor l.bip (blockParity v) }

/-- Between two markers a lane that carries no logical lane has sent as many blocks as the others (R186). -/
def idleLanes (m : Nat) (s : State) : State :=
  let x := macAt s m
  forEach (macLanes x ++ spareLanes x) (fun n => modLane n (fun l =>
    if l.txLogical < x.cfg.width ∨ l.blocks.isEmpty then l else (List.range (x.lk.dealt / x.cfg.width - 1)).foldl (fun l _ => laneIdle x.cfg.precode l) l)) s

/-- Idle blocks complete the marker period, or the codewords under way where more has been sent than a period holds (R186) (DESIGN CHOICE, log entry 185). -/
def fillPeriod (m : Nat) (s : State) : State :=
  let x := macAt s m
  let want := if x.lk.dealt ≤ periodBlocks x then periodBlocks x - x.lk.dealt
    else (20 * x.cfg.width - x.lk.dealt % (20 * x.cfg.width)) % (20 * x.cfg.width)
  idleLanes m (forUpTo (4 * want - x.lk.blks.length) (fun _ => sendBlock m idleBlock) s)

/-- The 32 bytes of the marker that a lane of a MAC sends (R186). -/
def markerBytes (x : Mac) (l : Lane) : List Byte :=
  beBytes 6 0xA5C396F00F69 ++ beBytes 1 (l.txLogical % 16) ++ beBytes 1 x.cfg.linkId ++ beBytes 1 x.lk.rlf ++
    beBytes 1 ((tabGet x.lk.spares 0).tx + 16 * (tabGet x.lk.spares 1).tx) ++ beBytes 2 x.lk.markerSeq ++ beBytes 1 l.bip ++
    beBytes 1 (b2n (decide (x.lk.link = .aligned) || decide (x.lk.link = .sparing) || decide (x.lk.link = .up))) ++ List.replicate 18 0

/-- Every lane and spare of a MAC sends its marker as the first block of a codeword (R186). -/
def sendMarkers (m : Nat) (s : State) : State :=
  let x := macAt s m
  let s1 := forEach (macLanes x ++ spareLanes x) (fun n s => modLane n (fun l =>
    let b := markerBytes x l
    { l with markerOut := b, bip := 0, blocks := [2 * leNat b] }) s) s
  modMac m (fun x => { x with lk.dealt := x.cfg.width }) s1

end Sys2Proof.Machine
end

