-- ==== Sys2Proof/Machine/Dma.lean ====
section
/-! DEFINITION. The DMA engine: command 0x0C01, doorbells, descriptors, turns, receive rings and resets (R463 to R485). -/
namespace Sys2Proof.Machine
open Sys2Proof

/-- Channel `n`. -/
def dcAt (s : State) (n : Nat) : DmaChan := tabGet s.dma.chans n
/-- Change channel `n`. -/
def modDc (n : Nat) (f : DmaChan → DmaChan) (s : State) : State := { s with dma.chans := tabMod s.dma.chans n f }

/-- The owner token of a channel (R464). -/
def dcOwnerToken (s : State) (n : Nat) : Nat := if n < 28 then agentToken s clsMailbox (dcAt s n).owner else agentToken s clsFirmware 0
/-- The channel's own token (R464). -/
def dcToken (s : State) (n : Nat) : Nat := agentToken s clsDma n

/-- Raise source 801 + 2n. -/
def dcError (n : Nat) (s : State) : State := raise (801 + 2 * n) s

/-- The address that a pair of doorbell registers names (R475). -/
def dbAddr (lo hi : Nat) : DmaAddr := { fsa := bit lo 0, addr := hi % 65536 * 2 ^ 32 + lo / 32 * 32 % 2 ^ 32 }

/-- A doorbell that is ignored (R475). -/
def dbIgnored (n : Nat) (s : State) : State := dcError n (modDc n (fun x => { x with dbErr := true }) s)

/-- DC_DB_HI_WRITE (R475). -/
def dcDoorbell (n : Nat) (v : Nat) (s : State) : State :=
  let x := dcAt s n
  if x.mode ≠ 1 ∨ x.state = .resetting ∨ 8 ≤ x.queue.length then dbIgnored n s
  else
    let a := dbAddr x.dbLo v
    if x.state = .idle then modDc n (fun x => { x with state := .running, next := some a }) s
    else modDc n (fun x => { x with queue := x.queue ++ [a] }) s

/-- The next queued chain starts, or the channel is IDLE (R478, R479). -/
def dcNextChain (n : Nat) (s : State) : State :=
  modDc n (fun x => match x.queue with
    | a :: l => { x with state := .running, next := some a, queue := l }
    | [] => { x with state := .idle, next := none }) s

/-- DC_RESUME (R479). -/
def dcResume (n : Nat) (s : State) : State :=
  if (dcAt s n).state = .halted then dcNextChain n (modDc n (fun x => { x with err := 0 }) s) else s

/-- The references and the buffers of the descriptor in progress are let go (R473, R474). -/
def dcLetGo (n : Nat) (s : State) : State :=
  let tok := dcToken s n
  let s1 := forEach (dcAt s n).refs (fun b s => (ledgerRelease b tok s).2) s
  modDc n (fun x => { x with refs := [], bufs := [] }) s1

/-- An error halts a channel (R479): `fault` is the first byte not moved, where bytes were involved. -/
def dcHalt (n err : Nat) (at_ : DmaAddr) (fault : Option DmaAddr) (s : State) : State :=
  let s1 := dcLetGo n s
  dcError n (modDc n (fun x => { x with
    state := .halted, err := err, cur := at_, fault := fault.getD x.fault, next := none, run := none }) s1)

/-- The bytes of a descriptor (R466). -/
def descOf (b : List Byte) : Desc :=
  let u := fun o n => leNat ((b.drop o).take n)
  let fl := u 7 1
  { next := { fsa := bit fl 1, addr := u 0 6 },
    op := match u 6 1 % 4 with
      | 0 => .copy
      | 1 => .list
      | 2 => .rect
      | _ => .fill,
    isLast := bit fl 0, irq := bit fl 4, listDst := bit fl 5,
    src := { fsa := bit fl 2, addr := u 8 6 }, dst := { fsa := bit fl 3, addr := u 16 6 },
    height := u 14 2, length := u 24 4, srcStride := u 28 2 * 4, dstStride := u 30 2 * 4, pattern := u 8 4 }

/-- A FILL over rows. -/
def rectFill (d : Desc) : Bool := decide (d.op = .fill) && decide (d.height ≠ 0)
/-- The rows of a descriptor; a COPY and a linear FILL are one row (R471). -/
def descRows (d : Desc) : Nat := if d.op = .rect ∨ rectFill d then d.height else 1
/-- The extent of a side: the bytes from its first to its last (R470). -/
def sideExtent (d : Desc) (stride : Nat) : Nat := (descRows d - 1) * stride + d.length

/-- An FSA that does not fit [39:0]. -/
def fsaTooBig (a : DmaAddr) : Bool := a.fsa && decide (2 ^ 40 ≤ a.addr)

/-- A reserved field is set or a count lies outside R466, and the other PARAM checks (R467, R468, R479). -/
def descParamBad (b : List Byte) : Bool :=
  let u := fun o n => leNat ((b.drop o).take n)
  let d := descOf b
  let rect := decide (d.op = .rect)
  decide (3 < u 6 1) || decide (63 < u 7 1) || decide (u 22 2 ≠ 0) ||
    (decide (d.op = .fill) && decide (u 12 2 ≠ 0)) ||
    (if rect then decide (d.height = 0) else decide (d.op ≠ .fill) && decide (d.height ≠ 0)) ||
    decide (d.length = 0) || (decide (d.op = .list) && decide (4096 < d.length)) || ((rect || rectFill d) && decide (262140 < d.length)) ||
    (if rect then decide (d.srcStride = 0) || decide (d.dstStride = 0)
     else if rectFill d then decide (d.srcStride ≠ 0) || decide (d.dstStride = 0) else decide (u 28 4 ≠ 0)) ||
    fsaTooBig d.dst || (decide (d.op ≠ .fill) && fsaTooBig d.src) || (!d.isLast && (fsaTooBig d.next || decide (d.next.addr % 32 ≠ 0))) ||
    (decide (d.op ≠ .fill) && !d.src.fsa && !d.dst.fsa) ||
    (decide (d.op = .list) && decide ((if d.listDst then d.dst.addr else d.src.addr) % 16 ≠ 0)) ||
    (rect && decide (1 < d.height) && (decide (d.srcStride < d.length) || decide (d.dstStride < d.length))) ||
    (rectFill d && decide (d.dstStride < d.length))

/-- The sides of a COPY or RECT overlap (R470). -/
def sidesOverlap (d : Desc) : Bool :=
  (decide (d.op = .copy) || decide (d.op = .rect)) && d.src.fsa && d.dst.fsa &&
    decide (d.src.addr < d.dst.addr + sideExtent d d.dstStride) && decide (d.dst.addr < d.src.addr + sideExtent d d.srcStride)

/-- A frame-store range that R472 refuses. -/
def rangeBad (s : State) (a n : Nat) : Bool :=
  decide (capacity s < a + n) || (!s.fs.fillDone && decide (s.fs.fillPtr * 65536 < a + n)) || decide (a < 8388608)

/-- The buffer that holds the whole of a range that touches a pool, or none (R473). -/
def wholeBuffer (s : State) (a n : Nat) : Option Nat :=
  match (List.range 64).find? (fun p => let q := poolAt s p; q.used && decide (q.base ≤ a) && decide (a + n ≤ q.base + q.size * q.count)) with
  | none => none
  | some p =>
    let q := poolAt s p
    let i := (a - q.base) / q.size
    if a + n ≤ q.base + (i + 1) * q.size then some (q.first + i) else none

/-- Check one frame-store range of a descriptor or element (R472, R473): the ERR code with the state, or the state with what the
channel holds for it (DEDUCED, log entry 117). -/
def checkRange (n : Nat) (a : DmaAddr) (len : Nat) (isDst : Bool) (s : State) : Except (Nat × State) State :=
  if !a.fsa then .ok s
  else if rangeBad s a.addr len then .error (4, s)
  else if !poolOverlap s a.addr len then .ok s
  else match wholeBuffer s a.addr len with
    | none => .error (3, s)
    | some b =>
      let x := bufAt s b
      let tok := dcOwnerToken s n
      let keep := fun (s : State) => modDc n (fun c => { c with bufs := if c.bufs.contains b then c.bufs else c.bufs ++ [b] }) s
      if x.state = .owned ∧ x.owner = tok then .ok (keep s)
      else if isDst ∨ x.state ≠ .published ∨ !holdsRef s b tok then .error (3, s)
      else if (dcAt s n).refs.contains b then .ok s
      else
        let r := takeRef false b (dcToken s n) s
        if r.1 then .ok (keep (modDc n (fun c => { c with refs := c.refs ++ [b] }) r.2)) else .error (3, r.2)

/-- The frame-store checks on a descriptor's own sides (R472, R473): a list must lie outside every pool. -/
def checkSides (n : Nat) (d : Desc) (s : State) : Except (Nat × State) State :=
  let list := if d.listDst then d.dst else d.src
  match d.op with
  | .list => if list.fsa && (rangeBad s list.addr (16 * d.length) || poolOverlap s list.addr (16 * d.length)) then .error (4, s) else .ok s
  | .fill => checkRange n d.dst (sideExtent d d.dstStride) true s
  | _ => match checkRange n d.src (sideExtent d d.srcStride) false s with
    | .ok s1 => checkRange n d.dst (sideExtent d d.dstStride) true s1
    | .error e => .error e

/-- A fetched descriptor is checked, and begins (R468 to R473) (DEDUCED, log entry 116). -/
def descBegin (n : Nat) (a : DmaAddr) (b : List Byte) (s : State) : State :=
  let d := descOf b
  let s0 := modDc n (fun x => { x with cur := a }) s
  if descParamBad b then dcHalt n 1 a none s0
  else if sidesOverlap d ∧ d.op = .rect ∧ d.srcStride ≠ d.dstStride then dcHalt n 2 a none s0
  else match checkSides n d s0 with
    | .error e => dcHalt n e.1 a none e.2
    | .ok s1 =>
      let same := (decide (d.op = .copy) || decide (d.op = .rect)) && decide (d.src = d.dst) && sidesOverlap d
      modDc n (fun x => { x with run := some { desc := d, at_ := a, finished := same }, next := none }) s1

/-- DESCRIPTOR_FETCH (R468, R472, R476): a fetch that the host interface blocks waits (R582) (DEDUCED, log entry 118). -/
def descriptorFetch (n : Nat) (s : State) : State :=
  let x := dcAt s n
  match x.next with
  | none => s
  | some a =>
    if x.state ≠ .running ∨ x.run.isSome then s
    else if a.fsa then
      if 2 ^ 40 ≤ a.addr then dcHalt n 1 a none s
      else if rangeBad s a.addr 32 || poolOverlap s a.addr 32 then dcHalt n 4 a none s
      else
        let r := fsRead a.addr 32 s
        if r.2.1 then dcHalt n 5 a (some { fsa := true, addr := a.addr / 64 * 64 }) r.2.2 else descBegin n a r.1 r.2.2
    else match hostRead a.addr 32 s with
      | none => s
      | some b => descBegin n a b s

/-- Bytes read from either space: none while the host interface blocks them; a poisoned line gives its first byte. -/
def dmaRead (a : DmaAddr) (n : Nat) (s : State) : Option (Except Nat (List Byte) × State) :=
  if a.fsa then
    let r := fsRead a.addr n s
    some (if r.2.1 then .error (a.addr / 64 * 64) else .ok r.1, r.2.2)
  else (hostRead a.addr n s).map (fun b => (.ok b, s))

/-- Bytes written to either space: none while the host interface blocks them. -/
def dmaWrite (a : DmaAddr) (b : List Byte) (s : State) : Option State := if a.fsa then some (fsWrite a.addr b s) else hostWrite a.addr b s

/-- An address further on. -/
def DmaAddr.plus (a : DmaAddr) (n : Nat) : DmaAddr := { a with addr := a.addr + n }

/-- The order of a COPY or RECT is from the last byte down (R471). -/
def backwards (d : Desc) : Bool := sidesOverlap d && decide (d.src.addr < d.dst.addr)

/-- How many bytes from an address lie in its 64-byte line, going up. -/
def toLineEnd (a : DmaAddr) : Nat := if a.fsa then 64 - a.addr % 64 else 4096
/-- How many bytes end at an address within its 64-byte line, going down. -/
def fromLineStart (a : DmaAddr) : Nat := if a.fsa then a.addr % 64 + 1 else 4096

/-- The next run of bytes of a COPY, RECT or FILL, at most `k` of them: its row, its first offset within the row and its
length (R471). -/
def nextRun (d : Desc) (moved k : Nat) : Nat × Nat × Nat :=
  let w := d.length
  let r := moved / w
  let o := moved % w
  if backwards d then
    let row := descRows d - 1 - r
    let top := w - 1 - o
    let n := min k (min (top + 1) (fromLineStart (d.src.plus (row * d.srcStride + top))))
    (row, top + 1 - n, n)
  else
    let n := min k (min (w - o) (if d.op = .fill then 4096 else toLineEnd (d.src.plus (r * d.srcStride + o))))
    (r, o, n)

/-- The bytes of a FILL from an offset of its row (R467). -/
def fillRun (d : Desc) (o n : Nat) : List Byte := (List.range n).map (fun i => BitVec.ofNat 8 (d.pattern / 256 ^ ((o + i) % 4)))

/-- Change the descriptor in progress. -/
def modRun (n : Nat) (f : DescRun → DescRun) (s : State) : State := modDc n (fun x => { x with run := x.run.map f }) s

/-- How one run of bytes went: moved, with their number and the state; blocked by the host interface; or halted. -/
inductive MoveOut where
  | moved (n : Nat) (s : State)
  | blocked
  | halted (s : State)

/-- Move one run of a COPY, RECT or FILL (R467, R471, R480). -/
def moveRun (n : Nat) (r : DescRun) (k : Nat) (s : State) : MoveOut :=
  let d := r.desc
  let v := nextRun d r.moved k
  let src := d.src.plus (v.1 * d.srcStride + v.2.1)
  let dst := d.dst.plus (v.1 * d.dstStride + v.2.1)
  let put := fun (b : List Byte) (s : State) => match dmaWrite dst b s with
    | none => MoveOut.blocked
    | some s1 => .moved v.2.2 (modRun n (fun r => { r with
        moved := r.moved + v.2.2, finished := decide (descRows d * d.length ≤ r.moved + v.2.2) }) s1)
  if d.op = .fill then put (fillRun d v.2.1 v.2.2) s
  else match dmaRead src v.2.2 s with
    | none => .blocked
    | some (.error f, s1) => .halted (dcHalt n 5 r.at_ (some { fsa := true, addr := f }) s1)
    | some (.ok b, s1) => put b s1

/-- The elements of a list as they stand in memory. -/
def listElems (s : State) (d : Desc) : List (Nat × Nat) :=
  let a := if d.listDst then d.dst else d.src
  let g := fun i => tabGet (if a.fsa then s.fs.mem else s.host.mem) (a.addr + i)
  (List.range d.length).map (fun i =>
    (leNat ((List.range 6).map (fun j => g (16 * i + j))), leNat ((List.range 4).map (fun j => g (16 * i + 8 + j)))))

/-- A byte of a range. -/
def within (a : Nat) (r : Nat × Nat) : Bool := decide (r.1 ≤ a) && decide (a < r.1 + r.2)

/-- Whether the byte that a LIST writes at `dst` from `src` lies where its frame-store ranges overlap (R470). -/
def listOverlap (d : Desc) (el : List (Nat × Nat)) (src dst : Nat) : Bool :=
  let total := (el.map (·.2)).sum
  let run := ((if d.listDst then d.src.addr else d.dst.addr), total)
  let dsts := if d.listDst then el else [run]
  let srcs := if d.listDst then [run] else el
  d.dst.fsa && ((d.src.fsa && (dsts.any (within src) || srcs.any (within dst))) || decide (2 ≤ (dsts.filter (within dst)).length))

/-- Bytes with those that a LIST leaves undefined replaced by free values (R470) (DESIGN CHOICE, log entry 15). -/
def listBytes (d : Desc) (el : List (Nat × Nat)) (src dst : Nat) (b : List Byte) (s : State) : List Byte × State :=
  (b.zipIdx.map (fun q => if listOverlap d el (src + q.2) (dst + q.2) then Config.freeOverlap (s.free + q.2) else q.1),
    { s with free := s.free + b.length })

/-- Reach the next element of a LIST (R467, R468): read it, and check it with the contiguous run as far as this element takes it, which
must lie in one buffer as a whole (R473). -/
def listElement (n : Nat) (r : DescRun) (s : State) : MoveOut :=
  let d := r.desc
  let list := if d.listDst then d.dst else d.src
  let run := if d.listDst then d.src else d.dst
  let side : DmaAddr := run.plus r.moved
  let ea := list.plus (16 * r.elem)
  match dmaRead ea 16 s with
  | none => .blocked
  | some (.error f, s1) => .halted (dcHalt n 5 r.at_ (some { fsa := true, addr := f }) s1)
  | some (.ok b, s1) =>
    let el : DmaAddr := { fsa := list.fsa, addr := leNat (b.take 6) }
    let len := leNat ((b.drop 8).take 4)
    let fault := some (if d.listDst then side else el)
    if len = 0 ∨ leNat ((b.drop 12).take 4) ≠ 0 then .halted (dcHalt n 1 r.at_ fault s1)
    else match (if d.listDst then checkRange n run (r.moved + len) false s1 else checkRange n el len false s1) with
      | .error e => .halted (dcHalt n e.1 r.at_ fault e.2)
      | .ok s2 => match (if d.listDst then checkRange n el len true s2 else checkRange n run (r.moved + len) true s2) with
        | .error e => .halted (dcHalt n e.1 r.at_ fault e.2)
        | .ok s3 => .moved 0 (modRun n (fun r => { r with elemAddr := el.addr, elemLen := len, elemMoved := 0 }) s3)

/-- Move one run of a LIST (R467). -/
def moveList (n : Nat) (r : DescRun) (k : Nat) (s : State) : MoveOut :=
  let d := r.desc
  if r.elemLen = 0 then listElement n r s
  else
    let el : DmaAddr := { fsa := if d.listDst then d.dst.fsa else d.src.fsa, addr := r.elemAddr + r.elemMoved }
    let side : DmaAddr := if d.listDst then d.src.plus r.moved else d.dst.plus r.moved
    let src := if d.listDst then side else el
    let dst := if d.listDst then el else side
    let v := min k (min (r.elemLen - r.elemMoved) (toLineEnd src))
    match dmaRead src v s with
    | none => .blocked
    | some (.error f, s1) => .halted (dcHalt n 5 r.at_ (some { fsa := true, addr := f }) s1)
    | some (.ok b, s1) =>
      let w := listBytes d (listElems s1 d) src.addr dst.addr b s1
      match dmaWrite dst w.1 w.2 with
      | none => .blocked
      | some s2 =>
        let whole := decide (r.elemLen ≤ r.elemMoved + v)
        .moved v (modRun n (fun r => { r with
          moved := r.moved + v, elemMoved := r.elemMoved + v, elem := if whole then r.elem + 1 else r.elem,
          elemLen := if whole then 0 else r.elemLen, finished := whole && decide (d.length ≤ r.elem + 1) }) s2)

/-- Count bytes moved (`DC_CTR_KIB`). -/
def countMoved (n k : Nat) (s : State) : State :=
  modDc n (fun x => { x with loose := (x.loose + k) % 1024, kib := (x.kib + (x.loose + k) / 1024) % 2 ^ 32 }) s

/-- Runs of a turn, until its 4 KiB or the descriptor are done (R477). -/
def turnLoop : Nat → Nat → Nat → State → State
  | 0, _, _, s => s
  | fuel + 1, n, budget, s =>
    match (dcAt s n).run with
    | none => s
    | some r =>
      if budget = 0 ∨ r.finished then s
      else match (if r.desc.op = .list then moveList n r budget s else moveRun n r budget s) with
        | .blocked => s
        | .halted s1 => s1
        | .moved k s1 => turnLoop fuel n (budget - k) (countMoved n k s1)

/-- A channel has bytes to move (DEDUCED, log entry 121). -/
def wantsTurn (s : State) (n : Nat) : Bool := decide ((dcAt s n).state = .running) && (dcAt s n).run.any (fun r => !r.finished)

/-- Publishes and discards that waited for a descriptor to end (R474). -/
def heldLedgerOps (s : State) : List Cmd :=
  s.ctl.inflight.filter (fun c => match c.phase with
    | .waiting (.ledgerHeld b) => !anyUpTo 32 (fun n => (dcAt s n).bufs.contains b)
    | _ => false)

/-- A channel of the mailbox has a buffer in an open descriptor (R474). -/
def bufInDescriptor (s : State) (mb b : Nat) : Bool :=
  anyUpTo 28 (fun n => let x := dcAt s n; decide (x.owner = mb) && decide (x.mode = 1) && x.bufs.contains b)

/-- LEDGER_OP beside the DMA engine (R474): a publish or discard of a buffer in an open descriptor waits (DEDUCED, log entry 122). -/
def cmdLedgerOpDma (c : Cmd) (s : State) : CmdRes :=
  if (c.u8 0 = 1 ∨ c.u8 0 = 2) ∧ bufInDescriptor s c.mb (c.u16 2) then
    match cmdLedgerOp c s with
    | .final .ok _ _ _ => .wait (.ledgerHeld (c.u16 2)) s
    | r => r
  else cmdLedgerOp c s

/-- The ledger operations that waited are applied (R474). -/
def releaseHeldOps (s : State) : State :=
  forEach (heldLedgerOps s) (fun c s =>
    let s0 := dropCmd c s
    let back := fun (st : Status) (dt : Nat) (b : List Byte) (s : State) =>
      if firmwareRunning s then postFinal c st dt b s
      else { s with ctl.inflight := s.ctl.inflight ++ [{ c with phase := .ended st dt b }] }
    match cmdLedgerOp c s0 with
    | .final st dt b s1 => back st dt b s1
    | .wait _ s1 => s1
    | .accept _ _ s1 => s1) s

/-- DMA_TURN (R477): the engine serves the channels in ascending number from the one after the last served, so a turn
of another channel has no effect (DESIGN CHOICE, log entry 119). -/
def dmaTurn (n : Nat) (s : State) : State :=
  let next := ((List.range 32).map (fun i => (s.dma.served + 1 + i) % 32)).find? (wantsTurn s)
  if next = some n then releaseHeldOps (turnLoop 8200 n 4096 { s with dma.served := n }) else s

/-- DESCRIPTOR_COMPLETE (R476): counts, events and references; LAST ends the chain. -/
def descriptorComplete (n : Nat) (s : State) : State :=
  match (dcAt s n).run with
  | none => s
  | some r =>
    if !r.finished then s
    else
      let d := r.desc
      let s1 := modDc n (fun x => { x with run := none, cur := r.at_, done := (x.done + 1) % 2 ^ 32 }) (dcLetGo n s)
      let s2 := if d.irq ∨ d.isLast then raise (800 + 2 * n) s1 else s1
      let s3 := if d.isLast then dcNextChain n (modDc n (fun x => { x with chains := (x.chains + 1) % 2 ^ 32 }) s2)
        else modDc n (fun x => { x with next := some d.next }) s2
      releaseHeldOps s3

/-- The host address that the next request of a descriptor in progress goes to: that of its next element, or of the first byte not moved;
none where both sides lie in the frame store. -/
def hostSide (r : DescRun) : Option DmaAddr :=
  let d := r.desc
  let hosts := fun (l : List DmaAddr) => l.find? (fun a => !a.fsa)
  if d.op = .list then
    let list := if d.listDst then d.dst else d.src
    if r.elemLen = 0 then hosts [list.plus (16 * r.elem)]
    else
      let el : DmaAddr := { fsa := list.fsa, addr := r.elemAddr + r.elemMoved }
      let side := (if d.listDst then d.src else d.dst).plus r.moved
      hosts [el, side]
  else
    let v := nextRun d r.moved 1
    let dst := d.dst.plus (v.1 * d.dstStride + v.2.1)
    hosts (if d.op = .fill then [dst] else [d.src.plus (v.1 * d.srcStride + v.2.1), dst])

/-- A blocked DMA request has waited 50 ms (R582): ERR HOST. -/
def dmaHostError (n : Nat) (s : State) : State :=
  let x := dcAt s n
  if x.state ≠ .running ∨ hostReachable s then s
  else match x.run with
    | some r => match hostSide r with
      | none => s
      | some a => if r.finished then s else releaseHeldOps (dcHalt n 6 r.at_ (some a) s)
    | none => match x.next with
      | some a => if a.fsa then s else dcHalt n 6 a none s
      | none => s

/-- The first byte that an open burst of a channel has not moved, and whether the burst writes (R483). A descriptor that
has moved some of its bytes but not all has a burst open (DESIGN CHOICE, log entry 120). -/
def openBurst (x : DmaChan) : Option (Bool × Nat) :=
  match x.run with
  | none => none
  | some r =>
    let d := r.desc
    if r.finished ∨ r.moved = 0 ∨ (d.op = .list ∧ r.elemMoved = 0) then none
    else if d.op = .list then
      let el := r.elemAddr + r.elemMoved
      if d.dst.fsa then some (true, (if d.listDst then el else d.dst.addr + r.moved) / 64 * 64)
      else some (false, (if d.listDst then d.src.addr + r.moved else el) / 64 * 64)
    else
      let v := nextRun d r.moved 1
      if d.dst.fsa then some (true, (d.dst.addr + v.1 * d.dstStride + v.2.1) / 64 * 64)
      else some (false, (d.src.addr + v.1 * d.srcStride + v.2.1) / 64 * 64)

/-- The frames of a MAC on their way to host rings that were steered before place `upTo` (R208). -/
def framesToRing (s : State) (m upTo : Nat) : Nat :=
  (s.dma.chans.map (fun e => (e.2.inbox.filter (fun f => decide (f.mac = m) && !f.isFlow && decide (f.seq < upTo))).length)).sum

/-- A MAC_RULE_SET command whose earlier frames have all been delivered or dropped ends with their count (R208). -/
def rulesDrained (s : State) : State :=
  forEach (s.ctl.inflight.filterMap (fun c => match c.phase with
    | .waiting (.rulesDrain m u k) => some (m, u, k)
    | _ => none))
    (fun w s => if framesToRing s w.1 w.2.1 = 0 then finishWait (.rulesDrain w.1 w.2.1 w.2.2) .ok 0 (leBytes 4 w.2.2) s else s) s

/-- A channel enters RESETTING (R482, R483): its chains are discarded, its token's generation rises. -/
def dcStartReset (n : Nat) (newMode : Option Nat) (s : State) : State :=
  let x := dcAt s n
  let s1 := forEach (openBurst x).toList (fun b => cutBurst (.dma n, b)) s
  let was := decide (x.state = .running) || (decide (x.state = .resetting) && x.wasRunning)
  resetAgent clsDma n (rulesDrained (modDc n (fun x => { x with
    state := .resetting, queue := [], next := none, run := none, refs := [], bufs := [], inbox := [], wasRunning := was,
    newMode := match newMode with
      | some m => some m
      | none => x.newMode }) s1))

/-- DC_RESET (R482). -/
def dcReset (n : Nat) (s : State) : State := releaseHeldOps (dcStartReset n none s)

/-- DC_RESET_COMPLETE (R482): the references are taken back, and the channel is in its mode. -/
def dcResetComplete (n : Nat) (s : State) : State :=
  let x := dcAt s n
  if x.state ≠ .resetting then s
  else
    let m := x.newMode.getD x.mode
    let s1 := agentReclaim clsDma n s
    let s2 := modDc n (fun x => { x with
      mode := m, newMode := none, wasRunning := false, err := if x.wasRunning then 7 else x.err,
      state := if m = 0 then .off else if m = 1 then .idle else .ring,
      owner := if m = 0 then 0 else x.owner, prod := 0, cons := 0, dropAt := none }) s1
    finishWait (.dmaReset n) .ok 0 [] (dcError n s2)

/-- DMA_CHANNEL_SET (R463, R465, R482). -/
def cmdDmaChannelSet (c : Cmd) (s : State) : CmdRes :=
  let n := c.u8 0
  let m := c.u8 1
  let x := dcAt s n
  let ring := decide (m = 2)
  checks s [tooShort c 16, bad (decide (27 < n)), bad (decide (2 < m)), bad (ring && (decide (c.u16 2 < 2) || decide (4096 < c.u16 2))),
    bad (ring && (decide (c.u32 4 % 64 ≠ 0) || decide (c.u32 4 < 128) || decide (16448 < c.u32 4))),
    bad (ring && (decide (c.u64 8 % 64 ≠ 0) || decide (2 ^ 48 ≤ c.u64 8))),
    ownerIf ((decide (x.mode ≠ 0) || x.newMode.any (fun v => decide (v ≠ 0))) && decide (x.owner ≠ c.mb)) unstated]
    (let s1 := releaseHeldOps (dcStartReset n (some m) s)
     .wait (.dmaReset n) (modDc n (fun x => { x with
       owner := c.mb, entries := if ring then c.u16 2 else 0, entryBytes := if ring then c.u32 4 else 0, ringAddr := if ring then c.u64 8 else 0 }) s1))

/-- The channels of a mailbox are reset into MODE 0 (R465). -/
def dmaMailboxReset (mb : Nat) (s : State) : State :=
  releaseHeldOps (forUpTo 28 (fun n s =>
    let x := dcAt s n
    if x.owner = mb ∧ (x.mode ≠ 0 ∨ x.newMode.any (fun v => decide (v ≠ 0))) then dcStartReset n (some 0) s else s) s)

/-- A MAC frame goes to the ring of channel `n` (R207, R452, R481), or none where the channel is not in MODE 2. -/
def ringDeliver (n : Nat) (f : RingFrame) (s : State) : Option State :=
  if (dcAt s n).state = .ring then some (modDc n (fun x => { x with inbox := x.inbox ++ [f] }) s) else none

/-- A MAC frame is dropped at a ring (R481, R207): counted, with event 801 + 2n at most once a millisecond; the MAC
queue counts it too. -/
def ringDrop (n : Nat) (s : State) : State :=
  let x := dcAt s n
  let now := runTime s
  let s1 := rulesDrained (modDc n (fun x => { x with ringDrop := (x.ringDrop + 1) % 2 ^ 32, inbox := x.inbox.drop 1 }) s)
  match x.dropAt with
  | some t => if t + 1000000 * nsUnits ≤ now then dcError n (modDc n (fun x => { x with dropAt := some now }) s1) else s1
  | none => dcError n (modDc n (fun x => { x with dropAt := some now }) s1)

/-- The header of a ring entry (R481). -/
def ringHeader (f : RingFrame) (stored : Nat) : List Byte :=
  leBytes 2 stored ++ leBytes 1 f.mac ++ leBytes 1 (b2n f.trunc + 2 * b2n (decide (stored < f.bytes.length)) + 4 * b2n f.isFlow) ++
    leBytes 2 f.source ++ leBytes 10 0

/-- RING_FRAME_WRITE (R481): the oldest MAC frame is written to its entry; a full ring drops it, and the MAC queue it
came from counts the drop too (`queueDrop`). -/
def ringFrameWrite (n : Nat) (queueDrop : Nat → State → State) (s : State) : State :=
  let x := dcAt s n
  match x.inbox with
  | [] => s
  | f :: rest =>
    if x.state ≠ .ring then s
    else if (x.prod + 65536 - x.cons) % 65536 = x.entries then (if f.isFlow then ringDrop n s else queueDrop f.mac (ringDrop n s))
    else
      let b := f.bytes.take (x.entryBytes - 16)
      match hostWrite (x.ringAddr + x.prod % x.entries * x.entryBytes) (ringHeader f b.length ++ b) s with
      | none => s
      | some s1 => rulesDrained (modDc n (fun x => { x with prod := (x.prod + 1) % 65536, inbox := rest }) s1)

/-- A receive ring write that has waited 50 ms (R582): the frame is dropped. -/
def ringHostError (n : Nat) (s : State) : State := if hostReachable s ∨ (dcAt s n).inbox.isEmpty then s else ringDrop n s

/-- DC_RING_CONS_WRITE (R481): a value that would pass the producer is ignored. -/
def dcRingCons (n v : Nat) (s : State) : State :=
  let x := dcAt s n
  let c := v % 65536
  if (x.prod + 65536 - c) % 65536 ≤ (x.prod + 65536 - x.cons) % 65536 then modDc n (fun x => { x with cons := c }) s
  else modDc n (fun x => { x with dbErr := true }) s

end Sys2Proof.Machine
end

