-- ==== Sys2Proof/Machine/Dsi.lean ====
section
/-! DEFINITION. What the lines of a panel port are made of (R389 to R394): packets, their header ECC and checksum, sync and pixel
packets. The rules name the DSI standard for these; what is taken from it and not from the rules is log entry 197 (PRESUMED). -/
namespace Sys2Proof.Machine
open Sys2Proof

/-- The six ECC bits of a packet header of 24 bits (R394). -/
def headerEcc (w : Nat) : Nat :=
  let parity := fun (l : List Nat) => (l.filter (fun i => w.testBit i)).length % 2
  parity [0, 1, 2, 4, 5, 7, 10, 11, 13, 16, 20, 21, 22, 23] + 2 * parity [0, 1, 3, 4, 6, 8, 10, 12, 14, 17, 20, 21, 22, 23] +
    4 * parity [0, 2, 3, 5, 6, 9, 11, 12, 15, 18, 20, 21, 22] + 8 * parity [1, 2, 3, 7, 8, 9, 13, 14, 15, 19, 20, 21, 23] +
    16 * parity [4, 5, 6, 7, 8, 9, 16, 17, 18, 19, 20, 22, 23] + 32 * parity [10, 11, 12, 13, 14, 15, 16, 17, 18, 19, 21, 22, 23]

/-- The checksum of a long packet (R394): x¹⁶ + x¹² + x⁵ + 1 from all ones, least significant bit first. -/
def dsiChecksum (l : List Byte) : Nat :=
  (l.foldl (fun (r : BitVec 16) (b : Byte) => (List.range 8).foldl (fun c _ => if c.getLsbD 0 then (c >>> 1) ^^^ 0x8408#16 else c >>> 1) (r ^^^ b.setWidth 16))
    0xFFFF#16).toNat

/-- The bytes of a packet on virtual channel 0: header with ECC, and of a long packet its data and checksum (R389, R394). -/
def dsiBytes (p : DsiPacket) : List Byte :=
  let w := if p.long then p.data.length else leNat (p.data.take 2)
  let v := p.dt % 64 + 256 * (w % 65536)
  leBytes 3 v ++ leBytes 1 (headerEcc v) ++ (if p.long then p.data ++ leBytes 2 (dsiChecksum p.data) else [])

/-- A short packet without data. -/
def shortPacket (dt : Nat) : DsiPacket := { dt := dt, data := [0, 0] }
/-- V Sync Start, V Sync End, H Sync Start and H Sync End (R390), and End of Transmission (R389). -/
def vss : DsiPacket := shortPacket 0x01
def vse : DsiPacket := shortPacket 0x11
def hss : DsiPacket := shortPacket 0x21
def hse : DsiPacket := shortPacket 0x31
def eotPacket : DsiPacket := { dt := 0x08, data := [0x0F, 0x0F] }

/-- Blanking of `n` bytes as a blanking packet (R390), where a packet fits. -/
def fillPacket (n : Nat) : List DsiPacket := if n < 6 then [] else [{ dt := 0x19, long := true, data := List.replicate (n - 6) 0 }]

/-- Fields of bits as bytes, the first lowest. -/
def dsiPack (l : List (Nat × Nat)) : List Byte :=
  let r := l.foldl (fun (a : Nat × Nat) p => (a.1 + p.2 % 2 ^ p.1 * 2 ^ a.2, a.2 + p.1)) ((0, 0) : Nat × Nat)
  leBytes (ceilDiv r.2 8) r.1

/-- The pixel packet of a line (R389): R, G, B of 8 or 10 bits. -/
def pixelPacket (dt : Nat) (l : List (Nat × Nat × Nat)) : DsiPacket :=
  let n := if dt = 0x3E then 8 else 10
  let group := fun (l : List (Nat × Nat × Nat)) => dsiPack (l.flatMap (fun p => [(n, p.1), (n, p.2.1), (n, p.2.2)]))
  { dt := dt, long := true, data := (List.range (ceilDiv l.length 4)).flatMap (fun i => group ((l.drop (4 * i)).take 4)) }

/-- The bytes that a number of samples take in modes 0 and 1 (R390). -/
def sampleBytes (bpp n : Nat) : Nat := n * bpp / 8

/-- The bytes of packets on the link. -/
def packetBytes (l : List DsiPacket) : Nat := (l.map (fun p => if p.long then p.data.length + 6 else 4)).sum

/-- The sync packets that begin a head line, with the blanking between them in mode 0 (R390, R311). -/
def lineSync (c : PanelCfg) (t : Timing) (bpp m y : Nat) : List DsiPacket :=
  let start := if y = t.vact + t.vfp then vss else if c.mode = 0 ∧ y = t.vact + t.vfp + t.vsync then vse else hss
  if c.mode = 0 then start :: fillPacket (sampleBytes bpp (m * t.hsync) - 4) ++ [hse] else [start]

/-- A line of DSI video (R389 to R391): the sync packets, a DCS packet or the pixels, and blanking up to the length of the line in
modes 0 and 1, LP-11 in mode 2. `m` is 2 where the port carries both halves of a pair (PRESUMED, log entry 197). -/
def dsiLine (c : PanelCfg) (t : Timing) (bpp m y : Nat) (skew : Bool) (body : List DsiPacket) : DsiLine :=
  let eot := if c.eotp ∧ c.mode = 2 then [eotPacket] else []
  let sync := lineSync c t bpp m y
  if c.mode = 2 then { line := y, skew := skew, packets := sync ++ body ++ eot, lp := true }
  else
    let porch := if c.mode = 0 then sampleBytes bpp (m * t.hbp) else sampleBytes bpp (m * (t.hsync + t.hbp)) - 4
    let front := sync ++ fillPacket porch ++ body
    { line := y, skew := skew, packets := front ++ fillPacket (sampleBytes bpp (m * hTotal t) - packetBytes front) }

end Sys2Proof.Machine
end

