-- ==== Sys2Proof/Machine/Layers.lean ====
section
/-! DEFINITION. The commands that write the shadows of layers and heads: 0x0601 to 0x0604, 0x0610 to 0x0619, 0x0621 (R232
to R262, R294 to R309, R310 to R322, R347). -/
namespace Sys2Proof.Machine
open Sys2Proof

/-- The 5200 window owns G40 to G47 (R570). -/
def winOwns (s : State) (l : Nat) : Bool := (s.pic.win.enabled || s.pic.win.closing) && decide (56 ≤ l) && decide (l < 64)

/-- A native command names a window layer (R570). -/
def winLayer (s : State) (l : Nat) : Check := stateIf (winOwns s l) (0x5200 + l)

/-- A command names the upper head of a locked pair (R293, R307, R318, R359). -/
def upperHead (s : State) (h : Nat) : Check := stateIf (decide (h < 8) && isUpperOfPair s h) (0x2100 + h)
/-- The upper head of a locked pair is named where the chapter states no DETAIL (R293, R374) (DEDUCED, log entry 148). -/
def upperHeadOut (s : State) (h : Nat) : Check := stateIf (decide (h < 8) && isUpperOfPair s h) unstated

/-- Change a layer's shadow. -/
def modShadow (l : Nat) (f : LayerCfg → LayerCfg) (s : State) : State := modLay l (fun x => { x with shadow := f x.shadow }) s
/-- Change a head's shadow. -/
def modHdShadow (h : Nat) (f : HeadCfg → HeadCfg) (s : State) : State := modHd h (fun x => { x with shadow := f x.shadow }) s

/-- The layers assigned to a head in the shadow. -/
def shadowLayers (s : State) (h : Nat) : List Nat := (List.range 64).filter (fun l => decide ((layAt s l).sHead = some h))

/-- LAYER_ASSIGN (R232, R305). -/
def cmdLayerAssign (c : Cmd) (s : State) : CmdRes :=
  let l := c.u8 0
  let h := c.u8 1
  let old := (layAt s l).sHead
  let new : Option Nat := if h = 255 then none else some h
  checks s [tooShort c 4, rsv c 2 2, bad (decide (63 < l)), bad (decide (7 < h) && decide (h ≠ 255)), winLayer s l, upperHead s h,
    stateIf (decide (new.isSome) && decide (old ≠ new) && decide (16 ≤ (shadowLayers s h).length)) 1]
    (if old = new then done s
     else
       let s1 := match old with
         | some o => modHdShadow o (fun k => { k with z := k.z.filter (fun x => decide (x ≠ l)) }) s
         | none => s
       let s2 := match new with
         | some n => modHdShadow n (fun k => { k with z := k.z ++ [l] }) s1
         | none => s1
       done (modLay l (fun x => { x with sHead := new }) s2))

/-- The pool whose format a source has (R246): of its buffer, or the pool it names. -/
def sourcePool (s : State) (k : Source) : Option Nat :=
  if k.kind = 1 then poolOf s k.buffer else if (poolAt s k.pool).used then some k.pool else none

/-- A layer index is a video layer (R232). -/
def isVideo (l : Nat) : Bool := decide (l < 16)

/-- LAYER_SOURCE_SET (R246, and its order of checks). -/
def cmdLayerSourceSet (c : Cmd) (s : State) : CmdRes :=
  let l := c.u8 0
  let k := c.u8 1
  let src : Source := { kind := k, opaq := bit (c.u8 2) 0, buffer := c.u16 4, pool := c.u8 6, cx := c.u16 8, cy := c.u16 10,
                        cw := c.u16 12, ch := c.u16 14, orient := c.u8 16 }
  let p := sourcePool s src
  let q := poolAt s (p.getD 0)
  let fault := sourceFault (isVideo l) src q.format q.stride q.lines
  checks s ([tooShort c 20, rsvIf (decide (1 < c.u8 2)), rsv c 3 1, rsv c 7 1, rsv c 17 3, rsvIf (decide (k ≠ 0) && decide (15 < src.orient)),
     badD (decide (k = 1 ∨ k = 2) && decide (63 < l)) 0, bad (decide (63 < l)), bad (decide (2 < k))] ++
    (if k = 0 then [winLayer s l] else
     [badD (decide (k = 1) && decide (4095 < src.buffer)) 0, badD (decide (k = 2) && decide (63 < src.pool)) 0,
      badD (decide (src.cw = 0) || decide (16384 < src.cw) || decide (src.ch = 0) || decide (16384 < src.ch)) 0, winLayer s l,
      stateIf p.isNone 4, badD fault.isSome (fault.getD 0),
      stateIf (decide (k = 1) && decide ((bufAt s src.buffer).state = .free)) 5]))
    (done (modShadow l (fun x => { x with src := src }) s))

/-- LAYER_GEOMETRY_SET (R249). -/
def cmdLayerGeometrySet (c : Cmd) (s : State) : CmdRes :=
  let l := c.u8 0
  let g : Geometry := { dx := c.i16 2, dy := c.i16 4, dw := c.u16 6, dh := c.u16 8 }
  let off := fun (v : Int) => decide (v < -16384) || decide (16383 < v)
  let size := fun (n : Nat) => if isVideo l then decide (n = 0) || decide (8192 < n) else decide (n ≠ 0)
  checks s [tooShort c 12, rsv c 1 1, rsv c 10 2, bad (decide (63 < l)), bad (off g.dx || off g.dy), bad (size g.dw || size g.dh), winLayer s l]
    (done (modShadow l (fun x => { x with geo := g }) s))

/-- LAYER_PALETTE_SET (R239). -/
def cmdLayerPaletteSet (c : Cmd) (s : State) : CmdRes :=
  let l := c.u8 0
  let f := c.u8 1
  let n := c.u16 2
  checks s [tooShort c 4, bad (decide (63 < l) || isVideo l), bad (decide (n = 0) || decide (256 < n) || decide (256 < f + n)), tooShort c (4 + 4 * n),
    winLayer s l]
    (done (tableReloaded 3 l (modShadow l (fun x => { x with palette := (List.range n).foldl (fun t i => tabSet t (f + i) (c.u32 (4 + 4 * i))) x.palette }) s)))

/-- LAYER_ENVELOPE_SET (R258) (DEDUCED, log entry 71). -/
def cmdLayerEnvelopeSet (c : Cmd) (s : State) : CmdRes :=
  let l := c.u8 0
  let e : Envelope := if c.u8 1 = 0 then {} else
    { on := true, dxMin := c.i16 4, dxMax := c.i16 6, dyMin := c.i16 8, dyMax := c.i16 10, wMin := c.u16 12, wMax := c.u16 14,
      hMin := c.u16 16, hMax := c.u16 18 }
  let r := rotated (layAt s l).shadow.src.orient
  let w := if r then e.hMax else e.wMax
  let h := if r then e.wMax else e.hMax
  checks s ([tooShort c 24, rsv c 2 2, rsv c 20 4, bad (decide (63 < l)), bad (decide (1 < c.u8 1))] ++
    (if e.on then [bad (decide (e.dxMax < e.dxMin) || decide (e.dyMax < e.dyMin)),
      bad (decide (e.wMin = 0) || decide (16384 < e.wMin) || decide (e.wMax < e.wMin)),
      bad (decide (e.hMin = 0) || decide (16384 < e.hMin) || decide (e.hMax < e.hMin)),
      bad (!isVideo l && (decide (8192 < w) || decide (16384 < h)))] else []) ++ [winLayer s l])
    (done (modShadow l (fun x => { x with env := e }) s))

/-- The watermarks of R253 that a HACT gives by default. -/
def defaultMarks (hact : Nat) : Nat × Nat := (hact, 2 * (hact / 8))
/-- Watermarks fit a HACT (R253). -/
def marksOk (hact : Nat) (m : Nat × Nat) : Bool :=
  decide (m.2 < m.1) && decide (m.1 < 2 * hact) && decide (m.1 % 2 = 0) && decide (m.2 % 2 = 0)
/-- The watermarks in force on a HACT: those given, or the defaults where they do not fit (R253). -/
def marksFor (hact : Nat) (m : Nat × Nat) : Nat × Nat := if marksOk hact m then m else defaultMarks hact

/-- HEAD_FETCH_SET (R253). -/
def cmdHeadFetchSet (c : Cmd) (s : State) : CmdRes :=
  let h := c.u8 0
  let m := (c.u16 2, c.u16 4)
  let stored := if m.1 = 0 then (0, 0) else m
  let en := headEnabled s h
  let hact := if en then (timingOf s h).hact else (hdAt s (lowerOf s h)).shadow.timing.hact
  checks s [tooShort c 8, rsv c 1 1, rsv c 6 2, bad (decide (7 < h)), bad (decide (m.1 ≠ 0) && decide (hact ≠ 0) && !marksOk hact m),
    stateIf (decide (hact = 0) && decide (m.1 ≠ 0)) unstated]
    (if en then .wait (.fetchMarks h) (modHd h (fun x => { x with res.pendingMarks := some stored }) s)
     else done (modHd h (fun x => { x with res.storedMarks := some stored }) s))

/-- LAYER_BLEND_SET (R300, R301). -/
def cmdLayerBlendSet (c : Cmd) (s : State) : CmdRes :=
  let l := c.u8 0
  let b : Blend := { mode := c.u8 1, premult := bit (c.u8 2) 0, lw := c.u16 4 }
  checks s [tooShort c 8, rsvIf (decide (1 < c.u8 2)), rsv c 3 1, rsv c 6 2, bad (decide (63 < l)), bad (decide (2 < b.mode)),
    bad (decide (b.mode = 2) && b.premult), winLayer s l]
    (done (modShadow l (fun x => { x with blend := b }) s))

/-- The DETAIL of the first entry of a z-order that fails (R305): 3 for a layer not assigned, 2 for a repeat. -/
def zorderEntry (assigned : List Nat) : List Nat → List Nat → Option Nat
  | _, [] => none
  | before, l :: rest =>
    if !assigned.contains l then some 3
    else if before.contains l then some 2
    else zorderEntry assigned (before ++ [l]) rest

/-- The DETAIL of a z-order that is refused (R305): entry by entry, then 1 for a missing layer. -/
def zorderFault (assigned l : List Nat) : Option Nat :=
  match zorderEntry assigned [] l with
  | some d => some d
  | none => if l.length < assigned.length then some 1 else none

/-- HEAD_ZORDER_SET (R305). -/
def cmdHeadZorderSet (c : Cmd) (s : State) : CmdRes :=
  let h := c.u8 0
  let n := c.u8 1
  let l := (List.range n).map (fun i => c.u8 (4 + i))
  let fault := zorderFault (shadowLayers s h) l
  checks s [tooShort c 4, rsv c 2 2, bad (decide (7 < h)), bad (decide (16 < n)), tooShort c (4 + n),
    badD fault.isSome (fault.getD 0), stateIf (l.any (winOwns s)) (0x5200 + (l.find? (winOwns s)).getD 0), upperHead s h]
    (done (modHdShadow h (fun k => { k with z := l }) s))

/-- A word holds a C24 value (R294). -/
def c24Ok (v : Nat) : Bool := decide (-8388608 ≤ signedOf 32 v) && decide (signedOf 32 v ≤ 8388607)

/-- HEAD_BACKGROUND_SET (R298). -/
def cmdHeadBackgroundSet (c : Cmd) (s : State) : CmdRes :=
  let h := c.u8 0
  checks s [tooShort c 16, rsv c 1 3, bad (decide (7 < h)), bad ([4, 8, 12].any (fun o => !c24Ok (c.u32 o))), upperHead s h]
    (done (modHdShadow h (fun k => { k with bg := [c.i32 4, c.i32 8, c.i32 12] }) s))

/-- The geometry of tile `k` of a contact sheet (R308). -/
def tileGeometry (x0 y0 tw th gutter cols fit k : Nat) (src : Source) : Geometry :=
  let tx := x0 + k % cols * (tw + gutter)
  let ty := y0 + k / cols * (th + gutter)
  let w := orientW src
  let h := orientH src
  if fit = 0 then { dx := tx, dy := ty, dw := tw, dh := th }
  else if h * tw ≤ w * th then
    let dh := max 1 ((2 * tw * h + w) / (2 * w))
    { dx := tx, dy := (ty : Int) + ((th : Int) - dh) / 2, dw := tw, dh := dh }
  else
    let dw := max 1 ((2 * th * w + h) / (2 * h))
    { dx := (tx : Int) + ((tw : Int) - dw) / 2, dy := ty, dw := dw, dh := th }

/-- CONTACT_SHEET_SET (R307, R308): the area is that of the panel where the head is half of a locked pair (R318). -/
def cmdContactSheetSet (c : Cmd) (s : State) : CmdRes :=
  let h := c.u8 0
  let cols := c.u8 1
  let rows := c.u8 2
  let n := c.u8 3
  let x0 := c.u16 4
  let y0 := c.u16 6
  let aw := c.u16 8
  let ah := c.u16 10
  let gut := c.u16 12
  let fit := c.u8 14
  let t := (hdAt s (lowerOf s h)).shadow.timing
  let width := if pairLocked s (lowerOf s h) then 2 * t.hact else t.hact
  let tw := (aw - (cols - 1) * gut) / cols
  let th := (ah - (rows - 1) * gut) / rows
  let tile := fun k => c.u8 (16 + k)
  let named := (List.range n).filter (fun k => decide (tile k ≠ 255))
  let stray := named.find? (fun k => !isVideo (tile k) || decide ((layAt s (tile k)).sHead ≠ some h))
  let geo := fun k => tileGeometry x0 y0 tw th gut cols fit k (layAt s (tile k)).shadow.src
  checks s [tooShort c 16, rsv c 15 1, bad (decide (7 < h)), bad (decide (cols = 0) || decide (16 < cols) || decide (rows = 0) || decide (16 < rows)),
    bad (decide (n = 0) || decide (16 < n)), bad (decide (aw = 0) || decide (8192 < aw) || decide (ah = 0) || decide (8192 < ah)),
    bad (decide (1024 < gut)), bad (decide (1 < fit)), tooShort c (16 + n),
    badD (decide (width < x0 + aw) || decide (t.vact < y0 + ah)) 1, badD (decide (tw = 0) || decide (th = 0)) 2,
    badD (decide (cols * rows < n) || decide (16 < cols * rows)) 3, upperHead s h, stateIf stray.isSome (0x10 + stray.getD 0)]
    (let word := fun (v : Int) => leBytes 2 (unsignedOf 16 v)
     let res := (List.range 6).flatMap (fun k =>
       if k < n ∧ tile k ≠ 255 then word (geo k).dx ++ word (geo k).dy ++ word ((geo k).dw : Int) ++ word ((geo k).dh : Int)
       else List.replicate 8 0)
     doneWith res (forEach named (fun k s => modShadow (tile k) (fun x => { x with geo := geo k }) s) s))

/-- HEAD_TIMING_SET (R310 to R315): its limits are checked as a commit is armed (DEDUCED, log entry 151). -/
def cmdHeadTimingSet (c : Cmd) (s : State) : CmdRes :=
  let h := c.u8 0
  let f := c.u8 1
  let t : Timing := { hact := c.u16 2, hfp := c.u16 4, hsync := c.u16 6, hbp := c.u16 8, vact := c.u16 10, vfp := c.u16 12,
                      vsync := c.u16 14, vbp := c.u16 16, hpol := bit f 0, vpol := bit f 1, align := bit f 2, p := c.u16 18, q := c.u16 20,
                      phase := c.i32 24 }
  checks s [tooShort c 28, rsvIf (decide (7 < f)), rsv c 22 2, bad (decide (7 < h)), upperHead s h]
    (done (modHdShadow h (fun k => { k with timing := t }) s))

/-- The upper synthesizer of a pair takes the words, the seed and the settings of the lower (R98). -/
def pairSyns (k : Nat) (s : State) : State :=
  let y := synAt s (2 * k)
  { s with time.syns := tabMod s.time.syns (2 * k + 1) (fun z => { z with
      words := y.words, shadow := y.shadow, cfg := y.cfg, cfgShadow := y.cfgShadow, lfsr := y.lfsr, seedAt := y.seedAt }) }

/-- HEAD_PAIR_SET (R318). -/
def cmdHeadPairSet (c : Cmd) (s : State) : CmdRes :=
  let k := c.u8 0
  let lock := decide (c.u8 1 = 1)
  let busy := fun h => headEnabled s h || (hdAt s h).enabling
  checks s [tooShort c 4, rsv c 2 2, bad (decide (3 < k)), bad (decide (1 < c.u8 1)),
    stateIf ((s.pic.win.enabled || s.pic.win.closing) && decide (k = 0)) 0x5400, stateIf (busy (2 * k) || busy (2 * k + 1)) unstated]
    (done (modHd (2 * k) (fun x => { x with pair := lock }) (if lock then pairSyns k s else s)))

/-- HEAD_WRITEBACK_SET (R331). -/
def cmdHeadWritebackSet (c : Cmd) (s : State) : CmdRes :=
  let h := c.u8 0
  let p := c.u8 2
  checks s [tooShort c 4, rsv c 3 1, bad (decide (7 < h)), bad (decide (1 < c.u8 1)), bad (decide (63 < p) && decide (p ≠ 255)), upperHead s h]
    (done (modHdShadow h (fun k => { k with wbMode := c.u8 1, wbPool := if p = 255 then none else some p }) s))

/-- LAYER_CADENCE_SET (R319, R321). -/
def cmdLayerCadenceSet (c : Cmd) (s : State) : CmdRes :=
  let l := c.u8 0
  checks s [tooShort c 8, rsvIf (decide (1 < c.u8 1)), rsv c 2 2, bad (decide (63 < l)), bad (decide (1000000000 < c.u32 4)), winLayer s l]
    (done (modShadow l (fun x => { x with opened := bit (c.u8 1) 0, latency := c.u32 4 }) s))

/-- LAYER_SHED_SET (R347). -/
def cmdLayerShedSet (c : Cmd) (s : State) : CmdRes :=
  let l := c.u8 0
  checks s [tooShort c 4, rsv c 2 2, bad (decide (63 < l)), bad (decide (7 < c.u8 1)), winLayer s l]
    (done (modShadow l (fun x => { x with tier := c.u8 1 }) s))

end Sys2Proof.Machine
end

