-- ==== Sys2Proof/Machine/Lut.lean ====
section
/-! DEFINITION. The commands of the scaler, the colour path and the 3D LUT units: 0x0701 to 0x070B (R263 to R293). -/
namespace Sys2Proof.Machine
open Sys2Proof

/-- The firmware's token (R166). -/
def fwToken (s : State) : Nat := agentToken s clsFirmware 0

/-- The firmware reads `n` bytes of a PUBLISHED buffer under its own reference (R287): none where the take is refused; with
whether a line was poisoned (R145). The reference is released with the command's end, in the same slice. -/
def tableBytes (b off n : Nat) (s : State) : Option (List Byte × Bool) × State :=
  match takeRef false b (fwToken s) s with
  | (false, s1) => (none, s1)
  | (true, s1) =>
    let r := fsRead (bufBase s1 b + off) n s1
    (some (r.1, r.2.1), (ledgerRelease b (fwToken s) r.2.2).2)

/-- A frame-store read by the firmware returned poison (R145, R600). -/
def poisonedRead (s : State) : CmdRes := .final .internal 0x80000001 [] s

/-- A table lies outside its buffer, or does not begin at a multiple of 64 (R287) (DEDUCED, log entry 70). -/
def tableOutside (s : State) (b off n : Nat) : Bool :=
  decide (off % 64 ≠ 0) || (match poolOf s b with
    | some p => decide ((poolAt s p).size < off + n)
    | none => false)

/-- The signed 16-bit words of a table. -/
def words16 : List Byte → List Int
  | a :: b :: t => signedOf 16 (leNat [a, b]) :: words16 t
  | _ => []
/-- The signed 32-bit words of a table. -/
def words32 : List Byte → List Int
  | a :: b :: c :: d :: t => signedOf 32 (leNat [a, b, c, d]) :: words32 t
  | _ => []

/-- The taps of one phase are a set (R276). -/
def phaseOk (l : List Int) : Bool := l.all (fun t => decide (-8192 ≤ t) && decide (t ≤ 8191)) && decide (l.sum = 4096)

/-- The DETAIL of the first phase that is no set (R276): CH, then CV with 0x100 added. -/
def coefFault (t : List Int) : Option Nat :=
  match (List.range 64).find? (fun p => !phaseOk ((t.drop (8 * p)).take 8)) with
  | some p => some (p + 1)
  | none => ((List.range 64).find? (fun p => !phaseOk ((t.drop (512 + 6 * p)).take 6))).map (fun p => p + 0x101)

/-- A coefficient set is named by some layer's shadow or committed configuration. -/
def coefNamed (s : State) (n : Nat) : Bool :=
  anyUpTo 16 (fun l => let x := layAt s l
    decide (x.shadow.video.hset = n) || decide (x.shadow.video.vset = n) || decide (x.cfg.video.hset = n) || decide (x.cfg.video.vset = n))

/-- SCALER_COEF_LOAD (R276, R287). -/
def cmdScalerCoefLoad (c : Cmd) (s : State) : CmdRes :=
  let n := c.u8 0
  let b := c.u16 4
  checks s [tooShort c 12, rsv c 1 3, rsv c 6 2, badD (decide (n = 0) || decide (15 < n)) 0, badD (decide (4095 < b)) 0,
    badD (tableOutside s b (c.u32 8) 1792) 0, stateIf (coefNamed s n) 1]
    (match tableBytes b (c.u32 8) 1792 s with
     | (none, s1) => .final .rejState 2 [] s1
     | (some (_, true), s1) => poisonedRead s1
     | (some (l, false), s1) =>
       match coefFault (words16 l) with
       | some d => .final .rejRange d [] s1
       | none => done (tableReloaded 0 n { s1 with pic.coefs := tabSet s1.pic.coefs n { loaded := true, taps := words16 l } }))

/-- LAYER_SCALER_SET (R272, R276). -/
def cmdLayerScalerSet (c : Cmd) (s : State) : CmdRes :=
  let l := c.u8 0
  let ph := bits (c.u8 3) 0 3
  let pv := bits (c.u8 3) 3 2
  checks s [tooShort c 4, rsvIf (decide (31 < c.u8 3)), bad (!isVideo l), bad (decide (15 < c.u8 1) || decide (15 < c.u8 2)),
    bad (!([0, 1, 2, 4].contains ph)), bad (decide (pv = 3))]
    (done (modShadow l (fun x => { x with video.hset := c.u8 1, video.vset := c.u8 2, video.predecH := ph, video.predecV := pv }) s))

/-- LAYER_DECODE_SET (R267, R269, R270, R279). -/
def cmdLayerDecodeSet (c : Cmd) (s : State) : CmdRes :=
  let l := c.u8 0
  checks s [tooShort c 8, bad (!isVideo l), bad (decide (1 < c.u8 1)), bad (decide (2 < c.u8 2)), bad (decide (1 < c.u8 3))]
    (done (modShadow l (fun x => { x with
      video.ycc := c.u8 1, video.chroma := c.u8 2, video.lin := decide (c.u8 3 = 1), video.rawBlack := c.u16 4, video.rawWhite := some (c.u16 6) }) s))

/-- MATRIX_SET (R281). -/
def cmdMatrixSet (c : Cmd) (s : State) : CmdRes :=
  let t := c.u8 0
  let i := c.u8 1
  let m : Matrix := { m := (List.range 9).map (fun k => c.i32 (4 + 4 * k)), off := (List.range 3).map (fun r => c.i32 (40 + 4 * r)) }
  checks s [tooShort c 52, rsv c 2 2, bad (decide (1 < t)), bad (if t = 0 then decide (15 < i) else decide (7 < i)),
    bad (m.m.any (fun v => decide (v < -524288) || decide (524287 < v))), bad (m.off.any (fun v => decide (v < -8388608) || decide (8388607 < v))),
    upperHeadOut s (if t = 1 then i else 8)]
    (done (if t = 0 then modShadow i (fun x => { x with matrix := m }) s else modHdShadow i (fun k => { k with matrix := m }) s))

/-- Write a 1D table's shadow, or the graphic curve itself (R282, R284). -/
def setLut1d (target index : Nat) (t : Lut) (s : State) : State :=
  match target with
  | 0 => tableReloaded 1 index (modShadow index (fun x => { x with lin := t }) s)
  | 1 => tableReloaded 2 index (modHdShadow index (fun k => { k with enc := t }) s)
  | _ => tableReloaded 4 0 { s with pic.graphicCurve := t }

/-- A 1D table, shadow or in force. -/
def getLut1d (target index : Nat) (inForce : Bool) (s : State) : Lut :=
  match target with
  | 0 => if inForce then (layAt s index).cfg.lin else (layAt s index).shadow.lin
  | 1 => if inForce then (hdAt s (lowerOf s index)).cfg.enc else (hdAt s index).shadow.enc
  | _ => s.pic.graphicCurve

/-- INDEX of a 1D table command is out of range. -/
def lutIndexBad (target index : Nat) : Bool :=
  match target with
  | 0 => decide (15 < index)
  | 1 => decide (7 < index)
  | _ => decide (index ≠ 0)

/-- An assigned graphic layer uses the graphic curve (R282). -/
def curveInUse (s : State) : Bool :=
  anyUpTo 64 (fun l => let x := layAt s l
    !isVideo l && ((x.head.isSome && x.cfg.curve) || (x.sHead.isSome && x.shadow.curve)))

/-- LUT_1D_LOAD (R282, R284, R287). -/
def cmdLut1dLoad (c : Cmd) (s : State) : CmdRes :=
  let t := c.u8 0
  let i := c.u8 1
  let b := c.u16 2
  let n := if t = 2 then 256 else 4096
  checks s [tooShort c 8, bad (decide (2 < t)), bad (lutIndexBad t i), bad (decide (4095 < b)), bad (tableOutside s b (c.u32 4) (4 * n)),
    upperHeadOut s (if t = 1 then i else 8), stateIf (decide (t = 2) && curveInUse s) unstated]
    (match tableBytes b (c.u32 4) (4 * n) s with
     | (none, s1) => .final .rejState 2 [] s1
     | (some (_, true), s1) => poisonedRead s1
     | (some (l, false), s1) =>
       let w := words32 l
       match (List.range n).find? (fun k => decide (w.getD k 0 < -8388608) || decide (8388607 < w.getD k 0)) with
       | some k => .final .rejRange k [] s1
       | none => done (setLut1d t i (.loaded w) s1))

/-- LUT_1D_BUILTIN (R280). -/
def cmdLut1dBuiltin (c : Cmd) (s : State) : CmdRes :=
  let t := c.u8 0
  let i := c.u8 1
  let v := c.u8 2
  let n := c.u16 4
  checks s [tooShort c 8, rsv c 3 1, rsv c 6 2, bad (decide (1 < t)), bad (lutIndexBad t i), bad (decide (v = 0) || decide (3 < v)),
    bad (decide (v = 1) && decide (n ≠ 0) && (decide (n < 100) || decide (10000 < n))), upperHeadOut s (if t = 1 then i else 8)]
    (done (setLut1d t i (.builtin v (if v = 1 ∧ n ≠ 0 then n else 203)) s))

/-- LUT_1D_READ: the table is written to host memory. -/
def cmdLut1dRead (c : Cmd) (s : State) : CmdRes :=
  let t := c.u8 0
  let i := c.u8 1
  let a := c.u64 4
  checks s [tooShort c 12, rsv c 3 1, bad (decide (2 < t)), bad (lutIndexBad t i), bad (decide (1 < c.u8 2)), bad (decide (a % 4 ≠ 0)),
    upperHeadOut s (if t = 1 then i else 8)]
    (match hostWrite a ((lutEntries t (getLut1d t i (decide (c.u8 2 = 1)) s)).flatMap (fun v => leBytes 4 (unsignedOf 32 v))) s with
     | some s1 => done s1
     | none => .final .timeout unstated [] s)

/-- GRAPHIC_COLOUR_SET (R282). -/
def cmdGraphicColourSet (c : Cmd) (s : State) : CmdRes :=
  let l := c.u8 0
  checks s [tooShort c 8, rsv c 2 2, bad (decide (63 < l) || isVideo l), bad (decide (1 < c.u8 1)),
    bad (decide (c.i32 4 < -524288) || decide (524287 < c.i32 4)), winLayer s l]
    (done (modShadow l (fun x => { x with curve := decide (c.u8 1 = 1), gain := c.i32 4 }) s))

/-- HEAD_OUTPUT_SET (R283 to R292). -/
def cmdHeadOutputSet (c : Cmd) (s : State) : CmdRes :=
  let h := c.u8 0
  let f := c.u8 1
  let o : OutputCfg := { neg := bit f 0, lut3d := bit f 1, bank := bits f 2 1, full := bit f 3, clip := bit f 4, ycc := bits f 5 1,
                         form := c.u8 2, bits := c.u8 3, dither := c.u8 4, seed := c.un 8 3 }
  checks s [tooShort c 12, rsvIf (decide (63 < f)), rsv c 5 3, rsv c 11 1, bad (decide (7 < h)), bad (decide (2 < o.form)),
    bad (!([8, 10, 12, 16].contains o.bits)), bad (decide (2 < o.dither)), bad (decide (o.dither = 2) && decide (o.seed = 0)), upperHeadOut s h]
    (done (modHdShadow h (fun k => { k with out := o }) s))

/-- The 3D LUT unit that serves a head: the lowest one assigned to it (R285) (DESIGN CHOICE, log entry 67). -/
def lutOfHead (s : State) (h : Nat) : Option Nat :=
  (List.range 4).find? (fun u => decide ((lutAt s u).mode ≠ 0) && decide ((lutAt s u).head = lowerOf s h))

/-- A committed or shadow configuration enables a unit (R285, R288). -/
def lutEnabled (s : State) (u : Nat) : Bool :=
  let x := lutAt s u
  decide (x.mode ≠ 0) && decide (lutOfHead s x.head = some u) && ((hdAt s x.head).cfg.out.lut3d || (hdAt s x.head).shadow.out.lut3d)

/-- The burst that the loader of a unit has open: a load stands in part (R483) (DESIGN CHOICE, log entry 120). -/
def lutBursts (s : State) (u : Nat) : List (Agent × Bool × Nat) :=
  s.ctl.inflight.filterMap (fun c => match c.phase with
    | .stepping (.lut3d v _ b off _ d) => if v = u ∧ (lutAt s u).loading.isSome then some (.lutLoad u, false, bufBase s b + off + 6 * d) else none
    | _ => none)

/-- A unit after its release: unassigned, no bank valid (R285), a load of it cut (R483). -/
def releaseLut (u : Nat) (s : State) : State := modLut u (fun x => ({ swaps := x.swaps } : LutUnit)) (forEach (lutBursts s u) cutBurst s)

/-- LUT_3D_ASSIGN (R285, R511, R515). -/
def cmdLut3dAssign (c : Cmd) (s : State) : CmdRes :=
  let u := c.u8 0
  let h := c.u8 1
  let m := c.u8 2 + 1
  let x := lutAt s u
  let g : Grant := { doms := [(23 + u, 600, 800)] }
  checks s [tooShort c 4, rsv c 3 1, bad (decide (3 < u)), bad (decide (7 < h) && decide (h ≠ 255)), bad (decide (2 < m)), upperHeadOut s h,
    stateIf (decide (h ≠ 255) && decide (x.mode ≠ 0) && (decide (x.head ≠ h) || decide (x.mode ≠ m))) unstated,
    stateIf (decide (h = 255) && lutEnabled s u) unstated, busyIf x.loading.isSome 0]
    (if h = 255 then done (if x.mode = 0 then s else queueOff (23 + u) (releaseLut u s))
     else if x.mode = m ∧ (domAt s (23 + u)).level = .on then done s
     else askPower g s (fun s1 =>
       let s2 := if x.mode = m then s1 else modLut u (fun y => ({ mode := m, head := h, swaps := y.swaps } : LutUnit)) s1
       match lastSwitch s g with
       | some d => .wait (.grant d) s2
       | none => done s2))

/-- The size of a unit's table: 65 or 33 nodes an axis. -/
def lutSize (x : LutUnit) : Nat := if x.mode = 1 then 65 else 33
/-- A bank of a unit. -/
def lutBank (x : LutUnit) (k : Nat) : List Nat := if k = 0 then x.bank0 else x.bank1
/-- Whether a bank of a unit is VALID. -/
def lutValid (x : LutUnit) (k : Nat) : Bool := if k = 0 then x.valid0 else x.valid1
/-- Change a bank of a unit and its VALID. -/
def setBank (k : Nat) (l : List Nat) (v : Bool) (x : LutUnit) : LutUnit :=
  if k = 0 then { x with bank0 := l, valid0 := v } else { x with bank1 := l, valid1 := v }

/-- The nodes of a run of 6-byte records (R287). -/
def nodesOf : List Byte → List Nat
  | a :: b :: c :: d :: e :: f :: t => leNat [a, b, c, d, e, f] :: nodesOf t
  | _ => []

/-- One step of a LUT load (R288): at most 5,445 nodes; the last makes the bank VALID and ends the load, and a poisoned read
ends it with VALID clear (R145, R601). The flag tells of the poisoned read. -/
def stepLut3d (u k b off total d : Nat) (s : State) : Nat × Bool × State :=
  let n := min 5445 (total - d)
  let r := fsRead (bufBase s b + off + 6 * d) (6 * n) s
  let fin := decide (total ≤ d + n) || r.2.1
  let s1 := modLut u (fun x => { setBank k (lutBank x k ++ nodesOf r.1) (fin && !r.2.1) x with loading := if fin then none else some k }) r.2.2
  (d + n, r.2.1, if fin then (ledgerRelease b (fwToken s1) (tableReloaded 5 u s1)).2 else s1)

/-- How a LUT load ends after a step, where it does. -/
def lut3dEnd (total : Nat) (r : Nat × Bool × State) : Option (Status × Nat × List Byte) :=
  if r.2.1 then some (.internal, 0x80000001, []) else if total ≤ r.1 then some (.ok, 0, []) else none

/-- LUT_3D_LOAD (R287, R288): a reference refused decides before a bank that is held (R46, R602) (DEDUCED, log entry 69). -/
def cmdLut3dLoad (c : Cmd) (s : State) : CmdRes :=
  let u := c.u8 0
  let k := c.u8 1
  let b := c.u16 2
  let off := c.u32 4
  let x := lutAt s u
  let n := lutSize x
  let total := n * n * n
  checks s [tooShort c 8, bad (decide (3 < u)), bad (decide (1 < k) || (decide (x.mode = 1) && decide (k ≠ 0))), bad (decide (4095 < b)),
    bad (tableOutside s b off (6 * total)), stateIf (decide (x.mode = 0)) unstated,
    stateIf (if x.mode = 1 then lutEnabled s u else decide (x.active = k) || decide (x.pending = k)) unstated]
    (match takeRef false b (fwToken s) s with
     | (false, s1) => .final .rejState 2 [] s1
     | (true, s1) =>
       if x.loading = some k ∨ (x.mode = 1 ∧ x.loading.isSome) then .final .busy 0 [] s else
       let s2 := modLut u (fun x => { setBank k [] false x with loading := some k }) s1
       let r := stepLut3d u k b off total 0 s2
       .accept (.lut3d u k b off total r.1) (lut3dEnd total r) r.2.2)

end Sys2Proof.Machine
end

