-- ==== Sys2Proof/Machine/Admission.lean ====
section
/-! DEFINITION. Admission and shedding: commands 0x0620 and 0x0622 to 0x0624, and the evaluations (R339 to R357). -/
namespace Sys2Proof.Machine
open Sys2Proof

/-- The layers in force on a head with their committed settings. -/
def layersOn (s : State) (h : Nat) : List (Nat × LayerCfg) :=
  ((List.range 64).filter (fun l => decide ((layAt s l).head = some h))).map (fun l => (l, (layAt s l).cfg))

/-- The layers that a landed commit has put on a head and that wait for its next blanking to join it (R234). -/
def layersJoining (s : State) (h : Nat) : List (Nat × LayerCfg) :=
  (List.range 64).filterMap (fun l => match (layAt s l).join with
    | some (j, k, _) => if j = h then some (l, k) else none
    | none => none)

/-- A head as it stands, with the layers that are to join it (R344); the upper head of a locked pair is counted with the lower. -/
def viewOf (s : State) (h : Nat) : HeadView :=
  { on := headEnabled s h && !isUpperOfPair s h, pair := pairLocked s h, cfg := (hdAt s h).cfg, lays := layersOn s h ++ layersJoining s h }

/-- The 64-byte lines that a run of bits touches (R340). -/
def span64 (bits x0 : Nat) : Nat := (x0 + bits - 1) / 512 - x0 / 512 + 1
/-- The same at the worst start bit (R340). -/
def worst64 (bits : Nat) : Nat := (bits + 510) / 512 + 1

/-- The crop size that counts: the committed one, or the envelope's maximum (R340). -/
def countedCrop (k : LayerCfg) : Nat × Nat := if k.env.on then (k.env.wMax, k.env.hMax) else (k.src.cw, k.src.ch)
/-- W′ and H′ of the counted crop. -/
def countedSize (k : LayerCfg) : Nat × Nat :=
  let c := countedCrop k
  if rotated k.src.orient then (c.2, c.1) else c

/-- lb, the bytes read per oriented line (R340). -/
def lineBytesRead (k : LayerCfg) (fmt : Nat) : Nat :=
  match layoutOf (fmtLayout fmt) with
  | none => 0
  | some l =>
    let c := countedCrop k
    let run := fun (bitsPer : Nat) => if k.env.on then worst64 (c.1 * bitsPer) else span64 (c.1 * bitsPer) (k.src.cx * bitsPer)
    if rotated k.src.orient then
      (if k.env.on then (c.2 + 62) / 64 + 1 else (k.src.cy % 64 + c.2 - 1) / 64 + 1) * (8 * l.b)
    else if famPlanar l.fam then
      let nc := if l.fam = .pl422 then l.n / 2 else l.n
      64 * (run l.n + 2 * run nc)
    else 64 * run l.b

/-- nl, the oriented lines read per window (R340). -/
def linesRead (video : Bool) (k : LayerCfg) : Nat :=
  let z := countedSize k
  let f := predec k.video z.1 z.2 k.geo.dw k.geo.dh
  let step := scalerStep (ceilDiv z.2 f.2) k.geo.dh
  let n := if !video ∨ (f.2 = 1 ∧ k.geo.dh = z.2) then 16 else f.2 * (ceilDiv (16 * step) 1048576 + 6)
  min (if rotated k.src.orient then n + 4 else n) z.2

/-- The destination rows of a layer for admission (R340): first line and one past the last. -/
def countedRows (video : Bool) (k : LayerCfg) : Int × Int :=
  let h : Nat := if video then k.geo.dh else (countedSize k).2
  if k.env.on then (k.env.dyMin, k.env.dyMax + h) else (k.geo.dy, k.geo.dy + h)

/-- The destination columns of a layer for admission. -/
def countedCols (video : Bool) (k : LayerCfg) : Int × Int :=
  let w : Nat := if video then k.geo.dw else (countedSize k).1
  if k.env.on then (k.env.dxMin, k.env.dxMax + w) else (k.geo.dx, k.geo.dx + w)

/-- The format of a layer's source: of its pool. -/
def sourceFmt (s : State) (k : LayerCfg) : Nat :=
  match sourcePool s k.src with
  | some p => (poolAt s p).format
  | none => 0

/-- Bytes of one window, of the layers with destination columns in [c0, c1) (R341). -/
def windowFetch (s : State) (v : HeadView) (c0 c1 : Int) (w : Nat) : Nat :=
  let lo : Int := (16 * w : Nat)
  let hi : Int := (min (16 * w + 16) v.cfg.timing.vact : Nat)
  (v.lays.map (fun (x : Nat × LayerCfg) =>
    let k := x.2
    let r := countedRows (isVideo x.1) k
    let c := countedCols (isVideo x.1) k
    if k.src.kind ≠ 0 ∧ r.1 < hi ∧ lo < r.2 ∧ c.1 < c1 ∧ c0 < c.2 then lineBytesRead k (sourceFmt s k) * linesRead (isVideo x.1) k else 0)).sum

/-- The peak of the window sums, and the lowest window that has it (R341). -/
def peakOf (s : State) (v : HeadView) (c0 c1 : Int) : Nat × Nat :=
  (List.range (ceilDiv v.cfg.timing.vact 16)).foldl (fun (m : Nat × Nat) w =>
    let f := windowFetch s v c0 c1 w
    if m.1 < f then (f, w) else m) ((0, 0) : Nat × Nat)

/-- Megabytes a second of `bytes` per line of a head, rounded up, over a divisor (R341). -/
def mbps (s : State) (t : Timing) (bytes div : Nat) : Nat :=
  let f := frameRate s t
  if f.2 = 0 then 0 else ceilDiv (bytes * vTotal t * f.1) (div * 1000000 * f.2)

/-- The fetch demand of each half, with its peak window (R341): one half, or two on a locked pair. -/
def halfDemands (s : State) (v : HeadView) : List (Nat × Nat) :=
  let n : Int := v.cfg.timing.hact
  let half := fun (a b : Int) => let p := peakOf s v a b
                                 (mbps s v.cfg.timing p.1 16, p.2)
  if v.pair then [half 0 n, half n (2 * n)]
  else [half (-1000000) 1000000]

/-- The byte length of a head's write-back line, counted as a fetch is (R341). -/
def wbLineBytes (s : State) (v : HeadView) : Nat :=
  match v.cfg.wbPool with
  | none => 0
  | some p =>
    let fmt := (poolAt s p).format
    let w := if v.pair then 2 * v.cfg.timing.hact else v.cfg.timing.hact
    lineBytesRead { src := { cw := w, ch := 1 } } fmt

/-- The demand of a head (R341, R350): in full, or with tiers shed, or frozen. -/
def headDemand (s : State) (v : HeadView) (tiers : List Nat) (frozen : Bool) : Nat :=
  if !v.on then 0
  else if frozen then mbps s v.cfg.timing (wbLineBytes s v) 1
  else
    let w := { v with lays := v.lays.filter (fun x => !tiers.contains x.2.tier) }
    ((halfDemands s w).map (·.1)).sum + (if v.cfg.wbMode = 1 then mbps s v.cfg.timing (wbLineBytes s v) 1 else 0)

/-- The sum of the reservations (R346). -/
def reservations (s : State) : Nat := s.pic.shed.resIngest + s.pic.shed.resRecord + s.pic.shed.resStream + s.pic.shed.resBe

/-- The demand of head `h` with tiers shed or frozen (R344, R350): the greater of old and new while a commit is armed. -/
def countedDemand (s : State) (h : Nat) (tiers : List Nat) (frozen : Bool) : Nat :=
  ((s.pic.fx.armed.flatMap (·.views)).filter (fun v => decide (v.1 = h))).foldl (fun m v => max m (headDemand s v.2 tiers frozen))
    (headDemand s (viewOf s h) tiers frozen)

/-- The demand of head `h` that ADM_LOAD counts (R344). -/
def committedDemand (s : State) (h : Nat) : Nat := countedDemand s h [] false

/-- `ADM_LOAD` (R343, R344) (DEDUCED, log entry 20). -/
def admLoad (s : State) : Nat := ((List.range 8).map (committedDemand s)).sum + reservations s

/-- The RESULT of R345. -/
def admResult (s : State) (load : Nat) (res : Nat) (demand : Nat → Nat) : List Byte :=
  leBytes 4 load ++ leBytes 4 (fsUsable s) ++ leBytes 4 res ++ (List.range 8).flatMap (fun h => leBytes 4 (demand h))

/-- EXCESS in units of 16 MB/s, rounded up, saturating (R345). -/
def excess16 (excess : Nat) : Nat := min 16383 (ceilDiv excess 16)

/-- The DETAIL of R345. -/
def admDetail (reason head window excess : Nat) : Nat := reason + 16 * head + 256 * window + 131072 * excess16 excess

/-- The halves over the capacity of their fetch ports (R342), as (half, peak window, excess). -/
def portFault (s : State) (view : Nat → HeadView) : Option (Nat × Nat × Nat) :=
  ((List.range 8).flatMap (fun h => if (view h).on then
      ((halfDemands s (view h)).zipIdx).map (fun x => (h + x.2, x.1.2, x.1.1)) else [])).find? (fun x => decide (32000 < x.2.2))
    |>.map (fun x => (x.1, x.2.1, x.2.2 - 32000))

/-- The named head whose demand rose most (R345), with its rise. -/
def mostRisen (s : State) (view : Nat → HeadView) (named : List Nat) : Option (Nat × Nat) :=
  named.foldl (fun m h =>
    let rise := headDemand s (view h) [] false - headDemand s (viewOf s h) [] false
    match m with
    | some (_, r) => if r < rise then some (h, rise) else m
    | none => if 0 < rise then some (h, rise) else none) none

/-- A load is admitted (R343). -/
def loadFits (s : State) (load : Nat) : Bool :=
  decide (load ≤ fsUsable s) || (!s.pic.shed.taken.isEmpty && decide (load ≤ admLoad s))

/-- The admission of a proposed configuration (R339 to R345): the DETAIL of its failure, or none. -/
def admitFault (s : State) (view : Nat → HeadView) (named : List Nat) : Option Nat :=
  match portFault s view with
  | some (h, w, excess) => some (admDetail 1 h w excess)
  | none =>
    let load := ((List.range 8).map (fun h => headDemand s (view h) [] false)).sum + reservations s
    if loadFits s load then none
    else match mostRisen s view named with
      | some (h, _) => some (admDetail 2 h (((halfDemands s (view h)).getD 0 (0, 0)).2) (load - fsUsable s))
      | none => some (admDetail 2 0 0 (load - fsUsable s))

/-- The RESULT of R345 for a proposed configuration. -/
def proposedResult (s : State) (view : Nat → HeadView) : List Byte :=
  let d := fun h => headDemand s (view h) [] false
  admResult s (((List.range 8).map d).sum + reservations s) (reservations s) d

/-- Change admission and shedding. -/
def modShed (f : ShedPart → ShedPart) (s : State) : State := { s with pic.shed := f s.pic.shed }
/-- Count an admission refusal. -/
def countRejected (s : State) : State := modShed (fun p => { p with ctr.rejected := (p.ctr.rejected + 1) % 2 ^ 32 }) s

/-- ADMISSION_RESERVE_SET (R346). -/
def cmdAdmissionReserveSet (c : Cmd) (s : State) : CmdRes :=
  let v := fun i => c.u32 (4 * i)
  let new := v 0 + v 1 + v 2 + v 3
  let load := admLoad s - reservations s + new
  let res := admResult s load new (committedDemand s)
  checks s [tooShort c 16, bad (anyUpTo 4 (fun i => decide (400000 < v i)))]
    (if reservations s < new ∧ !loadFits s load then
       .final .rejAdmission (admDetail 3 0 0 (load - fsUsable s)) res (countRejected s)
     else doneWith res (modShed (fun p => { p with
       resIngest := v 0, resRecord := v 1, resStream := v 2, resBe := v 3, evalDue := true }) s))

/-- A step of a plan has a field out of its range (R347). -/
def stepRangeBad (x : ShedStep) : Bool :=
  match x.kind with
  | 1 => decide (7 < x.unit) || decide (6 < x.tier) || decide (x.saving ≠ 0)
  | 2 => decide (7 < x.unit) || decide (x.tier ≠ 0) || decide (x.saving ≠ 0)
  | 3 => decide (15 < x.unit) || decide (x.tier ≠ 0) || decide (x.saving = 0) || decide (400000 < x.saving)
  | _ => true

/-- Step `i` of a plan is refused for what stands before it (R347). -/
def stepOrderBad (before : List ShedStep) (x : ShedStep) : Bool :=
  match x.kind with
  | 1 => before.any (fun y => decide (y.unit = x.unit) && ((decide (y.kind = 1) && decide (x.tier ≤ y.tier)) || decide (y.kind = 2)))
  | 2 => before.any (fun y => decide (y.kind = 2) && decide (y.unit = x.unit))
  | _ => false

/-- A KIND 2 step stands before some KIND 1 step of its head (R347). -/
def freezeEarly (x : ShedStep) (after : List ShedStep) : Bool :=
  decide (x.kind = 2) && after.any (fun y => decide (y.kind = 1) && decide (y.unit = x.unit))

/-- The lowest step of a plan that is refused (DEDUCED, log entry 82). -/
def planFault (l : List ShedStep) : Option Nat :=
  (List.range l.length).find? (fun i =>
    let x := l.getD i {}
    stepRangeBad x || stepOrderBad (l.take i) x || freezeEarly x (l.drop (i + 1)))

/-- SHED_PLAN_SET (R347, R349). -/
def cmdShedPlanSet (c : Cmd) (s : State) : CmdRes :=
  let n := c.u8 0
  let l := (List.range n).map (fun i => ({ kind := c.u8 (8 + 8 * i), unit := c.u8 (9 + 8 * i), tier := c.u8 (10 + 8 * i),
                                           saving := c.u32 (12 + 8 * i) } : ShedStep))
  let fault := planFault l
  checks s [tooShort c 8, badD (decide (32 < n)) 0x100, tooShort c (8 + 8 * n), rsv c 1 7, rsvIf (anyUpTo n (fun i => decide (c.u8 (11 + 8 * i) ≠ 0))),
    badD fault.isSome (fault.getD 0), stateIf (!s.pic.shed.taken.isEmpty) unstated]
    (done (modShed (fun p => { p with plan := l, next := 0 }) s))

/-- SHED_POLICY_SET (R354). -/
def cmdShedPolicySet (c : Cmd) (s : State) : CmdRes :=
  checks s [tooShort c 8, rsv c 6 2, bad (decide (50000 < c.u32 0)), bad (decide (60000 < c.u16 4))]
    (done (modShed (fun p => { p with margin := c.u32 0, holdMs := c.u16 4 }) s))

/-- ADMISSION_REPORT. -/
def cmdAdmissionReport (_ : Cmd) (s : State) : CmdRes :=
  doneWith (admResult s (admLoad s) (reservations s) (committedDemand s)) s

/-- The plan steps of a list of indices. -/
def stepsOf (s : State) (t : List Nat) : List ShedStep := t.map (fun i => s.pic.shed.plan.getD i {})

/-- The tiers of head `h` that a set of steps sheds. -/
def tiersShed (l : List ShedStep) (h : Nat) : List Nat :=
  (l.filter (fun x => decide (x.kind = 1) && decide (x.unit = h))).map (·.tier)
/-- Whether a set of steps freezes head `h`. -/
def freezes (l : List ShedStep) (h : Nat) : Bool := l.any (fun x => decide (x.kind = 2) && decide (x.unit = h))
/-- Whether the taken steps hold stream tier `t` (R352). -/
def tierHeld (s : State) (t : Nat) : Bool := (stepsOf s s.pic.shed.taken).any (fun x => decide (x.kind = 3) && decide (x.unit = t))

/-- SL of a set of steps (R350), over the configurations that ADM_LOAD counts (R344) (DEDUCED, log entry 145). -/
def shedLoad (s : State) (t : List Nat) : Nat :=
  let l := stepsOf s t
  let heads := ((List.range 8).map (fun h => countedDemand s h (tiersShed l h) (freezes l h))).sum
  let stream := ((l.filter (fun x => decide (x.kind = 3))).map (·.saving)).sum
  heads + reservations s - min stream s.pic.shed.resStream

/-- Latch a shed decision: `SHED_LAST` with its saving. -/
def shedDecision (i : Nat) (restore : Bool) (saving : Nat) (s : State) : State :=
  modShed (fun p => { p with
    lastStep := i, lastRestore := restore, lastValid := true, lastSaving := min 65535 (ceilDiv saving 16),
    ctr := if restore then { p.ctr with restored := (p.ctr.restored + 1) % 2 ^ 32 } else { p.ctr with taken := (p.ctr.taken + 1) % 2 ^ 32 } }) s

/-- Take steps while the load exceeds the usable bandwidth (R351): the state, and whether a step was taken. -/
def shedTake : Nat → Bool → State → Bool × State
  | 0, any, s => (any, s)
  | n + 1, any, s =>
    let p := s.pic.shed
    let load := shedLoad s p.taken
    if fsUsable s < load ∧ p.next < p.plan.length then
      let with_ := shedLoad s (p.taken ++ [p.next])
      if with_ < load then
        shedTake n true (raise 24 (shedDecision p.next false (load - with_) (modShed (fun q => { q with taken := q.taken ++ [p.next], next := p.next + 1 }) s)))
      else shedTake n any (modShed (fun q => { q with next := p.next + 1 }) s)
    else (any, s)

/-- Restore steps in reverse order while the load allows it (R354). -/
def shedRestore : Nat → State → State
  | 0, s => s
  | n + 1, s =>
    let p := s.pic.shed
    match p.taken.getLast? with
    | none => s
    | some i =>
      let without := shedLoad s (p.taken.take (p.taken.length - 1))
      if p.holding ∨ fsUsable s < without + p.margin then s
      else
        let rest := p.taken.take (p.taken.length - 1)
        shedRestore n (raise 25 (shedDecision i true (without - shedLoad s p.taken) (modShed (fun q => { q with
          taken := rest, next := if rest.isEmpty then 0 else i }) s)))

/-- One evaluation of the shedding engine (R350, R351, R354). -/
def shedEvaluate (s : State) : State :=
  let r := shedTake (s.pic.shed.plan.length + 1) false s
  let s1 := r.2
  let tooMuch := decide (fsUsable s1 < shedLoad s1 s1.pic.shed.taken)
  let s2 := if tooMuch ∧ !s1.pic.shed.exhausted then raise 26 s1 else s1
  let s3 := modShed (fun p => { p with exhausted := tooMuch }) s2
  let s4 := if r.1 then s3 else shedRestore (s3.pic.shed.taken.length + 1) s3
  modShed (fun p => { p with evalDue := false, shedLoad := shedLoad s4 p.taken, usable := fsUsable s4 }) s4

/-- SHED_EVALUATION (R350): once a cause has arisen. -/
def shedEvaluation (s : State) : State := if s.pic.shed.evalDue then shedEvaluate s else s

/-- RESTORE_HOLD_EXPIRY (R354): the hold ends, which starts an evaluation. -/
def restoreHoldExpiry (s : State) : State :=
  if s.pic.shed.holding then shedEvaluate (modShed (fun p => { p with holding := false }) s) else s

end Sys2Proof.Machine
end

