-- ==== Sys2Proof/Machine/Signature.lean ====
section
/-! DEFINITION. Region signatures: command 0x0801, the comparison, faults, TALLY_FAULT and the region actions (R358 to
R373). -/
namespace Sys2Proof.Machine
open Sys2Proof

/-- The running state of region `r` of head `h`. -/
def sigAt (s : State) (h r : Nat) : SigState := tabGet (hdAt s h).sig r
/-- The settings in force of region `r` of head `h`. -/
def sigCfg (s : State) (h r : Nat) : SigCfg := tabGet (hdAt s h).cfg.sigs r
/-- Change the running state of a region. -/
def modSig (h r : Nat) (f : SigState → SigState) (s : State) : State := modHd h (fun x => { x with sig := tabMod x.sig r f }) s
/-- Raise signature source `k` of head `h` (R373). -/
def raiseSig (h k : Nat) (s : State) : State := raise (352 + 8 * h + k) s

/-- The width of a head's active area, or of its pair's panel, under a timing. -/
def panelWidth (s : State) (h : Nat) (t : Timing) : Nat := if pairLocked s h then 2 * t.hact else t.hact

/-- A region lies wholly inside an active area (R360). -/
def regionInside (w : Nat) (t : Timing) (g : SigCfg) : Bool := decide (g.x + g.w ≤ w) && decide (g.y + g.h ≤ t.vact)

/-- SIG_REGION_SET (R358, R359). -/
def cmdSigRegionSet (c : Cmd) (s : State) : CmdRes :=
  let h := c.u8 0
  let r := c.u8 1
  let f := c.u8 2
  let g : SigCfg := { enable := bit f 0, tally := bit f 1, skipShed := bit f 2, action := c.u8 3, x := c.u16 4, y := c.u16 6, w := c.u16 8,
                      h := c.u16 10, limit := c.u8 12, recover := c.u8 13, valid := c.u8 14, expect := (List.range 4).map (fun i => c.u32 (16 + 4 * i)) }
  let t := (hdAt s h).shadow.timing
  checks s [tooShort c 32, rsvIf (decide (7 < f) || decide (15 < g.valid)), rsv c 15 1, badD (decide (7 < h) || decide (15 < r)) 1,
    badD (decide (g.x % 2 = 1) || decide (g.w % 2 = 1) || decide (g.w < 2) || decide (g.h = 0) || decide (2 < g.action) || decide (g.limit = 0)) 1,
    badD (!isUpperOfPair s h && !regionInside (panelWidth s h t) t g) 2, upperHead s h]
    (done (modHdShadow h (fun k => { k with sigs := tabSet k.sigs r g }) s))

/-- CRC-32 of R362 over one more byte, on the register before its final XOR. -/
def crc32Byte (r : BitVec 32) (b : Byte) : BitVec 32 :=
  (List.range 8).foldl (fun c _ => if c.getLsbD 0 then (c >>> 1) ^^^ 0xEDB88320#32 else c >>> 1) (r ^^^ b.setWidth 32)

/-- CRC-32 over bytes, going on from a register value. -/
def crc32From (r : Nat) (l : List Byte) : Nat := (l.foldl crc32Byte (BitVec.ofNat 32 r)).toNat

/-- The bytes of one pixel in a signature (R361). -/
def pixelBytes (form x : Nat) (p : Nat × Nat × Nat) : List Byte :=
  if form = 2 ∧ x % 2 = 1 then leBytes 2 p.1 else leBytes 2 p.1 ++ leBytes 2 p.2.1 ++ leBytes 2 p.2.2

/-- One composed line enters the signatures of the regions that meet it (R361). -/
def signLine (h y : Nat) (l : List (Nat × Nat × Nat)) (s : State) : State :=
  let form := (hdAt s h).cfg.out.form
  forUpTo 16 (fun r s =>
    let g := sigCfg s h r
    if g.enable ∧ !(sigAt s h r).outside ∧ g.y ≤ y ∧ y < g.y + g.h then
      let b := ((((l.drop g.x).take g.w).zipIdx).flatMap (fun p => pixelBytes form (g.x + p.2) p.1))
      modSig h r (fun x => { x with run := crc32From x.run b }) s
    else s) s

/-- A signature is calculated afresh for the frame to be composed (R362). -/
def signRestart (h : Nat) (s : State) : State :=
  forUpTo 16 (fun r s => if (sigCfg s h r).enable then modSig h r (fun x => { x with run := 0xFFFFFFFF, compared := false }) s else s) s

/-- The region is signed but not compared while a shed step of its head is applied (R370) (DEDUCED, log entry 84). -/
def sigSkipped (s : State) (h : Nat) (g : SigCfg) : Bool :=
  g.skipShed && (decide ((hdAt s h).appliedTiers ≠ 0) || (hdAt s h).freezeApplied)

/-- The result of one comparison (R363 to R365): counts, FAULT and its events. Where a commit lowered LIMIT or RECOVER below the
count that stands, the next comparison of its kind reaches it (DEDUCED, log entry 195). -/
def sigCompared (h r : Nat) (g : SigCfg) (ok : Option Nat) (s : State) : State :=
  let x := sigAt s h r
  match ok with
  | some i =>
    let good := satAdd 255 x.good 1
    let leaves := x.fault && decide (g.recover ≠ 0) && decide (g.recover ≤ good)
    let s1 := modSig h r (fun x => { x with
      matched := true, matchIdx := i, miss := 0, good := if x.fault ∧ ¬leaves then good else 0, fault := x.fault && !leaves }) s
    if leaves then raiseSig h 1 s1 else s1
  | none =>
    let miss := satAdd 255 x.miss 1
    let enters := !x.fault && decide (g.limit ≤ miss)
    let s1 := modSig h r (fun x => { x with
      matched := false, miss := miss, good := 0, fault := x.fault || enters, mismatches := (x.mismatches + 1) % 2 ^ 32 }) s
    if enters then raiseSig h 0 s1 else s1

/-- SIGNATURE_COMPARE (R363, R370): once per head frame, after the region's last pixel has been quantized. -/
def signatureCompare (h r : Nat) (s : State) : State :=
  let d := hdAt s h
  let g := sigCfg s h r
  let x := sigAt s h r
  if !d.enabled ∨ !g.enable ∨ x.outside ∨ x.compared ∨ d.composed < g.y + g.h then s
  else
    let v := Nat.xor x.run 0xFFFFFFFF
    let s1 := modSig h r (fun x => { x with value := v, frame := (d.composeFrame % 2 ^ 32).toNat, compared := true }) s
    if g.valid = 0 ∨ sigSkipped s h g then s1
    else sigCompared h r g ((List.range 4).find? (fun i => bit g.valid i && decide (g.expect.getD i 0 = v))) s1

/-- A region's counts and fault are cleared without events (R366). -/
def sigReset (x : SigState) : SigState := { x with miss := 0, good := 0, fault := false }

/-- SIG_CLEAR (R365). -/
def sigClear (h r : Nat) (s : State) : State :=
  if isUpperOfPair s h then s else
  let was := (sigAt s h r).fault
  let s1 := modSig h r sigReset s
  if was then raiseSig h 1 s1 else s1

/-- TALLY_FORCE_WRITE (R367). -/
def tallyForceWrite (v : Word) (s : State) : State := { s with pic.tallyForce := v.getLsbD 1 }

/-- A TALLY region of a head is in FAULT: the head's bit of `SIG_TALLY`.HEADS. -/
def tallyHead (s : State) (h : Nat) : Bool := anyUpTo 16 (fun r => (sigCfg s h r).tally && (sigAt s h r).fault)
/-- The level of TALLY_FAULT (R367). -/
def tallyLevel (s : State) : Bool := s.pic.tallyForce || anyUpTo 8 (tallyHead s)

/-- What a landing does to the regions of a head (R360, R366): `old` are the settings before it. -/
def sigLand (h : Nat) (old : Tab SigCfg) (s : State) : State :=
  let t := timingOf s h
  forUpTo 16 (fun r s =>
    let g := sigCfg s h r
    let o := tabGet old r
    let moved := decide ((o.x, o.y, o.w, o.h) ≠ (g.x, g.y, g.w, g.h)) || !g.enable
    let out := g.enable && !regionInside (panelWidth s h t) t g
    let was := (sigAt s h r).outside
    let s1 := if o = g ∧ out = was then s else modSig h r (fun x => { (if moved then sigReset x else x) with outside := out }) s
    if out ∧ !was then raiseSig h 2 s1 else s1) s

/-- A disabled head's regions are cleared (R366). -/
def sigDisable (h : Nat) (s : State) : State := forUpTo 16 (fun r s => modSig h r (fun x => { sigReset x with acting := false }) s) s

/-- At line 0 of a frame the actions of the regions in FAULT begin or end (R368). -/
def sigFrameStart (h : Nat) (s : State) : State := forUpTo 16 (fun r s => modSig h r (fun x => { x with acting := x.fault }) s) s

end Sys2Proof.Machine
end

