-- ==== Sys2Proof/Machine/Fixer.lean ====
section
/-! DEFINITION. The Fixer: command 0x0605, its checks in order, arming, readiness and time-outs (R323 to R330), and the
fast path (R258 to R261). -/
namespace Sys2Proof.Machine
open Sys2Proof

/-- Change the Fixer. -/
def modFx (f : Fixer → Fixer) (s : State) : State := { s with pic.fx := f s.pic.fx }
/-- Change armed commit `id`. -/
def modArmed (id : Nat) (f : Armed → Armed) (s : State) : State :=
  modFx (fun x => { x with armed := x.armed.map (fun a => if a.id = id then f a else a) }) s
/-- Armed commit `id`. -/
def armedOf (s : State) (id : Nat) : Option Armed := s.pic.fx.armed.find? (fun a => decide (a.id = id))

/-- The token a head reads and writes back under (R166, R247). -/
def headToken (s : State) (h : Nat) : Nat := agentToken s clsHead (lowerOf s h)
/-- The heads of a bit mask. -/
def headBits (m : Nat) : List Nat := (List.range 8).filter (fun h => m.testBit h)

/-- What a head would be after a native commit (R323, R339): the shadows of a named head and of the layers in its
shadow assignment, with the window layers in force. -/
def viewAfter (s : State) (named en dis : List Nat) (h : Nat) : HeadView :=
  if named.contains h then
    { on := (headEnabled s h || en.contains h) && !dis.contains h && !isUpperOfPair s h, pair := pairLocked s h, cfg := (hdAt s h).shadow,
      lays := ((shadowLayers s h).filter (fun l => !winOwns s l)).map (fun l => (l, (layAt s l).shadow)) ++
        (layersOn s h).filter (fun x => winOwns s x.1) }
  else viewOf s h

/-- The layers that a native commit carries for a head. -/
def nativeLayers (s : State) (h : Nat) : List Nat := (shadowLayers s h).filter (fun l => !winOwns s l)

/-- Timing outside R310, R312 or R313. -/
def timingBad (s : State) (t : Timing) : Bool :=
  let porch := fun n => decide (n < 2) || decide (4094 < n) || decide (n % 2 = 1)
  let f := frameRate s t
  let px := hTotal t * vTotal t * f.1
  decide (t.hact < 64) || decide (8192 < t.hact) || decide (t.hact % 2 = 1) || porch t.hfp || porch t.hsync || porch t.hbp ||
    decide (t.vact < 16) || decide (4320 < t.vact) || decide (t.vfp = 0) || decide (t.vsync = 0) || decide (t.vbp = 0) ||
    decide (t.vfp + t.vsync + t.vbp < 4) || decide (16384 < hTotal t) || decide (8192 < vTotal t) || decide (t.p = 0) || decide (t.q = 0) ||
    decide (px < 19608000 * f.2) || decide (1200000000 * f.2 < px) || decide (f.2 * 1000000000 ≤ t.phase.natAbs * f.1)

/-- The write-back layouts allowed for a form and width (R332). -/
def wbLayouts (form n : Nat) : List Nat :=
  let k := if n = 10 then 0 else if n = 12 then 1 else 2
  if form = 0 then (if n = 8 then [0x40] else [0x20 + k])
  else if n = 8 then []
  else if form = 1 then [0x14 + k, 0x1C + k] else [0x10 + k, 0x18 + k]

/-- A write-back pool fits a head (R332). -/
def wbFits (s : State) (h : Nat) (k : HeadCfg) : Bool :=
  match k.wbPool with
  | none => false
  | some p =>
    let q := poolAt s p
    let l := (layoutOf (fmtLayout q.format)).getD {}
    let w := panelWidth s h k.timing
    q.used && (wbLayouts k.out.form k.out.bits).contains (fmtLayout q.format) && (!famYcc l.fam || decide (fmtFull q.format = k.out.full)) &&
      decide (q.lines = k.timing.vact) && decide (2 ≤ q.count) &&
      (match sourceFault true { cw := w, ch := q.lines } q.format q.stride q.lines with
       | none => true
       | some _ => false)

/-- A layer's source fails step 11 of R324. -/
def sourceBad (s : State) (l : Nat) (k : LayerCfg) : Bool :=
  if k.src.kind = 0 then false else
  match sourcePool s k.src with
  | none => true
  | some p =>
    let q := poolAt s p
    let y := (layoutOf (fmtLayout q.format)).getD {}
    let white := k.video.rawWhite.getD (2 ^ y.n - 1)
    (sourceFault (isVideo l) k.src q.format q.stride q.lines).isSome ||
      (decide (y.fam = .raw) && (decide (white ≤ k.video.rawBlack) || decide (2 ^ y.n ≤ white)))

/-- A position and a crop lie in an envelope (R258). -/
def inEnvelope (e : Envelope) (dx dy : Int) (cw ch : Nat) : Bool :=
  decide (e.dxMin ≤ dx) && decide (dx ≤ e.dxMax) && decide (e.dyMin ≤ dy) && decide (dy ≤ e.dyMax) &&
    decide (e.wMin ≤ cw) && decide (cw ≤ e.wMax) && decide (e.hMin ≤ ch) && decide (ch ≤ e.hMax)

/-- The reason of R278 that one crop of a video layer fails, or none: `w` × `h` is the oriented crop. -/
def scalerFault (s : State) (t : Timing) (k : LayerCfg) (w h : Nat) : Option Nat :=
  let v := k.video
  let f := predec v w h k.geo.dw k.geo.dh
  let w2 := ceilDiv w f.1
  let h2 := ceilDiv h f.2
  let sh := scalerStep w2 k.geo.dw
  let sv := scalerStep h2 k.geo.dh
  let out := fun n => decide (n < 65536) || decide (4194304 < n)
  let r := frameRate s t
  let empty := fun n => decide (n ≠ 0) && !(tabGet s.pic.coefs n).loaded
  if k.geo.dw = 0 ∨ out sh then some 1
  else if k.geo.dh = 0 ∨ out sv then some 2
  else if 8192 < w2 then some 3
  else if 2400000000 * t.vact * r.2 < w2 * h2 * r.1 * vTotal t then some 4
  else if (¬(f.1 = 1 ∧ k.geo.dw = w) ∧ empty v.hset) ∨ (¬(f.2 = 1 ∧ k.geo.dh = h) ∧ empty v.vset) then some 5
  else none

/-- The element of a list with the greatest key. -/
def argMax (key : Nat → Nat) (l : List Nat) : Nat := l.foldl (fun m n => if key m < key n then n else m) (l.headD 0)

/-- Crop sizes that stand for all those a layer may show, oriented: its own, or those of its envelope (R258). Each axis has its
own pre-decimation, so a crop of the envelope fails reason 1, 2, 3 or 5 of R278 by its width or by its height alone, and reason 4
where the widest and the highest pre-decimated image together do. -/
def cropSizes (k : LayerCfg) : List (Nat × Nat) :=
  let ori := fun (p : Nat × Nat) => if rotated k.src.orient then (p.2, p.1) else p
  if k.env.on then
    let lo := ori (k.env.wMin, k.env.hMin)
    let hi := ori (k.env.wMax, k.env.hMax)
    let ws := (List.range (hi.1 + 1 - lo.1)).map (fun i => lo.1 + i)
    let hs := (List.range (hi.2 + 1 - lo.2)).map (fun i => lo.2 + i)
    let f := fun w h => predec k.video w h k.geo.dw k.geo.dh
    (argMax (fun w => ceilDiv w (f w 1).1) ws, argMax (fun h => ceilDiv h (f 1 h).2) hs) ::
      (ws.map (fun w => (w, lo.2)) ++ hs.map (fun h => (lo.1, h)))
  else [ori (k.src.cw, k.src.ch)]

/-- The reason of R278 that a video layer fails over all its crops. -/
def videoFault (s : State) (t : Timing) (l : Nat) (k : LayerCfg) : Option Nat :=
  if !isVideo l ∨ k.src.kind = 0 then none
  else (List.range 5).map (· + 1) |>.find? (fun r => (cropSizes k).any (fun p => decide (scalerFault s t k p.1 p.2 = some r)))

/-- Step 14 of R324 for one head: the status and DETAIL of a LUT bank that cannot be used (DEDUCED, log entry 194). -/
def lutCheck (s : State) (h : Nat) (o : OutputCfg) : Option (Status × Nat) :=
  if !o.lut3d then none else
  match lutOfHead s h with
  | none => some (.rejState, 0x1000 + Config.freeUnit h % 4)
  | some u =>
    let x := lutAt s u
    let k := if x.mode = 1 then 0 else o.bank
    if x.loading = some k then some (.busy, 0)
    else if !lutValid x k then some (.rejState, 0x1000 + u)
    else none

/-- How the reference of a layer is told from the others under its head's token (R247). -/
def layerRef (l : Nat) : Nat := l + 1

/-- The KIND 1 buffers for which a commit must take a reference (R247): those that are not already that layer's source on that
head. -/
def newRefs (s : State) (lays : List (Nat × Nat × LayerCfg)) : List (Nat × Nat × Nat) :=
  (lays.filter (fun x => decide (x.2.2.src.kind = 1) &&
    !(decide ((layAt s x.1).head = some x.2.1) && decide ((layAt s x.1).cfg.src.kind = 1) && decide ((layAt s x.1).held = some (x.2.2.src.buffer, headToken s x.2.1))))).map
    (fun x => (x.1, x.2.1, x.2.2.src.buffer))

/-- Take the references of a commit (R247): the first layer refused, and the state; those taken before a refusal are
released again. -/
def takeRefs (l : List (Nat × Nat × Nat)) (s : State) : Option Nat × State :=
  let r := l.foldl (fun (acc : Option Nat × List (Nat × Nat × Nat) × State) x =>
    match acc.1 with
    | some _ => acc
    | none =>
      let t := takeRefFor (layerRef x.1) (decide ((bufAt acc.2.2 x.2.2).state = .owned)) x.2.2 (headToken s x.2.1) acc.2.2
      if t.1 then (none, acc.2.1 ++ [(layerRef x.1, x.2.2, headToken s x.2.1)], t.2) else (some x.1, acc.2.1, t.2))
    ((none, [], s) : Option Nat × List (Nat × Nat × Nat) × State)
  if r.1.isSome then (r.1, forEach r.2.1 (fun p s => (ledgerReleaseFor p.1 p.2.1 p.2.2 s).2) r.2.2) else (none, r.2.2)

/-- The cost of a head's power domain at its raster rate, and the step with it (R503). -/
def headCost (s : State) (t : Timing) : Nat × Nat :=
  let f := frameRate s t
  let c := if f.2 = 0 then 200 else 10 * ceilDiv (200 * 1200000000 * f.2 + 1000 * hTotal t * vTotal t * f.1) (12000000000 * f.2)
  (c, ceilDiv (4 * c) 3)

/-- The leave a commit asks to enable heads (R511) (DEDUCED, log entry 80). -/
def enableGrant (s : State) (en : List Nat) : Grant :=
  if en.isEmpty then {} else
  { doms := (en.flatMap (fun h => (pairOf s h).map (fun j => let c := headCost s (hdAt s h).shadow.timing
                                                           (15 + j, c.1, c.2)))) ++
      (if anyHeadEnabled s then [] else [(27, 1200, 1600)]) }

/-- A parsed CFG_COMMIT. -/
structure CommitArgs where
  named : List Nat := []
  en : List Nat := []
  dis : List Nat := []
  wait : Bool := false
  handle : Nat := 0
  timeout : Nat := 0
  fences : List (Nat × Nat) := []
  deriving DecidableEq, Repr, Inhabited

/-- The arguments of CFG_COMMIT. -/
def commitArgs (c : Cmd) : CommitArgs :=
  { named := headBits (c.u8 0), en := headBits (c.u8 1), dis := headBits (c.u8 2), wait := bit (c.u8 3) 0, handle := c.u8 4, timeout := c.u8 5,
    fences := (List.range (min 4 (c.u8 6))).map (fun i => (c.u8 (8 + 8 * i), c.u32 (12 + 8 * i))) }

/-- The earlier armed commits that a commit waits for (R325). -/
def commitBlocked (s : State) (named : List Nat) : Bool :=
  decide (16 ≤ s.pic.fx.armed.length) || s.pic.fx.armed.any (fun a => a.heads.any (fun h => named.contains h))

/-- The first head of a list that meets a test. -/
def firstHead (l : List Nat) (p : Nat → Bool) : Check × Nat := ((l.any p, .rejState, 0), (l.find? p).getD 0)

/-- A check over heads with a base DETAIL (R324). -/
def headCheck (l : List Nat) (p : Nat → Bool) (st : Status) (base : Nat) : Check := (l.any p, st, base + (l.find? p).getD 0)

/-- Steps 1 to 14 of R324. -/
def commitChecks (c : Cmd) (a : CommitArgs) (s : State) : List Check :=
  let sh := fun h => (hdAt s h).shadow
  let live := fun h => headEnabled s h || a.en.contains h
  let lays := a.named.flatMap (fun h => (nativeLayers s h).map (fun l => (l, h, (layAt s l).shadow)))
  let frozen := fun h => decide ((hdAt s h).wb.freeze = .frozen)
  let sorted := (List.range 64).filter (fun l => lays.any (fun x => decide (x.1 = l)))
  let cfgOf := fun l => (layAt s l).shadow
  let headOf := fun l => ((layAt s l).sHead).getD 0
  let strays := (List.range 64).filter (fun l => !winOwns s l &&
    (match (layAt s l).head, (layAt s l).sHead with
     | some x, some y => decide (x ≠ y) && (a.named.contains x != a.named.contains y)
     | _, _ => false))
  let layCheck := fun (p : Nat → Bool) base => ((sorted.any p, Status.rejRange, base + (sorted.find? p).getD 0) : Check)
  let scal := fun l => videoFault s (sh (headOf l)).timing l (cfgOf l)
  let luts := a.named.filterMap (fun h => lutCheck s h (sh h).out)
  [tooShort c 8, rsvIf (decide (1 < c.u8 3)), rsv c 7 1, bad (decide (4 < c.u8 6)), tooShort c (8 + 8 * c.u8 6),
   rsvIf (anyUpTo (c.u8 6) (fun i => (c.bytes (9 + 8 * i) 3).any (fun b => decide (b ≠ 0)))),
   bad (a.wait && decide (15 < a.handle)), bad (a.fences.any (fun f => decide (31 < f.1))),
   badD (a.en.any (fun h => a.dis.contains h || !a.named.contains h) || a.dis.any (fun h => !a.named.contains h)) 0,
   badD a.named.isEmpty 0,
   headCheck a.named (isUpperOfPair s) .rejState 0x2100,
   (a.wait && s.pic.fx.armed.any (fun x => decide (x.handle = some a.handle) && !x.released), .rejState, 0x3100 + a.handle),
   headCheck a.named (fun h => !live h) .rejState 0x2400,
   headCheck a.named (fun h => live h && (sh h).wbPool.isNone) .rejState 0x2600,
   headCheck a.named (fun h => frozen h && (decide ((sh h).timing ≠ (hdAt s h).cfg.timing) ||
     decide ((sh h).out.form ≠ (hdAt s h).cfg.out.form) || decide ((sh h).out.bits ≠ (hdAt s h).cfg.out.bits))) .rejState 0x2500,
   headCheck a.named (fun h => timingBad s (sh h).timing || (decide ((sh h).out.form = 2) && decide ((sh h).timing.hact % 2 = 1))) .rejRange 0x0800,
   headCheck a.named (fun h => !wbFits s h (sh h)) .rejState 0x2300,
   (!strays.isEmpty, .rejState, 0x2200 + strays.headD 0),
   headCheck a.named (fun h => decide (16 < (viewAfter s a.named a.en a.dis h).lays.length)) .rejState 0x5300,
   (a.named.any (fun h => pairLocked s h && (!(shadowLayers s (h + 1)).isEmpty || !(layersOn s (h + 1)).isEmpty)), .rejState,
     0x2101 + (a.named.find? (fun h => pairLocked s h && (!(shadowLayers s (h + 1)).isEmpty || !(layersOn s (h + 1)).isEmpty))).getD 0),
   layCheck (fun l => sourceBad s l (cfgOf l)) 0x0700,
   layCheck (fun l => (cfgOf l).env.on &&
     !inEnvelope (cfgOf l).env (cfgOf l).geo.dx (cfgOf l).geo.dy (cfgOf l).src.cw (cfgOf l).src.ch) 0x0600,
   (sorted.any (fun l => (scal l).isSome), .rejRange,
     (sorted.find? (fun l => (scal l).isSome)).elim 0 (fun l => 0x100 * (scal l).getD 0 + l)),
   (!luts.isEmpty, (luts.headD (.rejState, 0)).1, (luts.headD (.rejState, 0)).2)]

/-- A fence is met (R326). -/
def fenceMet (s : State) (f : Nat × Nat) : Bool := decide (((tabGet s.pic.fx.fences f.1) + 2 ^ 32 - f.2 % 2 ^ 32) % 2 ^ 32 < 2 ^ 31)

/-- A commit is ready (R326). -/
def isReady (s : State) (a : Armed) : Bool := a.fences.all (fenceMet s) && (a.handle.isNone || a.released)

/-- The switches of the domains of an enabling commit join the queue (R316, R512). -/
def queueSwitches (sw : List (Nat × Nat × Nat)) (s : State) : State :=
  modPwr (fun p => { p with
    grants := p.grants + 1,
    queue := p.queue ++ (sw.filter (fun x => mustSwitch s x.1)).map (fun x => { grant := p.grants + 1, domain := x.1, target := .on, step := x.2.2 }) }) s

/-- Return the cost a commit was granted (R512). -/
def returnGrant (a : Armed) (s : State) : State :=
  updateOver (forEach a.costs (fun x s => modDom x.1 (fun d => { d with cost := d.cost - x.2 }) s) s)

/-- The end of a commit that does not land (R327): its references and its grant go back and nothing is applied. -/
def dropArmed (a : Armed) (s : State) : State :=
  let s1 := forEach a.refs (fun r s => (ledgerReleaseFor (layerRef r.1) r.2 (headToken s (((a.lays.find? (fun x => decide (x.1 = r.1))).map (·.2.1)).getD 0)) s).2) s
  let s2 := returnGrant a (modFx (fun x => { x with armed := x.armed.filter (fun y => decide (y.id ≠ a.id)) }) s1)
  modShed (fun p => { p with evalDue := true }) s2

/-- Commits whose fences and handle allow it become ready (R316, R326) (DEDUCED, log entry 68). -/
def fxReady (s : State) : State :=
  forEach s.pic.fx.armed (fun a s =>
    if a.ready ∨ !isReady s a then s
    else if !a.enable.isEmpty ∧ s.power.holdup then finishWait (.commit a.id) .deniedPower (denyDetail { doms := a.switches } (2, 0)) [] (dropArmed a s)
    else queueSwitches a.switches (modArmed a.id (fun x => { x with ready := true }) s)) s

/-- Arm a commit that has passed its checks (R324, R344): the shadows named are copied into the Fixer. -/
def armCommit (a : CommitArgs) (refs : List (Nat × Nat × Nat)) (s : State) : Nat × State :=
  let id := s.pic.fx.nextId
  let g := enableGrant s a.en
  let sw := grantSwitches s g
  let lays := a.named.flatMap (fun h => (nativeLayers s h).map (fun l => (l, h, (layAt s l).shadow)))
  let new := viewAfter s a.named a.en a.dis
  let rec_ : Armed := {
    id := id, heads := a.named, hcfg := a.named.foldl (fun t h => tabSet t h (hdAt s h).shadow) [], lays := lays, enable := a.en.filter (fun h => !headEnabled s h),
    disable := a.dis, handle := if a.wait then some a.handle else none, fences := a.fences, timeout := a.timeout,
    refs := refs.map (fun x => (x.1, x.2.2)), costs := sw.map (fun x => (x.1, x.2.1)), switches := g.doms,
    views := a.named.flatMap (fun h => [(h, viewOf s h), (h, new h)]) }
  let s1 := forEach sw (fun x s => modDom x.1 (fun d => { d with cost := d.cost + x.2.1 }) s) s
  let s2 := if a.en.isEmpty then s1 else modPwr (fun p => { p with
    ctr.grant := (p.ctr.grant + 1) % 2 ^ 32,
    queue := p.queue.filter (fun q => !(decide (q.target ≠ .on) && g.doms.any (fun x => decide (x.1 = q.domain)))) }) s1
  let s3 := forEach a.named (fun h s =>
    match lutOfHead s h with
      | some u => if (lutAt s u).mode = 2 then modLut u (fun x => { x with pending := (hdAt s h).shadow.out.bank }) s else s
      | none => s) s2
  let s4 := modFx (fun x => { x with armed := x.armed ++ [rec_], nextId := id + 1 }) s3
  (id, fxReady (modShed (fun p => { p with evalDue := true }) s4))

/-- Check a commit and arm it (R324). -/
def tryArm (c : Cmd) (s : State) : CmdRes :=
  let a := commitArgs c
  checks s (commitChecks c a s)
    (let lays := a.named.flatMap (fun h => (nativeLayers s h).map (fun l => (l, h, (layAt s l).shadow)))
     let need := newRefs s lays
     match takeRefs need s with
     | (some l, s1) => .final .rejState (0x3000 + l) [] s1
     | (none, s1) =>
       let view := viewAfter s a.named a.en a.dis
       match admitFault s view a.named with
       | some d => .final .rejAdmission d (proposedResult s view) (countRejected s)
       | none =>
         let en := a.en.filter (fun h => !headEnabled s h)
         let g := enableGrant s en
         match (if en.isEmpty then none else refusal s g) with
         | some r => .final .deniedPower (en.headD 0) [] (denyPower g r s)
         | none =>
           let p := armCommit { a with en := en } need s1
           .wait (.commit p.1) p.2)

/-- CFG_COMMIT (R323 to R325): it waits until earlier commits on its heads have landed. -/
def cmdCfgCommit (c : Cmd) (s : State) : CmdRes :=
  if commitBlocked s (headBits (c.u8 0)) then .wait .commitArm s else tryArm c s

/-- COMMIT_ARM (R325): the first waiting commit that no earlier one holds is checked and armed. -/
def commitArm (s : State) : State :=
  if !firmwareRunning s then s else
  match s.ctl.inflight.find? (fun c => decide (c.phase = .waiting .commitArm) && !commitBlocked s (headBits (c.u8 0))) with
  | none => s
  | some c =>
    match tryArm c s with
    | .final st d r s1 => postFinal c st d r (dropCmd c s1)
    | .wait w s1 => modCmd c (fun x => { x with phase := .waiting w }) s1
    | .accept _ _ s1 => s1

/-- FX_FENCE_WRITE (R326). -/
def fxFenceWrite (k : Nat) (v : Word) (s : State) : State := fxReady (modFx (fun x => { x with fences := tabSet x.fences k v.toNat }) s)

/-- A COMMIT occurrence releases a handle (R121, R326): refused where no commit waits on it. -/
def releaseCommitHandle (k : Nat) (s : State) : Option State :=
  match s.pic.fx.armed.find? (fun a => decide (a.handle = some k) && !a.released) with
  | some a => some (fxReady (modArmed a.id (fun x => { x with released := true }) s))
  | none => none

/-- The unmet fence slots of a commit, with bit 4 for its handle (R327). -/
def unmetMask (s : State) (a : Armed) : Nat :=
  ((a.fences.zipIdx).map (fun x => if fenceMet s x.1 then 0 else 2 ^ x.2)).sum + (if a.handle.isSome ∧ !a.released then 16 else 0)

/-- COMMIT_TIMEOUT (R327): the first commit that is not ready after its TIMEOUT_FRAMES blankings ends. -/
def commitTimeout (s : State) : State :=
  match s.pic.fx.armed.find? (fun a => decide (a.timeout ≠ 0) && !a.ready && decide (a.timeout ≤ a.blanks)) with
  | none => s
  | some a =>
    let s1 := finishWait (.commit a.id) .timeout (unmetMask s a) [] (dropArmed a s)
    forEach a.heads (fun h s => raise (96 + 16 * h + 1) s) s1

/-- The settings of a layer in force, fast-path values included (R256). -/
def effCfg (x : Layer) : LayerCfg :=
  match x.fp.current with
  | none => x.cfg
  | some f => { x.cfg with geo := { x.cfg.geo with dx := f.dx, dy := f.dy }, src := { x.cfg.src with cx := f.cx, cy := f.cy, cw := f.cw, ch := f.ch } }

/-- A fast-path set is rejected, with its event (R260, R261). -/
def fpReject (l : Nat) (s : State) : State := raise (225 + 2 * l) (modLay l (fun x => { x with fp.rejected := true }) s)

/-- FP_GO (R259, R261). -/
def fpGo (l : Nat) (s : State) : State :=
  let x := layAt s l
  if !x.cfg.env.on ∨ x.head.isNone then fpReject l s
  else modLay l (fun x => { x with fp.pending := some x.fp.staging }) s

/-- A fast-path set passes R241, R242, R245, R250 and its envelope (R260). -/
def fpOk (s : State) (l : Nat) (f : FastSet) : Bool :=
  let k := (layAt s l).cfg
  let src := { k.src with cx := f.cx, cy := f.cy, cw := f.cw, ch := f.ch }
  k.env.on && inEnvelope k.env f.dx f.dy f.cw f.ch &&
    (decide (k.src.kind = 0) || (match sourcePool s src with
     | none => false
     | some p =>
       let q := poolAt s p
       decide (sourceFault (isVideo l) src q.format q.stride q.lines = none) &&
         (!isVideo l || decide (ceilDiv (orientW src) (predec k.video (orientW src) (orientH src) k.geo.dw k.geo.dh).1 ≤ 8192))))

/-- A layer's pending set is checked and latched (R260). -/
def fpLatch (l : Nat) (s : State) : State :=
  match (layAt s l).fp.pending with
  | none => s
  | some f =>
    let s1 := modLay l (fun x => { x with fp.pending := none }) s
    if fpOk s l f then modLay l (fun x => { x with fp.latched := some f }) s1 else fpReject l s1

/-- FAST_PATH_LATCH (R260): at line VACT − 2 of the layer's head. -/
def fastPathLatch (l : Nat) (s : State) : State :=
  match (layAt s l).head with
  | some h => if headEnabled s h ∧ !(hdAt s (lowerOf s h)).inBlank then fpLatch l s else s
  | none => s

end Sys2Proof.Machine
end

