-- ==== Sys2Proof/Machine/Sdi.lean ====
section
/-! DEFINITION. What the lines of an SDI link are made of (R376, R378, R383 to R387): two-sample interleave, timing reference
codes, line numbers, line CRCs, payload identifier, timecode and ancillary packets. The rules name SMPTE standards for what the
words are; what is taken from these and not from the rules is log entry 196 (PRESUMED). -/
namespace Sys2Proof.Machine
open Sys2Proof

/-- The code triple of a pixel: R, G, B or Y, Cb, Cr. -/
abbrev Code := Nat × Nat × Nat

/-- The lines of the data structure of a format (R378). -/
def structLines (fmt : Nat) : Nat := if fmt = 1 then 750 else 1125

/-- The line of the data structure that carries line `y` of a stream's picture (R378). -/
def structLine (fmt y : Nat) : Nat := if fmt = 1 then (y + 25) % 750 + 1 else (y + 41) % 1125 + 1

/-- A line of the data structure carries picture (R378, R382). -/
def inPicture (fmt line : Nat) : Bool :=
  if fmt = 1 then decide (26 ≤ line) && decide (line ≤ 745)
  else if fmt = 3 then (decide (21 ≤ line) && decide (line ≤ 560)) || (decide (584 ≤ line) && decide (line ≤ 1123))
  else decide (42 ≤ line) && decide (line ≤ 1121)

/-- The line of a progressive picture that a line of the two segments of FMT 3 carries: even lines in the first segment, odd ones in
the second (R382). -/
def psfLine (line : Nat) : Nat := if line < 564 then 2 * (line - 21) else 2 * (line - 584) + 1

/-- The pixels of a line that sub-image `q` of its two takes: pixel x goes to sub-image ((x >> 1) & 1), at 2 × (x >> 2) + (x & 1)
(R378). -/
def twoSample {α : Type} (q : Nat) (l : List α) : List α := (l.zipIdx.filter (fun p => decide (p.2 / 2 % 2 = q))).map (·.1)

/-- The two streams of FMT 6 share the 1,125 lines of a frame, line by line in turn; as 1,125 is odd, each has every line of its own
1,125-line structure once in two frames (R378) (DEDUCED, log entry 221). -/
def onStream (fmt : Nat) (odd : Bool) (stream line : Nat) : Bool := decide (fmt ≠ 6) || decide ((line + 1 + b2n odd) % 2 = stream)

/-- What link `link` carries of line `y` of its head: the stream, the line of the stream's picture, and the pixels (R378). -/
def streamParts {α : Type} (fmt : Nat) (odd : Bool) (link y : Nat) (l : List α) : List (Nat × Nat × List α) :=
  let four := fun (y : Nat) (l : List α) => ([0, 1] : List Nat).map (fun q => (q + 2 * (y % 2), y / 2, twoSample q l))
  if fmt = 7 ∨ fmt = 8 then four y l
  else if fmt = 9 then (if link / 2 = y % 2 then four (y / 2) (twoSample (link % 2) l) else [])
  else if fmt = 6 then [((structLine fmt y + 1 + b2n odd) % 2, y, l)]
  else [(0, y, l)]

/-- The streams of a link. -/
def streamsOf (fmt : Nat) : Nat := if 7 ≤ fmt then 4 else if fmt = 6 then 2 else 1

/-- A word of nine bits with its complement of bit 8 as bit 9. -/
def ninth (w : Nat) : Nat := w % 512 + (if w.testBit 8 then 0 else 512)

/-- A word of eight bits with even parity as bit 8. -/
def parityWord (w : Nat) : Nat :=
  ninth (w % 256 + (if ((List.range 8).filter (fun i => w.testBit i)).length % 2 = 1 then 256 else 0))

/-- The fourth word of a timing reference code, with its protection bits. -/
def trsWord (f v h : Bool) : Nat :=
  512 + 256 * b2n f + 128 * b2n v + 64 * b2n h + 32 * b2n (v != h) + 16 * b2n (f != h) + 8 * b2n (f != v) + 4 * b2n ((f != v) != h)

/-- The line CRC over one more word: x¹⁸ + x⁵ + x⁴ + 1, least significant bit first. -/
def crc18Word (r : BitVec 18) (w : Nat) : BitVec 18 :=
  (List.range 10).foldl (fun c i => if c.getLsbD 0 != w.testBit i then (c >>> 1) ^^^ 0x23000#18 else c >>> 1) r

/-- The line CRC over runs of words, going on from a value. -/
def crc18 (r : Nat) (l : List (Nat × Nat)) : Nat :=
  (l.foldl (fun c p => (List.range p.1).foldl (fun c _ => crc18Word c p.2) c) (BitVec.ofNat 18 r)).toNat

/-- The words of a list as runs. -/
def asRuns (l : List Nat) : List (Nat × Nat) := l.map (fun w => (1, w))

/-- The word of blanking in a stream. -/
def blankWord (fmt : Nat) (chroma : Bool) : Nat := if chroma ∧ fmt ≠ 5 then 0x200 else 0x040

/-- A timing reference code. -/
def trsCode (f v h : Bool) : List (Nat × Nat) := [(1, 0x3FF), (2, 0), (1, trsWord f v h)]

/-- The two words of a line number. -/
def lineNumber (line : Nat) : List (Nat × Nat) := asRuns [ninth (line % 128 * 4), ninth (line / 128 * 4)]

/-- One line of a stream: EAV, line number, line CRC over the active part before it and over these, the horizontal ancillary space,
SAV and the active part; and the CRC that runs on (PRESUMED, log entry 196). -/
def sdiLine (g : SdiGeo) (stream line : Nat) (chroma : Bool) (crc : Nat) (hanc : List Nat) (act : List (Nat × Nat)) : SdiLine × Nat :=
  let f := decide (g.fmt = 3) && decide (564 ≤ line)
  let v := !inPicture g.fmt line
  let head := trsCode f v true ++ lineNumber line
  let c := crc18 crc head
  ({ stream := stream, chroma := chroma, line := line,
     words := head ++ asRuns [ninth (c % 512), ninth (c / 512)] ++ asRuns hanc ++
       (g.words - g.active - 12 - hanc.length, blankWord g.fmt chroma) :: trsCode f v false ++ act }, crc18 0 act)

/-- Cb of the even and Cr of the odd pixel of each pair, both of the even one's chroma. -/
def chromaWords : List Code → List Nat
  | a :: _ :: r => a.2.1 :: a.2.2 :: chromaWords r
  | [a] => [a.2.1]
  | [] => []

/-- The active words of the two streams of a line of pixels (R376). -/
def activeWords (fmt : Nat) (o : OutputCfg) (chroma : Bool) (l : List Code) : List Nat :=
  if fmt ≠ 5 then (if chroma then chromaWords l else l.map (·.1))
  else
    let gbr := fun (p : Code) => if o.form = 0 then (p.2.1, p.2.2, p.1) else p
    if o.bits = 10 then l.flatMap (fun p => let q := gbr p
                                            if chroma then [q.2.1, 0x040] else [q.1, q.2.2])
    else
      let three := fun (p : Code) (k : Nat) => ninth (64 * bits p.1 k 3 + 8 * bits p.2.1 k 3 + bits p.2.2 k 3)
      l.flatMap (fun p => if chroma then [three p 6, three p 0] else [three p 9, three p 3])

/-- The active words of a line of black (R387). -/
def blackRuns (g : SdiGeo) (chroma : Bool) : List (Nat × Nat) :=
  let l := if chroma then g.blackC else g.black
  if l.all (fun w => decide (w = l.headD 0)) then [(g.active, l.headD 0)] else asRuns (List.replicate (g.active / l.length) l).flatten

/-- An ancillary packet with its flag, from its identifiers and its data. -/
def ancPacket (did sdid : Nat) (data : List Nat) : List Nat :=
  let w := [parityWord did, parityWord sdid, parityWord data.length] ++ data.map parityWord
  [0, 0x3FF, 0x3FF] ++ w ++ [ninth ((w.map (· % 512)).sum)]

/-- The payload identifier of a stream (R383): an override replaces bytes 1 to 3 (DESIGN CHOICE, log entry 204). -/
def pidPacket (c : LaneSet) (g : SdiGeo) (link stream : Nat) : List Nat :=
  let own := Config.freePayloadId (g.key ++ [link, stream])
  let v := if c.pidOverride = 0 then own else own / 2 ^ 24 * 2 ^ 24 + c.pidOverride
  ancPacket 0x41 0x01 ((List.range 4).map (fun i => bits v (8 * i) 8))

/-- The 64 bits of a timecode (R86): its digits, flags and user bits, four bits at a time. The frame-pair flag takes the place that the
field mark has at the base rate. -/
def timeBits (hh mm ss ff : Nat) (drop pair at25 : Bool) (user : Nat) : Nat :=
  let digit := fun (i v : Nat) => (v + 16 * bits user (4 * i) 4) * 256 ^ i
  digit 0 (ff % 10) + digit 1 (ff / 10 + 4 * b2n drop) + digit 2 (ss % 10) + digit 3 (ss / 10 + 8 * b2n (pair && !at25)) +
    digit 4 (mm % 10) + digit 5 (mm / 10) + digit 6 (hh % 10) + digit 7 (hh / 10 + 8 * b2n (pair && at25))

/-- An ancillary timecode packet (R384): 16 words of four bits of the timecode, with a payload type in bit 3 of the first eight. -/
def atcPacket (kind atc : Nat) : List Nat :=
  ancPacket 0x60 0x60 ((List.range 16).map (fun i => 16 * bits atc (4 * i) 4 + (if i < 8 then 8 * bits kind i 1 else 0)))

/-- The packets of an ancillary slot for one space of one line, in slot order (R385, R386). -/
def hostPackets (x : SdiLane) (stream line : Nat) (chroma vanc : Bool) : List Nat :=
  (x.anc.filter (fun p => decide (p.1 = line) && decide (p.2.1 % 4 = stream) && (bit p.2.1 2 == chroma) && (bit p.2.1 3 == vanc))).flatMap
    (fun p => [0, 0x3FF, 0x3FF] ++ p.2.2)

/-- The payload identifier of a line, where it carries one (R383). -/
def linePid (x : SdiLane) (link stream line : Nat) (chroma : Bool) : List Nat :=
  if x.cfg.pid ∧ !chroma ∧ (line = 10 ∨ (x.geo.fmt = 3 ∧ line = 572)) then pidPacket x.cfg x.geo link stream else []

/-- The timecode packets of a line (R384). -/
def lineAtc (x : SdiLane) (line : Nat) (chroma : Bool) : List Nat :=
  if !x.cfg.atc ∨ chroma then []
  else if line = 9 then atcPacket 1 x.atc
  else if x.geo.fmt = 3 ∧ line = 571 then atcPacket 2 x.atc
  else if line = 10 then atcPacket 0 x.atc
  else []

/-- A lane puts out one line of one stream after the others: its packets in the order of R386, and its active part, which is a line
of pixels, or black where the lane's buffer is empty (R380), or the vertical ancillary space. -/
def putLine (o : OutputCfg) (link stream line : Nat) (pix : List Code) (x : SdiLane) : SdiLane :=
  let one := fun (x : SdiLane) (chroma : Bool) =>
    let hanc := linePid x link stream line chroma ++ lineAtc x line chroma ++ hostPackets x stream line chroma false
    let vanc := hostPackets x stream line chroma true
    let act := if !inPicture x.geo.fmt line then asRuns vanc ++ [(x.geo.active - vanc.length, blankWord x.geo.fmt chroma)]
      else if pix.isEmpty ∨ (x.slipDue ∧ x.fill = 0) then blackRuns x.geo chroma
      else asRuns (activeWords x.geo.fmt o chroma pix)
    let k := 2 * stream + b2n chroma
    let r := sdiLine x.geo stream line chroma (tabGet x.crcs k) hanc act
    { x with out := x.out ++ [r.1], crcs := tabSet x.crcs k r.2 }
  one (one x false) true

/-- The lines of the data structure from `a` to `b` that carry no picture of the head line by line, on every stream. -/
def putLines (o : OutputCfg) (link a b : Nat) (x : SdiLane) : SdiLane :=
  forEach ((List.range (b + 1 - a)).map (a + ·)) (fun line x =>
    forUpTo (streamsOf x.geo.fmt) (fun k x => if onStream x.geo.fmt x.odd k line then putLine o link k line [] x else x) x) x

/-- The line of a stream that comes before a line of it (R378). -/
def lineBefore (fmt line : Nat) : Nat :=
  if fmt = 6 then (if line ≤ 2 then line + 1123 else line - 2) else if line = 1 then structLines fmt else line - 1

/-- The frame that a lane without a picture keeps sending (R387): black in the structure of its format, with the payload identifier
and without timecode or host packets; of FMT 6 the two frames that its streams share. -/
def blackFrame (x : SdiLane) (link : Nat) : List SdiLine :=
  let g := x.geo
  let blank := fun (chroma : Bool) => [(g.active, blankWord g.fmt chroma)]
  let ends := fun (chroma : Bool) => (crc18 0 (blank chroma), crc18 0 (blackRuns g chroma))
  let e := (ends false, ends true)
  let one := fun (odd : Bool) => (List.range (structLines g.fmt)).flatMap (fun i =>
    ((List.range (streamsOf g.fmt)).filter (fun k => onStream g.fmt odd k (i + 1))).flatMap (fun k => ([false, true] : List Bool).map (fun chroma =>
    let c := if chroma then e.2 else e.1
    (sdiLine g k (i + 1) chroma (if inPicture g.fmt (lineBefore g.fmt (i + 1)) then c.2 else c.1) (linePid x link k (i + 1) chroma)
      (if inPicture g.fmt (i + 1) then blackRuns g chroma else blank chroma)).1)))
  if g.fmt = 6 then one x.odd ++ one (!x.odd) else one x.odd

end Sys2Proof.Machine
end

