-- ==== Sys2Proof/Machine/Video.lean ====
section
/-! DEFINITION. The SDI lanes and the panel ports: commands 0x0901 to 0x0904 and what heads do to them (R374 to R396). -/
namespace Sys2Proof.Machine
open Sys2Proof

/-- Panel port `p`. -/
def panelAt (s : State) (p : Nat) : Panel := tabGet s.vid.panels p
/-- Change panel port `p`. -/
def modPanel (p : Nat) (f : Panel → Panel) (s : State) : State := { s with vid.panels := tabMod s.vid.panels p f }

/-- The nominal rate in Hz of a frame rate, and whether it is a /1.001 rate, of the rates of R376. -/
def sdiRate (f : Nat × Nat) : Option (Nat × Bool) :=
  if f.2 = 0 then none else
  match ([24, 25, 30, 48, 50, 60] : List Nat).find? (fun n => decide (f.1 = n * f.2)) with
  | some n => some (n, false)
  | none => (([24, 30, 48, 60] : List Nat).find? (fun n => decide (f.1 * 1001 = n * 1000 * f.2))).map (fun n => (n, true))

/-- The rate family of a nominal rate: 0 for 24, 1 for 25, 2 for 30. -/
def rateFamily (n : Nat) : Nat := if n % 24 = 0 ∧ n ≠ 0 then 0 else if n % 25 = 0 then 1 else 2

/-- A row of R376 for a nominal rate: the pictures, HTOTAL and VTOTAL, or none where the format has no such rate. -/
def sdiRow (fmt n : Nat) : Option (List (Nat × Nat) × Nat × Nat) :=
  let low := decide (n ≤ 30)
  let fam := rateFamily n
  let t := fun (a b c : Nat) => if fam = 0 then a else if fam = 1 then b else c
  let hd := [(1920, 1080), (2048, 1080)]
  let uhd := [(3840, 2160), (4096, 2160)]
  match fmt with
  | 1 => if !low ∧ fam ≠ 0 then some ([(1280, 720)], t 0 1980 1650, 750) else none
  | 2 | 3 | 5 => if low then some (hd, t 2750 2640 2200, 1125) else none
  | 4 | 6 => if !low ∧ fam ≠ 0 then some (hd, t 0 2640 2200, 1125) else none
  | 7 => if low then some (uhd, t 5500 5280 4400, 2250) else none
  | 8 => if !low then some (uhd, t 5500 5280 4400, 2250) else none
  | 9 => if !low then some ([(3840, 4320), (4096, 4320)], t 5500 5280 4400, 4500) else none
  | _ => none

/-- A head's timing and output in force fit an SDI format (R377). -/
def sdiFits (s : State) (h fmt : Nat) : Bool :=
  let k := (hdAt s (lowerOf s h)).cfg
  let t := k.timing
  match sdiRate (frameRate s t) with
  | none => false
  | some (n, _) =>
    match sdiRow fmt n with
    | none => false
    | some (pics, ht, vt) =>
      pics.contains (t.hact, t.vact) && decide (hTotal t = ht) && decide (vTotal t = vt) && k.out.clip &&
        (if fmt = 5 then decide (k.out.form ≤ 1) && (decide (k.out.bits = 10) || decide (k.out.bits = 12))
         else decide (k.out.form = 2) && decide (k.out.bits = 10))

/-- A head's configuration in force matches an SDI format (R376, R377): FMT 9 takes a locked pair, the others an unpaired head. -/
def sdiMatches (s : State) (h fmt : Nat) : Bool := sdiFits s h fmt && (pairLocked s h == decide (fmt = 9))

/-- The lanes of a setting of lane `n` (R388). -/
def groupOf (n : Nat) (c : LaneSet) : List Nat := if c.quad then [n, n + 1, n + 2, n + 3] else [n]

/-- Lane `n` follows the base lane of a quad group (R388). -/
def quadFollower (s : State) (n : Nat) : Bool := decide (n % 4 ≠ 0) && (sdiAt s (n / 4 * 4)).cfg.quad && (sdiAt s (n / 4 * 4)).cfg.enabled

/-- The link of its group that a lane is (R388). -/
def linkOf (x : SdiLane) (n : Nat) : Nat := if x.cfg.quad then n % 4 else 0

/-- A lane has its reference: one whose SYN10 or SYN11 is gated sends nothing (R96, R387). -/
def laneClocked (s : State) (n : Nat) : Bool := (sdiAt s n).cfg.enabled && !(synAt s (if (sdiAt s n).ref then 11 else 10)).gated

/-- The structure that a format takes from the head that feeds it (R376, R378, R383). -/
def sdiGeo (s : State) (c : LaneSet) : SdiGeo :=
  let k := (hdAt s (lowerOf s c.head)).cfg
  let m := if c.fmt = 5 then 2 else 1
  let d := if 7 ≤ c.fmt then 2 else 1
  let black := (quantLine { k.out with dither := 0 } 0 0 0 [{}, {}])
  let rate := (sdiRate (frameRate s k.timing)).getD (0, false)
  { fmt := c.fmt, words := m * hTotal k.timing / d, active := m * k.timing.hact / d,
    black := activeWords c.fmt k.out false black, blackC := activeWords c.fmt k.out true black,
    key := [c.fmt, rate.1, b2n rate.2, k.out.form, k.out.bits, k.out.ycc, b2n k.out.full] }

/-- The black frames that a lane has sent on its own, at the rate of its structure (R387) (DEDUCED, log entry 222). -/
def blackSent (s : State) (x : SdiLane) : Nat :=
  match x.blackFrom with
  | none => 0
  | some t =>
    let v := x.geo.key.getD 2 0
    (runTime s - t) * (x.geo.key.getD 1 0 * (if v = 1 then 1000 else 1)) / (secUnits * (if v = 1 then 1001 else 1))

/-- The counters of a lane, with the frames of black among those sent (R387). -/
def sdiCtr (s : State) (x : SdiLane) : SdiCounters := { x.ctr with frames := (x.ctr.frames + blackSent s x) % 2 ^ 32 }

/-- A lane's black frames end. -/
def blackEnd (n : Nat) (s : State) : State := modSdi n (fun x => { x with ctr := sdiCtr s x, blackFrom := none }) s

/-- A lane begins to send black frames, unless it does. -/
def blackStart (n : Nat) (s : State) : State :=
  modSdi n (fun x => if x.blackFrom.isSome then x else { x with crcs := [], out := blackFrame x (linkOf x n), blackFrom := some (runTime s) }) s

/-- A lane that has no picture puts out black, or holds its output (R387) (DEDUCED, log entry 198). -/
def sdiIdle (n : Nat) (s : State) : State :=
  let x := sdiAt s n
  if x.picture then s
  else if x.cfg.held ∨ !laneClocked s n then modSdi n (fun x => { x with crcs := [], out := [] }) (blackEnd n s)
  else blackStart n s

/-- A lane's synthesizer is gated, or its gate opens: it sends nothing, and goes on (R96, R387). -/
def sdiClock (n : Nat) (s : State) : State :=
  if laneClocked s n then sdiIdle n s else modSdi n (fun x => { x with out := [] }) (blackEnd n s)

/-- The lanes follow the gates of their synthesizers (R96, R387). -/
def lanesFollow (f : State → State) (s : State) : State :=
  forUpTo 8 (fun n t => if laneClocked t n = laneClocked s n then t else sdiClock n t) (f s)

/-- How the reference of a FMT 3 lane is told from the others under its head's token. -/
def laneRef (n : Nat) : Nat := 128 + n

/-- A FMT 3 lane that stops sending a picture gives its buffer back (R382). -/
def psfRelease (n : Nat) (s : State) : State :=
  match (sdiAt s n).sent with
  | some (b, t) => (ledgerReleaseFor (laneRef n) b t (modSdi n (fun y => { y with sent := none }) s)).2
  | none => s

/-- Raise event 27 where a flag of a lane has risen (R396). -/
def sdiFlagged (was is : Bool) (s : State) : State := if is ∧ !was then raise 27 s else s

/-- A head's frame rate is one of the /1.001 rates of R376. -/
def slowRate (s : State) (h : Nat) : Bool :=
  match sdiRate (frameRate s (timingOf s (lowerOf s h))) with
  | some (_, v) => v
  | none => false

/-- A lane's state against its head (R377, R379, R387): MISMATCH, with its flag as it is entered, and the synthesizer that its rate
takes. -/
def sdiCheck (n : Nat) (s : State) : State :=
  let x := sdiAt s n
  let on := x.cfg.enabled && headEnabled s x.cfg.head
  let mm := on && !sdiMatches s x.cfg.head x.cfg.fmt
  let seen := x.mismatchSeen || (mm && !x.mismatch)
  let s1 := sdiFlagged x.mismatchSeen seen (modSdi n (fun y => { y with
    mismatch := mm, mismatchSeen := seen, picture := y.picture && !mm && headEnabled s x.cfg.head,
    ref := if on ∧ !mm then slowRate s x.cfg.head else y.ref }) s)
  if (sdiAt s1 n).picture then s1 else sdiIdle n (psfRelease n s1)

/-- The burst that the formatter of a FMT 3 lane has open: its head's frame stands composed in part, so that the lane reads its
buffer (R382, R483) (DESIGN CHOICE, log entry 120). -/
def laneBursts (s : State) (n : Nat) : List (Agent × Bool × Nat) :=
  let y := (hdAt s (lowerOf s (sdiAt s n).cfg.head)).composed
  match (sdiAt s n).sent with
  | some (b, _) => if 0 < y ∧ y < (timingOf s (lowerOf s (sdiAt s n).cfg.head)).vact then
      [(.psfLane n, false, (lineOrigin (bufSurf s b) 0 (psfLine (structLine 3 y))).1)] else []
  | none => []

/-- A lane's settings come into force (R375, R379, R380, R515). -/
def sdiApply (n : Nat) (s : State) : State :=
  let x := sdiAt s n
  match x.pending with
  | none => s
  | some c =>
    let slow := slowRate s c.head
    let geo := sdiGeo s c
    let put := fun (s : State) => forEach (groupOf n c) (fun m s => psfRelease m (modSdi m (fun y =>
      let had := y.hadPicture && c.enabled && decide (y.cfg.fmt = c.fmt)
      { y with cfg := c, pending := none, label := x.pendLabel, ref := slow, fill := 256, slipDue := false, picture := false, hadPicture := had,
               geo := if had then y.geo else geo }) (blackEnd m s))) s
    let was := x.cfg
    let gone := if !was.enabled then (if c.enabled then [] else [n])
      else (groupOf n was).filter (fun m => !c.enabled || !(groupOf n c).contains m)
    let s0 := forEach gone (fun m s => psfRelease m (modSdi m (fun y => { y with
        cfg := { c with enabled := false, quad := false }, pending := none, picture := false, hadPicture := false, mismatch := false, out := [], crcs := [] })
        (blackEnd m (forEach (laneBursts s m) cutBurst s)))) s
    let s1 := if c.enabled then put s0 else s0
    let s2 := if was.enabled ∧ !gone.isEmpty then releaseCost 28 (175 * gone.length) s1 else s1
    let s3 := if !c.enabled ∧ was.enabled ∧ !anyUpTo 8 (fun m => (sdiAt s2 m).cfg.enabled) then queueOff 28 s2 else s2
    finishWait (.sdiLane n) .ok 0 [] (if c.enabled then forEach (groupOf n c) sdiCheck s3 else s3)

/-- The label of the reference frame in progress at an instant, as the 64 bits of its timecode (R384, R86). -/
def tcLabel (s : State) (at_ : Nat) : Nat :=
  let m := markAt s.mag.refMarks at_
  let g := s.time.tc.mode
  timeBits (bits m.tc 24 8) (bits m.tc 16 8) (bits m.tc 8 8) (bits m.tc 0 8) m.drop (decide (m.sub % 2 = 1)) (decide ((tcBase g.base).1 = 25)) g.userBits

/-- The label of a head frame for a lane (R384): at line 0, or at the capture instant of the buffer that its layer shows. -/
def laneLabel (s : State) (c : LaneSet) : Nat :=
  let b := if c.tcSource then (layAt s c.tcLayer).shown else none
  tcLabel s (match b with
    | some b => (bufAt s b).capSec * secUnits + (bufAt s b).capNs * nsUnits
    | none => (hdAt s (lowerOf s c.head)).frameAt)

/-- What timecode and payload identifier describe a head frame with, for a lane's settings (R382 to R384). -/
def frameLabel (s : State) (c : LaneSet) : Nat × List Nat := (laneLabel s c, (sdiGeo s c).key)

/-- A pending setting applies at once where its head is disabled and the lanes have power (R375). -/
def sdiTry (n : Nat) (s : State) : State :=
  match (sdiAt s n).pending with
  | some c => if !headEnabled s c.head ∧ (!c.enabled ∨ ((domAt s 28).level = .on ∧ !(domAt s 28).loading)) then sdiApply n s else s
  | none => s

/-- SDI_LANE_SET (R374 to R377, R388, R511) (DEDUCED, log entry 87). -/
def cmdSdiLaneSet (c : Cmd) (s : State) : CmdRes :=
  let n := c.u8 0
  let f := c.u8 4
  let en := decide (c.u8 1 = 1)
  let k : LaneSet := { enabled := en, head := c.u8 2, fmt := c.u8 3, pid := bit f 0, atc := bit f 1, held := bit f 2, quad := bit f 3, tcSource := bit f 4,
                       tcLayer := c.u8 5, pidOverride := c.un 8 3 }
  let fresh := (groupOf n k).filter (fun m => !(sdiAt s m).cfg.enabled)
  let g : Grant := { doms := [(28, 200, 200)], adds := [(28, 175 * fresh.length, 0)] }
  checks s ([tooShort c 12, rsvIf (decide (31 < f)), rsv c 6 2, rsv c 11 1, bad (decide (7 < n)), bad (decide (1 < c.u8 1)), bad (decide (7 < k.head))] ++
    (if en then [bad (k.quad && decide (n % 4 ≠ 0)), bad (decide (k.fmt = 0) || decide (9 < k.fmt)), bad (k.quad != decide (k.fmt = 9)),
       bad (k.tcSource && decide (63 < k.tcLayer)), badD (!sdiFits s k.head k.fmt) 1, stateIf (quadFollower s n) unstated, upperHeadOut s k.head,
       stateIf (pairLocked s k.head != decide (k.fmt = 9)) 2,
       stateIf (k.quad && [1, 2, 3].any (fun i => (sdiAt s (n + i)).cfg.enabled && !(sdiAt s n).cfg.quad)) unstated]
     else [stateIf (quadFollower s n) unstated]))
    (let go := fun (s : State) =>
       let s1 := modSdi n (fun x => { x with pending := some k, pendLabel := frameLabel s k }) s
       if headEnabled s k.head ∨ (en ∧ ¬((domAt s 28).level = .on ∧ !(domAt s 28).loading)) then CmdRes.wait (.sdiLane n) s1
       else done (sdiApply n s1)
     if en ∧ !fresh.isEmpty then askPower g s go else go s)

/-- SDI_ANC_RING_SET (R385). -/
def cmdSdiAncRingSet (c : Cmd) (s : State) : CmdRes :=
  let n := c.u8 0
  let k := c.u8 1
  let b := c.u32 4
  let a := c.u64 8
  checks s ([tooShort c 16, rsv c 2 2, bad (decide (7 < n)), bad (decide (k = 1) || decide (16 < k))] ++
    (if k = 0 then [] else [bad (decide (b = 0) || decide (b % 4096 ≠ 0) || decide (4194304 < b)), bad (decide (a % 4096 ≠ 0)),
      bad (decide (capacity s < a + k * b)), ownerIf (poolOverlap s a (k * b)) unstated]))
    (done (modSdi n (fun x => { x with ringCount := k, slotBytes := b, ringFsa := a, prod := 0, cons := 0, anc := [] }) s))

/-- The packets of an ancillary slot (R385): line, WHERE and words of each entry. -/
def ancEntries : Nat → List Byte → List (Nat × Nat × List Nat)
  | 0, _ => []
  | n + 1, l =>
    let w := leNat ((l.drop 4).take 2)
    let words := (List.range w).map (fun i => leNat ((l.drop (6 + 2 * i)).take 2) % 1024)
    (leNat (l.take 2), (l.getD 2 0).toNat, words) :: ancEntries n (l.drop (ceilDiv (6 + 2 * w) 4 * 4))

/-- The words that a space of a line takes for host packets (R386): of HANC the words between EAV with its line number and CRC and SAV,
of VANC the active part of a line without picture, less the payload ID and the timecode packets; no words on a line or in a stream that
the link has not, or that the next frame of FMT 6 has on its other stream (PRESUMED, log entry 88). -/
def ancSpace (x : SdiLane) (line wh : Nat) : Nat :=
  let g := x.geo
  let chroma := bit wh 2
  if line = 0 ∨ structLines g.fmt < line ∨ streamsOf g.fmt ≤ wh % 4 ∨ !onStream g.fmt (!x.odd) (wh % 4) line then 0
  else if bit wh 3 then (if inPicture g.fmt line then 0 else g.active)
  else g.words - g.active - 12 - (linePid x 0 (wh % 4) line chroma).length - (lineAtc x line chroma).length

/-- Drop the packets that do not fit their space, with every later one for the same space (R386): those kept, those
dropped. -/
def ancFit (x : SdiLane) (l : List (Nat × Nat × List Nat)) : List (Nat × Nat × List Nat) × Nat :=
  let r := l.foldl (fun (acc : List (Nat × Nat × List Nat) × List (Nat × Nat) × Nat) p =>
    let key := (p.1, p.2.1 % 16)
    let used := ((acc.1.filter (fun q => decide ((q.1, q.2.1 % 16) = key))).map (fun q => 3 + q.2.2.length)).sum
    if acc.2.1.contains key ∨ ancSpace x p.1 p.2.1 < used + 3 + p.2.2.length then (acc.1, acc.2.1 ++ [key], acc.2.2 + 1)
    else (acc.1 ++ [p], acc.2.1, acc.2.2)) (([], [], 0) : List (Nat × Nat × List Nat) × List (Nat × Nat) × Nat)
  (r.1, r.2.2)

/-- At its head's blanking the formatter takes the next ancillary slot (R386); equal counts leave the frame without packets, a lane
without a ring among them (DEDUCED, log entry 223). -/
def ancTake (n : Nat) (s : State) : State :=
  let x := sdiAt s n
  if !x.cfg.enabled then s
  else if x.prod = x.cons then
    sdiFlagged x.ancEmpty true (modSdi n (fun y => { y with anc := [], ancEmpty := true, ctr.ancEmpty := (y.ctr.ancEmpty + 1) % 2 ^ 32 }) s)
  else if x.ringCount = 0 then modSdi n (fun y => { y with anc := [] }) s
  else
    let r := fsRead (x.ringFsa + x.cons % x.ringCount * x.slotBytes) x.slotBytes s
    let f := ancFit x (ancEntries (leNat (r.1.take 2)) (r.1.drop 8))
    sdiFlagged x.ancDrop (x.ancDrop || decide (0 < f.2)) (modSdi n (fun y => { y with
      anc := f.1, cons := (y.cons + 1) % 256, ancDrop := y.ancDrop || decide (0 < f.2), ctr.ancDrop := (y.ctr.ancDrop + f.2) % 2 ^ 32 }) r.2.2)

/-- A FMT 3 lane takes the buffer that write-back has published for the frame before the one that begins, or the frozen one (R382);
else it repeats the last. -/
def psfTake (n : Nat) (s : State) : State :=
  let x := sdiAt s n
  let d := hdAt s x.cfg.head
  let tok := headToken s x.cfg.head
  let want := match d.wb.frozenBuf with
    | some b => some b
    | none => d.wb.last.filter (fun b => decide ((bufAt s b).frame = ((d.frame - 1) % 2 ^ 64).toNat))
  match want with
  | none => s
  | some b =>
    if x.sent = some (b, tok) then s else
    match takeRefFor (laneRef n) false b tok s with
    | (false, s1) => s1
    | (true, s1) =>
      let s2 := match x.sent with
        | some (o, t) => (ledgerReleaseFor (laneRef n) o t s1).2
        | none => s1
      modSdi n (fun y => { y with sent := some (b, tok), atc := y.label.1, geo.key := y.label.2 }) s2

/-- The frame that begins is described for a lane that is fed by its head, or is to be (R382, R384). -/
def labelNext (h n : Nat) (s : State) : State :=
  let x := sdiAt s n
  let s1 := if x.cfg.enabled ∧ x.cfg.head = h then modSdi n (fun y => { y with label := frameLabel s x.cfg }) s else s
  match x.pending with
  | some c => if c.enabled ∧ c.head = h then modSdi n (fun y => { y with pendLabel := frameLabel s c }) s1 else s1
  | none => s1

/-- SDI lanes at their head's frame start: a slip restarts the frame (R380), a frame is sent under its timecode (R384), and FMT 3
chooses its buffer, whose timecode is that of its own frame (R382). -/
def sdiFrameStart (h : Nat) (s0 : State) : State :=
  forUpTo 8 (fun n s0 =>
    let x := sdiAt s0 n
    if !laneClocked s0 n ∨ x.cfg.head ≠ h ∨ x.mismatch then labelNext h n s0
    else
      let s := blackEnd n s0
      let s1 := if x.slipDue then sdiFlagged x.slip true (modSdi n (fun y => { y with
        slipDue := false, fill := 256, slip := true, ctr.slips := (y.ctr.slips + 1) % 2 ^ 32 }) s) else s
      let own := sdiGeo s1 x.cfg
      let s2 := modSdi n (fun y => { y with
        picture := true, hadPicture := true, odd := !y.odd, geo := if x.cfg.fmt = 3 then { own with key := y.geo.key } else own,
        ctr.frames := (y.ctr.frames + 1) % 2 ^ 32 }) s1
      if x.cfg.fmt = 3 then labelNext h n (psfTake n s2)
      else labelNext h n (modSdi n (fun y => { y with atc := laneLabel s1 x.cfg }) s2)) s0

/-- SDI_SLIP (R380, R388): the fill moves; out of its bounds the lane is to slip, a quad group together. An empty buffer of a head
whose raster its gate holds leaves black lines. -/
def sdiSlip (n fill : Nat) (s : State) : State :=
  let x := sdiAt s n
  if !x.cfg.enabled then s
  else if 32 ≤ fill ∧ fill ≤ 480 then modSdi n (fun y => { y with fill := fill }) s
  else
    let l := if x.cfg.quad then groupOf (n / 4 * 4) x.cfg else [n]
    let s1 := forEach l (fun m => modSdi m (fun y => { y with fill := fill, slipDue := true })) s
    if fill = 0 ∧ (synAt s (lowerOf s x.cfg.head)).gated then
      forEach (l.filter (fun m => laneClocked s m && (sdiAt s m).picture)) blackStart s1
    else s1

/-- The bits per pixel of a data type (R389). -/
def panelBpp (dt : Nat) : Nat := if dt = 0x3E then 24 else 30

/-- A panel configuration meets R389 to R391 and R395 for its head in force (DEDUCED, log entry 89). -/
def panelOk (s : State) (p : Nat) (c : PanelCfg) : Bool :=
  let k := (hdAt s (lowerOf s c.head)).cfg
  let t := k.timing
  let f := frameRate s t
  let whole := c.half = 0 ∧ pairLocked s c.head
  let m := if whole then 2 else 1
  let bpp := panelBpp c.dt
  let r := m * hTotal t * vTotal t * f.1
  decide (k.out.form = 0) && decide (k.out.bits = if c.dt = 0x3E then 8 else 10) &&
    (decide (c.half = 0) || (pairLocked s c.head && decide (p % 2 + 1 = c.half))) &&
    (if c.mode ≤ 1 then
       decide (m * hTotal t * bpp % (8 * c.lanes) = 0) && decide (80000000 * c.lanes * f.2 ≤ r * bpp) && decide (r * bpp ≤ 4500000000 * c.lanes * f.2)
     else
       let w := m * t.hact
       let left := ((10 * 8 + w * bpp) * 1000 + 600 * c.lanes * c.mbps) * vTotal t * f.1
       decide (left ≤ 1000000000 * c.lanes * c.mbps * f.2))

/-- The lane rate of a port as Mbit/s × `d`, over `d` (R390). -/
def panelRate (s : State) (c : PanelCfg) : Nat × Nat :=
  let t := timingOf s c.head
  let f := frameRate s t
  let m := if c.half = 0 ∧ pairLocked s c.head then 2 else 1
  if c.mode = 2 then (c.mbps, 1) else (m * hTotal t * vTotal t * f.1 * panelBpp c.dt, 1000000 * c.lanes * f.2)

/-- The frequency of a port's D-PHY PLL as a fraction of a lane rate of 1 Mbit/s: it follows the offset of its head (R390, R101). -/
def panelPll (s : State) (p : Nat) : Int × Nat :=
  let r := panelRate s (panelAt s p).cfg
  (r.1 * (1000000000000000 + (panelAt s p).uppb), r.2 * 1000000000000000)

/-- The PLLs of the ports of a head follow its offset, as it was set last (R390). -/
def panelFollow (h : Nat) (s : State) : State :=
  forUpTo 4 (fun p s => if (pairOf s h).contains (panelAt s p).cfg.head ∧ (panelAt s p).state ≠ .off then
    modPanel p (fun x => { x with uppb := (tabGet s.time.tb.heads x.cfg.head).offsetUppb }) s else s) s

/-- A port's lane rate calls for skew calibration (R389). -/
def skewRate (s : State) (c : PanelCfg) : Bool := decide (1500 * (panelRate s c).2 < (panelRate s c).1)

/-- A DCS packet as it is sent (R394). -/
def dcsBytes (k : DcsPacket) : List Byte := dsiBytes { dt := k.dt, long := decide (k.dt = 0x29 ∨ k.dt = 0x39), data := k.data }

/-- A line of video of port `p` (R389 to R391). -/
def panelLine (s : State) (p y : Nat) (skew : Bool) (body : List DsiPacket) : DsiLine :=
  let c := (panelAt s p).cfg
  dsiLine c (timingOf s c.head) (panelBpp c.dt) (if c.half = 0 ∧ pairLocked s c.head then 2 else 1) y skew body

/-- The lines of vertical blanking from `a` on that a port sends (R390). -/
def panelBlank (p a : Nat) (first : Bool) (s : State) : State :=
  let t := timingOf s (panelAt s p).cfg.head
  modPanel p (fun x => { x with out := (List.range (vTotal t - a)).map (fun i => panelLine s p (a + i) (first && decide (i = 0)) []) }) s

/-- Raise event 28 where a port's flag has risen (R396). -/
def panelFlag (p : Nat) (s : State) : State :=
  if (panelAt s p).mismatchSeen then s else raise 28 (modPanel p (fun x => { x with mismatchSeen := true }) s)

/-- The packets of a shutdown list that may start by now, each its delay after the one before (R393, R394). -/
def sendList (now : Nat) : List DcsPacket → Panel → Panel
  | [], x => { x with queue := [] }
  | k :: r, x =>
    if now < x.due then { x with queue := k :: r }
    else sendList now r { x with sent := x.sent ++ [(false, dcsBytes k)], dcs := (x.dcs + 1) % 2 ^ 32, due := now + k.delay * 1000000 * nsUnits }

/-- A port that runs its shutdown list goes on with it, and is OFF once the list and its last delay are done (R393, R394, R515). -/
def panelGoOn (p : Nat) (s : State) : State :=
  let s1 := modPanel p (fun x => sendList (runTime s) x.queue { x with sent := if x.queue.isEmpty then x.sent else [] }) s
  let x := panelAt s1 p
  if x.leaving ∧ x.queue = [] ∧ x.due ≤ runTime s then
    let s2 := releaseCost 29 175 (modPanel p (fun x => { x with state := .off, leaving := false, resume := false }) s1)
    let s3 := if anyUpTo 4 (fun k => decide ((panelAt s2 k).state ≠ .off)) then s2 else queueOff 29 s2
    finishWait (.panel p) .ok 0 [] s3
  else s1

/-- Every port goes on with its shutdown list, as a reference raster frame begins (DESIGN CHOICE, log entry 224). -/
def panelsGoOn (s : State) : State :=
  forUpTo 4 (fun p s => if (panelAt s p).leaving ∨ (panelAt s p).queue ≠ [] then panelGoOn p s else s) s

/-- The stored shutdown list begins to run, unless it runs. -/
def startList (p : Nat) (s : State) : State :=
  if (panelAt s p).queue ≠ [] then s else panelGoOn p (modPanel p (fun x => { x with queue := x.list }) s)

/-- HS ends after the line in progress (R393), with an end-of-transmission packet where the port sends these and its burst has lasted
since video started (R389). -/
def endHs (p : Nat) (s : State) : State :=
  modPanel p (fun x =>
    let last := (x.out.map (fun d => d.line)).getLastD 0
    { x with running := false, out := if x.running ∧ x.cfg.eotp ∧ x.cfg.mode ≤ 1 then [{ line := last, packets := [eotPacket], lp := true }] else [] }) s

/-- A port leaves VIDEO (R393): HS ends and the stored shutdown list is run. -/
def leaveVideo (p : Nat) (s : State) : State :=
  if (panelAt s p).state = .video then startList p (modPanel p (fun x => { x with state := .standby, resume := false }) (endHs p s)) else endHs p s

/-- A port stands by for its head or for a mismatch, and resumes by itself (R392, R393). -/
def panelStandby (p : Nat) (s : State) : State :=
  if (panelAt s p).state = .video then modPanel p (fun x => { x with resume := true }) (leaveVideo p s) else s

/-- A port's configuration against its head's landing (R392). -/
def panelCheck (p : Nat) (s : State) : State :=
  let x := panelAt s p
  let ok := panelOk s p x.cfg && headEnabled s x.cfg.head
  if x.state = .video ∧ !ok then
    (if headEnabled s x.cfg.head then panelFlag p (panelStandby p s) else panelStandby p s)
  else if x.state = .standby ∧ x.resume ∧ ok then modPanel p (fun x => { x with state := .video, resume := false }) s
  else s

/-- The other port of a split panel (R395). -/
def otherPort (p : Nat) : Nat := if p % 2 = 0 then p + 1 else p - 1

/-- The ports that a setting of a half changes together (R395): the other port where it is the other half, or where it is OFF and both
are to enter INIT (DEDUCED, log entry 225). -/
def panelGroup (s : State) (p action : Nat) (c : PanelCfg) : List Nat :=
  let y := panelAt s (otherPort p)
  if c.half = 0 then [p]
  else if y.state = .off then (if action = 1 then [p, otherPort p] else [p])
  else if y.cfg.half ≠ 0 ∧ y.cfg.head = c.head then [p, otherPort p] else [p]

/-- A port enters the state of an ACTION (R393, R515) (DEDUCED, log entry 90). -/
def panelEnter (p action : Nat) (s : State) : State :=
  let x := panelAt s p
  match action with
  | 0 => if x.state = .off then s else panelGoOn p (modPanel p (fun x => { x with leaving := true, resume := false })
      (if x.state = .video then leaveVideo p s else startList p s))
  | 1 => modPanel p (fun x => { x with state := .init, resume := false, leaving := false }) s
  | 2 =>
    let s1 := modPanel p (fun x => { x with leaving := false }) s
    if !headEnabled s x.cfg.head then modPanel p (fun x => { x with state := .standby, resume := true }) s1
    else if panelOk s p x.cfg then modPanel p (fun x => { x with state := .video, resume := false }) s1
    else panelFlag p (modPanel p (fun x => { x with state := .standby, resume := true }) (endHs p s1))
  | _ => modPanel p (fun x => { x with state := .standby, resume := false, leaving := false }) (leaveVideo p s)

/-- A port's pending settings come into force (R375, R395). -/
def panelApply (p : Nat) (s : State) : State :=
  match (panelAt s p).pending with
  | none => s
  | some (a, c) =>
    let g := panelGroup s p a c
    let s1 := modPanel p (fun x => { x with cfg := c, pending := none }) s
    let s2 := forEach g (fun k s => if k ≠ p ∧ (panelAt s k).state = .off then modPanel k (fun x => { x with cfg := { c with half := 3 - c.half } }) s else s) s1
    let s3 := forEach g (fun k s => if a = 1 ∧ (panelAt s k).state = .init then s else panelEnter k a s) s2
    if (panelAt s3 p).leaving then s3 else finishWait (.panel p) .ok 0 [] s3

/-- A pending setting applies at once where its head is disabled, or for INIT, once the ports have power (R375). -/
def panelTry (p : Nat) (s : State) : State :=
  match (panelAt s p).pending with
  | some (a, c) =>
    let power := a = 0 ∨ ((domAt s 29).level = .on ∧ !(domAt s 29).loading)
    if power ∧ !headEnabled s c.head then panelApply p s else s
  | none => s

/-- A DCS list holds port `p` (R394). -/
def dcsHeld (s : State) (p : Nat) : Bool :=
  (openJobs s).any (fun j => match j with
    | .dcs k _ _ => decide (k = p)
    | _ => false)

/-- PANEL_PORT_SET (R389 to R395, R511). -/
def cmdPanelPortSet (c : Cmd) (s : State) : CmdRes :=
  let p := c.u8 0
  let a := c.u8 1
  let f := c.u8 7
  let k : PanelCfg := { head := c.u8 2, half := c.u8 3, lanes := c.u8 4, mode := c.u8 5, dt := c.u8 6, eotp := bit f 0, deskew := bit f 1, mbps := c.u16 8 }
  let x := panelAt s p
  let q := panelAt s (otherPort p)
  let fresh := (panelGroup s p a k).filter (fun m => decide ((panelAt s m).state = .off))
  let g : Grant := { doms := [(29, 100, 100)], adds := [(29, 175 * fresh.length, 0)] }
  checks s [tooShort c 12, rsvIf (decide (3 < f)), rsv c 10 2, bad (decide (3 < p)), bad (decide (3 < a)), bad (decide (7 < k.head)), bad (decide (2 < k.half)),
    badD (decide (k.lanes = 0) || decide (4 < k.lanes)) 1, badD (decide (2 < k.mode)) 1, badD (decide (k.dt ≠ 0x3E) && decide (k.dt ≠ 0x0D)) 1,
    badD (decide (k.mode = 2) && (decide (k.mbps < 80) || decide (4500 < k.mbps))) 1,
    badD (decide (a ≠ 0) && !panelOk s p k) 1, upperHeadOut s k.head,
    stateIf (decide (a = 1) && decide (x.state ≠ .off) && !(decide (x.state = .init) && decide (k.half ≠ 0))) unstated, stateIf ((decide (a = 2) || decide (a = 3)) && decide (x.state = .off)) unstated,
    stateIf (decide (a ≠ 0) && decide (k.half ≠ 0) && decide (q.state ≠ .off) && decide (q.cfg.half ≠ 0) &&
      (decide ((q.cfg.mode, q.cfg.lanes, q.cfg.dt) ≠ (k.mode, k.lanes, k.dt)) || (decide (k.mode = 2) && decide (q.cfg.mbps ≠ k.mbps)))) 3, busyIf (dcsHeld s p) 0]
    (let go := fun (s : State) =>
       let s1 := modPanel p (fun x => { x with pending := some (a, k) }) s
       if headEnabled s k.head ∨ (a = 1 ∧ ¬((domAt s 29).level = .on ∧ !(domAt s 29).loading)) then CmdRes.wait (.panel p) s1
       else
         let s2 := panelApply p s1
         if (panelAt s2 p).leaving then .wait (.panel p) s2 else done s2
     if a = 1 ∧ !fresh.isEmpty then askPower g s go else go s)

/-- A short DSI data type (R394). -/
def dcsShort (dt : Nat) : Bool := ([0x03, 0x13, 0x23, 0x05, 0x15] : List Nat).contains dt
/-- A long DSI data type. -/
def dcsLong (dt : Nat) : Bool := decide (dt = 0x29) || decide (dt = 0x39)

/-- The entries of a DCS list, or none where one is not as PANEL_DCS_SEND gives it, with the bytes left over. -/
def dcsEntries : Nat → List Byte → Option (List DcsPacket)
  | 0, _ => some []
  | n + 1, l =>
    let dt := (l.getD 0 0).toNat
    let len := leNat ((l.drop 2).take 2)
    if l.length < 4 + len ∨ ¬(dcsShort dt ∨ dcsLong dt) ∨ (dcsShort dt ∧ 2 < len) ∨ 1024 < len then none
    else (dcsEntries n (l.drop (4 + ceilDiv len 4 * 4))).map
      (fun r => { dt := dt, delay := (l.getD 1 0).toNat, data := (l.drop 4).take len } :: r)

/-- The bytes that `n` entries of a DCS list take, each padded to a multiple of 4 (R34 order 7, R598). -/
def dcsNeed : Nat → List Byte → Nat
  | 0, _ => 0
  | n + 1, l =>
    let k := 4 + ceilDiv (leNat ((l.drop 2).take 2)) 4 * 4
    k + dcsNeed n (l.drop k)

/-- Send one packet on a port (R394), not before the delay of the one before has run: in VIDEO in HS, inside the blanking of the next
vertical blanking line, and not until a line is left; else in LP escape mode. -/
def dcsSend (p : Nat) (k : DcsPacket) (s : State) : Option State :=
  let x := panelAt s p
  let h := lowerOf s x.cfg.head
  let put := fun (hs : Bool) => modPanel p (fun x => { x with
    sent := [(hs, dcsBytes k)], dcs := (x.dcs + 1) % 2 ^ 32, due := runTime s + k.delay * 1000000 * nsUnits })
  if !x.queue.isEmpty ∨ runTime s < x.due then none
  else if x.state ≠ .video then some (put false s)
  else if !x.running ∨ !(hdAt s h).inBlank ∨ vTotal (timingOf s h) ≤ x.dcsLine then none
  else
    let line := panelLine s p x.dcsLine false [{ dt := k.dt, long := decide (k.dt = 0x29 ∨ k.dt = 0x39), data := k.data }]
    some (modPanel p (fun x => { x with dcsLine := x.dcsLine + 1, out := [line] }) (put true s))

/-- Packet `d` of the list of a PANEL_DCS_SEND is sent (R394); none while it has to wait. -/
def dcsStep (p n d : Nat) (params : List Byte) (s : State) : Option State :=
  dcsSend p (((dcsEntries n (params.drop 4)).getD []).getD d {}) s

/-- The delay after the last packet of a port has run (R394). -/
def dcsRested (s : State) (p : Nat) : Bool := decide ((panelAt s p).due ≤ runTime s)

/-- PANEL_DCS_SEND (R394): each entry is one step. -/
def cmdPanelDcsSend (c : Cmd) (s : State) : CmdRes :=
  let p := c.u8 0
  let n := c.u16 2
  let l := dcsEntries n (c.params.drop 4)
  checks s [tooShort c 4, bad (decide (3 < p)), bad (decide (1 < c.u8 1)), bad (decide (512 < n)), bad l.isNone,
    stateIf (decide (c.u8 1 = 0) && decide ((panelAt s p).state = .off)) unstated, busyIf (dcsHeld s p) 0]
    (if c.u8 1 = 1 then .accept (.dcs p n n) (some (.ok, 0, [])) (modPanel p (fun x => { x with list := l.getD [] }) s)
     else if n = 0 then .accept (.dcs p 0 0) (some (.ok, 0, [])) s
     else match dcsStep p n 0 c.params s with
       | some s1 => .accept (.dcs p n 1) (if n = 1 ∧ dcsRested s1 p then some (.ok, 0, []) else none) s1
       | none => .accept (.dcs p n 0) none s)

/-- PANEL_VIDEO_START (R393): video starts with VSS at the head's vertical sync, after the initial skew calibration (R389). -/
def panelVideoStart (p : Nat) (s : State) : State :=
  let x := panelAt s p
  if x.state = .video ∧ !x.running ∧ x.queue.isEmpty ∧ headEnabled s x.cfg.head then
    panelBlank p (let t := timingOf s x.cfg.head
                  t.vact + t.vfp) (skewRate s x.cfg) (modPanel p (fun x => { x with
      running := true, dcsLine := let t := timingOf s x.cfg.head
                                  t.vact + t.vfp }) s)
  else s

/-- The lines of vertical blanking begin on the ports of a head; with PERIODIC_DESKEW the first with skew calibration (R389, R390). -/
def panelBlanking (h : Nat) (s : State) : State :=
  forUpTo 4 (fun p s => let x := panelAt s p
    if x.running ∧ x.cfg.head = h then
      let v := (timingOf s h).vact
      panelBlank p v (x.cfg.deskew && skewRate s x.cfg) (modPanel p (fun x => { x with dcsLine := v + 1 }) s)
    else s) s

/-- The ports of a head count the frame they begin. -/
def panelFrameStart (h : Nat) (s : State) : State :=
  forUpTo 4 (fun p s => if (panelAt s p).running ∧ (panelAt s p).cfg.head = h then modPanel p (fun x => { x with frames := (x.frames + 1) % 2 ^ 32 }) s else s) s

/-- At sample 0 of line VACT of a head the settings that name it apply, and the slots are taken (R375, R386). -/
def vidBlanking (h : Nat) (s : State) : State :=
  let s1 := forUpTo 8 (fun n s => match (sdiAt s n).pending with
    | some c => if c.head = h ∧ (!c.enabled ∨ ((domAt s 28).level = .on ∧ !(domAt s 28).loading)) then sdiApply n s else s
    | none => s) s
  let s2 := forUpTo 4 (fun p s => match (panelAt s p).pending with
    | some (a, c) => if c.head = h ∧ (a ≠ 1 ∨ ((domAt s 29).level = .on ∧ !(domAt s 29).loading)) then panelApply p s else s
    | none => s) s1
  panelBlanking h (forUpTo 8 (fun n s => if (sdiAt s n).cfg.enabled ∧ (sdiAt s n).cfg.head = h then ancTake n s else s) s2)

/-- After a landing on a head, or its disable, its lanes and ports are looked at anew (R377, R387, R392, R393). -/
def vidCheck (h : Nat) (s : State) : State :=
  let s1 := forUpTo 8 (fun n s => if (sdiAt s n).cfg.enabled ∧ (sdiAt s n).cfg.head = h then sdiCheck n s else s) s
  let s2 := forUpTo 4 (fun p s => if (panelAt s p).cfg.head = h then panelCheck p s else s) s1
  if headEnabled s h then s2 else forUpTo 4 panelTry (forUpTo 8 sdiTry s2)

/-- In HOLDUP the ports go OFF without their lists and the lanes are disabled (R520). -/
def vidHoldup (s : State) : State :=
  let s1 := forUpTo 4 (fun p s => if (panelAt s p).state = .off then s else
    releaseCost 29 175 (modPanel p (fun x => { x with
      state := .off, resume := false, running := false, leaving := false, queue := [], out := [], pending := none }) s)) s
  forUpTo 8 (fun n s => if (sdiAt s n).cfg.enabled then
    releaseCost 28 175 (psfRelease n (modSdi n (fun x => { x with cfg := { x.cfg with enabled := false }, pending := none, picture := false, mismatch := false, out := [] })
      (blackEnd n (forEach (laneBursts s n) cutBurst s)))) else s) s1

end Sys2Proof.Machine
end

