-- ==== Sys2Proof/Machine/Output.lean ====
section
/-! DEFINITION. What the output formatters put out as a head's lines come (R378, R380 to R382, R386, R389 to R391), and the reading
of stored pictures. A line is formatted when it is composed, or as its frame begins where it was composed before (log entry 199). -/
namespace Sys2Proof.Machine
open Sys2Proof

/-- The codes that a surface stores for a line (R336): three per pixel, the odd pixels of 4:2:2 without chroma. -/
def storedLine (u : Surf) (g : Nat → Byte) (w y : Nat) : List (Nat × Nat × Nat) :=
  (List.range w).map (fun x =>
    let c := fun i => readComp g (compAt u x y i)
    if fam422 u.lay.fam ∧ x % 2 = 1 then (c 0, 0, 0) else (c 0, c 1, c 2))

/-- How the reference of a FROZEN head is told from the others under its token (R335). -/
def frozenRef : Nat := 65

/-- Line `y` of a stored picture is read under a head's token for one use of it (R336, R248, R382). -/
def storedCodes (holder h w y b : Nat) (s : State) : List (Nat × Nat × Nat) × State :=
  let u := bufSurf s b
  if !lineValid s b y then
    ((List.range w).map (fun x => if fam422 u.lay.fam ∧ x % 2 = 1 then (blackCode u 0, 0, 0) else (blackCode u 0, blackCode u 1, blackCode u 2)),
      holeRead holder b (headToken s h) s)
  else
    let need := ((List.range w).flatMap (fun x => pixelLines u x y)).eraseDups
    let r := need.foldl (fun (acc : Tab (List Byte) × State) n =>
      let v := bufReadLine b n acc.2
      let s1 := if v.2.1 then forEach (pairOf s h) (fun j => chargeFrame j 7) v.2.2 else v.2.2
      (tabSet acc.1 n (if v.2.1 then List.replicate 64 0 else v.1), s1)) (([], s) : Tab (List Byte) × State)
    (storedLine u (fun a => (tabGet r.1 (a / 64)).getD (a % 64) 0) w y, r.2)

/-- The lanes fed by a head with a picture to send (R387). -/
def lanesOf (s : State) (h : Nat) : List Nat :=
  (List.range 8).filter (fun n => laneClocked s n && decide ((sdiAt s n).cfg.head = h) && (sdiAt s n).picture)

/-- The ports fed by a head in which video runs (R393). -/
def panelsOf (s : State) (h : Nat) : List Nat :=
  (List.range 4).filter (fun p => (panelAt s p).running && decide ((panelAt s p).cfg.head = h))

/-- What the formatters of a head put out last gives way to what follows. -/
def clearOut (h : Nat) (s : State) : State :=
  forEach (panelsOf s h) (fun p => modPanel p (fun x => { x with out := [] })) (forEach (lanesOf s h) (fun n => modSdi n (fun x => { x with out := [] })) s)

/-- A FMT 3 lane puts out a line of its data structure: a line of the picture it sends, or black until it has one (R382). -/
def psfPut (n line : Nat) (s : State) : State :=
  let x := sdiAt s n
  let h := lowerOf s x.cfg.head
  let o := (hdAt s h).cfg.out
  let r := match x.sent with
    | some (b, _) => if inPicture 3 line then storedCodes (laneRef n) h x.geo.active (psfLine line) b s else ([], s)
    | none => ([], s)
  modSdi n (putLine o 0 0 line r.1) r.2

/-- A lane puts out line `y` of its head (R378). -/
def lanePut (n y : Nat) (l : List Code) (s : State) : State :=
  let x := sdiAt s n
  let o := (hdAt s (lowerOf s x.cfg.head)).cfg.out
  let link := linkOf x n
  if x.geo.fmt = 3 then psfPut n (structLine 3 y) s
  else modSdi n (forEach (streamParts x.geo.fmt x.odd link y l) (fun p => putLine o link p.1 (structLine x.geo.fmt p.2.1) p.2.2)) s

/-- A lane puts out lines `a` to `b` of its data structure, which no line of its head's picture comes in. -/
def lanePutLines (n a b : Nat) (s : State) : State :=
  let x := sdiAt s n
  let o := (hdAt s (lowerOf s x.cfg.head)).cfg.out
  if x.geo.fmt = 3 then forEach ((List.range (b + 1 - a)).map (a + ·)) (fun line => psfPut n line) s
  else modSdi n (putLines o (linkOf x n) a b) s

/-- A port puts out line `y` of its head: the columns of its half (R374, R390, R395). -/
def portPut (p y : Nat) (l : List Code) (s : State) : State :=
  let c := (panelAt s p).cfg
  let n := (timingOf s c.head).hact
  let own := if c.half = 1 then l.take n else if c.half = 2 then l.drop n else l
  modPanel p (fun x => { x with out := x.out ++ [panelLine s p y false [pixelPacket c.dt own]] }) s

/-- A line is handed to the formatters of its head (R374) (DESIGN CHOICE, log entry 199). -/
def handLine (h y : Nat) (l : List Code) (s : State) : State :=
  forEach (panelsOf s h) (fun p => portPut p y l) (forEach (lanesOf s h) (fun n => lanePut n y l) s)

/-- A frame begins in the formatters: the lines of the data structure before its picture, and the lines composed already. -/
def outFrameStart (h : Nat) (s : State) : State :=
  let s1 := clearOut h s
  let s2 := forEach (lanesOf s1 h) (fun n s => lanePutLines n 1 (structLine (sdiAt s n).geo.fmt 0 - 1) s) s1
  modHd h (fun x => { x with ahead := [] }) (forEach ((hdAt s2 h).ahead.zipIdx) (fun q => handLine h q.2 q.1.2) s2)

/-- A picture ends in the lanes: the lines of the data structure after it (R378). -/
def outFrameEnd (h : Nat) (s : State) : State :=
  let s1 := forEach (lanesOf s h) (fun n => modSdi n (fun x => { x with out := [] })) s
  forEach (lanesOf s1 h) (fun n s =>
    let f := (sdiAt s n).geo.fmt
    lanePutLines n (if f = 1 then 746 else 1122) (structLines f) s) s1

end Sys2Proof.Machine
end

