-- ==== Sys2Proof/Machine/Compose.lean ====
section
/-! DEFINITION. The composition of a line: fetch, layers, blend, output stages, region actions and write-back bytes (R248 to
R257, R263, R295 to R299, R333, R336, R368, R640). -/
namespace Sys2Proof.Machine
open Sys2Proof

/-- The destination of a layer (R249): its left, its top, its width and its height. -/
def destOf (video : Bool) (k : LayerCfg) : Int × Int × Nat × Nat :=
  if video then (k.geo.dx, k.geo.dy, k.geo.dw, k.geo.dh) else (k.geo.dx, k.geo.dy, orientW k.src, orientH k.src)

/-- The visible columns of a destination on an active area of width `w` (R249): first and one past the last. -/
def visCols (w : Nat) (d : Int × Int × Nat × Nat) : Nat × Nat := ((clampI 0 w d.1).toNat, (clampI 0 w (d.1 + d.2.2.1)).toNat)
/-- The visible lines of a destination on an active area of height `v`. -/
def visRows (v : Nat) (d : Int × Int × Nat × Nat) : Nat × Nat := ((clampI 0 v d.2.1).toNat, (clampI 0 v (d.2.1 + d.2.2.2)).toNat)

/-- The layer has a buffer to show and is not shed: it may have pixels (R296). -/
def layerLive (x : Layer) : Bool := decide (x.cfg.src.kind ≠ 0) && x.shown.isSome && !x.shed

/-- The vertical filter of output line `j` of a video layer: weights and lines of the pre-decimated image (R275); one
line of weight 4,096 where the filter is bypassed. -/
def rowTaps (s : State) (k : LayerCfg) (j : Nat) : List (Int × Nat) :=
  let w := orientW k.src
  let h := orientH k.src
  let f := predec k.video w h k.geo.dw k.geo.dh
  if f.2 = 1 ∧ k.geo.dh = h then [(4096, j)]
  else filterTaps k.video.vset (tabGet s.pic.coefs k.video.vset) true (scalerStep (ceilDiv h f.2) k.geo.dh) (ceilDiv h f.2) j

/-- The horizontal filter of output pixel `i`. -/
def colTaps (s : State) (k : LayerCfg) (i : Nat) : List (Int × Nat) :=
  let w := orientW k.src
  let h := orientH k.src
  let f := predec k.video w h k.geo.dw k.geo.dh
  if f.1 = 1 ∧ k.geo.dw = w then [(4096, i)]
  else filterTaps k.video.hset (tabGet s.pic.coefs k.video.hset) false (scalerStep (ceilDiv w f.1) k.geo.dw) (ceilDiv w f.1) i

/-- A filter over pixels (R275). -/
def filterPx (taps : List (Int × Nat)) (img : Nat → Px) : Px := (pxSum (taps.map (fun t => (t.1, img t.2)))).map (fun v => clamp24 (rnd v 12))

/-- The pixel of a video layer at (i, j) of its destination, given its decoded oriented image (R263 steps 3 to 6). -/
def scaledPx (s : State) (k : LayerCfg) (img : Nat → Nat → Px) (i j : Nat) : Px :=
  let w := orientW k.src
  let h := orientH k.src
  let f := predec k.video w h k.geo.dw k.geo.dh
  let pre := fun x y => predecPixel img w h f.1 f.2 x y
  finishVideo k (filterPx (colTaps s k i) (fun x => filterPx (rowTaps s k j) (fun y => pre x y)))

/-- The pixel of layer `l` at panel pixel (x, y), or none (R296). -/
def layerPx (s : State) (l x y : Nat) : Option Px :=
  let r := layAt s l
  let k := effCfg r
  let d := destOf (isVideo l) k
  let i := (x : Int) - d.1
  let j := (y : Int) - d.2.1
  match r.shown with
  | none => none
  | some b =>
    if k.src.kind = 0 ∨ r.shed ∨ i < 0 ∨ j < 0 ∨ (d.2.2.1 : Int) ≤ i ∨ (d.2.2.2 : Int) ≤ j then none
    else
      let u := bufSurf s b
      let hole := fun n => r.fetch.holes.testBit n
      let g := fun a => (tabGet r.fetch.lines (a / 64)).getD (a % 64) 0
      let at_ := fun px => (orientMap k.src px.1 px.2 : Nat × Nat)
      if isVideo l then
        some (scaledPx s k (fun a c => let p := at_ (a, c)
                                       videoPixel k u (fun n => hole n) g p.1 p.2) i.toNat j.toNat)
      else
        let p := at_ (i.toNat, j.toNat)
        graphicPixel k s.pic.graphicCurve u hole g p.1 p.2

/-- The crop columns whose bits a crop pixel of a 4:2:2 layout needs for its chroma (R269). -/
def chromaCols (k : LayerCfg) (f : Fam) (x : Nat) : List Nat :=
  if fam422 f ∧ k.video.chroma ≠ 0 ∧ x % 2 = 1 then
    let n : Int := (k.src.cw / 2 : Nat)
    let j : Int := (x / 2 : Nat)
    (if k.video.chroma = 1 then [j, j + 1] else [j - 1, j, j + 1, j + 2]).map (fun c => 2 * (clampI 0 (n - 1) c).toNat)
  else []

/-- The surface pixels that output line `y` of a head needs of layer `l` (R249, R251). -/
def neededPixels (s : State) (w l y : Nat) : List (Nat × Nat) :=
  let k := effCfg (layAt s l)
  let d := destOf (isVideo l) k
  let c := visCols w d
  let j := ((y : Int) - d.2.1).toNat
  let i := fun n => (((c.1 + n : Nat) : Int) - d.1).toNat
  let cols := (List.range (c.2 - c.1)).map i
  let ow := orientW k.src
  let oh := orientH k.src
  let fam := ((layoutOf (fmtLayout (sourceFmt s k))).getD {}).fam
  let ori : List (Nat × Nat) :=
    if isVideo l then
      let f := predec k.video ow oh k.geo.dw k.geo.dh
      let vs := ((rowTaps s k j).filter (fun t => decide (t.1 ≠ 0))).flatMap (fun t => (List.range f.2).map (fun q => min (f.2 * t.2 + q) (oh - 1)))
      let us := cols.flatMap (fun i => ((colTaps s k i).filter (fun t => decide (t.1 ≠ 0))).flatMap (fun t => (List.range f.1).map (fun q => min (f.1 * t.2 + q) (ow - 1))))
      vs.flatMap (fun v => us.map (fun u => (u, v)))
    else cols.map (fun u => (u, j))
  ori.flatMap (fun p =>
    let q := orientMap k.src p.1 p.2
    (q.1 :: chromaCols k fam q.1).map (fun x => (k.src.cx + x, k.src.cy + q.2)))

/-- Change the fetch state of a layer. -/
def modFetch (l : Nat) (f : FetchState → FetchState) (s : State) : State := modLay l (fun x => { x with fetch := f x.fetch }) s

/-- A poisoned 64-byte line of surface line `y` was read for layer `l` of head `h` (R248, R536 kind 7). -/
def fetchPoison (l h y : Nat) (s : State) : State :=
  let x := (layAt s l).fetch
  let s1 := if x.poisoned.testBit y then s
    else modLay l (fun r => { r with fetch.poisoned := r.fetch.poisoned + 2 ^ y, ctr.poison := (r.ctr.poison + 1) % 2 ^ 32 }) s
  let s2 := forEach (pairOf s h) (fun j => chargeFrame j 7) s1
  if x.poisonRaised then s2 else raise (224 + 2 * l) (modFetch l (fun r => { r with poisonRaised := true }) s2)

/-- Fetch what a surface pixel needs of buffer `b` (R178, R248, R251): its line is settled as a hole or as real data, and
each 64-byte line with its bits is read once. -/
def fetchPixel (h l b : Nat) (u : Surf) (p : Nat × Nat) (s : State) : State :=
  let y := p.2
  let x := (layAt s l).fetch
  let hole := if x.settled.testBit y then x.holes.testBit y else !lineValid s b y
  let s1 := if x.settled.testBit y then s
    else
      let s0 := modFetch l (fun r => { r with settled := r.settled + 2 ^ y, holes := if hole then r.holes + 2 ^ y else r.holes }) s
      if hole then holeRead (layerRef l) b (headToken s h) s0 else s0
  if hole then s1
  else forEach (pixelLines u p.1 y) (fun n s =>
    let x := (layAt s l).fetch
    if x.lines.any (fun e => decide (e.1 = n)) then (if x.bad.contains n ∧ !x.poisoned.testBit y then fetchPoison l h y s else s)
    else
      let r := bufReadLine b n s
      let s2 := modLay l (fun v => { v with
        ctr := { v.ctr with fetch := (v.ctr.fetch + 1) % 2 ^ 32, frames := if v.fetch.any then v.ctr.frames else (v.ctr.frames + 1) % 2 ^ 32 },
        fetch := { v.fetch with any := true, bad := if r.2.1 then n :: v.fetch.bad else v.fetch.bad,
                                lines := tabSet v.fetch.lines n (if r.2.1 then List.replicate 64 0 else r.1) } }) r.2.2
      if r.2.1 then fetchPoison l h y s2 else s2) s1

/-- A layer is composed in line `y`: it may have pixels, the line lies in its visible destination, and its band is not
skipped (R249, R256). -/
def layerInLine (s : State) (w v l y : Nat) : Bool :=
  let x := layAt s l
  let d := destOf (isVideo l) (effCfg x)
  let r := visRows v d
  let c := visCols w d
  layerLive x && decide (r.1 ≤ y) && decide (y < r.2) && decide (c.1 < c.2) && !x.fetch.skip.testBit (y / 64)

/-- The layers of a head in its z-order, bottom first (R305). -/
def zLayers (s : State) (h : Nat) : List Nat := (hdAt s h).cfg.z.filter (fun l => decide ((layAt s l).head = some h))

/-- Fetch all that line `y` of head `h` needs; a band skipped drops the layer's filter history (R256) (DESIGN CHOICE, log entry 77). -/
def fetchLine (h w v y : Nat) (s : State) : State :=
  forEach (zLayers s h) (fun l s =>
    if layerInLine s w v l y then
      match (layAt s l).shown with
      | some b => forEach (neededPixels s w l y) (fetchPixel h l b (bufSurf s b)) (modFetch l (fun r => { r with seen := true }) s)
      | none => s
    else if (layAt s l).fetch.skip.testBit (y / 64) then modFetch l (fun r => { r with lines := [], bad := [], settled := 0, holes := 0 }) s
    else s) s

/-- Steps 8 to 10 of R263 on a composed pixel. -/
def outputPx (s : State) (h : Nat) (p : Px) : Px :=
  let k := (hdAt s h).cfg
  let q := (applyMatrix k.matrix p).rgb (encode1 k.enc k.out.neg)
  if k.out.lut3d then
    match lutOfHead s h with
    | some u => let x := lutAt s u
                lut3d (lutBank x (if x.mode = 1 then 0 else x.active)) (lutSize x) q
    | none => q
  else q

/-- The background colour of a head (R298). -/
def backgroundPx (k : HeadCfg) : Px := { r := k.bg.getD 0 0, g := k.bg.getD 1 0, b := k.bg.getD 2 0 }

/-- The composed pixel at panel pixel (x, y) (R295). -/
def composedPx (s : State) (h x y : Nat) (lays : List Nat) : Px :=
  lays.foldl (fun d l => match layerPx s l x y with
    | some p => blendPx (effCfg (layAt s l)).blend p d
    | none => d) (backgroundPx (hdAt s h).cfg)

/-- The codes of a line, half by half on a locked pair (R290 to R293, R307). -/
def quantHalves (s : State) (h y : Nat) (l : List Px) : List (Nat × Nat × Nat) :=
  let k := (hdAt s h).cfg
  let n := k.timing.hact
  if pairLocked s h then quantLine k.out (hdAt s h).lfsr 0 y (l.take n) ++ quantLine k.out (hdAt s h).lfsr n y (l.drop n)
  else quantLine k.out (hdAt s h).lfsr 0 y l

/-- The codes of a line of one flat encoded colour without dither (R368). -/
def flatCode (k : HeadCfg) (x : Nat) (p : Px) : Nat × Nat × Nat := (quantLine { k.out with dither := 0 } 0 0 0 [p, p]).getD (x % 2) (0, 0, 0)

/-- Region `r` acts on the lines composed now (R368): from line 0 of the frame that starts next, while its first lines are composed in
the blanking before it. -/
def regionActs (s : State) (h r : Nat) : Bool :=
  (sigCfg s h r).enable && (if (hdAt s h).inBlank then (sigAt s h r).fault else (sigAt s h r).acting)

/-- A line as it is handed on, with the actions of the regions that act (R368) (DEDUCED, log entry 78). -/
def actOnLine (s : State) (h y : Nat) (l : List (Nat × Nat × Nat)) : List (Nat × Nat × Nat) :=
  let k := (hdAt s h).cfg
  let red : Px := { r := 1048576 }
  let acting := (List.range 16).filter (regionActs s h)
  let blank := acting.any (fun r => decide ((sigCfg s h r).action = 2))
  l.zipIdx.map (fun q =>
    let x := q.2
    if blank then flatCode k x {}
    else
      let hit := acting.filter (fun r => let g := sigCfg s h r
        decide (g.action = 1) && decide (g.x ≤ x) && decide (x < g.x + g.w) && decide (g.y ≤ y) && decide (y < g.y + g.h))
      match hit.getLast? with
      | none => q.1
      | some r => let g := sigCfg s h r
                  if ((x - g.x) / 16 + (y - g.y) / 16) % 2 = 0 then flatCode k x red else flatCode k x {})

/-- The bytes of a line of codes in a write-back surface, as (FSA, bytes) runs (R332, R297). -/
def wbRuns (u : Surf) (y : Nat) (l : List (Nat × Nat × Nat)) : List (Nat × List Byte) :=
  let y_ := u.lay
  let n := y_.n
  let even := fun (l : List (Nat × Nat × Nat)) => (l.zipIdx.filter (fun q => decide (q.2 % 2 = 0))).map (·.1)
  let group := fun (q : (Nat × Nat × Nat) × Nat) => match y_.fam with
    | .yc422 => if q.2 % 2 = 0 then [(n, q.1.2.1), (n, q.1.1), (n, q.1.2.2)] else [(n, q.1.1)]
    | .rgba8 => [(8, q.1.1), (8, q.1.2.1), (8, q.1.2.2), (8, 255)]
    | _ => [(n, q.1.1), (n, q.1.2.1), (n, q.1.2.2)]
  if famPlanar y_.fam then
    let c := if y_.fam = .pl422 then even l else l
    [(compAt u 0 y 0).1, (compAt u 0 y 1).1, (compAt u 0 y 2).1].zip
      [packBits (l.map (fun q => (n, q.1))), packBits (c.map (fun q => (n, q.2.1))), packBits (c.map (fun q => (n, q.2.2)))]
  else if fmtTiled u.fmt then
    (List.range (ceilDiv l.length 64)).map (fun t =>
      ((lineOrigin u (64 * t) y).1, packBits ((((l.drop (64 * t)).take 64).zipIdx).flatMap group)))
  else [((lineOrigin u 0 y).1, packBits (l.zipIdx.flatMap group))]

/-- Line `y` is written to the write-back buffer and marked valid (R333). -/
def writeBackLine (h y : Nat) (l : List (Nat × Nat × Nat)) (s : State) : State :=
  match (hdAt s h).wb.buf with
  | none => s
  | some b => markLines b y 1 (forEach (wbRuns (bufSurf s b) y l) (fun r => fsWrite r.1 r.2) s)

/-- The lines composed before their frame began take the actions that are in force as it starts (R368). -/
def actAhead (h : Nat) (s : State) : State :=
  let l := (hdAt s h).ahead.zipIdx.map (fun q => (q.2, q.1.2, q.1.1, actOnLine s h q.2 q.1.1))
  modHd h (fun x => { x with ahead := l.map (fun q => (q.2.2.1, q.2.2.2)) })
    (forEach (l.filter (fun q => decide (q.2.2.2 ≠ q.2.1))) (fun q => writeBackLine h q.1 q.2.2.2) s)

/-- A pixel of the line being composed is lost to an empty reservoir, or to a parity error (R254, R536 kind 10): each head of a
locked pair has its own reservoir. -/
def pixelLost (s : State) (h x : Nat) : Bool :=
  let n := (hdAt s h).cfg.timing.hact
  let j := if pairLocked s h && decide (n ≤ x) then h + 1 else h
  decide (x - (if j = h then 0 else n) < (hdAt s j).res.substituted) || (hdAt s h).res.lostFrom.any (fun p => decide (p ≤ x))

/-- The codes of line `y` of a live head, and the state after its fetch: lost pixels are its background (R254, R295, R298). -/
def liveLine (h w v y : Nat) (s : State) : List (Nat × Nat × Nat) × State :=
  let s1 := fetchLine h w v y s
  let lays := (zLayers s1 h).filter (fun l => layerInLine s1 w v l y)
  let row := (List.range w).map (fun x =>
    outputPx s1 h (if pixelLost s1 h x then backgroundPx (hdAt s1 h).cfg else composedPx s1 h x y lays))
  (quantHalves s1 h y row, s1)

/-- The codes of line `y` of a FROZEN head: its lost pixels are its background too (R254, R336). -/
def frozenCodes (h w y b : Nat) (s : State) : List (Nat × Nat × Nat) × State :=
  let r := storedCodes frozenRef h w y b s
  if (List.range w).any (pixelLost s h) then
    let bg := quantHalves s h y ((List.range w).map (fun _ => outputPx s h (backgroundPx (hdAt s h).cfg)))
    (r.1.zipIdx.map (fun p => if pixelLost s h p.2 then bg.getD p.2 (0, 0, 0) else p.1), r.2)
  else r

/-- The pixels of the frame in progress that the raster has scanned out by now (R252), as far as its position tells. -/
def rasterScanned (s : State) (h : Nat) : Nat :=
  let n := hTotal (timingOf s h)
  let p := headPos s h / posUnit
  let a := (timingOf s h).hact
  if (hdAt s (lowerOf s h)).inBlank ∨ n = 0 then 0 else p / n * a + min a (p % n)

/-- LEVEL of a head's reservoir (R252): the pixels of the frame that are composed and not yet scanned out. -/
def resLevel (s : State) (h : Nat) : Nat :=
  (hdAt s (lowerOf s h)).composed * (timingOf s h).hact - max (hdAt s h).res.scanned (rasterScanned s h)

/-- The reservoirs of a head, or of each head of a locked pair, have room: the compositor stops while one is full, two lines of
pixels (R252). So line `y` is read and composed no earlier than the start of scan-out of line `y` − 2 (R640). -/
def resRoom (s : State) (h : Nat) : Bool := (pairOf s h).all (fun j => decide (resLevel s j < 2 * (timingOf s j).hact))

/-- A line is put into a head's reservoir (R252), as the raster's position and the levels reported tell (DESIGN CHOICE, log entry 183). -/
def resFill (s : State) (j : Nat) (s1 : State) : State :=
  let a := (timingOf s j).hact
  modHd j (fun x => { x with res := { x.res with
    substituted := x.res.substituted - a, lostFrom := none,
    minRun := if (hdAt s (lowerOf s j)).inBlank then x.res.minRun else min x.res.minRun (resLevel s j),
    scanned := max x.res.scanned (rasterScanned s j) } }) s1

/-- HEAD_LINE_COMPOSE (R252, R333, R336, R361, R640): the next line of the frame is composed, signed, handed on and
written back. During blanking only lines 0 and 1 are composed, and in the frame a line for which the reservoir has room (R252). The panel line of a
locked pair is composed whole (DESIGN CHOICE, log entry 73). -/
def headLineCompose (h : Nat) (s : State) : State :=
  let d := hdAt s h
  let t := d.cfg.timing
  let y := d.composed
  let w := panelWidth s h t
  if !d.enabled ∨ isUpperOfPair s h ∨ t.vact ≤ y ∨ (if d.inBlank then 2 ≤ y else !resRoom s h) then s
  else
    let r := match d.wb.frozenBuf with
      | some b => if d.wb.freeze = Freeze.frozen then frozenCodes h w y b s else liveLine h w t.vact y s
      | none => liveLine h w t.vact y s
    let s1 := signLine h y r.1 r.2
    let out := actOnLine s1 h y r.1
    let s2 := writeBackLine h y out s1
    let s3 := forEach (pairOf s h) (resFill s) (modHd h (fun x => { x with
      composed := y + 1, lineOut := out.map (fun c => c.1 + 65536 * c.2.1 + 4294967296 * c.2.2),
      ahead := if x.inBlank then x.ahead ++ [(r.1, out)] else x.ahead }) s2)
    if d.inBlank then s3 else handLine h y out (clearOut h s3)

/-- RESERVOIR_STARVED (R254, R536 kind 15): `n` active samples found the reservoir empty. Each head of a locked pair has its own. -/
def reservoirStarved (h n : Nat) (s : State) : State :=
  let d := hdAt s h
  if !headEnabled s h ∨ (hdAt s (lowerOf s h)).inBlank ∨ n = 0 then s
  else
    let all := (hdAt s (lowerOf s h)).composed * (timingOf s h).hact
    let s1 := modHd h (fun x => { x with
      res.substituted := x.res.substituted + n, res.scanned := all + x.res.substituted + n, res.minRun := 0, res.starvedRaised := true,
      ctr.starved := (x.ctr.starved + n) % 2 ^ 32 }) s
    let s2 := forEach (pairOf s h) (fun j => chargeFrame j 15) (logFault 15 h n s1)
    if d.res.starvedRaised then s2 else raise (96 + 16 * h + 15) s2

/-- FETCH_CLASS_CHANGE (R253, R254): the head's class is evaluated at a level of its reservoir. Each head of a locked pair has its
own. -/
def fetchClassChange (h level : Nat) (s : State) : State :=
  let d := hdAt s h
  let low := hdAt s (lowerOf s h)
  if !headEnabled s h then s
  else
    let cls := if level < d.res.critical then 2 else if level < d.res.low then 1 else 0
    let u2 := decide (cls = 1) && decide (d.res.cls ≠ 1)
    let u3 := decide (cls = 2) && decide (d.res.cls ≠ 2)
    let s1 := modHd h (fun x => { x with
      res := { x.res with cls := cls, scanned := low.composed * low.cfg.timing.hact - level,
                          minRun := if low.inBlank then x.res.minRun else min x.res.minRun level, u3Raised := x.res.u3Raised || u3 },
      ctr := { x.ctr with u2 := (x.ctr.u2 + b2n u2) % 2 ^ 32, u3 := (x.ctr.u3 + b2n u3) % 2 ^ 32 } }) s
    if u3 ∧ !d.res.u3Raised then raise (96 + 16 * h + 14) s1 else s1

/-- The bursts that a head has open (R483): its frame stands composed in part, so that its layers are being read and its write-back
buffer is being written (DESIGN CHOICE, log entry 120). -/
def headBursts (s : State) (h : Nat) : List (Agent × Bool × Nat) :=
  let t := timingOf s h
  let w := panelWidth s h t
  let y := (hdAt s h).composed
  if y = 0 ∨ t.vact ≤ y then []
  else
    let reads := (zLayers s h).filterMap (fun l => if layerInLine s w t.vact l y then
        (layAt s l).shown.bind (fun b => (neededPixels s w l y).head?.bind (fun p =>
          (pixelLines (bufSurf s b) p.1 p.2).head?.map (fun n => (Agent.fetch h, false, 64 * n))))
      else none)
    reads.take 1 ++ ((hdAt s h).wb.buf.map (fun b => (Agent.writeBack h, true, (lineOrigin (bufSurf s b) 0 y).1))).toList

/-- The arbitration classes of frame-store requests (R26, R160). -/
inductive ArbClass where
  | be | ag | rt | u2 | u3
  deriving DecidableEq, Repr

/-- The class in which an agent issues its requests (R26, R253). -/
def requestClass (s : State) : Agent → ArbClass
  | .fetch h => match (hdAt s h).res.cls with
    | 0 => .rt
    | 1 => .u2
    | _ => .u3
  | .writeBack _ | .ingest _ | .record _ | .packetizer | .psfLane _ | .depack _ => .rt
  | .lutLoad _ | .tables | .dma _ | .bar2 | .onyx => .be

/-- The class of a request of an agent that waits at a controller: a BE request past its threshold is AG (R26, R161), and one of a
head whose class has risen has the new class (R253). -/
def waitingClass (s : State) (a : Agent) (aged : Bool) : ArbClass :=
  if aged ∧ requestClass s a = .be then .ag else requestClass s a

end Sys2Proof.Machine
end

