-- ==== Sys2Proof/Machine/Heads.lean ====
section
/-! DEFINITION. The heads: latch points, blankings, landings, the cadence engine, write-back, freeze, enable and disable
(R234, R247, R255 to R261, R314 to R322, R328 to R337, R352 to R356). -/
namespace Sys2Proof.Machine
open Sys2Proof

/-- Release the reference a layer's head holds for it (R247). -/
def dropHeld (l : Nat) (s : State) : State :=
  match (layAt s l).held with
  | some (b, t) => (ledgerReleaseFor (layerRef l) b t (modLay l (fun x => { x with held := none, shown := none }) s)).2
  | none => modLay l (fun x => { x with shown := none }) s

/-- A commit's configuration changes the layer's position or crop (R59). -/
def placeChanged (old new : LayerCfg) : Bool :=
  decide ((old.geo.dx, old.geo.dy, old.src.cx, old.src.cy, old.src.cw, old.src.ch) ≠ (new.geo.dx, new.geo.dy, new.src.cx, new.src.cy, new.src.cw, new.src.ch))

/-- The committed values of a layer as a fast-path set. -/
def committedSet (k : LayerCfg) : FastSet := { dx := k.geo.dx, dy := k.geo.dy, cx := k.src.cx, cy := k.src.cy, cw := k.src.cw, ch := k.src.ch }

/-- The fast path after a landing that replaces its values (R59, R261) (DEDUCED, log entry 76). -/
def fpReplaced (k : LayerCfg) (f : FastPath) : FastPath :=
  { f with staging := committedSet k, current := none, pending := none, latched := none,
           discarded := f.discarded || f.pending.isSome || f.latched.isSome }

/-- A layer takes a configuration on head `h` (R233, R246, R247): `ref` says that the commit has taken a reference on its
buffer (DEDUCED, log entry 75). -/
def layerLand (h l : Nat) (k : LayerCfg) (ref : Bool) (s : State) : State :=
  let x := layAt s l
  let fresh := decide (x.head ≠ some h)
  let same := !fresh && decide (x.cfg.src.kind = k.src.kind) &&
    (if k.src.kind = 1 then !ref && decide (x.held = some (k.src.buffer, headToken s h))
     else decide (x.cfg.src.pool = k.src.pool))
  let s1 := if same then s else dropHeld l s
  let s2 := modLay l (fun y => { y with
    head := some h, cfg := k, join := none, fp := if fresh || placeChanged x.cfg k then fpReplaced k y.fp else y.fp }) s1
  if k.src.kind = 1 ∧ !same then
    modLay l (fun y => if ref then { y with held := some (k.src.buffer, headToken s h), shown := some k.src.buffer } else y) s2
  else s2

/-- A layer leaves its head (R234, R247). -/
def layerLeave (l : Nat) (s : State) : State := modLay l (fun x => { x with head := none, fetch := {} }) (dropHeld l s)

/-- The layers that wait to join head `h` and have left the other head do so (R234). -/
def joinWaiting (h : Nat) (s : State) : State :=
  forUpTo 64 (fun l s =>
    let x := layAt s l
    match x.join with
    | some (j, k, b) => if j = h ∧ x.head = none then layerLand h l k b.isSome s else s
    | none => s) s

/-- The window layers on a head, in ascending order (R571). -/
def windowOn (s : State) (h : Nat) : List Nat := (List.range 64).filter (fun l => winOwns s l && decide ((layAt s l).head = some h))

/-- The layers of a commit land on head `h` (R328, R234, R577). -/
def landLayers (a : Armed) (h : Nat) (s : State) : State :=
  let mine := a.lays.filter (fun x => decide (x.2.1 = h))
  let named := mine.map (fun x => x.1)
  let s1 := forUpTo 64 (fun l s =>
    if (layAt s l).head = some h ∧ !named.contains l ∧ winOwns s l = a.window then layerLeave l s else s) s
  forEach mine (fun x s =>
    let l := x.1
    let ref := a.refs.any (fun r => decide (r.1 = l))
    match (layAt s l).head with
    | some o =>
      if o = h then layerLand h l x.2.2 ref s
      else if a.window then
        (if ref then (ledgerReleaseFor (layerRef l) x.2.2.src.buffer (headToken s h) s).2 else s)
      else modLay l (fun y => { y with join := some (h, x.2.2, if ref then some x.2.2.src.buffer else none) }) s
    | none => layerLand h l x.2.2 ref s) s1

/-- Two timings differ in what moves the locked positions or the raster (R315). -/
def timingMoved (a b : Timing) : Bool := decide ({ a with align := b.align, hpol := b.hpol, vpol := b.vpol } ≠ b)

/-- The loop words of a head's synthesizer for a timing (R91, R312): half the raster rate, at the REF_MODE that its next update
point puts in force (R104). A locked pair's are the lower synthesizer's (R98). -/
def headWords (s : State) (h : Nat) (t : Timing) : Option SynWords :=
  let f := frameRate s t
  let y := synAt s (lowerOf s h)
  synWordsFor (y.cfgShadow.getD y.cfg).refMode (hTotal t * vTotal t * f.1) (2 * f.2)

/-- A head's settings land (R292, R253, R315, R328, R360) (DEDUCED, log entry 85). -/
def landHeadCfg (h : Nat) (k : HeadCfg) (s : State) : State :=
  let d := hdAt s h
  let moved := timingMoved d.cfg.timing k.timing
  let seed := decide (k.out.dither = 2) && (decide (d.cfg.out.dither ≠ 2) || decide (d.cfg.out.seed ≠ k.out.seed))
  let marks := fun (r : Reservoir) => marksFor k.timing.hact (r.storedMarks.getD (r.low, r.critical))
  let s1 := modHd h (fun x => { x with
    cfg := { k with z := k.z ++ windowOn s h }, realign := x.realign || (moved && x.enabled),
    lfsr := if seed then k.out.seed else x.lfsr }) (forEach (pairOf s h) (fun j => modHd j (fun x => { x with
    res := { x.res with low := (marks x.res).1, critical := (marks x.res).2, storedMarks := none } })) s)
  let s2 := if moved then forEach (pairOf s h) (fun j s => setSynShadow j (headWords s j k.timing) s) s1 else s1
  sigLand h d.cfg.sigs s2

/-- The raster of a head stops (R317): references released, the write-back agent reset, the domains queued off (DEDUCED, log entry 74). -/
def headStop (h : Nat) (s : State) : State :=
  let s0 := forEach (headBursts s h) cutBurst s
  let s1 := forUpTo 64 (fun l s => if (layAt s l).head = some h then modLay l (fun x => { x with fetch := {}, shed := false }) (dropHeld l s) else s) s0
  let s2 := resetAgent clsHead h (sigDisable h (forEach (pairOf s h) outputStops s1))
  let s3 := forEach (pairOf s h) (fun j => modHd j (fun x => { x with
    enabled := false, enabling := false, inBlank := false, longBlank := false, latched := false, composed := 0, realign := false, wb := {}, lineOut := [], ahead := [],
    res := { x.res with cls := 0, scanned := 0, substituted := 0, lostFrom := none, pendingMarks := none }, appliedTiers := 0, freezeApplied := false })) s2
  let s4 := forEach (pairOf s h) (fun j => queueOff (15 + j)) s3
  let s5 := if anyHeadEnabled s4 then s4 else queueOff 27 s4
  let s6 := forEach (pairOf s h) (fun j s => synUpdatePoint j s) s5
  let s7 := forEach (pairOf s h) (fun j => finishWait (.fetchMarks j) .ok 0 []) s6
  forEach (pairOf s h) vidCheck (raise (96 + 16 * h + 6) (modShed (fun p => { p with evalDue := true }) s7))

/-- A commit that has landed on all its heads is done (R329). -/
def commitDone (id : Nat) (s : State) : State :=
  match armedOf s id with
  | some a =>
    if a.heads.all (fun h => a.landed.contains h) then
      finishWait (.commit id) .ok 0 (leBytes 8 (a.lowFrame % 2 ^ 64).toNat) (modFx (fun x => { x with armed := x.armed.filter (fun y => decide (y.id ≠ id)) }) s)
    else s
  | none => s

/-- A 5200 commit that has landed is no longer pending (R577) (DEDUCED, log entry 83). -/
def winLanded (id : Nat) (s : State) : State :=
  let out := fun (p : Option WinPending) => match p with
    | some q => if q.armed = some id then none else p
    | none => none
  { s with pic.win := { s.pic.win with pend0 := out s.pic.win.pend0, pend1 := out s.pic.win.pend1 } }

/-- A bound commit lands on head `h` (R328, R329, R542, R577). -/
def commitLand (a : Armed) (h : Nat) (s : State) : State :=
  let frame := (hdAt s h).frame
  let s1 := landLayers a h s
  let s2 := if a.window then modHd h (fun x => { x with cfg := { x.cfg with z := x.cfg.z.filter (fun l => !winOwns s l) ++ windowOn s1 h } }) s1
    else match (a.hcfg.find? (fun e => decide (e.1 = h))) with
      | some e => landHeadCfg h e.2 s1
      | none => s1
  let s3 := modHd h (fun x => { x with ctr := { x.ctr with commits := (x.ctr.commits + 1) % 2 ^ 32 } }) s2
  let s4 := modArmed a.id (fun x => { x with
    landed := x.landed ++ [h], bound := x.bound.filter (fun j => decide (j ≠ h)),
    lowFrame := if x.heads.headD 0 = h then frame else x.lowFrame }) s3
  let s5 := bumpEpoch (modShed (fun p => { p with evalDue := true }) (raise (96 + 16 * h) s4))
  let s6 := if a.disable.contains h then headStop h s5 else forEach (pairOf s5 h) vidCheck s5
  commitDone a.id (if a.window then winLanded a.id s6 else s6)

/-- The fast-path sets latched for a blanking apply (R260). -/
def applyLatched (h : Nat) (s : State) : State :=
  forUpTo 64 (fun l s => if (layAt s l).head = some h then
    (match (layAt s l).fp.latched with
     | some f => modLay l (fun x => { x with fp := { x.fp with current := some f, latched := none, applied := (x.fp.applied + 1) % 65536 } }) s
     | none => s) else s) s

/-- The pending bank of the head's 3D LUT units becomes active (R289). -/
def lutBlanking (h : Nat) (s : State) : State :=
  forUpTo 4 (fun u s =>
    let x := lutAt s u
    if x.mode = 2 ∧ x.head = h ∧ x.pending ≠ x.active then modLut u (fun y => { y with active := y.pending, swaps := (y.swaps + 1) % 65536 }) s else s) s

/-- The capture instant and the frame number by which the cadence engine knows a buffer (R319, R321): those of its
publish, or those its publish will record while an ingest context owns it. -/
def cadenceKey (s : State) (b : Nat) : Nat × Nat :=
  let x := bufAt s b
  match if x.state = .owned then (List.range 4).find? (fun k => let c := tabGet s.ingest.ctxs k
      decide (c.state = .opened) && decide (c.pic.buffer = b)) else none with
  | some k => let p := (tabGet s.ingest.ctxs k).pic
              (p.capSec * 1000000000 + p.capNs, p.capFrame)
  | none => (x.capSec * 1000000000 + x.capNs, x.frame)

/-- The candidates of a pool at a head's blanking (R319, R321). -/
def cadenceCands (s : State) (k : LayerCfg) (fs : Nat) : List Nat :=
  let q := poolAt s k.src.pool
  let held := fun b => k.opened && anyUpTo 4 (fun i => let c := tabGet s.ingest.ctxs i
    c.enabled && decide (c.cfg.pool = k.src.pool) && decide (c.state = .opened) && decide (c.pic.buffer = b))
  if !q.used then [] else
  (poolBufs q).filter (fun b =>
    (decide ((bufAt s b).state = .published) || (decide ((bufAt s b).state = .owned) && held b)) &&
      decide (((cadenceKey s b).1 + k.latency) * nsUnits ≤ fs))

/-- The candidate with the greatest capture instant, then the greater frame, then the lower number (R319). -/
def cadenceBest (s : State) (l : List Nat) : Option Nat :=
  l.foldl (fun m b => match m with
    | none => some b
    | some c =>
      let x := cadenceKey s b
      let y := cadenceKey s c
      if y.1 < x.1 ∨ (y.1 = x.1 ∧ y.2 < x.2) then some b else some c) none

/-- A layer shows the same buffer again (R322). -/
def cadenceRepeat (l : Nat) (s : State) : State :=
  if (layAt s l).shown.isSome then modLay l (fun x => { x with repeats := (x.repeats + 1) % 2 ^ 32 }) s else s

/-- CADENCE_SELECT for one layer of head `h` (R319 to R322). -/
def cadenceSelect (h fs l : Nat) (s : State) : State :=
  let x := layAt s l
  match cadenceBest s (cadenceCands s x.cfg fs) with
  | none => cadenceRepeat l s
  | some b =>
    let newer := match x.shown with
      | none => true
      | some c => decide ((cadenceKey s c).1 < (cadenceKey s b).1)
    if !newer then cadenceRepeat l s
    else
      let tok := headToken s h
      match takeRefFor (layerRef l) (decide ((bufAt s b).state = .owned)) b tok s with
      | (false, s1) =>
        let s2 := modLay l (fun y => { y with refused := (y.refused + 1) % 2 ^ 32 }) (cadenceRepeat l s1)
        if (hdAt s h).refusedRaised then s2 else raise (96 + 16 * h + 7) (modHd h (fun d => { d with refusedRaised := true }) s2)
      | (true, s1) =>
        let passed := match x.shown with
          | some c => (cadenceKey s b).2 - (cadenceKey s c).2 - 1
          | none => 0
        modLay l (fun y => { y with held := some (b, tok), shown := some b, skips := (y.skips + passed) % 2 ^ 32 }) (dropHeld l s1)

/-- The columns from `a` to `b` are covered by intervals (R256). -/
def covers (ivs : List (Nat × Nat)) : Nat → Nat → Nat → Bool
  | 0, a, b => decide (b ≤ a)
  | n + 1, a, b =>
    if b ≤ a then true
    else
      let e := (ivs.filter (fun i => decide (i.1 ≤ a))).foldl (fun m i => max m i.2) a
      if e ≤ a then false else covers ivs n e b

/-- A layer is an occluder (R255, R304). -/
def isOccluder (x : Layer) : Bool := x.cfg.src.opaq && layerLive x && blendOccludes x.cfg.blend

/-- Layer `l` is skipped in band `k` (R256). -/
def skipped (s : State) (h w v l k : Nat) : Bool :=
  let z := zLayers s h
  let place := fun j => let x := layAt s j
                        destOf (isVideo j) (effCfg x)
  let r := visRows v (place l)
  let lo := max r.1 (64 * k)
  let hi := min r.2 (64 * k + 64)
  let above := (z.dropWhile (fun j => decide (j ≠ l))).drop 1
  let ivs := (above.filter (fun j => isOccluder (layAt s j) && decide ((visRows v (place j)).1 ≤ lo) && decide (hi ≤ (visRows v (place j)).2))).map
    (fun j => visCols w (place j))
  let c := visCols w (place l)
  decide (lo < hi) && decide (c.1 < c.2) && covers ivs (ivs.length + 1) c.1 c.2

/-- The skip mask of a layer for the frame to come. -/
def skipMask (s : State) (h w v l : Nat) : Nat := ((List.range (ceilDiv v 64)).map (fun k => if skipped s h w v l k then 2 ^ k else 0)).sum

/-- The layers of a head start a frame (R251, R256): status of the frame composed, fetch afresh, bands skipped. -/
def layersBlanking (h : Nat) (s : State) : State :=
  let t := timingOf s h
  let w := panelWidth s h t
  let masks := (zLayers s h).map (fun l => (l, skipMask s h w t.vact l))
  forEach masks (fun p => modLay p.1 (fun x => { x with
    visible := x.fetch.seen, fetch := { skip := p.2 }, occluder := isOccluder x, lastBuf := x.shown,
    ctr := { x.ctr with skipped := (x.ctr.skipped + ((List.range 128).filter (fun k => p.2.testBit k)).length) % 2 ^ 32 } })) s

/-- How the reference that a write-back agent in MODE 1 keeps on the picture last published is told from the others under its
head's token (R333). -/
def lastRef : Nat := 66

/-- A write-back frame is dropped (R334). -/
def wbDrop (h : Nat) (s : State) : State :=
  raise (96 + 16 * h + 3) (modHd h (fun x => { x with ctr := { x.ctr with wbDrop := (x.ctr.wbDrop + 1) % 2 ^ 32 } }) s)

/-- Publish a finished write-back buffer under its frame number and the instant of its line 0; in MODE 1 the agent's
reference moves to it, and the reference on the one before is released (R333) (DEDUCED, log entry 150). -/
def publishFrame (h : Nat) (f : Nat × Nat × Nat) (s : State) : State :=
  let tok := headToken s h
  let r := ledgerPublish f.1 tok f.2.1 (f.2.2 / secUnits) (f.2.2 % secUnits / nsUnits) s
  if r.1 ≠ .ok then r.2 else
  let s1 := modHd h (fun x => { x with ctr := { x.ctr with wbPub := (x.ctr.wbPub + 1) % 2 ^ 32 } }) r.2
  let t := if (hdAt s h).cfg.wbMode = 1 then takeRefFor lastRef false f.1 tok s1 else (false, s1)
  let s2 := modHd h (fun x => { x with wb := { x.wb with last := if t.1 then some f.1 else none, lastNum := f.1 } }) t.2
  match (hdAt s h).wb.last with
  | some o => (ledgerReleaseFor lastRef o tok s2).2
  | none => s2

/-- WRITEBACK_PUBLISH (R333): the buffer that the last blanking finished is published, or the one being written once the
last line of its frame is composed; a FROZEN head publishes nothing (R336). -/
def writebackPublish (h : Nat) (s : State) : State :=
  let d := hdAt s h
  if d.wb.freeze = .frozen then s else
  match d.wb.done with
  | some f => publishFrame h f (modHd h (fun x => { x with wb := { x.wb with done := none } }) s)
  | none =>
    match d.wb.buf with
    | none => s
    | some b =>
      if !d.enabled ∨ d.inBlank ∨ d.composed ≠ d.cfg.timing.vact then s
      else publishFrame h (b, (d.frame % 2 ^ 64).toNat, d.frameAt)
        (modHd h (fun x => { x with wb := { x.wb with buf := none, captured := if x.wb.freeze = .capture then some b else none } }) s)

/-- A buffer that the blanking before finished and that is not yet published is published now (R333). -/
def publishPending (h : Nat) (s : State) : State := if (hdAt s h).wb.done.isSome then writebackPublish h s else s

/-- At the end of a frame its write-back buffer is finished (R333, R334): a frame not wholly written is dropped (DEDUCED, log entry 79). -/
def wbFrameEnd (h : Nat) (s : State) : State :=
  let d := hdAt s h
  match d.wb.buf with
  | none => s
  | some b =>
    let s1 := modHd h (fun x => { x with wb := { x.wb with buf := none } }) (publishPending h s)
    if d.composed = d.cfg.timing.vact then
      modHd h (fun x => { x with wb := { x.wb with done := some (b, (d.composeFrame % 2 ^ 64).toNat, d.frameAt) } }) s1
    else wbDrop h (ledgerDiscard b (headToken s h) s1).2

/-- The write-back agent acquires a buffer for the coming frame (R333 to R335). -/
def wbAcquire (h : Nat) (s : State) : State :=
  let d := hdAt s h
  if d.wb.freeze = .frozen ∨ (d.cfg.wbMode = 0 ∧ d.wb.freeze = .live) then s
  else
    match d.cfg.wbPool with
    | none => s
    | some p =>
      match ledgerAcquire p (headToken s h) s with
      | (some b, s1) => modHd h (fun x => { x with wb := { x.wb with buf := some b } }) s1
      | (none, s1) => wbDrop h (modHd h (fun x => { x with wb := { x.wb with freeze := .live, captured := none } }) s1)

/-- A head becomes FROZEN on a buffer whose reference it holds (R335). -/
def freezeOn (h b : Nat) (s : State) : State :=
  raise (96 + 16 * h + 4) (modHd h (fun x => { x with wb := { x.wb with freeze := .frozen, frozenBuf := some b, captured := none } }) s)

/-- HEAD_FREEZE for a head that is to be frozen and is not (R335): what its last frame finished is published first (R333) (DEDUCED, log entry 138). -/
def freezeStep (h : Nat) (s : State) : State :=
  let d := hdAt s h
  let tok := headToken s h
  let capture := fun (s : State) => modHd h (fun x => { x with wb := { x.wb with freeze := .capture, captured := none } }) s
  let frozenOn := fun (b : Nat) (s : State) => match takeRefFor frozenRef false b tok s with
    | (true, s1) => freezeOn h b s1
    | (false, s1) => capture s1
  let s1 := publishPending h s
  let held := if d.wb.freeze = .capture then (d.wb.done.map (·.1)).or d.wb.captured
    else if d.cfg.wbMode = 1 ∧ d.wb.freeze = .live then (hdAt s1 h).wb.last else none
  match held with
  | some b => frozenOn b s1
  | none => capture s1

/-- The captured picture of a MODE 0 head that was not published goes back to its pool (R337, R355). -/
def dropCaptured (h : Nat) (s : State) : State :=
  let d := hdAt s h
  match d.wb.done with
  | some (b, _, _) =>
    if d.cfg.wbMode = 1 then s
    else (ledgerDiscard b (headToken s h) (modHd h (fun x => { x with wb := { x.wb with done := none } }) s)).2
  | none => s

/-- HEAD_THAW, or a capture that is no longer wanted (R337, R355). -/
def thawStep (h : Nat) (s : State) : State :=
  let d := hdAt s h
  let s1 := match d.wb.frozenBuf with
    | some b => (ledgerReleaseFor frozenRef b (headToken s h) s).2
    | none => s
  let s2 := dropCaptured h (modHd h (fun x => { x with wb := { x.wb with freeze := .live, frozenBuf := none, captured := none } }) s1)
  if d.wb.freeze = .frozen then raise (96 + 16 * h + 5) s2 else s2

/-- The shed state of a head at its blanking (R352, R355): tiers, layers and freeze follow the taken steps. -/
def shedBlanking (h : Nat) (s : State) : State :=
  let steps := stepsOf s s.pic.shed.taken
  let tiers := tiersShed steps h
  let want := freezes steps h
  let s1 := modHd h (fun x => { x with appliedTiers := (tiers.map (fun t => 2 ^ t)).sum, freezeApplied := want }) s
  let s2 := forUpTo 64 (fun l s => if (layAt s l).head = some h then
    modLay l (fun x => { x with shed := tiers.contains x.cfg.tier }) s else s) s1
  if want ∧ (hdAt s2 h).wb.freeze ≠ .frozen then freezeStep h s2
  else if !want ∧ (hdAt s2 h).wb.freeze ≠ .live then thawStep h s2
  else s2

/-- The watermarks that HEAD_FETCH_SET left pending apply (R253). -/
def marksBlanking (h : Nat) (s : State) : State :=
  forEach (pairOf s h) (fun j s =>
    match (hdAt s j).res.pendingMarks with
    | some m => let k := marksFor (timingOf s j).hact m
                finishWait (.fetchMarks j) .ok 0 []
                  (modHd j (fun x => { x with res := { x.res with low := k.1, critical := k.2, pendingMarks := none } }) s)
    | none => s) s

/-- The blankings of the lowest named head count towards the time-out of commits that are not ready (R327). -/
def countBlanks (h : Nat) (s : State) : State :=
  modFx (fun x => { x with armed := x.armed.map (fun a => if !a.ready && decide (a.heads.headD 0 = h) then { a with blanks := a.blanks + 1 } else a) }) s

/-- What every blanking does once landings are done, for a head that runs (R252, R256, R289, R292, R319, R333, R362): its
raster stands at line VACT of the timing in force at the instant `at_`. -/
def blankingBody (h at_ : Nat) (s : State) : State :=
  let s1 := marksBlanking h (lutBlanking h (applyLatched h s))
  let s2 := shedBlanking h s1
  let fs := at_ + blankLength s2 (timingOf s2 h)
  let adv := fun (x : Head) => if x.cfg.out.dither = 2 then lfsr24 (lfsr24 (lfsr24 (lfsr24 x.lfsr))) else x.lfsr
  let s3 := modHd h (fun x => { x with
    inBlank := true, posBase := headTarget s2 h (timingOf s2 h).vact 0, posAt := at_, latched := false, composed := 0, ahead := [], composeFrame := x.frame + 1, nextFs := fs, lfsr := adv x, refusedRaised := false,
    res := { x.res with lostFrom := none } }) (forEach (pairOf s2 h) (fun j => modHd j (fun x => { x with
    res := { x.res with scanned := 0, substituted := 0, minLevel := x.res.minRun, minRun := 2 * (timingOf s2 j).hact, u3Raised := false, starvedRaised := false } })) s2)
  let frozen := decide ((hdAt s3 h).wb.freeze = .frozen)
  let pool := (zLayers s3 h).filter (fun l => decide ((layAt s3 l).cfg.src.kind = 2) && !(layAt s3 l).shed)
  let s4 := if frozen then s3 else forEach pool (cadenceSelect h fs) s3
  let s5 := signRestart h (layersBlanking h (wbAcquire h s4))
  forEach (pairOf s h) vidBlanking s5

/-- A head's raster runs: it is enabled, it is not the upper half of a locked pair, and no gate holds it (R96). -/
def rasterRuns (s : State) (h : Nat) : Bool := headEnabled s h && !isUpperOfPair s h && !(synAt s h).gated

/-- LATCH_POINT (R260, R328): ready commits are bound to the coming blanking, and fast-path sets are latched. -/
def latchPoint (h : Nat) (s : State) : State :=
  let d := hdAt s h
  if !rasterRuns s h ∨ d.inBlank ∨ d.latched then s
  else
    let due := fun (a : Armed) => !a.window ||
      (match if h = 0 then s.pic.win.pend0 else s.pic.win.pend1 with
       | some p => decide (p.due ≤ 1)
       | none => true)
    let s1 := modFx (fun x => { x with armed := x.armed.map (fun a =>
      if a.ready && a.heads.contains h && !a.landed.contains h && !a.bound.contains h && due a then { a with bound := a.bound ++ [h] } else a) }) s
    let s2 := forUpTo 64 (fun l s => if (layAt s l).head = some h then fpLatch l s else s) s1
    modHd h (fun x => { x with latched := true }) s2

/-- HEAD_BLANKING_START (R328): the raster reaches line VACT, the write-back frame ends, bound commits land, and the next
frame is prepared. The blanking that ends the first frame under a timing with ALIGN 0 is lengthened (R315). -/
def headBlankingStart (h : Nat) (s : State) : State :=
  let d := hdAt s h
  if !rasterRuns s h ∨ d.inBlank then s
  else
    let at_ := headReach s h (headTarget s h (timingOf s h).vact 0)
    let s0 := outFrameEnd h (if d.realign ∧ !d.cfg.timing.align then lengthenBlank h s else s)
    let s1 := joinWaiting h (wbFrameEnd h s0)
    let s2 := forEach (s1.pic.fx.armed.filter (fun a => a.bound.contains h)) (fun a => commitLand a h) s1
    let s3 := countBlanks h s2
    slotsInRaster noRenum (if headEnabled s3 h then blankingBody h at_ s3 else s3)

/-- The head can begin its raster (R316): power, and a synthesizer in lock with its gate open. -/
def headCanStart (s : State) (h : Nat) : Bool :=
  let up := fun d => decide ((domAt s d).level = .on) && !(domAt s d).loading
  up 27 && (pairOf s h).all (fun j => up (15 + j) && decide ((synAt s j).state = .locked) && !(synAt s j).gated)

/-- HEAD_ENABLE_START (R316): the raster starts at line VACT, which is the commit's landing, so that its first frame begins on
a locked position. -/
def headEnableStart (h : Nat) (s : State) : State :=
  match s.pic.fx.armed.find? (fun a => a.ready && a.enable.contains h && !a.landed.contains h) with
  | none => s
  | some a =>
    if headEnabled s h ∨ isUpperOfPair s h ∨ !headCanStart s h then s
    else
      let s1 := forEach (pairOf s h) (fun j => modHd j (fun x => { x with enabled := true, enabling := false, frame := -1 })) s
      let s2 := raise (96 + 16 * h + 6) (commitLand a h (joinWaiting h s1))
      let at_ := firstFrameStart s2 h - blankLength s2 (timingOf s2 h)
      slotsInRaster (headRenum s2 h) (forEach (pairOf s2 h) (fun j => modHd j (fun x => { x with realign := false })) (blankingBody h at_ s2))

/-- A head feeds an SDI lane whose synthesizer is gated (R536 kinds 2 to 4): its frame is charged. -/
def chargeGated (h : Nat) (s : State) : State :=
  let gone := fun (k : Nat) => (synAt s k).gated && anyUpTo 8 (fun n => sdiUses s k n && decide ((sdiAt s n).cfg.head = h))
  match ([10, 11] : List Nat).find? gone with
  | some k => chargeFrame h (if (synAt s k).refFault then 4 else if (synAt s k).state = .failed then 3 else 2) s
  | none => s

/-- A head that moved to new locked positions has reached them (R315). -/
def headReached (h : Nat) (s : State) : State :=
  if (hdAt s h).enabled ∧ (hdAt s h).realign then raise (96 + 16 * h + 2) (modHd h (fun x => { x with realign := false }) s) else s

/-- A head whose error is within 100 ns has reached its locked positions (R315). -/
def reachedNear (h : Nat) (s : State) : State := if headNear s h then headReached h s else s

/-- A frame that follows a lengthened blanking starts on a locked position: the head is realigned (R79), and has reached its
new locked positions (R315). `d` is the head as its blanking left it. -/
def headPlaced (h : Nat) (d : Head) (s : State) : State :=
  let s1 := if (tabGet s.time.tb.heads h).realignDue then forEach (pairOf s h) realignOne s else s
  if d.longBlank then headReached h s1 else s1

/-- HEAD_FRAME_START (R314): line 0 of the next frame begins; a raster that its synthesizer's gate holds does not move
(R96). -/
def headFrameStart (h : Nat) (s : State) : State :=
  let d := hdAt s h
  if !rasterRuns s h ∨ !d.inBlank then s
  else
    let at_ := nextFrameStart s h
    let frozen := decide (d.wb.freeze = .frozen)
    let s1 := forEach (pairOf s h) (fun j s => modHd j (fun x => { x with
      frame := d.frame + 1, frameAt := at_, posBase := 0, posAt := at_, longBlank := false, inBlank := false,
      ctr := { x.ctr with frames := (x.ctr.frames + 1) % 2 ^ 32, frozen := (x.ctr.frozen + b2n frozen) % 2 ^ 32 } }) s) s
    let s2 := forEach (pairOf s h) (fun j s => { s with rel.outputs := tabMod s.rel.outputs j (fun o => { o with chargedFrame := false }) }) s1
    let s3 := actAhead h (sigFrameStart h (forEach (pairOf s h) chargeGated s2))
    headPlaced h d (outFrameStart h (forEach (pairOf s h) panelFrameStart (forEach (pairOf s h) sdiFrameStart s3)))

/-- A head begins to power up for a commit (R316): its synthesizer takes the words of the coming timing. -/
def headPowered (h : Nat) (s : State) : State :=
  let l := lowerOf s h
  match s.pic.fx.armed.find? (fun a => a.ready && a.enable.contains l && !a.landed.contains l) with
  | none => s
  | some a =>
    let t := (tabGet a.hcfg l).timing
    synUpdatePoint h (setSynShadow h (headWords s h t) (modHd h (fun x => { x with enabling := true }) s))

end Sys2Proof.Machine
end

