-- ==== Sys2Proof/Machine/Streams.lean ====
section
/-! DEFINITION. Stream subscribers: the packetizer, pacing, generic flows and the scheduling of ports; commands 0x0B10 to
0x0B12 (R428 to R448). -/
namespace Sys2Proof.Machine
open Sys2Proof

/-- Subscriber `n`. -/
def subAt (s : State) (n : Nat) : Sub := tabGet s.st.subs n
/-- Port `m`. -/
def portAt (s : State) (m : Nat) : StPort := tabGet s.st.ports m
/-- Change subscriber `n`. -/
def modSub (n : Nat) (f : Sub → Sub) (s : State) : State := { s with st.subs := tabMod s.st.subs n f }
/-- Change port `m`. -/
def modPort (m : Nat) (f : StPort → StPort) (s : State) : State := { s with st.ports := tabMod s.st.ports m f }
/-- What stands for the firmware where a port's packets name their subscriber. -/
def firmwareSub : Nat := 2048
/-- The token of the packetizer (R431). -/
def pkToken (s : State) : Nat := agentToken s clsPacketizer 0
/-- One more, with wrap at 2³². -/
def inc32 (n : Nat) : Nat := (n + 1) % 2 ^ 32

/-- The bytes and the pixels of a pgroup (R434). -/
def pgroupOf (samp : Nat) : Nat × Nat :=
  match samp with
  | 0 => (5, 2)
  | 1 => (6, 2)
  | 2 => (15, 4)
  | 3 => (9, 2)
  | 4 => (3, 1)
  | 5 => (15, 4)
  | _ => (9, 2)

/-- The surface layout of a sampling (R434). -/
def samplingLayout (samp : Nat) : Nat :=
  match samp with
  | 0 => 0x10
  | 1 => 0x11
  | 2 => 0x14
  | 3 => 0x15
  | 4 => 0x40
  | 5 => 0x20
  | _ => 0x21

/-- A pool holds linear packed surfaces of a sampling's layout (R434, R441, R442, R453). -/
def poolFits (q : Pool) (samp : Nat) : Bool := q.used && decide (fmtLayout q.format = samplingLayout samp) && !fmtTiled q.format

/-- The pgroups of a line of `w` pixels. -/
def lineGroups (samp w : Nat) : Nat := w / (pgroupOf samp).2
/-- The packets of a line (R436). -/
def linePackets (k : SubCfg) (w : Nat) : Nat := if k.pgroups = 0 then 0 else ceilDiv (lineGroups k.sampling w) k.pgroups
/-- NPKT (R438). -/
def nPkt (k : SubCfg) (w lines : Nat) : Nat := lines * linePackets k w

/-- The bytes of the headers before a UDP payload. -/
def headerBytes (k : SubCfg) : Nat := 42 + (if k.vlan then 4 else 0)
/-- The largest UDP payload of a video subscriber (R435, R436). -/
def videoPayload (k : SubCfg) (w : Nat) : Nat := 20 + min k.pgroups (lineGroups k.sampling w) * (pgroupOf k.sampling).1
/-- WIRE: the largest packet with FCS, preamble and inter-frame gap (R433) (DEDUCED, log entry 107). -/
def wireBytes (k : SubCfg) (w : Nat) : Nat :=
  24 + max 60 (if k.kind ≤ 1 then headerBytes k + videoPayload k w else if k.kind = 2 then headerBytes k + k.maxBytes else k.maxBytes)

/-- The data rate of a mode of the network role, in bit/s (R184). -/
def modeRate (mode : Nat) : Nat :=
  match mode with
  | 1 => 25000000000
  | 2 => 50000000000
  | 3 => 100000000000
  | 4 => 200000000000
  | 5 => 400000000000
  | _ => 0

/-- The sum of two fractions, reduced. -/
def addFrac (a b : Nat × Nat) : Nat × Nat :=
  let n := a.1 * b.2 + b.1 * a.2
  let d := a.2 * b.2
  let g := max 1 (Nat.gcd n d)
  (n / g, d / g)

/-- PPS × WIRE × 8 of a subscriber, as a fraction (R433). -/
def subLoad (s : State) (k : SubCfg) (w lines : Nat) : Nat × Nat :=
  if k.kind ≤ 1 then
    let f := frameRate s (timingOf s k.head)
    (nPkt k w lines * wireBytes k w * 8 * f.1, max 1 f.2)
  else (k.ratePps * wireBytes k w * 8, 1)

/-- The configuration names a port. -/
def usesPort (k : SubCfg) (m : Nat) : Bool := decide (k.portA = m) || (decide (k.kind ≠ 3) && decide (k.portB = some m))
/-- The ports of a subscriber, path A first (R432). -/
def portsOf (k : SubCfg) : List Nat :=
  k.portA :: (if k.kind = 3 then [] else match k.portB with
    | some m => [m]
    | none => [])

/-- The check of R433 fails on a port with a new subscriber. -/
def portOverloaded (s : State) (k : SubCfg) (w lines m : Nat) : Bool :=
  let l := (s.st.subs.filter (fun e => e.2.enabled && usesPort e.2.cfg m)).map (fun e => subLoad s e.2.cfg e.2.width e.2.lines)
  let t := (subLoad s k w lines :: l).foldl addFrac (0, 1)
  decide (95 * modeRate (macAt s m).cfg.mode * t.2 < 100 * t.1)

/-- How many subscribers are sending, as `ST_STATUS` reports it. -/
def subsSending (s : State) : Nat := (s.st.subs.filter (fun e => e.2.enabled && e.2.started)).length
/-- How many subscribers shedding holds (R352, R443): a paced one by the frame, and an unpaced one while its tier is held. -/
def subsHeld (s : State) : Nat :=
  (s.st.subs.filter (fun e => e.2.enabled && (if subPaced e.2 then e.2.held else e.2.started && tierHeld s e.2.cfg.tier))).length

/-- Latch a subscriber in `ST_LAST` and raise its event (R440, R443). -/
def subEvent (n ev : Nat) (s : State) : State := raise ev { s with st.lastSub := n, st.lastSubValid := true }

/-- How the packetizer's reference for a frame of a subscriber is told from its others; that for the picture a KIND 1
subscriber shows is told by the subscriber's number plus 1. -/
def frameRef (n id : Nat) : Nat := 65536 * (id + 1) + n

/-- Release the reference or the slot that a hold keeps, once complete and with no copy left (R441, R445). -/
def holdDone (n id : Nat) (s : State) : State :=
  let x := subAt s n
  match x.holds.find? (fun h => decide (h.id = id)) with
  | none => s
  | some h =>
    if h.complete ∧ h.left = 0 then
      let s1 := modSub n (fun x => { x with holds := x.holds.filter (fun h => decide (h.id ≠ id)) }) s
      let s2 := match h.own with
        | some a => fsWrite a [0] s1
        | none => s1
      match h.buf with
      | some b => (ledgerReleaseFor (frameRef n id) b (pkToken s2) s2).2
      | none => s2
    else s

/-- A subscriber that is to be disabled is, once its last packet has left (STREAM_SUB_SET) (DEDUCED, log entry 106). -/
def subDisabled (n : Nat) (s : State) : State :=
  let x := subAt s n
  if x.disabling ∧ !x.started ∧ x.holds.isEmpty then
    let s1 := match x.last with
      | some b => (ledgerReleaseFor (n + 1) b (pkToken s) s).2
      | none => s
    finishWait (.subStop n) .ok 0 []
      (modSub n (fun x => ({ seq := x.seq, ids := x.ids, ctr := x.ctr, shadow := x.shadow } : Sub)) s1)
  else s

/-- A copy of a packet has left its port or was discarded; a frame of the firmware's holds nothing. -/
def copyLeft (n id : Nat) (s : State) : State :=
  if n = firmwareSub then s else
  let s1 := modSub n (fun x => { x with holds := x.holds.map (fun h => if h.id = id then { h with left := h.left - 1 } else h) }) s
  subDisabled n (holdDone n id s1)

/-- A subscriber stops (R444): event 673, and the commands that wait for it end. -/
def subStopped (n : Nat) (s : State) : State :=
  let x := subAt s n
  let s0 := if x.started ∧ subPaced x then forEach (portsOf x.cfg) (fun m => outputStops (10 + m)) s else s
  let s1 := raise 673 (modSub n (fun x => { x with started := false, starting := false, stopping := false, held := false }) s0)
  if x.disabling then s1 else finishWait (.subStop n) .ok 0 [] s1

/-- Drop the frame selected for the head frame to come. -/
def dropNext (n : Nat) (s : State) : State :=
  match (subAt s n).next with
  | some f => (ledgerReleaseFor (frameRef n f.id) f.buf (pkToken s) (modSub n (fun x => { x with next := none }) s)).2
  | none => s

/-- Stop a subscriber: at once where it is unpaced or between frames, else at the end of the frame being sent (R443,
R444). -/
def stopSub (n : Nat) (s : State) : State :=
  let s1 := dropNext n s
  let x := subAt s1 n
  if x.cur.isSome then modSub n (fun x => { x with stopping := true, starting := false }) s1
  else subDisabled n (subStopped n s1)

/-- Start a subscriber (R444): an unpaced one at once, a paced one at its next selection point; no effect on one that sends, its stop
pending or not; none where it is not enabled (R121) (DEDUCED, log entry 104). -/
def startSubscriber (n : Nat) (s : State) : Option State :=
  let x := subAt s n
  if !x.enabled ∨ x.disabling then none
  else if x.started ∨ x.starting then some s
  else if subPaced x then some (modSub n (fun x => { x with starting := true, picked := false }) s)
  else some (raise 672 (modSub n (fun x => { x with started := true }) s))

/-- The bits of codes, most significant first, as bytes: the order of ST 2110-20. -/
def packMsb (l : List (Nat × Nat)) : List Byte :=
  let r := l.foldl (fun (acc : Nat × Nat) x => (acc.1 * 2 ^ x.1 + x.2 % 2 ^ x.1, acc.2 + x.1)) ((0, 0) : Nat × Nat)
  beBytes (r.2 / 8) r.1

/-- The order of the components of `p` pixels in the pgroups of a family, as (pixel, component) (R434). -/
def groupOrder (f : Fam) (p : Nat) : List (Nat × Nat) :=
  match f with
  | .yc422 => (List.range (p / 2)).flatMap (fun j => [(2 * j, 1), (2 * j, 0), (2 * j, 2), (2 * j + 1, 0)])
  | .yc444 => (List.range p).flatMap (fun j => [(j, 1), (j, 0), (j, 2)])
  | _ => (List.range p).flatMap (fun j => [(j, 0), (j, 1), (j, 2)])

/-- The bytes of `p` pixels from column `x0` of line `y` of a buffer for a packet, whether a read was poisoned, and the
state after (R434, R440): a hole is black and is counted. -/
def readPixels (holder b x0 p y : Nat) (s : State) : List Byte × Bool × State :=
  let u := bufSurf s b
  let order := groupOrder u.lay.fam p
  if !lineValid s b y then (packMsb (order.map (fun q => (u.lay.n, blackCode u q.2))), false, holeRead holder b (pkToken s) s)
  else
    let need := ((List.range p).flatMap (fun i => pixelLines u (x0 + i) y)).eraseDups
    let r := need.foldl (fun (acc : Tab (List Byte) × Bool × State) n =>
      let v := bufReadLine b n acc.2.2
      (tabSet acc.1 n v.1, acc.2.1 || v.2.1, v.2.2)) (([], false, s) : Tab (List Byte) × Bool × State)
    let g := fun a => (tabGet r.1 (a / 64)).getD (a % 64) 0
    (packMsb (order.map (fun q => (u.lay.n, readComp g (compAt u (x0 + q.1) y q.2)))), r.2.1, r.2.2)

/-- The ones' complement sum of 16-bit big-endian words. -/
def onesSum : List Byte → Nat
  | [] => 0
  | [a] => 256 * a.toNat
  | a :: b :: l => 256 * a.toNat + b.toNat + onesSum l

/-- The Internet checksum of bytes (R429). -/
def inetSum (l : List Byte) : Nat :=
  let n := onesSum l
  let f := n % 65536 + n / 65536
  let g := f % 65536 + f / 65536
  65535 - g

/-- A sent IPv4 header (R429). -/
def ipHeader (dscp ttl len src dst : Nat) : List Byte :=
  let h := fun (c : Nat) => beBytes 1 0x45 ++ beBytes 1 (dscp * 4) ++ beBytes 2 (20 + len) ++ beBytes 2 0 ++ beBytes 2 0x4000 ++ beBytes 1 ttl ++
    beBytes 1 17 ++ beBytes 2 c ++ beBytes 4 src ++ beBytes 4 dst
  h (inetSum (h 0))

/-- A UDP packet in IPv4 as a MAC frame (R429). -/
def udpFrame (dmac smac : List Byte) (tag : Option Nat) (dscp ttl src dst sport dport : Nat) (b : List Byte) : List Byte :=
  dmac ++ smac ++ (match tag with
    | some t => beBytes 2 0x8100 ++ beBytes 2 t
    | none => []) ++ beBytes 2 0x0800 ++ ipHeader dscp ttl (8 + b.length) src dst ++
    beBytes 2 sport ++ beBytes 2 dport ++ beBytes 2 (8 + b.length) ++ beBytes 2 0 ++ b

/-- The MAC frame of a subscriber's UDP payload on path A or B (R430, R432). -/
def pathFrame (s : State) (k : SubCfg) (pathB : Bool) (b : List Byte) : List Byte :=
  let m := if pathB then k.portB.getD 0 else k.portA
  udpFrame (if pathB then k.dstMacB else k.dstMacA) (stationAddr s m) (if k.vlan then some k.tci else none) k.dscp k.ttl
    (if pathB then k.srcIpB else k.srcIpA) (if pathB then k.dstIpB else k.dstIpA) k.srcUdp (if pathB then k.dstUdpB else k.dstUdpA) b

/-- Put the copies of a packet on their ports (R432, R199): a port that is not up discards its copy. The packet is
counted by the copy on path A, or on path B where path A is not up. -/
def sendCopies (n id eligible deadline : Nat) (paced : Bool) (frames : List (Nat × List Byte)) (s : State) : State :=
  let k := (subAt s n).cfg
  let up := frames.filter (fun f => linkUp (macAt s f.1))
  let down := frames.filter (fun f => !linkUp (macAt s f.1))
  let s1 := forEach down (fun f s => macCount f.1 51 1 s) s
  let s2 := forEach up.zipIdx (fun f s => modPort f.1.1 (fun p => { p with
    queue := p.queue ++ [{ sub := n, owner := 1000 + n, hold := id, service := k.service, eligible := eligible, deadline := deadline, paced := paced,
                           counts := decide (f.2 = 0), bytes := f.1.2 }] }) s) s1
  modSub n (fun x => { x with holds := x.holds.map (fun h => if h.id = id then { h with left := h.left + up.length } else h) }) s2

/-- The units of 2⁻¹⁶ ns between two packets of a frame: HTOTAL × VACT / NPKT samples (R439). -/
def packetSpacing (s : State) (k : SubCfg) (w lines : Nat) : Nat :=
  let t := timingOf s k.head
  let f := frameRate s t
  let d := f.1 * vTotal t * nPkt k w lines
  if d = 0 then 0 else secUnits * f.2 * t.vact / d

/-- Line and sample of the pacing head's raster at which packet `j` of a frame is released (R438). -/
def releasePos (s : State) (k : SubCfg) (w lines j : Nat) : Nat × Nat :=
  let t := timingOf s k.head
  let n := nPkt k w lines
  let a := j * t.vact
  (k.lagLines + a / n, a % n * hTotal t / n / 2 * 2)

/-- The instant at which the head's raster reaches the release position of a packet, in the head frame that carries it
(R438): that frame may be over where no step has told of the release. -/
def releaseAt (s : State) (k : SubCfg) (f : SubFrame) : Nat :=
  let p := releasePos s k f.width f.lines f.next
  let target := headTarget s k.head p.1 p.2
  let back := headFrame s k.head - f.frame
  if back ≤ 0 then headReach s k.head target
  else ceilInstant (reachAt 0 (hdAt s k.head).frameAt (headRate s k.head) ((target : Int) - back * (headTotal s k.head : Nat)))

/-- The RTP packet of R435 (PRESUMED, log entry 112). -/
def rtpPacket (k : SubCfg) (seq stamp : Nat) (marker : Bool) (line off : Nat) (b : List Byte) : List Byte :=
  beBytes 1 0x80 ++ beBytes 1 (k.pt % 128 + (if marker then 128 else 0)) ++ beBytes 2 (seq % 65536) ++ beBytes 4 stamp ++ beBytes 4 k.ssrc ++
    beBytes 2 (seq / 65536) ++ beBytes 2 b.length ++ beBytes 2 line ++ beBytes 2 off ++ b

/-- The end of a frame (R441, R444). -/
def frameReleased (n : Nat) (f : SubFrame) (s : State) : State :=
  let s1 := modSub n (fun x => { x with
    cur := none, holds := x.holds.map (fun h => if h.id = f.id then { h with complete := true } else h) }) s
  let s2 := holdDone n f.id s1
  subDisabled n (if (subAt s2 n).stopping then subStopped n s2 else s2)

/-- The next packet of the frame a subscriber sends becomes eligible on its ports (R435 to R441). -/
def releaseNext (n : Nat) (s : State) : State :=
  let x := subAt s n
  let k := x.cfg
  match x.cur with
  | none => s
  | some f =>
    let pl := linePackets k f.width
    let total := nPkt k f.width f.lines
    if total ≤ f.next then frameReleased n f s
    else
      let line := f.next / pl
      let g0 := f.next % pl * k.pgroups
      let groups := min k.pgroups (lineGroups k.sampling f.width - g0)
      let px := (pgroupOf k.sampling).2
      let r := readPixels (frameRef n f.id) f.buf (g0 * px) (groups * px) line s
      let lastOne := decide (f.next + 1 = total)
      let b := rtpPacket k x.seq (f.stamp.getD 0) lastOne line (g0 * px) r.1
      let s1 := modSub n (fun x => { x with
        seq := inc32 x.seq, cur := some { f with next := f.next + 1 },
        holds := if x.holds.any (fun h => decide (h.id = f.id)) then x.holds else x.holds ++ [{ id := f.id, buf := some f.buf }] }) r.2.2
      let s2 := if r.2.1 then forEach (portsOf k) (fun m => chargeFrame (10 + m) 7) s1 else s1
      let sp := packetSpacing s2 k f.width f.lines
      let frames := (k.portA, pathFrame s2 k false b) :: (match k.portB with
        | some m => [(m, pathFrame s2 k true b)]
        | none => [])
      let at_ := releaseAt s2 k f
      let s3 := sendCopies n f.id at_ (at_ + (if k.typeW then 8 * sp else sp)) true frames s2
      if lastOne then frameReleased n { f with next := f.next + 1 } s3 else s3

/-- PACKET_RELEASE (R438): once the head's raster has reached the position of the next packet. -/
def packetRelease (n : Nat) (s : State) : State :=
  match (subAt s n).cur with
  | some f => if releaseAt s (subAt s n).cfg f ≤ s.time.tb.now then releaseNext n s else s
  | none => s

/-- The width of a head's picture (R441). -/
def headWidth (s : State) (h : Nat) : Nat := panelWidth s h (timingOf s h)

/-- The head of a KIND 0 subscriber runs a write-back that fits it (R441, R443). -/
def wbSourceFits (s : State) (x : Sub) : Bool :=
  let d := hdAt s x.cfg.head
  d.enabled && !isUpperOfPair s x.cfg.head && decide (d.cfg.wbMode = 1) && decide (headWidth s x.cfg.head = x.width) &&
    decide (d.cfg.timing.vact = x.lines) && d.cfg.wbPool.any (fun p => poolFits (poolAt s p) x.cfg.sampling)

/-- The source of a paced subscriber fits at a selection point (R443) (DEDUCED, log entry 103). -/
def sourceFits (s : State) (x : Sub) : Bool :=
  if x.cfg.kind = 0 then wbSourceFits s x
  else headEnabled s x.cfg.head && !isUpperOfPair s x.cfg.head && decide (headWidth s x.cfg.head = x.width) &&
    poolFits (poolAt s x.cfg.pool) x.cfg.sampling && decide ((poolAt s x.cfg.pool).lines = x.lines)

/-- Take a buffer for the coming head frame, under the packetizer's token. -/
def selectBuf (n b : Nat) (follow : Bool) (s : State) : Bool × State :=
  let x := subAt s n
  let r := takeRefFor (frameRef n x.ids) follow b (pkToken s) s
  if r.1 then (true, modSub n (fun y => { y with
    next := some { id := x.ids, buf := b, width := x.width, lines := x.lines }, ids := x.ids + 1 }) r.2) else r

/-- A KIND 0 subscriber selects (R441, R443): where the acquire failed, the last published buffer again, which is counted,
and nothing if none exists. -/
def selectHead (n : Nat) (s : State) : State :=
  let d := hdAt s (subAt s n).cfg.head
  let again := fun (s : State) => match d.wb.last with
    | some b =>
      let r := selectBuf n b false s
      if r.1 then subEvent n 675 (modSub n (fun x => { x with ctr.repeated := inc32 x.ctr.repeated }) r.2) else r.2
    | none => s
  if d.wb.freeze = .frozen then
    match d.wb.frozenBuf with
    | some b => (selectBuf n b false s).2
    | none => s
  else match d.wb.buf with
    | some b =>
      let r := selectBuf n b true s
      if r.1 then r.2 else again r.2
    | none => again s

/-- A KIND 1 subscriber selects by R319 and R320 with its own LATENCY_NS (R442) (DEDUCED, log entry 105). -/
def selectPool (n : Nat) (s : State) : State :=
  let x := subAt s n
  let tok := pkToken s
  let l := cadenceCands s { src := { kind := 2, pool := x.cfg.pool }, latency := x.cfg.latencyNs } (hdAt s x.cfg.head).nextFs
  let pick := (cadenceBest s l).filter (fun b => match x.last with
    | some c => decide ((cadenceKey s c).1 < (cadenceKey s b).1)
    | none => true)
  let s1 := match pick with
    | some b =>
      let r := takeRefFor (n + 1) false b tok s
      if r.1 then modSub n (fun y => { y with last := some b }) (match x.last with
        | some c => (ledgerReleaseFor (n + 1) c tok r.2).2
        | none => r.2) else r.2
    | none => s
  match (subAt s1 n).last with
  | some b => (selectBuf n b false s1).2
  | none => s1

/-- One subscriber at the selection point of its head (R441 to R444). -/
def streamSelect (n : Nat) (s0 : State) : State :=
  let s := modSub n (fun x => { x with picked := true }) s0
  let x := subAt s n
  if !sourceFits s x then
    let s1 := modSub n (fun x => { x with lost := true, held := false }) s
    if x.lost then s1 else subEvent n 675 s1
  else
    let s1 := modSub n (fun x => { x with lost := false }) s
    if tierHeld s x.cfg.tier then modSub n (fun x => { x with held := true, ctr.held := inc32 x.ctr.held }) s1
    else
      let s2 := modSub n (fun x => { x with held := false }) s1
      if x.cfg.kind = 0 then selectHead n s2 else selectPool n s2

/-- The paced subscribers of head `h` that send, or are to start. -/
def pacedOf (s : State) (h : Nat) : List Nat :=
  (s.st.subs.filter (fun e => e.2.enabled && subPaced e.2 && decide (e.2.cfg.head = h) && (e.2.started || e.2.starting) && !e.2.stopping)).map (·.1)

/-- Sample 0 of line VACT of head `h`, or the end of its raster (R441 to R444). -/
def streamBlanking (h : Nat) (s : State) : State := forEach (pacedOf s h) (fun n s => streamSelect n (dropNext n s)) s

/-- The 90 kHz timestamp of the locked position nearest to an instant (R313, R437). -/
def rtpStamp (s : State) (h at_ : Nat) : Nat :=
  let t := timingOf s h
  let f := frameRate s t
  if f.1 = 0 ∨ f.2 = 0 then 0 else
  let off : Int := s.time.ref.offsetNs + t.phase
  let m : Int := roundHalfUp (((at_ : Int) - off * (nsUnits : Nat)) * (f.1 : Nat)) (secUnits * f.2)
  let l : Int := (90000 * (off * (f.1 : Nat) + m * (f.2 * 1000000000 : Nat))) / (1000000000 * f.1 : Nat)
  (l % (4294967296 : Int)).toNat

/-- The paced subscribers of head `h` with a frame being sent. -/
def unsentOf (s : State) (h : Nat) : List Nat :=
  (s.st.subs.filter (fun e => subPaced e.2 && decide (e.2.cfg.head = h) && e.2.cur.isSome)).map (·.1)

/-- The packets of a frame whose release positions have passed unreported: a frame that is sent is sent whole (R443). -/
def releaseRest (n : Nat) (s : State) : State :=
  match (subAt s n).cur with
  | some f => forUpTo (nPkt (subAt s n).cfg f.width f.lines + 1 - f.next) (fun _ s => releaseNext n s) s
  | none => s

/-- A frame that was selected is not sent where a step holds its tier since (R352, R443). -/
def holdNext (n : Nat) (s : State) : State :=
  if (subAt s n).next.isSome ∧ tierHeld s (subAt s n).cfg.tier then
    modSub n (fun x => { x with held := true, ctr.held := inc32 x.ctr.held }) (dropNext n s)
  else s

/-- Line 0 of a frame of head `h` (R437, R441, R444): the selected frames are the ones sent, and the subscribers whose start a
selection point has followed have started. -/
def streamFrameStart (h : Nat) (s : State) : State :=
  let stamp := rtpStamp s h (hdAt s h).frameAt
  let s0 := forUpTo 16 (fun m s => if s.st.subs.any (fun e => e.2.enabled && subPaced e.2 && decide (e.2.cfg.head = h) && usesPort e.2.cfg m) then
    { s with rel.outputs := tabMod s.rel.outputs (10 + m) (fun o => { o with chargedFrame := false }) } else s) s
  let s1 := forEach (unsentOf s0 h) releaseRest s0
  forEach ((pacedOf s1 h).filter (fun n => (subAt s1 n).started || (subAt s1 n).picked)) (fun n s0 =>
    let s1 := holdNext n s0
    let x := subAt s1 n
    let s2 := modSub n (fun x => { x with
      cur := x.next.map (fun f => { f with stamp := some stamp, frame := headFrame s1 h }), next := none, started := true, starting := false,
      holds := x.holds ++ (match x.next with
        | some f => [{ id := f.id, buf := some f.buf }]
        | none => []) }) s1
    if x.starting then finishWait (.subStart n) .ok 0 [] (raise 672 s2) else s2) s1

/-- A token bucket refilled to an instant, at a rate and a depth (R446, R450). -/
def refill (rate burst now : Nat) (b : Bucket) : Bucket := { level := min (burst * secUnits) (b.level + (now - b.at_) * rate), at_ := now }

/-- Take a token, or none where the bucket has none. -/
def takeToken (b : Bucket) : Option Bucket := if secUnits ≤ b.level then some { b with level := b.level - secUnits } else none

/-- The FSA of a ring slot. -/
def ringSlot (k : SubCfg) (i : Nat) : Nat := k.ringFsa + i * k.slotBytes

/-- The frames of a slot's data (R430, R445). -/
def slotFrames (s : State) (k : SubCfg) (d : List Byte) : List (Nat × List Byte) :=
  if k.kind = 3 then [(k.portA, d.take 6 ++ stationAddr s k.portA ++ d.drop 12)]
  else (k.portA, pathFrame s k false d) :: (match k.portB with
    | some m => [(m, pathFrame s k true d)]
    | none => [])

/-- UNPACED_SLOT_ELIGIBLE (R445, R446): the next slot of a ring is filled, due, and has a token; of a held tier nothing is read (R352). -/
def slotEligible (n : Nat) (s : State) : State :=
  let x := subAt s n
  let k := x.cfg
  if !x.enabled ∨ subPaced x ∨ !x.started ∨ tierHeld s k.tier then s
  else
    let a := ringSlot k x.ringNext
    let r := fsRead a 16 s
    let h := r.1
    let s0 := r.2.2
    let len := leNat ((h.drop 2).take 2)
    let launch := leNat ((h.drop 8).take 6) * secUnits + leNat ((h.drop 4).take 4) * nsUnits
    let due := !bit (h.getD 1 0).toNat 0 || decide (launch ≤ s.time.tb.now)
    let adv := fun (x : Sub) => { x with ringNext := if x.ringNext + 1 < k.ringCount then x.ringNext + 1 else 0 }
    if h.getD 0 0 ≠ 1 ∨ x.holds.any (fun v => decide (v.own = some a)) then s0
    else if len = 0 ∨ k.maxBytes < len ∨ k.slotBytes - 16 < len then
      fsWrite a [0] (modSub n (fun x => adv { x with ctr.late := inc32 x.ctr.late }) s0)
    else match takeToken (refill k.ratePps k.burst (runTime s) x.bucket) with
      | none => s0
      | some b =>
        if !due then s0
        else
          let d := fsRead (a + 16) len s0
          let id := x.ids
          let s1 := modSub n (fun x => adv { x with
            bucket := b, ids := id + 1, holds := x.holds ++ [{ id := id, own := some a, complete := true }] }) d.2.2
          holdDone n id (sendCopies n id s.time.tb.now (s.time.tb.now + 100000 * nsUnits) false (slotFrames s1 k d.1) s1)

/-- A frame of the firmware's on a service of a port (R428, R447, R456, R459): it waits as an unpaced packet, and a port
that is not up discards it (R199). -/
def firmwareSend (m service owner : Nat) (b : List Byte) (s : State) : State :=
  if linkUp (macAt s m) ∧ !(macAt s m).stopping then
    modPort m (fun p => { p with queue := p.queue ++ [{ sub := firmwareSub, owner := owner, service := service, eligible := s.time.tb.now,
                                                          deadline := s.time.tb.now + 100000 * nsUnits, bytes := b }] }) s
  else macCount m 51 1 s

/-- The packets of a service that are eligible at a port (R447). -/
def servicePackets (now : Nat) (p : StPort) (i : Nat) : List StPacket := p.queue.filter (fun q => decide (q.service = i) && decide (q.eligible ≤ now))

/-- The first of packets by deadline, then by subscriber (R447). -/
def firstPacket (l : List StPacket) : Option StPacket :=
  l.foldl (fun m q => match m with
    | none => some q
    | some c => if q.deadline < c.deadline ∨ (q.deadline = c.deadline ∧ q.sub < c.sub) then some q else some c) none

/-- The head of a service (R447). -/
def serviceHead (now : Nat) (p : StPort) (i : Nat) : Option StPacket := firstPacket (servicePackets now p i)

/-- The paced packets of service 0 that wait: their release instants have passed (R448). -/
def pacedFirst (now : Nat) (p : StPort) : List StPacket := (servicePackets now p 0).filter (fun q => q.paced)

/-- The lowest-numbered service with an eligible packet. -/
def lowestService (now : Nat) (p : StPort) : Option Nat := (List.range 8).find? (fun i => !(servicePackets now p i).isEmpty)

/-- A service whose oldest packet has waited longer than its limit (R448). -/
def agedService (now : Nat) (p : StPort) : Option Nat :=
  (List.range 8).find? (fun i => decide (tabGet p.age i ≠ 0) &&
    (servicePackets now p i).any (fun q => decide (q.eligible + tabGet p.age i * 1000 * nsUnits < now)))

/-- Hand a packet to the MAC (R447). -/
def handOver (m : Nat) (q : StPacket) (s : State) : State :=
  let s1 := modPort m (fun p => { p with queue := p.queue.erase q, sending := p.sending ++ [q] }) s
  macSend m q.service q.owner q.bytes s1

/-- Count a promotion (R448): event 678 as the service's bit is set. -/
def countPromotion (m i : Nat) (s : State) : State :=
  let was := (portAt s m).promoted.testBit i
  let s1 := modPort m (fun p => { p with promoted := Nat.lor p.promoted (2 ^ i), ctr.promote := inc32 p.ctr.promote }) s
  if was then s1 else raise 678 s1

/-- PORT_SCHEDULE (R447, R448): a port that sends nothing and is not held by PAUSE chooses its next packet. -/
def portSchedule (m : Nat) (s : State) : State :=
  let p := portAt s m
  let x := macAt s m
  let now := s.time.tb.now
  if !macIsNetwork s m ∨ !linkUp x ∨ x.tx.cur.isSome ∨ x.tx.paused ∨ !p.sending.isEmpty ∨ x.stopping then s
  else
    let sendOf := fun (q : Option StPacket) (s : State) => match q with
      | some q => handOver m q s
      | none => s
    let send := fun (i : Nat) => sendOf (serviceHead now p i)
    match p.owed.filter (fun i => !(servicePackets now p i).isEmpty) with
    | some i => send i (countPromotion m i (modPort m (fun p => { p with owed := none }) s))
    | none =>
      match agedService now p with
      | some i =>
        if i ≠ 0 ∧ !(pacedFirst now p).isEmpty then sendOf (firstPacket (pacedFirst now p)) (modPort m (fun p => { p with owed := some i }) s)
        else send i (countPromotion m i (modPort m (fun p => { p with owed := none }) s))
      | none => match lowestService now p with
        | some i => send i (modPort m (fun p => { p with owed := none }) s)
        | none => s

/-- The packets of a port that have not begun to leave it: those that wait, and one handed to a MAC that sends nothing. -/
def unsentPackets (s : State) (m : Nat) : List StPacket :=
  (portAt s m).queue ++ (if (macAt s m).tx.cur.isSome then [] else (portAt s m).sending)

/-- PACED_DEADLINE_EXPIRY (R440, R536 kind 16): the oldest paced packet of a subscriber that waits past its deadline. -/
def pacedDeadline (m n : Nat) (s : State) : State :=
  let now := s.time.tb.now
  match (unsentPackets s m).find? (fun q => decide (q.sub = n) && q.paced && !q.late && decide (q.deadline ≤ now)) with
  | none => s
  | some q =>
    let x := subAt s n
    let fr := headFrame s x.cfg.head
    let mark := fun (l : List StPacket) => l.map (fun r => if r = q then { r with late := true } else r)
    let s1 := modPort m (fun p => { p with queue := mark p.queue, sending := mark p.sending, ctr.late := inc32 p.ctr.late }) s
    let s2 := modSub n (fun x => { x with ctr.late := inc32 x.ctr.late, lateFrame := some fr }) s1
    let s3 : State := { s2 with st.lastSub := n, st.lastSubValid := true }
    let s4 := if x.lateFrame = some fr then s3 else raise 674 s3
    if (macAt s m).tx.paused then s4 else chargeFrame (10 + m) 16 (logFault 16 (10 + m) n s4)

/-- A packet handed to the MAC has left it, or was lost there (DEDUCED, log entry 102). -/
def packetGone (m n : Nat) (sent : Bool) (s : State) : State :=
  match (portAt s m).sending.find? (fun q => decide (q.sub = n)) with
  | none => s
  | some q =>
    let s1 := modPort m (fun p => { p with
      sending := p.sending.erase q, ctr.paced := if sent && q.paced then inc32 p.ctr.paced else p.ctr.paced }) s
    let s2 := if sent && q.counts then modSub n (fun x => { x with ctr.sent := inc32 x.ctr.sent }) s1 else s1
    copyLeft n q.hold s2

/-- A port leaves UP: the copies that wait there are discarded (R199, R432) (DEDUCED, log entry 109). -/
def streamPortDown (m : Nat) (s : State) : State :=
  let p := portAt s m
  let l := p.queue
  let s1 := modPort m (fun p => { p with queue := [], owed := none }) s
  let s2 := if l.isEmpty then s1 else macCount m 51 l.length s1
  forEach p.sending (fun q => packetGone m q.sub false) (forEach l (fun q => copyLeft q.sub q.hold) s2)

/-- A MAC network port named by a command is in the network role (R431, STREAM_SUB_SET). -/
def notNetwork (s : State) (m : Nat) : Bool := !macIsNetwork s m

/-- The settings of a STREAM_SUB_SET payload. -/
def subCfgOf (c : Cmd) : SubCfg :=
  { kind := c.u8 3, portA := c.u8 4, portB := if c.u8 5 = 255 then none else some (c.u8 5), service := c.u8 6, tier := c.u8 7,
    armed := bit (c.u8 8) 0, typeW := bit (c.u8 8) 1, jumbo := bit (c.u8 8) 2, vlan := bit (c.u8 8) 3, dscp := c.u8 9, ttl := c.u8 10,
    pt := c.u8 11, tci := c.u16 12, head := c.u8 14, pool := c.u8 15, sampling := c.u8 16, lagLines := c.u8 17, pgroups := c.u16 18,
    ssrc := c.u32 20, latencyNs := c.u32 24, ratePps := c.u32 28, burst := c.u16 32, maxBytes := c.u16 34, ringCount := c.u8 36,
    slotBytes := c.u32 40, ringFsa := c.u64 48, dstMacA := c.bytes 56 6, dstMacB := c.bytes 62 6, srcIpA := beNat (c.bytes 68 4),
    srcIpB := beNat (c.bytes 72 4), dstIpA := beNat (c.bytes 76 4), dstIpB := beNat (c.bytes 80 4), srcUdp := c.u16 84,
    dstUdpA := c.u16 86, dstUdpB := c.u16 88 }

/-- The checks of an enabled subscriber's settings (R431, R433, R436, R438, R441, R442, R445, STREAM_SUB_SET). -/
def subChecks (s : State) (c : Cmd) (k : SubCfg) (w lines : Nat) : List Check :=
  let video := decide (k.kind ≤ 1)
  let px := (pgroupOf k.sampling).2
  let t := timingOf s k.head
  let ps := portsOf k
  let maxUdp := if k.jumbo then 8960 else 1460
  [rsvIf (decide (15 < c.u8 8)), rsvIf (decide (63 < k.dscp)), rsv c 37 3, rsv c 44 4, rsv c 90 2,
   bad (decide (3 < k.kind)), bad (ps.any (fun m => decide (15 < m))),
   bad (decide (7 < k.service)), bad (decide (15 < k.tier)),
   bad (decide (k.kind ≠ 3) && decide (k.ttl = 0)), bad (video && (decide (k.pt < 96) || decide (127 < k.pt))),
   bad (video && decide (7 < k.head)), bad (video && decide (6 < k.sampling)), bad (decide (k.kind = 1) && (decide (63 < k.pool) || !(poolAt s k.pool).used)),
   bad (video && (decide (k.pgroups = 0) || decide (2048 < k.pgroups))), bad (decide (k.kind = 1) && decide (1000000000 < k.latencyNs)),
   bad (!video && (decide (k.ratePps = 0) || decide (10000000 < k.ratePps))), bad (!video && (decide (k.burst = 0) || decide (1024 < k.burst))),
   bad (decide (k.kind = 2) && (decide (k.maxBytes = 0) || decide (8960 < k.maxBytes))),
   bad (decide (k.kind = 3) && (decide (k.maxBytes < 60) || decide (16380 < k.maxBytes))),
   bad (!video && decide (k.ringCount < 2)), bad (!video && (decide (k.slotBytes % 64 ≠ 0) || decide (k.slotBytes < 128) || decide (16448 < k.slotBytes))),
   bad (!video && (decide (k.ringFsa % 64 ≠ 0) || decide (capacity s < k.ringFsa + k.ringCount * k.slotBytes))),
   badD (video && (decide (w % px ≠ 0) || decide (maxUdp < videoPayload k w))) 2,
   badD (video && (decide (k.lagLines = 0) || decide (vTotal t - t.vact < k.lagLines))) 3,
   bad (decide (k.kind = 0) && !((hdAt s k.head).cfg.wbPool.all (fun p => poolFits (poolAt s p) k.sampling))),
   bad (decide (k.kind = 1) && (!poolFits (poolAt s k.pool) k.sampling || decide ((poolAt s k.pool).stride % 64 ≠ 0) ||
     decide (8 * (poolAt s k.pool).stride < w * ((layoutOf (samplingLayout k.sampling)).getD {}).b))),
   ownerIf (!video && poolOverlap s k.ringFsa (k.ringCount * k.slotBytes)) unstated,
   stateIf ((subAt s (c.u16 0)).enabled) 6, stateIf (ps.any (notNetwork s)) 7,
   stateIf (decide (k.kind = 0) && (!headEnabled s k.head || isUpperOfPair s k.head || decide ((hdAt s k.head).cfg.wbMode ≠ 1))) 1,
   stateIf (ps.any (portOverloaded s k w lines)) (0x4000 + (ps.find? (portOverloaded s k w lines)).getD 0)]

/-- STREAM_SUB_SET (R431 to R445). -/
def cmdStreamSubSet (c : Cmd) (s : State) : CmdRes :=
  let n := c.u16 0
  let en := decide (c.u8 2 = 1)
  let k := subCfgOf c
  let w := headWidth s k.head
  let lines := if k.kind = 0 then (timingOf s k.head).vact else (poolAt s k.pool).lines
  checks s ([tooShort c 92, bad (decide (2047 < n)), bad (decide (1 < c.u8 2))] ++ (if en then subChecks s c k w lines else []))
    (if en then
       let video := decide (k.kind ≤ 1)
       let s1 := modSub n (fun x => { x with
         enabled := true, cfg := k, width := if video then w else 0, lines := if video then lines else 0, started := false,
         starting := video && !k.armed, picked := false, bucket := { level := k.burst * secUnits, at_ := runTime s } }) s
       if k.armed then done s1
       else if video then .wait (.subStart n) s1
       else done (raise 672 (modSub n (fun x => { x with started := true }) s1))
     else
       let x := subAt s n
       if !x.enabled then done s
       else
         let s1 := modSub n (fun x => { x with disabling := true }) s
         let s2 := if x.started then stopSub n s1
           else subDisabled n (finishWait (.subStart n) .rejState unstated [] (modSub n (fun x => { x with starting := false }) (dropNext n s1)))
         if (subAt s2 n).enabled then .wait (.subStop n) s2 else done s2)

/-- STREAM_PORT_SET (R430, R448). -/
def cmdStreamPortSet (c : Cmd) (s : State) : CmdRes :=
  let m := c.u8 0
  checks s [tooShort c 24, rsv c 1 1, bad (decide (15 < m)), stateIf (notNetwork s m) unstated]
    (done (modPort m (fun p => { p with
      srcMac := c.bytes 2 6, age := (List.range 8).foldl (fun t i => tabSet t i (c.u16 (8 + 2 * i))) p.age }) s))

/-- STREAM_SUB_CTRL (R444). -/
def cmdStreamSubCtrl (c : Cmd) (s : State) : CmdRes :=
  let n := c.u16 0
  let x := subAt s n
  checks s [tooShort c 4, rsv c 3 1, bad (decide (2047 < n)), bad (decide (1 < c.u8 2)), stateIf (!x.enabled || x.disabling) unstated]
    (if c.u8 2 = 0 then
       match startSubscriber n s with
       | some s1 => if (subAt s1 n).starting then .wait (.subStart n) s1 else done s1
       | none => done s
     else if x.started then
       let s1 := stopSub n s
       if (subAt s1 n).started then .wait (.subStop n) s1 else done s1
     else if x.starting then done (subStopped n (finishWait (.subStart n) .rejState unstated [] (dropNext n s)))
     else done s)

end Sys2Proof.Machine
end

