-- ==== Sys2Proof/Machine/StreamRx.lean ====
section
/-! DEFINITION. Receive flows, merges and depacketizers; commands 0x0B13 to 0x0B15 (R429, R449 to R455). -/
namespace Sys2Proof.Machine
open Sys2Proof

/-- Receive flow `f`. -/
def flowAt (s : State) (f : Nat) : RxFlow := tabGet s.st.flows f
/-- Depacketizer `d`. -/
def dpAt (s : State) (d : Nat) : Depack := tabGet s.st.depacks d
/-- Change receive flow `f`. -/
def modFlow (f : Nat) (g : RxFlow → RxFlow) (s : State) : State := { s with st.flows := tabMod s.st.flows f g }
/-- Change depacketizer `d`. -/
def modDp (d : Nat) (g : Depack → Depack) (s : State) : State := { s with st.depacks := tabMod s.st.depacks d g }
/-- The token of depacketizer `d` (R453). -/
def dpToken (s : State) (d : Nat) : Nat := agentToken s clsDepack d

/-- An event at most once a millisecond: whether it is due. -/
def msDue (last : Option Nat) (now : Nat) : Bool :=
  match last with
  | some t => decide (t + 1000000 * nsUnits ≤ now)
  | none => true

/-- Count a packet that no flow takes (R429, R449). -/
def noFlow (m : Nat) (s : State) : State := modPort m (fun p => { p with ctr.noFlow := inc32 p.ctr.noFlow }) s

/-- Event 679, at most once a millisecond (R449). -/
def noFlowEvent (s : State) : State :=
  if msDue s.st.noFlowAt (runTime s) then raise 679 { s with st.noFlowAt := some (runTime s) } else s

/-- A received frame carries UDP in IPv4: no other can match a flow (R429, R449). -/
def isUdp4 (b : List Byte) : Bool :=
  let p := payloadAt b
  decide (etherType b = 0x0800) && decide ((b.getD p 0).toNat / 16 = 4) && decide ((b.getD (p + 9) 0).toNat = 17)

/-- A received UDP packet that the engine does not accept (R429): options, a fragment, or a bad checksum. -/
def packetBad (b : List Byte) : Bool :=
  let p := payloadAt b
  let ip := (b.drop p).take 20
  let flags := be16 ip 6 % 65536
  let len := be16 ip 2
  let udp := ((b.drop (p + 20)).take (len - 20))
  let pseudo := (ip.drop 12).take 8 ++ beBytes 2 17 ++ beBytes 2 udp.length
  decide ((b.getD p 0).toNat % 16 ≠ 5) || decide (flags % 16384 ≠ 0) || decide (inetSum ip ≠ 0) || (decide (be16 udp 6 ≠ 0) && decide (inetSum (pseudo ++ udp) ≠ 0))

/-- A path of a flow matches a packet from MAC `m` (R449). -/
def pathMatches (m : Nat) (k : FlowCfg) (pathB : Bool) (b : List Byte) : Bool :=
  let p := payloadAt b
  let dst := beNat ((b.drop (p + 16)).take 4)
  let src := beNat ((b.drop (p + 12)).take 4)
  (if pathB then decide (k.portB = some m) else decide (k.portA = m)) && decide (dst = if pathB then k.dstIpB else k.dstIpA) &&
    decide (be16 b (p + 22) = if pathB then k.dstUdpB else k.dstUdpA) &&
    (!k.srcMatch || decide (src = if pathB then k.srcIpB else k.srcIpA))

/-- The flow and the path that take a packet: the lowest-numbered enabled flow that matches (R449). -/
def matchFlow (s : State) (m : Nat) (b : List Byte) : Option (Nat × Bool) :=
  (List.range 512).findSome? (fun f =>
    let x := flowAt s f
    if !x.enabled then none
    else if pathMatches m x.cfg false b then some (f, false)
    else if pathMatches m x.cfg true b then some (f, true) else none)

/-- The UDP payload of a packet. -/
def udpPayload (b : List Byte) : List Byte :=
  let p := payloadAt b
  (b.drop (p + 28)).take (be16 b (p + 24) - 8)

/-- The number of a packet that its merge orders by (R451): of 32 bits for a depacketizer, else of 16. -/
def mergeNumber (k : FlowCfg) (b : List Byte) : Nat :=
  let u := udpPayload b
  if k.dest = 0 then be16 u 12 * 65536 + be16 u 2 else be16 u 2
/-- One past the greatest number a merge orders by. -/
def mergeSpan (k : FlowCfg) : Nat := if k.dest = 0 then 2 ^ 32 else 65536

/-- Publish the picture of a depacketizer (R454): `holes` are counted, with event 681 + 2d (DEDUCED, log entry 111). -/
def closeDepack (d : Nat) (marker : Bool) (s : State) : State :=
  let x := dpAt s d
  let q := x.pic
  let holes := q.lines - validCount q.lines (bufAt s q.buffer)
  let s1 := (ledgerPublish q.buffer (dpToken s d) q.frame q.capSec q.capNs s).2
  let s2 := modDp d (fun x => { x with
    state := .idle,
    ctr := { x.ctr with ok := if holes = 0 then inc32 x.ctr.ok else x.ctr.ok, holed := if holes = 0 then x.ctr.holed else inc32 x.ctr.holed,
                        markerMissing := if marker then x.ctr.markerMissing else inc32 x.ctr.markerMissing } }) s1
  if holes = 0 then s2 else raise (681 + 2 * d) s2

/-- The capture instant of a picture (R454): the multiple of 1/90,000 s nearest to its arrival that has its TIMESTAMP,
rounded down to whole nanoseconds, as seconds and nanoseconds. -/
def depackCap (now stamp : Nat) : Nat × Nat :=
  let n0 := now * 90000 / secUnits
  let lo := n0 - (n0 + 4294967296 - stamp) % 4294967296
  let hi := lo + 4294967296
  let inst := fun n => n * secUnits / 90000
  let n := if n0 < (n0 + 4294967296 - stamp) % 4294967296 then stamp else if now - inst lo ≤ inst hi - now then lo else hi
  (n / 90000, n % 90000 * 1000000000 / 90000)

/-- A picture is opened, or dropped for lack of a buffer (R454). -/
def openDepack (d stamp : Nat) (s : State) : State :=
  let x := dpAt s d
  match ledgerAcquire x.pool (dpToken s d) s with
  | (none, s1) => raise (680 + 2 * d) (modDp d (fun x => { x with state := .dropping, stamp := stamp, dropped := some stamp, ctr := { x.ctr with dropNoBuf := inc32 x.ctr.dropNoBuf } }) s1)
  | (some b, s1) =>
    let q := poolAt s1 x.pool
    let cap := depackCap s1.time.tb.now stamp
    let g := pgroupOf x.sampling
    finishWait (.depack d) .ok 0 [] (modDp d (fun x => { x with
      state := .opened, stamp := stamp, dropped := none, opened := x.opened + 1,
      pic := { frame := x.opened + 1, buffer := b, lines := q.lines, lineBytes := x.width / g.2 * g.1, stride := q.stride, base := bufBase s1 b,
               capSec := cap.1 % 2 ^ 48, capNs := cap.2 } }) s1)

/-- The codes of pgroups, most significant bit first. -/
def unpackMsb (n : Nat) (b : List Byte) : List Nat :=
  let v := beNat b
  let k := if n = 0 then 0 else b.length * 8 / n
  (List.range k).map (fun i => bits v (b.length * 8 - n * (i + 1)) n)

/-- Pgroups repacked as the bytes of a surface (R434): the codes keep their order but for 4:4:4, and RGBA gains A. -/
def surfaceBytes (lay : Layout) (b : List Byte) : List Byte :=
  let c := unpackMsb lay.n b
  let px := (List.range (c.length / 3)).map (fun i => (c.getD (3 * i) 0, c.getD (3 * i + 1) 0, c.getD (3 * i + 2) 0))
  packBits (match lay.fam with
    | .yc444 => px.flatMap (fun p => [(lay.n, p.2.1), (lay.n, p.1), (lay.n, p.2.2)])
    | .rgba8 => px.flatMap (fun p => [(8, p.1), (8, p.2.1), (8, p.2.2), (8, 255)])
    | _ => c.map (fun v => (lay.n, v)))

/-- Place one sample row data segment by the steps of R226 (R454): of a segment that ends within a pgroup the whole codes are written (DEDUCED, log entry 230). -/
def placeSrd (d line off : Nat) (fbit : Bool) (data : List Byte) (s : State) : State :=
  let x := dpAt s d
  let q := x.pic
  let g := pgroupOf x.sampling
  let lay := (layoutOf (samplingLayout x.sampling)).getD {}
  let brk := fun (s : State) => modDp d (fun x => { x with pic.broken := Nat.lor x.pic.broken (2 ^ line) }) s
  let byteOff := off * g.1 / g.2
  if q.lines ≤ line then s
  else if fbit then (if lineValid s q.buffer line then s else brk s)
  else if q.lineBytes < byteOff + data.length then (if lineValid s q.buffer line then s else brk s)
  else if lineValid s q.buffer line ∨ q.broken.testBit line then s
  else if off % g.2 ≠ 0 ∨ byteOff ≠ tabGet q.expected line then brk s
  else
    let s1 := fsWrite (q.base + line * q.stride + off * lay.b / 8) (surfaceBytes lay data) s
    let e := byteOff + data.length
    let s2 := modDp d (fun x => { x with pic.expected := tabSet x.pic.expected line e }) s1
    if e = q.lineBytes then markLines q.buffer line 1 s2 else s2

/-- The segments of a packet: up to three headers, then their data (R454). -/
def srdSegments : Nat → List Byte → List (Nat × Nat × Nat × Bool)
  | 0, _ => []
  | n + 1, h =>
    let off := be16 h 4
    (be16 h 0, be16 h 2 % 32768, off % 32768, decide (32768 ≤ be16 h 2)) :: (if 32768 ≤ off then srdSegments n (h.drop 6) else [])

/-- DEPACK_PACKET (R454): a packet that the merge passes. -/
def depackPacket (d : Nat) (b : List Byte) (s : State) : State :=
  let u := udpPayload b
  let stamp := beNat ((u.drop 4).take 4)
  let marker := decide (128 ≤ (u.getD 1 0).toNat)
  let x := dpAt s d
  if !x.enabled then s
  else
    let s1 := if x.state = .opened ∧ x.stamp ≠ stamp then closeDepack d false s else s
    let y := dpAt s1 d
    let s2 := if y.state = .opened ∨ y.dropped = some stamp then s1 else openDepack d stamp s1
    let z := dpAt s2 d
    if z.state ≠ .opened then (if marker ∧ z.state = .dropping then modDp d (fun x => { x with state := .idle }) s2 else s2)
    else
      let segs := srdSegments 3 (u.drop 14)
      let data := u.drop (14 + 6 * segs.length)
      let r := segs.foldl (fun (acc : List Byte × State) g => (acc.1.drop g.1, placeSrd d g.2.1 g.2.2.1 g.2.2.2 (acc.1.take g.1) acc.2)) ((data, s2) : List Byte × State)
      if marker then closeDepack d true r.2 else r.2

/-- A packet that a flow passes on (R452): to its depacketizer, or to a host ring, which drops it as R207 states where its
channel is not in MODE 2 (R481). -/
def flowDeliver (f m : Nat) (b : List Byte) (s : State) : State :=
  let k := (flowAt s f).cfg
  let s1 := modFlow f (fun x => { x with ctr.accepted := inc32 x.ctr.accepted }) s
  if k.dest = 0 then depackPacket k.target b s1
  else match ringDeliver k.target { mac := m, source := f, isFlow := true, bytes := b } s1 with
    | some s2 => s2
    | none => raiseMac m 6 (macCount m 23 1 s1)

/-- Pass on the held packets that have become next (R451). -/
def mergeDrain : Nat → Nat → State → State
  | 0, _, s => s
  | n + 1, f, s =>
    let x := flowAt s f
    match x.waiting.find? (fun h => decide (x.next = some h.seq)) with
    | none => s
    | some h =>
      mergeDrain n f (flowDeliver f h.mac h.bytes (modFlow f (fun x => { x with
        next := some ((h.seq + 1) % mergeSpan x.cfg), waiting := x.waiting.erase h }) s))

/-- Pass everything that is next. -/
def drainFlow (f : Nat) (s : State) : State := mergeDrain (flowAt s f).waiting.length f s

/-- A packet at the merge of its flow (R451) (DEDUCED, log entry 110). -/
def mergePacket (f m : Nat) (b : List Byte) (s : State) : State :=
  let x := flowAt s f
  let span := mergeSpan x.cfg
  let n := mergeNumber x.cfg b
  let dup := fun (s : State) => modFlow f (fun x => { x with ctr.duplicates := inc32 x.ctr.duplicates }) s
  let ahead := match x.next with
    | some e => (n + span - e) % span
    | none => 0
  if ahead = 0 then drainFlow f (flowDeliver f m b (modFlow f (fun x => { x with next := some ((n + 1) % span) }) s))
  else if span / 2 ≤ ahead ∨ x.waiting.any (fun h => decide (h.seq = n)) then dup s
  else modFlow f (fun x => { x with waiting := x.waiting ++ [{ seq := n, mac := m, bytes := b }] }) s

/-- A policed packet (R450): counted, latched, with event 676 at most once a millisecond. -/
def policed (f : Nat) (s : State) : State :=
  let s1 := modFlow f (fun x => { x with ctr.policed := inc32 x.ctr.policed }) s
  let s2 : State := { s1 with st.lastFlow := f, st.lastFlowValid := true }
  if msDue s2.st.policedAt (runTime s2) then raise 676 { s2 with st.policedAt := some (runTime s2) } else s2

/-- RX_FLOW_PACKET (R429, R449 to R452): a MAC frame reaches the stream engine. -/
def rxFlowPacket (m : Nat) (b : List Byte) (s : State) : State :=
  if !isUdp4 b then noFlowEvent (noFlow m s)
  else if packetBad b then noFlow m s
  else match matchFlow s m b with
    | none => noFlowEvent (noFlow m s)
    | some (f, pathB) =>
      let x := flowAt s f
      let now := runTime s
      let bk := refill x.cfg.ratePps x.cfg.burst now (if pathB then x.bucketB else x.bucketA)
      match takeToken bk with
      | none => policed f (modFlow f (fun x => if pathB then { x with bucketB := bk } else { x with bucketA := bk }) s)
      | some t =>
        let s1 := modFlow f (fun x => if pathB then { x with bucketB := t, lastB := some now, downB := false }
          else { x with bucketA := t, lastA := some now, downA := false }) s
        if x.cfg.portB.isSome then mergePacket f m b s1 else flowDeliver f m b s1

/-- MERGE_TIMEOUT (R451): the numbers missing before the nearest one held are skipped. -/
def mergeTimeout (f : Nat) (s : State) : State :=
  let x := flowAt s f
  let span := mergeSpan x.cfg
  match x.next with
  | none => s
  | some e =>
    let gap := fun (h : Held) => (h.seq + span - e) % span
    match x.waiting.foldl (fun (m : Option Held) h => match m with
        | none => some h
        | some c => if gap h < gap c then some h else some c) none with
    | none => s
    | some h => drainFlow f (modFlow f (fun x => { x with next := some h.seq, ctr.lost := (x.ctr.lost + gap h) % 2 ^ 30 }) s)

/-- PATH_DOWN_TIMEOUT (R451): a path has delivered nothing for 100 ms, or since its flow was enabled where that is as long, while the
other delivers. -/
def pathDownTimeout (f : Nat) (pathB : Bool) (s : State) : State :=
  let x := flowAt s f
  let mine := if pathB then x.lastB else x.lastA
  let other := if pathB then x.lastA else x.lastB
  let since := fun (l : Option Nat) => l.any (fun t => decide (runTime s < t + 100000000 * nsUnits))
  if !x.enabled ∨ x.cfg.portB.isNone ∨ !since other ∨ since (some (mine.getD x.since)) ∨ (if pathB then x.downB else x.downA) then s
  else raise 677 (modFlow f (fun x => if pathB then { x with downB := true } else { x with downA := true }) s)

/-- DEPACK_END_TIMEOUT (R454): the open picture is closed, and a dropped one is over. -/
def depackTimeout (d : Nat) (s : State) : State :=
  if (dpAt s d).state = .opened then closeDepack d false s
  else modDp d (fun x => { x with state := .idle }) s

/-- The settings of a STREAM_RX_FLOW_SET payload. -/
def flowCfgOf (c : Cmd) : FlowCfg :=
  { dest := c.u8 3, portA := c.u8 4, portB := if c.u8 5 = 255 then none else some (c.u8 5), target := c.u8 6, srcMatch := bit (c.u8 7) 0,
    dstIpA := beNat (c.bytes 8 4), srcIpA := beNat (c.bytes 12 4), dstIpB := beNat (c.bytes 16 4), srcIpB := beNat (c.bytes 20 4),
    dstUdpA := c.u16 24, dstUdpB := c.u16 26, ratePps := c.u32 28, burst := c.u16 32, mergeUs := c.u16 34 }

/-- STREAM_RX_FLOW_SET (R449 to R452). In this model a matched packet is delivered in the step that takes it, but for
those a merge holds, which are delivered when the flow is disabled. -/
def cmdStreamRxFlowSet (c : Cmd) (s : State) : CmdRes :=
  let f := c.u16 0
  let en := decide (c.u8 2 = 1)
  let k := flowCfgOf c
  let ps := k.portA :: k.portB.toList
  let taken := k.dest = 0 ∧ anyUpTo 512 (fun i => i ≠ f && (flowAt s i).enabled && decide ((flowAt s i).cfg.dest = 0) && decide ((flowAt s i).cfg.target = k.target))
  let full : Bucket := { level := k.burst * secUnits, at_ := runTime s }
  checks s ([tooShort c 36, bad (decide (511 < f)), bad (decide (1 < c.u8 2))] ++
    (if en then [rsvIf (decide (1 < c.u8 7)), bad (decide (1 < k.dest)), bad (ps.any (fun m => decide (15 < m))),
      bad (if k.dest = 0 then decide (15 < k.target) else decide (27 < k.target)), bad (decide (k.ratePps = 0) || decide (10000000 < k.ratePps)),
      bad (decide (k.burst = 0) || decide (1024 < k.burst)), bad (k.portB.isSome && (decide (k.mergeUs < 100) || decide (10000 < k.mergeUs))),
      stateIf (ps.any (notNetwork s)) unstated, stateIf (decide taken) 5] else []))
    (if en then done (modFlow f (fun x => ({ enabled := true, since := runTime s, cfg := k, bucketA := full, bucketB := full, ctr := x.ctr, shadow := x.shadow } : RxFlow)) s)
     else
       let s1 := forUpTo (flowAt s f).waiting.length (fun _ s => mergeTimeout f s) s
       done (modFlow f (fun x => ({ ctr := x.ctr, shadow := x.shadow } : RxFlow)) s1))

/-- The reset of a depacketizer (R455, R483): its GEN rises and its open buffer is taken back. -/
def resetDepack (d : Nat) (s : State) : State :=
  let x := dpAt s d
  resetAgent clsDepack d (finishWait (.depack d) .rejState unstated [] (modDp d (fun x => ({ ctr := x.ctr, shadow := x.shadow } : Depack))
    (forEach (if x.state = .opened then pictureBurst (.depack d) x.pic else []) cutBurst s)))

/-- The picture that a depacketizer has open is discarded. -/
def dropOpen (d : Nat) (s : State) : State :=
  if (dpAt s d).state = .opened then (ledgerDiscard (dpAt s d).pic.buffer (dpToken s d) s).2 else s

/-- STREAM_DEPACK_SET (R243, R453, R455); an enabled depacketizer begins anew with its new settings (DESIGN CHOICE, log entry 231). -/
def cmdStreamDepackSet (c : Cmd) (s : State) : CmdRes :=
  let d := c.u8 0
  let en := decide (c.u8 1 = 1)
  let p := c.u8 2
  let samp := c.u8 3
  let w := c.u16 4
  let q := poolAt s p
  let b := ((layoutOf (samplingLayout samp)).getD {}).b
  checks s ([tooShort c 12, bad (decide (15 < d)), bad (decide (1 < c.u8 1))] ++
    (if en then [rsv c 6 2, bad (decide (63 < p) || !q.used), bad (decide (6 < samp)),
      bad (decide (w = 0) || decide (w % (pgroupOf samp).2 ≠ 0)), bad (decide (c.u32 8 < 1000) || decide (1000000 < c.u32 8)),
      badD (decide (fmtLayout q.format ≠ samplingLayout samp)) 1, bad (fmtTiled q.format), bad (decide (8 * q.stride < w * b))] else []))
    (if en then .wait (.depack d) (dropOpen d s |> modDp d (fun x => ({ enabled := true, pool := p, sampling := samp, width := w, endTimeoutUs := c.u32 8, ctr := x.ctr, shadow := x.shadow } : Depack)))
     else if (dpAt s d).enabled then .wait (.depackReset d) (resetDepack d s)
     else done s)

/-- The statistics record of a subscriber (STREAM_STATS_READ). -/
def subRecord (k : SubCounters) : List Byte := leBytes 4 k.sent ++ leBytes 4 k.late ++ leBytes 4 k.repeated ++ leBytes 4 k.held
/-- The statistics record of a flow. -/
def flowRecord (x : RxFlow) (k : FlowCounters) : List Byte :=
  leBytes 4 k.accepted ++ leBytes 4 k.policed ++ leBytes 4 k.duplicates ++
    leBytes 4 (k.lost % 2 ^ 30 + 2 ^ 31 * b2n x.downA + 2 ^ 30 * b2n x.downB)

/-- The records of a statistics read from index `i`. -/
def statsBytes (s : State) (isFlow shadow : Bool) (i n : Nat) : List Byte :=
  ((List.range n).map (fun j =>
    if isFlow then let x := flowAt s (i + j); flowRecord x (if shadow then x.shadow else x.ctr)
    else let x := subAt s (i + j); subRecord (if shadow then x.shadow else x.ctr))).flatten

/-- One step of STREAM_STATS_READ: at most 512 records; none where the host interface cannot take them. -/
def stepStats (isFlow shadow : Bool) (first count addr d : Nat) (s : State) : Option (Nat × State) :=
  let n := min 512 (count - d)
  (hostWrite (addr + 16 * d) (statsBytes s isFlow shadow (first + d) n) s).map (fun s1 => (d + n, s1))

/-- STREAM_STATS_READ. -/
def cmdStreamStatsRead (c : Cmd) (s : State) : CmdRes :=
  let isFlow := decide (c.u8 0 = 1)
  let shadow := decide (c.u8 1 = 1)
  let first := c.u16 2
  let count := c.u16 4
  let a := c.u64 8
  let fin := fun (d : Nat) => if count ≤ d then some (Status.ok, 0, ([] : List Byte)) else none
  checks s [tooShort c 16, rsv c 6 2, bad (decide (1 < c.u8 0)), bad (decide (1 < c.u8 1)), bad (decide (count = 0) || decide (2048 < count)),
    bad (decide ((if isFlow then 512 else 2048) < first + count)), bad (decide (a % 4 ≠ 0))]
    (match stepStats isFlow shadow first count a 0 s with
     | some (d, s1) => .accept (.statsRead isFlow shadow first count a d) (fin d) s1
     | none => .accept (.statsRead isFlow shadow first count a 0) (some (.timeout, unstated, [])) s)

/-- A reset of the stream engine (R455): every subscriber stops, and the packetizer and the depacketizers are reset. -/
def resetStreams (s : State) : State :=
  let s1 := resetAgent clsPacketizer 0 (forUpTo 16 resetDepack s)
  { s1 with st := {} }

end Sys2Proof.Machine
end

