-- ==== Sys2Proof/Machine/Ptp.lean ====
section
/-! DEFINITION. PTP and the rig link: commands 0x0B18 and 0x0B19, the servo and the election (R456 to R462). The layout of
PTP messages is that of IEEE 1588, which R456 names and the spec does not print (PRESUMED). -/
namespace Sys2Proof.Machine
open Sys2Proof

/-- PTP on port `m`. -/
def ptpAt (s : State) (m : Nat) : PtpPort := tabGet s.st.ptp m
/-- Change PTP on port `m`. -/
def modPtp (m : Nat) (f : PtpPort → PtpPort) (s : State) : State := { s with st.ptp := tabMod s.st.ptp m f }
/-- Change the rig link. -/
def modRig (f : Rig → Rig) (s : State) : State := { s with st.rig := f s.st.rig }

/-- `PTP_STATUS` follows a port; a change of STATE raises event 712 (R462). -/
def setPtpState (m st : Nat) (s : State) : State :=
  let s1 : State := { s with st.ptpStatus := { s.st.ptpStatus with port := m, state := st } }
  if s.st.ptpStatus.state = st then s1 else raise 712 s1

/-- A rule of the MAC steers frames that meet a test to a queue of destination kind 1 (R206, R207). -/
def steersToFirmware (s : State) (m : Nat) (p : Rule → Bool) : Bool :=
  let x := macAt s m
  anyUpTo 64 (fun i => let r := tabGet x.rules i; decide (r.queue < 8) && p r && decide (x.cfg.dest.getD r.queue 0 % 4 = 1))

/-- A PTP reference candidate names a port (R65). -/
def ptpCandidate (s : State) (m : Nat) : Option Nat := firstCand s.time.tb.cands (fun c => decide (c.type = 4) && decide (c.unit = m))

/-- PTP_PORT_SET (R456). -/
def cmdPtpPortSet (c : Cmd) (s : State) : CmdRes :=
  let m := c.u8 0
  let en := decide (c.u8 1 = 1)
  let g := fun o => signedOf 8 (c.u8 o)
  let k : PtpCfg := { enabled := true, domain := c.u8 2, unicast := bit (c.u8 3) 0, logSync := g 4, logAnnounce := g 5, logDelayReq := g 6,
                      annTimeout := c.u8 7, prio1 := c.u8 8, prio2 := c.u8 9 }
  checks s ([tooShort c 12, rsvIf (decide (1 < c.u8 3)), rsv c 10 2, bad (decide (15 < m)), bad (decide (1 < c.u8 1))] ++
    (if en then [bad (decide (127 < c.u8 2)), bad (decide (k.logSync < -7) || decide (0 < k.logSync)),
      bad (decide (k.logAnnounce < -3) || decide (3 < k.logAnnounce)), bad (decide (k.logDelayReq < -7) || decide (3 < k.logDelayReq)),
      bad (decide (k.annTimeout < 2) || decide (10 < k.annTimeout)), stateIf (notNetwork s m) unstated,
      stateIf (!steersToFirmware s m (fun r => decide (r.l4 = 1))) 1]
     else [stateIf (ptpCandidate s m).isSome 2]))
    (if en then done (if leaderPort s m then setPtpState m 4 (modPtp m (fun p => { p with cfg := k }) s)
       else setPtpState m 1 (modPtp m (fun _ => { cfg := k }) s))
     else if (ptpAt s m).cfg.enabled then
       done (if s.st.ptpStatus.port = m then setPtpState m 0 (modPtp m (fun _ => {}) s) else modPtp m (fun _ => {}) s)
     else done s)

/-- The clock identity of a port (R456). -/
def clockId (s : State) (m : Nat) : List Byte := (stationAddr s m).take 3 ++ [0xFF, 0xFE] ++ (stationAddr s m).drop 3

/-- The clockClass of a leader (R458). -/
def leaderClass (s : State) : Nat :=
  if s.time.tb.state = .locked ∧ s.time.tb.todValid then 6 else if s.time.tb.state = .hold then 7 else 248

/-- An instant as a PTP timestamp: 48 bits of seconds and 32 of nanoseconds. -/
def ptpStampBytes (t : Nat) : List Byte := beBytes 6 (t / secUnits % 2 ^ 48) ++ beBytes 4 (t % secUnits / nsUnits)

/-- The header of a PTP message from a port. -/
def ptpHeader (s : State) (m ty len flags seq ctrl : Nat) (logIv : Int) : List Byte :=
  beBytes 1 ty ++ beBytes 1 2 ++ beBytes 2 len ++ beBytes 1 (ptpAt s m).cfg.domain ++ beBytes 1 0 ++ beBytes 2 flags ++ beBytes 8 0 ++ beBytes 4 0 ++
    clockId s m ++ beBytes 2 1 ++ beBytes 2 seq ++ beBytes 1 ctrl ++ beBytes 1 (unsignedOf 8 logIv)

/-- Send a PTP message on service 4 (R456): event messages on UDP port 319, general ones on 320. Each is flagged for timestamping: `owner` 1
is a Sync and 2 a Delay_Req, whose transmit instants are used, 4 any other. A unicast message goes to the station address that the
master's Announce came from (DESIGN CHOICE, log entry 16). -/
def ptpSend (m owner udp : Nat) (unicast : Option Nat) (b : List Byte) (s : State) : State :=
  let dmac : List Byte := if unicast.isSome then (ptpAt s m).masterMac else [0x01, 0x00, 0x5E, 0x00, 0x01, 0x81]
  firmwareSend m 4 owner (udpFrame dmac (stationAddr s m) none 0 1 (Config.ptpSourceIp m % 2 ^ 32) (unicast.getD 0xE0000181) udp udp b) s

/-- A Sync of a leader (R456, R458): its Follow_Up goes out when its transmit instant is known. -/
def sendSync (m : Nat) (s : State) : State :=
  let p := ptpAt s m
  ptpSend m 1 319 none (ptpHeader s m 0 44 0x0200 (p.txSync % 65536) 0 p.cfg.logSync ++ ptpStampBytes 0) (modPtp m (fun p => { p with txSync := p.txSync + 1 }) s)

/-- The Follow_Up of the last Sync, with the instant at which that left (R209, R456). -/
def sendFollowUp (m : Nat) (s : State) : State :=
  let p := ptpAt s m
  ptpSend m 4 320 none (ptpHeader s m 8 44 0 ((p.txSync - 1) % 65536) 2 p.cfg.logSync ++ ptpStampBytes (macAt s m).tx.sfdAt) s

/-- An Announce of a leader (R458). -/
def sendAnnounce (m : Nat) (s : State) : State :=
  let p := ptpAt s m
  let b := ptpHeader s m 11 64 0x0008 (p.txAnnounce % 65536) 5 p.cfg.logAnnounce ++ ptpStampBytes 0 ++ beBytes 2 37 ++ beBytes 1 0 ++ beBytes 1 p.cfg.prio1 ++
    beBytes 1 (leaderClass s) ++ beBytes 1 0xFE ++ beBytes 2 0xFFFF ++ beBytes 1 p.cfg.prio2 ++ clockId s m ++ beBytes 2 0 ++ beBytes 1 0xA0
  ptpSend m 4 320 none b (modPtp m (fun p => { p with txAnnounce := p.txAnnounce + 1 })
    { s with st.ptpStatus.gmClass := leaderClass s })

/-- A Delay_Req of a slave (R456). -/
def sendDelayReq (m : Nat) (s : State) : State :=
  let p := ptpAt s m
  let s1 := modPtp m (fun p => { p with reqSeq := (p.reqSeq + 1) % 65536, reqT3 := none }) s
  ptpSend m 2 319 (if p.cfg.unicast then some p.masterIp else none)
    (ptpHeader s m 1 44 0 ((p.reqSeq + 1) % 65536) 1 0x7F ++ ptpStampBytes 0) s1

/-- PTP_MESSAGE_TIMER (R458): a leader sends Sync, and Announce on every Sync timer that reaches the Announce interval; a
slave sends a Delay_Req (DEDUCED, log entry 114). -/
def ptpTimer (m : Nat) (s : State) : State :=
  let p := ptpAt s m
  if !p.cfg.enabled ∨ !firmwareRunning s then s
  else if leaderPort s m then
    let every := 2 ^ (p.cfg.logAnnounce - p.cfg.logSync).toNat
    sendSync m (if p.txSync % every = 0 then sendAnnounce m s else s)
  else if p.best.isSome then sendDelayReq m s else s

/-- A MAC has sent a frame flagged for timestamping (R209); its stamp is lost on a firmware that restarts (R55). -/
def ptpSent (m owner : Nat) (s : State) : State :=
  let stamped := modPtp m (fun p => { p with txStamp := some (macAt s m).tx.sfdAt }) s
  if !firmwareRunning s then s
  else if owner = 1 then sendFollowUp m stamped
  else if owner = 2 then modPtp m (fun p => { p with reqT3 := p.txStamp }) stamped
  else if owner = 4 then stamped
  else s

/-- The order of the default best master clock algorithm: whether `a` is better than `b` (R457). -/
def betterMaster (a b : Announce) : Bool :=
  let key := fun (x : Announce) => [x.prio1, x.clockClass, x.accuracy, x.variance, x.prio2, x.gm, x.steps, x.source]
  ((key a).zip (key b)).foldr (fun p r => if p.1 < p.2 then true else if p.2 < p.1 then false else r) false

/-- The grandmaster of a port changes (R457): event 713, and its candidate is lost. -/
def masterChanged (m : Nat) (a : Announce) (s : State) : State :=
  let s1 := raise 713 { s with st.ptpStatus.gm := a.gm, st.ptpStatus.gmClass := a.clockClass }
  match ptpCandidate s m with
  | some i => refLost i s1
  | none => s1

/-- An Announce message (R457, R458). -/
def ptpAnnounce (m : Nat) (u srcMac : List Byte) (srcIp : Nat) (s : State) : State :=
  let f := fun o n => beNat ((u.drop o).take n)
  let a : Announce := { prio1 := f 47 1, clockClass := f 48 1, accuracy := f 49 1, variance := f 50 2, prio2 := f 52 1, gm := f 53 8, steps := f 61 2, source := f 20 10 }
  let p := ptpAt s m
  if leaderPort s m then (if (u.drop 20).take 8 = clockId s m then s else { s with st.ptpStatus.ignored := satAdd 65535 s.st.ptpStatus.ignored 1 })
  else
    let take := match p.best with
      | none => true
      | some b => decide (b.source = a.source) || betterMaster a b
    if !take then s
    else
      let s1 := modPtp m (fun p => { p with best := some a, gm := some a.gm, masterIp := srcIp, masterMac := srcMac }) s
      let same := decide (p.gm = some a.gm)
      let s2 := match p.best with
        | some _ => if same then s1 else setPtpState m 2 (modPtp m (fun p => { p with delays := [], offsets := [], syncSeq := none }) s1)
        | none => setPtpState m 2 s1
      if same then { s2 with st.ptpStatus.gm := a.gm, st.ptpStatus.gmClass := a.clockClass } else masterChanged m a s2

/-- The mean of a list of signed values. -/
def meanInt (l : List Int) : Int := if l.isEmpty then 0 else l.sum / (l.length : Int)

/-- The median of a list of signed values. -/
def medianInt (l : List Int) : Int :=
  let r := l.mergeSort (fun a b => decide (a ≤ b))
  r.getD (r.length / 2) 0

/-- An offset of the servo (R457): filtered once the candidate has qualified, and handed to the timebase as the master's
error (DEDUCED, log entry 113). -/
def ptpOffset (m : Nat) (t1 : Nat) (t2 : Nat) (corr : Int) (s : State) : State :=
  let p := ptpAt s m
  let delay := meanInt p.delays
  let off : Int := ((t2 : Int) - t1) / (nsUnits : Nat) - corr - delay
  let qualified := (ptpCandidate s m).any (fun i => decide ((candAt s i).state = .qualified))
  let last := (p.offsets ++ [off]).drop ((p.offsets.length + 1) - 8)
  let s1 := modPtp m (fun p => { p with t1 := t1, t2 := t2, corr := corr, offsets := last, syncSeq := none }) s
  if qualified ∧ 100000 < (off - medianInt (if p.offsets.isEmpty then [off] else p.offsets)).natAbs then s1
  else
    let s2 := setPtpState m (if p.delays.isEmpty then 2 else 3) { s1 with st.ptpStatus.offsetNs := off, st.ptpStatus.delayNs := delay }
    match ptpCandidate s m with
    | some i => refErrorMeasure i (-off) s2.time.tb.masterPpb s2
    | none => s2

/-- PTP_MESSAGE_RECEIVED (R456 to R458): a message steered to the firmware on a port with PTP. -/
def ptpReceived (m : Nat) (b : List Byte) (s : State) : State :=
  let u := udpPayload b
  let f := fun o n => beNat ((u.drop o).take n)
  let ty := f 0 1 % 16
  let p := ptpAt s m
  let src := f 20 10
  let srcIp := beNat ((b.drop (payloadAt b + 12)).take 4)
  let corr : Int := signedOf 64 (f 8 8) / 65536
  let t := f 34 6 * secUnits + f 40 4 * nsUnits
  let fromBest := p.best.any (fun a => decide (a.source = src))
  if !p.cfg.enabled ∨ !toFirmware (macAt s m) b ∨ !firmwareRunning s ∨ packetBad b ∨ f 1 1 % 16 ≠ 2 ∨ f 4 1 ≠ p.cfg.domain then s
  else if ty = 11 then ptpAnnounce m u ((b.drop 6).take 6) srcIp s
  else if leaderPort s m then
    if ty = 1 then ptpSend m 4 320 none (ptpHeader s m 9 54 0 (f 30 2) 3 p.cfg.logDelayReq ++ ptpStampBytes s.time.tb.now ++ (u.drop 20).take 10) s else s
  else if !fromBest then s
  else match ty with
    | 0 => if bit (f 6 1) 1 then modPtp m (fun p => { p with syncSeq := some (f 30 2), syncT2 := s.time.tb.now, syncCorr := corr }) s
           else ptpOffset m t s.time.tb.now corr s
    | 8 => if p.syncSeq = some (f 30 2) then ptpOffset m t p.syncT2 (p.syncCorr + corr) s else s
    | 9 =>
      match p.reqT3 with
      | some t3 =>
        if f 30 2 = p.reqSeq ∧ (u.drop 44).take 8 = clockId s m then
          let d : Int := (((p.t2 : Int) - p.t1) / (nsUnits : Nat) - p.corr + ((t : Int) - t3) / (nsUnits : Nat) - corr) / 2
          let l := (p.delays ++ [d]).drop ((p.delays.length + 1) - 16)
          { modPtp m (fun p => { p with delays := l, reqT3 := none }) s with st.ptpStatus.delayNs := meanInt l }
        else s
      | none => s
    | _ => s

/-- ANNOUNCE_RECEIPT_TIMEOUT (R462). -/
def announceTimeout (m : Nat) (s : State) : State :=
  let p := ptpAt s m
  if !p.cfg.enabled ∨ !firmwareRunning s ∨ leaderPort s m ∨ p.best.isNone then s
  else setPtpState m 1 (raise 714 (modPtp m (fun p => { p with best := none, syncSeq := none, delays := [], offsets := [] }) s))

/-- The device's pair (R459). -/
def rigPair (s : State) : Nat × Nat := (s.st.rig.priority, s.boot.fuses.serial)
/-- One pair is lower than another: PRIORITY first (R459). -/
def pairLower (a b : Nat × Nat) : Bool := decide (a.1 < b.1) || (decide (a.1 = b.1) && decide (a.2 < b.2))

/-- Send a rig frame (R459). -/
def rigSend (ty : Nat) (s : State) : State :=
  let r := s.st.rig
  firmwareSend r.port 5 0 ([0x03, 0x4B, 0x52, 0x49, 0x47, 0x00] ++ stationAddr s r.port ++ beBytes 2 0x88B7 ++ beBytes 1 ty ++ beBytes 1 1 ++ beBytes 2 r.rigId ++
    beBytes 1 r.priority ++ beBytes 1 (if ty = 2 then r.count else 0) ++ beBytes 2 0 ++ beBytes 8 s.boot.fuses.serial ++ beBytes 4 r.nonce) s

/-- The count of members changes: event 717 (R462). -/
def setCount (n : Nat) (s : State) : State := if s.st.rig.count = n then s else raise 717 (modRig (fun r => { r with count := n }) s)

/-- The rig leader changes: event 715 (R462). -/
def setLeader (l : Option (Nat × Nat)) (s : State) : State :=
  if s.st.rig.leader = l then s
  else
    let s1 := modRig (fun r => { r with leader := l }) s
    if l.isSome then raise 715 s1 else s1

/-- The PTP port of a device that is leader no longer listens as a slave (R457, R458). -/
def leaveLeader (s : State) : State :=
  if s.st.rig.state = .leader ∧ (ptpAt s s.st.rig.port).cfg.enabled then setPtpState s.st.rig.port 1 s else s

/-- The device claims (R460): the first CLAIM goes out and the device listens (DESIGN CHOICE, log entry 17). -/
def rigClaim (s : State) : State :=
  rigSend 1 (modRig (fun r => { r with state := .claiming, claims := 1, anyClaim := false, lowerClaim := false, sameClaim := false, alone := false, members := [] })
    (setCount 0 (setLeader none (leaveLeader s))))

/-- The device becomes leader (R458, R460, R461). -/
def becomeLeader (alone : Bool) (s : State) : State :=
  let m := s.st.rig.port
  let s1 := setLeader (some (rigPair s)) (modRig (fun r => { r with state := .leader, alone := alone, members := [] }) s)
  let s2 := if alone then raise 716 s1 else s1
  let s3 := rigSend 2 (setCount 1 s2)
  let s4 := match ptpCandidate s3 m with
    | some i => if (candAt s3 i).state = .absent then s3 else setCandState i .absent s3
    | none => s3
  setPtpState m 4 (modPtp m (fun p => { p with best := none, delays := [], offsets := [], syncSeq := none }) s4)

/-- The device backs off for a random time, listening (R460, R461). -/
def rigBackoff (s : State) : State :=
  modRig (fun r => { r with state := .backoff, sameClaim := false, alone := false }) (leaveLeader s)

/-- A LEAD is heard (R460, R461): the device joins it, or finds the rig full (DEDUCED, log entry 115). -/
def joinLead (l : Nat × Nat) (members : Nat) (s : State) : State :=
  let was := decide (s.st.rig.state = .member) && decide (s.st.rig.leader = some l)
  let full := decide (16 ≤ members) && !was
  let s1 := setLeader (some l) (leaveLeader s)
  setCount members (modRig (fun r => { r with state := if full then .full else .member, alone := false, members := [] }) s1)

/-- A frame with the device's own pair and another NONCE (R460, R461). -/
def rigDuplicate (ty : Nat) (s : State) : State :=
  let s1 := raise 718 (modRig (fun r => { r with dupSeen := true }) s)
  match s.st.rig.state with
  | .claiming | .backoff => if ty = 1 then modRig (fun r => { r with sameClaim := true, anyClaim := true }) s1 else s1
  | .leader | .member => rigBackoff s1
  | _ => s1

/-- A LEAD of a device with the same pair (R460, R461): one that claims or listens joins that leader, as of two with
identical pairs the other yields; a leader or member backs off (DEDUCED, log entry 201). -/
def leadOfTwin (members : Nat) (s : State) : State :=
  let s1 := rigDuplicate 2 s
  match s.st.rig.state with
  | .claiming | .backoff | .waiting | .full => joinLead (rigPair s) members s1
  | _ => s1

/-- A member leaves: the leader of a rig without a member is ALONE (R461). -/
def memberLeft (p : Nat × Nat) (s : State) : State :=
  let l := s.st.rig.members.erase p
  let s1 := setCount (l.length + 1) (modRig (fun r => { r with members := l, alone := l.isEmpty }) s)
  if l.isEmpty then raise 716 s1 else s1

/-- RIG_FRAME_RECEIVED (R459 to R461): a rig frame steered to the firmware. -/
def rigReceived (m : Nat) (b : List Byte) (s : State) : State :=
  let r := s.st.rig
  let u := b.drop (payloadAt b)
  let f := fun o n => beNat ((u.drop o).take n)
  let ty := f 0 1
  let p := (f 4 1, f 8 8)
  let mine := rigPair s
  if r.state = .off ∨ r.port ≠ m ∨ !toFirmware (macAt s m) b ∨ !firmwareRunning s ∨ etherType b ≠ 0x88B7 ∨ f 1 1 ≠ 1 ∨ f 2 2 ≠ r.rigId then s
  else if p = mine then (if f 16 4 = r.nonce then s else if ty = 2 then leadOfTwin (f 5 1) s else rigDuplicate ty s)
  else match ty with
    | 1 => match r.state with
      | .claiming => modRig (fun r => { r with anyClaim := true, lowerClaim := r.lowerClaim || pairLower p mine }) s
      | _ => s
    | 2 => match r.state with
      | .leader => if pairLower p mine then joinLead p (f 5 1) s else s
      | .identical => s
      | .member => if r.leader = some p ∨ r.leader.all (pairLower p) then joinLead p (f 5 1) s else s
      | _ => joinLead p (f 5 1) s
    | 3 =>
      if r.state = .leader ∧ !r.members.contains p ∧ r.members.length < 15 then
        setCount (r.members.length + 2) (modRig (fun r => { r with members := r.members ++ [p], alone := false }) s)
      else if r.state = .leader then modRig (fun r => { r with alone := false }) s else s
    | 4 =>
      if r.state = .leader ∧ r.members.contains p then memberLeft p s
      else if r.state = .member ∧ r.leader = some p then rigClaim s else s
    | _ => s

/-- The end of the listening of a claim (R460). -/
def claimEnd (s : State) : State :=
  let r := s.st.rig
  if r.sameClaim then
    if r.round + 1 = 8 then modRig (fun r => { r with round := 8, state := .identical }) s
    else rigBackoff (modRig (fun r => { r with round := r.round + 1 }) s)
  else if r.lowerClaim then modRig (fun r => { r with state := .waiting }) s
  else becomeLeader (!r.anyClaim) s

/-- RIG_CLAIM_TIMER (R460): at 10 and 20 ms a further CLAIM, at 30 ms the end of the listening; or the back-off ends. -/
def rigClaimTimer (s : State) : State :=
  let r := s.st.rig
  if !firmwareRunning s then s
  else match r.state with
    | .claiming => if r.claims < 3 then rigSend 1 (modRig (fun r => { r with claims := r.claims + 1 }) s) else claimEnd s
    | .backoff => if r.sameClaim then modRig (fun r => { r with state := .waiting }) s else rigClaim s
    | _ => s

/-- RIG_LEAD_TIMEOUT (R460, R461): a device in FULL keeps listening. -/
def rigLeadTimeout (s : State) : State :=
  let r := s.st.rig
  if firmwareRunning s ∧ (r.state = .waiting ∨ r.state = .member) then rigClaim s else s

/-- RIG_ANNOUNCE_TIMER (R461). -/
def rigAnnounceTimer (s : State) : State :=
  let r := s.st.rig
  if !firmwareRunning s then s
  else if r.state = .leader then rigSend 2 s else if r.state = .member then rigSend 3 s else s

/-- A rule of the MAC steers rig frames to a queue of destination kind 1 (R206, R459): the first that matches one. -/
def rigSteered (s : State) (m : Nat) : Bool :=
  let x := macAt s m
  let f := List.replicate 12 (0 : Byte) ++ beBytes 2 0x88B7
  match (List.range 64).find? (fun i => ruleMatches (tabGet x.rules i) f) with
  | some i => decide ((tabGet x.rules i).queue < 8) && decide (queueKind x (tabGet x.rules i).queue = 1)
  | none => false

/-- RIG_SET (R459 to R461). -/
def cmdRigSet (c : Cmd) (s : State) : CmdRes :=
  let en := decide (c.u8 0 = 1)
  let m := c.u8 1
  let off := fun (s : State) => if s.st.rig.state = .off then s
    else modRig (fun r => { dupSeen := r.dupSeen }) (setCount 0 (setLeader none (leaveLeader (rigSend 4 s))))
  checks s ([tooShort c 8, rsv c 5 3, bad (decide (1 < c.u8 0))] ++
    (if en then [bad (decide (15 < m)), stateIf (notNetwork s m) unstated, stateIf (!(ptpAt s m).cfg.enabled) unstated,
      stateIf (!rigSteered s m) 1] else []))
    (if en then
       let s1 := off s
       done (rigClaim (modRig (fun r => { r with port := m, rigId := c.u16 2, priority := c.u8 4, nonce := Config.freeNonce s1.free % 2 ^ 32, round := 0 })
         { s1 with free := s1.free + 1 }))
     else done (off s))

end Sys2Proof.Machine
end

