-- ==== Sys2Proof/Machine/Mac.lean ====
section
/-! DEFINITION. High-speed lanes and MAC ports: commands 0x0B01 to 0x0B07, links and sparing, transmission, PAUSE and
reception (R181 to R212). -/
namespace Sys2Proof.Machine
open Sys2Proof

/-- A magazine is mounted at a slot whose MAC is `m`: its mount has been acknowledged (R399, R402) (DEDUCED, log entry 186). -/
def slotMounted (s : State) (m : Nat) : Bool := anyUpTo 2 (fun i => pastMount (magAt s i) && decide ((magAt s i).mac = m))

/-- A configured thing still names a MAC: a KPI stream, a mounted magazine slot, a PTP candidate or a stream port
(MAC_CONFIG). -/
def macNamed (s : State) (m : Nat) : Bool :=
  anyUpTo 4 (fun k => (inAt s k).enabled && decide ((inAt s k).cfg.mac = m)) ||
  slotMounted s m || (ptpCandidate s m).isSome ||
  s.st.subs.any (fun e => e.2.enabled && usesPort e.2.cfg m) ||
  s.st.flows.any (fun e => e.2.enabled && (decide (e.2.cfg.portA = m) || decide (e.2.cfg.portB = some m)))

/-- What keeps a MAC from sleeping (MAC_SLEEP). -/
def macActive (s : State) (m : Nat) : Bool :=
  anyUpTo 4 (fun k => (inAt s k).enabled && decide ((inAt s k).cfg.mac = m)) ||
  slotMounted s m || (ptpCandidate s m).isSome ||
  s.st.subs.any (fun e => e.2.enabled && usesPort e.2.cfg m)

/-- The record that a slot's magazine was being sent counts as handed out, and the copies a port held are discarded, when
a link leaves UP (R199, R227, R419, R432). -/
def macWentDown (m : Nat) (s : State) : State :=
  let s1 := streamPortDown m (ingestLinkDown m s)
  forUpTo 2 (fun i s => if (magAt s i).state ≠ .off ∧ (magAt s i).mac = m then recordSent i s else s) s1

/-- The engine that supplied a MAC frame is told that it has been sent: 100 + slot marks the last write of a record,
102 + slot that of resent ranges, 1000 + subscriber a stream packet, and 1 and 2 the PTP messages of R209. -/
def frameSent (m : Nat) (f : TxFrame) (s : State) : State :=
  if 1000 ≤ f.owner then packetGone m (f.owner - 1000) true s
  else if f.owner = 100 ∨ f.owner = 101 then recordSent (f.owner - 100) s
  else if f.owner = 102 ∨ f.owner = 103 then resendSent (f.owner - 102) s
  else ptpSent m f.owner (packetGone m firmwareSub true s)

/-- The engine is told that its MAC frame failed (R197). No chapter sends it again at once: a record's write is asked for
again by its magazine (R419), and a packet is lost. -/
def frameFailed (m : Nat) (f : TxFrame) (s : State) : State :=
  if 1000 ≤ f.owner then packetGone m (f.owner - 1000) false s
  else if f.owner = 100 ∨ f.owner = 101 then recordSent (f.owner - 100) s
  else if f.owner = 102 ∨ f.owner = 103 then resendSent (f.owner - 102) s
  else packetGone m firmwareSub false s

/-- The baud class of a mode and width, 1 E25, 2 E50, 3 K56; 0 where the mode does not allow the width (R184). -/
def modeBaud (mode width : Nat) : Nat :=
  match mode, width with
  | 1, 1 => 1
  | 2, 1 => 2
  | 3, 4 => 1
  | 3, 2 => 2
  | 4, 4 => 2
  | 5, 8 => 2
  | 6, 1 | 6, 2 | 6, 4 | 6, 8 => 3
  | _, _ => 0

/-- A legal lane group (R182). -/
def groupOk (first width : Nat) : Bool :=
  match width with
  | 1 => decide (first < 24)
  | 2 => decide (first % 2 = 0) && decide (first < 24)
  | 4 => decide (first % 4 = 0) && decide (first < 24)
  | 8 => decide (first % 8 = 0) && decide (first < 24)
  | _ => false

/-- A mode and width that a role allows (R183). -/
def roleModeOk (role mode width : Nat) : Bool :=
  match role with
  | 0 => decide (1 ≤ mode) && decide (mode ≤ 5)
  | 1 => decide (mode = 6)
  | 2 | 3 => decide (mode = 6)
  | 4 => (decide (mode = 1) || decide (mode = 2)) && decide (width = 1)
  | _ => false

/-- The quads of some lanes, without repeats. -/
def quadsOf (l : List Nat) : List Nat := (List.range 6).filter (fun q => l.any (fun n => decide (n / 4 = q)))

/-- Another baud class is in use in a lane's quad (R181). -/
def baudConflict (s : State) (n baud : Nat) : Bool :=
  (List.range 4).any (fun i => let x := laneAt s (n / 4 * 4 + i); decide (x.use ≠ 0) && decide (x.baud ≠ baud))

/-- The lanes that MACs of a role use. -/
def roleLanes (s : State) (role : Nat) : Nat :=
  ((List.range 16).map (fun m => let x := macAt s m; if x.enabled ∧ x.cfg.role = role then x.cfg.width else 0)).sum

/-- The limits of a role would be exceeded (R183). -/
def roleFull (s : State) (role width : Nat) : Bool :=
  if role ≤ 1 then decide (8 < roleLanes s role + width) else decide (roleLanes s role ≠ 0) || decide (4 < width)

/-- The grant for a list of quads at a baud class (R503, R511). -/
def quadGrant (qs : List Nat) (baud : Nat) : Grant := { doms := qs.map (fun q => (5 + q, if baud = 1 then 1000 else 1400, 600)) }

/-- A quad is held on by an awake enabled MAC's lane or by a spare of one (R181). -/
def quadHeld (s : State) (q : Nat) : Bool :=
  anyUpTo 16 (fun m => let x := macAt s m
    x.enabled && !x.sleep && (macLanes x ++ spareLanes x).any (fun n => decide (n / 4 = q)))

/-- Queue the switch-off of the quads that nothing holds on (R181, R515). -/
def dropQuads (qs : List Nat) (s : State) : State := forEach qs (fun q s => if quadHeld s q then s else queueOff (5 + q) s) s

/-- Set a link's state; a change between DOWN and UP raises event 0 (R188). SPARING counts as UP. -/
def setLink (m : Nat) (l : Link) (s : State) : State :=
  let was := linkUp (macAt s m)
  let s1 := modMac m (fun x => { x with lk.link := l }) s
  let is := linkUp (macAt s1 m)
  if was ∧ !is then macWentDown m (raiseMac m 0 (modMac m (fun x => { x with lk.downs := satAdd 65535 x.lk.downs 1 }) s1))
  else if !was ∧ is then recFeeds m (raiseMac m 0 s1) else s1

/-- Discard every frame that waits at a MAC's queues (R199). -/
def dropWaiting (m : Nat) (s : State) : State :=
  let n := (macAt s m).tx.waiting.length
  if n = 0 then s else macCount m 51 n (modMac m (fun x => { x with tx.waiting := [] }) s)

/-- The moves that wait for a marker point end with the link, whose lanes go back to their own places: a RESTORE has taken effect
with it, and a FORCE is refused (R188, R193) (DESIGN CHOICE, log entry 217). -/
def endMoves (m : Nat) (s : State) : State :=
  let of := fun (act : Nat) (c : Cmd) => decide (c.phase = .waiting (.sparePoint m)) && decide (c.u8 1 = act)
  finishCmds (of 3) .rejState unstated [] (finishCmds (of 2) .ok 0 [] (modMac m (fun x => { x with lk.moves := [] }) s))

/-- Restart adaptation (R188): the lanes lose their locks and return to their original places; the first marker point comes
at once. -/
def readapt (m : Nat) (s : State) : State :=
  let x := macAt s m
  let moved := [0, 1].any (fun i => decide ((tabGet x.lk.spares i).tx ≠ 15) || decide ((tabGet x.lk.spares i).rx ≠ 15))
  let s1 := forEach (macLanes x ++ spareLanes x) (fun n s => modLane n (fun l => { l with marker := false, groupOk := false, rxLogical := 15, txLogical := 15, blocks := [], bip := 0 }) s) s
  let s2 := forEach (List.range x.cfg.width) (fun i s => modLane (x.cfg.first + i) (fun l => { l with txLogical := i }) s) s1
  let s3 := modMac m (fun x => { x with
    lk := { x.lk with rlf := 0, rlfAge := [], peerRlf := 0, peerDown := 0, idMismatch := false, blks := [], dealt := periodBlocks x,
                      spares := x.lk.spares.map (fun e => (e.1, { e.2 with tx := 15, rx := 15 })) } }) (endMoves m s2)
  let s4 := modMac m (fun x => { x with lk.link := .adapt }) s3
  if moved then countReload s4 else s4

/-- The link state machine starts once every quad of the MAC is on (R188); an Ethernet MAC is DOWN, its receive side faulted,
until its PCS reports otherwise (R189). -/
def startLink (m : Nat) (s : State) : State :=
  let x := macAt s m
  if x.enabled ∧ x.starting ∧ (quadsOf (macLanes x)).all (fun q => decide ((domAt s (5 + q)).level = .on) && !(domAt s (5 + q)).loading) then
    let s1 := modMac m (fun x => { x with starting := false }) s
    if isKml x then readapt m s1 else modMac m (fun x => { x with lk.link := .down, lk.sendsRf := true }) s1
  else s

/-- PAUSE no longer holds the transmitter: the microseconds it was held are counted (R202). -/
def pauseEnd (m : Nat) (s : State) : State :=
  let x := macAt s m
  if x.tx.paused then
    macCount m 52 ((runTime s - x.tx.pausedAt) / (1000 * nsUnits))
      (modMac m (fun x => { x with tx := { x.tx with paused := false, quanta := 0, freeAt := runTime s } }) s)
  else s

/-- The lanes of a MAC are released (R181, R182), and PAUSE holds it no longer (R210). -/
def releaseLanes (m : Nat) (s : State) : State :=
  let x := macAt s m
  let ls := macLanes x ++ spareLanes x
  let s1 := dropWaiting m s
  let s2 := setLink m .down s1
  let s3 := forEach ls (fun n s => modLane n (fun l => { ({} : Lane) with signal := l.signal, cdr := l.cdr }) s) (pauseEnd m (endMoves m s2))
  let s4 := modMac m (fun x => { x with
    enabled := false, stopping := false, starting := false, sleep := false, cfg := {},
    lk := { x.lk with spares := [], rlf := 0, rlfAge := [], peerRlf := 0, localFault := false, remoteFault := false,
                      idMismatch := false, sendsRf := false } }) s3
  dropQuads (quadsOf ls) s4

/-- MAC_CONFIG (R181 to R184): ENABLE 0 of a MAC that is not enabled has nothing to release. Thresholds, counts of the link, the underrun
latch and what PAUSE_ALARM_MS compares outlive a configuration (DESIGN CHOICE, log entry 187). -/
def cmdMacConfig (c : Cmd) (s : State) : CmdRes :=
  let m := c.u8 0
  let en := decide (c.u8 1 = 1)
  let mode := c.u8 2
  let role := c.u8 3
  let first := c.u8 4
  let w := c.u8 5
  let baud := modeBaud mode w
  let pam4 := decide (2 ≤ baud)
  let net := decide (role = 0)
  let dq := c.u8 11
  let cfg : MacCfg := {
    mode := mode, role := role, first := first, width := w, fec := c.u8 6, linkId := c.u8 7, maxFrame := c.u16 8,
    rxPauseEn := bit (c.u8 10) 0, precode := bit (c.u8 10) 1, defaultQ := dq, dest := (List.range 8).map (fun i => c.u8 (12 + i)), pauseAlarm := c.u16 20 }
  let ls := groupLanes first w
  let g := quadGrant (quadsOf ls) baud
  checks s ([tooShort c 24, rsvIf (decide (3 < c.u8 10)), rsvIf (anyUpTo 8 (fun i => bit (c.u8 (12 + i)) 7)), rsv c 22 2,
    bad (decide (15 < m)), bad (decide (1 < c.u8 1))] ++
    (if en then [bad (decide (baud = 0) || !roleModeOk role mode w), bad (!groupOk first w),
      bad (if mode = 1 then decide (2 < c.u8 6) else decide (c.u8 6 ≠ 0)), bad (decide (c.u16 8 < 64) || decide (16384 < c.u16 8)),
      bad (bit (c.u8 10) 1 && !pam4), bad (if net then decide (7 < dq) && decide (dq ≠ 255) else decide (dq ≠ 0)),
      bad (anyUpTo 8 (fun i => let d := c.u8 (12 + i); decide (d % 4 = 3) || (decide (d % 4 = 2) && decide (27 < d / 4 % 32)))), bad (decide (10000 < c.u16 20)),
      stateIf (ls.any (fun n => decide ((laneAt s n).use ≠ 0))) unstated, stateIf (ls.any (fun n => baudConflict s n baud)) unstated,
      stateIf (roleFull s role w) unstated, stateIf (macAt s m).enabled unstated]
     else [stateIf (macNamed s m) unstated]))
    (if en then askPower g s (fun s1 =>
       let s2 := forEach (List.range w) (fun i s => modLane (first + i) (fun l => { l with use := 1, mac := m, baud := baud, txLogical := i }) s) s1
       let s3 := modMac m (fun x => { x with
         enabled := true, cfg := cfg, lk := { retries := x.lk.retries, downs := x.lk.downs, markerSeq := x.lk.markerSeq, scr := x.lk.scr },
         tx := { queues := x.tx.queues, underQueue := x.tx.underQueue, underBytes := x.tx.underBytes, underValid := x.tx.underValid, freeAt := x.tx.freeAt, alarmed := x.tx.alarmed },
         sleep := false, woke := false, starting := true, rules := [], filter := [] }) s2
       match lastSwitch s g with
       | some d => .wait (.grant d) s3
       | none => done (startLink m s3))
     else if !(macAt s m).enabled then done s
     else if (macAt s m).tx.cur.isSome then .wait (.macDown m) (modMac m (fun x => { x with stopping := true, toSleep := false }) s)
     else done (releaseLanes m s))

/-- MAC_SPARE_SET (R191, R193). The spare of a MAC that sleeps needs no power until it wakes (R181). -/
def cmdMacSpareSet (c : Cmd) (s : State) : CmdRes :=
  let m := c.u8 0
  let act := c.u8 1
  let i := c.u8 2
  let ln := c.u8 3
  let x := macAt s m
  let sp := tabGet x.lk.spares i
  let g : Grant := if x.sleep then {} else quadGrant [(if act = 0 then ln else sp.lane) / 4] 3
  checks s [tooShort c 8, rsv c 5 3, bad (decide (15 < m)), bad (decide (3 < act)), bad (decide (1 < i)),
    bad (decide (act = 0) && decide (23 < ln)), bad (decide (act = 3) && decide (x.cfg.width ≤ c.u8 4)),
    stateIf (!(x.enabled && isKml x && decide (1 ≤ x.cfg.role) && decide (x.cfg.role ≤ 3))) unstated,
    stateIf (decide (x.cfg.width / 4 ≤ i)) unstated,
    stateIf (decide (act = 0) && (decide ((laneAt s ln).use ≠ 0) || baudConflict s ln 3 || sp.valid)) unstated,
    stateIf (decide (act ≠ 0) && !sp.valid) unstated,
    stateIf (decide (act = 1) && (decide (sp.tx ≠ 15) || decide (sp.rx ≠ 15))) unstated,
    stateIf (decide (act = 3) && (decide (sp.tx ≠ 15) || decide (sp.rx ≠ 15))) unstated,
    stateIf (decide (2 ≤ act) && !linkUp x) unstated]
    (match act with
     | 0 => askPower g s (fun s1 =>
        let s2 := modLane ln (fun l => { l with use := 2, mac := m, baud := 3 }) s1
        let s3 := modMac m (fun x => { x with lk.spares := tabSet x.lk.spares i { valid := true, lane := ln } }) s2
        match lastSwitch s g with
        | some d => .wait (.grant d) s3
        | none => done s3)
     | 1 =>
        let s1 := modLane sp.lane (fun l => { ({} : Lane) with signal := l.signal, cdr := l.cdr }) s
        let s2 := modMac m (fun x => { x with lk.spares := tabSet x.lk.spares i {} }) s1
        done (dropQuads [sp.lane / 4] s2)
     | 2 =>
        if sp.tx = 15 ∧ sp.rx = 15 then done s
        else .wait (.sparePoint m) (modMac m (fun x => { x with lk.moves := x.lk.moves ++ [{ logical := if sp.tx = 15 then sp.rx else sp.tx, spare := i, back := true, notBefore := 0 }] }) s)
     | _ => askPower g s (fun s1 =>
        .wait (.sparePoint m) (modMac m (fun x => { x with
          lk := { x.lk with moves := x.lk.moves ++ [{ logical := c.u8 4, spare := i, notBefore := 0 }], rlf := Nat.lor x.lk.rlf (2 ^ c.u8 4) } }) s1)))

/-- MAC_TXQ_SET (R196, R198). -/
def cmdMacTxqSet (c : Cmd) (s : State) : CmdRes :=
  let b := c.u16 2
  checks s [tooShort c 4, bad (decide (15 < c.u8 0)), bad (decide (7 < c.u8 1)), bad (decide (b % 256 ≠ 0) || decide (b < 256) || decide (16384 < b))]
    (done (modMac (c.u8 0) (fun x => { x with tx.queues := tabSet x.tx.queues (c.u8 1) { base := b, thr := b, clean := 0 } }) s))

/-- MAC_RULE_SET (R206, R208). Frames for the engine and the firmware are delivered in the step that decides them; those for a
host ring wait for their write, and the command for them (DEDUCED, log entry 63). -/
def cmdMacRuleSet (c : Cmd) (s : State) : CmdRes :=
  let m := c.u8 0
  let q := c.u8 2
  let r : Rule := { queue := q, vlanMode := c.u8 3, tci := c.u16 4, tciMask := c.u16 6, etype := c.u16 8, etypeMask := c.u16 10,
                    dscp := c.u8 12, dscpMask := c.u8 13, l4 := c.u8 14 }
  checks s [tooShort c 16, rsv c 15 1, rsvIf (decide (63 < c.u8 12) || decide (63 < c.u8 13)), bad (decide (15 < m)), bad (decide (63 < c.u8 1)),
    bad (decide (7 < q) && decide (q < 254)), bad (decide (2 < c.u8 3)), bad (decide (1 < c.u8 14)),
    stateIf (!((macAt s m).enabled && decide ((macAt s m).cfg.role = 0))) unstated]
    (let s1 := modMac m (fun x => { x with rules := tabSet x.rules (c.u8 1) r }) s
     let n := framesToRing s m (macAt s m).decided
     if n = 0 then doneWith (leBytes 4 0) s1 else .wait (.rulesDrain m (macAt s m).decided n) s1)

/-- MAC_FILTER_SET (R205). -/
def cmdMacFilterSet (c : Cmd) (s : State) : CmdRes :=
  let m := c.u8 0
  checks s [tooShort c 32, rsvIf (decide (15 < c.u8 1)), rsv c 2 6, bad (decide (15 < m)),
    stateIf (!((macAt s m).enabled && decide ((macAt s m).cfg.role ≠ 0))) unstated]
    (done (modMac m (fun x => { x with
      filter := (List.range 4).map (fun i => (i, ({ valid := bit (c.u8 1) i, addr := c.bytes (8 + 6 * i) 6 } : FilterEntry))) }) s))

/-- The live value of a counter (R202, R210): TX_PAUSED_US counts each microsecond while the transmitter is held. -/
def macLive (s : State) (x : Mac) (k : Nat) : Nat :=
  if k = 52 ∧ x.tx.paused then (tabGet x.ctr 52 + (runTime s - x.tx.pausedAt) / (1000 * nsUnits)) % 2 ^ 48 else tabGet x.ctr k

/-- MAC_STATS_GET (R210). -/
def cmdMacStatsGet (c : Cmd) (s : State) : CmdRes :=
  let f := c.u8 1
  checks s [tooShort c 4, rsv c 2 2, bad (decide (15 < c.u8 0)), bad (decide (f % 8 ≠ 0) || decide (56 < f))]
    (doneWith ((List.range 8).map (fun i => leBytes 6 (macLive s (macAt s (c.u8 0)) (f + i)))).flatten s)

/-- A powered-down lane receives nothing (R190, R211). -/
def darkLane (l : Lane) : Lane := { l with signal := false, cdr := false, marker := false, fault := false }

/-- A MAC goes to sleep (R211): its queues are held, and its lanes, spares and idle quads powered down. -/
def macToSleep (m detect : Nat) (s : State) : State :=
  let x := macAt s m
  let s1 := forEach (macLanes x ++ spareLanes x) (fun n => modLane n darkLane) (pauseEnd m (endMoves m (setLink m .down (dropWaiting m s))))
  let s2 := modMac m (fun x => { x with sleep := true, detect := detect, woke := false, stopping := false, lk.link := .down }) s1
  dropQuads (quadsOf (macLanes x ++ spareLanes x)) s2

/-- MAC_SLEEP (R211). -/
def cmdMacSleep (c : Cmd) (s : State) : CmdRes :=
  let m := c.u8 0
  let x := macAt s m
  let wake := decide (c.u8 1 = 1)
  let g := quadGrant (quadsOf (macLanes x ++ spareLanes x)) (modeBaud x.cfg.mode x.cfg.width)
  checks s [tooShort c 4, rsv c 3 1, bad (decide (15 < m)), bad (decide (1 < c.u8 1)), bad (decide (2 < c.u8 2)),
    stateIf (!x.enabled) unstated, stateIf (!wake && (x.sleep || macActive s m)) unstated, stateIf (wake && !x.sleep) unstated]
    (if wake then askPower g s (fun s1 =>
       let s2 := modMac m (fun x => { x with sleep := false, starting := true }) s1
       match lastSwitch s g with
       | some d => .wait (.grant d) s2
       | none => done (startLink m s2))
     else if x.tx.cur.isSome then .wait (.macDown m) (modMac m (fun x => { x with stopping := true, toSleep := true, detect := c.u8 2 }) s)
     else done (macToSleep m (c.u8 2) s))

/-- A MAC that was to stop or to sleep does so once its frame has ended. -/
def afterFrame (m : Nat) (s : State) : State :=
  let x := macAt s m
  if !x.stopping then s
  else finishWait (.macDown m) .ok 0 [] (if x.toSleep then macToSleep m x.detect s else releaseLanes m s)

/-- The frame being sent ends and is counted in TX_LINK_DROP (R199); what waited for its end goes on. -/
def dropCurrent (m : Nat) (s : State) : State :=
  match (macAt s m).tx.cur with
  | some _ => afterFrame m (macCount m 51 1 (modMac m (fun x => { x with tx.cur := none }) s))
  | none => s

/-- A link goes DOWN, with its frames (R199). -/
def linkDown (m : Nat) (s : State) : State := dropCurrent m (setLink m .down (dropWaiting m s))

/-- A KML-56 link that was UP goes DOWN and then to ADAPT (R188, R193, R199), unless a command has it stop or sleep. -/
def linkLost (m : Nat) (s : State) : State :=
  let s1 := linkDown m s
  if (macAt s1 m).enabled ∧ !(macAt s1 m).sleep then readapt m s1 else s1

/-- KML: the lane of a MAC that has marker lock and carries logical lane `k` (R187, R188). -/
def laneOfLogical (s : State) (x : Mac) (k : Nat) : Option Nat :=
  (macLanes x ++ spareLanes x).find? (fun n => let l := laneAt s n; l.marker && decide (l.rxLogical = k))

/-- The lanes are deskewed (R187): their markers have one MARKER_SEQ and arrived within 180 ns. -/
def deskewed (s : State) (lanes : List Nat) : Bool :=
  lanes.all (fun a => lanes.all (fun b =>
    decide ((laneAt s a).seq = (laneAt s b).seq) && decide ((laneAt s a).seqAt ≤ (laneAt s b).seqAt + 180 * nsUnits)))

/-- Some marker of a MAC's lanes carries another GROUP_ID than its LINK_ID (R188). -/
def groupDiffers (s : State) (x : Mac) : Bool := (macLanes x ++ spareLanes x).any (fun n => (laneAt s n).marker && !(laneAt s n).groupOk)

/-- The link state that the lanes' markers give (R188): LOCK, ALIGNED or UP. -/
def advanceLink (m peerUp : Nat) (s : State) : State :=
  let x := macAt s m
  let ls := (List.range x.cfg.width).map (laneOfLogical s x)
  let s1 := if x.lk.link = .adapt ∧ ls.all Option.isSome then modMac m (fun x => { x with lk.link := .lock }) s else s
  let s2 := if (macAt s1 m).lk.link = .lock ∧ ls.all Option.isSome ∧ !x.lk.idMismatch ∧ deskewed s (ls.filterMap id) then
      modMac m (fun x => { x with lk.link := .aligned }) s1 else s1
  if (macAt s2 m).lk.link = .aligned ∧ peerUp = 1 then setLink m .up s2 else s2

/-- The bits that are set in an RLF byte. -/
def rlfBits (v : Nat) : List Nat := (List.range 8).filter v.testBit

/-- How many spares of a MAC have a receive side that is free and not faulted (R191). -/
def freeRxSpares (s : State) (x : Mac) : Nat :=
  ([0, 1].filter (fun i => let p := tabGet x.lk.spares i; p.valid && decide (p.rx = 15) && !(laneAt s p.lane).fault)).length

/-- The first spare of a MAC whose transmit side is free. -/
def freeTxSpare (x : Mac) : Option Nat :=
  [0, 1].find? (fun i => let p := tabGet x.lk.spares i
                         p.valid && decide (p.tx = 15) && !x.lk.moves.any (fun v => decide (v.spare = i) && !v.back))

/-- A peer's RLF bit, newly set, asks for a transmit spare for logical lane `k` (R188, R191). -/
def peerRlf (m k : Nat) (s : State) : State :=
  let x := macAt s m
  if !linkUp x ∨ x.lk.moves.any (fun v => decide (v.logical = k) && !v.back) then s
  else match freeTxSpare x with
    | some i => setLink m .sparing (modMac m (fun x => { x with
        lk.moves := x.lk.moves ++ [{ logical := k, spare := i, notBefore := runTime s + 1000 * nsUnits }] }) s)
    | none => linkLost m s

/-- The RLF byte of a peer's marker (R191): bits that were not set before ask for a spare. -/
def takePeerRlf (m rlf : Nat) (s : State) : State :=
  let x := macAt s m
  if linkUp x then
    forEach ((rlfBits rlf).filter (fun k => !x.lk.peerRlf.testBit k)) (peerRlf m) (modMac m (fun x => { x with lk.peerRlf := rlf }) s)
  else s

/-- Lane `n` carries logical lane `k` of a MAC, and no other lane does (R187). -/
def placeLane (m n k : Nat) (s : State) : State :=
  let x := macAt s m
  let s1 := forEach (macLanes x ++ spareLanes x) (fun j s => modLane j (fun l =>
    if j = n then { l with rxLogical := k } else if l.rxLogical = k ∧ k ≠ 15 then { l with rxLogical := 15 } else l) s) s
  modMac m (fun x => { x with lk.spares := x.lk.spares.map (fun e => (e.1,
    if e.2.valid ∧ e.2.lane = n then { e.2 with rx := k } else if e.2.rx = k ∧ k ≠ 15 then { e.2 with rx := 15 } else e.2)) }) s1

/-- MARKER_SEQ of a marker is consistent with the other lanes (R192): theirs, or the next one where theirs of this marker point
are still to come (DEDUCED, log entry 188). -/
def seqFits (s : State) (x : Mac) (n seq : Nat) : Bool :=
  (macLanes x ++ spareLanes x).all (fun j => let l := laneAt s j
    decide (j = n) || !l.marker || decide (l.rxLogical = 15) || decide ((seq + 65536 - l.seq) % 65536 ≤ 1))

/-- A lane goes where its marker's LANE names it (R187). A data lane follows every marker; a spare follows while the link is UP, and
taking a logical lane completes a switch (R192). -/
def followLane (m n lane : Nat) (ok : Bool) (seq : Nat) (s : State) : State :=
  let x := macAt s m
  let l := laneAt s n
  let k := if lane < x.cfg.width then lane else 15
  if k = l.rxLogical then s
  else if l.use = 1 then placeLane m n k s
  else if k = 15 then placeLane m n 15 s
  else if linkUp x ∧ ok ∧ seqFits s x n seq then
    raiseMac m 4 (modMac m (fun x => { x with
      lk := { x.lk with rlf := if x.lk.rlf.testBit k then x.lk.rlf - 2 ^ k else x.lk.rlf, rlfAge := tabSet x.lk.rlfAge k 0 } }) (placeLane m n k s))
  else s

/-- SPARING ends once nothing is left to switch (R188, R192). -/
def sparingDone (m : Nat) (s : State) : State :=
  let x := macAt s m
  if x.lk.link = .sparing ∧ x.lk.rlf = 0 ∧ x.lk.moves.isEmpty then setLink m .up s else s

/-- The FEC and PCS counters of a MAC (R210). -/
def countFec (m : Nat) (f : FecCounts) (s : State) : State :=
  let add := fun (k n : Nat) (s : State) => if n = 0 then s else macCount m k n s
  add 25 f.pcsErrors (add 56 f.symbols (add 55 f.uncorrected (add 54 f.corrected (add 53 f.codewords s))))

/-- A marker with valid SYNC on lane `n` of MAC `m` as the lane records it (R187, R190). -/
def recordMarker (m n group seq : Nat) (s : State) : State :=
  let ok := decide (group = (macAt s m).cfg.linkId)
  let s1 := modLane n (fun l => { l with
    signal := true, cdr := true, marker := true, fault := false, seq := seq % 65536, seqAt := runTime s, groupOk := ok }) s
  modMac m (fun x => { x with lk.idMismatch := groupDiffers s1 x }) s1

/-- The codewords a lane has received as a marker arrives (R186, R187, R210): 1,024 for each marker period since the marker before,
of which MARKER_SEQ tells how many were missed with lock kept; on a lane without lock, those that the row reports from before
its loss. -/
def markerCodewords (l : Lane) (seq reported : Nat) : Nat :=
  let d := (seq + 65536 - l.seq) % 65536
  if !l.marker then reported else if 1 ≤ d ∧ d ≤ 4 then 1024 * d else 1024

/-- KML_MARKER_RECEIVED (R187, R188, R190 to R192, R210): a marker with valid SYNC arrives on lane `n`, and with it what the FEC of
the lane has counted since the last such report (DESIGN CHOICE, log entry 64). -/
def kmlMarker (n lane group rlf seq state : Nat) (fec : FecCounts) (s : State) : State :=
  let l := laneAt s n
  let m := l.mac
  let x := macAt s m
  if l.use = 0 ∨ !x.enabled ∨ !isKml x ∨ x.sleep ∨ x.starting then s
  else
    let s1 := recordMarker m n group seq (countFec m { fec with codewords := markerCodewords l seq fec.codewords } s)
    let s2 := modMac m (fun x => { x with lk.peerDown := if state % 2 = 1 then 0 else x.lk.peerDown + 1 }) s1
    let s3 := followLane m n lane (decide (group = x.cfg.linkId)) seq s2
    let s4 := advanceLink m (state % 2) s3
    let s5 := sparingDone m (takePeerRlf m rlf s4)
    if linkUp (macAt s5 m) ∧ 4 ≤ (macAt s5 m).lk.peerDown then linkLost m s5 else s5

/-- ADAPT_TIMEOUT (R188): 500 ms without reaching UP. -/
def adaptTimeout (m : Nat) (s : State) : State :=
  let x := macAt s m
  if x.enabled ∧ isKml x ∧ (x.lk.link = .adapt ∨ x.lk.link = .lock ∨ x.lk.link = .aligned) then
    readapt m (modMac m (fun x => { x with lk.retries := satAdd 65535 x.lk.retries 1 }) s)
  else s

/-- A faulted lane as `HL_STATUS` shows it (R190), by cause: 0 loss of signal, 1 of CDR lock, 2 of marker lock, 3 too many
uncorrectable codewords. What a lost signal or clock carried is lost too (DEDUCED, log entry 189). -/
def faultedLane (cause : Nat) (l : Lane) : Lane :=
  { l with fault := true, signal := l.signal && decide (1 ≤ cause), cdr := l.cdr && decide (2 ≤ cause), marker := l.marker && decide (3 ≤ cause) }

/-- A faulted lane of a KML-56 link that is UP (R188, R191): its logical lane waits for a spare, and where the spares that are left
are too few for all that wait, the link goes DOWN. -/
def seekSpare (m n k : Nat) (s : State) : State :=
  let s1 := if (laneAt s n).use = 2 then placeLane m n 15 s else s
  let s2 := if k = 15 then s1 else modMac m (fun x => { x with lk.rlf := Nat.lor x.lk.rlf (2 ^ k) }) s1
  let x := macAt s2 m
  if freeRxSpares s2 x < (rlfBits x.lk.rlf).length then linkLost m s2
  else if k = 15 then s2 else setLink m .sparing s2

/-- LANE_FAULT (R188, R190, R191). A lane that is faulted already has a new fault where it loses more than it had lost (DEDUCED, log entry 218). -/
def laneFault (n cause : Nat) (s : State) : State :=
  let l := laneAt s n
  let m := l.mac
  let x := macAt s m
  if l.use = 0 ∨ !x.enabled ∨ x.sleep ∨ faultedLane cause l = l ∨ (2 ≤ cause ∧ !isKml x) then s
  else
    let s1 := raiseMac m 3 (modLane n (faultedLane cause) s)
    if !isKml x then s1
    else
      let s2 := modMac m (fun x => { x with lk.idMismatch := groupDiffers s1 x }) s1
      if linkUp x then seekSpare m n l.rxLogical s2 else s2

/-- LANE_CDR_LOCK (R190): the lane has signal and CDR lock again. -/
def laneCdrLock (n : Nat) (s : State) : State :=
  let l := laneAt s n
  modLane n (fun x => { x with signal := true, cdr := true, fault := if l.use ≠ 0 ∧ !isKml (macAt s l.mac) then false else x.fault }) s

/-- Lane `n` sends logical lane `k` of a MAC, and no other lane does (R191). -/
def placeTx (m n k : Nat) (s : State) : State :=
  let x := macAt s m
  let s1 := forEach (macLanes x ++ spareLanes x) (fun j s => modLane j (fun l =>
    if j = n then { l with txLogical := k } else if l.txLogical = k then { l with txLogical := 15 } else l) s) s
  modMac m (fun x => { x with lk.spares := x.lk.spares.map (fun e => (e.1,
    if e.2.valid ∧ e.2.lane = n then { e.2 with tx := k } else if e.2.tx = k then { e.2 with tx := 15 } else e.2)) }) s1

/-- One transmit-side move takes effect (R191 to R193). A move back returns what the spare sends and what it receives, each to
its own lane. -/
def applyMove (m : Nat) (v : LaneMove) (s : State) : State :=
  let x := macAt s m
  let sp := tabGet x.lk.spares v.spare
  raiseMac m 4 (if v.back then
      let s1 := if sp.tx < x.cfg.width then placeTx m (x.cfg.first + sp.tx) sp.tx s else s
      if sp.rx < x.cfg.width then placeLane m (x.cfg.first + sp.rx) sp.rx s1 else s1
    else placeTx m sp.lane v.logical s)

/-- A marker point ages what waits for a switch (R188). -/
def ageSwitches (k : MacLink) : MacLink :=
  { k with moves := k.moves.map (fun v => { v with age := v.age + 1 }),
           rlfAge := (rlfBits k.rlf).foldl (fun t b => tabMod t b (· + 1)) k.rlfAge }

/-- A switch has not completed within four marker periods (R188). -/
def switchLate (k : MacLink) : Bool :=
  k.moves.any (fun v => decide (4 < v.age)) || (rlfBits k.rlf).any (fun b => decide (4 < tabGet k.rlfAge b))

/-- TX_MARKER_POINT (R186, R188, R191, R192): the marker period before it is complete, pending moves take effect, and every lane
sends its marker. -/
def txMarkerPoint (m : Nat) (s : State) : State :=
  let x := macAt s m
  if !x.enabled ∨ !isKml x ∨ x.sleep ∨ x.lk.link = .down then s
  else
    let now := runTime s
    let due := x.lk.moves.filter (fun v => decide (v.notBefore ≤ now))
    let s1 := modMac m (fun x => { x with
      lk := ageSwitches { x.lk with markerSeq := (x.lk.markerSeq + 1) % 65536, moves := x.lk.moves.filter (fun v => !decide (v.notBefore ≤ now)) } })
      (fillPeriod m s)
    let s2 := sendMarkers m (forEach due (applyMove m) s1)
    let s3 := if due.isEmpty then s2 else finishWait (.sparePoint m) .ok 0 [] s2
    let s4 := sparingDone m s3
    if linkUp (macAt s4 m) ∧ switchLate (macAt s4 m).lk then linkLost m s4 else s4

/-- ETH_LINK_CHANGE (R189, R210): what the PCS reports, and what it and the FEC have counted since its last report. The device sends
remote fault while its receive side is faulted. -/
def ethLinkChange (m : Nat) (pcs localF remoteF : Bool) (fec : FecCounts) (s : State) : State :=
  let x := macAt s m
  if !x.enabled ∨ isKml x ∨ x.sleep ∨ x.starting then s
  else
    let noFec := decide (x.cfg.mode = 1) && decide (x.cfg.fec = 0)
    let s1 := modMac m (fun x => { x with lk.localFault := localF, lk.remoteFault := remoteF, lk.sendsRf := !pcs || localF })
      (countFec m (if noFec then { pcsErrors := fec.pcsErrors } else fec) s)
    if pcs ∧ !localF ∧ !remoteF then setLink m .up s1
    else if linkUp x then linkDown m s1 else modMac m (fun x => { x with lk.link := .down }) s1

/-- The size bin of a frame length, as an offset from RX_64 or TX_64 (R210). -/
def sizeBin (len : Nat) : Nat :=
  if len ≤ 64 then 0 else if len ≤ 127 then 1 else if len ≤ 255 then 2 else if len ≤ 511 then 3 else if len ≤ 1023 then 4
  else if len ≤ 1518 then 5 else if len ≤ 2047 then 6 else if len ≤ 4095 then 7 else if len ≤ 8191 then 8 else if len ≤ 9216 then 9 else 10

/-- The ingest engine takes a frame by its TYPE (R215). -/
def kpiArrived (m : Nat) (b : List Byte) (s : State) : State :=
  match beAt (kpiOf b) 0 1 with
  | 1 => kpiFrameStart m b s
  | 2 => kpiLinePacket m b s
  | _ => kpiFrameEnd m b s

/-- The protocol engine of a MAC's role takes a frame (R183, R207). The management role has no engine, so its queue drops (DEDUCED, log entry 190). -/
def engineTakes (m : Nat) (b : List Byte) (drop : State → State) (s : State) : State :=
  match (macAt s m).cfg.role with
  | 0 => rxFlowPacket m b s
  | 1 => kpiArrived m b s
  | 2 | 3 => forUpTo 2 (fun i s => if (magAt s i).mac = m then kmpMessage i b s else s) s
  | _ => drop s

/-- The firmware takes a frame of a network MAC, which is timestamped: a rig frame by its EtherType, else a PTP message (R207, R209). -/
def firmwareTakes (m : Nat) (b : List Byte) (s : State) : State :=
  let s1 := modMac m (fun x => { x with rxStamp := s.time.tb.now }) s
  if (macAt s m).cfg.role ≠ 0 then s else if etherType b = 0x88B7 then rigReceived m b s1 else ptpReceived m b s1

/-- Deliver a frame to a queue's destination (R207); one that cannot take it drops it with event 6. -/
def deliverFrame (m q : Nat) (trunc : Bool) (b : List Byte) (s : State) : State :=
  let x := macAt s m
  let drop := fun (s : State) => raiseMac m 6 (macCount m 23 1 s)
  match queueKind x q with
  | 0 => if trunc then s else engineTakes m b drop s
  | 1 => if trunc then s else firmwareTakes m b s
  | 2 => match ringDeliver (x.cfg.dest.getD q 0 / 4 % 32) { mac := m, source := q, trunc := trunc, seq := x.decided, bytes := b } s with
    | some s1 => modMac m (fun x => { x with decided := x.decided + 1 }) s1
    | none => drop s
  | _ => s

/-- A received PAUSE (R200 to R202). -/
def rxPause (m : Nat) (q : Nat) (s : State) : State :=
  let x := macAt s m
  let now := runTime s
  if !x.cfg.rxPauseEn then s
  else if q = 0 then pauseEnd m s
  else
    let clear := decide (x.tx.freeAt + 1000000 * nsUnits ≤ now)
    modMac m (fun x => { x with tx := { x.tx with
      paused := true, quanta := q, loadedAt := now, pausedAt := if x.tx.paused then x.tx.pausedAt else now,
      alarmed := if !x.tx.paused && clear then false else x.tx.alarmed } }) s

/-- A MAC control frame (R201). -/
def isControl (b : List Byte) : Bool := decide (etherType b = 0x8808) && !tagged b

/-- A good frame is filtered or steered (R201, R205, R206). -/
def goodFrame (m : Nat) (b : List Byte) (s : State) : State :=
  let x := macAt s m
  if isControl b then
    if be16 b 14 = 1 then rxPause m (be16 b 16) (macCount m 5 1 s) else macCount m 24 1 s
  else if x.cfg.role = 0 then
    match steer x b with
    | some q => deliverFrame m q false b s
    | none => macCount m 22 1 s
  else if filterPass x b then deliverFrame m 0 false b s
  else macCount m 22 1 s

/-- MAC_FRAME_RECEIVED (R201, R203 to R207): `b` holds the frame from its destination address to before its FCS. -/
def macFrameReceived (m : Nat) (b : List Byte) (fcsOk : Bool) (s : State) : State :=
  let x := macAt s m
  let len := b.length + 4
  if !linkUp x then s
  else if len < 64 then macCount m (if fcsOk then 19 else 20) 1 s
  else if x.cfg.maxFrame < len then
    let s1 := macCount m 21 1 s
    if x.cfg.role = 0 ∧ !isControl b then
      match steer x (b.take x.cfg.maxFrame) with
      | some q => deliverFrame m q true (b.take x.cfg.maxFrame) s1
      | none => macCount m 22 1 s1
    else s1
  else if !fcsOk then macCount m 18 1 s
  else
    let s1 := macCount m 0 len (macCount m 1 1 (macCount m (7 + sizeBin len) 1 s))
    let s2 := macCount m (2 + addrType b) 1 s1
    let s3 := if tagged b then macCount m 6 1 s2 else s2
    goodFrame m b s3

/-- The bytes of frame `f` in the transmit buffer of 32 KiB per lane (R194): the frame being sent and those presented before it
stand there first (DESIGN CHOICE, log entry 191). -/
def inBuffer (x : Mac) (f : TxFrame) : Nat :=
  let before := (x.tx.waiting.takeWhile (fun g => decide (g ≠ f))).map (fun g => g.bytes.length)
  min f.bytes.length (32768 * x.cfg.width - before.sum)

/-- The status packet of a stream as it starts (R220, R221): it carries the instant at which it leaves the pins. -/
def stampStatus (now : Nat) (b : List Byte) : List Byte :=
  b.take 46 ++ beBytes 6 (now / secUnits) ++ (b.drop 52).take 2 ++ beBytes 4 (now % secUnits / nsUnits) ++ b.drop 58

/-- TX_FRAME_START (R194, R196, R200, R209): the first frame of a queue starts, once as many of its bytes are in the buffer as its
threshold asks; its start-of-frame delimiter leaves the pins. Owner 3 marks a status packet. -/
def txFrameStart (m q : Nat) (s : State) : State :=
  let x := macAt s m
  if !linkUp x ∨ x.tx.cur.isSome ∨ x.tx.paused ∨ x.stopping then s
  else match x.tx.waiting.find? (fun f => decide (f.queue = q)) with
    | some f =>
      let now := s.time.tb.now
      if inBuffer x f < min (tabGet x.tx.queues q).thr f.bytes.length then s
      else modMac m (fun x => { x with tx := { x.tx with
        cur := some (if f.owner = 3 then { f with bytes := stampStatus now f.bytes } else f), waiting := x.tx.waiting.erase f, sfdAt := now } }) s
    | none => s

/-- A frame padded to 60 bytes (R195). -/
def padded (b : List Byte) : List Byte := b ++ List.replicate (60 - b.length) 0

/-- What a MAC puts on its lanes (R185): of a KML-56 MAC its blocks, too. -/
def onWire (m : Nat) (b : List Byte) (s : State) : State :=
  let s1 := modMac m (fun x => { x with tx.last := b }) s
  if isKml (macAt s m) then kmlEncode m b s1 else s1

/-- TX_UNDERRUN (R197): the frame ends after `bytes` of its bytes with the complement of their FCS. -/
def txUnderrun (m bytes : Nat) (s : State) : State :=
  match (macAt s m).tx.cur with
  | none => s
  | some f =>
    let s1 := modMac m (fun x => { x with tx := { x.tx with
      cur := none, underQueue := f.queue, underBytes := bytes % 32768, underValid := true,
      queues := tabMod x.tx.queues f.queue (fun q => { q with thr := min 16384 (q.thr + 256), clean := 0 }) } }) s
    let b := (padded f.bytes).take bytes
    afterFrame m (frameFailed m f (raiseMac m 2 (macCount m 50 1 (onWire m (b ++ badFcs b) s1))))

/-- A queue after a frame sent without underrun (R198). -/
def cleanFrame (q : TxQueue) : TxQueue :=
  if q.clean + 1 < 1024 then { q with clean := q.clean + 1 } else { q with clean := 0, thr := max q.base (q.thr - 256) }

/-- TX_FRAME_END (R195, R198, R210). -/
def txFrameEnd (m : Nat) (s : State) : State :=
  match (macAt s m).tx.cur with
  | none => s
  | some f =>
    let b := padded f.bytes
    let len := b.length + 4
    let s1 := modMac m (fun x => { x with tx := { x.tx with
      cur := none, queues := tabMod x.tx.queues f.queue cleanFrame } }) s
    let s2 := macCount m 32 len (macCount m 33 1 (macCount m (39 + sizeBin len) 1 (macCount m (34 + addrType b) 1 (onWire m (b ++ fcsOf b) s1))))
    let s3 := if tagged b then macCount m 37 1 s2 else s2
    let s4 := if f.bytes.length < 60 then macCount m 38 1 s3 else s3
    afterFrame m (frameSent m f s4)

/-- PAUSE_TIMER_EXPIRY (R200, R202). -/
def pauseTimerExpiry (m : Nat) (s : State) : State := pauseEnd m s

/-- PAUSE_ALARM (R202). -/
def pauseAlarm (m : Nat) (s : State) : State :=
  let x := macAt s m
  if x.tx.paused ∧ !x.tx.alarmed ∧ x.cfg.pauseAlarm ≠ 0 then raiseMac m 7 (modMac m (fun x => { x with tx.alarmed := true }) s) else s

/-- WAKE_DETECT (R211, R530): once per sleep; the MAC stays asleep. -/
def wakeDetect (m : Nat) (s : State) : State :=
  let x := macAt s m
  if x.enabled ∧ x.sleep ∧ x.detect ≠ 0 ∧ !x.woke then
    slWake 8 (raiseMac m 5 (modMac m (fun x => { x with woke := true }) s))
  else s

end Sys2Proof.Machine
end

