-- ==== Sys2Proof/Machine/Window.lean ====
section
/-! DEFINITION. The 5200 compatibility window: command 0x0630, its registers and its commits (R569 to R579). -/
namespace Sys2Proof.Machine
open Sys2Proof

/-- Change the window. -/
def modWin (f : Window → Window) (s : State) : State := { s with pic.win := f s.pic.win }
/-- Window layer `k`. -/
def winAt (s : State) (k : Nat) : WinLayer := tabGet s.pic.win.layers k
/-- Change window layer `k`. -/
def modWinLayer (k : Nat) (f : WinLayer → WinLayer) (s : State) : State := modWin (fun w => { w with layers := tabMod w.layers k f }) s
/-- The pending 5200 commit of head `h`. -/
def winPend (s : State) (h : Nat) : Option WinPending := if h = 0 then s.pic.win.pend0 else s.pic.win.pend1
/-- Set the pending 5200 commit of head `h`. -/
def setPend (h : Nat) (p : Option WinPending) (s : State) : State := modWin (fun w => if h = 0 then { w with pend0 := p } else { w with pend1 := p }) s

/-- Discard the pending 5200 commit of a head, armed or not (R569, R576). -/
def winDiscard (h : Nat) (s : State) : State :=
  match winPend s h with
  | none => s
  | some p =>
    let s1 := setPend h none s
    match p.armed with
    | none => s1
    | some id => match armedOf s1 id with
      | some a => dropArmed a s1
      | none => s1

/-- A 5200 commit is dropped (R579). -/
def winDrop (h reason layer excess : Nat) (s : State) : State :=
  let s1 := modWin (fun w => { w with
    drop := Nat.lor w.drop (2 ^ h), reason := reason, layer := layer, excess := if reason = 1 ∨ reason = 2 then excess else w.excess }) (winDiscard h s)
  if reason = 1 ∨ reason = 2 then countRejected s1 else s1

/-- The window layers in force on a head that still runs. -/
def winInForce (s : State) : List Nat := (List.range 64).filter (fun l => decide (56 ≤ l) && (layAt s l).head.isSome)

/-- A disabled window is clear once no window layer is in force (R569). -/
def winClosed (s : State) : State :=
  if s.pic.win.closing ∧ winInForce s = [] then finishWait .compatClear .ok 0 [] (modWin (fun w => { w with closing := false }) s) else s

/-- COMPAT5200_SET (R569). -/
def cmdCompat5200Set (c : Cmd) (s : State) : CmdRes :=
  let on := decide (c.u8 0 = 1)
  let taken := anyUpTo 8 (fun k => (layAt s (56 + k)).sHead.isSome || (layAt s (56 + k)).head.isSome)
  checks s [tooShort c 4, rsv c 1 3, bad (decide (1 < c.u8 0)), stateIf (on && taken) 1, stateIf (on && pairLocked s 0) 2]
    (if on then done { winDiscard 1 (winDiscard 0 s) with pic.win := { enabled := true } }
     else
       let s1 := winDiscard 1 (winDiscard 0 s)
       let s2 : State := { s1 with pic.win := { closing := s1.pic.win.enabled || s1.pic.win.closing } }
       let s3 := forEach (winInForce s2) (fun l s => match (layAt s l).head with
         | some h => if headEnabled s h then s else layerLeave l s
         | none => s) s2
       if winInForce s3 = [] then done (winClosed s3) else .wait .compatClear s3)

/-- The line a head's raster has reached (R9, R311). -/
def headLine (s : State) (h : Nat) : Nat := headPos s h / posUnit / hTotal (timingOf s h)

/-- A write of 1 to a bit of W5_COMMIT (R576): the snapshot, its due blanking, and LATE where that is not the first. -/
def winRequest (h : Nat) (s : State) : State :=
  let t := timingOf s h
  let late := headEnabled s h && !(hdAt s h).inBlank && decide (t.vact ≤ headLine s h + 16)
  let s1 := setPend h (some { layers := s.pic.win.layers, due := if late then 2 else 1 }) (winDiscard h s)
  if late then modWin (fun w => { w with late := Nat.lor w.late (2 ^ h) }) s1 else s1

/-- W5_COMMIT_WRITE (R573, R576). -/
def w5CommitWrite (v : BitVec 16) (s : State) : State :=
  if !s.pic.win.enabled then s else
  let s1 := if v.getLsbD 0 then winRequest 0 s else s
  if v.getLsbD 1 then winRequest 1 s1 else s1

/-- The layout of an FMT field (R574). -/
def winFmt (f : Nat) : Nat := ([0x41, 0x42, 0x40, 0x43] : List Nat).getD f 0x41

/-- An expanded palette entry (R575). -/
def winPalEntry (v : Nat) : Nat :=
  let b := bits v 0 5
  let g := bits v 5 6
  let r := bits v 11 5
  (r * 8 + r / 4) + 256 * (g * 4 + g / 16) + 65536 * (b * 8 + b / 4) + 16777216 * 255

/-- The ledger buffer whose line 0 lies at a window layer's BASE and whose pool has its format (R578, R579). -/
def winBuffer (s : State) (w : WinLayer) : Option Nat :=
  let base := (w.baseLo + 65536 * w.baseHi) * 4096
  (List.range 64).findSome? (fun p =>
    let q := poolAt s p
    if q.used ∧ q.size ≠ 0 ∧ q.base ≤ base ∧ base < q.base + q.size * q.count ∧ (base - q.base) % q.size = 0 ∧
        q.format = winFmt (bits w.ctrl 2 2) ∧ q.stride = 64 * w.stride ∧ (bufAt s (q.first + (base - q.base) / q.size)).state ≠ .free then
      some (q.first + (base - q.base) / q.size)
    else none)

/-- The native settings of a window layer on a buffer (R571, R574). -/
def winCfg (w : WinLayer) (b : Nat) : LayerCfg :=
  { src := { kind := 1, buffer := b, cx := w.cx, cy := w.cy, cw := w.cw, ch := w.ch, orient := 4 * bits w.ctrl 4 2 },
    geo := { dx := signedOf 16 w.dx, dy := signedOf 16 w.dy }, blend := { mode := bits w.ctrl 6 1, lw := 257 * w.alpha },
    palette := (List.range 256).foldl (fun t i => tabSet t i (winPalEntry (tabGet w.pal i))) [], curve := true }

/-- The window layers that a pending set shows on head `h`. -/
def winShown (p : WinPending) (h : Nat) : List Nat :=
  (List.range 8).filter (fun k => let w := tabGet p.layers k
                                  bit w.ctrl 0 && decide (bits w.ctrl 1 1 = h))

/-- A crop fails R241 or R250 for a window layer on a buffer (R579 reason 4). -/
def winCropBad (s : State) (w : WinLayer) (b : Nat) : Bool :=
  let u := bufSurf s b
  let size := fun n => decide (n = 0) || decide (16384 < n)
  size w.cw || size w.ch || (sourceFault false (winCfg w b).src u.fmt u.stride u.lines).isSome

/-- The checks and the arming of a pending set (R577 to R579). Reason 3 names the first layer, in order, that no buffer matches or
whose reference is refused. -/
def winArm (h : Nat) (p : WinPending) (s : State) : State :=
  let shown := winShown p h
  let rotates := (layersOn s h).any (fun x => rotated x.2.src.orient) || (shadowLayers s h).any (fun l => rotated (layAt s l).shadow.src.orient)
  let natives := (layersOn s h).filter (fun x => !winOwns s x.1)
  let unresolved := shown.find? (fun k => (winBuffer s (tabGet p.layers k)).isNone)
  if !headEnabled s h then winDrop h 6 0 0 s
  else if rotates then winDrop h 5 0 0 s
  else if 16 < natives.length + shown.length then winDrop h 7 0 0 s
  else
    let found := shown.takeWhile (fun k => (winBuffer s (tabGet p.layers k)).isSome)
    let lays := found.map (fun k => let w := tabGet p.layers k
                                    (56 + k, h, winCfg w ((winBuffer s w).getD 0)))
    let need := newRefs s lays
    let undo := fun (s : State) => forEach need (fun x s => (ledgerReleaseFor (layerRef x.1) x.2.2 (headToken s h) s).2) s
    let r := takeRefs need s
    match r.1, unresolved with
    | some l, _ => winDrop h 3 (l - 56) 0 r.2
    | none, some k => winDrop h 3 k 0 (undo r.2)
    | none, none =>
      match shown.find? (fun k => winCropBad s (tabGet p.layers k) ((winBuffer s (tabGet p.layers k)).getD 0)) with
      | some k => winDrop h 4 k 0 (undo r.2)
      | none =>
        let view := fun j => if j = h then { viewOf s h with lays := natives ++ lays.map (fun x => (x.1, x.2.2)) } else viewOf s j
        let load := ((List.range 8).map (fun j => headDemand s (view j) [] false)).sum + reservations s
        match portFault s view with
        | some (_, _, excess) => winDrop h 2 0 (excess16 excess) (undo r.2)
        | none =>
          if !loadFits s load then winDrop h 1 0 (excess16 (load - fsUsable s)) (undo r.2)
          else
            let id := s.pic.fx.nextId
            let rec_ : Armed := { id := id, heads := [h], lays := lays, ready := true, refs := need.map (fun x => (x.1, x.2.2)), window := true,
                                  views := [(h, viewOf s h), (h, view h)] }
            modShed (fun q => { q with evalDue := true })
              (setPend h (some { p with armed := some id }) (modFx (fun x => { x with armed := x.armed ++ [rec_], nextId := id + 1 }) r.2))

/-- W5_COMMIT_ARM (R577): the firmware serves the pending sets that no earlier armed commit holds back. -/
def w5CommitArm (s : State) : State :=
  if !firmwareRunning s then s else
  forUpTo 2 (fun h s => match winPend s h with
    | some p => if p.armed.isSome ∨ commitBlocked s [h] then s else winArm h p s
    | none => s) s

/-- What a blanking of head `h` does for the window (R569, R576, R577): a set that missed its due blanking is LATE, a set
whose head has stopped is dropped, and a closing window's layers leave. -/
def winBlanking (h : Nat) (s : State) : State :=
  if 2 ≤ h then s else
  let s1 := match winPend s h with
    | none => s
    | some p =>
      if !headEnabled s h then winDrop h 6 0 0 s
      else if p.due ≤ 1 then modWin (fun w => { w with late := Nat.lor w.late (2 ^ h) }) s
      else setPend h (some { p with due := p.due - 1 }) s
  if s1.pic.win.closing then
    modShed (fun p => { p with evalDue := true }) (winClosed (forEach ((winInForce s1).filter (fun l => decide ((layAt s1 l).head = some h))) layerLeave s1))
  else s1

/-- A write to a window register while the window is disabled is reported (R573). -/
def winLocked (r v : Nat) (s : State) : State := lockedWrite (0x300000 + 2 * r) 3 v s

/-- W5_PAL_DATA_WRITE (R573, R575). -/
def w5PalDataWrite (v : BitVec 16) (s : State) : State :=
  if !s.pic.win.enabled then winLocked 0x0A v.toNat s else
  let a := s.pic.win.palAddr
  let s1 := modWinLayer (bits a 8 3) (fun w => { w with pal := tabSet w.pal (a % 256) v.toNat }) s
  if bit a 15 then modWin (fun w => { w with palAddr := a / 256 * 256 + (a + 1) % 256 }) s1 else s1

/-- W5_L_BASE_LO_WRITE (R573, R574): the value waits in the layer's hidden latch. -/
def w5BaseLoWrite (k : Nat) (v : BitVec 16) (s : State) : State :=
  if !s.pic.win.enabled then winLocked (0x12 + 16 * k) v.toNat s else modWinLayer k (fun w => { w with latch := some v.toNat }) s

/-- W5_L_BASE_HI_WRITE (R573, R574): the high word is stored with the latch, or with the stored low word. -/
def w5BaseHiWrite (k : Nat) (v : BitVec 16) (s : State) : State :=
  if !s.pic.win.enabled then winLocked (0x13 + 16 * k) v.toNat s
  else modWinLayer k (fun w => { w with baseHi := v.toNat % 4096, baseLo := w.latch.getD w.baseLo, latch := none }) s

end Sys2Proof.Machine
end

