-- ==== Sys2Proof/Machine/Units.lean ====
section
/-! DEFINITION. What power and snapshots do to the units: what a domain loses and how its units act again (R503 to R522,
R539, R543), the counters of every unit and their shadows (R132, R133), and the swap of a 3D LUT unit (R289). -/
namespace Sys2Proof.Machine
open Sys2Proof

/-! Snapshots. -/

/-- Domain `d` is on. -/
def domOn (s : State) (d : Nat) : Bool := decide ((domAt s d).level = .on)

/-- The domains that are off, as bits (R133) (DESIGN CHOICE, log entry 220). -/
def domainsOff (s : State) : Nat := ((List.range 32).map (fun d => if domOn s d then 0 else 2 ^ d)).sum

/-- The counters of the memory fabric, the store and the ledger (R132). -/
def latchStore (s : State) : State :=
  { s with
    fs.chans := (List.range 16).foldl (fun t c => if domOn s (11 + c / 4) then tabMod t c (fun x => { x with shadow := x.ctr }) else t) s.fs.chans,
    ledger.pools := if domOn s 2 then tabMap s.ledger.pools (fun x => { x with shadow := x.ctr }) else s.ledger.pools,
    dma.chans := if domOn s 2 then tabMap s.dma.chans (fun x => { x with kibShadow := x.kib, ringDropShadow := x.ringDrop }) else s.dma.chans,
    ev.msgsShadow := if domOn s 2 then s.ev.msgs else s.ev.msgsShadow,
    rel := if domOn s 2 then { s.rel with
        sramCeShadow := s.rel.sramCe, sramUeShadow := s.rel.sramUe, outputs := tabMap s.rel.outputs (fun x => { x with shadow := x.ctr }) }
      else s.rel }

/-- The counters of the MACs, of ingest, of recording and of the streams (R132). The counters of the MACs count in the fabric domain (R210). -/
def latchLinks (s : State) : State :=
  { s with
    mac.macs := if domOn s 2 then tabMap s.mac.macs (fun x => { x with shadow := if x.tx.paused then tabSet x.ctr 52 (macLive s x 52) else x.ctr }) else s.mac.macs,
    ingest.ctxs := if domOn s 30 then tabMap s.ingest.ctxs (fun x => { x with shadow := x.ctr }) else s.ingest.ctxs,
    mag := if domOn s 30 then { s.mag with
        slots := tabMap s.mag.slots (fun x => { x with shadow := x.ctr }), chans := tabMap s.mag.chans (fun x => { x with shadow := x.ctr }) } else s.mag,
    st := if domOn s 31 then { s.st with
        subs := tabMap s.st.subs (fun x => { x with shadow := x.ctr }), ports := tabMap s.st.ports (fun x => { x with shadow := x.ctr }),
        flows := tabMap s.st.flows (fun x => { x with shadow := x.ctr }), depacks := tabMap s.st.depacks (fun x => { x with shadow := x.ctr }) } else s.st }

/-- The counters of the picture path and of the governor (R132). -/
def latchPicture (s : State) : State :=
  { s with
    pic.heads := s.pic.heads.foldl (fun t e => if domOn s (15 + e.1) then
      tabMod t e.1 (fun x => { x with cshadow := x.ctr, sig := tabMap x.sig (fun y => { y with mshadow := y.mismatches }) }) else t) s.pic.heads,
    pic.layers := if domOn s 27 then tabMap s.pic.layers (fun x => { x with cshadow := x.ctr }) else s.pic.layers,
    pic.shed := if domOn s 1 then { s.pic.shed with shadow := s.pic.shed.ctr } else s.pic.shed,
    vid.lanes := if domOn s 28 then tabMap s.vid.lanes (fun x => { x with shadow := sdiCtr s x }) else s.vid.lanes,
    vid.panels := if domOn s 29 then tabMap s.vid.panels (fun x => { x with fshadow := x.frames, dshadow := x.dcs }) else s.vid.panels,
    power := if domOn s 1 then { s.power with shadow := s.power.ctr } else s.power }

/-- Every unit whose domain is on copies its counters into their shadows (R132, R133). -/
def latchShadows (s : State) : State := latchPicture (latchLinks (latchStore s))

/-! The 3D LUT swap. -/

/-- A LUT_SWAP occurrence (R121, R289): refused where the unit has not two banks, or the other bank is being loaded or is
not VALID. -/
def lutSwap (u : Nat) (s : State) : Option State :=
  let x := lutAt s u
  let k := 1 - x.pending
  if x.mode ≠ 2 ∨ x.loading = some k ∨ !lutValid x k then none
  else some (modLut u (fun y => { y with pending := k }) s)

/-! Recovery and power. -/

/-- The recovery of a FAILED synthesizer (R539, R544): its words are loaded again, then up to three relock attempts (DEDUCED, log entry 58). -/
def recoverSyn (k : Nat) (s : State) : State :=
  countReload (modSyn k (fun y => { y with state := .acquiring, gated := true, attempts := 1, searching := true, cacheHit := false }) s)

/-- A head powers up for its commit; one whose synthesizer is FAILED is recovered as part of the enable (R316, R539) (DEDUCED, log entry 81). -/
def powerHead (h : Nat) (s : State) : State :=
  let s1 := headPowered h s
  if (hdAt s1 h).enabling ∧ (synAt s1 h).state = .failed ∧ !(synAt s1 h).refFault then recoverSyn h s1 else s1

/-- Heads that a ready commit enables and whose domains are already on begin at once (R316, R511). -/
def powerHeads (s : State) : State :=
  forUpTo 8 (fun h s =>
    if domOn s (15 + h) ∧ !(domAt s (15 + h)).loading ∧ !headEnabled s h ∧ !(hdAt s h).enabling then powerHead h s else s) s

/-- The base cost of a domain in mW (R503). -/
def baseCost (d : Nat) : Nat := if d = 1 then 800 else if d = 2 then 2000 else if d = 3 then 1000 else if d = 4 then 200
  else if d = 30 ∨ d = 31 then 900 else if 11 ≤ d ∧ d ≤ 14 then 1500 else 0

/-- A synthesizer whose domain went off (R107, R504): its words, its lock and its cache are lost; a reference fault lasts until
a reset (R100). -/
def synGone (k : Nat) (s : State) : State :=
  modSyn k (fun y => ({ cfg := y.cfg, words := { refMode := y.words.refMode }, refFault := y.refFault } : Syn)) s

/-- The SDI reference synthesizers start with the SDI domain (R89, R91, R503). -/
def sdiSynsStart (s : State) : State :=
  let go := fun (k num den : Nat) (s : State) => synUpdatePoint k (setSynShadow k (synWordsFor (synAt s k).words.refMode num den) s)
  go 11 148500000000 1001 (go 10 148500000 1 s)

/-- What the units of domain `d` lose as it leaves ON (R504); the ranks of a store group are in self-refresh (R508). The configuration in force is kept by the firmware (DEDUCED, log entry 126). -/
def domainGone (d : Nat) (l : Level) (s : State) : State :=
  if l = .ret then (if d = 2 then evRetain s else s)
  else if 5 ≤ d ∧ d ≤ 10 then forUpTo 4 (fun i => modLane (4 * (d - 5) + i) darkLane) s
  else if 15 ≤ d ∧ d ≤ 22 then synGone (d - 15) s
  else if 23 ≤ d ∧ d ≤ 26 then releaseLut (d - 23) s
  else if d = 28 then synGone 11 (synGone 10 s)
  else if 11 ≤ d ∧ d ≤ 14 then forUpTo 4 (fun i => modChan (4 * (d - 11) + i) (fun x => { x with selfRefresh := true, pdRanks := [] })) s
  else s

/-- The units of domain `d` act again once its load is done (R316, R375, R512, R543). -/
def domainReady (d : Nat) (s : State) : State :=
  let s1 :=
    if 5 ≤ d ∧ d ≤ 10 then forUpTo 16 startLink s
    else if (15 ≤ d ∧ d ≤ 22) ∨ d = 27 then powerHeads s
    else if d = 28 then forUpTo 8 sdiTry (sdiSynsStart s)
    else if d = 29 then forUpTo 4 panelTry s
    else s
  finishWait (.grant d) .ok 0 [] s1

/-- The commits that enable a head end without landing (R327, R519). -/
def dropEnables (p : Nat → Bool) (s : State) : State :=
  forEach (s.pic.fx.armed.filter (fun a => a.enable.any (fun h => p h && !a.landed.contains h)))
    (fun a s => finishWait (.commit a.id) .deniedPower (denyDetail { doms := a.switches } (2, 0)) [] (dropArmed a s)) s

/-- The lowest domain of the request whose command waits for a switch of domain `d` (R518): of a MAC's quads, or `d` itself. -/
def requestDomain (s : State) (c : Cmd) (d : Nat) : Nat :=
  if c.opcode = 0x0B01 then ((quadsOf (groupLanes (c.u8 4) (c.u8 5))).map (5 + ·)).foldl min d
  else if c.opcode = 0x0B07 then ((quadsOf (macLanes (macAt s (c.u8 0)) ++ spareLanes (macAt s (c.u8 0)))).map (5 + ·)).foldl min d
  else d

/-- The commands that wait for a switch of domain `d` are refused with reason 2 (R518, R519) (DEDUCED, log entry 149). -/
def grantDenied (d : Nat) (s : State) : State :=
  forUpTo 32 (fun n => finishCmds (fun c => decide (c.phase = .waiting (.grant d)) && decide (requestDomain s c d = n))
    .deniedPower (2 + 256 * n) []) s

/-- A MAC_SLEEP wake of MAC `m` waits for its quads. -/
def waking (s : State) (m : Nat) : Bool :=
  s.ctl.inflight.any (fun c => decide (c.opcode = 0x0B07) && decide (c.u8 0 = m) && (match c.phase with
    | .waiting (.grant _) => true
    | _ => false))

/-- The request of MAC `m` for its quads is refused: a wake leaves it asleep, a configuration leaves it disabled (R512, R519). -/
def macRefused (m : Nat) (s : State) : State :=
  if waking s m then
    dropQuads (quadsOf (macLanes (macAt s m) ++ spareLanes (macAt s m))) (modMac m (fun x => { x with sleep := true, starting := false }) s)
  else releaseLanes m s

/-- The spare lanes of MAC `m` in quad `q` whose assignment waits for the quad are not assigned (R512, R519). -/
def sparesRefused (m q : Nat) (s : State) : State :=
  if (macAt s m).sleep ∨ (macAt s m).starting then s
  else
    let l := (List.range 2).filter (fun i => (tabGet (macAt s m).lk.spares i).valid && decide ((tabGet (macAt s m).lk.spares i).lane / 4 = q))
    forEach l (fun i s => modMac m (fun x => { x with lk.spares := tabSet x.lk.spares i {} })
      (modLane (tabGet (macAt s m).lk.spares i).lane (fun l => { ({} : Lane) with signal := l.signal, cdr := l.cdr }) s)) s

/-- A queued switch-on of domain `d` is dropped in HOLDUP (R519): what waits for it is refused with reason 2. -/
def grantDropped (d : Nat) (s : State) : State :=
  let deny := fun (w : WaitFor) (s : State) => finishWait w .deniedPower (2 + 256 * d) [] s
  if 5 ≤ d ∧ d ≤ 10 then
      forUpTo 16 (fun m s => if (macAt s m).starting ∧ (quadsOf (macLanes (macAt s m) ++ spareLanes (macAt s m))).contains (d - 5) then macRefused m s else sparesRefused m (d - 5) s) s
  else if 15 ≤ d ∧ d ≤ 22 then dropEnables (fun h => (pairOf s h).contains (d - 15)) s
  else if d = 27 then dropEnables (fun _ => true) s
  else if 23 ≤ d ∧ d ≤ 26 then releaseLut (d - 23) s
  else if d = 28 then forUpTo 8 (fun n s => if (sdiAt s n).pending.isSome then deny (.sdiLane n) (modSdi n (fun x => { x with pending := none }) s) else s) s
  else if d = 29 then forUpTo 4 (fun p s => if (panelAt s p).pending.isSome then deny (.panel p) (modPanel p (fun x => { x with pending := none }) s) else s) s
  else s

/-- The role of a MAC keeps its quads on in HOLDUP (R520): magazine and ingest. -/
def keepsQuad (x : Mac) : Bool := x.enabled && (decide (x.cfg.role = 1) || decide (x.cfg.role = 2) || decide (x.cfg.role = 3))

/-- The quads whose MACs all hold the network or management role (R520). -/
def netOnlyQuads (s : State) : List Nat :=
  ((List.range 6).filter (fun q =>
    let on := fun (x : Mac) => (macLanes x ++ spareLanes x).any (fun n => decide (n / 4 = q))
    let l := (List.range 16).map (macAt s)
    l.any (fun x => x.enabled && on x) && !l.any (fun x => keepsQuad x && on x))).map (5 + ·)

/-- The commits that name head `h` and have yet to land there end without landing as HOLDUP stops it (R327, R520) (DESIGN CHOICE, log entry 234). -/
def dropNamed (h : Nat) (s : State) : State :=
  forEach (s.pic.fx.armed.filter (fun a => !a.window && a.heads.contains h && !a.landed.contains h))
    (fun a s => finishWait (.commit a.id) .deniedPower (2 + 256 * (15 + h)) [] (dropArmed a s)) s

/-- What becomes of the units in HOLDUP (R520): heads are disabled at once, LUT units released, ports off, lanes disabled,
and the MACs of quads without a magazine or an ingest MAC disabled. -/
def holdupUnits (s : State) : State :=
  let qs := netOnlyQuads s
  let s1 := forUpTo 8 (fun h s => if headEnabled s h ∧ !isUpperOfPair s h then streamBlanking h (winBlanking h (headStop h (dropNamed h s))) else s) s
  let s2 := vidHoldup (forUpTo 4 (fun u s => if (lutAt s u).mode ≠ 0 then releaseLut u s else s) s1)
  forUpTo 16 (fun m s =>
    let x := macAt s m
    if x.enabled ∧ !keepsQuad x ∧ (macLanes x).all (fun n => qs.contains (5 + n / 4)) then
      finishWait (.macDown m) .ok 0 [] (releaseLanes m (dropCurrent m (modMac m (fun x => { x with stopping := false }) s))) else s) s2

/-- AGENT_RESET_RECLAIM (R175): the old token's requests have drained, and a command that waits for that reset ends (DESIGN CHOICE, log entry 143). -/
def agentReset (cls inst : Nat) (s : State) : State :=
  let s1 := agentReclaim cls inst s
  if cls = clsIngest then finishWait (.ingestReset inst) .ok 0 [] (finishWait (.ingestStart inst) .ok 0 [] s1)
  else if cls = clsRecord then finishWait (.recReset inst) .ok 0 [] s1
  else if cls = clsDepack then finishWait (.depackReset inst) .ok 0 [] (finishWait (.depack inst) .ok 0 [] s1)
  else s1

end Sys2Proof.Machine
end

