-- ==== Sys2Proof/Machine/Boot.lean ====
section
/-! DEFINITION. Reset, boot, firmware and security: commands 0x0F01 to 0x0F04, the reset sources, the boot ROM, start-up, fuses
and locks (R549 to R568). -/
namespace Sys2Proof.Machine
open Sys2Proof

/-- Change boot and security. -/
def modBoot (f : BootPart → BootPart) (s : State) : State := { s with boot := f s.boot }

/-! Resets. -/

/-- The epoch that a slot takes at a reset of the recording engine (R404). -/
def mountEpoch (l : Safelight) : Nat := if l.timeValid then l.rtcSec % 2 ^ 32 else 1

/-- Every block at its reset values but the Safelight domain, the fuses, the flash, and what lies outside the device: host
memory, the levels of the EVI balls, the signals on the lanes and the die temperature (R549). -/
def freshDevice (s : State) : State :=
  { (State.reset) with
    sl := s.sl,
    boot := { fuses := s.boot.fuses, flash := s.boot.flash, strap := s.boot.strap, wdtCount := s.boot.wdtCount, hotCount := s.boot.hotCount },
    host := { mem := s.host.mem },
    mag := { slots := (List.range 2).foldl (fun t i => tabSet t i { epoch := mountEpoch s.sl }) [] },
    ev := { pins := s.ev.pins.foldl (fun t e => tabSet t e.1 { ball := e.2.ball, level := e.2.ball }) [] },
    time := { dieTemp := s.time.dieTemp },
    mac := { lanes := s.mac.lanes.foldl (fun t e => tabSet t e.1 { signal := e.2.signal }) [] },
    free := s.free, pending := s.pending }

/-! The flash. -/

/-- A byte of the flash (DESIGN CHOICE, log entry 22). -/
def flashByte (s : State) (a : Nat) : Byte := 0xFF#8 ^^^ tabGet s.boot.flash a

/-- `n` bytes of the flash. -/
def flashRead (s : State) (a n : Nat) : List Byte := (List.range n).map (fun i => flashByte s (a + i))

/-- Write bytes into the flash. -/
def flashWrite (a : Nat) (l : List Byte) (s : State) : State :=
  modBoot (fun b => { b with flash := ((l.foldl (fun (acc : Nat × Tab Byte) x => (acc.1 + 1, tabSet acc.2 acc.1 (0xFF#8 ^^^ x))) ((a, b.flash) : Nat × Tab Byte))).2 }) s

/-- Erase the 4 KiB sector at an offset. -/
def flashErase (a : Nat) (s : State) : State := modBoot (fun b => { b with flash := b.flash.filter (fun e => decide (e.1 < a) || decide (a + 4096 ≤ e.1)) }) s

/-- A boot control record (R554): 255 for no trial. -/
structure BootRec where
  seq : Nat := 0
  active : Nat := 0
  trial : Nat := 255
  tries : Nat := 0
  deriving DecidableEq, Repr, Inhabited

/-- CRC-32 with the parameters of R362. -/
def crc32 (l : List Byte) : Nat := Nat.xor (crc32From 0xFFFFFFFF l) 0xFFFFFFFF

/-- A copy of the record, or none where it is not valid (R554). -/
def recCopy (s : State) (k : Nat) : Option BootRec :=
  let b := flashRead s (4096 * k) 32
  let f := fun o n => leNat ((b.drop o).take n)
  if f 0 4 = 0x4B424352 ∧ f 28 4 = crc32 (b.take 28) then some { seq := f 4 4, active := f 8 1, trial := f 9 1, tries := f 10 1 } else none

/-- The record in force and the number of its copy (R554). -/
def recInForce (s : State) : BootRec × Option Nat :=
  match recCopy s 0, recCopy s 1 with
  | none, none => ({}, none)
  | some a, none => (a, some 0)
  | none, some b => (b, some 1)
  | some a, some b => if (a.seq + 2 ^ 32 - b.seq) % 2 ^ 32 < 2 ^ 31 then (a, some 0) else (b, some 1)

/-- Write the record, into the copy that is not in force (R554). -/
def writeRec (r : BootRec) (s : State) : State :=
  let p := recInForce s
  let k := if p.2 = some 0 then 1 else 0
  let b := leBytes 4 0x4B424352 ++ leBytes 4 (p.1.seq + 1) ++ leBytes 1 r.active ++ leBytes 1 r.trial ++ leBytes 1 r.tries ++ List.replicate 17 0
  flashWrite (4096 * k) (b ++ leBytes 4 (crc32 b)) (flashErase (4096 * k) s)

/-- The flash offset of a slot (R553). -/
def slotBase (slot : Nat) : Nat := 0x100000 * (slot + 1)

/-! Images. -/

/-- The header of an image as the checks use it (R555). -/
structure ImgHdr where
  svn : Nat := 0
  keySlot : Nat := 0
  fwVersion : Nat := 0
  bodyBytes : Nat := 0
  ranks : Nat := 0
  density : Nat := 0
  speed : Nat := 0
  reserve : Nat := 0
  deriving DecidableEq, Repr, Inhabited

/-- The fields of a header. -/
def imgHdr (b : List Byte) : ImgHdr :=
  let f := fun o n => leNat ((b.drop o).take n)
  { svn := f 6 1, keySlot := f 7 1, fwVersion := f 8 4, bodyBytes := f 12 4, ranks := f 16 1, density := f 17 1, speed := f 18 2, reserve := f 20 1 }

/-- The key of a slot is programmed and not revoked, and its hash is the given one (R556). -/
def keyGood (f : Fuses) (slot : Nat) (hash : List Byte) : Bool :=
  (match slot with
   | 0 => decide (f.keyHash0 = hash)
   | 1 => f.keyHash1.any (fun h => decide (h = hash))
   | _ => false) && !f.revoke.testBit slot

/-- A configuration of R137 and R138. -/
def memoryOk (h : ImgHdr) : Bool :=
  decide (h.reserve ≤ 1) && ([6400, 7500, 8533] : List Nat).contains h.speed &&
    ([(1, 8), (1, 16), (1, 32), (2, 8), (2, 16)] : List (Nat × Nat)).contains (h.ranks, h.density)

/-- The verification of an image (R556): 0, or the code of the first check that fails; an image that could not be read fails
the last. -/
def verifyImage (f : Fuses) (img : Option (List Byte)) : Nat :=
  match img with
  | none => 8
  | some b =>
    let h := imgHdr b
    let part := fun o n => (b.drop o).take n
    let zero := fun o n => (part o n).all (fun x => decide (x = 0))
    if leNat (part 0 4) ≠ 0x4B465749 ∨ leNat (part 4 2) ≠ 1 ∨ !zero 21 11 ∨ !zero 176 80 ∨ !zero 352 160 then 1
    else if h.bodyBytes < 16 ∨ 786432 < h.bodyBytes ∨ h.bodyBytes % 16 ≠ 0 then 2
    else if !keyGood f h.keySlot (sha384 (part 32 96)) then 3
    else if h.svn < f.svnCtr then 4
    else if !ecdsaValid (part 32 96) (part 256 96) (sha384 (part 0 256)) then 5
    else if sha384 (part 512 h.bodyBytes) ≠ part 128 48 then 6
    else if !memoryOk h then 7
    else 0

/-- The image of a flash slot, as long as its header says. -/
def slotImage (s : State) (slot : Nat) : List Byte :=
  flashRead s (slotBase slot) (512 + min 786432 (leNat (flashRead s (slotBase slot + 12) 4)))

/-- The verification of a flash slot. -/
def slotVerify (s : State) (slot : Nat) : Nat := verifyImage s.boot.fuses (some (slotImage s slot))

/-- The ROM starts an image (R557, R558, R562): what it runs, and the memory the image names. -/
def startImage (b : List Byte) (slot : Nat) (trial fell : Bool) (s : State) : State :=
  let h := imgHdr b
  { modBoot (fun x => { x with
      stage := 3, slot := slot, trial := trial, fellBack := fell, result := 0, started := true,
      fwVersion := h.fwVersion, svn := h.svn, keySlot := h.keySlot }) s with
    fs.cfg := { ranks := h.ranks, density := h.density, speed := h.speed, reserve := decide (h.reserve = 1) } }

/-- The ROM waits for a host push (R557). -/
def recovery (s : State) : State := modBoot (fun x => { x with stage := 7, result := 0x11 }) s

/-- The ROM tries the candidates in order (R557). -/
def tryCandidates (first : Nat) (trial : Option Nat) : List Nat → State → State
  | [], s => recovery s
  | c :: t, s => if slotVerify s c = 0 then startImage (slotImage s c) c (decide (trial = some c)) (decide (c ≠ first)) s
    else tryCandidates first trial t s

/-- The boot order (R557, R559): the straps in force choose, and after three watchdog resets no slot is booted. -/
def romBoot (s : State) : State :=
  if s.boot.strap = 1 ∨ 3 ≤ s.boot.wdtCount then recovery s
  else
    let r := (recInForce s).1
    let act := if r.active = 1 then 1 else 0
    let tr := if (r.trial = 0 ∨ r.trial = 1) ∧ 0 < r.tries then some r.trial else none
    let s1 := if tr.isSome then writeRec { r with tries := r.tries - 1 } s else s
    let l := (tr.toList ++ [act, 1 - act]).eraseDups
    tryCandidates (l.headD 0) tr l s1

/-- A reset of the whole device but Safelight (R549): `src` is its `LAST_RESET` code. -/
def deviceReset (src strap wdt hot : Nat) (s : State) : State :=
  romBoot (modBoot (fun b => { b with strap := strap, lastReset := src, wdtCount := wdt, hotCount := hot }) (freshDevice s))

/-- PORN_RESET (R549, R552): a pulse shorter than 10 µs is ignored (DEDUCED, log entry 132). -/
def pornReset (strap : Fin 4) (widthNs : Nat) (s : State) : State :=
  if widthNs < 10000 then s else deviceReset 0 strap.val 0 0 s

/-- HRSTn takes effect. -/
def hrstnTake (strap : Fin 4) (s : State) : State := deviceReset 1 strap.val s.boot.wdtCount 0 s

/-- HRSTN_RESET (R550): deferred while a record channel is in STOP_BATH; a pulse shorter than 0.5 µs is ignored. -/
def hrstnReset (strap : Fin 4) (widthNs : Nat) (s : State) : State :=
  if widthNs < 500 then s
  else if anyUpTo 2 (fun c => decide ((recAt s c).state = .stopBath)) ∧ s.mag.bath.state ≠ 2 ∧ runTime s < s.mag.bath.startAt + 25000000 * nsUnits then
    modBoot (fun b => { b with hrstDue := some strap }) s
  else hrstnTake strap s

/-- A deferred HRSTn takes effect once the stop-bath sequence is complete, or 25 ms after its start (R550). -/
def hrstnAfter (s : State) : State :=
  match s.boot.hrstDue with
  | some k => if s.mag.bath.state = 2 ∨ s.mag.bath.startAt + 25000000 * nsUnits ≤ runTime s then hrstnTake k s else s
  | none => s

/-- BOOT_WATCHDOG_EXPIRY (R559): it does not run once READY is set, nor in recovery. -/
def bootWatchdog (strap : Fin 4) (s : State) : State :=
  if s.boot.ready ∨ s.boot.stage = 7 ∨ s.power.state = .safelight then s
  else deviceReset 2 strap.val (min 15 (s.boot.wdtCount + 1)) s.boot.hotCount s

/-- A wake from SAFELIGHT with main power present is a reset (R510, R530, R549). -/
def wakeReset (s : State) : State :=
  if s.power.state = .safelight ∧ s.power.wakeDue then deviceReset 3 s.boot.strap 0 s.boot.hotCount s else s

/-- The ROM reads a pushed image and verifies it (R558). -/
def pushRead (s : State) : State :=
  match hostRead s.boot.pushAddr s.boot.pushLen s with
  | none => modBoot (fun b => { b with stage := 1 }) s
  | some img =>
    let r := verifyImage s.boot.fuses (some img)
    if r = 0 then startImage img 2 false false s else modBoot (fun b => { b with stage := 7, result := r }) s

/-- BOOT_PUSH_GO (R558, R567): locked once an image has started (DEDUCED, log entry 127). -/
def bootPushGo (v : Word) (s : State) : State :=
  if s.boot.started then lockedWrite 0x461C 0 v.toNat s
  else if v.getLsbD 0 ∧ s.boot.stage ≠ 1 then pushRead s
  else s

/-- A push that waits for the host goes on once it can (R582). -/
def pushResume (s : State) : State := if s.boot.stage = 1 ∧ hostReachable s then pushRead s else s

/-! Start-up. -/

/-- The timebase is loaded from Safelight at power-on (R64). -/
def loadTimebase (s : State) : State :=
  let v := if s.sl.timeValid then s.sl.rtcSec * secUnits else 0
  let s1 := modTb (fun b => { b with now := v, todValid := s.sl.timeValid }) s
  { s1 with time.refFrame := refFrameAt s1.time.ref v }

/-- SYN9 and SYN8 start (R89 to R91, R561). -/
def startSynths (s : State) : State :=
  let s1 := synUpdatePoint 9 (setSynShadow 9 (synWordsFor 0 250000000 1) s)
  modSyn 8 (fun y => { y with state := .acquiring, searching := true, words := { y.words with int := 320, modw := 1 } }) s1

/-- FIRMWARE_READY (R561, R562): the start-up of a booted image ends and READY is set (DEDUCED, log entries 125 and 128). -/
def firmwareReady (s : State) : State :=
  if s.ctl.pair ≠ .boot ∨ s.boot.ready ∨ s.boot.stage = 7 ∨ s.boot.stage = 1 ∨ s.power.state = .safelight then s
  else
    let t := (runTime s - s.boot.releasedAt) / (1000 * nsUnits) % 2 ^ 32
    let s1 := startSynths (loadTimebase s)
    let s2 := if s.sl.slReset then raise 5 s1 else s1
    let s3 := modBoot (fun b => { b with
      ready := true, started := true, stage := if s.fs.up then 5 else 6, result := if s.fs.up then 0 else 0x10,
      wdtCount := 0, bootTime := t, tcPreset := s.sl.tcValid }) s2
    { s3 with ctl.pair := .running, sl := { s.sl with pwrReq := false } }

/-- The firmware starts the timecode generator from the Safelight timecode at the first reference frame start (R527). -/
def presetTc (s : State) : State :=
  if s.boot.tcPreset then
    let l := s.sl
    modBoot (fun b => { b with tcPreset := false }) (if s.time.tc.pending.isSome then s else
      modTc (fun g => { g with pending := some { mode := 0, base := l.tcBase, drop := l.tcDrop, tc0 := { hh := l.tcHh, mm := l.tcMm, ss := l.tcSs, ff := l.tcFf } } }) s)
  else s

/-! Locks. -/

/-- A write of `SEC_CTRL` (R566, R567): each bit is set by its own first write of 1 (DEDUCED, log entry 40). -/
def secCtrlWrite (v : Word) (s : State) : State :=
  let again := (v.getLsbD 0 && s.boot.debugOff) || (v.getLsbD 1 && s.boot.fwLock)
  let s1 := modBoot (fun b => { b with debugOff := b.debugOff || v.getLsbD 0, fwLock := b.fwLock || v.getLsbD 1 }) s
  if again then lockedWrite 0x4624 0 v.toNat s1 else s1

/-- DEBUG_OFF (R566): a write of `SEC_CTRL` whose bit 0 is 1. -/
def debugOffWrite (v : Word) (s : State) : State := secCtrlWrite v s
/-- FW_UPDATE_LOCK (R567): a write of `SEC_CTRL` whose bit 1 is 1. -/
def fwUpdateLockWrite (v : Word) (s : State) : State := secCtrlWrite v s

/-! Commands. -/

/-- FW_INFO (R603): the firmware that runs and that in the slots. -/
def cmdFwInfo (_ : Cmd) (s : State) : CmdRes :=
  let b := s.boot
  let img := fun k => if slotVerify s k = 0 then imgHdr (slotImage s k) else {}
  let r := (recInForce s).1
  doneWith (leBytes 4 b.fwVersion ++ leBytes 1 b.slot ++ leBytes 1 b.svn ++ leBytes 1 b.fuses.svnCtr ++
    leBytes 1 (b2n b.trial + 2 * b2n b.fellBack + 4 * b2n b.fuses.debugLock + 8 * b2n b.fuses.keyHash1.isSome + 16 * b.fuses.revoke) ++
    leBytes 4 (img 0).fwVersion ++ leBytes 4 (img 1).fwVersion ++ leBytes 1 (img 0).svn ++ leBytes 1 (img 1).svn ++
    leBytes 1 r.active ++ leBytes 1 r.trial ++ leBytes 1 r.tries ++ leBytes 1 0 ++ leBytes 1 3 ++ leBytes 1 2) s

/-- A `FW_UPDATE` holds slot `k` (R46). -/
def fwHeld (s : State) (k : Nat) : Bool :=
  (openJobs s).any (fun j => match j with
    | .fwUpdate u _ _ _ => decide (u = k)
    | _ => false)

/-- FW_UPDATE (R568): the first step erases the first sector; the image is read from host memory (DEDUCED, log entry 130). -/
def cmdFwUpdate (c : Cmd) (s : State) : CmdRes :=
  let k := c.u8 0
  let n := c.u32 4
  let a := c.u64 8
  checks s [tooShort c 16, rsvIf (decide (1 < c.u8 1)), rsv c 2 2, bad (decide (1 < k)), bad (decide (n < 528) || decide (786944 < n)), bad (decide (a % 4 ≠ 0)),
    lockedIf s.boot.fwLock 0x4624, stateIf (decide (s.boot.slot = k)) 2, stateIf (s.boot.trial && decide ((recInForce s).1.active = k)) 1,
    busyIf (fwHeld s k) 0]
    (match hostRead a n s with
     | none => .accept (.fwUpdate k [] 0 1) (some (.timeout, unstated, [])) (flashErase (slotBase k) s)
     | some img => .accept (.fwUpdate k img 0 1) none (flashErase (slotBase k) s))

/-- How many steps `FW_UPDATE` takes: 256 sectors, the pages, the verification, and the record of a trial (R568). -/
def fwUpdateTotal (img : List Byte) (trial : Bool) : Nat := 257 + ceilDiv img.length 4096 + b2n trial

/-- Step `done` + 1 of `FW_UPDATE` (R568): the state after it, and the final status where it fails. -/
def stepFwUpdate (k : Nat) (img : List Byte) (done : Nat) (s : State) : State × Option Nat :=
  let pages := ceilDiv img.length 4096
  if done < 256 then (flashErase (slotBase k + 4096 * done) s, none)
  else if done < 256 + pages then
    let p := done - 256
    (flashWrite (slotBase k + 4096 * p) ((img.drop (4096 * p)).take 4096) s, none)
  else if done = 256 + pages then
    let r := verifyImage s.boot.fuses (some (flashRead s (slotBase k) img.length))
    (s, if r = 0 then none else some r)
  else (writeRec { (recInForce s).1 with trial := k, tries := 3 } s, none)

/-- FW_CONFIRM (R565, R568): the record, and with ADVANCE the anti-rollback counter (DEDUCED, log entry 129). -/
def cmdFwConfirm (c : Cmd) (s : State) : CmdRes :=
  let a := c.u8 0
  let adv := bit (c.u8 1) 0
  let b := s.boot
  let r := (recInForce s).1
  checks s [tooShort c 4, rsvIf (decide (1 < c.u8 1)), rsv c 2 2, bad (decide (1 < a)), bad (decide (a = 1) && adv), lockedIf b.fwLock 0x4624,
    stateIf (decide (a = 0) && !(b.trial || decide (b.slot = r.active))) unstated]
    (let s1 := if a = 1 then writeRec { r with trial := 255, tries := 0 } s
       else if b.trial then writeRec { r with active := b.slot, trial := 255, tries := 0 } s else s
     done (if adv then modBoot (fun x => { x with fuses := { x.fuses with svnCtr := max x.fuses.svnCtr x.svn } }) s1 else s1))

/-- A revocation names the key of the running image, or of the image in the active slot. -/
def keyInUse (s : State) (k : Nat) : Bool :=
  let act := if (recInForce s).1.active = 1 then 1 else 0
  (s.boot.started && decide (s.boot.keySlot = k)) || (decide (slotVerify s act = 0) && decide ((imgHdr (slotImage s act)).keySlot = k))

/-- SEC_FUSE_PROGRAM (R546, R564): each 32-bit fuse word is one step. -/
def cmdSecFuseProgram (c : Cmd) (s : State) : CmdRes :=
  let k := c.u8 0
  let f := s.boot.fuses
  let words := if k = 2 then (List.range 12).map (fun i => c.u32 (4 + 4 * i)) else [0]
  let isBlown := (decide (k = 1) && f.debugLock) || (decide (k = 2) && f.keyHash1.isSome) || (decide (k = 3) && f.revoke.testBit 0) ||
    (decide (k = 4) && f.revoke.testBit 1)
  checks s [tooShort c 4, bad (decide (k = 0) || decide (4 < k)), tooShort c (if k = 2 then 52 else 4), rsv c 1 3,
    lockedIf s.boot.fwLock 0x4624, lockedIf isBlown 0x4628, stateIf (decide (3 ≤ k) && keyInUse s (k - 3)) 1]
    (.accept (.fuse k words 1) (if words.length = 1 then some (.ok, 0, []) else none) (if words.length = 1 then fuseBlown k words s else s))
where
  /-- The fuses of an item are blown and sensed again. -/
  fuseBlown (k : Nat) (words : List Nat) (s : State) : State :=
    modBoot (fun b => { b with fuses := match k with
      | 1 => { b.fuses with debugLock := true }
      | 2 => { b.fuses with keyHash1 := some (words.flatMap (leBytes 4)) }
      | _ => { b.fuses with revoke := Nat.lor b.fuses.revoke (2 ^ (k - 3)) } }) s

end Sys2Proof.Machine
end

