-- ==== Sys2Proof/Machine/Power.lean ====
section
/-! DEFINITION. Power domains and the Safelight domain: commands 0x0D01 and 0x0D02, switches, HOLDUP, STANDBY,
comparators and the real-time clock (R503 to R532). -/
namespace Sys2Proof.Machine
open Sys2Proof

/-- Set the level of a domain: its switch is counted, its cost released with switch-off, its epoch kept (R515, R542). -/
def setLevel (d : Nat) (l : Level) (s : State) : State :=
  let s1 := modDom d (fun x => { x with
    level := l, cost := if l = .on then x.cost else 0, loading := decide (l = .on), epoch := if l = .on then x.epoch else s.rel.epoch }) s
  updateRun (updateOver (modPwr (fun p => { p with ctr.switch := (p.ctr.switch + 1) % 2 ^ 32 }) s1))

/-- In STANDBY every rank is in self-refresh (R156). -/
def ranksRest (s : State) : State :=
  { s with fs.chans := (List.range 16).foldl (fun t c => tabMod t c (fun x => { x with selfRefresh := true, pdRanks := [] })) s.fs.chans }

/-- The device has left IDLE once its last domain has switched (R508, R510). -/
def leaveDone (d : Nat) (l : Level) (s : State) : State :=
  if s.power.leaving ∧ s.power.queue.isEmpty then
    if d = 1 ∧ l = .ret then modPwr (fun p => { p with leaving := false, state := .standby }) (ranksRest s)
    else modPwr (fun p => { p with leaving := false, state := .safelight, doms := p.doms }) { freshDevice s with power := s.power }
  else s

/-- The governor decides a unit's request (R512): leave to have a domain on, or to add cost to one that is. -/
def decideRequest (d cost step : Nat) (s : State) : State :=
  let g : Grant := if (domAt s d).level = .on then { adds := [(d, cost, step)] } else { doms := [(d, cost, step)] }
  match refusal s g with
  | some r => denyPower g r s
  | none => givePower g s

/-- POWER_REQUEST (R512): decided at once, or by the firmware that resumes (R55, R514). -/
def powerRequest (d cost step : Nat) (s : State) : State :=
  if firmwareRunning s then decideRequest d cost step s
  else modPwr (fun p => { p with waiting := p.waiting ++ [(d, cost, step)] }) s

/-- The requests that waited for the firmware, in order of arrival (R55, R514). -/
def waitingRequests (s : State) : State :=
  if firmwareRunning s then
    forEach s.power.waiting (fun r => decideRequest r.1 r.2.1 r.2.2) (modPwr (fun p => { p with waiting := [] }) s)
  else s

/-- DOMAIN_SWITCH (R505, R513): the head of the queue switches, unless the step limit makes the whole queue wait. -/
def domainSwitch (s : State) : State :=
  match s.power.queue with
  | [] => s
  | q :: rest =>
    if q.target = .on ∧ s.power.stepLimit < windowSum s + q.step then
      if q.delayed then s
      else modPwr (fun p => { p with
        queue := p.queue.map (fun r => if r.grant = q.grant ∧ r.target = .on then { r with delayed := true } else r),
        ctr.delay := (p.ctr.delay + 1) % 2 ^ 32 }) s
    else
      let s1 := modPwr (fun p => { p with
        queue := rest,
        window := if q.target = .on then
            p.window.filter (fun w => decide (runTime s < w.1 + 1000000 * nsUnits)) ++ [(runTime s, q.step)] else p.window }) s
      let s2 := if q.target = .on then s1 else domainGone q.domain q.target s1
      leaveDone q.domain q.target (setLevel q.domain q.target s2)

/-- DOMAIN_LOAD (R543): the returning domain restores its retained state, or loads the configuration in force with its
count and event 30; then its units act and the commands that wait for it end (R512). -/
def domainLoad (d : Nat) (s : State) : State :=
  let x := domAt s d
  if !x.loading ∨ (d ≠ 1 ∧ !firmwareRunning s) then s
  else
    let s1 := modDom d (fun x => { x with loading := false, epoch := s.rel.epoch }) s
    let s2 := raise 30 { s1 with rel.reloads := (s.rel.reloads + 1) % 2 ^ 32 }
    domainReady d s2

/-- POWER_BUDGET_SET (R513, R516). -/
def cmdPowerBudgetSet (c : Cmd) (s : State) : CmdRes :=
  checks s [tooShort c 8, bad (decide (c.u32 0 < 12000) || decide (44000 < c.u32 0)), bad (decide (c.u32 4 < 2000) || decide (20000 < c.u32 4))]
    (done (updateOver (modPwr (fun p => { p with budget := c.u32 0, stepLimit := c.u32 4 }) s)))

/-- POWER_STATE_SET (R508, R510): the switches that take the device down join the queue. -/
def cmdPowerStateSet (c : Cmd) (s : State) : CmdRes :=
  let st := c.u8 0
  let offs := fun (l : List Nat) => l.map (fun d => ({ domain := d, target := .off } : Switch))
  let rets := fun (l : List Nat) => l.map (fun d => ({ domain := d, target := .ret } : Switch))
  checks s [tooShort c 4, rsv c 1 3, bad (decide (st ≠ 2) && decide (st ≠ 3)), stateIf (decide (s.power.state ≠ .idle)) 1,
    stateIf (decide (st = 2) && (anyStepCut s || !s.fs.fillDone || (List.range 16).any (fun k => decide ((tabGet s.fs.chans k).state = .retiring)))) 2,
    stateIf (decide (st = 2) && s.power.holdup) 3]
    (done (modPwr (fun p => { p with
      leaving := true,
      queue := p.queue ++ (if st = 2 then offs [11, 12, 13, 14] ++ rets [31, 30, 2, 1]
        else offs [11, 12, 13, 14, 31, 30, 2, 4, 3, 1]) }) s))

/-- PWR_WAKE_WRITE (R509): a write of 1 in STANDBY. -/
def pwrWake (v : Word) (s : State) : State := if v.getLsbD 0 ∧ s.power.state = .standby then slWake 9 s else s

/-- STANDBY_WAKE (R509, R522, R544): the retained domains return, the store's groups are granted and its channels are
to be trained (DEDUCED, log entry 124; DESIGN CHOICE, log entry 214). -/
def standbyWake (s : State) : State :=
  if s.power.state = .standby ∧ s.power.wakeDue ∧ (tabGet s.sl.cmps 1).state then
    let s1 := forEach [1, 2, 30, 31] (fun d s => modDom d (fun x => { x with level := .on, loading := false, cost := baseCost d }) s) s
    let s2 := forEach [11, 12, 13, 14] (fun d => givePower { doms := [(d, 1500, 1200)] }) s1
    let s3 := modPwr (fun p => { p with wakeDue := false, waking := true, state := .idle, ctr.switch := (p.ctr.switch + 4) % 2 ^ 32 }) s2
    let s4 := raise 0 (updateOver (evRestore s3))
    { s4 with fs.chans := (List.range 16).foldl (fun t c => tabMod t c (fun x =>
        { x with trained := x.trained && decide (x.state = .failed), retrain := false, selfRefresh := false })) s4.fs.chans,
              fs.up := false }
  else s

/-- The device enters HOLDUP (R519, R520): queued switch-ons are dropped, and the units of the domains to go are
stopped while their switch-offs join the queue in order (DESIGN CHOICE, log entry 133). -/
def enterHoldup (s : State) : State :=
  let ons := s.power.queue.filter (fun q => decide (q.target = .on))
  let s1 := raise 3 (modPwr (fun p => { p with holdup := true, queue := p.queue.filter (fun q => decide (q.target ≠ .on)) }) s)
  let s2 := forEach ons (fun q => grantDenied q.domain) (forEach ons (fun q s => modDom q.domain (fun d => { d with cost := 0 }) (grantDropped q.domain s)) s1)
  let s3 := holdupUnits s2
  updateOver (forEach (List.range 8 |>.map (15 + ·)) queueOff s3 |> forEach [23, 24, 25, 26, 27, 29, 28] queueOff |> forEach (netOnlyQuads s) queueOff)

/-- COMPARATOR_CHANGE (R402, R404, R517, R519, R528, R530): the reported state of comparator `k` changes. -/
def comparatorChange (k : Nat) (s : State) : State :=
  let c := tabGet s.sl.cmps k
  let v := !c.state
  let s1 := slWake k (raise (976 + k) (modSl (fun l => { l with cmps := tabSet l.cmps k { c with state := v, changed := true } }) s))
  outsideSafelight (fun s1 =>
    let s3 := if (k = 2 ∨ k = 3) ∧ v then doorOpened (k - 2) s1 else s1
    if k = 1 ∧ !v ∧ !s.power.holdup ∧ (s.power.state = .run ∨ s.power.state = .idle) then enterHoldup s3 else s3) s1

/-- HOLDUP_EXIT (R521). -/
def holdupExit (s : State) : State :=
  if s.power.holdup ∧ (tabGet s.sl.cmps 1).state then raise 4 (modPwr (fun p => { p with holdup := false }) s) else s

/-- VSAFE_SWITCHOVER (R523): the supply switch changes its source (DESIGN CHOICE, log entry 135). -/
def vsafeSwitchover (toBattery : Bool) (s : State) : State :=
  if s.sl.onBattery = toBattery then s
  else modSl (fun l => { l with onBattery := toBattery, switchovers := if toBattery then satAdd 255 l.switchovers 1 else l.switchovers }) s

/-- The comparators after a Safelight reset (R529): their reset settings, and the state of their inputs with POL 0. -/
def freshComparators (l : Safelight) : Tab Comparator :=
  (List.range 6).foldl (fun t k => tabMod t k (fun c => { c with state := Bool.xor (tabGet l.cmps k).state (tabGet l.cmps k).pol })) ({} : Safelight).cmps

/-- SAFELIGHT_RESET (R525): every Safelight register at its reset value; the comparators keep the state of their inputs; the wake
logic drops a wake not yet begun and what it recorded, and the MGMT_SPI target its response (DEDUCED, log entry 233). -/
def safelightReset (s : State) : State :=
  { modSl (fun l => { ({} : Safelight) with onBattery := l.onBattery, cmps := freshComparators l }) s with
    power.wakeDue := false, ev.recorded := s.ev.recorded.filter (fun n => decide (sourceDomains s n = [4])), host.spiOut := [] }

/-- RTC_SECOND (R526, R530): loaded from the timebase or counted on; then the alarm is compared. -/
def rtcSecond (s : State) : State :=
  let t := s.time.tb
  let load := t.todValid && (decide (t.state = .locked) || decide (t.state = .hold)) && decide ((domAt s 4).level = .on)
  let s1 := modSl (fun l => if load then { l with rtcSec := t.now / secUnits % 2 ^ 48, secAt := runTime s, timeValid := true }
    else { l with rtcSec := (l.rtcSec + 1) % 2 ^ 48, secAt := runTime s }) s
  if s1.sl.alarmEn ∧ s1.sl.rtcSec = s1.sl.alarm then slWake 6 s1 else s1

/-- SAFELIGHT_WAKE (R530): an enabled wake source other than those with rows of their own fires. -/
def safelightWake (k : Nat) (s : State) : State := slWake k s

/-- RTC_SEC_HI_READ (R526, R594): the latch is kept apart for each path. -/
def rtcSecHiRead (spi : Bool) (s : State) : State :=
  let v := (s.sl.rtcSec % 2 ^ 32, rtcSub s)
  setRead (s.sl.rtcSec / 2 ^ 32) (if spi then modSl (fun l => { l with latchSpi := v }) s else modSl (fun l => { l with latchBar := v }) s)

/-- The Safelight timecode as the settings and value it holds (R527). -/
def slMode (l : Safelight) : TcMode := { base := l.tcBase, drop := l.tcDrop }

/-- SAFELIGHT_TC_FRAME (R527): while the generator does not run the Safelight timecode counts a frame. -/
def safelightTcFrame (s : State) : State :=
  if s.time.tc.running ∧ (domAt s 4).level = .on then s
  else
    let l := s.sl
    let t := tcOfCount (slMode l) (tcCount (slMode l) { hh := l.tcHh, mm := l.tcMm, ss := l.tcSs, ff := l.tcFf } + 1)
    modSl (fun l => { l with tcHh := t.hh, tcMm := t.mm, tcSs := t.ss, tcFf := t.ff }) s

end Sys2Proof.Machine
end

