-- ==== Sys2Proof/Machine/Reliability.lean ====
section
/-! DEFINITION. Availability and fault handling: commands 0x0E01 to 0x0E05, the fault log, availability ticks, on-chip
memory errors and failed channels (R533 to R548). -/
namespace Sys2Proof.Machine
open Sys2Proof

/-- The 16 bytes of a fault record (R547). -/
def faultBytes (r : FaultRec) : List Byte :=
  leBytes 6 r.sec ++ leBytes 1 r.kind ++ leBytes 1 r.unit ++ leBytes 4 r.ns ++ leBytes 4 r.detail

/-- FAULT_LOG_READ (R547). -/
def cmdFaultLogRead (c : Cmd) (s : State) : CmdRes :=
  let a := c.u64 0
  let n := c.u32 8
  let k := min (n / 16) s.rel.log.length
  let lost := s.rel.lost
  checks s [tooShort c 16, rsv c 12 4, bad (decide (a % 4 ≠ 0)), bad (decide (n % 16 ≠ 0) || decide (n < 16) || decide (4096 < n))]
    (match hostWrite a ((s.rel.log.take k).map faultBytes).flatten s with
     | none => .accept (.faultRead a n 0) (some (.timeout, unstated, leBytes 4 0 ++ leBytes 4 lost)) s
     | some s1 => .accept (.faultRead a n k) (some (.ok, 0, leBytes 4 k ++ leBytes 4 lost)) { s1 with rel.log := s.rel.log.drop k, rel.lost := 0 })

/-- FAULT_RECOVER (R539): the words in force are loaded again, then up to three relock attempts. -/
def cmdFaultRecover (c : Cmd) (s : State) : CmdRes :=
  let k := c.u8 0
  checks s [tooShort c 4, rsv c 1 3, bad (decide (11 < k)), stateIf (decide ((synAt s k).state ≠ .failed) || (synAt s k).refFault) unstated,
    busyIf (synHeld s k) 0]
    (.wait (.faultRecover k) (recoverSyn k s))

/-- The instruction-fetch counters go on counting (R57): what the pair has fetched since they were last read is not told (DESIGN CHOICE, log entry 154). -/
def coreFetches (s : State) : State :=
  { s with ctl.fetches := (s.ctl.fetches + Config.freeFetches s.free) % 2 ^ 64,
           ctl.wrongPath := (s.ctl.wrongPath + Config.freeWrongPath s.free) % 2 ^ 64, free := s.free + 1 }

/-- DIAG_CORE_INFO (R57). -/
def cmdDiagCoreInfo (_ : Cmd) (s0 : State) : CmdRes :=
  let s := coreFetches s0
  let t := s.ctl
  doneWith (leBytes 8 t.fetches ++ leBytes 8 t.wrongPath ++ leBytes 4 t.mismatches ++ leBytes 4 t.restarts ++ leBytes 4 t.badCheckpoints) s

/-- The check word that stands beside a line: the reserved one of a poisoned line (R146), as DIAG_FS_RAW wrote it, else the
code of its data, a free value (R143). -/
def checkWord (s : State) (line : Nat) : Nat :=
  if (tabGet s.fs.ecc line).poison then Config.poisonWord % 2 ^ 32
  else match tabGet s.fs.raw line with
    | some r => r.chk
    | none => Config.freeCheckWord (lineBytes s line) % 2 ^ 32

/-- The data of a line as it stands in memory: where symbols have gone wrong since it was written, free values (R143). -/
def rawData (s : State) (line : Nat) : List Byte :=
  let e := tabGet s.fs.ecc line
  if e.symbols ≠ 0 ∧ (tabGet s.fs.raw line).isNone then (List.range 64).map (Config.freeUpset (lineBytes s line) e.symbols) else lineBytes s line

/-- The data and the check word of line `i` of a physical block: of the FSA that lies there, or of a place that none names. -/
def rawAt (s : State) (chan b i : Nat) : List Byte × Nat :=
  let loc := b * 960 + 64 * i
  match fsaAt s chan loc with
  | some f => (rawData s (f / 64), checkWord s (f / 64))
  | none =>
    let d := (List.range 64).map (fun j => tabGet s.fs.loose (looseAt chan loc + j))
    let e := tabGet s.fs.looseEcc (looseAt chan loc / 64)
    (if e.symbols = 0 ∨ (tabGet s.fs.looseRaw (looseAt chan loc / 64)).isSome then d else (List.range 64).map (Config.freeUpset d e.symbols),
     if e.poison then Config.poisonWord % 2 ^ 32
     else match tabGet s.fs.looseRaw (looseAt chan loc / 64) with
       | some r => r.chk
       | none => Config.freeCheckWord d % 2 ^ 32)

/-- The number of a physical block among those of all channels. -/
def blockNo (chan b : Nat) : Nat := chan * 2 ^ 32 + b

/-- The 1,024 bytes of a raw block (R142). -/
def rawBlock (s : State) (chan b : Nat) : List Byte :=
  let l := (List.range 15).map (rawAt s chan b)
  (l.map (·.1)).flatten ++ (l.map (fun x => leBytes 4 x.2)).flatten ++ leBytes 4 (tabGet s.fs.spare (blockNo chan b))

/-- The data for which a line was last a good codeword, where that is known. -/
def goodData (s : State) (line : Nat) : Option (List Byte) :=
  let e := tabGet s.fs.ecc line
  match tabGet s.fs.raw line with
  | some r => r.good
  | none => if e.poison then none else some (lineBytes s line)

/-- The same of a line that no FSA names. -/
def goodLoose (s : State) (at_ : Nat) : Option (List Byte) :=
  match tabGet s.fs.looseRaw (at_ / 64) with
  | some r => r.good
  | none => if (tabGet s.fs.looseEcc (at_ / 64)).poison then none else some ((List.range 64).map (fun j => tabGet s.fs.loose (at_ + j)))

/-- How many symbols of a written line are wrong (R143): none of a codeword, one or two off the codeword that was there, and a
free number where neither is so. -/
def symbolsWrong (d : List Byte) (chk : Nat) (good : Option (List Byte)) : Nat :=
  match good with
  | some g => if symbolsOff d chk g ≤ 2 then symbolsOff d chk g else 1 + Config.freeSymbols d chk
  | none => 1 + Config.freeSymbols d chk

/-- Store one line of a raw block with its check word as given: the reserved word poisons it (R146). -/
def rawLine (line : Nat) (d : List Byte) (chk : Nat) (s : State) : State :=
  let s1 : State := { s with fs.mem := pokeBytes (64 * line) d s.fs.mem }
  let put := fun (e : LineEcc) (r : Option RawCheck) => ({ s1 with
    fs.ecc := tabSet s1.fs.ecc line e, fs.raw := tabSet s1.fs.raw line r } : State)
  if chk = Config.poisonWord % 2 ^ 32 then put { poison := true } none
  else if chk = Config.freeCheckWord d % 2 ^ 32 then put {} none
  else put { symbols := symbolsWrong d chk (goodData s line) } (some { chk := chk, good := goodData s line })

/-- Store one line of a raw block at its place. -/
def rawStore (chan b i : Nat) (d : List Byte) (chk : Nat) (s0 : State) : State :=
  let loc := b * 960 + 64 * i
  let s := wakeRank chan loc s0
  let good := goodLoose s (looseAt chan loc)
  match fsaAt s chan loc with
  | some f => rawLine (f / 64) d chk s
  | none => leaveBehind chan loc d
      (if chk = Config.poisonWord % 2 ^ 32 then { poison := true }
       else if chk = Config.freeCheckWord d % 2 ^ 32 then {} else { symbols := symbolsWrong d chk good })
      (if chk = Config.freeCheckWord d % 2 ^ 32 ∨ chk = Config.poisonWord % 2 ^ 32 then none else some { chk := chk, good := good }) s

/-- DIAG_FS_RAW (R142): a raw physical block, of the retirement reserve too, is read into, or written from, host memory. -/
def cmdDiagFsRaw (c : Cmd) (s : State) : CmdRes :=
  let ch := c.u8 0
  let b := c.u32 4
  let a := c.u64 8
  let blocks := dataSpace s / 960
  checks s [tooShort c 16, rsv c 2 2, bad (decide (15 < ch)), bad (decide (1 < c.u8 1)), bad (decide (blocks ≤ b)), bad (decide (a % 4 ≠ 0)),
    ownerIf (anyUpTo 15 (fun i => match fsaAt s ch (b * 960 + 64 * i) with
      | some f => decide (f < 8388608) || poolOverlap s f 64
      | none => false)) unstated,
    stateIf (decide ((chanAt s ch).state ≠ .active) || !s.fs.fillDone) unstated]
    (if c.u8 1 = 0 then
       match hostWrite a (rawBlock s ch b) (wakeRank ch (b * 960 + 896) (wakeRank ch (b * 960) s)) with
       | none => .final .timeout unstated [] (wakeRank ch (b * 960 + 896) (wakeRank ch (b * 960) s))
       | some s1 => done s1
     else match hostRead a 1024 s with
       | none => .final .timeout unstated [] s
       | some d => done (forUpTo 15 (fun i s => rawStore ch b i ((d.drop (64 * i)).take 64) (leNat ((d.drop (960 + 4 * i)).take 4)) s)
           { s with fs.spare := tabSet s.fs.spare (blockNo ch b) (leNat ((d.drop 1020).take 4)) }))

/-- AVAIL_CLEAR (R534): the counts are cleared at the end of the tick. -/
def cmdAvailClear (c : Cmd) (s : State) : CmdRes :=
  checks s [tooShort c 4, rsvIf (decide (2 ^ 26 ≤ c.u32 0))]
    (.wait .availTick { s with rel.clearMask := Nat.lor s.rel.clearMask (c.u32 0) })

/-- One output at the end of a tick (R534). -/
def tickOutput (o : Nat) (s : State) : State :=
  let x := tabGet s.rel.outputs o
  let en := x.enabledTick || outputEnabled s o
  let c := { x.ctr with
    enabledS := (x.ctr.enabledS + b2n en) % 2 ^ 32, faultS := (x.ctr.faultS + b2n x.chargedTick) % 2 ^ 32 }
  let y := { x with ctr := if s.rel.clearMask.testBit o then {} else c, enabledTick := false, chargedTick := false }
  let s1 : State := { s with rel.outputs := tabSet s.rel.outputs o y }
  if x.chargedTick then raise 29 s1 else s1

/-- The outage R535 expects at most of an output under its conditions: 31.5 s of charged seconds in a year of 31,557,600 s of
enabled time. What a step charges is R536's list alone; nothing R535 lists as not caused by the device charges any output. -/
def outageExpected (x : AvCounters) : Bool := decide (x.faultS * 315576000 ≤ x.enabledS * 315)

/-- AVAIL_TICK (R534). -/
def availTick (s : State) : State :=
  let s1 := forUpTo 26 tickOutput s
  finishWait .availTick .ok 0 [] { s1 with rel.clearMask := 0, rel.ceThisTick := false }

/-- A buffer whose descriptor has failed is quarantined (R541), and AVAIL follows (R231). -/
def quarantine (b : Nat) (s : State) : State :=
  lowCheckOf b (modBuf b (fun x => { x with state := .quarantined, owner := 0 }) s)

/-- The head frames that read an entry of a table (R536 kind 11): the tables are 0 coefficients, 1 linearization, 2 encode,
3 palette, 4 graphic curve, 5 3D LUT. -/
def tableHeads (s : State) (code unit : Nat) : List Nat :=
  let reads := fun (h l : Nat) => let k := (layAt s l).cfg; decide ((layAt s l).head = some h) &&
    (match code with
     | 0 => isVideo l && (decide (k.video.hset = unit) || decide (k.video.vset = unit))
     | 1 | 3 => decide (l = unit)
     | 4 => !isVideo l && k.curve
     | _ => false)
  let on := fun h => headEnabled s h && !isUpperOfPair s h && (match code with
    | 2 => decide (lowerOf s unit = h)
    | 5 => decide (lutOfHead s h = some unit) && (hdAt s h).cfg.out.lut3d
    | _ => anyUpTo 64 (reads h))
  ((List.range 8).filter on).flatMap (pairOf s)

/-- The frame of head `h` that begins reads a table with a parity error (R536 kind 11) (DEDUCED, log entry 134). -/
def chargeTables (h : Nat) (s : State) : State :=
  if s.rel.badTables.any (fun e => (tableHeads s e.1 e.2).contains h) then chargeFrame h 11 s else s

/-- An uncorrectable error in a MAC buffer (R536 kind 13): on the transmit side the frame ends with an inverted FCS, with no
threshold change, and the frame of a paced packet is charged; a received frame counts as an FCS error. -/
def macBufferError (m : Nat) (tx : Bool) (s : State) : State :=
  if tx then
    match (macAt s m).tx.cur with
    | none => s
    | some f =>
      let b := padded f.bytes
      let paced := decide (1000 ≤ f.owner ∧ f.owner < 1000 + firmwareSub) && subPaced (subAt s (f.owner - 1000))
      afterFrame m (frameFailed m f ((if paced then chargeFrame (10 + m) 13 else id) (onWire m (b ++ badFcs b) (modMac m (fun x => { x with tx.cur := none }) s))))
  else macCount m 18 1 s

/-- An uncorrectable error in the event memories (R536 kind 14): a slot is disabled and REFUSED; every bit of an event word
becomes pending in both views. -/
def eventMemoryError (isSlot : Bool) (n : Nat) (s : State) : State :=
  if isSlot then disarmed (modSlot n (fun x => { x with enabled := false, armed := none, refused := true }) s)
  else forUpTo 32 (fun i s => if sourceReserved (32 * n + i) then s else raise (32 * n + i) s) s

/-- What an uncorrectable error does, by KIND (R536, R538), with the UNIT and the DETAIL of its record (DEDUCED, log entry 134). -/
def sramEffect (kind unit detail : Nat) (s : State) : State :=
  match kind with
  | 10 =>
    let y := (hdAt s unit).composed
    logFault 10 unit y (forEach (pairOf s unit) (fun j => chargeFrame j 10) (modHd (lowerOf s unit) (fun d => { d with res.lostFrom := some detail }) s))
  | 11 => logFault 11 unit detail (forEach (tableHeads s (detail % 256) unit) (fun h => chargeFrame h 11)
      { s with rel.badTables := (detail % 256, unit) :: s.rel.badTables.filter (fun e => decide (e ≠ (detail % 256, unit))) })
  | 12 => logFault 12 255 (bufBase s detail / 64 % 2 ^ 32) (quarantine detail s)
  | 13 => logFault 13 unit 0 (macBufferError unit (decide (detail = 0)) s)
  | _ => logFault 14 255 0 (eventMemoryError (decide (unit = 0)) detail s)

/-- SRAM_ERROR (R536 kinds 9 to 14, R538). `detail` is the first sample lost for kind 10, table code and entry for kind 11, the
buffer for kind 12, 0 for transmit and 1 for receive for kind 13, and for kind 14 the slot (unit 0) or the event word (DESIGN CHOICE, log entry 32). -/
def sramError (kind unit detail : Nat) (corrected : Bool) (s : State) : State :=
  if corrected then
    if kind = 10 ∨ kind = 11 then s else
    let s1 := logFault 9 255 0 { s with rel.sramCe := (s.rel.sramCe + 1) % 2 ^ 32, rel.ceThisTick := true }
    if s.rel.ceThisTick then s1 else raise 993 s1
  else if kind < 10 ∨ 14 < kind then s
  else raise 994 (sramEffect kind unit detail { s with rel.sramUe := (s.rel.sramUe + 1) % 2 ^ 32 })

/-- CHANNEL_FAIL (R163, R164, R540). A retirement under way goes on, its reads then those of a failed channel. -/
def channelFail (c : Nat) (s : State) : State :=
  if (chanAt s c).state = .failed ∨ (chanAt s c).state = .retired ∨ chanDead s c then s
  else if (chanAt s c).state = .retiring then raise 995 (logFault 8 c 0 (modChan c (fun x => { x with dead := true }) s))
  else
    let s1 := raise 995 (logFault 8 c 0 (withUsable (fun s => modChan c (fun x => { x with state := .failed }) s) s))
    if s.fs.autoRetire ∧ s.fs.cfg.reserve ∧ !anyRetired s then startRetire c s1 else s1

end Sys2Proof.Machine
end

