-- ==== Sys2Proof/Machine/Report.lean ====
section
/-! DEFINITION. Commands 0x0101 SYS_NOP and 0x0606 HEAD_CONFIG_REPORT (R597, R604). -/
namespace Sys2Proof.Machine
open Sys2Proof

/-- SYS_NOP (R597): the payload and the timebase when the entry was taken. -/
def cmdSysNop (c : Cmd) (s : State) : CmdRes :=
  checks s [bad (decide (16 < c.length))]
    (doneWith (c.bytes 0 16 ++ leBytes 6 (s.time.tb.now / secUnits) ++ leBytes 2 0 ++ leBytes 4 (s.time.tb.now % secUnits / nsUnits)) s)

/-- `HD_STATUS.FREEZE` as a code (R335). -/
def freezeCode (f : Freeze) : Nat := match f with
  | .live => 0
  | .capture => 1
  | .frozen => 2

/-- The head record (R604). -/
def headRecord (s : State) (h : Nat) (k : HeadCfg) : List Byte :=
  let d := hdAt s h
  let t := k.timing
  leBytes 1 h ++ leBytes 1 (b2n d.enabled + 2 * b2n (pairLocked s h) + 4 * freezeCode d.wb.freeze) ++ leBytes 1 k.z.length ++ leBytes 1 k.out.form ++
    leBytes 2 t.hact ++ leBytes 2 t.vact ++ leBytes 2 (hTotal t) ++ leBytes 2 (vTotal t) ++ leBytes 2 t.p ++ leBytes 2 t.q ++
    leBytes 1 k.out.bits ++ leBytes 1 k.wbMode ++ leBytes 1 (k.wbPool.getD 255) ++ leBytes 1 0 ++ leBytes 4 (unsignedOf 32 t.phase) ++ leBytes 8 0

/-- A layer record (R604). -/
def layerRecord (l : Nat) (k : LayerCfg) : List Byte :=
  let r := k.src
  leBytes 1 l ++ leBytes 1 r.kind ++ leBytes 1 (b2n r.opaq + 2 * b2n k.blend.premult) ++ leBytes 1 r.orient ++
    leBytes 2 (if r.kind = 1 then r.buffer else if r.kind = 2 then r.pool else 0) ++
    leBytes 2 r.cx ++ leBytes 2 r.cy ++ leBytes 2 r.cw ++ leBytes 2 r.ch ++ leBytes 2 (unsignedOf 16 k.geo.dx) ++ leBytes 2 (unsignedOf 16 k.geo.dy) ++
    leBytes 2 k.geo.dw ++ leBytes 2 k.geo.dh ++ leBytes 2 k.blend.lw ++ leBytes 1 k.blend.mode ++ leBytes 1 k.tier ++ leBytes 6 0

/-- The records of a head: its own, then those of its layers, bottom first (R604). -/
def headRecords (s : State) (h : Nat) (inForce : Bool) : List (List Byte) :=
  let k := if inForce then { (hdAt s h).cfg with z := zLayers s h } else (hdAt s h).shadow
  headRecord s h k :: k.z.map (fun l => layerRecord l (if inForce then (layAt s l).cfg else (layAt s l).shadow))

/-- HEAD_CONFIG_REPORT (R604) (DEDUCED, log entry 141). -/
def cmdHeadConfigReport (c : Cmd) (s : State) : CmdRes :=
  let h := c.u8 0
  let n := c.u32 4
  let a := c.u64 8
  let l := (headRecords s h (decide (c.u8 1 = 1))).take (n / 32)
  checks s [tooShort c 16, rsv c 2 2, bad (decide (7 < h)), bad (decide (1 < c.u8 1)), bad (decide (n % 32 ≠ 0) || decide (n < 32) || decide (544 < n)),
    bad (decide (a % 4 ≠ 0)), upperHead s h]
    (match hostWrite a l.flatten s with
     | none => .final .timeout unstated [] s
     | some s1 => doneWith (leBytes 4 l.length) s1)

end Sys2Proof.Machine
end

