-- ==== Sys2Proof/Machine/Sched.lean ====
section
/-! DEFINITION. The event scheduler: commands 0x0301 to 0x0303, occurrences, pulses, snapshots (R114 to R136), and the
timebase step with what it does to slots (R78 to R80). -/
namespace Sys2Proof.Machine
open Sys2Proof

/-- The checks of EVT_SLOT_SET on the content (R114, R115, R118, R120, R123). -/
def slotChecks (s : State) (c : SlotContent) : List Check :=
  let pinAction := decide (1 ≤ c.action) && decide (c.action ≤ 4)
  [rsvIf (decide (15 < c.flags)), bad (decide (8 < c.action)), bad (decide (3 < c.kind)), bad (decide (2 < c.repeats)),
   bad (if c.kind = 3 then decide (7 < c.unit) else decide (c.unit ≠ 0)),
   bad (decide (c.kind = 0) && decide (c.repeats ≠ 0)), bad (offsetTrigger s c.kind && decide (c.repeats = 2)),
   bad (bit c.flags 3 && decide (c.kind ≠ 0)), rsvIf (decide (c.kind = 0) && decide (2 ^ 48 ≤ c.frame)),
   bad (decide (c.kind = 0) && decide (1000000000 ≤ c.pos)), bad (pinAction && decide (15 < c.pin)),
   bad ((decide (c.action = 5) && decide (15 < c.arg)) || (decide (c.action = 6) && decide (255 < c.arg)) ||
     (decide (c.action = 7) && decide (2047 < c.arg)) || (decide (c.action = 8) && decide (3 < c.arg))),
   bad (decide (c.action = 4) && bit c.flags 2 && decide (c.kind = 0)),
   bad (decide (c.action = 4) && !bit c.flags 2 && decide (c.stop < 2)),
   stateIf (decide (c.kind = 3) && !headEnabled s c.unit) unstated,
   bad (!posInRaster s c.kind c.unit c.pos),
   bad (decide (c.action = 4) && bit c.flags 2 && !posInRaster s c.kind c.unit c.stop)]

/-- EVT_SLOT_SET (R130): the content applies at once, or after the armed occurrence has fired, in the order of the commands
(DESIGN CHOICE, log entry 177). -/
def cmdEvtSlotSet (c : Cmd) (s : State) : CmdRes :=
  let n := c.u16 0
  let k : SlotContent := { action := c.u8 2, kind := c.u8 3, unit := c.u8 4, repeats := c.u8 5, flags := c.u8 6, pin := c.u8 7,
                           frame := c.u64 8, pos := c.u32 16, arg := c.u16 20, stop := c.u32 24, count := c.u32 28 }
  checks s ([tooShort c 32, rsv c 22 2, bad (decide (4031 < n))] ++ slotChecks s k)
    (if (slotAt s n).armed.isSome then
       .wait (.slotApply n (slotAt s n).writes) (modSlot n (fun x => { x with pending := x.pending ++ [(x.writes, k)], writes := x.writes + 1 }) s)
     else if tooSoon s k then .final .rejRange 1 [] s
     else done (applyContent n k s))

/-- The 32 bytes of a slot's content as written (R115). -/
def slotBytes (n : Nat) (c : SlotContent) : List Byte :=
  leBytes 2 n ++ leBytes 1 c.action ++ leBytes 1 c.kind ++ leBytes 1 c.unit ++ leBytes 1 c.repeats ++ leBytes 1 c.flags ++
    leBytes 1 c.pin ++ leBytes 8 c.frame ++ leBytes 4 c.pos ++ leBytes 2 c.arg ++ leBytes 2 0 ++ leBytes 4 c.stop ++ leBytes 4 c.count

/-- The STATUS byte of EVT_SLOT_GET. -/
def slotStatus (x : Slot) : Nat :=
  b2n x.enabled + 2 * b2n x.armed.isSome + 4 * b2n x.late + 8 * b2n x.isDone + 16 * b2n x.outOfRaster + 32 * b2n x.refused +
    64 * b2n x.suppressed

/-- EVT_SLOT_GET: the content and the status of a slot, a firmware slot among them (DESIGN CHOICE, log entry 170). -/
def cmdEvtSlotGet (c : Cmd) (s : State) : CmdRes :=
  let n := c.u16 0
  let x := slotAt s n
  checks s [tooShort c 2, bad (decide (4095 < n))]
    (doneWith (slotBytes n x.content ++ leBytes 1 (slotStatus x) ++ leBytes 3 0 ++ leBytes 4 x.fired ++ leBytes 6 x.lastSec ++ leBytes 2 0) s)

/-- EVO_CONFIG: output enable, inversion and trim of a pin. -/
def cmdEvoConfig (c : Cmd) (s : State) : CmdRes :=
  checks s [tooShort c 4, rsvIf (decide (3 < c.u8 1)), rsv c 3 1, bad (decide (15 < c.u8 0))]
    (done { s with sched.pins := tabMod s.sched.pins (c.u8 0) (fun p => { p with
      outputEn := bit (c.u8 1) 0, invert := bit (c.u8 1) 1, trim := signedOf 8 (c.u8 2) }) })

/-- The occurrences armed now (R127). -/
def armedCount (s : State) : Nat := (s.sched.slots.filter (fun e => e.2.armed.isSome)).length

/-- The instant of a slot's next occurrence (R116). -/
def occInstant (s : State) (x : Slot) : Option Nat := posInstant s x.content x.occFrame x.occLine x.content.pos

/-- A slot whose next occurrence can be armed: enabled, none armed, in its raster, and not held (R118, R119, R126). -/
def armable (s : State) (x : Slot) : Bool :=
  x.enabled && x.armed.isNone && slotInRaster s x && !rasterHeld s x.content.kind x.content.unit && (occInstant s x).isSome

/-- A slot is past the moment of its arming, 2 µs before its instant (R127). -/
def armDue (s : State) (x : Slot) : Bool :=
  armable s x && match occInstant s x with
    | some t => decide (t < s.time.tb.now + armLead)
    | none => false

/-- The scheduler can arm slot `n` (R127): fewer than 64 are armed, fewer than 64 were armed in the last microsecond, and no
lower slot waits past its moment. -/
def armFree (s : State) (n : Nat) : Bool :=
  decide (armedCount s < 64) &&
    decide ((s.sched.armTimes.filter (fun t => decide (s.time.tb.now < t + 1000 * nsUnits))).length < 64) &&
    !(s.sched.slots.any (fun e => decide (e.1 < n) && armDue s e.2))

/-- OCCURRENCE_ARM (R116, R126 to R128): the occurrence of a slot at a frame and line, when that is its next one, is armed for
the instant its raster gives, with the TRIM of its pin; one armed less than 2 µs ahead is late, but for one that was withdrawn and
is armed again while it is still to come (R119) (DEDUCED, log entry 52). -/
def occurrenceArm (n : Nat) (frame : Int) (line : Nat) (s : State) : State :=
  let x := slotAt s n
  let c := x.content
  match occInstant s x with
  | none => s
  | some t =>
    if !armable s x ∨ !armFree s n ∨ x.occFrame ≠ frame ∨ x.occLine ≠ line then s
    else
      let now := s.time.tb.now
      let st := (if bit c.flags 2 then posInstant s c x.occFrame (posLine c.stop) c.stop else none).getD 0
      let s1 := modSlot n (fun x => { x with rearm := false, armed := some {
        frame := x.occFrame, instant := t, stop := st, late := decide (t < now + (if x.rearm then 0 else armLead)), trim := (tabGet s.sched.pins c.pin).trim } }) s
      let s2 : State := { s1 with sched.armTimes := s1.sched.armTimes.filter (fun t => decide (now < t + 1000 * nsUnits)) ++ [now] }
      if c.action = 6 then { s2 with sched.snap.pend := true } else s2

/-- Count a suppressed pulse or transition (R124, R125). -/
def suppress (n : Nat) (s : State) : State :=
  raise 984 (modSlot n (fun x => { x with suppressed := true }) { s with
    sched.suppressedCount := (s.sched.suppressedCount + 1) % 2 ^ 32, sched.lastSuppressed := { slot := n, valid := true } })

/-- The level after an edge (R120). -/
def edgeLevel (op : EdgeOp) (level : Bool) : Bool :=
  match op with
  | .high => true
  | .low => false
  | .toggle => !level

/-- Put an edge into a list in time order, edges of one instant in slot order (R125, R129). -/
def insertEdge (e : PinEdge) : List PinEdge → List PinEdge
  | [] => [e]
  | x :: l => if e.at_ < x.at_ ∨ (e.at_ = x.at_ ∧ e.slot < x.slot) then e :: x :: l else x :: insertEdge e l

/-- The levels a pin takes from its edges (R125): of edges of one instant only the resulting level counts. -/
def pinLevels : Bool → List PinEdge → List (Nat × Bool)
  | _, [] => []
  | level, e :: l =>
    let v := edgeLevel e.op level
    let r := pinLevels v l
    if r.head?.any (fun x => decide (x.1 = e.at_)) then r else (e.at_, v) :: r

/-- The level of a pin after levels it takes at rising instants, with the suppressed pairs of transitions (R125): two
transitions less than 1 ns apart cancel. `made` are the instants of the transitions that stand, newest first. -/
def pinTransitions : Bool → List Nat → Nat → List (Nat × Bool) → Bool × Nat
  | level, _, cut, [] => (level, cut)
  | level, made, cut, (t, v) :: l =>
    if v = level then pinTransitions level made cut l
    else match made with
      | u :: us => if t < u + nsUnits then pinTransitions v us (cut + 1) l else pinTransitions v (t :: made) cut l
      | [] => pinTransitions v [t] cut l

/-- The level of a pin after its edges, and the suppressed pairs (R125). -/
def pinWalk (level : Bool) (l : List PinEdge) : Bool × Nat := pinTransitions level [] 0 (pinLevels level l)

/-- A pin takes an edge (R125), with the number of pairs newly suppressed (DESIGN CHOICE, log entry 178). -/
def pinEdge (e : PinEdge) (p : EvoPin) : EvoPin × Nat :=
  let old := p.edges.takeWhile (fun x => decide (x.at_ + 200 * nsUnits < e.at_))
  let base := (pinWalk p.base old).1
  let rest := p.edges.drop old.length
  let now := insertEdge e rest
  let r := pinWalk base now
  ({ p with base := base, edges := now, level := r.1 }, r.2 - (pinWalk base rest).2)

/-- An edge of slot `n` on a pin at an instant (R125): an undriven pin discards it, and a pair that cancels counts as one
suppression of the slot whose edge came later. -/
def driveEdge (n pin : Nat) (op : EdgeOp) (at_ : Nat) (s : State) : State :=
  let p := tabGet s.sched.pins pin
  if !p.outputEn then s
  else
    let r := pinEdge { at_ := at_, slot := n, op := op } p
    let s1 : State := { s with sched.pins := tabSet s.sched.pins pin r.1 }
    if r.2 = 0 then s1 else suppress n s1

/-- An internal action that its target cannot take (R121). -/
def refuseAction (n : Nat) (s : State) : State :=
  raise 988 (modSlot n (fun x => { x with refused := true }) { s with
    sched.refusedCount := (s.sched.refusedCount + 1) % 2 ^ 32, sched.lastRefused := { slot := n, valid := true } })

/-- A snapshot occurrence reaches its instant (R132, R133, R135). -/
def takeSnapshot (tag instant : Nat) (s : State) : State :=
  let q := s.sched.snap
  let tooClose := match q.lastInstant with
    | some t => decide (instant < t + 10000 * nsUnits)
    | none => false
  if tooClose then
    raise 987 { s with sched.snap := { q with skipped := (q.skipped + 1) % 2 ^ 32, pend := snapArmed s || q.running.isSome } }
  else
    { latchShadows s with
      sched.snap := { q with pend := true, running := some (instant, tag), lastInstant := some instant, off := domainsOff s } }

/-- The action of an occurrence at its instant (R120 to R124); the edges of a late one leave at the moment it fires (R128) (DESIGN CHOICE, log entries 171 and 176). -/
def slotAction (n : Nat) (c : SlotContent) (a : ArmedOcc) (start : Nat) (s : State) : State :=
  let tryIt := fun (o : Option State) => match o with
    | some s1 => modSlot n (fun x => { x with refused := false }) s1
    | none => refuseAction n s
  let trim : Int := if a.late then 0 else a.trim
  let at_ := ((start : Int) - trim * 32768).toNat
  match c.action with
  | 1 => driveEdge n c.pin .high at_ s
  | 2 => driveEdge n c.pin .low at_ s
  | 3 => driveEdge n c.pin .toggle at_ s
  | 4 =>
    let stop := if bit c.flags 2 then (posInstant s c a.frame (posLine c.stop) c.stop).getD a.stop else start + c.stop * 32768
    if stop < start + nsUnits then suppress n s
    else
      let s1 := driveEdge n c.pin .high at_ s
      { s1 with sched.pulses := s1.sched.pulses ++ [{ slot := n, pin := c.pin, stop := stop, trim := trim, place := if bit c.flags 2 then some (a.frame, c) else none }] }
  | 5 => tryIt ((releaseCommitHandle c.arg s).map powerHeads)
  | 6 => takeSnapshot c.arg a.instant s
  | 7 => tryIt (startSubscriber c.arg s)
  | 8 => tryIt (lutSwap c.arg s)
  | 9 => tryIt (recStartFire c.arg c.kind a.frame.toNat a.instant s)
  | 10 => tryIt (recStopFire c.arg c.kind a.frame.toNat a.instant s)
  | _ => s

/-- The slot after its occurrence has fired (R117): its counts, and its next occurrence. -/
def slotFired (sec : Nat) (late : Bool) (lines : Nat) (x : Slot) : Slot :=
  let c := x.content
  let fired := (x.fired + 1) % 2 ^ 32
  let last := decide (c.repeats = 0) || (decide (c.count ≠ 0) && decide (c.count ≤ fired))
  let endLine := decide (c.repeats = 2) && decide (x.occLine + 1 < lines)
  { x with
    armed := none, rearm := false, fired := fired, lastSec := sec, late := late, enabled := x.enabled && !last, isDone := x.isDone || last,
    suppressed := false, refused := false,
    occLine := if endLine then x.occLine + 1 else if c.repeats = 2 then 0 else x.occLine,
    occFrame := if endLine then x.occFrame else x.occFrame + 1 }

/-- Count a late occurrence (R128). -/
def countLate (n : Nat) (s : State) : State :=
  raise 985 { s with sched.lateCount := (s.sched.lateCount + 1) % 2 ^ 32, sched.lastLate := { slot := n, valid := true } }

/-- An occurrence fires (R120 to R130). -/
def fireSlot (n : Nat) (a : ArmedOcc) (s : State) : State :=
  let x := slotAt s n
  let start := if a.late then max s.time.tb.now a.instant else a.instant
  let lines := if x.content.kind = 0 then 0 else (rasterTotals s x.content.kind x.content.unit).1
  let s1 := modSlot n (slotFired (start / secUnits % 2 ^ 48) a.late lines) s
  let s2 := if a.late then countLate n s1 else s1
  applyPending n (slotAction n x.content a start s2)

/-- An armed occurrence waits for those of lower slots with its instant (R129, R135). -/
def firesAfter (s : State) (n : Nat) (a : ArmedOcc) : Bool :=
  s.sched.slots.any (fun e => decide (e.1 < n) && (match e.2.armed with
    | some b => decide (b.instant = a.instant)
    | none => false))

/-- OCCURRENCE_FIRE: an armed occurrence fires, those of one instant in slot order (R129); one whose raster is held is
withdrawn (R119). -/
def occurrenceFire (n : Nat) (s : State) : State :=
  let x := slotAt s n
  match x.armed with
  | none => s
  | some a =>
    if rasterHeld s x.content.kind x.content.unit then withdrawHeld s
    else if firesAfter s n a then s
    else fireSlot n a s

/-- The stop of a running pulse (R123): where a raster position gives it, the instant at which the raster reaches that. -/
def pulseEnd (s : State) (p : PulseRun) : Nat :=
  match p.place with
  | some q => (posInstant s q.2 q.1 (posLine q.2.stop) q.2.stop).getD p.stop
  | none => p.stop

/-- The stop of a running pulse waits for a raster that its synthesizer's gate holds (R96). -/
def pulseHeld (s : State) (p : PulseRun) : Bool :=
  match p.place with
  | some q => rasterHeld s q.2.kind q.2.unit
  | none => false

/-- The running pulse of a slot whose stop comes first. -/
def duePulse (s : State) (n : Nat) : Option PulseRun :=
  (s.sched.pulses.filter (fun p => decide (p.slot = n) && !pulseHeld s p)).foldl (fun o p => match o with
    | some q => if pulseEnd s p < pulseEnd s q then some p else some q
    | none => some p) none

/-- PULSE_STOP (R123, R125): the stop of a slot's running pulse that is due first. -/
def pulseStop (n : Nat) (s : State) : State :=
  match duePulse s n with
  | some p =>
    driveEdge n p.pin .low ((pulseEnd s p : Int) - p.trim * 32768).toNat { s with sched.pulses := s.sched.pulses.erase p }
  | none => s

/-- SNAPSHOT_COMPLETE (R134). -/
def snapshotComplete (s : State) : State :=
  match s.sched.snap.running with
  | some (t, tag) =>
    raise 986 { s with sched.snap := { s.sched.snap with
      running := none, instant := t, tag := tag, seq := (s.sched.snap.seq + 1) % 2 ^ 31, pend := snapArmed s } }
  | none => s

/-- A forward step jumps a slot's instant (R80): it has not fired and its instant lies between the old and the new time. -/
def jumped (old new : Nat) (s : State) (x : Slot) : Bool :=
  x.enabled && decide (x.content.kind ≤ 1) && slotInRaster s x && match occInstant s x with
    | some t => decide (old ≤ t) && decide (t < new)
    | none => false

/-- What a step does to one slot (R80): a jumped one fires late, what was armed for a later instant is armed again before it,
and a slot that repeats goes on from its first position after the step. -/
def stepSlot (old new : Nat) (n : Nat) (s : State) : State :=
  let x := slotAt s n
  let s1 := if jumped old new s x then
      match occInstant s x with
      | some t =>
        let c := x.content
        let st := (if bit c.flags 2 then posInstant s c x.occFrame (posLine c.stop) c.stop else none).getD 0
        fireSlot n ({ frame := x.occFrame, instant := t, stop := st, late := true } : ArmedOcc) s
      | none => s
    else s
  let y := slotAt s1 n
  if 1 < y.content.kind then s1
  else if y.enabled ∧ y.content.kind = 1 ∧ y.content.repeats ≠ 0 ∧ y.fired ≠ 0 then
    let p := nextPlace s1 y
    modSlot n (fun z => { z with armed := none, rearm := true, occFrame := p.1, occLine := p.2 }) s1
  else modSlot n (fun z => { z with armed := none, rearm := z.rearm || z.armed.isSome }) s1

/-- A recorded instant moved by a step. -/
def shiftBy (d : Int) (t : Nat) : Nat := ((t : Int) + d).toNat

/-- What is under way goes on in time as before: its instants are restated on the stepped timebase (R79, R81, R125) (DEDUCED, log entry 175). -/
def restate (d : Int) (s : State) : State :=
  let m := shiftBy d
  let s1 := forUpTo 8 (fun h t => if headEnabled s h then modHd h (fun x => { x with posAt := m x.posAt, nextFs := m x.nextFs }) t else t) s
  let s3 := modCap (fun c => { c with
    boundary := m c.boundary, posAt := m c.posAt, markers := c.markers.map m, lastMarker := m c.lastMarker,
    past := c.past.map (fun p => (p.1, if p.1 = 0 then p.2 else m p.2)) }) s1
  let occ := fun (x : Slot) => if 1 < x.content.kind then
      { x with armed := x.armed.map (fun a => { a with instant := m a.instant, stop := m a.stop }) } else x
  let packet := fun (q : StPacket) => { q with eligible := m q.eligible, deadline := m q.deadline }
  let pin := fun (p : EvoPin) => { p with edges := p.edges.map (fun e => { e with at_ := m e.at_ }) }
  { s3 with
    time.syns := tabMap s3.time.syns (fun y => if y.state = .off then y else { y with seedAt := m y.seedAt, lockAt := m y.lockAt }),
    mag := { s3.mag with
      marks := s3.mag.marks.map (fun k => { k with instant := m k.instant }),
      refMarks := s3.mag.refMarks.map (fun k => { k with instant := m k.instant }),
      chans := tabMap s3.mag.chans (fun x => { x with
        startAt := x.startAt.map m, stopAt := x.stopAt.map m, startDue := x.startDue.map m, stopDue := x.stopDue.map m }) },
    st.ports := tabMap s3.st.ports (fun p => { p with queue := p.queue.map packet, sending := p.sending.map packet }),
    sched := { s3.sched with
      slots := tabMap s3.sched.slots occ, pins := tabMap s3.sched.pins pin, armTimes := s3.sched.armTimes.map m,
      pulses := s3.sched.pulses.map (fun p => { p with stop := m p.stop }),
      snap := { s3.sched.snap with lastInstant := s3.sched.snap.lastInstant.map m } } }

/-- A pulse whose stop on the reference raster a forward step jumps stops at the step (R80, R123). -/
def stepPulse (old new : Nat) (s : State) (p : PulseRun) : PulseRun :=
  match p.place with
  | some q =>
    let e := pulseEnd s p
    if q.2.kind = 1 ∧ old ≤ e ∧ e < new then { p with stop := new, place := none } else p
  | none => p

/-- A step moves the timecode with the reference frame number (R85), but in JAM, where LTC_IN gives it. -/
def stepTc (d : Int) (g : TcGen) : TcGen :=
  { g with ltcFrame := g.ltcFrame + d, mode := if g.mode.mode = 2 then { g.mode with n0 := g.mode.n0 + d } else g.mode }

/-- STEP_APPLY (R78, R79, R80): at a reference frame start the timebase takes its new value; event 35, and 37 for a
TIME_SET, which ends a slew or a step in progress. After an error step STATE is LOCKED (DESIGN CHOICE, log entry 166); the size
is in whole ns, rounded down (DESIGN CHOICE, log entries 166 and 211). -/
def stepApply : State → State := byServo fun s0 =>
  let s := holdRasters s0
  let b := s.time.tb
  let target : Option Nat := match b.timeSetDue with
    | some v => some v
    | none => b.stepDue.map (fun e => ((b.now : Int) + e * (nsUnits : Nat)).toNat)
  match target with
  | none => s0
  | some v =>
    let size : Int := ((v : Int) - b.now) / (nsUnits : Nat)
    let isSet := b.timeSetDue.isSome
    let s1 := modTb (fun t => { t with
      now := v, stepSum := t.stepSum + ((v : Int) - b.now), stepNs := satNs size, stepDue := none, timeSetDue := none, slew := none, declined := false,
      freqPpb := if t.state = .freerun ∨ t.state = .hold then t.freqPpb else slewedPpb t.masterPpb none,
      todValid := t.todValid || isSet || masterGivesTod s, errNs := if isSet then t.errNs else 0, errFull := if isSet then t.errFull else 0,
      heads := (List.range 8).foldl (fun hs h =>
        if headEnabled s h then tabMod hs h (fun x => { x with lag := true, realignDue := true }) else hs) t.heads }) (restate ((v : Int) - b.now) s)
    let n := refFrameAt s.time.ref v
    let s2 : State := { s1 with time.refFrame := n, time.tc := stepTc (n - refFrameAt s.time.ref b.now) s.time.tc,
                                sched.pulses := s1.sched.pulses.map (stepPulse b.now v s) }
    let s3 := raise 35 s2
    let s4 := forUpTo 8 (fun h s => if headEnabled s h then withdrawLater h s else s)
      (disarmed ((s3.sched.slots.map (·.1)).foldl (fun a n => stepSlot b.now v n a) s3))
    if isSet then
      let s5 := finishWait .timeSet .ok 0 [] (finishWait .stepApplied .rejState unstated [] (raise 37 s4))
      if b.state = .stepPending then setTbState .acquire s5 else s5
    else finishWait .stepApplied .ok 0 [] (setTbState .locked s4)

end Sys2Proof.Machine
end

