-- ==== Sys2Proof/Machine/Mailbox.lean ====
section
/-! DEFINITION. The mailboxes and the Onyx pair: how an entry is submitted, taken, checked and served, how step-cut commands
go on, mailbox resets, and checkpoint restarts (R30 to R60). -/
namespace Sys2Proof.Machine
open Sys2Proof

/-! The commands. -/

/-- The opcodes of step-cut commands. -/
def stepCutOpcodes : List Nat := [0x020A, 0x0403, 0x0404, 0x0405, 0x070B, 0x0904, 0x0A02, 0x0A03, 0x0B15, 0x0E01, 0x0F02, 0x0F04]

/-- Every opcode with the LENGTH that its parameter table needs before repeated entries (R34). -/
def opcodeLengths : List (Nat × Nat) :=
  [(0x0101, 0), (0x0606, 16), (0x0201, 4), (0x0202, 12), (0x0203, 4), (0x0204, 12), (0x0205, 16), (0x0206, 24), (0x0207, 12), (0x0208, 16), (0x0209, 16), (0x020A, 4)] ++
  [(0x020B, 4), (0x020C, 16), (0x0301, 32), (0x0302, 2), (0x0303, 4), (0x0304, 4), (0x0401, 0), (0x0402, 8), (0x0403, 24), (0x0404, 16), (0x0405, 4), (0x0410, 24)] ++
  [(0x0411, 4), (0x0412, 28), (0x0413, 2), (0x0501, 16), (0x0502, 4), (0x0601, 28), (0x0602, 4), (0x0603, 4), (0x0604, 8), (0x0605, 8), (0x0610, 4), (0x0611, 20)] ++
  [(0x0612, 12), (0x0613, 4), (0x0614, 24), (0x0615, 8), (0x0616, 8), (0x0617, 4), (0x0618, 16), (0x0619, 16), (0x0620, 16), (0x0621, 4), (0x0622, 8), (0x0623, 8)] ++
  [(0x0624, 0), (0x0630, 4), (0x0701, 12), (0x0702, 4), (0x0703, 8), (0x0704, 52), (0x0705, 8), (0x0706, 8), (0x0707, 12), (0x0708, 8), (0x0709, 12), (0x070A, 4)] ++
  [(0x070B, 8), (0x0801, 32), (0x0901, 12), (0x0902, 16), (0x0903, 12), (0x0904, 4), (0x0A01, 4), (0x0A02, 16), (0x0A03, 4), (0x0A04, 4), (0x0A10, 16), (0x0A11, 72)] ++
  [(0x0A12, 16), (0x0A13, 16), (0x0B01, 24), (0x0B02, 8), (0x0B03, 4), (0x0B04, 16), (0x0B05, 32), (0x0B06, 4), (0x0B07, 4), (0x0B10, 92), (0x0B11, 24), (0x0B12, 4)] ++
  [(0x0B13, 36), (0x0B14, 12), (0x0B15, 16), (0x0B18, 12), (0x0B19, 8), (0x0C01, 16), (0x0D01, 8), (0x0D02, 4), (0x0E01, 16), (0x0E02, 4), (0x0E03, 0), (0x0E04, 16)] ++
  [(0x0E05, 4), (0x0F01, 0), (0x0F02, 16), (0x0F03, 4), (0x0F04, 4)]

/-- An opcode the firmware knows (R5, R34). -/
def knownOpcode (op : Nat) : Bool := opcodeLengths.any (fun e => decide (e.1 = op))

/-- The LENGTH a command needs, with the entries its counts name (R34 order 7). -/
def lengthNeed (c : Cmd) : Nat :=
  ((opcodeLengths.find? (fun e => decide (e.1 = c.opcode))).map (·.2)).getD 0 +
  (match c.opcode with
   | 0x0201 => 12 * c.u8 0
   | 0x020A => 4 * c.u8 1
   | 0x020B => 8 * c.u8 0
   | 0x0605 => 8 * c.u8 6
   | 0x0613 => 4 * c.u16 2
   | 0x0617 => c.u8 1
   | 0x0619 => c.u8 3
   | 0x0622 => 8 * c.u8 0
   | 0x0904 => dcsNeed (min (c.u16 2) 512) (c.params.drop 4)
   | 0x0F04 => if c.u8 0 = 2 then 48 else 0
   | _ => 0)

/-- CFG_COMMIT, with heads whose domains are on powered up at once when it is ready (R316, R324). -/
def cmdCfgCommitPowered (c : Cmd) (s : State) : CmdRes :=
  match cmdCfgCommit c s with
  | .wait (.commit id) s1 => .wait (.commit id) (powerHeads s1)
  | r => r

/-- What a command does in its first slice, by its opcode. -/
def runCmd (c : Cmd) (s : State) : CmdRes :=
  match c.opcode with
  | 0x0101 => cmdSysNop c s
  | 0x0606 => cmdHeadConfigReport c s
  | 0x0201 => cmdTimeRefSelect c s
  | 0x0202 => cmdTimeCorrectionSet c s
  | 0x0203 => cmdTimeStepApprove c s
  | 0x0204 => cmdTimeSet c s
  | 0x0205 => cmdRefRasterSet c s
  | 0x0206 => cmdTcSet c s
  | 0x0207 => cmdHeadSlewSet c s
  | 0x0208 => cmdCaptureRasterSet c s
  | 0x0209 => cmdSynConfig c s
  | 0x020A => cmdSynCacheFill c s
  | 0x020B => cmdCaptureRampLoad c s
  | 0x020C => cmdCaptureRampStart c s
  | 0x0301 => cmdEvtSlotSet c s
  | 0x0302 => cmdEvtSlotGet c s
  | 0x0303 => cmdEvoConfig c s
  | 0x0304 => cmdEviConfig c s
  | 0x0401 => cmdFsInfo c s
  | 0x0402 => cmdFsPolicySet c s
  | 0x0403 => cmdFsFill c s
  | 0x0404 => cmdFsPatrolReport c s
  | 0x0405 => cmdFsChannelRetire c s
  | 0x0410 => cmdLedgerPoolCreate c s
  | 0x0411 => cmdLedgerPoolDelete c s
  | 0x0412 => cmdLedgerOpDma c s
  | 0x0413 => cmdLedgerDescGet c s
  | 0x0501 => cmdIngestStreamSet c s
  | 0x0502 => cmdIngestStreamGet c s
  | 0x0601 => cmdHeadTimingSet c s
  | 0x0602 => cmdHeadPairSet c s
  | 0x0603 => cmdHeadWritebackSet c s
  | 0x0604 => cmdLayerCadenceSet c s
  | 0x0605 => cmdCfgCommitPowered c s
  | 0x0610 => cmdLayerAssign c s
  | 0x0611 => cmdLayerSourceSet c s
  | 0x0612 => cmdLayerGeometrySet c s
  | 0x0613 => cmdLayerPaletteSet c s
  | 0x0614 => cmdLayerEnvelopeSet c s
  | 0x0615 => cmdHeadFetchSet c s
  | 0x0616 => cmdLayerBlendSet c s
  | 0x0617 => cmdHeadZorderSet c s
  | 0x0618 => cmdHeadBackgroundSet c s
  | 0x0619 => cmdContactSheetSet c s
  | 0x0620 => cmdAdmissionReserveSet c s
  | 0x0621 => cmdLayerShedSet c s
  | 0x0622 => cmdShedPlanSet c s
  | 0x0623 => cmdShedPolicySet c s
  | 0x0624 => cmdAdmissionReport c s
  | 0x0630 => cmdCompat5200Set c s
  | 0x0701 => cmdScalerCoefLoad c s
  | 0x0702 => cmdLayerScalerSet c s
  | 0x0703 => cmdLayerDecodeSet c s
  | 0x0704 => cmdMatrixSet c s
  | 0x0705 => cmdLut1dLoad c s
  | 0x0706 => cmdLut1dBuiltin c s
  | 0x0707 => cmdLut1dRead c s
  | 0x0708 => cmdGraphicColourSet c s
  | 0x0709 => cmdHeadOutputSet c s
  | 0x070A => cmdLut3dAssign c s
  | 0x070B => cmdLut3dLoad c s
  | 0x0801 => cmdSigRegionSet c s
  | 0x0901 => cmdSdiLaneSet c s
  | 0x0902 => cmdSdiAncRingSet c s
  | 0x0903 => cmdPanelPortSet c s
  | 0x0904 => cmdPanelDcsSend c s
  | 0x0A01 => cmdMagSlotSet c s
  | 0x0A02 => cmdMagIndexRead c s
  | 0x0A03 => cmdMagFormat c s
  | 0x0A04 => cmdMagEject c s
  | 0x0A10 => cmdRecChannelSet c s
  | 0x0A11 => cmdRecKeySet c s
  | 0x0A12 => cmdRecStartAt c s
  | 0x0A13 => cmdRecStopAt c s
  | 0x0B01 => cmdMacConfig c s
  | 0x0B02 => cmdMacSpareSet c s
  | 0x0B03 => cmdMacTxqSet c s
  | 0x0B04 => cmdMacRuleSet c s
  | 0x0B05 => cmdMacFilterSet c s
  | 0x0B06 => cmdMacStatsGet c s
  | 0x0B07 => cmdMacSleep c s
  | 0x0B10 => cmdStreamSubSet c s
  | 0x0B11 => cmdStreamPortSet c s
  | 0x0B12 => cmdStreamSubCtrl c s
  | 0x0B13 => cmdStreamRxFlowSet c s
  | 0x0B14 => cmdStreamDepackSet c s
  | 0x0B15 => cmdStreamStatsRead c s
  | 0x0B18 => cmdPtpPortSet c s
  | 0x0B19 => cmdRigSet c s
  | 0x0C01 => cmdDmaChannelSet c s
  | 0x0D01 => cmdPowerBudgetSet c s
  | 0x0D02 => cmdPowerStateSet c s
  | 0x0E01 => cmdFaultLogRead c s
  | 0x0E02 => cmdFaultRecover c s
  | 0x0E03 => cmdDiagCoreInfo c s
  | 0x0E04 => cmdDiagFsRaw c s
  | 0x0E05 => cmdAvailClear c s
  | 0x0F01 => cmdFwInfo c s
  | 0x0F02 => cmdFwUpdate c s
  | 0x0F03 => cmdFwConfirm c s
  | 0x0F04 => cmdSecFuseProgram c s
  | _ => .final .rejRange unstated [] s

/-! Entries and rings. -/

/-- `a` − `b` of two free-running counts (R36). -/
def countDiff (a b : Nat) : Nat := (a + 65536 - b % 65536) % 65536

/-- The sixteen words of an entry (R32). -/
def entryWords (op : Nat) (e : CmdEntry) : List Word :=
  let b := leBytes 2 op ++ leBytes 2 e.ticket.toNat ++ leBytes 2 e.flags.toNat ++ leBytes 2 e.length.toNat ++ e.payload.take 56
  (List.range 16).map (fun i => BitVec.ofNat 32 (leNat ((b.drop (4 * i)).take 4)))

/-- Write an entry into ring entry `k`. -/
def writeEntry (k : Nat) (w : List Word) (m : Mailbox) : Mailbox :=
  { m with cmdRing := forUpTo 16 (fun i t => tabSet t (16 * k + i) (w.getD i 0)) m.cmdRing }

/-- The entry that command count `seq` names (R36, R38). -/
def readEntry (n seq : Nat) (m : Mailbox) : Cmd :=
  let b := (List.range 16).flatMap (fun i => leBytes 4 (tabGet m.cmdRing (16 * (seq % 64) + i)).toNat)
  let f := fun o => leNat ((b.drop o).take 2)
  { mb := n, opcode := f 0, ticket := f 2, flags := f 4, length := f 6, seq := seq, params := b.drop 8 }

/-- The command is step-cut. -/
def isStepCut (c : Cmd) : Bool := stepCutOpcodes.contains c.opcode

/-- The commands in flight of mailbox `n`, without those a reset has detached (R49). -/
def mbCmds (s : State) (n : Nat) : List Cmd := s.ctl.inflight.filter (fun c => decide (c.mb = n) && !c.detached)

/-- The response entries that a command in flight still reserves (R44). -/
def reserved (c : Cmd) : Nat :=
  match c.phase with
  | .fetching => if isStepCut c then 2 else 1
  | _ => 1

/-- The response entries of mailbox `n` that are free beyond those reserved (R44). -/
def freeEntries (s : State) (n : Nat) : Nat :=
  64 - (countDiff (mbAt s n).rspTail (mbAt s n).rspHead + ((mbCmds s n).map reserved).sum)

/-- A command in flight holds its mailbox (R43). -/
def holdsMailbox (c : Cmd) : Bool :=
  match c.phase with
  | .fetching => true
  | _ => !isStepCut c

/-- `MB_STATUS.STEPCUT_OPEN` (R43). -/
def stepCutOpen (s : State) (n : Nat) : Nat := ((mbCmds s n).filter (fun c => isStepCut c && decide (c.phase ≠ .fetching))).length

/-- The firmware serves mailbox `n`: the pair runs and is powered, and the mailbox is enabled and ready. -/
def serving (s : State) (n : Nat) : Bool :=
  firmwareRunning s && domOn s 1 && (mbAt s n).enable && decide ((mbAt s n).state = .ready)

/-- A visible entry that R43 lets the firmware take. -/
def entryInTurn (s : State) (n : Nat) : Bool :=
  let m := mbAt s n
  let e := readEntry n m.cmdHead m
  let l := mbCmds s n
  serving s n && decide (m.cmdHead ≠ m.cmdTail) && !l.any holdsMailbox && !(bit e.flags 1 && !l.isEmpty) &&
    !(isStepCut e && decide (4 ≤ stepCutOpen s n))

/-- The response entries that the next entry of mailbox `n` needs (R44). -/
def spaceNeed (s : State) (n : Nat) : Nat := if isStepCut (readEntry n (mbAt s n).cmdHead (mbAt s n)) then 2 else 1

/-- The next entry of mailbox `n` can be taken (R43, R44). -/
def entryReady (s : State) (n : Nat) : Bool := entryInTurn s n && decide (spaceNeed s n ≤ freeEntries s n)

/-- `MB_STATUS.HELD` (R44). -/
def mbHeld (s : State) (n : Nat) : Bool := entryInTurn s n && decide (freeEntries s n < spaceNeed s n)

/-! Taking. -/

/-- The end of a command's first slice (R42): its final status, a wait, or ACCEPTED. -/
def settle (c : Cmd) (r : CmdRes) : State :=
  match r with
  | .final st d b s => postFinal c st d b s
  | .wait w s => addCmd { c with phase := .waiting w } s
  | .accept j fin s =>
    let s1 := if c.detached then s else postResp c.mb (respOf c .accepted false 0 0 []) s
    let c1 : Cmd := { c with restarted := false, lastRsp := runTime s }
    match fin with
    | some (st, d, b) => postFinal c1 st d b s1
    | none => addCmd { c1 with phase := .stepping j } s1

/-- The device runs without its frame store and the opcode is outside the ranges still served (R562). -/
def reducedBars (s : State) (op : Nat) : Bool :=
  decide (s.boot.stage = 6) && !(decide (op / 256 = 1) || decide (op / 256 = 14) || decide (op / 256 = 15))

/-- What a command answers while the device runs without its frame store (R562): the checks of its parameters, of locked
settings and of ownership stand before that of the device's state (R602) (DESIGN CHOICE, log entry 156). -/
def reducedAnswer (s : State) (r : CmdRes) : CmdRes :=
  match r with
  | .final .rejRange d b _ => .final .rejRange d b s
  | .final .rejLocked d b _ => .final .rejLocked d b s
  | .final .rejOwner d b _ => .final .rejOwner d b s
  | _ => .final .rejState 0x8000F000 [] s

/-- A command whose payload is in hand (R34 order 7, R602). -/
def runPayload (c : Cmd) (s : State) : State :=
  settle c (checks s [tooShort c (lengthNeed c)] (if reducedBars s c.opcode then reducedAnswer s (runCmd c s) else runCmd c s))

/-- The checks of an entry before its payload is fetched (R34 orders 1 to 5). -/
def entryChecks (c : Cmd) : List Check :=
  let ext := bit c.flags 0
  [bad (!knownOpcode c.opcode), bad (decide (4 ≤ c.flags)), bad (!ext && decide (56 < c.length)),
   bad (ext && (decide (c.length = 0) || decide (4096 < c.length) || decide (c.u64 0 % 4 ≠ 0))),
   stateIf (decide (c.opcode / 256 = 15) && decide (c.mb ≠ 0)) unstated]

/-- Serve a taken entry: the entry checks, then the fetch of an extended payload or the command itself (R33, R34). -/
def serveEntry (c : Cmd) (s : State) : State :=
  match (entryChecks c).find? (fun x => x.1) with
  | some (_, st, d) => postFinal c st d [] s
  | none => if bit c.flags 0 then addCmd c s else runPayload { c with params := c.params.take c.length } s

/-- ENTRY_TAKE (R38, R43, R44): the head count moves past the entry, and the round robin past the mailbox (DESIGN CHOICE, log entry 5). -/
def takeEntry (n : Nat) (s : State) : State :=
  if entryReady s n then
    let m := mbAt s n
    serveEntry (readEntry n m.cmdHead m)
      (modMb n (fun x => { x with cmdHead := (x.cmdHead + 1) % 65536 }) { s with ctl.rrNext := (n + 1) % 16 })
  else s

/-- MB_DB_WRITE (R37, R50): ignored while the mailbox is disabled or resetting; in STANDBY an accepted doorbell wakes (R509). -/
def doorbell (n t : Nat) (s : State) : State :=
  let m := mbAt s n
  if !m.enable ∨ m.state = .resetting ∨ m.state = .disabled then s
  else if countDiff t m.cmdHead ≤ 64 ∧ countDiff m.cmdTail m.cmdHead ≤ countDiff t m.cmdHead then
    let s1 := modMb n (fun x => { x with cmdTail := t % 65536 }) s
    if s.power.state = .standby then slWake 9 s1 else s1
  else raise (929 + 2 * n) (modMb n (fun x => { x with dbErr := true }) s)

/-- A command of the host: its entry is written, its doorbell rung, and the firmware takes it at once where no earlier entry
waits and R43 and R44 let it (DESIGN CHOICE, log entry 4; DEDUCED, log entry 28). -/
def submit (op : Nat) (e : CmdEntry) (s : State) : State :=
  let n := e.mailbox.val
  let m := mbAt s n
  let s1 := doorbell n ((m.cmdTail + 1) % 65536) (modMb n (writeEntry (m.cmdTail % 64) (entryWords op e)) s)
  if m.cmdHead = m.cmdTail then outsideSafelight (takeEntry n) s1 else s1

/-- The command of mailbox `n` whose extended payload is on its way. -/
def fetching (s : State) (n : Nat) : Option Cmd := s.ctl.inflight.find? (fun c => decide (c.mb = n) && decide (c.phase = .fetching))

/-- A fetch ends with the payload, or without (R34 order 6). -/
def fetchEnd (c : Cmd) (p : Option (List Byte)) (s : State) : State :=
  match p with
  | some b => runPayload { c with params := b } (dropCmd c s)
  | none => postFinal c .timeout 1 [] (dropCmd c s)

/-- EXT_PAYLOAD_FETCHED (R33): a fetch that the host cannot serve stays blocked (R582). -/
def extFetched (n : Nat) (ok : Bool) (s : State) : State :=
  match fetching s n with
  | none => s
  | some c =>
    if !firmwareRunning s ∨ !hostReachable s then s
    else fetchEnd c (if ok then hostRead (c.u64 0) c.length s else none) s

/-! Step-cut commands. -/

/-- What a step of a step-cut command leaves. -/
inductive StepOut where
  | more (j : Job) (s : State)
  | fin (st : Status) (detail : Nat) (result : List Byte) (s : State)

/-- Work done in thousandths, 0 to 999 (R35). -/
def jobProgress (c : Cmd) (j : Job) (s : State) : Nat :=
  let f := fun (d t : Nat) => if t = 0 then 0 else min 999 (d * 1000 / t)
  match j with
  | .cacheFill _ ts d => f d ts.length
  | .fsFill _ n _ d => f d n
  | .patrolReport _ n d => f (16 * d) n
  | .retire _ _ t => f s.fs.migrateNext t
  | .lut3d _ _ _ _ t d => f d t
  | .dcs _ n d => f d n
  | .magIndex _ _ n _ d => f d n
  | .magFormat _ k => min 999 k
  | .statsRead _ _ _ n _ d => f d n
  | .faultRead _ n d => f (16 * d) n
  | .fwUpdate _ img _ d => f d (fwUpdateTotal img (bit (c.u8 1) 0))
  | .fuse _ w d => f d w.length

/-- One further step of a job (R42). Retirement and formatting go on in hardware and in the magazine. A LUT load whose unit HOLDUP has
released ends there (DESIGN CHOICE, log entry 232). -/
def runStep (c : Cmd) (j : Job) (s : State) : StepOut :=
  match j with
  | .cacheFill k ts d =>
    let s1 := cacheSearch k (ts.getD d 0) s
    if ts.length ≤ d + 1 then .fin .ok 0 [] s1 else .more (.cacheFill k ts (d + 1)) s1
  | .fsFill a n p d =>
    let r := stepFsFill a n p d s
    if n ≤ r.1 then .fin .ok 0 [] r.2 else .more (.fsFill a n p r.1) r.2
  | .lut3d u k b off t d =>
    if (lutAt s u).loading ≠ some k then .fin .rejState unstated [] (ledgerRelease b (fwToken s) s).2 else
    let r := stepLut3d u k b off t d s
    match lut3dEnd t r with
    | some (st, dt, res) => .fin st dt res r.2.2
    | none => .more (.lut3d u k b off t r.1) r.2.2
  | .dcs p n d =>
    if (panelAt s p).state = .off then .fin .rejState unstated [] s
    else if n ≤ d then (if dcsRested s p then .fin .ok 0 [] s else .more j s)
    else match dcsStep p n d c.params s with
      | none => .more j s
      | some s1 => if n ≤ d + 1 ∧ dcsRested s1 p then .fin .ok 0 [] s1 else .more (.dcs p n (d + 1)) s1
  | .statsRead isFlow shadow first n a d =>
    match stepStats isFlow shadow first n a d s with
    | none => .fin .timeout unstated [] s
    | some (d1, s1) => if n ≤ d1 then .fin .ok 0 [] s1 else .more (.statsRead isFlow shadow first n a d1) s1
  | .fwUpdate k img ph d =>
    match stepFwUpdate k img d s with
    | (s1, some code) => .fin .rejRange code [] s1
    | (s1, none) => if fwUpdateTotal img (bit (c.u8 1) 0) ≤ d + 1 then .fin .ok 0 [] s1 else .more (.fwUpdate k img ph (d + 1)) s1
  | .fuse k w d =>
    if w.length ≤ d + 1 then .fin .ok 0 [] (cmdSecFuseProgram.fuseBlown k w s) else .more (.fuse k w (d + 1)) s
  | .retire _ _ _ => .more j s
  | .magFormat _ _ => .more j s
  | .patrolReport _ _ _ => .fin .ok 0 [] s
  | .magIndex _ _ _ _ _ => .fin .ok 0 [] s
  | .faultRead _ _ _ => .fin .ok 0 [] s

/-- PROGRESS after a step (R45): 1 ms after the last response, where an entry is free beyond those reserved. -/
def postProgress (c : Cmd) (j : Job) (s : State) : State :=
  if !c.detached ∧ c.lastRsp + 1000000 * nsUnits ≤ runTime s ∧ 1 ≤ freeEntries s c.mb then
    postResp c.mb (respOf c .progress false 0 (jobProgress c j s) [])
      (modCmd c (fun x => { x with restarted := false, lastRsp := runTime s }) s)
  else s

/-- STEP_CUT_STEP (R42): a slice runs the next step of the step-cut command of the mailbox that stepped longest ago (DEDUCED, log entry 31). -/
def stepCutStep (n : Nat) (s : State) : State :=
  if !firmwareRunning s ∨ !domOn s 1 then s else
  match s.ctl.inflight.findSome? (fun c => match c.phase with
    | .stepping j => if c.mb = n then some (c, j) else none
    | _ => none) with
  | none => s
  | some (c, j) =>
    let s0 : State := { s with ctl.rrNext := (n + 1) % 16 }
    match runStep c j s0 with
    | .fin st d b s1 => postFinal c st d b (dropCmd c s1)
    | .more j1 s1 => postProgress c j1 { s1 with ctl.inflight := (dropCmd c s1).ctl.inflight ++ [{ c with phase := .stepping j1 }] }

/-! The mailbox registers. -/

/-- MB_RSP_HEAD_WRITE (R39) (DESIGN CHOICE, log entry 153). -/
def rspHeadWrite (n v : Nat) (s : State) : State :=
  let m := mbAt s n
  if countDiff v m.rspHead ≤ countDiff m.rspTail m.rspHead then modMb n (fun x => { x with rspHead := v % 65536 }) s
  else raise (929 + 2 * n) (modMb n (fun x => { x with rspErr := true }) s)

/-- MAILBOX_RESET (R49): untaken entries are discarded, taken commands detached, and the DMA channels of the mailbox reset (DEDUCED, log entry 34; DESIGN CHOICE, log entry 152). -/
def mailboxReset (n : Nat) (s : State) : State :=
  let m := mbAt s n
  if m.state = .resetting ∨ m.state = .down then s
  else dmaMailboxReset n (modMb n (fun x => { x with state := .resetting, cmdHead := x.cmdTail })
    { s with ctl.inflight := s.ctl.inflight.map (fun c => if c.mb = n then { c with detached := true } else c) })

/-- MAILBOX_RESET_COMPLETE (R49): a new token, counts of zero, the STATE that ENABLE gives, and the event. -/
def mailboxResetDone (n : Nat) (s : State) : State :=
  if firmwareRunning s ∧ (mbAt s n).state = .resetting then
    raise (929 + 2 * n) (modMb n (fun x => { x with
      state := if x.enable then .ready else .disabled, cmdTail := 0, cmdHead := 0, rspTail := 0, rspHead := 0 }) (resetAgent clsMailbox n s))
  else s

/-- A write of `MB_CTRL.ENABLE`. -/
def mailboxEnable (n : Nat) (on : Bool) (s : State) : State :=
  modMb n (fun x => { x with enable := on, state := match x.state with
    | .disabled | .ready => if on then .ready else .disabled
    | t => t }) s

/-- A write of `MB_STATUS`: a 1 clears DB_ERR, RSP_ERR or RESTARTED. -/
def mbStatusWrite (n : Nat) (v : Word) (s : State) : State :=
  modMb n (fun x => { x with dbErr := x.dbErr && !v.getLsbD 8, rspErr := x.rspErr && !v.getLsbD 9, restarted := x.restarted && !v.getLsbD 10 }) s

/-! The Onyx pair. -/

/-- The control path fails (R56): the pair is held in reset and every mailbox goes to STATE 3. -/
def controlFail (s : State) : State :=
  raise 7 (logFault 6 255 0 (forUpTo 16 (fun n => modMb n (fun m => { m with state := .down })) { s with ctl.pair := .held }))

/-- The event unit takes an in-service number back into `EVC_PEND` (R500). -/
def serviceReturned (s : State) : State :=
  match s.ev.inService with
  | none => s
  | some k => modEv (fun e => { e with inService := none, evcPend := setEventBit k e.evcPend }) s

/-- A mismatch stops the pair and restarts it from ROM; a third within 1 s of the first holds it (R51, R56, R500). `counts` says
that the comparator found it: only such a mismatch is counted (DEDUCED, log entry 235). -/
def pairRestart (counts : Bool) (s : State) : State :=
  let now := runTime s
  let l := s.ctl.mismatchTimes.filter (fun t => decide (now ≤ t + secUnits)) ++ [now]
  let s1 : State := { s with ctl.mismatchTimes := l, ctl.mismatches := (s.ctl.mismatches + b2n counts) % 2 ^ 32 }
  let s2 := serviceReturned s1
  match s.ctl.pair with
  | .held => s
  | .boot => s1
  | .running | .restarting => if 3 ≤ l.length then controlFail s2 else { s2 with ctl.pair := .restarting }

/-- LOCKSTEP_MISMATCH (R51) (DESIGN CHOICE, log entries 6 and 33). -/
def lockstepMismatch (s : State) : State := if domOn s 1 then pairRestart true s else s

/-- RUN_WATCHDOG_EXPIRY (R560): as a lockstep mismatch, once READY is set. -/
def runWatchdog (s : State) : State := if s.boot.ready ∧ firmwareRunning s ∧ domOn s 1 then pairRestart false s else s

/-- CONTROL_FAILURE (R56): service has not resumed in time. -/
def controlFailure (s : State) : State := if s.ctl.pair = .restarting then controlFail s else s

/-- An uncorrectable error in tightly coupled memory (R538): a mismatch, which also spoils `copies` of the two checkpoint copies (DEDUCED, log entry 236). -/
def tcmError (copies : Nat) (s : State) : State :=
  let s1 : State := { s with ctl.badCheckpoints := (s.ctl.badCheckpoints + min 2 copies) % 2 ^ 32 }
  let s2 := if domOn s1 1 then pairRestart false s1 else s1
  if s2.ctl.pair = .restarting ∧ 2 ≤ copies then controlFail s2 else s2

/-- Post what ended during the restart (R52, R53). -/
def postEnded (c : Cmd) (s : State) : State :=
  match c.phase with
  | .ended st d b => postFinal c st d b (dropCmd c s)
  | _ => s

/-- SERVICE_RESUME (R51 to R54): the commands taken and not final are resumed, their next response says so, and what ended
meanwhile is posted (DEDUCED, log entry 7). -/
def serviceResume (s : State) : State :=
  if s.ctl.pair = .restarting then
    let l := s.ctl.inflight.map (fun c => { c with restarted := true })
    let s1 : State := { s with ctl.inflight := l, ctl.pair := .running, ctl.restarts := (s.ctl.restarts + 1) % 2 ^ 32 }
    let s2 := forEach (l.filter (fun c => !c.detached)) (fun c => modMb c.mb (fun m => { m with restarted := true })) s1
    forEach l postEnded (raise 6 (logFault 5 255 0 s2))
  else s

/-- What waited for the firmware goes on once service has resumed (R55): messages of magazines (R422), requests for power, and the
loss of a sensor-cadence master to a ramp (R68). -/
def serviceResumed (s : State) : State := byServo rampUnqualifies (waitingRequests (kmpResume (serviceResume s)))

end Sys2Proof.Machine
end

