-- ==== Sys2Proof/Machine/ExecCommand.lean ====
section
/-! DEFINITION. The meanings of the command rows 0x0101 to 0x0F04: the host submits the entry, and the firmware serves it (R32 to R48). -/
namespace Sys2Proof.Machine
open Sys2Proof

/-- SYS_NOP (R597). -/
def execSysNop (entry : CmdEntry) (s : State) : Host.Outcome State Fault Refusal := act (submit 0x0101 entry) s

/-- HEAD_CONFIG_REPORT (R604). -/
def execHeadConfigReport (entry : CmdEntry) (s : State) : Host.Outcome State Fault Refusal := act (submit 0x0606 entry) s

/-- TIME_REF_SELECT (R69). -/
def execTimeRefSelect (entry : CmdEntry) (s : State) : Host.Outcome State Fault Refusal := act (submit 0x0201 entry) s

/-- TIME_CORRECTION_SET (R74). -/
def execTimeCorrectionSet (entry : CmdEntry) (s : State) : Host.Outcome State Fault Refusal := act (submit 0x0202 entry) s

/-- TIME_STEP_APPROVE (R75). -/
def execTimeStepApprove (entry : CmdEntry) (s : State) : Host.Outcome State Fault Refusal := act (submit 0x0203 entry) s

/-- TIME_SET (R78). -/
def execTimeSet (entry : CmdEntry) (s : State) : Host.Outcome State Fault Refusal := act (submit 0x0204 entry) s

/-- REF_RASTER_SET (R82). -/
def execRefRasterSet (entry : CmdEntry) (s : State) : Host.Outcome State Fault Refusal := act (submit 0x0205 entry) s

/-- TC_SET (R85). -/
def execTcSet (entry : CmdEntry) (s : State) : Host.Outcome State Fault Refusal := act (submit 0x0206 entry) s

/-- HEAD_SLEW_SET (R77). -/
def execHeadSlewSet (entry : CmdEntry) (s : State) : Host.Outcome State Fault Refusal := act (submit 0x0207 entry) s

/-- CAPTURE_RASTER_SET (R84). -/
def execCaptureRasterSet (entry : CmdEntry) (s : State) : Host.Outcome State Fault Refusal := act (submit 0x0208 entry) s

/-- SYN_CONFIG (R104). -/
def execSynConfig (entry : CmdEntry) (s : State) : Host.Outcome State Fault Refusal := act (submit 0x0209 entry) s

/-- SYN_CACHE_FILL (R106). -/
def execSynCacheFill (entry : CmdEntry) (s : State) : Host.Outcome State Fault Refusal := act (submit 0x020A entry) s

/-- CAPTURE_RAMP_LOAD (R108). -/
def execCaptureRampLoad (entry : CmdEntry) (s : State) : Host.Outcome State Fault Refusal := act (submit 0x020B entry) s

/-- CAPTURE_RAMP_START (R109). -/
def execCaptureRampStart (entry : CmdEntry) (s : State) : Host.Outcome State Fault Refusal := act (submit 0x020C entry) s

/-- EVT_SLOT_SET (R130). -/
def execEvtSlotSet (entry : CmdEntry) (s : State) : Host.Outcome State Fault Refusal := act (submit 0x0301 entry) s

/-- EVT_SLOT_GET (R115). -/
def execEvtSlotGet (entry : CmdEntry) (s : State) : Host.Outcome State Fault Refusal := act (submit 0x0302 entry) s

/-- EVO_CONFIG (R126). -/
def execEvoConfig (entry : CmdEntry) (s : State) : Host.Outcome State Fault Refusal := act (submit 0x0303 entry) s

/-- EVI_CONFIG (R493). -/
def execEviConfig (entry : CmdEntry) (s : State) : Host.Outcome State Fault Refusal := act (submit 0x0304 entry) s

/-- FS_INFO (R137). -/
def execFsInfo (entry : CmdEntry) (s : State) : Host.Outcome State Fault Refusal := act (submit 0x0401 entry) s

/-- FS_POLICY_SET (R156). -/
def execFsPolicySet (entry : CmdEntry) (s : State) : Host.Outcome State Fault Refusal := act (submit 0x0402 entry) s

/-- FS_FILL (R148). -/
def execFsFill (entry : CmdEntry) (s : State) : Host.Outcome State Fault Refusal := act (submit 0x0403 entry) s

/-- FS_PATROL_REPORT (R147). -/
def execFsPatrolReport (entry : CmdEntry) (s : State) : Host.Outcome State Fault Refusal := act (submit 0x0404 entry) s

/-- FS_CHANNEL_RETIRE (R163). -/
def execFsChannelRetire (entry : CmdEntry) (s : State) : Host.Outcome State Fault Refusal := act (submit 0x0405 entry) s

/-- LEDGER_POOL_CREATE (R170). -/
def execLedgerPoolCreate (entry : CmdEntry) (s : State) : Host.Outcome State Fault Refusal := act (submit 0x0410 entry) s

/-- LEDGER_POOL_DELETE (R170). -/
def execLedgerPoolDelete (entry : CmdEntry) (s : State) : Host.Outcome State Fault Refusal := act (submit 0x0411 entry) s

/-- LEDGER_OP (R168). -/
def execLedgerOp (entry : CmdEntry) (s : State) : Host.Outcome State Fault Refusal := act (submit 0x0412 entry) s

/-- LEDGER_DESC_GET (R179). -/
def execLedgerDescGet (entry : CmdEntry) (s : State) : Host.Outcome State Fault Refusal := act (submit 0x0413 entry) s

/-- INGEST_STREAM_SET (R230). -/
def execIngestStreamSet (entry : CmdEntry) (s : State) : Host.Outcome State Fault Refusal := act (submit 0x0501 entry) s

/-- INGEST_STREAM_GET (R213). -/
def execIngestStreamGet (entry : CmdEntry) (s : State) : Host.Outcome State Fault Refusal := act (submit 0x0502 entry) s

/-- HEAD_TIMING_SET (R310). -/
def execHeadTimingSet (entry : CmdEntry) (s : State) : Host.Outcome State Fault Refusal := act (submit 0x0601 entry) s

/-- HEAD_PAIR_SET (R318). -/
def execHeadPairSet (entry : CmdEntry) (s : State) : Host.Outcome State Fault Refusal := act (submit 0x0602 entry) s

/-- HEAD_WRITEBACK_SET (R331). -/
def execHeadWritebackSet (entry : CmdEntry) (s : State) : Host.Outcome State Fault Refusal := act (submit 0x0603 entry) s

/-- LAYER_CADENCE_SET (R319). -/
def execLayerCadenceSet (entry : CmdEntry) (s : State) : Host.Outcome State Fault Refusal := act (submit 0x0604 entry) s

/-- CFG_COMMIT (R324). -/
def execCfgCommit (entry : CmdEntry) (s : State) : Host.Outcome State Fault Refusal := act (submit 0x0605 entry) s

/-- LAYER_ASSIGN (R232). -/
def execLayerAssign (entry : CmdEntry) (s : State) : Host.Outcome State Fault Refusal := act (submit 0x0610 entry) s

/-- LAYER_SOURCE_SET (R246). -/
def execLayerSourceSet (entry : CmdEntry) (s : State) : Host.Outcome State Fault Refusal := act (submit 0x0611 entry) s

/-- LAYER_GEOMETRY_SET (R249). -/
def execLayerGeometrySet (entry : CmdEntry) (s : State) : Host.Outcome State Fault Refusal := act (submit 0x0612 entry) s

/-- LAYER_PALETTE_SET (R239). -/
def execLayerPaletteSet (entry : CmdEntry) (s : State) : Host.Outcome State Fault Refusal := act (submit 0x0613 entry) s

/-- LAYER_ENVELOPE_SET (R258). -/
def execLayerEnvelopeSet (entry : CmdEntry) (s : State) : Host.Outcome State Fault Refusal := act (submit 0x0614 entry) s

/-- HEAD_FETCH_SET (R253). -/
def execHeadFetchSet (entry : CmdEntry) (s : State) : Host.Outcome State Fault Refusal := act (submit 0x0615 entry) s

/-- LAYER_BLEND_SET (R301). -/
def execLayerBlendSet (entry : CmdEntry) (s : State) : Host.Outcome State Fault Refusal := act (submit 0x0616 entry) s

/-- HEAD_ZORDER_SET (R305). -/
def execHeadZorderSet (entry : CmdEntry) (s : State) : Host.Outcome State Fault Refusal := act (submit 0x0617 entry) s

/-- HEAD_BACKGROUND_SET (R298). -/
def execHeadBackgroundSet (entry : CmdEntry) (s : State) : Host.Outcome State Fault Refusal := act (submit 0x0618 entry) s

/-- CONTACT_SHEET_SET (R308). -/
def execContactSheetSet (entry : CmdEntry) (s : State) : Host.Outcome State Fault Refusal := act (submit 0x0619 entry) s

/-- ADMISSION_RESERVE_SET (R346). -/
def execAdmissionReserveSet (entry : CmdEntry) (s : State) : Host.Outcome State Fault Refusal := act (submit 0x0620 entry) s

/-- LAYER_SHED_SET (R347). -/
def execLayerShedSet (entry : CmdEntry) (s : State) : Host.Outcome State Fault Refusal := act (submit 0x0621 entry) s

/-- SHED_PLAN_SET (R347). -/
def execShedPlanSet (entry : CmdEntry) (s : State) : Host.Outcome State Fault Refusal := act (submit 0x0622 entry) s

/-- SHED_POLICY_SET (R354). -/
def execShedPolicySet (entry : CmdEntry) (s : State) : Host.Outcome State Fault Refusal := act (submit 0x0623 entry) s

/-- ADMISSION_REPORT (R345). -/
def execAdmissionReport (entry : CmdEntry) (s : State) : Host.Outcome State Fault Refusal := act (submit 0x0624 entry) s

/-- COMPAT5200_SET (R569). -/
def execCompat5200Set (entry : CmdEntry) (s : State) : Host.Outcome State Fault Refusal := act (submit 0x0630 entry) s

/-- SCALER_COEF_LOAD (R276). -/
def execScalerCoefLoad (entry : CmdEntry) (s : State) : Host.Outcome State Fault Refusal := act (submit 0x0701 entry) s

/-- LAYER_SCALER_SET (R272). -/
def execLayerScalerSet (entry : CmdEntry) (s : State) : Host.Outcome State Fault Refusal := act (submit 0x0702 entry) s

/-- LAYER_DECODE_SET (R267). -/
def execLayerDecodeSet (entry : CmdEntry) (s : State) : Host.Outcome State Fault Refusal := act (submit 0x0703 entry) s

/-- MATRIX_SET (R281). -/
def execMatrixSet (entry : CmdEntry) (s : State) : Host.Outcome State Fault Refusal := act (submit 0x0704 entry) s

/-- LUT_1D_LOAD (R284). -/
def execLut1dLoad (entry : CmdEntry) (s : State) : Host.Outcome State Fault Refusal := act (submit 0x0705 entry) s

/-- LUT_1D_BUILTIN (R280). -/
def execLut1dBuiltin (entry : CmdEntry) (s : State) : Host.Outcome State Fault Refusal := act (submit 0x0706 entry) s

/-- LUT_1D_READ (R280). -/
def execLut1dRead (entry : CmdEntry) (s : State) : Host.Outcome State Fault Refusal := act (submit 0x0707 entry) s

/-- GRAPHIC_COLOUR_SET (R282). -/
def execGraphicColourSet (entry : CmdEntry) (s : State) : Host.Outcome State Fault Refusal := act (submit 0x0708 entry) s

/-- HEAD_OUTPUT_SET (R291). -/
def execHeadOutputSet (entry : CmdEntry) (s : State) : Host.Outcome State Fault Refusal := act (submit 0x0709 entry) s

/-- LUT_3D_ASSIGN (R285). -/
def execLut3dAssign (entry : CmdEntry) (s : State) : Host.Outcome State Fault Refusal := act (submit 0x070A entry) s

/-- LUT_3D_LOAD (R288). -/
def execLut3dLoad (entry : CmdEntry) (s : State) : Host.Outcome State Fault Refusal := act (submit 0x070B entry) s

/-- SIG_REGION_SET (R358). -/
def execSigRegionSet (entry : CmdEntry) (s : State) : Host.Outcome State Fault Refusal := act (submit 0x0801 entry) s

/-- SDI_LANE_SET (R377). -/
def execSdiLaneSet (entry : CmdEntry) (s : State) : Host.Outcome State Fault Refusal := act (submit 0x0901 entry) s

/-- SDI_ANC_RING_SET (R385). -/
def execSdiAncRingSet (entry : CmdEntry) (s : State) : Host.Outcome State Fault Refusal := act (submit 0x0902 entry) s

/-- PANEL_PORT_SET (R393). -/
def execPanelPortSet (entry : CmdEntry) (s : State) : Host.Outcome State Fault Refusal := act (submit 0x0903 entry) s

/-- PANEL_DCS_SEND (R394). -/
def execPanelDcsSend (entry : CmdEntry) (s : State) : Host.Outcome State Fault Refusal := act (submit 0x0904 entry) s

/-- MAG_SLOT_SET (R397). -/
def execMagSlotSet (entry : CmdEntry) (s : State) : Host.Outcome State Fault Refusal := act (submit 0x0A01 entry) s

/-- MAG_INDEX_READ (R405). -/
def execMagIndexRead (entry : CmdEntry) (s : State) : Host.Outcome State Fault Refusal := act (submit 0x0A02 entry) s

/-- MAG_FORMAT (R404). -/
def execMagFormat (entry : CmdEntry) (s : State) : Host.Outcome State Fault Refusal := act (submit 0x0A03 entry) s

/-- MAG_EJECT (R404). -/
def execMagEject (entry : CmdEntry) (s : State) : Host.Outcome State Fault Refusal := act (submit 0x0A04 entry) s

/-- REC_CHANNEL_SET (R410). -/
def execRecChannelSet (entry : CmdEntry) (s : State) : Host.Outcome State Fault Refusal := act (submit 0x0A10 entry) s

/-- REC_KEY_SET (R413). -/
def execRecKeySet (entry : CmdEntry) (s : State) : Host.Outcome State Fault Refusal := act (submit 0x0A11 entry) s

/-- REC_START_AT (R414). -/
def execRecStartAt (entry : CmdEntry) (s : State) : Host.Outcome State Fault Refusal := act (submit 0x0A12 entry) s

/-- REC_STOP_AT (R415). -/
def execRecStopAt (entry : CmdEntry) (s : State) : Host.Outcome State Fault Refusal := act (submit 0x0A13 entry) s

/-- MAC_CONFIG (R183). -/
def execMacConfig (entry : CmdEntry) (s : State) : Host.Outcome State Fault Refusal := act (submit 0x0B01 entry) s

/-- MAC_SPARE_SET (R193). -/
def execMacSpareSet (entry : CmdEntry) (s : State) : Host.Outcome State Fault Refusal := act (submit 0x0B02 entry) s

/-- MAC_TXQ_SET (R198). -/
def execMacTxqSet (entry : CmdEntry) (s : State) : Host.Outcome State Fault Refusal := act (submit 0x0B03 entry) s

/-- MAC_RULE_SET (R208). -/
def execMacRuleSet (entry : CmdEntry) (s : State) : Host.Outcome State Fault Refusal := act (submit 0x0B04 entry) s

/-- MAC_FILTER_SET (R205). -/
def execMacFilterSet (entry : CmdEntry) (s : State) : Host.Outcome State Fault Refusal := act (submit 0x0B05 entry) s

/-- MAC_STATS_GET (R210). -/
def execMacStatsGet (entry : CmdEntry) (s : State) : Host.Outcome State Fault Refusal := act (submit 0x0B06 entry) s

/-- MAC_SLEEP (R211). -/
def execMacSleep (entry : CmdEntry) (s : State) : Host.Outcome State Fault Refusal := act (submit 0x0B07 entry) s

/-- STREAM_SUB_SET (R433). -/
def execStreamSubSet (entry : CmdEntry) (s : State) : Host.Outcome State Fault Refusal := act (submit 0x0B10 entry) s

/-- STREAM_PORT_SET (R430). -/
def execStreamPortSet (entry : CmdEntry) (s : State) : Host.Outcome State Fault Refusal := act (submit 0x0B11 entry) s

/-- STREAM_SUB_CTRL (R444). -/
def execStreamSubCtrl (entry : CmdEntry) (s : State) : Host.Outcome State Fault Refusal := act (submit 0x0B12 entry) s

/-- STREAM_RX_FLOW_SET (R449). -/
def execStreamRxFlowSet (entry : CmdEntry) (s : State) : Host.Outcome State Fault Refusal := act (submit 0x0B13 entry) s

/-- STREAM_DEPACK_SET (R453). -/
def execStreamDepackSet (entry : CmdEntry) (s : State) : Host.Outcome State Fault Refusal := act (submit 0x0B14 entry) s

/-- STREAM_STATS_READ (R450). -/
def execStreamStatsRead (entry : CmdEntry) (s : State) : Host.Outcome State Fault Refusal := act (submit 0x0B15 entry) s

/-- PTP_PORT_SET (R456). -/
def execPtpPortSet (entry : CmdEntry) (s : State) : Host.Outcome State Fault Refusal := act (submit 0x0B18 entry) s

/-- RIG_SET (R460). -/
def execRigSet (entry : CmdEntry) (s : State) : Host.Outcome State Fault Refusal := act (submit 0x0B19 entry) s

/-- DMA_CHANNEL_SET (R465). -/
def execDmaChannelSet (entry : CmdEntry) (s : State) : Host.Outcome State Fault Refusal := act (submit 0x0C01 entry) s

/-- POWER_BUDGET_SET (R516). -/
def execPowerBudgetSet (entry : CmdEntry) (s : State) : Host.Outcome State Fault Refusal := act (submit 0x0D01 entry) s

/-- POWER_STATE_SET (R508). -/
def execPowerStateSet (entry : CmdEntry) (s : State) : Host.Outcome State Fault Refusal := act (submit 0x0D02 entry) s

/-- FAULT_LOG_READ (R547). -/
def execFaultLogRead (entry : CmdEntry) (s : State) : Host.Outcome State Fault Refusal := act (submit 0x0E01 entry) s

/-- FAULT_RECOVER (R539). -/
def execFaultRecover (entry : CmdEntry) (s : State) : Host.Outcome State Fault Refusal := act (submit 0x0E02 entry) s

/-- DIAG_CORE_INFO (R57). -/
def execDiagCoreInfo (entry : CmdEntry) (s : State) : Host.Outcome State Fault Refusal := act (submit 0x0E03 entry) s

/-- DIAG_FS_RAW (R142). -/
def execDiagFsRaw (entry : CmdEntry) (s : State) : Host.Outcome State Fault Refusal := act (submit 0x0E04 entry) s

/-- AVAIL_CLEAR (R534). -/
def execAvailClear (entry : CmdEntry) (s : State) : Host.Outcome State Fault Refusal := act (submit 0x0E05 entry) s

/-- FW_INFO (R603). -/
def execFwInfo (entry : CmdEntry) (s : State) : Host.Outcome State Fault Refusal := act (submit 0x0F01 entry) s

/-- FW_UPDATE (R568). -/
def execFwUpdate (entry : CmdEntry) (s : State) : Host.Outcome State Fault Refusal := act (submit 0x0F02 entry) s

/-- FW_CONFIRM (R565). -/
def execFwConfirm (entry : CmdEntry) (s : State) : Host.Outcome State Fault Refusal := act (submit 0x0F03 entry) s

/-- SEC_FUSE_PROGRAM (R564). -/
def execSecFuseProgram (entry : CmdEntry) (s : State) : Host.Outcome State Fault Refusal := act (submit 0x0F04 entry) s

end Sys2Proof.Machine
end

