-- ==== Sys2Proof/Machine/HostIf.lean ====
section
/-! DEFINITION. The host interface: register writes by their field types, the BAR2 aperture, MSI-X, the Safelight page and
MGMT_SPI, blocked upstream requests and PCIe hot resets (R14 to R17, R551, R580 to R594). -/
namespace Sys2Proof.Machine
open Sys2Proof

/-- Change the host interface. -/
def modHost (f : HostPart → HostPart) (s : State) : State := { s with host := f s.host }

/-- A write to a register held in domain `d`; ignored without report while the domain is not ON (R585). -/
def heldIn (d : Nat) (f : State → State) (s : State) : State := if domOn s d then f s else s

/-! The aperture. -/

/-- Set a bit of `AP_STATUS`. -/
def apFlag (k : Nat) (s : State) : State := modHost (fun h => { h with apStatus := Nat.lor h.apStatus (2 ^ k) }) s

/-- The frame store is ON. -/
def storeOn (s : State) : Bool := [11, 12, 13, 14].all (domOn s)

/-- The flags of an access to one line (R588): beyond the capacity, or above the fill boundary. -/
def apReach (line : Nat) (s : State) : State :=
  if beyond s (64 * line) then apFlag 0 s else if aboveFill s (64 * line) then apFlag 1 s else s

/-- A BAR2 read of one line (R587, R588) (DEDUCED, log entry 44). -/
def apReadLine (line : Nat) (s : State) : List Byte × State :=
  if !storeOn s then (List.replicate 64 0, apFlag 4 s)
  else
    let r := fsReadLine line (apReach line s)
    (r.1, if r.2.1 then apFlag 3 r.2.2 else r.2.2)

/-- BAR2_READ (R586 to R588): `readBytes` holds what the read returns. -/
def bar2Read (o n : Nat) (s : State) : State :=
  let a := s.host.apBase * 2 ^ 20 + o
  let l0 := a / 64
  let lines := if n = 0 then 0 else (a + n - 1) / 64 - l0 + 1
  let r := (List.range lines).foldl (fun (acc : List Byte × State) i =>
    let x := apReadLine (l0 + i) acc.2
    (acc.1 ++ x.1, x.2)) (([], s) : List Byte × State)
  modHost (fun h => { h with readBytes := (r.1.drop (a % 64)).take n }) r.2

/-- A BAR2 write of the enabled bytes of one line: `b` gives the new byte at each offset of the line, where there is one. -/
def apWriteLine (line : Nat) (b : List (Option Byte)) (s : State) : State :=
  if !b.any Option.isSome then s
  else if !storeOn s then apFlag 4 s
  else if line < 131072 ∧ !beyond s (64 * line) ∧ !aboveFill s (64 * line) then apFlag 2 s
  else
    fsWriteMasked line b (apReach line s)

/-- BAR2_WRITE (R586 to R588): the bytes with their enables, a line at a time. -/
def bar2Write (o : Nat) (d : List Byte) (en : List Bool) (s : State) : State :=
  let a := s.host.apBase * 2 ^ 20 + o
  let l0 := a / 64
  let lines := if d.isEmpty then 0 else (a + d.length - 1) / 64 - l0 + 1
  forUpTo lines (fun i s =>
    apWriteLine (l0 + i) ((List.range 64).map (fun j =>
      let x := 64 * (l0 + i) + j
      if a ≤ x ∧ x < a + d.length ∧ en.getD (x - a) false then some (d.getD (x - a) 0) else none)) s) s

/-- BAR0_BAD_ACCESS (R17): a write has no effect; a read of 2^`size` bytes returns all ones in each of them. -/
def bar0BadAccess (size : Nat) (write : Bool) (s : State) : State := if write then s else setRead (2 ^ (8 * 2 ^ size) - 1) s

/-! The Safelight page. -/

/-- A register of the Safelight page as a path reads it (R526, R591): reserved offsets read 0. -/
def slRead (spi : Bool) (o : Nat) (s : State) : Nat :=
  let l := s.sl
  let latch := if spi then l.latchSpi else l.latchBar
  let cmp := fun k => let c := tabGet l.cmps k; c.thresh + 256 * c.hyst + 4096 * c.filt + 1048576 * b2n c.pol
  let sum := fun (p : Comparator → Bool) => ((List.range 6).map (fun k => if p (tabGet l.cmps k) then 2 ^ k else 0)).sum
  match o with
  | 0x000 => b2n l.timeValid + 2 * b2n l.tcValid + 4 * b2n l.onBattery + 8 * b2n l.slReset + 256 * l.switchovers
  | 0x004 => l.rtcSec / 2 ^ 32
  | 0x008 => latch.1
  | 0x00C => latch.2
  | 0x010 => unsignedOf 8 l.trim
  | 0x014 => l.alarm % 2 ^ 32
  | 0x018 => l.alarm / 2 ^ 32 + 2 ^ 31 * b2n l.alarmEn
  | 0x01C => l.tcFf + 256 * l.tcSs + 65536 * l.tcMm + 16777216 * l.tcHh
  | 0x020 => l.tcBase + 8 * b2n l.tcDrop
  | 0x060 => sum (fun c => c.state) + 256 * sum (fun c => c.changed)
  | 0x064 => l.wakeEn
  | 0x068 => l.wakeCause
  | 0x0F0 => 0x107480
  | 0x0F4 => l.spiCrcErrs + 256 * b2n l.spiAbort
  | _ => if 0x040 ≤ o ∧ o < 0x058 then cmp ((o - 0x040) / 4) else 0

/-- Write the settings of a comparator (R528): no change by itself, though POL inverts the reported state (DEDUCED, log entry 41). -/
def cmpWrite (k : Nat) (v : Nat) (l : Safelight) : Safelight :=
  { l with cmps := tabMod l.cmps k (fun c => { c with
      thresh := bits v 0 8, hyst := bits v 8 4, filt := if bits v 12 8 = 0 then 1 else bits v 12 8, pol := bit v 20,
      state := Bool.xor c.state (Bool.xor c.pol (bit v 20)) }) }

/-- SL_SPI_CLEAR (R592): the CLEAR bit, and the W1C ABORT bit of the same register. -/
def slSpiStatusWrite (v : Nat) (s : State) : State :=
  modSl (fun l => { l with spiAbort := l.spiAbort && !bit v 8, spiCrcErrs := if bit v 9 then 0 else l.spiCrcErrs }) s

/-- A write of a register of the Safelight page under its field types (R14, R594). -/
def slWrite (o v : Nat) (s : State) : State :=
  match o with
  | 0x000 => modSl (fun l => { l with slReset := l.slReset && !bit v 3 }) s
  | 0x010 => modSl (fun l => { l with trim := signedOf 8 (v % 256) }) s
  | 0x014 => modSl (fun l => { l with alarm := l.alarm / 2 ^ 32 * 2 ^ 32 + v % 2 ^ 32 }) s
  | 0x018 => modSl (fun l => { l with alarm := l.alarm % 2 ^ 32 + v % 65536 * 2 ^ 32, alarmEn := bit v 31 }) s
  | 0x060 => modSl (fun l => { l with cmps := (List.range 6).foldl (fun t k =>
      if bit v (8 + k) then tabMod t k (fun c => { c with changed := false }) else t) l.cmps }) s
  | 0x064 => modSl (fun l => { l with wakeEn := v % 512 }) s
  | 0x068 => modSl (fun l => { l with wakeCause := Nat.xor l.wakeCause (Nat.land l.wakeCause v) }) s
  | 0x0F4 => slSpiStatusWrite v s
  | _ => if 0x040 ≤ o ∧ o < 0x058 ∧ o % 4 = 0 then modSl (cmpWrite ((o - 0x040) / 4) v) s else s

/-! MGMT_SPI. -/

/-- One byte of CRC-8 (R591). -/
def crc8Byte (r : BitVec 8) (b : Byte) : BitVec 8 :=
  (List.range 8).foldl (fun a _ => if a.getLsbD 7 then (a <<< 1) ^^^ 0x07#8 else a <<< 1) (r ^^^ b)

/-- CRC-8 of a run of bytes (R591). -/
def crc8 (l : List Byte) : Byte := l.foldl crc8Byte 0

/-- A response of MGMT_SPI (R591): the marker, the status, the data and their CRC. -/
def spiAnswer (st : Nat) (d : List Byte) (s : State) : State :=
  let b := BitVec.ofNat 8 st :: d
  modHost (fun h => { h with spiOut := 0x5A#8 :: b ++ [crc8 b] }) s

/-- The bytes of a request, its CRC included (R591); a command the target does not know is taken as it comes (DESIGN CHOICE, log entry 42). -/
def spiLength (f : List Byte) : Nat :=
  match f.head? with
  | none => 1
  | some c => if c = 0x57 then 8 else if c = 0x52 ∨ c = 0xA5 then 4 else max 2 f.length

/-- The chip select rises before the last bit of the request CRC (R593). -/
def spiAbort (s : State) : State := modSl (fun l => { l with spiAbort := true }) s

/-- A whole MGMT_SPI request (R592): the first row that applies decides. -/
def spiRequest (f : List Byte) (s : State) : State :=
  let n := spiLength f
  let b := f.take n
  let c := b.headD 0
  let a := beNat ((b.drop 1).take 2)
  let zero := if c = 0x52 then List.replicate 4 (0 : Byte) else []
  if b.length < n then spiAbort s
  else if crc8 (b.take (n - 1)) ≠ b.getD (n - 1) 0 then
    spiAnswer 0x01 zero (modSl (fun l => { l with spiCrcErrs := satAdd 255 l.spiCrcErrs 1 }) s)
  else if c = 0xA5 then
    if a ≠ 0 then spiAnswer 0x02 [] s
    else if !s.sl.wakeEn.testBit 7 then spiAnswer 0x04 [] s
    else spiAnswer 0 [] (slWake 7 s)
  else if (c ≠ 0x52 ∧ c ≠ 0x57) ∨ a % 4 ≠ 0 ∨ 0x0FC < a then spiAnswer 0x02 zero s
  else if c = 0x52 then
    let s1 := if a = 0x004 then modSl (fun l => { l with latchSpi := (l.rtcSec % 2 ^ 32, rtcSub s) }) s else s
    spiAnswer 0 (beBytes 4 (slRead true a s1)) s1
  else spiAnswer 0 [] (slWrite a (beNat ((b.drop 3).take 4)) s)

/-- MGMT_SPI_ABORT (R593): a frame whose request did not end. -/
def mgmtSpiAbort (f : List Byte) (s : State) : State := if f.length < spiLength f then spiAbort s else spiRequest f s

/-! Messages and configuration space. -/

/-- Pending messages whose entries are no longer masked are sent, as PCI Express defines (R495, R589). -/
def msixFlush (s : State) : State :=
  if s.host.msixEnable ∧ s.host.busMaster ∧ s.host.linkUp ∧ !s.host.functionMask then
    forUpTo 32 (fun g s => if s.ev.pba.getLsbD g ∧ !(tabGet s.ev.table g).masked then deliver g s else s) s
  else s

/-- A write in BAR4 (R589): the MSI-X table; the Pending Bit Array and every other offset ignore it (PRESUMED, log entry 39). -/
def bar4Write (o : Nat) (v : Word) (s : State) : State :=
  if 512 ≤ o ∨ o % 4 ≠ 0 then s
  else
    let put := fun (f : MsixEntry → MsixEntry) => modEv (fun e => { e with table := tabMod e.table (o / 16) f }) s
    msixFlush (match o % 16 with
      | 0 => put (fun e => { e with addr := e.addr / 2 ^ 32 * 2 ^ 32 + v.toNat / 4 * 4 })
      | 4 => put (fun e => { e with addr := e.addr % 2 ^ 32 + v.toNat * 2 ^ 32 })
      | 8 => put (fun e => { e with data := v.toNat })
      | _ => put (fun e => { e with masked := v.getLsbD 0 }))

/-- A write of configuration space (R580, R582): Command at 0x04, the Power Management control word at 0x44, and the MSI-X
control word at 0xB0 (DESIGN CHOICE, log entry 38). -/
def configWrite (o : Nat) (v : Word) (s : State) : State :=
  match o with
  | 0x04 => pushResume (msixFlush (modHost (fun h => { h with busMaster := v.getLsbD 2 }) s))
  | 0x44 => pushResume (match v.toNat % 4 with
    | 0 => modHost (fun h => { h with d3hot := false }) s
    | 3 => modHost (fun h => { h with d3hot := true }) s
    | _ => s)
  | 0xB0 => msixFlush (modHost (fun h => { h with msixEnable := v.getLsbD 31, functionMask := v.getLsbD 30 }) s)
  | _ => s

/-- The sources that an event word has (R486): the bits of reserved numbers read 0. -/
def eventMask (g : Nat) : Word := BitVec.ofNat 32 (((List.range 32).filter (fun i => !sourceReserved (32 * g + i))).map (2 ^ ·)).sum

/-- A write of a register that only the Onyx pair reaches (R498). -/
def onyxWrite (o : Nat) (v : Word) (s : State) : State :=
  let g := o % 0x80 / 4
  if o % 4 ≠ 0 then s
  else if o = 0x004 then evcComplete (v.toNat % 1024) s
  else if o = 0x008 then modEv (fun e => { e with completeErr := e.completeErr && !v.getLsbD 11 }) s
  else if 0x100 ≤ o ∧ o < 0x180 then modEv (fun e => { e with evcPend := tabMod e.evcPend g (fun w => w &&& ~~~ v) }) s
  else if 0x180 ≤ o ∧ o < 0x200 then modEv (fun e => { e with evcEn := tabSet e.evcEn g (v &&& eventMask g) }) s
  else s

/-! BAR0, by region (R583). -/

/-- Identity, global status and the aperture registers. -/
def globalWrite (o : Nat) (v : Word) (s : State) : State :=
  match o with
  | 0x014 => modHost (fun h => { h with scratch := v.toNat }) s
  | 0x100 => modHost (fun h => { h with apBase := v.toNat % 2 ^ 20 }) s
  | 0x104 => modHost (fun h => { h with apStatus := Nat.xor h.apStatus (Nat.land h.apStatus v.toNat) }) s
  | _ => s

/-- The timebase registers: TB_LATCH, and `TB_STATE.HEAD_STEPPED`. -/
def timebaseWrite (o : Nat) (v : Word) (s : State) : State :=
  match o with
  | 0x4000 => if v.getLsbD 0 then latchTb s else s
  | 0x4014 => forUpTo 8 (fun h s => if v.getLsbD (16 + h) then
      modTb (fun b => { b with heads := tabMod b.heads h (fun x => { x with stepped := false }) }) s else s) s
  | _ => s

/-- The domain of synthesizer `k` (R503). -/
def synDomain (k : Nat) : Nat := if k < 8 then 15 + k else if k < 10 then 4 else 28

/-- The synthesizer registers: `SYN_STATUS.LOST`. -/
def synthWrite (o : Nat) (v : Word) (s : State) : State :=
  let k := (o - 0x4100) / 0x20
  if k < 12 ∧ (o - 0x4100) % 0x20 = 0 ∧ v.getLsbD 24 then heldIn (synDomain k) (modSyn k (fun y => { y with lost := false })) s else s

/-- Boot and security (R558, R566, R567): the push registers lock once an image has started. -/
def bootWrite (o : Nat) (v : Word) (s : State) : State :=
  let push := fun (f : BootPart → BootPart) => if s.boot.started then lockedWrite o 0 v.toNat s else modBoot f s
  match o with
  | 0x4610 => push (fun b => { b with pushAddr := b.pushAddr / 2 ^ 32 * 2 ^ 32 + v.toNat / 4 * 4 })
  | 0x4614 => push (fun b => { b with pushAddr := b.pushAddr % 2 ^ 32 + v.toNat % 65536 * 2 ^ 32 })
  | 0x4618 => push (fun b => { b with pushLen := v.toNat % 2 ^ 20 })
  | 0x461C => bootPushGo v s
  | 0x4624 => secCtrlWrite v s
  | _ => s

/-- The stream engine, the frame store, the MACs and the formatters: their W1C flags, and `SDI_ANC_PROD`. -/
def unitWrite (o : Nat) (v : Word) (s : State) : State :=
  if o = 0x4430 then heldIn 31 (fun s => if v.getLsbD 4 then modRig (fun r => { r with dupSeen := false }) s else s) s
  else if o = 0x5010 then heldIn 2 (fun s => { s with
    fs.ce := s.fs.ce && !v.getLsbD 0, fs.ue := s.fs.ue && !v.getLsbD 1,
    fs.oor := s.fs.oor && !v.getLsbD 2, fs.unfilled := s.fs.unfilled && !v.getLsbD 3 }) s
  else if 0x6000 ≤ o ∧ o < 0x6400 then
    let m := (o - 0x6000) / 0x40
    let clear := fun (w : Nat) => modMac m (fun x => { x with half := Nat.xor x.half (Nat.land x.half w) }) s
    if !(macAt s m).enabled ∨ !domOn s (5 + (macAt s m).cfg.first / 4) then s
    else if o % 0x40 = 0x20 then clear v.toNat
    else if o % 0x40 = 0x24 then clear (v.toNat * 2 ^ 32)
    else s
  else if 0x7400 ≤ o ∧ o < 0x7600 then
    let n := (o - 0x7400) / 0x40
    if o % 0x40 = 0x08 then heldIn 28 (modSdi n (fun x => { x with prod := v.toNat % 256 })) s
    else if o % 0x40 = 0x10 then heldIn 28 (modSdi n (fun x => { x with
      slip := x.slip && !v.getLsbD 0, ancEmpty := x.ancEmpty && !v.getLsbD 1, ancDrop := x.ancDrop && !v.getLsbD 2,
      mismatchSeen := x.mismatchSeen && !v.getLsbD 3 })) s
    else s
  else if 0x7600 ≤ o ∧ o < 0x7700 then
    if o % 0x40 = 0x04 ∧ v.getLsbD 0 then heldIn 29 (modPanel ((o - 0x7600) / 0x40) (fun x => { x with mismatchSeen := false })) s else s
  else if 0x7C00 ≤ o ∧ o < 0x8000 then
    if o % 0x40 = 0 then heldIn 31 (modPort ((o - 0x7C00) / 0x40) (fun x => { x with promoted := Nat.xor x.promoted (Nat.land x.promoted v.toNat) })) s else s
  else s

/-- The signature registers: CLEAR of a region, and SIG_TALLY. -/
def signatureWrite (o : Nat) (v : Word) (s : State) : State :=
  let h := (o - 0xF000) / 0x100
  if o = 0xFA00 then tallyForceWrite v s
  else if h < 8 ∧ o % 0x10 = 0 ∧ v.getLsbD 7 then heldIn (15 + h) (sigClear h (o % 0x100 / 0x10)) s
  else s

/-- The register page and the command ring of a mailbox (R30): the response ring is read only. -/
def mailboxWrite (o : Nat) (v : Word) (s : State) : State :=
  if o < 0x20000 then
    let n := (o - 0x10000) / 0x1000
    match o % 0x1000 with
    | 0x004 => heldIn 1 (fun s => (if v.getLsbD 1 then mailboxReset n else id) (mailboxEnable n (v.getLsbD 0) s)) s
    | 0x018 => heldIn 1 (rspHeadWrite n (v.toNat % 65536)) s
    | 0x01C => heldIn 1 (mbStatusWrite n v) s
    | _ => s
  else
    let n := (o - 0x40000) / 0x2000
    if o % 0x2000 < 0x1000 then heldIn 1 (modMb n (fun m => { m with cmdRing := tabSet m.cmdRing (o % 0x1000 / 4) v })) s else s

/-- The fast-path registers and the renderer fences (R258 to R261, R326). -/
def fastWrite (o : Nat) (v : Word) (s : State) : State :=
  let l := (o - 0x80000) / 0x20
  let w := v.toNat
  let put := fun (f : FastPath → FastPath) => heldIn 27 (modLay l (fun x => { x with fp := f x.fp })) s
  if 0x81000 ≤ o then (if o < 0x81080 then heldIn 1 (fxFenceWrite ((o - 0x81000) / 4) v) s else s)
  else if 64 ≤ l then s
  else match o % 0x20 with
  | 0x00 => put (fun f => { f with staging.dx := signedOf 16 (w % 65536), staging.dy := signedOf 16 (w / 65536) })
  | 0x04 => put (fun f => { f with staging.cx := w % 65536, staging.cy := w / 65536 })
  | 0x08 => put (fun f => { f with staging.cw := w % 65536, staging.ch := w / 65536 })
  | 0x0C => if v.getLsbD 0 then heldIn 27 (fpGo l) s else s
  | 0x10 => put (fun f => { f with rejected := f.rejected && !v.getLsbD 2, discarded := f.discarded && !v.getLsbD 3 })
  | _ => s

/-- The host view of the event unit (R487, R494, R496, R497). -/
def eventWrite (o : Nat) (v : Word) (s : State) : State :=
  let g := o % 0x80 / 4
  if o < 0x100080 then modEv (fun e => { e with pend := tabMod e.pend g (fun w => w &&& ~~~ v) }) s
  else if o < 0x100100 then modEv (fun e => { e with en := tabSet e.en g (v &&& eventMask g) }) s
  else if o = 0x10010C then evtRearm v s
  else if 0x100180 ≤ o ∧ o < 0x100200 then evtHoldoff g (v.toNat % 65536) s
  else s

/-- The registers of the DMA channels (R475 to R482). -/
def dmaRegWrite (o : Nat) (v : Word) (s : State) : State :=
  let n := (o - 0x200000) / 0x40
  if 32 ≤ n then s
  else match o % 0x40 with
  | 0x00 => modDc n (fun x => { x with dbLo := v.toNat / 32 * 32 + v.toNat % 2 }) s
  | 0x04 => dcDoorbell n (v.toNat % 65536) s
  | 0x08 =>
    let s1 := if v.getLsbD 0 then dcResume n s else s
    if v.getLsbD 1 then dcReset n s1 else s1
  | 0x0C => if v.getLsbD 3 then modDc n (fun x => { x with dbErr := false }) s else s
  | 0x2C => dcRingCons n (v.toNat % 65536) s
  | _ => s

/-- A window layer's register (R574). -/
def winLayerWrite (k r : Nat) (v : BitVec 16) (s : State) : State :=
  let w := v.toNat
  match r with
  | 0x0 => modWinLayer k (fun x => { x with ctrl := w % 128 }) s
  | 0x1 => modWinLayer k (fun x => { x with alpha := w % 256 }) s
  | 0x2 => w5BaseLoWrite k v s
  | 0x3 => w5BaseHiWrite k v s
  | 0x4 => modWinLayer k (fun x => { x with stride := w }) s
  | 0x5 => modWinLayer k (fun x => { x with dx := w }) s
  | 0x6 => modWinLayer k (fun x => { x with dy := w }) s
  | 0x7 => modWinLayer k (fun x => { x with cx := w }) s
  | 0x8 => modWinLayer k (fun x => { x with cy := w }) s
  | 0x9 => modWinLayer k (fun x => { x with cw := w }) s
  | 0xA => modWinLayer k (fun x => { x with ch := w }) s
  | _ => s

/-- A write of register `r` of the 5200 window (R572 to R576). While the window is disabled a write is reported, but to W5_ID,
W5_CTRL and W5_COMMIT (DEDUCED, log entry 43). -/
def windowWrite (r : Nat) (v : BitVec 16) (s : State) : State :=
  if 0x90 ≤ r ∨ (0x0B ≤ r ∧ r < 0x10) ∨ (0x10 ≤ r ∧ 0x0A < r % 16) then s
  else if r = 0x02 then w5CommitWrite v s
  else if r ≤ 0x01 then s
  else if !s.pic.win.enabled then winLocked r v.toNat s
  else if r = 0x03 then modWin (fun w => { w with
    late := Nat.xor w.late (Nat.land w.late (bits v.toNat 2 2)), drop := Nat.xor w.drop (Nat.land w.drop (bits v.toNat 4 2)) }) s
  else if r = 0x09 then modWin (fun w => { w with palAddr := Nat.land v.toNat 0x87FF }) s
  else if r = 0x0A then w5PalDataWrite v s
  else if 0x10 ≤ r then winLayerWrite ((r - 0x10) / 16) (r % 16) v s
  else s

/-- A 32-bit write in the 5200 window (R572, R574): the lower register first, and BASE whole. -/
def windowWrite32 (o : Nat) (v : Word) (s : State) : State :=
  let r := (o - 0x300000) / 2
  windowWrite (r + 1) (v.extractLsb' 16 16) (windowWrite r (v.extractLsb' 0 16) s)

/-- A BAR0 write of 32 bits to a register outside the Safelight page, by region (R14 to R16, R583 to R585). -/
def bar0Region (o : Nat) (v : Word) (s : State) : State :=
  if o < 0x200 then globalWrite o v s
  else if o < 0x4000 then s
  else if o < 0x4100 then heldIn 4 (timebaseWrite o v) s
  else if o < 0x4280 then synthWrite o v s
  else if 0x4600 ≤ o ∧ o < 0x4700 then bootWrite o v s
  else if o < 0xA000 then unitWrite o v s
  else if 0xF000 ≤ o ∧ o < 0x10000 then signatureWrite o v s
  else if (0x10000 ≤ o ∧ o < 0x20000) ∨ (0x40000 ≤ o ∧ o < 0x60000) then mailboxWrite o v s
  else if 0x80000 ≤ o ∧ o < 0x82000 then fastWrite o v s
  else if 0x100000 ≤ o ∧ o < 0x100600 then heldIn 2 (eventWrite o v) s
  else if 0x200000 ≤ o ∧ o < 0x200800 then heldIn 2 (dmaRegWrite o v) s
  else if 0x300000 ≤ o ∧ o < 0x300200 then windowWrite32 o v s
  else s

/-- A write of `MB_DB` (R585): in STANDBY it is latched although PD1 is not ON. -/
def doorbellWrite (n : Nat) (v : Word) (s : State) : State :=
  if domOn s 1 ∨ s.power.state = .standby then doorbell n (v.toNat % 65536) s else s

/-- A BAR0 write of 32 bits (R14 to R16, R583 to R585). -/
def bar0Write (o : Nat) (v : Word) (s : State) : State :=
  if o % 4 ≠ 0 ∨ !domOn s 3 then s
  else if 0x380000 ≤ o ∧ o < 0x380100 then slWrite (o - 0x380000) v.toNat s
  else if o = 0x4518 then pwrWake v s
  else if 0x10000 ≤ o ∧ o < 0x20000 ∧ o % 0x1000 = 0x008 then doorbellWrite ((o - 0x10000) / 0x1000) v s
  else outsideSafelight (bar0Region o v) s

/-- REGISTER_WRITE (R14 to R16): a write, by where it arrives. -/
def registerWrite (sp : RegSpace) (o : Nat) (v : Word) (s : State) : State :=
  match sp with
  | .bar0 => bar0Write o v s
  | .window => if o % 2 = 0 ∧ 0x300000 ≤ o ∧ o < 0x300200 then outsideSafelight (heldIn 3 (windowWrite ((o - 0x300000) / 2) (v.extractLsb' 0 16))) s else s
  | .bar4 => outsideSafelight (heldIn 3 (bar4Write o v)) s
  | .config => outsideSafelight (heldIn 3 (configWrite o v)) s
  | .onyx => outsideSafelight (heldIn 2 (onyxWrite o v)) s

/-! Blocked requests, the link, and hot resets. -/

/-- UPSTREAM_REQUEST_TIMEOUT (R582): a request that is still blocked ends as a completion timeout. -/
def upstreamTimeout (q : UpstreamRequest) (s : State) : State :=
  if hostReachable s then s
  else match q with
  | .extPayload n => match fetching s n.val with
    | some c => if firmwareRunning s then fetchEnd c none s else s
    | none => s
  | .dmaDescriptor n => dmaHostError n.val s
  | .ringWrite n => match (dcAt s n.val).inbox with
    | [] => s
    | f :: _ => let s1 := ringHostError n.val s
                if f.isFlow then s1 else raiseMac f.mac 6 (macCount f.mac 23 1 s1)
  | .imagePush => if s.boot.stage = 1 then modBoot (fun b => { b with stage := 7, result := 8 }) s else s

/-- PCIE_LINK_UP (R552): the link is up, and what waited for the host may go on. -/
def pcieLinkUp (s : State) : State := if domOn s 3 then pushResume (modHost (fun h => { h with linkUp := true }) s) else s

/-- Every armed commit that is not ready ends as though its timeout had expired (R327, R551). -/
def dropUnready (s : State) : State :=
  forEach (s.pic.fx.armed.filter (fun a => !a.ready)) (fun a s =>
    forEach a.heads (fun h s => raise (96 + 16 * h + 1) s) (finishWait (.commit a.id) .timeout (unmetMask s a) [] (dropArmed a s))) s

/-- The host view of the event unit at its values of R502; the Onyx view is unchanged (R551) (DEDUCED, log entry 46). -/
def hostViewReset (s : State) : State :=
  modEv (fun e => { e with pend := [], en := [], armed := 0xFFFFFFFF#32, holdoff := [], running := 0, table := [], pba := 0 }) s

/-- Every fast-path pending set is discarded (R551). -/
def fastPathDiscard (s : State) : State :=
  { s with pic.layers := tabMap s.pic.layers (fun x => { x with fp := { x.fp with
      pending := none, latched := none, discarded := x.fp.discarded || x.fp.pending.isSome || x.fp.latched.isSome } }) }

/-- PCIE_HOT_RESET (R551), also for a Link Down and a Function Level Reset. -/
def pcieHotReset (s : State) : State :=
  let s1 := modHost (fun h => { mem := h.mem, readData := h.readData, readBytes := h.readBytes, spiOut := h.spiOut }) s
  let s2 := forUpTo 28 dcReset (forUpTo 16 mailboxReset s1)
  let s3 := dropUnready (fastPathDiscard (hostViewReset s2))
  modBoot (fun b => { b with hotCount := (b.hotCount + 1) % 2 ^ 32 }) s3

end Sys2Proof.Machine
end

