-- ==== Sys2Proof/Machine/ExecDma.lean ====
section
/-! DEFINITION. The meanings of the DMA and event unit rows (R463 to R502). -/
namespace Sys2Proof.Machine
open Sys2Proof

/-- DC_DB_HI_WRITE (R475). -/
def execDcDbHiWrite (chan : Fin 32) (value : BitVec 32) (s : State) : Host.Outcome State Fault Refusal := actOutside (heldIn 2 (dcDoorbell chan.val (value.toNat % 65536))) s

/-- DC_RESUME (R479). -/
def execDcResume (chan : Fin 32) (s : State) : Host.Outcome State Fault Refusal := actOutside (heldIn 2 (dcResume chan.val)) s

/-- DC_RESET (R482). -/
def execDcReset (chan : Fin 32) (s : State) : Host.Outcome State Fault Refusal := actOutside (heldIn 2 (dcReset chan.val)) s

/-- DC_RESET_COMPLETE (R482). -/
def execDcResetComplete (chan : Fin 32) (s : State) : Host.Outcome State Fault Refusal := actOutside (heldIn 2 (dcResetComplete chan.val)) s

/-- DESCRIPTOR_FETCH (R468). -/
def execDescriptorFetch (chan : Fin 32) (s : State) : Host.Outcome State Fault Refusal := actOutside (heldIn 2 (descriptorFetch chan.val)) s

/-- DMA_TURN (R477). -/
def execDmaTurn (chan : Fin 32) (s : State) : Host.Outcome State Fault Refusal := actOutside (heldIn 2 (dmaTurn chan.val)) s

/-- DESCRIPTOR_COMPLETE (R476). -/
def execDescriptorComplete (chan : Fin 32) (s : State) : Host.Outcome State Fault Refusal := actOutside (heldIn 2 (descriptorComplete chan.val)) s

/-- RING_FRAME_WRITE (R481). -/
def execRingFrameWrite (chan : Fin 32) (s : State) : Host.Outcome State Fault Refusal := actOutside (heldIn 2 (ringFrameWrite chan.val (fun m s => raiseMac m 6 (macCount m 23 1 s)))) s

/-- DC_RING_CONS_WRITE (R481). -/
def execDcRingConsWrite (chan : Fin 32) (value : BitVec 32) (s : State) : Host.Outcome State Fault Refusal := actOutside (heldIn 2 (dcRingCons chan.val (value.toNat % 65536))) s

/-- EVENT_RAISE (R487) (DEDUCED, log entry 47). -/
def execEventRaise (source : Fin 1024) (s : State) : Host.Outcome State Fault Refusal := actOutside (fun s => if sourceReserved source.val then s else raise source.val s) s

/-- MSI_X_SEND (R495). -/
def execMsiXSend (group : Fin 32) (s : State) : Host.Outcome State Fault Refusal := actOutside (msixSend group.val) s

/-- EVT_REARM_WRITE (R496). -/
def execEvtRearmWrite (value : BitVec 32) (s : State) : Host.Outcome State Fault Refusal := actOutside (heldIn 2 (evtRearm value)) s

/-- EVT_HOLDOFF_WRITE (R497). -/
def execEvtHoldoffWrite (group : Fin 32) (value : BitVec 32) (s : State) : Host.Outcome State Fault Refusal := actOutside (heldIn 2 (evtHoldoff group.val (value.toNat % 65536))) s

/-- HOLDOFF_EXPIRY (R497). -/
def execHoldoffExpiry (group : Fin 32) (s : State) : Host.Outcome State Fault Refusal := actOutside (holdoffExpiry group.val) s

/-- EVC_CLAIM_READ (R498). -/
def execEvcClaimRead (s : State) : Host.Outcome State Fault Refusal := actOutside (heldIn 2 evcClaim) s

/-- EVC_COMPLETE_WRITE (R498). -/
def execEvcCompleteWrite (number : Fin 1024) (s : State) : Host.Outcome State Fault Refusal := actOutside (heldIn 2 (evcComplete number.val)) s

/-- EVI_EDGE (R491). -/
def execEviEdge (pin : Fin 16) (firstSample : Nat) (s : State) : Host.Outcome State Fault Refusal := actOutside (eviEdge pin.val firstSample) s

end Sys2Proof.Machine
end

