-- ==== Sys2Proof/Machine/ExecLinks.lean ====
section
/-! DEFINITION. The meanings of the lane, MAC and ingest rows (R181 to R231). -/
namespace Sys2Proof.Machine
open Sys2Proof

/-- KML_MARKER_RECEIVED (R187). -/
def execKmlMarkerReceived (lane : Fin 24) (logical group rlf seq : Nat) (state : MarkerState) (s : State) : Host.Outcome State Fault Refusal :=
  actOutside (kmlMarker lane.val logical group rlf seq state.linkState state.fec) s

/-- ADAPT_TIMEOUT (R188). -/
def execAdaptTimeout (mac : Fin 16) (s : State) : Host.Outcome State Fault Refusal := actOutside (adaptTimeout mac.val) s

/-- LANE_FAULT (R190). -/
def execLaneFault (loss : LaneLoss) (s : State) : Host.Outcome State Fault Refusal := actOutside (laneFault loss.lane.val loss.cause.val) s

/-- TX_MARKER_POINT (R191). -/
def execTxMarkerPoint (mac : Fin 16) (s : State) : Host.Outcome State Fault Refusal := actOutside (txMarkerPoint mac.val) s

/-- ETH_LINK_CHANGE (R189). -/
def execEthLinkChange (mac : Fin 16) (pcs : PcsReport) (localFault remoteFault : Bool) (s : State) : Host.Outcome State Fault Refusal :=
  actOutside (ethLinkChange mac.val pcs.lock localFault remoteFault pcs.fec) s

/-- MAC_FRAME_RECEIVED (R203). -/
def execMacFrameReceived (mac : Fin 16) (frame : List Byte) (fcsOk : Bool) (s : State) : Host.Outcome State Fault Refusal := actOutside (fun s => recFeeds mac.val (macFrameReceived mac.val frame fcsOk s)) s

/-- TX_FRAME_START (R196). -/
def execTxFrameStart (mac : Fin 16) (queue : Fin 8) (s : State) : Host.Outcome State Fault Refusal := actOutside (fun s => recFeeds mac.val (txFrameStart mac.val queue.val s)) s

/-- TX_UNDERRUN (R197). -/
def execTxUnderrun (mac : Fin 16) (bytes : Nat) (s : State) : Host.Outcome State Fault Refusal := actOutside (fun s => recFeeds mac.val (txUnderrun mac.val bytes s)) s

/-- TX_FRAME_END (R198). -/
def execTxFrameEnd (mac : Fin 16) (s : State) : Host.Outcome State Fault Refusal := actOutside (fun s => recFeeds mac.val (txFrameEnd mac.val s)) s

/-- PAUSE_TIMER_EXPIRY (R200). -/
def execPauseTimerExpiry (mac : Fin 16) (s : State) : Host.Outcome State Fault Refusal := actOutside (fun s => recFeeds mac.val (pauseTimerExpiry mac.val s)) s

/-- PAUSE_ALARM (R202). -/
def execPauseAlarm (mac : Fin 16) (s : State) : Host.Outcome State Fault Refusal := actOutside (pauseAlarm mac.val) s

/-- WAKE_DETECT (R211). -/
def execWakeDetect (mac : Fin 16) (s : State) : Host.Outcome State Fault Refusal := act (wakeDetect mac.val) s

/-- KPI_FRAME_START (R223). -/
def execKpiFrameStart (mac : Fin 16) (frame : List Byte) (s : State) : Host.Outcome State Fault Refusal := actOutside (kpiFrameStart mac.val frame) s

/-- KPI_LINE_PACKET (R226). -/
def execKpiLinePacket (mac : Fin 16) (frame : List Byte) (s : State) : Host.Outcome State Fault Refusal := actOutside (kpiLinePacket mac.val frame) s

/-- KPI_FRAME_END (R227). -/
def execKpiFrameEnd (mac : Fin 16) (frame : List Byte) (s : State) : Host.Outcome State Fault Refusal := actOutside (kpiFrameEnd mac.val frame) s

/-- KPI_END_TIMEOUT (R227). -/
def execKpiEndTimeout (stream : Fin 4) (s : State) : Host.Outcome State Fault Refusal := actOutside (kpiEndTimeout stream.val) s

/-- KPI_STATUS_SEND (R221). -/
def execKpiStatusSend (stream : Fin 4) (s : State) : Host.Outcome State Fault Refusal := actOutside (kpiStatusSend stream.val) s

/-- LANE_CDR_LOCK (R190). -/
def execLaneCdrLock (lane : Fin 24) (s : State) : Host.Outcome State Fault Refusal := actOutside (laneCdrLock lane.val) s

end Sys2Proof.Machine
end

