-- ==== Sys2Proof/Machine/ExecMagazine.lean ====
section
/-! DEFINITION. The meanings of the magazine and recording rows (R397 to R427). -/
namespace Sys2Proof.Machine
open Sys2Proof

/-- A step that may end the stop-bath sequence; a deferred HRSTn then takes effect (R550). -/
def bathStep (f : State → State) (s : State) : State := hrstnAfter (f s)

/-- KMP_MESSAGE_RECEIVED (R399). -/
def execKmpMessageReceived (slot : Fin 2) (frame : List Byte) (s : State) : Host.Outcome State Fault Refusal := actOutside (bathStep (kmpMessage slot.val frame)) s

/-- KMP_COMMIT_RECEIVED (R412). -/
def execKmpCommitReceived (slot : Fin 2) (frame : List Byte) (s : State) : Host.Outcome State Fault Refusal := actOutside (bathStep (kmpCommit slot.val frame)) s

/-- KMP_RESEND_RECEIVED (R419). -/
def execKmpResendReceived (slot : Fin 2) (frame : List Byte) (s : State) : Host.Outcome State Fault Refusal := actOutside (bathStep (kmpResend slot.val frame)) s

/-- KMP_NOTICE_RECEIVED (R420). -/
def execKmpNoticeReceived (slot : Fin 2) (frame : List Byte) (s : State) : Host.Outcome State Fault Refusal := actOutside (bathStep (kmpNotice slot.val frame)) s

/-- KMP_REQUEST_TIMEOUT (R401). -/
def execKmpRequestTimeout (slot : Fin 2) (s : State) : Host.Outcome State Fault Refusal := actOutside (bathStep (kmpTimeout slot.val)) s

/-- KMP_HELLO_SEND (R402). -/
def execKmpHelloSend (slot : Fin 2) (s : State) : Host.Outcome State Fault Refusal := actOutside (helloSend slot.val) s

/-- KMP_HELLO_TIMEOUT (R402). -/
def execKmpHelloTimeout (slot : Fin 2) (s : State) : Host.Outcome State Fault Refusal := actOutside (bathStep (helloTimeout slot.val)) s

/-- NO_PARTNER_TIMEOUT (R403). -/
def execNoPartnerTimeout (slot : Fin 2) (s : State) : Host.Outcome State Fault Refusal := actOutside (noPartnerTimeout slot.val) s

/-- MAIN_STREAM_PICTURE_BEGIN (R412). -/
def execMainStreamPictureBegin (chan : Fin 2) (s : State) : Host.Outcome State Fault Refusal := actOutside (mainBegin chan.val) s

/-- MAGAZINE_STREAM_PICTURE_BEGIN (R417). -/
def execMagazineStreamPictureBegin (slot : Fin 2) (s : State) : Host.Outcome State Fault Refusal := actOutside (ownBegin slot.val) s

/-- HOLD_MAX_EXPIRY (R417). -/
def execHoldMaxExpiry (chan : Fin 2) (s : State) : Host.Outcome State Fault Refusal := actOutside (holdMaxExpiry chan.val) s

/-- MAGAZINE_RECOUPLE (R418). -/
def execMagazineRecouple (slot : Fin 2) (s : State) : Host.Outcome State Fault Refusal := actOutside (recouple slot.val) s

/-- COPY_CLOSE (R420). -/
def execCopyClose (slot : Fin 2) (s : State) : Host.Outcome State Fault Refusal := actOutside (bathStep (copyCloseStop slot.val)) s

/-- SPAN_CONTINUATION (R421). -/
def execSpanContinuation (chan : Fin 2) (s : State) : Host.Outcome State Fault Refusal := actOutside (spanContinue chan.val) s

/-- STOP_BATH_TRIGGER (R423). -/
def execStopBathTrigger (s : State) : Host.Outcome State Fault Refusal := actOutside (bathStep bathTrigger) s

/-- STOP_BATH_RECORD_DEADLINE (R423). -/
def execStopBathRecordDeadline (s : State) : Host.Outcome State Fault Refusal := actOutside (bathStep bathRecordDeadline) s

/-- STOP_BATH_COMMIT_DEADLINE (R423). -/
def execStopBathCommitDeadline (s : State) : Host.Outcome State Fault Refusal := actOutside (bathStep bathCommitDeadline) s

/-- STOP_BATH_ACK_DEADLINE (R425). -/
def execStopBathAckDeadline (s : State) : Host.Outcome State Fault Refusal := actOutside (bathStep bathAckDeadline) s

/-- FORMAT_STATUS_TIMEOUT (R404). -/
def execFormatStatusTimeout (slot : Fin 2) (s : State) : Host.Outcome State Fault Refusal := actOutside (formatTimeout slot.val) s

end Sys2Proof.Machine
end

