-- ==== Sys2Proof/Machine/ExecMailbox.lean ====
section
/-! DEFINITION. The meanings of the mailbox and Onyx pair rows (R30 to R60). -/
namespace Sys2Proof.Machine
open Sys2Proof

/-- MB_DB_WRITE (R37). -/
def execMbDbWrite (mb : Fin 16) (value : BitVec 32) (s : State) : Host.Outcome State Fault Refusal := act (doorbellWrite mb.val value) s

/-- MB_RSP_HEAD_WRITE (R39). -/
def execMbRspHeadWrite (mb : Fin 16) (value : BitVec 32) (s : State) : Host.Outcome State Fault Refusal := actOutside (heldIn 1 (rspHeadWrite mb.val (value.toNat % 65536))) s

/-- MAILBOX_RESET (R49). -/
def execMailboxReset (mb : Fin 16) (s : State) : Host.Outcome State Fault Refusal := actOutside (heldIn 1 (mailboxReset mb.val)) s

/-- MAILBOX_RESET_COMPLETE (R49). -/
def execMailboxResetComplete (mb : Fin 16) (s : State) : Host.Outcome State Fault Refusal := actOutside (mailboxResetDone mb.val) s

/-- ENTRY_TAKE (R43). -/
def execEntryTake (mb : Fin 16) (s : State) : Host.Outcome State Fault Refusal := actOutside (takeEntry mb.val) s

/-- EXT_PAYLOAD_FETCHED (R33). -/
def execExtPayloadFetched (mb : Fin 16) (ok : Bool) (s : State) : Host.Outcome State Fault Refusal := actOutside (extFetched mb.val ok) s

/-- STEP_CUT_STEP (R42). -/
def execStepCutStep (mb : Fin 16) (s : State) : Host.Outcome State Fault Refusal := actOutside (stepCutStep mb.val) s

/-- LOCKSTEP_MISMATCH (R51). -/
def execLockstepMismatch (s : State) : Host.Outcome State Fault Refusal := actOutside (lockstepMismatch) s

/-- SERVICE_RESUME (R53). -/
def execServiceResume (s : State) : Host.Outcome State Fault Refusal := actOutside serviceResumed s

/-- CONTROL_FAILURE (R56). -/
def execControlFailure (s : State) : Host.Outcome State Fault Refusal := actOutside (controlFailure) s

/-- RUN_WATCHDOG_EXPIRY (R560). -/
def execRunWatchdogExpiry (s : State) : Host.Outcome State Fault Refusal := actOutside (runWatchdog) s

end Sys2Proof.Machine
end

