-- ==== Sys2Proof/Machine/ExecPicture.lean ====
section
/-! DEFINITION. The meanings of the layer, head, Fixer, signature, formatter and 5200 window rows (R232 to R396, R569 to R579). -/
namespace Sys2Proof.Machine
open Sys2Proof

/-- A blanking of head `h`; where it begins, the 5200 window and the paced streams of the head take it (R441, R576). -/
def blanking (h : Nat) (f : State → State) (s : State) : State :=
  let t := f s
  if (hdAt t h).inBlank = (hdAt s h).inBlank ∧ headEnabled t h = headEnabled s h then t
  else forEach (pairOf s h) streamBlanking (winBlanking h t)

/-- HEAD_FRAME_START (R314, R437): where the frame begins, the paced streams of the head take it. -/
def headBegins (h : Nat) (s : State) : State :=
  let t := headFrameStart h s
  if (hdAt t h).inBlank = (hdAt s h).inBlank then t else forEach (pairOf s h) (fun j s => streamFrameStart j (chargeTables j s)) t

/-- FP_GO (R259). -/
def execFpGo (layer : Fin 64) (s : State) : Host.Outcome State Fault Refusal := actOutside (heldIn 27 (fpGo layer.val)) s

/-- FAST_PATH_LATCH (R260). -/
def execFastPathLatch (layer : Fin 64) (s : State) : Host.Outcome State Fault Refusal := actOutside (fastPathLatch layer.val) s

/-- HEAD_ENABLE_START (R316). -/
def execHeadEnableStart (head : Fin 8) (s : State) : Host.Outcome State Fault Refusal := actOutside (blanking head.val (headEnableStart head.val)) s

/-- LATCH_POINT (R328). -/
def execLatchPoint (head : Fin 8) (s : State) : Host.Outcome State Fault Refusal := actOutside (latchPoint head.val) s

/-- HEAD_BLANKING_START (R328). -/
def execHeadBlankingStart (head : Fin 8) (s : State) : Host.Outcome State Fault Refusal := actOutside (blanking head.val (headBlankingStart head.val)) s

/-- HEAD_FRAME_START (R368). -/
def execHeadFrameStart (head : Fin 8) (s : State) : Host.Outcome State Fault Refusal := actOutside (headBegins head.val) s

/-- WRITEBACK_PUBLISH (R333). -/
def execWritebackPublish (head : Fin 8) (s : State) : Host.Outcome State Fault Refusal := actOutside (writebackPublish head.val) s

/-- FETCH_CLASS_CHANGE (R253). -/
def execFetchClassChange (head : Fin 8) (level : Nat) (s : State) : Host.Outcome State Fault Refusal := actOutside (fetchClassChange head.val level) s

/-- RESERVOIR_STARVED (R254). -/
def execReservoirStarved (head : Fin 8) (pixels : Nat) (s : State) : Host.Outcome State Fault Refusal := actOutside (reservoirStarved head.val pixels) s

/-- COMMIT_ARM (R325). -/
def execCommitArm (s : State) : Host.Outcome State Fault Refusal := actOutside (fun s => powerHeads (commitArm s)) s

/-- FX_FENCE_WRITE (R326). -/
def execFxFenceWrite (fence : Fin 32) (value : BitVec 32) (s : State) : Host.Outcome State Fault Refusal := actOutside (heldIn 1 (fun s => powerHeads (fxFenceWrite fence.val value s))) s

/-- COMMIT_TIMEOUT (R327). -/
def execCommitTimeout (s : State) : Host.Outcome State Fault Refusal := actOutside (commitTimeout) s

/-- SIGNATURE_COMPARE (R363). -/
def execSignatureCompare (head : Fin 8) (region : Fin 16) (s : State) : Host.Outcome State Fault Refusal := actOutside (signatureCompare head.val region.val) s

/-- SIG_CLEAR (R365). -/
def execSigClear (head : Fin 8) (region : Fin 16) (s : State) : Host.Outcome State Fault Refusal := actOutside (heldIn (15 + head.val) (sigClear head.val region.val)) s

/-- TALLY_FORCE_WRITE (R367). -/
def execTallyForceWrite (value : BitVec 32) (s : State) : Host.Outcome State Fault Refusal := actOutside (heldIn 3 (tallyForceWrite value)) s

/-- SHED_EVALUATION (R350). -/
def execShedEvaluation (s : State) : Host.Outcome State Fault Refusal := actOutside (shedEvaluation) s

/-- RESTORE_HOLD_EXPIRY (R354). -/
def execRestoreHoldExpiry (s : State) : Host.Outcome State Fault Refusal := actOutside (restoreHoldExpiry) s

/-- SDI_SLIP (R380). -/
def execSdiSlip (lane : Fin 8) (fill : Nat) (s : State) : Host.Outcome State Fault Refusal := actOutside (sdiSlip lane.val fill) s

/-- PANEL_VIDEO_START (R393). -/
def execPanelVideoStart (port : Fin 4) (s : State) : Host.Outcome State Fault Refusal := actOutside (panelVideoStart port.val) s

/-- W5_COMMIT_WRITE (R576). -/
def execW5CommitWrite (value : BitVec 16) (s : State) : Host.Outcome State Fault Refusal := actOutside (heldIn 3 (w5CommitWrite value)) s

/-- W5_COMMIT_ARM (R577). -/
def execW5CommitArm (s : State) : Host.Outcome State Fault Refusal := actOutside (fun s => powerHeads (w5CommitArm s)) s

/-- W5_PAL_DATA_WRITE (R575). -/
def execW5PalDataWrite (value : BitVec 16) (s : State) : Host.Outcome State Fault Refusal := actOutside (heldIn 3 (w5PalDataWrite value)) s

/-- W5_L_BASE_LO_WRITE (R574). -/
def execW5LBaseLoWrite (layer : Fin 8) (value : BitVec 16) (s : State) : Host.Outcome State Fault Refusal := actOutside (heldIn 3 (w5BaseLoWrite layer.val value)) s

/-- W5_L_BASE_HI_WRITE (R574). -/
def execW5LBaseHiWrite (layer : Fin 8) (value : BitVec 16) (s : State) : Host.Outcome State Fault Refusal := actOutside (heldIn 3 (w5BaseHiWrite layer.val value)) s

/-- HEAD_LINE_COMPOSE (R640). -/
def execHeadLineCompose (head : Fin 8) (s : State) : Host.Outcome State Fault Refusal := actOutside (headLineCompose head.val) s

end Sys2Proof.Machine
end

