-- ==== Sys2Proof/Machine/ExecPower.lean ====
section
/-! DEFINITION. The meanings of the power, Safelight, reliability, reset and host interface rows (R503 to R594). -/
namespace Sys2Proof.Machine
open Sys2Proof

/-- POWER_REQUEST (R512). -/
def execPowerRequest (domain : Fin 32) (cost step : Nat) (s : State) : Host.Outcome State Fault Refusal := actOutside (powerRequest domain.val cost step) s

/-- DOMAIN_SWITCH (R505). -/
def execDomainSwitch (s : State) : Host.Outcome State Fault Refusal := actOutside (domainSwitch) s

/-- DOMAIN_LOAD (R543). -/
def execDomainLoad (domain : Fin 32) (s : State) : Host.Outcome State Fault Refusal := actOutside (domainLoad domain.val) s

/-- PWR_WAKE_WRITE (R509). -/
def execPwrWakeWrite (value : BitVec 32) (s : State) : Host.Outcome State Fault Refusal := act (heldIn 3 (pwrWake value)) s

/-- STANDBY_WAKE (R509). -/
def execStandbyWake (s : State) : Host.Outcome State Fault Refusal := actOutside (standbyWake) s

/-- COMPARATOR_CHANGE (R528). -/
def execComparatorChange (comparator : Fin 6) (s : State) : Host.Outcome State Fault Refusal := act (fun s => outsideSafelight wakeReset (comparatorChange comparator.val s)) s

/-- HOLDUP_EXIT (R521). -/
def execHoldupExit (s : State) : Host.Outcome State Fault Refusal := actOutside (holdupExit) s

/-- VSAFE_SWITCHOVER (R523). -/
def execVsafeSwitchover (toBattery : Bool) (s : State) : Host.Outcome State Fault Refusal := act (vsafeSwitchover toBattery) s

/-- SAFELIGHT_RESET (R525). -/
def execSafelightReset (s : State) : Host.Outcome State Fault Refusal := act (safelightReset) s

/-- RTC_SECOND (R526). -/
def execRtcSecond (s : State) : Host.Outcome State Fault Refusal := act (fun s => outsideSafelight wakeReset (rtcSecond s)) s

/-- SAFELIGHT_WAKE (R530). -/
def execSafelightWake (source : Fin 9) (s : State) : Host.Outcome State Fault Refusal := act (fun s => outsideSafelight wakeReset (safelightWake source.val s)) s

/-- RTC_SEC_HI_READ (R526). -/
def execRtcSecHiRead (spi : Bool) (s : State) : Host.Outcome State Fault Refusal := act (rtcSecHiRead spi) s

/-- AVAIL_TICK (R534). -/
def execAvailTick (s : State) : Host.Outcome State Fault Refusal := actOutside (availTick) s

/-- SRAM_ERROR (R538). -/
def execSramError (kind unit detail : Nat) (corrected : Bool) (s : State) : Host.Outcome State Fault Refusal := actOutside (fun s => if kind = 9 ∧ !corrected then tcmError detail s else sramError kind unit detail corrected s) s

/-- PORN_RESET (R549). -/
def execPornReset (strap : Fin 4) (widthNs : Nat) (s : State) : Host.Outcome State Fault Refusal := actOutside (pornReset strap widthNs) s

/-- HRSTN_RESET (R550). -/
def execHrstnReset (strap : Fin 4) (widthNs : Nat) (s : State) : Host.Outcome State Fault Refusal := actOutside (hrstnReset strap widthNs) s

/-- PCIE_HOT_RESET (R551). -/
def execPcieHotReset (s : State) : Host.Outcome State Fault Refusal := actOutside (pcieHotReset) s

/-- BOOT_WATCHDOG_EXPIRY (R559). -/
def execBootWatchdogExpiry (strap : Fin 4) (s : State) : Host.Outcome State Fault Refusal := actOutside (bootWatchdog strap) s

/-- BOOT_PUSH_GO (R558). -/
def execBootPushGo (value : BitVec 32) (s : State) : Host.Outcome State Fault Refusal := actOutside (heldIn 3 (bootPushGo value)) s

/-- FIRMWARE_READY (R561). -/
def execFirmwareReady (s : State) : Host.Outcome State Fault Refusal := act (firmwareReady) s

/-- DEBUG_OFF (R566). -/
def execDebugOff (value : BitVec 32) (s : State) : Host.Outcome State Fault Refusal := actOutside (heldIn 3 (debugOffWrite value)) s

/-- FW_UPDATE_LOCK (R567). -/
def execFwUpdateLock (value : BitVec 32) (s : State) : Host.Outcome State Fault Refusal := actOutside (heldIn 3 (fwUpdateLockWrite value)) s

/-- UPSTREAM_REQUEST_TIMEOUT (R582). -/
def execUpstreamRequestTimeout (request : UpstreamRequest) (s : State) : Host.Outcome State Fault Refusal := actOutside (upstreamTimeout request) s

/-- BAR0_BAD_ACCESS (R17). -/
def execBar0BadAccess (place : BarPlace) (write : Bool) (_value : BitVec 64) (s : State) : Host.Outcome State Fault Refusal := actOutside (bar0BadAccess place.size.val write) s

/-- MGMT_SPI_READ (R592). -/
def execMgmtSpiRead (frame : List Byte) (s : State) : Host.Outcome State Fault Refusal := act (fun s => outsideSafelight wakeReset (spiRequest frame s)) s

/-- MGMT_SPI_WRITE (R592). -/
def execMgmtSpiWrite (frame : List Byte) (s : State) : Host.Outcome State Fault Refusal := act (fun s => outsideSafelight wakeReset (spiRequest frame s)) s

/-- MGMT_SPI_WAKE (R592). -/
def execMgmtSpiWake (frame : List Byte) (s : State) : Host.Outcome State Fault Refusal := act (fun s => outsideSafelight wakeReset (spiRequest frame s)) s

/-- MGMT_SPI_ABORT (R593). -/
def execMgmtSpiAbort (frame : List Byte) (s : State) : Host.Outcome State Fault Refusal := act (fun s => outsideSafelight wakeReset (mgmtSpiAbort frame s)) s

/-- SL_SPI_CLEAR (R592). -/
def execSlSpiClear (value : BitVec 32) (s : State) : Host.Outcome State Fault Refusal := act (heldIn 3 (slSpiStatusWrite value.toNat)) s

/-- REGISTER_WRITE (R14). -/
def execRegisterWrite (space : RegSpace) (offset : Nat) (value : BitVec 32) (s : State) : Host.Outcome State Fault Refusal := act (registerWrite space offset value) s

/-- PCIE_LINK_UP (R552). -/
def execPcieLinkUp (s : State) : Host.Outcome State Fault Refusal := actOutside (pcieLinkUp) s

/-- SAFELIGHT_TC_FRAME (R527). -/
def execSafelightTcFrame (s : State) : Host.Outcome State Fault Refusal := act (safelightTcFrame) s

end Sys2Proof.Machine
end

