-- ==== Sys2Proof/Machine/ExecStore.lean ====
section
/-! DEFINITION. The meanings of the frame store, ledger and aperture rows (R137 to R180, R587). -/
namespace Sys2Proof.Machine
open Sys2Proof

/-- FS_READ_REQUEST (R145). -/
def execFsReadRequest (fsa upset : Nat) (s : State) : Host.Outcome State Fault Refusal := actOutside (fsReadRequest fsa upset) s

/-- FS_WRITE_REQUEST (R146). -/
def execFsWriteRequest (fsa : Nat) (data : List Byte) (s : State) : Host.Outcome State Fault Refusal := actOutside (fsWriteRequest fsa data) s

/-- BE_AGING_PROMOTION (R161). -/
def execBeAgingPromotion (chan : Fin 16) (s : State) : Host.Outcome State Fault Refusal := actOutside (beAging chan.val) s

/-- PATROL_SCRUB_READ (R147). -/
def execPatrolScrubRead (upset : Nat) (s : State) : Host.Outcome State Fault Refusal := actOutside (patrolRead upset) s

/-- STARTUP_FILL_STEP (R148). -/
def execStartupFillStep (s : State) : Host.Outcome State Fault Refusal := actOutside (startupFillStep) s

/-- STARTUP_FILL_DONE (R148). -/
def execStartupFillDone (s : State) : Host.Outcome State Fault Refusal := actOutside (startupFillDone) s

/-- CHANNEL_TRAINING (R151). -/
def execChannelTraining (chan : Fin 16) (ok : Bool) (s : State) : Host.Outcome State Fault Refusal := actOutside (fun s => if domOn s (11 + chan.val / 4) ∧ !(domAt s (11 + chan.val / 4)).loading then channelTraining chan.val ok s else s) s

/-- WCK_OSC_READ (R152). -/
def execWckOscRead (chan : Fin 16) (drift0 drift1 : Int) (s : State) : Host.Outcome State Fault Refusal := actOutside (wckOscRead chan.val drift0 drift1) s

/-- NUDGE_APPLY (R152). -/
def execNudgeApply (chan : Fin 16) (s : State) : Host.Outcome State Fault Refusal := actOutside (nudgeApply chan.val) s

/-- MR4_POLL (R157). -/
def execMr4Poll (codes bands : List Nat) (s : State) : Host.Outcome State Fault Refusal := actOutside (mr4Poll codes bands) s

/-- MIGRATION_GRANULE_COPY (R163). -/
def execMigrationGranuleCopy (s : State) : Host.Outcome State Fault Refusal := actOutside (migrationCopy) s

/-- MIGRATION_COMPLETE (R163). -/
def execMigrationComplete (s : State) : Host.Outcome State Fault Refusal := actOutside (migrationComplete) s

/-- CHANNEL_FAIL (R540). -/
def execChannelFail (chan : Fin 16) (s : State) : Host.Outcome State Fault Refusal := actOutside (channelFail chan.val) s

/-- LEDGER_ACQUIRE (R171). -/
def execLedgerAcquire (cls : Fin 16) (inst : Fin 32) (pool : Fin 64) (s : State) : Host.Outcome State Fault Refusal := actOutside (fun s => (ledgerAcquire pool.val (agentToken s cls.val inst.val) s).2) s

/-- LEDGER_PUBLISH (R168). -/
def execLedgerPublish (cls : Fin 16) (inst : Fin 32) (buf : Fin 4096) (frame capSec capNs : Nat) (s : State) : Host.Outcome State Fault Refusal := actOutside (fun s => (ledgerPublish buf.val (agentToken s cls.val inst.val) frame capSec capNs s).2) s

/-- LEDGER_DISCARD (R168). -/
def execLedgerDiscard (cls : Fin 16) (inst : Fin 32) (buf : Fin 4096) (s : State) : Host.Outcome State Fault Refusal := actOutside (fun s => (ledgerDiscard buf.val (agentToken s cls.val inst.val) s).2) s

/-- LEDGER_REF_TAKE (R173). -/
def execLedgerRefTake (cls : Fin 16) (inst : Fin 32) (buf : Fin 4096) (follow : Bool) (s : State) : Host.Outcome State Fault Refusal := actOutside (fun s => (ledgerTake follow buf.val (agentToken s cls.val inst.val) s).2) s

/-- LEDGER_REF_RELEASE (R174). -/
def execLedgerRefRelease (cls : Fin 16) (inst : Fin 32) (buf : Fin 4096) (s : State) : Host.Outcome State Fault Refusal := actOutside (fun s => (ledgerRelease buf.val (agentToken s cls.val inst.val) s).2) s

/-- AGENT_RESET_RECLAIM (R175). -/
def execAgentResetReclaim (cls : Fin 16) (inst : Fin 32) (s : State) : Host.Outcome State Fault Refusal := actOutside (agentReset cls.val inst.val) s

/-- BAR2_READ (R587). -/
def execBar2Read (offset : Fin 268435456) (length : Nat) (s : State) : Host.Outcome State Fault Refusal := actOutside (heldIn 3 (bar2Read offset.val length)) s

/-- BAR2_WRITE (R587). -/
def execBar2Write (offset : Fin 268435456) (data : List Byte) (enables : List Bool) (s : State) : Host.Outcome State Fault Refusal := actOutside (heldIn 3 (bar2Write offset.val data enables)) s

/-- RANK_POWER_DOWN_ENTRY (R156). -/
def execRankPowerDownEntry (chan : Fin 16) (rank : Fin 2) (s : State) : Host.Outcome State Fault Refusal := actOutside (rankPowerDown chan.val rank.val) s

end Sys2Proof.Machine
end

