-- ==== Sys2Proof/Machine/ExecStream.lean ====
section
/-! DEFINITION. The meanings of the stream, PTP and rig link rows (R428 to R462). -/
namespace Sys2Proof.Machine
open Sys2Proof

/-- PACKET_RELEASE (R438). -/
def execPacketRelease (sub : Fin 2048) (s : State) : Host.Outcome State Fault Refusal := actOutside (packetRelease sub.val) s

/-- UNPACED_SLOT_ELIGIBLE (R446). -/
def execUnpacedSlotEligible (sub : Fin 2048) (s : State) : Host.Outcome State Fault Refusal := actOutside (slotEligible sub.val) s

/-- PORT_SCHEDULE (R447). -/
def execPortSchedule (port : Fin 16) (s : State) : Host.Outcome State Fault Refusal := actOutside (portSchedule port.val) s

/-- PACED_DEADLINE_EXPIRY (R440). -/
def execPacedDeadlineExpiry (port : Fin 16) (sub : Fin 2048) (s : State) : Host.Outcome State Fault Refusal := actOutside (pacedDeadline port.val sub.val) s

/-- MERGE_TIMEOUT (R451). -/
def execMergeTimeout (flow : Fin 512) (s : State) : Host.Outcome State Fault Refusal := actOutside (mergeTimeout flow.val) s

/-- PATH_DOWN_TIMEOUT (R451). -/
def execPathDownTimeout (flow : Fin 512) (pathB : Bool) (s : State) : Host.Outcome State Fault Refusal := actOutside (pathDownTimeout flow.val pathB) s

/-- DEPACK_END_TIMEOUT (R454). -/
def execDepackEndTimeout (depack : Fin 16) (s : State) : Host.Outcome State Fault Refusal := actOutside (depackTimeout depack.val) s

/-- PTP_MESSAGE_RECEIVED (R457). -/
def execPtpMessageReceived (port : Fin 16) (frame : List Byte) (s : State) : Host.Outcome State Fault Refusal := actOutside (ptpReceived port.val frame) s

/-- PTP_MESSAGE_TIMER (R458). -/
def execPtpMessageTimer (port : Fin 16) (s : State) : Host.Outcome State Fault Refusal := actOutside (ptpTimer port.val) s

/-- ANNOUNCE_RECEIPT_TIMEOUT (R462). -/
def execAnnounceReceiptTimeout (port : Fin 16) (s : State) : Host.Outcome State Fault Refusal := actOutside (announceTimeout port.val) s

/-- RIG_FRAME_RECEIVED (R461). -/
def execRigFrameReceived (port : Fin 16) (frame : List Byte) (s : State) : Host.Outcome State Fault Refusal := actOutside (rigReceived port.val frame) s

/-- RIG_CLAIM_TIMER (R460). -/
def execRigClaimTimer (s : State) : Host.Outcome State Fault Refusal := actOutside (rigClaimTimer) s

/-- RIG_LEAD_TIMEOUT (R461). -/
def execRigLeadTimeout (s : State) : Host.Outcome State Fault Refusal := actOutside (rigLeadTimeout) s

/-- RIG_ANNOUNCE_TIMER (R461). -/
def execRigAnnounceTimer (s : State) : Host.Outcome State Fault Refusal := actOutside (rigAnnounceTimer) s

end Sys2Proof.Machine
end

