-- ==== Sys2Proof/Machine/ExecTime.lean ====
section
/-! DEFINITION. The meanings of the timebase, synthesizer and scheduler rows (R61 to R136). -/
namespace Sys2Proof.Machine
open Sys2Proof

/-- A capture raster step; where a frame begins, the record channels take it (R411). -/
def capturing (f : State → State) (s : State) : State :=
  let t := f s
  if t.time.cap.frame = s.time.cap.frame then t else recFrameBegin t

/-- TB_LATCH (R61). -/
def execTbLatch (s : State) : Host.Outcome State Fault Refusal := actOutside (heldIn 4 latchTb) s

/-- REPLICA_CHECK (R63) (DESIGN CHOICE, log entry 205). -/
def execReplicaCheck (domain : Fin 16) (diffNs : Int) (s : State) : Host.Outcome State Fault Refusal := actOutside (replicaCheck domain.val diffNs) s

/-- REF_SIGNAL_VALID (R67). -/
def execRefSignalValid (cand : Fin 4) (s : State) : Host.Outcome State Fault Refusal := actOutside (refSignalValid cand.val) s

/-- REF_SIGNAL_INVALID (R67). -/
def execRefSignalInvalid (cand : Fin 4) (s : State) : Host.Outcome State Fault Refusal := actOutside (refSignalInvalid cand.val) s

/-- REF_QUALIFIED (R67). -/
def execRefQualified (cand : Fin 4) (s : State) : Host.Outcome State Fault Refusal := actOutside (refQualified cand.val) s

/-- REF_LOST (R67). -/
def execRefLost (cand : Fin 4) (s : State) : Host.Outcome State Fault Refusal := actOutside (refLost cand.val) s

/-- REF_LOST_TIMEOUT (R67). -/
def execRefLostTimeout (cand : Fin 4) (s : State) : Host.Outcome State Fault Refusal := actOutside (refLostTimeout cand.val) s

/-- REF_ERROR_MEASURE (R66). -/
def execRefErrorMeasure (cand : Fin 4) (errNs ppb : Int) (s : State) : Host.Outcome State Fault Refusal := actOutside (refErrorMeasure cand.val errNs ppb) s

/-- SLEW_COMPLETE (R74). -/
def execSlewComplete (s : State) : Host.Outcome State Fault Refusal := actOutside (slewComplete) s

/-- STEP_APPLY (R78). -/
def execStepApply (s : State) : Host.Outcome State Fault Refusal := actOutside (stepApply) s

/-- HEAD_REALIGN (R79). -/
def execHeadRealign (head : Fin 8) (s : State) : Host.Outcome State Fault Refusal := actOutside (headRealign head.val) s

/-- HEAD_SLEW_CONVERGED (R77). -/
def execHeadSlewConverged (head : Fin 8) (s : State) : Host.Outcome State Fault Refusal := actOutside (fun s => reachedNear head.val (headSlewConverged head.val s)) s

/-- REFERENCE_FRAME_START (R82). -/
def execReferenceFrameStart (s : State) : Host.Outcome State Fault Refusal := act (fun s => outsideSafelight (fun s => panelsGoOn (refFrameMark s)) (refFrameStart (outsideSafelight presetTc s))) s

/-- LTC_WORD_RECEIVED (R85). -/
def execLtcWordReceived (valid : Bool) (hh mm ss ff : Nat) (s : State) : Host.Outcome State Fault Refusal := actOutside (ltcWord valid { hh := hh, mm := mm, ss := ss, ff := ff }) s

/-- CAPTURE_FRAME_BOUNDARY (R84). -/
def execCaptureFrameBoundary (marker : Option (Fin 4)) (s : State) : Host.Outcome State Fault Refusal := actOutside (capturing (captureBoundary (marker.map (fun k => k.val)))) s

/-- CAPTURE_MARKER_TIMEOUT (R84). -/
def execCaptureMarkerTimeout (s : State) : Host.Outcome State Fault Refusal := actOutside (capturing captureTimeout) s

/-- CAPTURE_CONTINUATION_FRAME (R84). -/
def execCaptureContinuationFrame (s : State) : Host.Outcome State Fault Refusal := actOutside (capturing captureContinue) s

/-- SYN_LOSS_OF_LOCK (R97). -/
def execSynLossOfLock (syn : Fin 12) (s : State) : Host.Outcome State Fault Refusal := actOutside (lanesFollow (synLossOfLock syn.val)) s

/-- SYN_LOCK_DECLARED (R94). -/
def execSynLockDeclared (syn : Fin 12) (band : Fin 64) (fine us : Nat) (s : State) : Host.Outcome State Fault Refusal := actOutside (lanesFollow (synLockDeclared syn.val band.val fine us)) s

/-- SYN_RELOCK_ATTEMPT_END (R97). -/
def execSynRelockAttemptEnd (syn : Fin 12) (s : State) : Host.Outcome State Fault Refusal := actOutside (synRelockAttemptEnd syn.val) s

/-- SYN_LOCK_TIMEOUT (R105). -/
def execSynLockTimeout (syn : Fin 12) (s : State) : Host.Outcome State Fault Refusal := actOutside (lanesFollow (synLockTimeout syn.val)) s

/-- SYN_UPDATE_POINT (R104). -/
def execSynUpdatePoint (syn : Fin 12) (s : State) : Host.Outcome State Fault Refusal := actOutside (lanesFollow (synUpdatePoint syn.val)) s

/-- REFERENCE_FAULT (R100). -/
def execReferenceFault (s : State) : Host.Outcome State Fault Refusal := actOutside (lanesFollow referenceFault) s

/-- TRACKING_LOOP_UPDATE (R101). -/
def execTrackingLoopUpdate (head : Fin 8) (phaseErrNs : Int) (s : State) : Host.Outcome State Fault Refusal := actOutside (fun s => panelFollow head.val (trackingUpdate head.val phaseErrNs s)) s

/-- RAMP_UPDATE (R109). -/
def execRampUpdate (s : State) : Host.Outcome State Fault Refusal := actOutside (rampUpdate) s

/-- RAMP_END (R109). -/
def execRampEnd (s : State) : Host.Outcome State Fault Refusal := actOutside (rampEnd) s

/-- OCCURRENCE_ARM (R126). -/
def execOccurrenceArm (slot : Fin 4096) (frame : Int) (line : Nat) (s : State) : Host.Outcome State Fault Refusal :=
  actOutside (occurrenceArm slot.val frame line) s

/-- OCCURRENCE_FIRE (R120). -/
def execOccurrenceFire (slot : Fin 4096) (s : State) : Host.Outcome State Fault Refusal := actOutside (occurrenceFire slot.val) s

/-- PULSE_STOP (R123). -/
def execPulseStop (slot : Fin 4096) (s : State) : Host.Outcome State Fault Refusal := actOutside (pulseStop slot.val) s

/-- SNAPSHOT_COMPLETE (R134). -/
def execSnapshotComplete (s : State) : Host.Outcome State Fault Refusal := actOutside (snapshotComplete) s

/-- CACHED_BAND_TIMEOUT (R107). -/
def execCachedBandTimeout (syn : Fin 12) (s : State) : Host.Outcome State Fault Refusal := actOutside (cachedBandTimeout syn.val) s

end Sys2Proof.Machine
end

