-- ==== Sys2Proof/Machine/Dispatch.lean ====
section
/-! DEFINITION. exec: one arm per row of the opcode table, each a direct call of its meaning. -/
namespace Sys2Proof.Machine
open Sys2Proof

def exec (i : Instr) (s : State) : Host.Outcome State Fault Refusal :=
  match i with
  | .sysNop entry => Sys2Proof.Machine.execSysNop entry s
  | .headConfigReport entry => Sys2Proof.Machine.execHeadConfigReport entry s
  | .timeRefSelect entry => Sys2Proof.Machine.execTimeRefSelect entry s
  | .timeCorrectionSet entry => Sys2Proof.Machine.execTimeCorrectionSet entry s
  | .timeStepApprove entry => Sys2Proof.Machine.execTimeStepApprove entry s
  | .timeSet entry => Sys2Proof.Machine.execTimeSet entry s
  | .refRasterSet entry => Sys2Proof.Machine.execRefRasterSet entry s
  | .tcSet entry => Sys2Proof.Machine.execTcSet entry s
  | .headSlewSet entry => Sys2Proof.Machine.execHeadSlewSet entry s
  | .captureRasterSet entry => Sys2Proof.Machine.execCaptureRasterSet entry s
  | .synConfig entry => Sys2Proof.Machine.execSynConfig entry s
  | .synCacheFill entry => Sys2Proof.Machine.execSynCacheFill entry s
  | .captureRampLoad entry => Sys2Proof.Machine.execCaptureRampLoad entry s
  | .captureRampStart entry => Sys2Proof.Machine.execCaptureRampStart entry s
  | .evtSlotSet entry => Sys2Proof.Machine.execEvtSlotSet entry s
  | .evtSlotGet entry => Sys2Proof.Machine.execEvtSlotGet entry s
  | .evoConfig entry => Sys2Proof.Machine.execEvoConfig entry s
  | .eviConfig entry => Sys2Proof.Machine.execEviConfig entry s
  | .fsInfo entry => Sys2Proof.Machine.execFsInfo entry s
  | .fsPolicySet entry => Sys2Proof.Machine.execFsPolicySet entry s
  | .fsFill entry => Sys2Proof.Machine.execFsFill entry s
  | .fsPatrolReport entry => Sys2Proof.Machine.execFsPatrolReport entry s
  | .fsChannelRetire entry => Sys2Proof.Machine.execFsChannelRetire entry s
  | .ledgerPoolCreate entry => Sys2Proof.Machine.execLedgerPoolCreate entry s
  | .ledgerPoolDelete entry => Sys2Proof.Machine.execLedgerPoolDelete entry s
  | .ledgerOp entry => Sys2Proof.Machine.execLedgerOp entry s
  | .ledgerDescGet entry => Sys2Proof.Machine.execLedgerDescGet entry s
  | .ingestStreamSet entry => Sys2Proof.Machine.execIngestStreamSet entry s
  | .ingestStreamGet entry => Sys2Proof.Machine.execIngestStreamGet entry s
  | .headTimingSet entry => Sys2Proof.Machine.execHeadTimingSet entry s
  | .headPairSet entry => Sys2Proof.Machine.execHeadPairSet entry s
  | .headWritebackSet entry => Sys2Proof.Machine.execHeadWritebackSet entry s
  | .layerCadenceSet entry => Sys2Proof.Machine.execLayerCadenceSet entry s
  | .cfgCommit entry => Sys2Proof.Machine.execCfgCommit entry s
  | .layerAssign entry => Sys2Proof.Machine.execLayerAssign entry s
  | .layerSourceSet entry => Sys2Proof.Machine.execLayerSourceSet entry s
  | .layerGeometrySet entry => Sys2Proof.Machine.execLayerGeometrySet entry s
  | .layerPaletteSet entry => Sys2Proof.Machine.execLayerPaletteSet entry s
  | .layerEnvelopeSet entry => Sys2Proof.Machine.execLayerEnvelopeSet entry s
  | .headFetchSet entry => Sys2Proof.Machine.execHeadFetchSet entry s
  | .layerBlendSet entry => Sys2Proof.Machine.execLayerBlendSet entry s
  | .headZorderSet entry => Sys2Proof.Machine.execHeadZorderSet entry s
  | .headBackgroundSet entry => Sys2Proof.Machine.execHeadBackgroundSet entry s
  | .contactSheetSet entry => Sys2Proof.Machine.execContactSheetSet entry s
  | .admissionReserveSet entry => Sys2Proof.Machine.execAdmissionReserveSet entry s
  | .layerShedSet entry => Sys2Proof.Machine.execLayerShedSet entry s
  | .shedPlanSet entry => Sys2Proof.Machine.execShedPlanSet entry s
  | .shedPolicySet entry => Sys2Proof.Machine.execShedPolicySet entry s
  | .admissionReport entry => Sys2Proof.Machine.execAdmissionReport entry s
  | .compat5200Set entry => Sys2Proof.Machine.execCompat5200Set entry s
  | .scalerCoefLoad entry => Sys2Proof.Machine.execScalerCoefLoad entry s
  | .layerScalerSet entry => Sys2Proof.Machine.execLayerScalerSet entry s
  | .layerDecodeSet entry => Sys2Proof.Machine.execLayerDecodeSet entry s
  | .matrixSet entry => Sys2Proof.Machine.execMatrixSet entry s
  | .lut1dLoad entry => Sys2Proof.Machine.execLut1dLoad entry s
  | .lut1dBuiltin entry => Sys2Proof.Machine.execLut1dBuiltin entry s
  | .lut1dRead entry => Sys2Proof.Machine.execLut1dRead entry s
  | .graphicColourSet entry => Sys2Proof.Machine.execGraphicColourSet entry s
  | .headOutputSet entry => Sys2Proof.Machine.execHeadOutputSet entry s
  | .lut3dAssign entry => Sys2Proof.Machine.execLut3dAssign entry s
  | .lut3dLoad entry => Sys2Proof.Machine.execLut3dLoad entry s
  | .sigRegionSet entry => Sys2Proof.Machine.execSigRegionSet entry s
  | .sdiLaneSet entry => Sys2Proof.Machine.execSdiLaneSet entry s
  | .sdiAncRingSet entry => Sys2Proof.Machine.execSdiAncRingSet entry s
  | .panelPortSet entry => Sys2Proof.Machine.execPanelPortSet entry s
  | .panelDcsSend entry => Sys2Proof.Machine.execPanelDcsSend entry s
  | .magSlotSet entry => Sys2Proof.Machine.execMagSlotSet entry s
  | .magIndexRead entry => Sys2Proof.Machine.execMagIndexRead entry s
  | .magFormat entry => Sys2Proof.Machine.execMagFormat entry s
  | .magEject entry => Sys2Proof.Machine.execMagEject entry s
  | .recChannelSet entry => Sys2Proof.Machine.execRecChannelSet entry s
  | .recKeySet entry => Sys2Proof.Machine.execRecKeySet entry s
  | .recStartAt entry => Sys2Proof.Machine.execRecStartAt entry s
  | .recStopAt entry => Sys2Proof.Machine.execRecStopAt entry s
  | .macConfig entry => Sys2Proof.Machine.execMacConfig entry s
  | .macSpareSet entry => Sys2Proof.Machine.execMacSpareSet entry s
  | .macTxqSet entry => Sys2Proof.Machine.execMacTxqSet entry s
  | .macRuleSet entry => Sys2Proof.Machine.execMacRuleSet entry s
  | .macFilterSet entry => Sys2Proof.Machine.execMacFilterSet entry s
  | .macStatsGet entry => Sys2Proof.Machine.execMacStatsGet entry s
  | .macSleep entry => Sys2Proof.Machine.execMacSleep entry s
  | .streamSubSet entry => Sys2Proof.Machine.execStreamSubSet entry s
  | .streamPortSet entry => Sys2Proof.Machine.execStreamPortSet entry s
  | .streamSubCtrl entry => Sys2Proof.Machine.execStreamSubCtrl entry s
  | .streamRxFlowSet entry => Sys2Proof.Machine.execStreamRxFlowSet entry s
  | .streamDepackSet entry => Sys2Proof.Machine.execStreamDepackSet entry s
  | .streamStatsRead entry => Sys2Proof.Machine.execStreamStatsRead entry s
  | .ptpPortSet entry => Sys2Proof.Machine.execPtpPortSet entry s
  | .rigSet entry => Sys2Proof.Machine.execRigSet entry s
  | .dmaChannelSet entry => Sys2Proof.Machine.execDmaChannelSet entry s
  | .powerBudgetSet entry => Sys2Proof.Machine.execPowerBudgetSet entry s
  | .powerStateSet entry => Sys2Proof.Machine.execPowerStateSet entry s
  | .faultLogRead entry => Sys2Proof.Machine.execFaultLogRead entry s
  | .faultRecover entry => Sys2Proof.Machine.execFaultRecover entry s
  | .diagCoreInfo entry => Sys2Proof.Machine.execDiagCoreInfo entry s
  | .diagFsRaw entry => Sys2Proof.Machine.execDiagFsRaw entry s
  | .availClear entry => Sys2Proof.Machine.execAvailClear entry s
  | .fwInfo entry => Sys2Proof.Machine.execFwInfo entry s
  | .fwUpdate entry => Sys2Proof.Machine.execFwUpdate entry s
  | .fwConfirm entry => Sys2Proof.Machine.execFwConfirm entry s
  | .secFuseProgram entry => Sys2Proof.Machine.execSecFuseProgram entry s
  | .mbDbWrite mb value => Sys2Proof.Machine.execMbDbWrite mb value s
  | .mbRspHeadWrite mb value => Sys2Proof.Machine.execMbRspHeadWrite mb value s
  | .mailboxReset mb => Sys2Proof.Machine.execMailboxReset mb s
  | .mailboxResetComplete mb => Sys2Proof.Machine.execMailboxResetComplete mb s
  | .entryTake mb => Sys2Proof.Machine.execEntryTake mb s
  | .extPayloadFetched mb ok => Sys2Proof.Machine.execExtPayloadFetched mb ok s
  | .stepCutStep mb => Sys2Proof.Machine.execStepCutStep mb s
  | .lockstepMismatch => Sys2Proof.Machine.execLockstepMismatch s
  | .serviceResume => Sys2Proof.Machine.execServiceResume s
  | .controlFailure => Sys2Proof.Machine.execControlFailure s
  | .runWatchdogExpiry => Sys2Proof.Machine.execRunWatchdogExpiry s
  | .fpGo layer => Sys2Proof.Machine.execFpGo layer s
  | .fastPathLatch layer => Sys2Proof.Machine.execFastPathLatch layer s
  | .tbLatch => Sys2Proof.Machine.execTbLatch s
  | .replicaCheck domain diffNs => Sys2Proof.Machine.execReplicaCheck domain diffNs s
  | .refSignalValid cand => Sys2Proof.Machine.execRefSignalValid cand s
  | .refSignalInvalid cand => Sys2Proof.Machine.execRefSignalInvalid cand s
  | .refQualified cand => Sys2Proof.Machine.execRefQualified cand s
  | .refLost cand => Sys2Proof.Machine.execRefLost cand s
  | .refLostTimeout cand => Sys2Proof.Machine.execRefLostTimeout cand s
  | .refErrorMeasure cand errNs ppb => Sys2Proof.Machine.execRefErrorMeasure cand errNs ppb s
  | .slewComplete => Sys2Proof.Machine.execSlewComplete s
  | .stepApply => Sys2Proof.Machine.execStepApply s
  | .headRealign head => Sys2Proof.Machine.execHeadRealign head s
  | .headSlewConverged head => Sys2Proof.Machine.execHeadSlewConverged head s
  | .referenceFrameStart => Sys2Proof.Machine.execReferenceFrameStart s
  | .ltcWordReceived valid hh mm ss ff => Sys2Proof.Machine.execLtcWordReceived valid hh mm ss ff s
  | .captureFrameBoundary marker => Sys2Proof.Machine.execCaptureFrameBoundary marker s
  | .captureMarkerTimeout => Sys2Proof.Machine.execCaptureMarkerTimeout s
  | .captureContinuationFrame => Sys2Proof.Machine.execCaptureContinuationFrame s
  | .synLossOfLock syn => Sys2Proof.Machine.execSynLossOfLock syn s
  | .synLockDeclared syn band fine us => Sys2Proof.Machine.execSynLockDeclared syn band fine us s
  | .synRelockAttemptEnd syn => Sys2Proof.Machine.execSynRelockAttemptEnd syn s
  | .synLockTimeout syn => Sys2Proof.Machine.execSynLockTimeout syn s
  | .synUpdatePoint syn => Sys2Proof.Machine.execSynUpdatePoint syn s
  | .referenceFault => Sys2Proof.Machine.execReferenceFault s
  | .trackingLoopUpdate head phaseErrNs => Sys2Proof.Machine.execTrackingLoopUpdate head phaseErrNs s
  | .rampUpdate => Sys2Proof.Machine.execRampUpdate s
  | .rampEnd => Sys2Proof.Machine.execRampEnd s
  | .occurrenceArm slot frame line => Sys2Proof.Machine.execOccurrenceArm slot frame line s
  | .occurrenceFire slot => Sys2Proof.Machine.execOccurrenceFire slot s
  | .pulseStop slot => Sys2Proof.Machine.execPulseStop slot s
  | .snapshotComplete => Sys2Proof.Machine.execSnapshotComplete s
  | .fsReadRequest fsa upset => Sys2Proof.Machine.execFsReadRequest fsa upset s
  | .fsWriteRequest fsa data => Sys2Proof.Machine.execFsWriteRequest fsa data s
  | .beAgingPromotion chan => Sys2Proof.Machine.execBeAgingPromotion chan s
  | .patrolScrubRead upset => Sys2Proof.Machine.execPatrolScrubRead upset s
  | .startupFillStep => Sys2Proof.Machine.execStartupFillStep s
  | .startupFillDone => Sys2Proof.Machine.execStartupFillDone s
  | .channelTraining chan ok => Sys2Proof.Machine.execChannelTraining chan ok s
  | .wckOscRead chan drift0 drift1 => Sys2Proof.Machine.execWckOscRead chan drift0 drift1 s
  | .nudgeApply chan => Sys2Proof.Machine.execNudgeApply chan s
  | .mr4Poll codes bands => Sys2Proof.Machine.execMr4Poll codes bands s
  | .migrationGranuleCopy => Sys2Proof.Machine.execMigrationGranuleCopy s
  | .migrationComplete => Sys2Proof.Machine.execMigrationComplete s
  | .channelFail chan => Sys2Proof.Machine.execChannelFail chan s
  | .ledgerAcquire cls inst pool => Sys2Proof.Machine.execLedgerAcquire cls inst pool s
  | .ledgerPublish cls inst buf frame capSec capNs => Sys2Proof.Machine.execLedgerPublish cls inst buf frame capSec capNs s
  | .ledgerDiscard cls inst buf => Sys2Proof.Machine.execLedgerDiscard cls inst buf s
  | .ledgerRefTake cls inst buf follow => Sys2Proof.Machine.execLedgerRefTake cls inst buf follow s
  | .ledgerRefRelease cls inst buf => Sys2Proof.Machine.execLedgerRefRelease cls inst buf s
  | .agentResetReclaim cls inst => Sys2Proof.Machine.execAgentResetReclaim cls inst s
  | .kmlMarkerReceived lane logical group rlf seq state => Sys2Proof.Machine.execKmlMarkerReceived lane logical group rlf seq state s
  | .adaptTimeout mac => Sys2Proof.Machine.execAdaptTimeout mac s
  | .laneFault loss => Sys2Proof.Machine.execLaneFault loss s
  | .txMarkerPoint mac => Sys2Proof.Machine.execTxMarkerPoint mac s
  | .ethLinkChange mac pcs localFault remoteFault => Sys2Proof.Machine.execEthLinkChange mac pcs localFault remoteFault s
  | .macFrameReceived mac frame fcsOk => Sys2Proof.Machine.execMacFrameReceived mac frame fcsOk s
  | .txFrameStart mac queue => Sys2Proof.Machine.execTxFrameStart mac queue s
  | .txUnderrun mac bytes => Sys2Proof.Machine.execTxUnderrun mac bytes s
  | .txFrameEnd mac => Sys2Proof.Machine.execTxFrameEnd mac s
  | .pauseTimerExpiry mac => Sys2Proof.Machine.execPauseTimerExpiry mac s
  | .pauseAlarm mac => Sys2Proof.Machine.execPauseAlarm mac s
  | .wakeDetect mac => Sys2Proof.Machine.execWakeDetect mac s
  | .kpiFrameStart mac frame => Sys2Proof.Machine.execKpiFrameStart mac frame s
  | .kpiLinePacket mac frame => Sys2Proof.Machine.execKpiLinePacket mac frame s
  | .kpiFrameEnd mac frame => Sys2Proof.Machine.execKpiFrameEnd mac frame s
  | .kpiEndTimeout stream => Sys2Proof.Machine.execKpiEndTimeout stream s
  | .kpiStatusSend stream => Sys2Proof.Machine.execKpiStatusSend stream s
  | .headEnableStart head => Sys2Proof.Machine.execHeadEnableStart head s
  | .latchPoint head => Sys2Proof.Machine.execLatchPoint head s
  | .headBlankingStart head => Sys2Proof.Machine.execHeadBlankingStart head s
  | .headFrameStart head => Sys2Proof.Machine.execHeadFrameStart head s
  | .writebackPublish head => Sys2Proof.Machine.execWritebackPublish head s
  | .fetchClassChange head level => Sys2Proof.Machine.execFetchClassChange head level s
  | .reservoirStarved head pixels => Sys2Proof.Machine.execReservoirStarved head pixels s
  | .commitArm => Sys2Proof.Machine.execCommitArm s
  | .fxFenceWrite fence value => Sys2Proof.Machine.execFxFenceWrite fence value s
  | .commitTimeout => Sys2Proof.Machine.execCommitTimeout s
  | .signatureCompare head region => Sys2Proof.Machine.execSignatureCompare head region s
  | .sigClear head region => Sys2Proof.Machine.execSigClear head region s
  | .tallyForceWrite value => Sys2Proof.Machine.execTallyForceWrite value s
  | .shedEvaluation => Sys2Proof.Machine.execShedEvaluation s
  | .restoreHoldExpiry => Sys2Proof.Machine.execRestoreHoldExpiry s
  | .sdiSlip lane fill => Sys2Proof.Machine.execSdiSlip lane fill s
  | .panelVideoStart port => Sys2Proof.Machine.execPanelVideoStart port s
  | .kmpMessageReceived slot frame => Sys2Proof.Machine.execKmpMessageReceived slot frame s
  | .kmpCommitReceived slot frame => Sys2Proof.Machine.execKmpCommitReceived slot frame s
  | .kmpResendReceived slot frame => Sys2Proof.Machine.execKmpResendReceived slot frame s
  | .kmpNoticeReceived slot frame => Sys2Proof.Machine.execKmpNoticeReceived slot frame s
  | .kmpRequestTimeout slot => Sys2Proof.Machine.execKmpRequestTimeout slot s
  | .kmpHelloSend slot => Sys2Proof.Machine.execKmpHelloSend slot s
  | .kmpHelloTimeout slot => Sys2Proof.Machine.execKmpHelloTimeout slot s
  | .noPartnerTimeout slot => Sys2Proof.Machine.execNoPartnerTimeout slot s
  | .mainStreamPictureBegin chan => Sys2Proof.Machine.execMainStreamPictureBegin chan s
  | .magazineStreamPictureBegin slot => Sys2Proof.Machine.execMagazineStreamPictureBegin slot s
  | .holdMaxExpiry chan => Sys2Proof.Machine.execHoldMaxExpiry chan s
  | .magazineRecouple slot => Sys2Proof.Machine.execMagazineRecouple slot s
  | .copyClose slot => Sys2Proof.Machine.execCopyClose slot s
  | .spanContinuation chan => Sys2Proof.Machine.execSpanContinuation chan s
  | .stopBathTrigger => Sys2Proof.Machine.execStopBathTrigger s
  | .stopBathRecordDeadline => Sys2Proof.Machine.execStopBathRecordDeadline s
  | .stopBathCommitDeadline => Sys2Proof.Machine.execStopBathCommitDeadline s
  | .stopBathAckDeadline => Sys2Proof.Machine.execStopBathAckDeadline s
  | .packetRelease sub => Sys2Proof.Machine.execPacketRelease sub s
  | .unpacedSlotEligible sub => Sys2Proof.Machine.execUnpacedSlotEligible sub s
  | .portSchedule port => Sys2Proof.Machine.execPortSchedule port s
  | .pacedDeadlineExpiry port sub => Sys2Proof.Machine.execPacedDeadlineExpiry port sub s
  | .mergeTimeout flow => Sys2Proof.Machine.execMergeTimeout flow s
  | .pathDownTimeout flow pathB => Sys2Proof.Machine.execPathDownTimeout flow pathB s
  | .depackEndTimeout depack => Sys2Proof.Machine.execDepackEndTimeout depack s
  | .ptpMessageReceived port frame => Sys2Proof.Machine.execPtpMessageReceived port frame s
  | .ptpMessageTimer port => Sys2Proof.Machine.execPtpMessageTimer port s
  | .announceReceiptTimeout port => Sys2Proof.Machine.execAnnounceReceiptTimeout port s
  | .rigFrameReceived port frame => Sys2Proof.Machine.execRigFrameReceived port frame s
  | .rigClaimTimer => Sys2Proof.Machine.execRigClaimTimer s
  | .rigLeadTimeout => Sys2Proof.Machine.execRigLeadTimeout s
  | .rigAnnounceTimer => Sys2Proof.Machine.execRigAnnounceTimer s
  | .dcDbHiWrite chan value => Sys2Proof.Machine.execDcDbHiWrite chan value s
  | .dcResume chan => Sys2Proof.Machine.execDcResume chan s
  | .dcReset chan => Sys2Proof.Machine.execDcReset chan s
  | .dcResetComplete chan => Sys2Proof.Machine.execDcResetComplete chan s
  | .descriptorFetch chan => Sys2Proof.Machine.execDescriptorFetch chan s
  | .dmaTurn chan => Sys2Proof.Machine.execDmaTurn chan s
  | .descriptorComplete chan => Sys2Proof.Machine.execDescriptorComplete chan s
  | .ringFrameWrite chan => Sys2Proof.Machine.execRingFrameWrite chan s
  | .dcRingConsWrite chan value => Sys2Proof.Machine.execDcRingConsWrite chan value s
  | .eventRaise source => Sys2Proof.Machine.execEventRaise source s
  | .msiXSend group => Sys2Proof.Machine.execMsiXSend group s
  | .evtRearmWrite value => Sys2Proof.Machine.execEvtRearmWrite value s
  | .evtHoldoffWrite group value => Sys2Proof.Machine.execEvtHoldoffWrite group value s
  | .holdoffExpiry group => Sys2Proof.Machine.execHoldoffExpiry group s
  | .evcClaimRead => Sys2Proof.Machine.execEvcClaimRead s
  | .evcCompleteWrite number => Sys2Proof.Machine.execEvcCompleteWrite number s
  | .eviEdge pin firstSample => Sys2Proof.Machine.execEviEdge pin firstSample s
  | .powerRequest domain cost step => Sys2Proof.Machine.execPowerRequest domain cost step s
  | .domainSwitch => Sys2Proof.Machine.execDomainSwitch s
  | .domainLoad domain => Sys2Proof.Machine.execDomainLoad domain s
  | .pwrWakeWrite value => Sys2Proof.Machine.execPwrWakeWrite value s
  | .standbyWake => Sys2Proof.Machine.execStandbyWake s
  | .comparatorChange comparator => Sys2Proof.Machine.execComparatorChange comparator s
  | .holdupExit => Sys2Proof.Machine.execHoldupExit s
  | .vsafeSwitchover toBattery => Sys2Proof.Machine.execVsafeSwitchover toBattery s
  | .safelightReset => Sys2Proof.Machine.execSafelightReset s
  | .rtcSecond => Sys2Proof.Machine.execRtcSecond s
  | .safelightWake source => Sys2Proof.Machine.execSafelightWake source s
  | .rtcSecHiRead spi => Sys2Proof.Machine.execRtcSecHiRead spi s
  | .availTick => Sys2Proof.Machine.execAvailTick s
  | .sramError kind unit detail corrected => Sys2Proof.Machine.execSramError kind unit detail corrected s
  | .pornReset strap widthNs => Sys2Proof.Machine.execPornReset strap widthNs s
  | .hrstnReset strap widthNs => Sys2Proof.Machine.execHrstnReset strap widthNs s
  | .pcieHotReset => Sys2Proof.Machine.execPcieHotReset s
  | .bootWatchdogExpiry strap => Sys2Proof.Machine.execBootWatchdogExpiry strap s
  | .bootPushGo value => Sys2Proof.Machine.execBootPushGo value s
  | .firmwareReady => Sys2Proof.Machine.execFirmwareReady s
  | .debugOff value => Sys2Proof.Machine.execDebugOff value s
  | .fwUpdateLock value => Sys2Proof.Machine.execFwUpdateLock value s
  | .upstreamRequestTimeout request => Sys2Proof.Machine.execUpstreamRequestTimeout request s
  | .w5CommitWrite value => Sys2Proof.Machine.execW5CommitWrite value s
  | .w5CommitArm => Sys2Proof.Machine.execW5CommitArm s
  | .w5PalDataWrite value => Sys2Proof.Machine.execW5PalDataWrite value s
  | .w5LBaseLoWrite layer value => Sys2Proof.Machine.execW5LBaseLoWrite layer value s
  | .w5LBaseHiWrite layer value => Sys2Proof.Machine.execW5LBaseHiWrite layer value s
  | .bar2Read offset length => Sys2Proof.Machine.execBar2Read offset length s
  | .bar2Write offset data enables => Sys2Proof.Machine.execBar2Write offset data enables s
  | .bar0BadAccess place write value => Sys2Proof.Machine.execBar0BadAccess place write value s
  | .mgmtSpiRead frame => Sys2Proof.Machine.execMgmtSpiRead frame s
  | .mgmtSpiWrite frame => Sys2Proof.Machine.execMgmtSpiWrite frame s
  | .mgmtSpiWake frame => Sys2Proof.Machine.execMgmtSpiWake frame s
  | .mgmtSpiAbort frame => Sys2Proof.Machine.execMgmtSpiAbort frame s
  | .slSpiClear value => Sys2Proof.Machine.execSlSpiClear value s
  | .registerWrite space offset value => Sys2Proof.Machine.execRegisterWrite space offset value s
  | .headLineCompose head => Sys2Proof.Machine.execHeadLineCompose head s
  | .pcieLinkUp => Sys2Proof.Machine.execPcieLinkUp s
  | .rankPowerDownEntry chan rank => Sys2Proof.Machine.execRankPowerDownEntry chan rank s
  | .cachedBandTimeout syn => Sys2Proof.Machine.execCachedBandTimeout syn s
  | .safelightTcFrame => Sys2Proof.Machine.execSafelightTcFrame s
  | .laneCdrLock lane => Sys2Proof.Machine.execLaneCdrLock lane s
  | .formatStatusTimeout slot => Sys2Proof.Machine.execFormatStatusTimeout slot s

end Sys2Proof.Machine
end

