-- ==== Sys2Proof/Machine/Step.lean ====
section
/-! DEFINITION. One step of the block, and the host's way to place a command that a word spells. -/
namespace Sys2Proof.Machine
open Sys2Proof

/-- One step: the command at the front of the queue acts on the state with the queue's rest. With no command waiting the
clock runs on for one cycle (R62); DESIGN CHOICE, log entry 3 (DESIGN CHOICE, log entries 1 and 3). -/
def step (s : State) : Host.Outcome State Fault Refusal :=
  match s.pending with
  | [] => .next (tick s)
  | c :: rest => exec c { s with pending := rest }

/-- The state with the command that a word spells at the front of its queue; the table gives no row bits, so that no word
spells a command and the state stays (log entry 2). -/
def State.withFetchWord (s : State) (nbits w : Nat) : State :=
  match decodeTableWord nbits w with
  | some c => { s with pending := c :: s.pending }
  | none => s

end Sys2Proof.Machine
end

