-- ==== Sys2Proof/Machine/Flags.lean ====
section
/-! DEFINITION. The status words, lines and codes that are computed from the state rather than stored. -/
namespace Sys2Proof.Machine
open Sys2Proof

/-- Source `n` is pending and enabled in the Onyx view (R498). -/
def claimable (s : State) (n : Nat) : Bool := decide (tabGet s.ev.evcPend (n / 32) &&& tabGet s.ev.evcEn (n / 32) &&& sourceBit n ≠ 0#32)

/-- The line to the Onyx pair (R498). -/
def evcLine (s : State) : Bool := s.ev.inService.isNone && anyUpTo 1023 (claimable s)

end Sys2Proof.Machine
end

