-- ==== Sys2Proof/Machine/Registers.lean ====
section
/-! DEFINITION. What a read of each register returns (R14, R15, R17, R583 to R585): the host view of BAR0, region by region,
with the power domain that holds each register, and the Onyx side of the event unit. A plain read changes nothing, so
no command of the table stands for one; the reads that do change state are rows of their own. -/
namespace Sys2Proof.Machine
open Sys2Proof

/-- A register word from its fields, each with its lowest bit. -/
def pack (l : List (Nat × Nat)) : Nat := (l.map (fun f => f.2 * 2 ^ f.1)).sum

/-- The low and the high word of a 64-bit value: `k` is 0 for the low one. -/
def half64 (v k : Nat) : Nat := v / 2 ^ (32 * k) % 2 ^ 32

/-- One bit per number below `n` that passes a test. -/
def mask (n : Nat) (p : Nat → Bool) : Nat := ((List.range n).map (fun k => if p k then 2 ^ k else 0)).sum

/-- A place of a register: the power domain that holds it, and what it holds. Domain 32 is no domain, and is never ON. -/
abbrev Place := Nat × Nat

/-- A reserved offset reads 0 (R15). -/
def noReg : Place := (3, 0)

/-! The host interface, control and time. -/

/-- The code of the device state, as `PWR_STATE` and `GLB_STATUS` show it (R506). -/
def devCode (d : DevState) : Nat :=
  match d with
  | .run => 0
  | .idle => 1
  | .standby => 2
  | .safelight => 3

/-- `GLB_STATUS`. -/
def glbStatus (s : State) : Nat :=
  pack [(0, b2n s.boot.ready), (1, b2n (decide (s.ctl.pair = .held))), (2, b2n ((synAt s 9).refFault)), (3, b2n s.power.holdup), (4, b2n (isHot s)),
    (5, b2n s.fs.fillDone), (6, b2n (anyUpTo 12 (fun k => decide ((synAt s k).state = .failed)))), (7, b2n (anyUpTo 16 (fun c => decide ((chanAt s c).state = .failed)))),
    (8, b2n (!s.pic.shed.taken.isEmpty)), (9, b2n (tallyLevel s)), (10, b2n (decide (s.time.tb.state = .stepPending))), (11, b2n (decide (s.time.tb.state = .hold))),
    (12, devCode s.power.state)]

/-- Identity, global status and the aperture registers: PD3. -/
def globalReg (o : Nat) (s : State) : Nat :=
  match o with
  | 0x000 => 0x107480
  | 0x004 => half64 s.boot.fuses.serial 0
  | 0x008 => half64 s.boot.fuses.serial 1
  | 0x010 => glbStatus s
  | 0x014 => s.host.scratch
  | 0x100 => s.host.apBase
  | 0x104 => s.host.apStatus
  | _ => 0

/-- The code of a candidate's state (R67). -/
def candCode (c : CandState) : Nat :=
  match c with
  | .absent => 0
  | .qualifying => 1
  | .qualified => 2
  | .lost => 3

/-- `TB_STATE`. -/
def tbStateReg (s : State) : Nat :=
  let b := s.time.tb
  pack [(0, tbStateCode b.state), (3, b2n b.todValid), (4, b.master.getD 0), (8, mask 8 (fun h => (tabGet b.heads h).lag)),
    (16, mask 8 (fun h => (tabGet b.heads h).stepped))]

/-- `TB_REF_STATUS`: the offset in units of 8 ns, rounded toward zero and saturating (DEDUCED, log entry 48). -/
def refStatusReg (i : Nat) (s : State) : Nat :=
  let c := candAt s i
  pack [(0, c.type), (4, candCode c.state), (8, unsignedOf 24 (clampI (-8388608) 8388607 (Int.tdiv c.offsetNs 8)))]

/-- The timebase registers (R88): PD4. SEC, NS and FRAC are those of the last TB_LATCH. -/
def timebaseReg (o : Nat) (s : State) : Nat :=
  let b := s.time.tb
  let sec := b.latched / secUnits
  match o with
  | 0x04 => sec / 2 ^ 32 % 65536
  | 0x08 => sec % 2 ^ 32
  | 0x0C => b.latched % secUnits / nsUnits
  | 0x10 => b.latched % nsUnits
  | 0x14 => tbStateReg s
  | 0x18 => unsignedOf 32 (satNs b.errNs)
  | 0x1C => unsignedOf 32 b.freqPpb
  | 0x20 => unsignedOf 32 (satNs b.stepNs)
  | _ => if 0x30 ≤ o ∧ o < 0x40 ∧ o % 4 = 0 then refStatusReg ((o - 0x30) / 4) s else 0

/-- The code of `SYN_STATUS.STATE` (R97). -/
def synCode (x : SynState) : Nat :=
  match x with
  | .off => 0
  | .acquiring => 1
  | .locked => 2
  | .failed => 3

/-- The registers of synthesizer `k` (R111). -/
def synReg (k o : Nat) (s : State) : Nat :=
  let y := synAt s k
  match o with
  | 0x00 => pack [(0, synCode y.state), (2, b2n y.gated), (3, b2n (decide (k = 8) && s.time.ramp.run.isSome)), (4, b2n y.cacheHit), (5, b2n y.refFault),
      (8, y.band), (16, y.relocks), (24, b2n y.lost)]
  | 0x04 => pack [(0, y.words.int), (10, y.words.refMode), (16, y.words.od)]
  | 0x08 => y.words.frac
  | 0x0C => if k = 8 then 0 else y.words.modw
  | 0x10 => unsignedOf 32 y.trim
  | 0x14 => unsignedOf 32 y.offsetPpb
  | 0x18 => min 65535 y.lockUs
  | _ => 0

/-- A latched slot number with its VALID bit (R135). -/
def lastSlotReg (l : LastSlot) : Nat := pack [(0, l.slot), (31, b2n l.valid)]

/-- The event scheduler (R135): PD4. -/
def schedReg (o : Nat) (s : State) : Nat :=
  let c := s.sched
  let sec := c.snap.instant / secUnits
  match o with
  | 0x00 => pack [(0, (c.slots.filter (fun e => e.2.enabled)).length), (16, armedCount s)]
  | 0x04 => c.lateCount
  | 0x08 => c.suppressedCount
  | 0x0C => c.refusedCount
  | 0x10 => lastSlotReg c.lastLate
  | 0x14 => lastSlotReg c.lastSuppressed
  | 0x18 => lastSlotReg c.lastRefused
  | 0x20 => pack [(0, c.snap.seq % 2 ^ 31), (31, b2n c.snap.pend)]
  | 0x24 => sec / 2 ^ 32 % 65536
  | 0x28 => sec % 2 ^ 32
  | 0x2C => c.snap.instant % secUnits / nsUnits
  | 0x30 => c.snap.tag
  | 0x34 => c.snap.off
  | 0x38 => c.snap.skipped
  | 0x40 => mask 16 (fun n => (tabGet c.pins n).level)
  | _ => 0

/-- `MB_STATUS.STATE`. -/
def mbCode (x : MbState) : Nat :=
  match x with
  | .disabled => 0
  | .ready => 1
  | .resetting => 2
  | .down => 3

/-- `MB_STATUS` (R40): HELD while the next entry waits for response space (R44) (DEDUCED, log entry 139). -/
def mbStatusReg (n : Nat) (s : State) : Nat :=
  let m := mbAt s n
  pack [(0, mbCode m.state), (2, b2n (entryInTurn s n && decide (freeEntries s n < (if isStepCut (readEntry n m.cmdHead m) then 2 else 1)))),
    (8, b2n m.dbErr), (9, b2n m.rspErr), (10, b2n m.restarted), (16, stepCutOpen s n)]

/-- The register page of mailbox `n` (R40). -/
def mailboxReg (n o : Nat) (s : State) : Nat :=
  let m := mbAt s n
  match o with
  | 0x000 => pack [(0, n), (8, 0x40), (16, 0x40)]
  | 0x004 => b2n m.enable
  | 0x00C => m.cmdTail
  | 0x010 => m.cmdHead
  | 0x014 => m.rspTail
  | 0x018 => m.rspHead
  | 0x01C => mbStatusReg n s
  | 0x020 => agentToken s clsMailbox n
  | _ => 0

/-- The codes of R595. -/
def statusCode (x : Status) : Nat :=
  match x with
  | .ok => 0x00
  | .accepted => 0x01
  | .progress => 0x02
  | .rejAdmission => 0x10
  | .rejOwner => 0x11
  | .rejState => 0x12
  | .rejRange => 0x13
  | .rejLocked => 0x14
  | .deniedPower => 0x20
  | .busy => 0x30
  | .timeout => 0x40
  | .internal => 0xF0

/-- The 64 bytes of a response entry (R35). -/
def respBytes (r : Resp) : List Byte :=
  leBytes 2 r.opcode ++ leBytes 2 r.ticket ++ leBytes 1 (statusCode r.status) ++ leBytes 1 (b2n r.final + 2 * b2n r.restarted) ++ leBytes 2 r.seq ++
    leBytes 4 r.detail ++ leBytes 2 r.progress ++ leBytes 2 0 ++ (r.result ++ List.replicate 48 0).take 48

/-- A word of the rings of mailbox `n` (R30, R31): the command ring, then the response ring. -/
def ringReg (n o : Nat) (s : State) : Nat :=
  let m := mbAt s n
  if o < 0x1000 then (tabGet m.cmdRing (o / 4)).toNat
  else leNat (((respBytes (tabGet m.rspRing ((o - 0x1000) / 64))).drop (o % 64)).take 4)

/-! The streams, the power governor, boot and reliability. -/

/-- The code of an ingest or depacketizer state. -/
def inCode (x : IngestState) : Nat :=
  match x with
  | .idle => 0
  | .opened => 1
  | .dropping => 2

/-- The code of `RIG_STATUS.STATE`. -/
def rigCode (x : RigState) : Nat :=
  match x with
  | .off => 0
  | .claiming => 1
  | .backoff => 2
  | .waiting => 3
  | .leader => 4
  | .member => 5
  | .full => 6
  | .identical => 7

/-- The global registers of the stream engine, of PTP and of the rig link (R461): PD31. -/
def streamReg (o : Nat) (s : State) : Nat :=
  let t := s.st
  let p := t.ptpStatus
  let r := t.rig
  match o with
  | 0x00 => pack [(0, subsSending s), (16, subsHeld s)]
  | 0x04 => pack [(0, t.lastSub), (15, b2n t.lastSubValid), (16, t.lastFlow), (31, b2n t.lastFlowValid)]
  | 0x10 => pack [(0, p.port), (4, p.state), (8, p.gmClass), (16, min 65535 p.ignored)]
  | 0x14 => unsignedOf 32 p.offsetNs
  | 0x18 => unsignedOf 32 p.delayNs
  | 0x1C => half64 p.gm 1
  | 0x20 => half64 p.gm 0
  | 0x30 => pack [(0, rigCode r.state), (3, b2n r.alone), (4, b2n r.dupSeen), (8, r.count), (16, (r.leader.getD (0, 0)).1)]
  | 0x34 => half64 (r.leader.getD (0, 0)).2 1
  | 0x38 => half64 (r.leader.getD (0, 0)).2 0
  | _ => 0

/-- The registers of depacketizer `d`. -/
def depackReg (d o : Nat) (s : State) : Nat :=
  let x := dpAt s d
  match o with
  | 0x00 => pack [(0, b2n x.enabled), (1, inCode x.state), (3, x.pool), (16, if x.state = .opened then x.pic.buffer else 0)]
  | 0x10 => x.ctr.ok
  | 0x14 => x.ctr.holed
  | 0x18 => x.ctr.dropNoBuf
  | 0x1C => x.ctr.markerMissing
  | 0x20 => x.shadow.ok
  | 0x24 => x.shadow.holed
  | 0x28 => x.shadow.dropNoBuf
  | 0x2C => x.shadow.markerMissing
  | _ => 0

/-- The registers of stream port `m`. -/
def stPortReg (m o : Nat) (s : State) : Nat :=
  let x := portAt s m
  match o with
  | 0x00 => pack [(0, x.promoted), (8, mask 8 (fun i => !(servicePackets s.time.tb.now x i).isEmpty))]
  | 0x10 => x.ctr.paced
  | 0x14 => x.ctr.late
  | 0x18 => x.ctr.promote
  | 0x1C => x.ctr.noFlow
  | 0x20 => x.shadow.paced
  | 0x24 => x.shadow.late
  | 0x28 => x.shadow.promote
  | 0x2C => x.shadow.noFlow
  | _ => 0

/-- The governor's registers (R531); all but `PWR_STATE` and `PWR_WAKE` are in PD1. -/
def powerReg (o : Nat) (s : State) : Place :=
  let p := s.power
  match o with
  | 0x00 => (3, pack [(0, devCode p.state), (2, b2n p.holdup), (3, b2n (isHot s)), (4, b2n p.overBudget), (8, min 31 p.queue.length)])
  | 0x04 => (1, p.budget)
  | 0x08 => (1, p.stepLimit)
  | 0x0C => (1, committed s)
  | 0x10 => (1, mask 32 (fun d => decide ((domAt s d).level = .on)))
  | 0x14 => (1, mask 32 (fun d => decide ((domAt s d).level = .ret)))
  | 0x1C => (1, pack [(0, p.denyReason), (8, p.denyDomain), (15, b2n p.denyValid), (16, p.denyExcess)])
  | 0x20 => (1, p.ctr.grant)
  | 0x24 => (1, p.ctr.delay)
  | 0x28 => (1, p.ctr.deny)
  | 0x2C => (1, p.ctr.switch)
  | 0x30 => (1, p.shadow.grant)
  | 0x34 => (1, p.shadow.delay)
  | 0x38 => (1, p.shadow.deny)
  | 0x3C => (1, p.shadow.switch)
  | _ => if 0x80 ≤ o ∧ o % 4 = 0 then (1, (domAt s ((o - 0x80) / 4)).cost) else noReg

/-- The boot and security registers (R568), served by the host interface. -/
def bootReg (o : Nat) (s : State) : Nat :=
  let b := s.boot
  match o with
  | 0x00 => pack [(0, b2n b.ready), (1, b.stage), (4, b.slot), (6, b2n b.trial), (7, b2n b.fellBack), (8, b.result), (16, b.lastReset), (20, b.wdtCount)]
  | 0x04 => b.fwVersion
  | 0x08 => pack [(0, b.svn), (8, b.fuses.svnCtr), (16, b.keySlot)]
  | 0x10 => half64 b.pushAddr 0
  | 0x14 => half64 b.pushAddr 1
  | 0x18 => b.pushLen
  | 0x20 => b.bootTime
  | 0x24 => pack [(0, b2n b.debugOff), (1, b2n b.fwLock)]
  | 0x28 => pack [(0, b2n b.fuses.debugLock), (1, b2n b.fuses.keyHash1.isSome), (2, b.fuses.revoke)]
  | 0x2C => b.hotCount
  | _ => 0

/-- The counts of an output in the order of their registers. -/
def avWord (c : AvCounters) (k : Nat) : Nat :=
  match k with
  | 0 => c.enabledS
  | 1 => c.faultS
  | _ => c.faultFrames

/-- The reliability registers (R547): PD2. -/
def reliabilityReg (o : Nat) (s : State) : Nat :=
  let r := s.rel
  let out := fun (n : Nat) => tabGet r.outputs n
  if 0x100 ≤ o ∧ o < 0x2A0 then
    let x := out ((o - 0x100) / 16)
    if o % 16 = 12 then pack [(0, x.lastKind), (31, b2n x.lastValid)] else if o % 4 = 0 then avWord x.ctr (o % 16 / 4) else 0
  else if 0x2C0 ≤ o ∧ o < 0x3F8 then (if o % 4 = 0 then avWord (out ((o - 0x2C0) / 12)).shadow ((o - 0x2C0) % 12 / 4) else 0)
  else match o with
  | 0x00 => r.epoch
  | 0x04 => r.reloads
  | 0x10 => pack [(0, r.lockedOff), (24, r.lockedSrc), (31, b2n r.lockedValid)]
  | 0x14 => r.lockedVal
  | 0x18 => r.lockedCount
  | 0x20 => pack [(0, r.log.length), (16, min 65535 r.lost)]
  | 0x30 => r.sramCe
  | 0x34 => r.sramUe
  | 0x38 => r.sramCeShadow
  | 0x3C => r.sramUeShadow
  | _ => 0

/-! The frame store and the ledger. -/

/-- The code of `FS_CH_STATUS.STATE`. -/
def chanCode (x : ChState) : Nat :=
  match x with
  | .active => 0
  | .retiring => 1
  | .retired => 2
  | .failed => 3

/-- The delay and VREF registers of channel `c` (R155). -/
def delayReg (c o : Nat) (s : State) : Nat :=
  let x := chanAt s c
  let d := x.delays
  match o with
  | 0x00 => pack [(0, d.ca), (16, d.ck)]
  | 0x04 => d.wck
  | 0x08 => pack [(0, d.wr0), (16, d.wrDmi0)]
  | 0x0C => pack [(0, d.wr1), (16, d.wrDmi1)]
  | 0x10 => pack [(0, d.rd0), (16, d.rdGate0)]
  | 0x14 => pack [(0, d.rd1), (16, d.rdGate1)]
  | 0x18 => pack [(0, d.vref0), (8, d.vref1), (16, d.vrefCa)]
  | 0x1C => pack [(0, unsignedOf 8 x.temp), (8, unsignedOf 8 x.nudge0), (16, unsignedOf 8 x.nudge1), (24, min 15 x.trainings)]
  | _ => 0

/-- A counter of a channel by its place. -/
def fsCtrWord (c : FsCounters) (k : Nat) : Nat :=
  match k with
  | 0 => c.ce
  | 1 => c.ue
  | 2 => c.aged
  | _ => c.nudge

/-- The frame store's host view (R155, R164); the counters are in the channel's domain. -/
def storeReg (o : Nat) (s : State) : Place :=
  let f := s.fs
  if 0x100 ≤ o ∧ o < 0x500 then (11 + (o - 0x100) / 0x100, delayReg ((o - 0x100) / 0x40) (o % 0x40) s)
  else if 0x500 ≤ o ∧ o < 0x700 then
    let x := chanAt s ((o - 0x500) / 0x20)
    (11 + (o - 0x500) / 0x80, if o % 4 ≠ 0 then 0 else if o % 0x20 < 0x10 then fsCtrWord x.ctr (o % 0x10 / 4) else fsCtrWord x.shadow (o % 0x10 / 4))
  else if 0x40 ≤ o ∧ o < 0x80 ∧ o % 4 = 0 then
    let x := chanAt s ((o - 0x40) / 4)
    (2, pack [(0, chanCode x.state), (2, x.mult), (4, b2n x.retrain), (8, x.dramTemp), (16, x.migrated)])
  else (2, match o with
    | 0x00 => pack [(0, mask 16 (fun c => decide ((chanAt s c).state = .active))), (16, f.cfg.ranks - 1),
        (17, if f.cfg.density = 8 then 0 else if f.cfg.density = 16 then 1 else 2), (20, if f.cfg.speed = 8533 then 2 else if f.cfg.speed = 7500 then 1 else 0),
        (22, b2n f.cfg.reserve)]
    | 0x04 => fsUsable s
    | 0x08 => capacityUnits s
    | 0x0C => pack [(0, f.fillPtr), (31, b2n f.fillDone)]
    | 0x10 => pack [(0, b2n f.ce), (1, b2n f.ue), (2, b2n f.oor), (3, b2n f.unfilled)]
    | 0x14 => f.lastUe / 2 ^ 6 % 2 ^ 32
    | 0x18 => pack [(0, f.lastUe / 2 ^ 38 % 4), (8, f.lastUeChan), (31, b2n f.lastUeValid)]
    | 0x1C => pack [(0, f.pdIdle), (12, f.agingUs), (22, f.scrubH), (30, b2n f.autoRetire)]
    | _ => 0)

/-- A counter of a pool by its place. -/
def poolCtrWord (c : PoolCounters) (k : Nat) : Nat :=
  match k with
  | 0 => c.acq
  | 1 => c.empty
  | 2 => c.holes
  | _ => c.reclaim

/-- The ledger's host view (R179): PD2. -/
def ledgerReg (o : Nat) (s : State) : Nat :=
  let l := s.ledger
  if 0x100 ≤ o ∧ o < 0x900 then
    let q := tabGet l.pools ((o - 0x100) / 0x20)
    if o % 4 ≠ 0 then 0 else if o % 0x20 < 0x10 then poolCtrWord q.ctr (o % 0x10 / 4) else poolCtrWord q.shadow (o % 0x10 / 4)
  else match o with
  | 0x00 => pack [(0, 4096 - (l.pools.map (fun e => if e.2.used then e.2.count else 0)).sum), (16, l.refs.length)]
  | 0x04 => l.reclaimed
  | 0x08 => pack [(0, l.errBuf), (12, l.errKind), (16, l.errToken)]
  | _ => 0

/-! The links, ingest, the outputs, the magazines. -/

/-- `MAC_STATUS.LINK`. -/
def linkCode (x : Link) : Nat :=
  match x with
  | .down => 0
  | .adapt => 1
  | .lock => 2
  | .aligned => 3
  | .sparing => 4
  | .up => 5

/-- The width code of `MAC_STATUS`. -/
def widthCode (w : Nat) : Nat := if w = 8 then 3 else if w = 4 then 2 else if w = 2 then 1 else 0

/-- The domain of a MAC: that of its first lane's quad; a MAC with no lanes is in none. -/
def macDomain (x : Mac) : Nat := if x.enabled then 5 + x.cfg.first / 4 else 32

/-- The data rate of a MAC in bits a second (R200): the nominal rate of an Ethernet mode; in KML-56 the payload of its lanes. -/
def macRate (x : Mac) : Nat :=
  match x.cfg.mode with
  | 1 => 25000000000
  | 2 => 50000000000
  | 3 => 100000000000
  | 4 => 200000000000
  | 5 => 400000000000
  | _ => 52940000000 * x.cfg.width

/-- The pause quanta that remain (R200): one of 512 bit times goes by after another from the moment the timer was loaded. -/
def pauseQuanta (now : Nat) (x : Mac) : Nat := x.tx.quanta - (now - x.tx.loadedAt) * macRate x / (512 * secUnits)

/-- The registers of a MAC (R211). -/
def macReg (now : Nat) (x : Mac) (o : Nat) : Nat :=
  let sp := fun (k : Nat) => tabGet x.lk.spares k
  let half := fun (k : Nat) => let q := tabGet x.tx.queues k
                               q.thr / 256 + 256 * (q.base / 256)
  match o with
  | 0x00 => pack [(0, x.cfg.mode), (3, x.cfg.role), (6, x.cfg.first), (11, widthCode x.cfg.width), (16, linkCode x.lk.link), (19, b2n x.lk.localFault),
      (20, b2n x.lk.remoteFault), (21, b2n x.lk.idMismatch), (22, b2n x.tx.paused), (23, b2n x.sleep)]
  | 0x04 => pauseQuanta now x
  | 0x08 => pack [(0, min 65535 x.lk.retries), (16, min 65535 x.lk.downs)]
  | 0x0C => pack [(0, (sp 0).lane), (7, b2n (sp 0).valid), (8, (sp 0).tx), (12, (sp 0).rx), (16, (sp 1).lane), (23, b2n (sp 1).valid), (24, (sp 1).tx), (28, (sp 1).rx)]
  | 0x10 => half 0 + 65536 * half 1
  | 0x14 => half 2 + 65536 * half 3
  | 0x18 => half 4 + 65536 * half 5
  | 0x1C => half 6 + 65536 * half 7
  | 0x20 => half64 x.half 0
  | 0x24 => half64 x.half 1
  | 0x28 => pack [(0, x.tx.underQueue), (15, b2n x.tx.underValid), (16, x.tx.underBytes)]
  | _ => 0

/-- Lane `n` as `HL_STATUS` shows it: that of a MAC asleep runs at no baud rate (R211). -/
def laneShown (s : State) (n : Nat) : Lane :=
  let l := laneAt s n
  if l.use ≠ 0 ∧ (macAt s l.mac).sleep then { l with baud := 0 } else l

/-- `HL_STATUS`. -/
def laneReg (x : Lane) : Nat :=
  pack [(0, x.use), (2, x.mac), (6, x.baud), (8, b2n x.signal), (9, b2n x.cdr), (10, b2n x.marker), (11, b2n x.fault), (12, x.rxLogical), (16, x.txLogical)]

/-- A counter of an ingest stream by its place. -/
def ingestCtrWord (c : IngestCounters) (k : Nat) : Nat :=
  match k with
  | 0 => c.ok
  | 1 => c.holed
  | 2 => c.dropNoBuf
  | 3 => c.formatErr
  | 4 => c.linesOk
  | 5 => c.holeLines
  | 6 => c.segErr
  | 7 => c.segOrder
  | 8 => c.orphan
  | 9 => c.feMissing
  | 10 => c.frameCrcErr
  | _ => c.frameGap

/-- The registers of ingest stream `k` (R230): PD30. -/
def ingestReg (k o : Nat) (s : State) : Nat :=
  let x := inAt s k
  if o % 4 ≠ 0 then 0
  else if 0x10 ≤ o ∧ o < 0x40 then ingestCtrWord x.ctr ((o - 0x10) / 4)
  else if 0x50 ≤ o ∧ o < 0x80 then ingestCtrWord x.shadow ((o - 0x50) / 4)
  else match o with
  | 0x00 => pack [(0, b2n x.enabled), (1, inCode x.state), (3, b2n x.low), (4, x.cfg.mac), (8, x.cfg.pool), (16, if x.state = .opened then x.pic.buffer else 0)]
  | 0x08 => half64 x.lastFrame 0
  | 0x0C => half64 x.lastFrame 1
  | _ => 0

/-- The state code of an SDI lane (R387): off, picture, black structure, or held. -/
def sdiStateCode (x : SdiLane) : Nat :=
  if !x.cfg.enabled then 0 else if x.picture then 1 else if x.cfg.held then 3 else 2

/-- A counter of an SDI lane by its place. -/
def sdiCtrWord (c : SdiCounters) (k : Nat) : Nat :=
  match k with
  | 0 => c.frames
  | 1 => c.slips
  | 2 => c.ancEmpty
  | _ => c.ancDrop

/-- The registers of SDI lane `n` (R395): PD28 (DESIGN CHOICE, log entry 18). -/
def sdiReg (n o : Nat) (s : State) : Nat :=
  let x := sdiAt s n
  if o % 4 ≠ 0 then 0
  else if 0x20 ≤ o ∧ o < 0x30 then sdiCtrWord (sdiCtr s x) (o % 0x10 / 4)
  else if 0x30 ≤ o then sdiCtrWord x.shadow (o % 0x10 / 4)
  else match o with
  | 0x00 => pack [(0, b2n x.cfg.enabled), (1, x.cfg.head), (4, x.cfg.fmt), (8, sdiStateCode x), (10, b2n x.ref), (11, b2n x.mismatch),
      (12, if x.cfg.quad then n % 4 else 0), (16, x.fill)]
  | 0x04 => if x.cfg.enabled then Config.sdiDelayNs x.cfg.fmt x.cfg.quad % 2 ^ 32 else 0
  | 0x08 => x.prod
  | 0x0C => x.cons
  | 0x10 => pack [(0, b2n x.slip), (1, b2n x.ancEmpty), (2, b2n x.ancDrop), (3, b2n x.mismatchSeen)]
  | _ => 0

/-- `PP_STATUS.STATE` (R393). -/
def panelCode (x : PanelState) : Nat :=
  match x with
  | .off => 0
  | .init => 1
  | .video => 2
  | .standby => 3

/-- The registers of panel port `p` (R395): PD29. -/
def panelReg (p o : Nat) (s : State) : Nat :=
  let x := panelAt s p
  match o with
  | 0x00 => pack [(0, panelCode x.state), (2, x.cfg.head), (5, x.cfg.half), (7, x.cfg.lanes - 1), (9, x.cfg.mode), (11, b2n (!x.list.isEmpty)), (16, if x.state = .off ∨ (panelRate s x.cfg).2 = 0 then 0 else (panelRate s x.cfg).1 / (panelRate s x.cfg).2 % 8192)]
  | 0x04 => b2n x.mismatchSeen
  | 0x10 => x.frames
  | 0x14 => x.dcs
  | 0x20 => x.fshadow
  | 0x24 => x.dshadow
  | _ => 0

/-- `MG_STATUS.STATE` (R402). -/
def magCode (x : MagState) : Nat :=
  match x with
  | .off => 0
  | .search => 1
  | .caps => 2
  | .mounting => 3
  | .index => 4
  | .ready => 5
  | .recording => 6
  | .busy => 7

/-- A counter of a magazine slot by its place. -/
def magCtrWord (c : MagCounters) (k : Nat) : Nat :=
  match k with
  | 0 => c.commit
  | 1 => c.crcBad
  | 2 => c.resend
  | 3 => c.stale
  | 4 => c.retry
  | 5 => c.holdUs
  | _ => 0

/-- The registers of magazine slot `i` (R426): PD30. -/
def magReg (i o : Nat) (s : State) : Nat :=
  let x := magAt s i
  let k := copyAt s i
  if o % 4 ≠ 0 then 0
  else if 0x40 ≤ o ∧ o < 0x60 then magCtrWord x.ctr ((o - 0x40) / 4)
  else if 0x60 ≤ o ∧ o < 0x80 then magCtrWord x.shadow ((o - 0x60) / 4)
  else match o with
  | 0x00 => pack [(0, magCode x.state), (3, b2n x.noPartner), (4, b2n (decide (x.indexEpoch = some x.epoch))), (5, b2n k.decoupled), (6, k.channel), (8, x.mac),
      (16, x.notice), (20, x.lastClose)]
  | 0x04 => x.epoch
  | 0x08 => k.clip
  | 0x0C => k.sent - k.first
  | 0x10 => k.committed - k.first
  | 0x14 => k.credit
  | 0x18 => x.free / 2 ^ 20 % 2 ^ 32
  | 0x1C => half64 x.serial 0
  | 0x20 => half64 x.serial 1
  | _ => 0

/-- `REC_STATUS.STATE`. -/
def recCode (x : RecState) : Nat :=
  match x with
  | .idle => 0
  | .armed => 1
  | .recording => 2
  | .draining => 3
  | .stopBath => 4

/-- A counter of a record channel by its place. -/
def recCtrWord (c : RecCounters) (k : Nat) : Nat :=
  match k with
  | 0 => c.pictures
  | 1 => c.gap
  | 2 => c.holed
  | 3 => c.poisoned
  | 4 => c.decouple
  | 5 => c.rereadMib
  | _ => 0

/-- The lag of slot `i`'s stream, in pictures (R418). -/
def recLag (s : State) (c i : Nat) : Nat :=
  match copyOf s c i with
  | none => 0
  | some k => if k.decoupled then min 255 ((recAt s c).main - k.next) else 0

/-- The registers of record channel `c` (R426): PD30. -/
def recReg (c o : Nat) (s : State) : Nat :=
  let x := recAt s c
  let open64 := fun (v : Option Nat) (k : Nat) => match v with
    | some f => half64 f k
    | none => 2 ^ 32 - 1
  if o % 4 ≠ 0 then 0
  else if 0x40 ≤ o ∧ o < 0x60 then recCtrWord x.ctr ((o - 0x40) / 4)
  else if 0x60 ≤ o ∧ o < 0x80 then recCtrWord x.shadow ((o - 0x60) / 4)
  else match o with
  | 0x00 => pack [(0, recCode x.state), (3, x.cfg.targets), (5, mask 2 (fun i => (copyOf s c i).isSome)), (7, mask 2 (fun i => (copyOf s c i).any (fun k => k.decoupled))),
      (9, b2n x.cfg.span), (10, b2n x.cfg.encrypt), (11, b2n x.cfg.match1), (12, x.cfg.pool)]
  | 0x04 => open64 x.start 0
  | 0x08 => open64 x.start 1
  | 0x0C => open64 x.stop 0
  | 0x10 => open64 x.stop 1
  | 0x14 => half64 x.mainFrame 0
  | 0x18 => half64 x.mainFrame 1
  | 0x1C => pack [(0, recLag s c 0), (8, recLag s c 1), (16, b2n x.hold.isSome)]
  | _ => 0

/-- `REC_STOPBATH`. -/
def stopBathReg (s : State) : Nat :=
  let b := s.mag.bath
  pack [(0, b.state), (2, b.abandoned), (4, b.noAck), (16, min 65535 b.durationUs)]

/-! The picture path. -/

/-- A counter of a layer by its place. -/
def layCtrWord (c : LayerCounters) (k : Nat) : Nat :=
  match k with
  | 0 => c.frames
  | 1 => c.skipped
  | 2 => c.fetch
  | _ => c.poison

/-- The registers of layer `l` (R261): PD27. -/
def layerReg (l o : Nat) (s : State) : Nat :=
  let x := layAt s l
  let fmt := match x.lastBuf.bind (poolOf s) with
    | some p => (poolAt s p).format
    | none => 0
  if o % 4 ≠ 0 then 0
  else if 0x10 ≤ o ∧ o < 0x20 then layCtrWord x.ctr (o % 0x10 / 4)
  else if 0x20 ≤ o ∧ o < 0x30 then layCtrWord x.cshadow (o % 0x10 / 4)
  else match o with
  | 0x00 => pack [(0, x.head.getD 0), (3, b2n x.head.isSome), (4, b2n x.visible), (5, b2n x.occluder), (8, x.lastBuf.getD 0), (20, b2n x.lastBuf.isSome)]
  | 0x04 => pack [(0, fmt), (16, x.cfg.src.orient)]
  | _ => 0

/-- The fast-path registers of layer `l` (R261): PD27. -/
def fastReg (l o : Nat) (s : State) : Nat :=
  let x := layAt s l
  let f := x.fp
  match o with
  | 0x00 => pack [(0, unsignedOf 16 f.staging.dx), (16, unsignedOf 16 f.staging.dy)]
  | 0x04 => pack [(0, f.staging.cx), (16, f.staging.cy)]
  | 0x08 => pack [(0, f.staging.cw), (16, f.staging.ch)]
  | 0x10 => pack [(0, b2n x.cfg.env.on), (1, b2n f.pending.isSome), (2, b2n f.rejected), (3, b2n f.discarded), (16, f.applied % 65536)]
  | _ => 0

/-- The head fetch registers of head `h` (R261). -/
def fetchReg (h o : Nat) (s : State) : Nat :=
  let d := hdAt s h
  match o with
  | 0x00 => pack [(0, d.res.cls), (16, resLevel s h)]
  | 0x04 => pack [(0, d.res.low), (16, d.res.critical)]
  | 0x08 => d.res.minLevel
  | 0x10 => d.ctr.u2
  | 0x14 => d.ctr.u3
  | 0x18 => d.ctr.starved
  | 0x20 => d.cshadow.u2
  | 0x24 => d.cshadow.u3
  | 0x28 => d.cshadow.starved
  | _ => 0

/-- `LU_STATUS` of a 3D LUT unit (R293). -/
def lutReg (u : Nat) (s : State) : Nat :=
  let x := lutAt s u
  pack [(0, x.mode), (2, x.active), (3, x.pending), (4, b2n x.valid0), (5, b2n x.valid1), (6, b2n x.loading.isSome), (7, x.loading.getD 0),
    (8, x.head), (11, b2n (decide (x.mode ≠ 0) && pairLocked s x.head)), (16, x.swaps % 65536)]

/-- The scaler registers of video layer `l` (R293): the steps and the sizes in force for the current frame. -/
def scalerReg (l o : Nat) (s : State) : Nat :=
  let x := layAt s l
  let k := effCfg x
  let w := orientW k.src
  let h := orientH k.src
  let f := predec k.video w h k.geo.dw k.geo.dh
  if x.head.isNone then 0
  else match o with
  | 0x00 => scalerStep (ceilDiv w f.1) k.geo.dw
  | 0x04 => scalerStep (ceilDiv h f.2) k.geo.dh
  | 0x08 => pack [(0, ceilDiv w f.1), (14, f.1 / 2), (16, ceilDiv h f.2), (31, f.2 / 2)]
  | _ => 0

/-- `BL_LAYER` of layer `l` (R309). -/
def blendReg (l : Nat) (s : State) : Nat :=
  let x := layAt s l
  let z := match x.head with
    | some h => (zLayers s (lowerOf s h)).findIdx (fun j => decide (j = l))
    | none => 0
  pack [(0, x.cfg.blend.mode), (2, b2n x.cfg.blend.premult), (3, b2n (x.head.isSome && blendOccludes x.cfg.blend)), (4, z % 16), (16, x.cfg.blend.lw)]

/-- One byte of `BL_ZORDER`: the layer at place `k`, and whether the place is occupied. -/
def zByte (z : List Nat) (k : Nat) : Nat :=
  match z[k]? with
  | some l => l + 128
  | none => 0

/-- The colour and the blend registers (R293, R309): PD27, and the LUT unit's own domain for `LU_STATUS`. -/
def colourReg (o : Nat) (s : State) : Place :=
  if o % 4 ≠ 0 then noReg
  else if o < 0x10 then (23 + o / 4, lutReg (o / 4) s)
  else if 0x100 ≤ o ∧ o < 0x200 then (27, scalerReg ((o - 0x100) / 0x10) (o % 0x10) s)
  else if 0x200 ≤ o ∧ o < 0x300 then (27, blendReg ((o - 0x200) / 4) s)
  else if 0x300 ≤ o ∧ o < 0x380 then
    let z := zLayers s (lowerOf s ((o - 0x300) / 0x10))
    let k := o % 0x10
    (27, zByte z k + 256 * zByte z (k + 1) + 65536 * zByte z (k + 2) + 16777216 * zByte z (k + 3))
  else if 0x380 ≤ o ∧ o < 0x400 ∧ o % 0x10 < 12 then
    (27, unsignedOf 32 ((hdAt s (lowerOf s ((o - 0x380) / 0x10))).cfg.bg.getD (o % 0x10 / 4) 0))
  else noReg

/-- The samples that head `h`'s raster has passed since line 0 of its frame (R9, R96) (DEDUCED, log entry 86). -/
def headSamples (s : State) (h : Nat) : Nat := headPos s h / posUnit

/-- `HD_POS`: the line and the sample, rounded down to even. -/
def headPosReg (h : Nat) (s : State) : Nat :=
  let t := timingOf s h
  let n := headSamples s h
  if hTotal t = 0 ∨ vTotal t = 0 then 0 else pack [(0, n / hTotal t % vTotal t), (16, n % hTotal t / 2 * 2)]

/-- The head frame number as the registers show it: 0 before the first frame. -/
def frameReg (s : State) (h : Nat) : Nat := (headFrame s h).toNat

/-- `HD_STATUS`. -/
def headStatusReg (h : Nat) (s : State) : Nat :=
  let d := hdAt s h
  let l := hdAt s (lowerOf s h)
  let named := s.pic.fx.armed.filter (fun a => a.heads.any (fun j => (pairOf s j).contains h))
  pack [(0, b2n (headEnabled s h)), (1, b2n (pairLocked s h)), (2, freezeCode l.wb.freeze), (4, b2n (!named.isEmpty)),
    (5, b2n (named.any (fun a => a.bound.any (fun j => (pairOf s j).contains h)))), (6, b2n d.realign), (7, b2n ((headEnabled s h || d.enabling) && rasterHeld s 3 h)),
    (8, l.cfg.wbMode), (9, l.cfg.wbPool.getD 0), (16, if l.wb.freeze = .frozen then l.wb.frozenBuf.getD 0 else l.wb.lastNum)]

/-- The registers of head `h` (R337). -/
def headReg (h o : Nat) (s : State) : Nat :=
  let d := hdAt s h
  let t := timingOf s h
  match o with
  | 0x00 => t.hact
  | 0x04 => t.hfp
  | 0x08 => t.hsync
  | 0x0C => t.hbp
  | 0x10 => t.vact
  | 0x14 => t.vfp
  | 0x18 => t.vsync
  | 0x1C => t.vbp
  | 0x20 => pack [(0, b2n t.hpol), (1, b2n t.vpol), (2, b2n t.align)]
  | 0x24 => pack [(0, t.p), (16, t.q)]
  | 0x28 => unsignedOf 32 t.phase
  | 0x2C => unsignedOf 32 (satNs (tabGet s.time.tb.heads h).phaseErrNs)
  | 0x30 => headStatusReg h s
  | 0x34 => headPosReg h s
  | 0x38 => half64 (frameReg s h) 0
  | 0x3C => half64 (frameReg s h) 1
  | 0x40 => d.ctr.frames
  | 0x44 => d.ctr.commits
  | 0x48 => d.ctr.wbPub
  | 0x4C => d.ctr.wbDrop
  | 0x50 => d.ctr.frozen
  | 0x60 => d.cshadow.frames
  | 0x64 => d.cshadow.commits
  | 0x68 => d.cshadow.wbPub
  | 0x6C => d.cshadow.wbDrop
  | 0x70 => d.cshadow.frozen
  | _ => 0

/-- The cadence counters of layer `l` (R337). -/
def cadenceReg (l o : Nat) (s : State) : Nat :=
  let x := layAt s l
  match o with
  | 0x00 => x.repeats
  | 0x04 => x.skips
  | 0x08 => x.refused
  | _ => 0

/-- `FX_STATUS` (R337). -/
def fixerReg (s : State) : Nat :=
  pack [(0, s.pic.fx.armed.length), (16, mask 16 (fun n => s.pic.fx.armed.any (fun a => decide (a.handle = some n) && !a.released)))]

/-- `SHED_HEAD` of head `h` (R356). -/
def shedHeadReg (h : Nat) (s : State) : Nat :=
  let l := stepsOf s s.pic.shed.taken
  let d := hdAt s h
  pack [(0, mask 7 (fun t => (tiersShed l h).contains t)), (7, b2n (freezes l h)), (8, d.appliedTiers % 128), (15, b2n d.freezeApplied)]

/-- The admission and shedding registers (R356): PD1. ADM_LOAD holds its reset value until the firmware is ready (DEDUCED, log
entry 20). -/
def shedReg (o : Nat) (s : State) : Nat :=
  let p := s.pic.shed
  match o with
  | 0x00 => if s.boot.ready then admLoad s else 0
  | 0x04 => p.shedLoad
  | 0x08 => p.usable
  | 0x10 => p.resIngest
  | 0x14 => p.resRecord
  | 0x18 => p.resStream
  | 0x1C => p.resBe
  | 0x20 => pack [(0, p.plan.length), (8, p.taken.length), (16, p.next), (24, b2n p.exhausted), (25, b2n p.holding)]
  | 0x24 => pack [(0, p.lastStep), (5, b2n p.lastRestore), (15, b2n p.lastValid), (16, p.lastSaving)]
  | 0x80 => p.ctr.taken
  | 0x84 => p.ctr.restored
  | 0x88 => p.ctr.rejected
  | 0x90 => p.shadow.taken
  | 0x94 => p.shadow.restored
  | 0x98 => p.shadow.rejected
  | _ => if o % 4 ≠ 0 then 0 else if 0x40 ≤ o ∧ o < 0x60 then committedDemand s ((o - 0x40) / 4) else if 0x60 ≤ o ∧ o < 0x80 then shedHeadReg ((o - 0x60) / 4) s else 0

/-- The registers of region `r` of head `h` (R372): 0 on the upper head of a locked pair. -/
def signatureReg (h r o : Nat) (s : State) : Nat :=
  let x := sigAt s h r
  if isUpperOfPair s h then 0
  else match o with
  | 0x0 => pack [(0, b2n (sigCfg s h r).enable), (1, b2n x.outside), (2, b2n x.fault), (3, b2n x.acting), (4, b2n x.matched), (5, x.matchIdx), (8, x.miss), (16, x.good)]
  | 0x4 => x.value
  | 0x8 => x.frame % 2 ^ 32
  | 0xC => x.mismatches
  | _ => 0

/-- The signature registers and `SIG_TALLY` (R367, R372). -/
def signatureRegion (o : Nat) (s : State) : Place :=
  if o % 4 ≠ 0 then noReg
  else if o < 0x800 then (15 + o / 0x100, signatureReg (o / 0x100) (o % 0x100 / 0x10) (o % 0x10) s)
  else if o < 0xA00 then (15 + (o - 0x800) / 0x40, (sigAt s ((o - 0x800) / 0x40) (o % 0x40 / 4)).mshadow)
  else if o = 0xA00 then (3, pack [(0, b2n (tallyLevel s)), (1, b2n s.pic.tallyForce), (8, mask 8 (tallyHead s))])
  else noReg

/-! Events and DMA. -/

/-- `EVT_SUM` and `EVT_SUM_RAW` (R494). -/
def sumWord (s : State) (raw : Bool) : Nat :=
  mask 32 (fun g => decide (tabGet s.ev.pend g &&& (if raw then 0xFFFFFFFF#32 else tabGet s.ev.en g) ≠ 0#32))

/-- The host view of the event unit (R502): PD2. -/
def eventReg (o : Nat) (s : State) : Nat :=
  let e := s.ev
  let g := o % 0x80 / 4
  let pin := fun (n : Nat) => tabGet e.pins n
  if o % 4 ≠ 0 then 0
  else if o < 0x80 then (tabGet e.pend g).toNat
  else if o < 0x100 then (tabGet e.en g).toNat
  else if o = 0x100 then sumWord s false
  else if o = 0x104 then sumWord s true
  else if o = 0x108 then e.armed.toNat
  else if 0x180 ≤ o ∧ o < 0x200 then pack [(0, tabGet e.holdoff g), (16, b2n (e.running.getLsbD g))]
  else if 0x200 ≤ o ∧ o < 0x280 then tabGet e.msgs g
  else if 0x280 ≤ o ∧ o < 0x300 then tabGet e.msgsShadow g
  else if o = 0x400 then mask 16 (fun n => (pin n).level)
  else if 0x410 ≤ o ∧ o < 0x510 then
    let x := pin ((o - 0x410) / 0x10)
    match o % 0x10 with
    | 0x0 => pack [(0, x.count), (16, b2n x.level), (17, x.edge), (19, b2n x.invert), (24, x.filt)]
    | 0x4 => x.sec / 2 ^ 32
    | 0x8 => x.sec % 2 ^ 32
    | _ => x.ns
  else 0

/-- The Onyx side of the event unit (R498, R502), but for `EVC_CLAIM`, whose read is a command of the table. -/
def onyxReg (o : Nat) (s : State) : Nat :=
  let e := s.ev
  let g := o % 0x80 / 4
  if o = 0x008 then pack [(0, e.inService.getD 0), (10, b2n e.inService.isSome), (11, b2n e.completeErr), (16, e.spurious)]
  else if 0x100 ≤ o ∧ o < 0x180 ∧ o % 4 = 0 then (tabGet e.evcPend g).toNat
  else if 0x180 ≤ o ∧ o < 0x200 ∧ o % 4 = 0 then (tabGet e.evcEn g).toNat
  else 0

/-- `DC_STATUS.STATE` (R478). -/
def dcCode (x : DcState) : Nat :=
  match x with
  | .off => 0
  | .idle => 1
  | .running => 2
  | .halted => 3
  | .resetting => 4
  | .ring => 5

/-- An address in the layout of `DC_DB_LO`. -/
def dcAddrLo (a : DmaAddr) : Nat := a.addr % 2 ^ 32 / 32 * 32 + b2n a.fsa

/-- The registers of DMA channel `n` (R484): PD2. -/
def dmaReg (n o : Nat) (s : State) : Nat :=
  let x := dcAt s n
  match o with
  | 0x00 => x.dbLo
  | 0x0C => pack [(0, dcCode x.state), (3, b2n x.dbErr), (4, x.queue.length), (8, x.err), (16, x.owner)]
  | 0x10 => dcAddrLo x.cur
  | 0x14 => x.cur.addr / 2 ^ 32 % 65536
  | 0x18 => x.fault.addr % 2 ^ 32
  | 0x1C => pack [(0, x.fault.addr / 2 ^ 32 % 65536), (31, b2n x.fault.fsa)]
  | 0x20 => x.done
  | 0x24 => x.chains
  | 0x28 => x.prod
  | 0x2C => x.cons
  | 0x30 => x.kib
  | 0x34 => x.ringDrop
  | 0x38 => x.kibShadow
  | 0x3C => x.ringDropShadow
  | _ => 0

/-- The DMA channels and the fabric reset latch (R483, R484): PD2. -/
def dmaRegion (o : Nat) (s : State) : Nat :=
  let d := s.dma
  if o < 0x800 then dmaReg (o / 0x40) (o % 0x40) s
  else match o with
  | 0x800 => pack [(0, d.lastMaster), (8, b2n d.lastWrite), (31, b2n d.lastValid)]
  | 0x804 => d.lastAddr % 2 ^ 32
  | 0x808 => d.lastAddr / 2 ^ 32 % 256
  | _ => 0

/-! The 5200 window. -/

/-- A register of a window layer (R574). -/
def winLayerReg (x : WinLayer) (r : Nat) : Nat :=
  match r with
  | 0x0 => x.ctrl
  | 0x1 => x.alpha
  | 0x2 => x.baseLo
  | 0x3 => x.baseHi
  | 0x4 => x.stride
  | 0x5 => x.dx
  | 0x6 => x.dy
  | 0x7 => x.cx
  | 0x8 => x.cy
  | 0x9 => x.cw
  | 0xA => x.ch
  | _ => 0

/-- A head's layers in force have one that turns by 90 or 270 degrees. -/
def headTurns (s : State) (h : Nat) : Bool := anyUpTo 64 (fun l => decide ((layAt s l).head = some h) && rotated (layAt s l).cfg.src.orient)

/-- Register `r` of the 5200 window (R573, R574): its reset value while the window is disabled. -/
def windowReg (r : Nat) (s : State) : Nat :=
  let w := s.pic.win
  let k := (r - 0x10) / 16
  if r = 0 then 0x5200
  else if !w.enabled then (if 0x10 ≤ r ∧ r < 0x90 then winLayerReg {} (r % 16) else 0)
  else if 0x10 ≤ r ∧ r < 0x90 then winLayerReg (winAt s k) (r % 16)
  else match r with
  | 0x01 => pack [(0, 1), (1, b2n (headTurns s 0)), (2, b2n (headTurns s 1))]
  | 0x03 => pack [(0, b2n w.pend0.isSome), (1, b2n w.pend1.isSome), (2, w.late), (4, w.drop), (8, w.reason), (12, w.layer)]
  | 0x04 => w.excess
  | 0x05 => headPosReg 0 s % 8192
  | 0x06 => headPosReg 1 s % 8192
  | 0x07 => frameReg s 0 % 65536
  | 0x08 => frameReg s 1 % 65536
  | 0x09 => w.palAddr
  | 0x0A => tabGet (winAt s (w.palAddr / 256 % 8)).pal (w.palAddr % 256)
  | _ => 0

/-! Configuration space. -/

/-- The bytes that each base address register decodes (R581): BAR0, BAR2 and BAR4 only. -/
def barBytes (k : Nat) : Nat := if k = 0 then 2 ^ 22 else if k = 2 then 2 ^ 28 else if k = 4 then 2 ^ 13 else 0

/-- A word of configuration space (R580, R581): the header, then the Power Management and MSI-X words of `configWrite`
(PRESUMED, log entry 203). A base address register shows its type bits (PRESUMED, log entry 203). -/
def configReg (o : Nat) (s : State) : Nat :=
  match o with
  | 0x00 => 0x74801F3C
  | 0x04 => pack [(2, b2n s.host.busMaster), (20, 1)]
  | 0x08 => 0x04800010
  | 0x10 => 0x4
  | 0x18 => 0xC
  | 0x2C => 0x00011F3C
  | 0x44 => pack [(0, if s.host.d3hot then 3 else 0), (3, 1)]
  | 0xB0 => pack [(0, 0x11), (16, 31), (30, b2n s.host.functionMask), (31, b2n s.host.msixEnable)]
  | _ => 0

/-! BAR0. -/

/-- The regions below 0xA000 (R583). -/
def lowRegion (o : Nat) (s : State) : Place :=
  if o < 0x200 then (3, globalReg o s)
  else if o < 0x4000 then noReg
  else if o < 0x4100 then (4, timebaseReg (o - 0x4000) s)
  else if o < 0x4280 then (synDomain ((o - 0x4100) / 0x20), synReg ((o - 0x4100) / 0x20) (o % 0x20) s)
  else if o < 0x4300 then noReg
  else if o < 0x4400 then (4, schedReg (o - 0x4300) s)
  else if o < 0x4500 then (31, streamReg (o - 0x4400) s)
  else if o < 0x4600 then powerReg (o - 0x4500) s
  else if o < 0x4700 then (3, bootReg (o - 0x4600) s)
  else if o < 0x4800 then noReg
  else if o < 0x4C00 then (31, depackReg ((o - 0x4800) / 0x40) (o % 0x40) s)
  else if o < 0x5000 then (2, reliabilityReg (o - 0x4C00) s)
  else if o < 0x5700 then storeReg (o - 0x5000) s
  else if o < 0x6000 then (2, ledgerReg (o - 0x5700) s)
  else if o < 0x6400 then (macDomain (macAt s ((o - 0x6000) / 0x40)), macReg (runTime s) (macAt s ((o - 0x6000) / 0x40)) (o % 0x40))
  else if o < 0x6460 then (5 + (o - 0x6400) / 16, if o % 4 = 0 then laneReg (laneShown s ((o - 0x6400) / 4)) else 0)
  else if o < 0x7000 then noReg
  else if o < 0x7200 then (30, ingestReg ((o - 0x7000) / 0x80) (o % 0x80) s)
  else if o = 0x7200 then (30, s.ingest.unbound)
  else if o < 0x7400 then noReg
  else if o < 0x7600 then (28, sdiReg ((o - 0x7400) / 0x40) (o % 0x40) s)
  else if o < 0x7700 then (29, panelReg ((o - 0x7600) / 0x40) (o % 0x40) s)
  else if o < 0x7800 then noReg
  else if o < 0x7A00 then (30, magReg ((o - 0x7800) / 0x100) (o % 0x100) s)
  else if o < 0x7B00 then (30, recReg ((o - 0x7A00) / 0x80) (o % 0x80) s)
  else if o = 0x7B00 then (30, stopBathReg s)
  else if o < 0x7C00 then noReg
  else if o < 0x8000 then (31, stPortReg ((o - 0x7C00) / 0x40) (o % 0x40) s)
  else
    (2, half64 (tabGet (macAt s ((o - 0x8000) / 0x200)).shadow (o % 0x200 / 8)) (o % 8 / 4))

/-- The regions from 0xA000 up (R583). -/
def highRegion (o : Nat) (s : State) : Place :=
  if o < 0xB000 then (27, layerReg ((o - 0xA000) / 0x40) (o % 0x40) s)
  else if o < 0xB200 then (15 + (o - 0xB000) / 0x40, fetchReg ((o - 0xB000) / 0x40) (o % 0x40) s)
  else if o < 0xC000 then noReg
  else if o < 0xC400 then colourReg (o - 0xC000) s
  else if o < 0xD000 then noReg
  else if o < 0xD400 then (15 + (o - 0xD000) / 0x80, headReg ((o - 0xD000) / 0x80) (o % 0x80) s)
  else if o < 0xD800 then noReg
  else if o < 0xDC00 then (27, cadenceReg ((o - 0xD800) / 0x10) (o % 0x10) s)
  else if o < 0xE000 then noReg
  else if o < 0xE100 then (1, shedReg (o - 0xE000) s)
  else if o < 0xF000 then noReg
  else if o < 0x10000 then signatureRegion (o - 0xF000) s
  else if o < 0x20000 then (1, mailboxReg ((o - 0x10000) / 0x1000) (o % 0x1000) s)
  else if o < 0x40000 then noReg
  else if o < 0x60000 then (1, ringReg ((o - 0x40000) / 0x2000) (o % 0x2000) s)
  else if o < 0x80000 then noReg
  else if o < 0x80800 then (27, fastReg ((o - 0x80000) / 0x20) (o % 0x20) s)
  else if o < 0x81000 then noReg
  else if o < 0x81080 then (1, tabGet s.pic.fx.fences ((o - 0x81000) / 4))
  else if o = 0x81100 then (1, fixerReg s)
  else if o < 0x100000 then noReg
  else if o < 0x100600 then (2, eventReg (o - 0x100000) s)
  else if o < 0x200000 then noReg
  else if o < 0x20080C then (2, dmaRegion (o - 0x200000) s)
  else if o < 0x300000 then noReg
  else if o < 0x300200 then (3, windowReg ((o - 0x300000) / 2) s + 65536 * windowReg ((o - 0x300000) / 2 + 1) s)
  else if o < 0x380000 then noReg
  else if o < 0x380100 then (3, slRead false (o - 0x380000) s)
  else noReg

/-- The 32-bit register at an aligned BAR0 offset: its domain and what it holds (R583, R584) (DEDUCED, log entry 36). -/
def bar0Reg (o : Nat) (s : State) : Place := if o % 4 ≠ 0 then noReg else if o < 0xA000 then lowRegion o s else highRegion o s

/-- What a 32-bit read at an aligned BAR0 offset returns: 0 where the register's domain is not ON (R585) (DESIGN CHOICE, log entry 37). -/
def bar0Read (o : Nat) (s : State) : Word := BitVec.ofNat 32 (if domOn s (bar0Reg o s).1 then (bar0Reg o s).2 else 0)

end Sys2Proof.Machine
end

