-- ==== Sys2Proof/Safety.lean ====
section
/-! DEFINITION. The terms that statements use: when an entry is served at once, the command it becomes and the state it
acts on, what a response says, and the ranges that the registers of the Safelight domain keep. -/
namespace Sys2Proof.Machine
open Sys2Proof

/-! Entries that are served at once. -/

/-- The command that an entry becomes when mailbox `e.mailbox` takes it from state `s` (R32, R38). -/
def cmdOf (op : Nat) (e : CmdEntry) (s : State) : Cmd :=
  { mb := e.mailbox.val, opcode := op, ticket := e.ticket.toNat, flags := e.flags.toNat, length := e.length.toNat,
    seq := (mbAt s e.mailbox.val).cmdHead,
    params := (e.payload ++ List.replicate (56 - e.payload.length) 0).take e.length.toNat }

/-- The state on which an entry's command acts: the entry stands in the ring, the doorbell has moved the tail count past
it, and the firmware has moved the head count and its round robin past it (R36, R37, R38, R43). -/
def entered (op : Nat) (e : CmdEntry) (s : State) : State :=
  let n := e.mailbox.val
  let m := mbAt s n
  let s1 := modMb n (fun x => { x with cmdTail := (m.cmdTail + 1) % 65536 })
    (modMb n (writeEntry (m.cmdTail % 64) (entryWords op e)) s)
  modMb n (fun x => { x with cmdHead := (x.cmdHead + 1) % 65536 }) { s1 with ctl.rrNext := (n + 1) % 16 }

/-- An entry with an opcode in its 56 bytes, without an extended payload, is taken and served at once: its mailbox is
served and empty, no command in flight holds the mailbox, ORDER finds none in flight, a step-cut command finds fewer than
four open, and the response ring has the entries it needs (R34, R43, R44). -/
abbrev Served (op : Nat) (e : CmdEntry) (s : State) : Prop :=
  serving s e.mailbox.val = true ∧ s.power.state ≠ .standby ∧
  (mbAt s e.mailbox.val).cmdHead = (mbAt s e.mailbox.val).cmdTail ∧ (mbAt s e.mailbox.val).cmdTail < 65536 ∧
  (mbCmds s e.mailbox.val).any holdsMailbox = false ∧
  (e.flags = 0 ∨ (e.flags = 2 ∧ mbCmds s e.mailbox.val = [])) ∧
  (op ∈ stepCutOpcodes → stepCutOpen s e.mailbox.val < 4) ∧
  (if op ∈ stepCutOpcodes then 2 else 1) ≤ freeEntries s e.mailbox.val ∧
  e.payload.length ≤ 56 ∧ e.length.toNat ≤ 56 ∧
  knownOpcode op = true ∧ (op / 256 = 15 → e.mailbox.val = 0) ∧
  reducedBars s op = false ∧ lengthNeed (cmdOf op e s) ≤ e.length.toNat

/-- `n` payload bytes from an offset are 0, as R598 asks of reserved bytes. -/
abbrev Zero (c : Cmd) (o n : Nat) : Prop := ∀ b ∈ c.bytes o n, b = 0

/-- A command that ends in its first slice with OK and a RESULT (R35, R39, R42). -/
def answered (op : Nat) (e : CmdEntry) (s : State) (result : List Byte) (t : State) : State :=
  postFinal (cmdOf op e s) .ok 0 result t

/-- A command that waits after its first slice (R42). -/
def waiting (op : Nat) (e : CmdEntry) (s : State) (w : WaitFor) (t : State) : State :=
  addCmd { cmdOf op e s with phase := .waiting w } t

/-- A step-cut command that has posted ACCEPTED and goes on with a job (R42, R45). -/
def accepted (op : Nat) (e : CmdEntry) (s : State) (j : Job) (t : State) : State :=
  let c := cmdOf op e s
  addCmd { c with lastRsp := runTime t, phase := .stepping j } (postResp c.mb (respOf c .accepted false 0 0 []) t)

/-- A step-cut command that has posted ACCEPTED and ends in the same slice (R42). -/
def acceptedAndEnded (op : Nat) (e : CmdEntry) (s : State) (st : Status) (detail : Nat) (result : List Byte) (t : State) : State :=
  let c := cmdOf op e s
  postFinal { c with lastRsp := runTime t } st detail result (postResp c.mb (respOf c .accepted false 0 0 []) t)

/-- Entry `i` of TIME_REF_SELECT is one that R65 allows: an Ethernet port in the network role, an enabled ingest context or a
single input, with a rate exactly where the type has one. -/
def refEntryOk (c : Cmd) (t : State) (i : Nat) : Bool :=
  let ty := c.u8 (4 + 12 * i)
  let un := c.u8 (5 + 12 * i)
  let num := c.u32 (8 + 12 * i)
  let den := c.u32 (12 + 12 * i)
  decide (c.u16 (6 + 12 * i) = 0) && decide (ty ≤ 5) &&
  (match ty with
   | 4 => decide (un ≤ 15) && macIsNetwork t un
   | 5 => decide (un ≤ 3) && ingestConfigured t un
   | _ => decide (un = 0)) &&
  (if ty = 0 ∨ ty = 4 then decide (num = 0) && decide (den = 0) else decide (num ≠ 0) && decide (den ≠ 0))

/-- The source that a LAYER_SOURCE_SET spells (R246). -/
def srcOf (c : Cmd) : Source :=
  { kind := c.u8 1, opaq := bit (c.u8 2) 0, buffer := c.u16 4, pool := c.u8 6, cx := c.u16 8, cy := c.u16 10, cw := c.u16 12, ch := c.u16 14, orient := c.u8 16 }

/-- The references that a CFG_COMMIT takes for the KIND 1 sources of its layers (R247, R324). -/
def commitRefs (c : Cmd) (t : State) : List (Nat × Nat × Nat) :=
  newRefs t ((commitArgs c).named.flatMap (fun h => (nativeLayers t h).map (fun l => (l, h, (layAt t l).shadow))))

/-- The lane settings that an SDI_LANE_SET spells (R374). -/
def laneSetOf (c : Cmd) : LaneSet :=
  { enabled := decide (c.u8 1 = 1), head := c.u8 2, fmt := c.u8 3, pid := bit (c.u8 4) 0, atc := bit (c.u8 4) 1, held := bit (c.u8 4) 2,
    quad := bit (c.u8 4) 3, tcSource := bit (c.u8 4) 4, tcLayer := c.u8 5, pidOverride := c.un 8 3 }

/-- The port settings that a PANEL_PORT_SET spells (R389). -/
def panelCfgOf (c : Cmd) : PanelCfg :=
  { head := c.u8 2, half := c.u8 3, lanes := c.u8 4, mode := c.u8 5, dt := c.u8 6, eotp := bit (c.u8 7) 0, deskew := bit (c.u8 7) 1, mbps := c.u16 8 }

/-- The port settings that a MAC_CONFIG spells (R182, R183). -/
def macCfgOf (c : Cmd) : MacCfg :=
  { mode := c.u8 2, role := c.u8 3, first := c.u8 4, width := c.u8 5, fec := c.u8 6, linkId := c.u8 7, maxFrame := c.u16 8,
    rxPauseEn := bit (c.u8 10) 0, precode := bit (c.u8 10) 1, defaultQ := c.u8 11, dest := (List.range 8).map (fun i => c.u8 (12 + i)),
    pauseAlarm := c.u16 20 }

/-- The leave that assigning a spare lane asks for (R181, R191, R511): none while the port sleeps. -/
def spareGrant (c : Cmd) (t : State) : Grant := if (macAt t (c.u8 0)).sleep then {} else quadGrant [c.u8 3 / 4] 3

/-- The leave that waking a port asks for (R211, R511). -/
def macGrant (t : State) (m : Nat) : Grant :=
  quadGrant (quadsOf (macLanes (macAt t m) ++ spareLanes (macAt t m))) (modeBaud (macAt t m).cfg.mode (macAt t m).cfg.width)

/-- The command of an entry with FLAGS.EXT, whose payload is yet to be fetched (R33). -/
def fetchOf (op : Nat) (e : CmdEntry) (s : State) : Cmd :=
  { mb := e.mailbox.val, opcode := op, ticket := e.ticket.toNat, flags := e.flags.toNat, length := e.length.toNat,
    seq := (mbAt s e.mailbox.val).cmdHead, params := e.payload ++ List.replicate (56 - e.payload.length) 0 }

/-- An entry with FLAGS.EXT and a known opcode is taken at once, and its payload fetched (R33, R34, R43, R44). -/
abbrev Fetched (op : Nat) (e : CmdEntry) (s : State) : Prop :=
  serving s e.mailbox.val = true ∧ s.power.state ≠ .standby ∧
  (mbAt s e.mailbox.val).cmdHead = (mbAt s e.mailbox.val).cmdTail ∧ (mbAt s e.mailbox.val).cmdTail < 65536 ∧
  (mbCmds s e.mailbox.val).any holdsMailbox = false ∧ fetching s e.mailbox.val = none ∧ e.flags = 1 ∧
  (if op ∈ stepCutOpcodes then 2 else 1) ≤ freeEntries s e.mailbox.val ∧
  (op ∈ stepCutOpcodes → stepCutOpen s e.mailbox.val < 4) ∧
  e.payload.length ≤ 56 ∧ 1 ≤ e.length.toNat ∧ e.length.toNat ≤ 4096 ∧ (fetchOf op e s).u64 0 % 4 = 0 ∧
  knownOpcode op = true ∧ (op / 256 = 15 → e.mailbox.val = 0)

/-- The state while the payload of an entry is fetched. -/
def fetchingState (op : Nat) (e : CmdEntry) (s : State) : State := addCmd (fetchOf op e s) (entered op e s)

/-- The command with the payload bytes that were fetched. -/
def fetchedCmd (op : Nat) (e : CmdEntry) (b : List Byte) (s : State) : Cmd := { fetchOf op e s with params := b }

/-- The state on which a command with an extended payload acts. -/
def fetchedState (op : Nat) (e : CmdEntry) (s : State) : State :=
  { entered op e s with ctl := { (entered op e s).ctl with inflight := s.ctl.inflight } }

/-! The rows of the table by what they are. -/

/-- The opcode and the entry of a row that the host submits through a mailbox (R32). -/
def rowEntry : Instr → Option (Nat × CmdEntry)
  | .sysNop e => some (0x0101, e)
  | .headConfigReport e => some (0x0606, e)
  | .timeRefSelect e => some (0x0201, e)
  | .timeCorrectionSet e => some (0x0202, e)
  | .timeStepApprove e => some (0x0203, e)
  | .timeSet e => some (0x0204, e)
  | .refRasterSet e => some (0x0205, e)
  | .tcSet e => some (0x0206, e)
  | .headSlewSet e => some (0x0207, e)
  | .captureRasterSet e => some (0x0208, e)
  | .synConfig e => some (0x0209, e)
  | .synCacheFill e => some (0x020A, e)
  | .captureRampLoad e => some (0x020B, e)
  | .captureRampStart e => some (0x020C, e)
  | .evtSlotSet e => some (0x0301, e)
  | .evtSlotGet e => some (0x0302, e)
  | .evoConfig e => some (0x0303, e)
  | .eviConfig e => some (0x0304, e)
  | .fsInfo e => some (0x0401, e)
  | .fsPolicySet e => some (0x0402, e)
  | .fsFill e => some (0x0403, e)
  | .fsPatrolReport e => some (0x0404, e)
  | .fsChannelRetire e => some (0x0405, e)
  | .ledgerPoolCreate e => some (0x0410, e)
  | .ledgerPoolDelete e => some (0x0411, e)
  | .ledgerOp e => some (0x0412, e)
  | .ledgerDescGet e => some (0x0413, e)
  | .ingestStreamSet e => some (0x0501, e)
  | .ingestStreamGet e => some (0x0502, e)
  | .headTimingSet e => some (0x0601, e)
  | .headPairSet e => some (0x0602, e)
  | .headWritebackSet e => some (0x0603, e)
  | .layerCadenceSet e => some (0x0604, e)
  | .cfgCommit e => some (0x0605, e)
  | .layerAssign e => some (0x0610, e)
  | .layerSourceSet e => some (0x0611, e)
  | .layerGeometrySet e => some (0x0612, e)
  | .layerPaletteSet e => some (0x0613, e)
  | .layerEnvelopeSet e => some (0x0614, e)
  | .headFetchSet e => some (0x0615, e)
  | .layerBlendSet e => some (0x0616, e)
  | .headZorderSet e => some (0x0617, e)
  | .headBackgroundSet e => some (0x0618, e)
  | .contactSheetSet e => some (0x0619, e)
  | .admissionReserveSet e => some (0x0620, e)
  | .layerShedSet e => some (0x0621, e)
  | .shedPlanSet e => some (0x0622, e)
  | .shedPolicySet e => some (0x0623, e)
  | .admissionReport e => some (0x0624, e)
  | .compat5200Set e => some (0x0630, e)
  | .scalerCoefLoad e => some (0x0701, e)
  | .layerScalerSet e => some (0x0702, e)
  | .layerDecodeSet e => some (0x0703, e)
  | .matrixSet e => some (0x0704, e)
  | .lut1dLoad e => some (0x0705, e)
  | .lut1dBuiltin e => some (0x0706, e)
  | .lut1dRead e => some (0x0707, e)
  | .graphicColourSet e => some (0x0708, e)
  | .headOutputSet e => some (0x0709, e)
  | .lut3dAssign e => some (0x070A, e)
  | .lut3dLoad e => some (0x070B, e)
  | .sigRegionSet e => some (0x0801, e)
  | .sdiLaneSet e => some (0x0901, e)
  | .sdiAncRingSet e => some (0x0902, e)
  | .panelPortSet e => some (0x0903, e)
  | .panelDcsSend e => some (0x0904, e)
  | .magSlotSet e => some (0x0A01, e)
  | .magIndexRead e => some (0x0A02, e)
  | .magFormat e => some (0x0A03, e)
  | .magEject e => some (0x0A04, e)
  | .recChannelSet e => some (0x0A10, e)
  | .recKeySet e => some (0x0A11, e)
  | .recStartAt e => some (0x0A12, e)
  | .recStopAt e => some (0x0A13, e)
  | .macConfig e => some (0x0B01, e)
  | .macSpareSet e => some (0x0B02, e)
  | .macTxqSet e => some (0x0B03, e)
  | .macRuleSet e => some (0x0B04, e)
  | .macFilterSet e => some (0x0B05, e)
  | .macStatsGet e => some (0x0B06, e)
  | .macSleep e => some (0x0B07, e)
  | .streamSubSet e => some (0x0B10, e)
  | .streamPortSet e => some (0x0B11, e)
  | .streamSubCtrl e => some (0x0B12, e)
  | .streamRxFlowSet e => some (0x0B13, e)
  | .streamDepackSet e => some (0x0B14, e)
  | .streamStatsRead e => some (0x0B15, e)
  | .ptpPortSet e => some (0x0B18, e)
  | .rigSet e => some (0x0B19, e)
  | .dmaChannelSet e => some (0x0C01, e)
  | .powerBudgetSet e => some (0x0D01, e)
  | .powerStateSet e => some (0x0D02, e)
  | .faultLogRead e => some (0x0E01, e)
  | .faultRecover e => some (0x0E02, e)
  | .diagCoreInfo e => some (0x0E03, e)
  | .diagFsRaw e => some (0x0E04, e)
  | .availClear e => some (0x0E05, e)
  | .fwInfo e => some (0x0F01, e)
  | .fwUpdate e => some (0x0F02, e)
  | .fwConfirm e => some (0x0F03, e)
  | .secFuseProgram e => some (0x0F04, e)
  | _ => none

/-- Rows that may change the Safelight domain: entries and doorbells through the host's wake, and the rows of the domain
itself (R503, R509, R523 to R531, R592). -/
def reachesSafelight : Instr → Bool
  | .mbDbWrite _ _ => true
  | .referenceFrameStart => true
  | .wakeDetect _ => true
  | .pwrWakeWrite _ => true
  | .comparatorChange _ => true
  | .vsafeSwitchover _ => true
  | .safelightReset => true
  | .rtcSecond => true
  | .safelightWake _ => true
  | .rtcSecHiRead _ => true
  | .firmwareReady => true
  | .mgmtSpiRead _ => true
  | .mgmtSpiWrite _ => true
  | .mgmtSpiWake _ => true
  | .mgmtSpiAbort _ => true
  | .slSpiClear _ => true
  | .registerWrite _ _ _ => true
  | .safelightTcFrame => true
  | i => (rowEntry i).isSome

/-- The registers of the Safelight domain hold values of their fields' ranges (R523 to R530, R592). -/
abbrev SafelightRanges (l : Safelight) : Prop :=
  l.switchovers ≤ 255 ∧ l.spiCrcErrs ≤ 255 ∧ l.wakeEn < 512 ∧ l.wakeCause < 1024 ∧
  l.rtcSec < 2 ^ 48 ∧ l.alarm < 2 ^ 48 ∧ -128 ≤ l.trim ∧ l.trim ≤ 127 ∧
  l.latchBar.1 < 2 ^ 32 ∧ l.latchBar.2 < 32768 ∧ l.latchSpi.1 < 2 ^ 32 ∧ l.latchSpi.2 < 32768 ∧ tabWf l.cmps = true ∧
  ∀ k < 6, (tabGet l.cmps k).thresh < 256 ∧ (tabGet l.cmps k).hyst < 16 ∧ 1 ≤ (tabGet l.cmps k).filt ∧ (tabGet l.cmps k).filt ≤ 255

/-- An entry that its mailbox takes at once, whatever its checks say (R36, R38, R43, R44). -/
abbrev InTurn (op : Nat) (e : CmdEntry) (s : State) : Prop :=
  serving s e.mailbox.val = true ∧ s.power.state ≠ .standby ∧
  (mbAt s e.mailbox.val).cmdHead = (mbAt s e.mailbox.val).cmdTail ∧ (mbAt s e.mailbox.val).cmdTail < 65536 ∧
  (mbCmds s e.mailbox.val).any holdsMailbox = false ∧
  (bit e.flags.toNat 1 = true → mbCmds s e.mailbox.val = []) ∧
  (op ∈ stepCutOpcodes → stepCutOpen s e.mailbox.val < 4) ∧
  (if op ∈ stepCutOpcodes then 2 else 1) ≤ freeEntries s e.mailbox.val ∧ e.payload.length ≤ 56

/-- The state after an entry has been answered with a refusal whose DETAIL R34 does not state. -/
def refusedEntry (op : Nat) (e : CmdEntry) (s : State) (st : Status) : State := postFinal (cmdOf op e s) st unstated [] (entered op e s)

/-! The operands and states with which rows complete, one predicate for each form that a statement names. -/

/-- A mailbox that takes doorbells (R37, R50, R585). -/
abbrev okDoorbell (mb : Fin 16) (s : State) : Prop :=
  (domOn s 1 = true ∨ s.power.state = .standby) ∧ (mbAt s mb).enable = true ∧ (mbAt s mb).state = .ready

/-- Number `n` is the lowest that can be claimed, with none in service (R498). -/
abbrev okClaim (n : Nat) (s : State) : Prop :=
  domOn s 2 = true ∧ s.ev.inService = none ∧ n < 1023 ∧ claimable s n = true ∧ ∀ k < n, claimable s k = false

/-- Number `n` is in service. -/
abbrev okComplete (n : Fin 1024) (s : State) : Prop := domOn s 2 = true ∧ s.ev.inService = some n.val

/-- Number `n` is not in service. -/
abbrev okCompleteOther (n : Fin 1024) (s : State) : Prop := domOn s 2 = true ∧ s.ev.inService ≠ some n.val

/-- A source is raised whose number is in service. -/
abbrev okRaiseServed (n : Fin 1024) (s : State) : Prop :=
  s.ev.inService = some n.val ∧ s.ev.retention = false ∧ sourceReserved n.val = false ∧ unitOn s n.val = true

/-- A source that is not reserved, of a unit whose domain is on, with the event unit out of retention (R487, R489, R502). -/
abbrev okRaised (source : Fin 1024) (s : State) : Prop :=
  sourceReserved source.val = false ∧ s.ev.retention = false ∧ unitOn s source.val = true

/-- The host's registers of the event unit can be written. -/
abbrev okHostClear (s : State) : Prop := domOn s 3 = true ∧ domOn s 2 = true

/-- A whole line above the valid-line maps, below the capacity, of a store brought up, filled, on a channel that works (R141, R146, R148,
R149, R172). -/
abbrev okWholeLine (line : Nat) (b : List Byte) (s : State) : Prop :=
  b.length = 64 ∧ 131072 ≤ line ∧ beyond s (64 * line) = false ∧ s.fs.up = true ∧ aboveFill s (64 * line) = false ∧
  chanDead s (placeOf s (64 * line)).1 = false

/-- The registers of BAR0 below the heads' with a Reset value in the spec's tables: the first offset, the step from one to
the next, how many there are, and the value. -/
abbrev resetRowsLow : List (Nat × Nat × Nat × Nat) :=
  [(0x0, 0x0, 1, 0x107480), (0x10, 0x0, 1, 0x1000), (0x14, 0x0, 1, 0x0), (0x100, 0x4, 2, 0x0), (0x4004, 0x4, 4, 0x0),
   (0x4018, 0x4, 3, 0x0), (0x4030, 0x4, 4, 0x0), (0x4100, 0x20, 12, 0x4), (0x4110, 0x20, 12, 0x0), (0x4114, 0x20, 12, 0x0),
   (0x4118, 0x20, 12, 0x0), (0x4300, 0x4, 7, 0x0), (0x4320, 0x4, 7, 0x0), (0x4340, 0x0, 1, 0x0), (0x4400, 0x4, 2, 0x0),
   (0x4410, 0x4, 5, 0x0), (0x4430, 0x4, 3, 0x0), (0x4500, 0x0, 1, 0x1), (0x4504, 0x0, 1, 0xabe0), (0x4508, 0x0, 1, 0xfa0),
   (0x451c, 0x0, 1, 0x0), (0x4520, 0x4, 8, 0x0), (0x4610, 0x4, 3, 0x0), (0x4620, 0x0, 1, 0x0), (0x4624, 0x0, 1, 0x0),
   (0x462c, 0x0, 1, 0x0), (0x4800, 0x40, 16, 0x0), (0x4c04, 0x0, 1, 0x0), (0x4c10, 0x4, 3, 0x0), (0x4c20, 0x0, 1, 0x0),
   (0x4c30, 0x4, 4, 0x0), (0x4d00, 0x4, 104, 0x0), (0x4ec0, 0x4, 78, 0x0), (0x5004, 0x0, 1, 0x0), (0x500c, 0x0, 1, 0x0),
   (0x5010, 0x4, 3, 0x0), (0x501c, 0x0, 1, 0x6014008), (0x5040, 0x4, 16, 0x0), (0x5100, 0x4, 256, 0x0), (0x5500, 0x4, 128, 0x0),
   (0x5700, 0x0, 1, 0x1000), (0x5704, 0x4, 2, 0x0), (0x5800, 0x4, 512, 0x0), (0x6000, 0x40, 16, 0x0), (0x6004, 0x40, 16, 0x0),
   (0x6008, 0x40, 16, 0x0), (0x600c, 0x40, 16, 0xff00ff00), (0x6010, 0x40, 16, 0x8080808), (0x6014, 0x40, 16, 0x8080808),
   (0x6018, 0x40, 16, 0x8080808), (0x601c, 0x40, 16, 0x8080808), (0x6020, 0x40, 16, 0x0), (0x6024, 0x40, 16, 0x0), (0x6028, 0x40, 16, 0x0),
   (0x6400, 0x4, 24, 0xff000), (0x7000, 0x80, 4, 0x0), (0x7010, 0x4, 28, 0x0), (0x7200, 0x0, 1, 0x0), (0x7400, 0x40, 8, 0x0),
   (0x7408, 0x40, 8, 0x0), (0x740c, 0x40, 8, 0x0), (0x7410, 0x40, 8, 0x0), (0x7600, 0x40, 4, 0x0), (0x7604, 0x40, 4, 0x0)]

/-- The same for the registers above them. -/
abbrev resetRowsHigh : List (Nat × Nat × Nat × Nat) :=
  [(0x7800, 0x100, 2, 0x0), (0x7808, 0x4, 7, 0x0), (0x7a00, 0x80, 2, 0x0), (0x7a04, 0x4, 4, 0xffffffff), (0x7a84, 0x4, 4, 0xffffffff),
   (0x7a14, 0x4, 3, 0x0), (0x7b00, 0x0, 1, 0x0), (0x7c00, 0x40, 16, 0x0), (0x8000, 0x4, 128, 0x0), (0xa000, 0x40, 64, 0x0),
   (0xa004, 0x40, 64, 0x0), (0xb000, 0x40, 8, 0x0), (0xb008, 0x40, 8, 0x0), (0xc000, 0x4, 4, 0x0), (0xc100, 0x4, 64, 0x0),
   (0xc200, 0x4, 64, 0xffff0000), (0xc300, 0x4, 32, 0x0), (0xc380, 0x4, 32, 0x0), (0xd000, 0x4, 256, 0x0), (0xd800, 0x4, 256, 0x0),
   (0xe004, 0x4, 2, 0x0), (0xe010, 0x4, 3, 0x0), (0xe01c, 0x0, 1, 0x1388), (0xe020, 0x4, 2, 0x0), (0xe040, 0x4, 16, 0x0),
   (0xe080, 0x4, 3, 0x0), (0xf000, 0x4, 512, 0x0), (0xfa00, 0x0, 1, 0x0), (0x10004, 0x18, 2, 0x1), (0x11004, 0x1000, 15, 0x0),
   (0x1101c, 0x1000, 15, 0x0), (0x1000c, 0x1000, 16, 0x0), (0x10010, 0x1000, 16, 0x0), (0x10014, 0x1000, 16, 0x0),
   (0x10018, 0x1000, 16, 0x0), (0x80000, 0x4, 512, 0x0), (0x81000, 0x4, 32, 0x0), (0x81100, 0x0, 1, 0x0), (0x100000, 0x4, 64, 0x0),
   (0x100100, 0x4, 2, 0x0), (0x100108, 0x0, 1, 0xffffffff), (0x100180, 0x4, 32, 0x0), (0x100200, 0x4, 64, 0x0), (0x100400, 0x0, 1, 0x0),
   (0x100410, 0x10, 16, 0x1000000), (0x200000, 0x4, 512, 0x0), (0x200800, 0x4, 3, 0x0), (0x300000, 0x0, 1, 0x5200),
   (0x300004, 0x4, 5, 0x0), (0x300020, 0x20, 8, 0xff0000), (0x380000, 0x0, 1, 0x8), (0x380004, 0x4, 3, 0x0), (0x380010, 0x4, 5, 0x0),
   (0x380040, 0x0, 1, 0x1068a), (0x380044, 0x0, 1, 0x44ba), (0x380048, 0x4, 2, 0xc844b), (0x380050, 0x0, 1, 0x10587),
   (0x380054, 0x0, 1, 0x1000), (0x380064, 0x0, 1, 0x18c), (0x380068, 0x0, 1, 0x0), (0x3800f0, 0x0, 1, 0x107480), (0x3800f4, 0x0, 1, 0x0)]

/-- A register reads its Reset value at every place of a row. -/
abbrev rowAtReset (r : Nat × Nat × Nat × Nat) : Prop := ∀ i < r.2.2.1, (bar0Reg (r.1 + r.2.1 * i) State.reset).2 = r.2.2.2

/-- The host's registers are on: PD3, and the domain that holds the register. -/
abbrev okReadable (o : Nat) (s : State) : Prop := domOn s 3 = true ∧ domOn s (bar0Reg o s).1 = true

/-- The operands and the state with which timeCorrectionSet completes (timeCorrectionSet). -/
abbrev okTimeCorrectionSet (c : Cmd) (_t : State) : Prop :=
  Zero c 11 1 ∧
  c.u32 0 ≤ 100000000 ∧
  1000 ≤ c.u32 4 ∧
  c.u32 4 ≤ 200000 ∧
  100 ≤ c.u16 8 ∧
  c.u16 8 ≤ 60000 ∧
  c.u8 10 ≤ 1

/-- The operands and the state with which headSlewSet completes (headSlewSet). -/
abbrev okHeadSlewSet (c : Cmd) (_t : State) : Prop :=
  Zero c 1 3 ∧
  c.u8 0 ≤ 7 ∧
  100 ≤ c.u32 4 ∧
  c.u32 4 ≤ 200000 ∧
  100 ≤ c.u32 8 ∧
  c.u32 8 ≤ 1000000

/-- The operands and the state with which timeRefSelect completes (timeRefSelect). -/
abbrev okTimeRefSelect (c : Cmd) (t : State) : Prop :=
  1 ≤ c.u8 0 ∧
  c.u8 0 ≤ 4 ∧
  Zero c 1 3 ∧
  (∀ i, i < c.u8 0 → refEntryOk c t i = true) ∧
  sameRef ((List.range (c.u8 0)).map (fun i => (c.u8 (4 + 12 * i), c.u8 (5 + 12 * i)))) = false

/-- The operands and the state with which timeStepApprove completes (timeStepApprove). -/
abbrev okTimeStepApprove (c : Cmd) (t : State) : Prop :=
  Zero c 1 3 ∧
  c.u8 0 = 0 ∧
  t.time.tb.state = .stepPending

/-- The operands and the state with which timeStepApprove completes (timeStepDecline). -/
abbrev okTimeStepDecline (c : Cmd) (t : State) : Prop :=
  Zero c 1 3 ∧
  c.u8 0 = 1 ∧
  t.time.tb.state = .stepPending

/-- The operands and the state with which timeSet completes (timeSet). -/
abbrev okTimeSet (c : Cmd) (t : State) : Prop :=
  Zero c 6 2 ∧
  c.u32 8 ≤ 999999999 ∧
  t.time.tb.state = .freerun

/-- The operands and the state with which refRasterSet completes (refRasterSet). -/
abbrev okRefRasterSet (c : Cmd) (t : State) : Prop :=
  1 ≤ c.u32 0 ∧
  c.u32 0 ≤ 240000 ∧
  (c.u32 4 = 1000 ∨ c.u32 4 = 1001) ∧
  2 ≤ c.u16 8 ∧
  c.u16 8 ≤ 8192 ∧
  2 ≤ c.u16 10 ∧
  c.u16 10 ≤ 16384 ∧
  (c.i32 12).natAbs * c.u32 0 < c.u32 4 * 1000000000 ∧
  (anyHeadEnabled t = true → c.u32 0 = t.time.ref.num ∧ c.u32 4 = t.time.ref.den)

/-- The operands and the state with which tcSet completes (tcSet). -/
abbrev okTcSet (c : Cmd) (t : State) : Prop :=
  Zero c 3 1 ∧
  c.u8 2 ≤ 3 ∧
  c.u8 0 ≤ 3 ∧
  c.u8 1 ≤ 4 ∧
  (bit (c.u8 2) 0 = true → c.u8 1 = 4) ∧
  tcFieldsOk { hh := c.u8 7, mm := c.u8 6, ss := c.u8 5, ff := c.u8 4 } (c.u8 1) = true ∧
  (tcFactor (t.time.refPending.getD t.time.ref) (c.u8 1)).isSome = true

/-- The operands and the state with which captureRasterSet completes (captureRasterFollow). -/
abbrev okCaptureRasterFollow (c : Cmd) (t : State) : Prop :=
  c.u8 0 = 0 ∧
  c.u8 1 ≤ 3 ∧
  t.time.ramp.run = none ∧
  (t.time.cap.mode.drive = true → anyClipOpen t = false)

/-- The operands and the state with which captureRasterSet completes (captureRasterDrive). -/
abbrev okCaptureRasterDrive (c : Cmd) (t : State) : Prop :=
  c.u8 0 = 1 ∧
  1 ≤ c.u16 2 ∧
  1 ≤ c.u32 8 ∧
  1 ≤ c.u32 12 ∧
  capDivider (c.u32 8 * 1000000) (c.u32 12) (c.u16 2) ≤ 65535 * 16777216 ∧
  8640 * 16777216 ≤ 250 * capDivider (c.u32 8 * 1000000) (c.u32 12) (c.u16 2) ∧
  t.time.ramp.run = none ∧
  (t.time.cap.mode.drive = false → anyClipOpen t = false)

/-- The operands and the state with which synConfig completes (synConfigRunning). -/
abbrev okSynConfigRunning (c : Cmd) (t : State) : Prop :=
  c.u8 2 ≤ 1 ∧
  Zero c 6 2 ∧
  Zero c 11 1 ∧
  Zero c 13 3 ∧
  c.u8 0 ≤ 11 ∧
  c.u8 0 ≠ 8 ∧
  c.u8 1 ≤ 2 ∧
  1 ≤ c.u8 3 ∧
  16 ≤ c.u16 4 ∧
  1 ≤ c.un 8 3 ∧
  (c.u8 0 = 10 ∨ c.u8 0 = 11 → c.u8 12 ≤ 7 ∨ c.u8 12 = 255) ∧
  (c.u8 0 < 8 → isUpperOfPair t (c.u8 0) = false) ∧
  (c.u8 0 = 9 → c.u8 1 = (synAt t (c.u8 0)).words.refMode) ∧
  synHeld t (c.u8 0) = false ∧
  (c.u8 0 = 10 ∨ c.u8 0 = 11 → c.u8 1 = (synAt t (c.u8 0)).words.refMode) ∧
  synInUse t (c.u8 0) = true

/-- The operands and the state with which synConfig completes (synConfigIdle). -/
abbrev okSynConfigIdle (c : Cmd) (t : State) : Prop :=
  c.u8 2 ≤ 1 ∧
  Zero c 6 2 ∧
  Zero c 11 1 ∧
  Zero c 13 3 ∧
  c.u8 0 ≤ 11 ∧
  c.u8 0 ≠ 8 ∧
  c.u8 1 ≤ 2 ∧
  1 ≤ c.u8 3 ∧
  16 ≤ c.u16 4 ∧
  1 ≤ c.un 8 3 ∧
  (c.u8 0 = 10 ∨ c.u8 0 = 11 → c.u8 12 ≤ 7 ∨ c.u8 12 = 255) ∧
  (c.u8 0 < 8 → isUpperOfPair t (c.u8 0) = false) ∧
  (c.u8 0 = 9 → c.u8 1 = (synAt t (c.u8 0)).words.refMode) ∧
  synHeld t (c.u8 0) = false ∧
  synInUse t (c.u8 0) = false ∧
  (synAt t (c.u8 0)).state ≠ .off

/-- The operands and the state with which synConfig completes (synConfigOff). -/
abbrev okSynConfigOff (c : Cmd) (t : State) : Prop :=
  c.u8 2 ≤ 1 ∧
  Zero c 6 2 ∧
  Zero c 11 1 ∧
  Zero c 13 3 ∧
  c.u8 0 ≤ 11 ∧
  c.u8 0 ≠ 8 ∧
  c.u8 1 ≤ 2 ∧
  1 ≤ c.u8 3 ∧
  16 ≤ c.u16 4 ∧
  1 ≤ c.un 8 3 ∧
  (c.u8 0 = 10 ∨ c.u8 0 = 11 → c.u8 12 ≤ 7 ∨ c.u8 12 = 255) ∧
  (c.u8 0 < 8 → isUpperOfPair t (c.u8 0) = false) ∧
  (c.u8 0 = 9 → c.u8 1 = (synAt t (c.u8 0)).words.refMode) ∧
  synHeld t (c.u8 0) = false ∧
  synInUse t (c.u8 0) = false ∧
  (synAt t (c.u8 0)).state = .off

/-- The operands and the state with which synConfig completes (synConfigDrive). -/
abbrev okSynConfigDrive (c : Cmd) (t : State) : Prop :=
  c.u8 2 ≤ 1 ∧
  Zero c 6 2 ∧
  Zero c 11 1 ∧
  Zero c 13 3 ∧
  c.u8 0 = 8 ∧
  1 ≤ c.u8 3 ∧
  16 ≤ c.u16 4 ∧
  1 ≤ c.un 8 3 ∧
  synHeld t 8 = false ∧
  t.time.cap.mode.drive = true

/-- The operands and the state with which synConfig completes (synConfigFollow). -/
abbrev okSynConfigFollow (c : Cmd) (t : State) : Prop :=
  c.u8 2 ≤ 1 ∧
  Zero c 6 2 ∧
  Zero c 11 1 ∧
  Zero c 13 3 ∧
  c.u8 0 = 8 ∧
  1 ≤ c.u8 3 ∧
  16 ≤ c.u16 4 ∧
  1 ≤ c.un 8 3 ∧
  synHeld t 8 = false ∧
  t.time.cap.mode.drive = false ∧
  (synAt t 8).state ≠ .off

/-- The operands and the state with which synCacheFill completes (synCacheFill). -/
abbrev okSynCacheFill (c : Cmd) (t : State) : Prop :=
  2 ≤ c.u8 1 ∧
  c.u8 1 ≤ 13 ∧
  Zero c 2 2 ∧
  c.u8 0 ≤ 11 ∧
  c.u8 0 ≠ 8 ∧
  c.u8 0 ≠ 9 ∧
  (∀ i, i < c.u8 1 → 5000 ≤ c.u32 (4 + 4 * i) ∧ c.u32 (4 + 4 * i) ≤ 10000) ∧
  synInUse t (c.u8 0) = false ∧
  synHeld t (c.u8 0) = false

/-- The operands and the state with which synCacheFill completes (synCacheFillOne). -/
abbrev okSynCacheFillOne (c : Cmd) (t : State) : Prop :=
  c.u8 1 = 1 ∧
  Zero c 2 2 ∧
  c.u8 0 ≤ 11 ∧
  c.u8 0 ≠ 8 ∧
  c.u8 0 ≠ 9 ∧
  5000 ≤ c.u32 4 ∧
  c.u32 4 ≤ 10000 ∧
  synInUse t (c.u8 0) = false ∧
  synHeld t (c.u8 0) = false

/-- The operands and the state with which captureRampLoad completes (captureRampLoad). -/
abbrev okCaptureRampLoad (c : Cmd) (t : State) : Prop :=
  1 ≤ c.u8 0 ∧
  c.u8 0 ≤ 6 ∧
  Zero c 1 3 ∧
  (∀ i, i < c.u8 0 → 1000 ≤ c.u32 (4 + 8 * i) ∧ c.u32 (4 + 8 * i) ≤ 4000000000 ∧ 1 ≤ c.u32 (8 + 8 * i) ∧ c.u32 (8 + 8 * i) ≤ 60000000) ∧
  t.time.ramp.run = none

/-- The operands and the state with which captureRampStart completes (captureRampStart). -/
abbrev okCaptureRampStart (c : Cmd) (t : State) : Prop :=
  Zero c 1 7 ∧
  c.u8 0 = 0 ∧
  (c.u64 8 = 0 ∨ t.time.cap.frame < c.u64 8) ∧
  t.time.cap.mode.drive = true ∧
  t.time.ramp.profile ≠ [] ∧
  rampEndsOk t.time.ramp.profile t.time.cap.mode.lines = true ∧
  t.time.ramp.run = none ∧
  t.time.ramp.startFrame = none

/-- The operands and the state with which captureRampStart completes (captureRampFreeze). -/
abbrev okCaptureRampFreeze (c : Cmd) (t : State) (r : RampRun) : Prop :=
  Zero c 1 7 ∧
  c.u8 0 = 1 ∧
  t.time.ramp.run = some r

/-- The operands and the state with which evtSlotSet completes (evtSlotSetNow). -/
abbrev okEvtSlotSetNow (c : Cmd) (t : State) : Prop :=
  Zero c 22 2 ∧
  c.u16 0 ≤ 4031 ∧
  (∀ x ∈ slotChecks t { action := c.u8 2, kind := c.u8 3, unit := c.u8 4, repeats := c.u8 5, flags := c.u8 6, pin := c.u8 7, frame := c.u64 8, pos := c.u32 16, arg := c.u16 20, stop := c.u32 24, count := c.u32 28 }, x.1 = false) ∧
  (slotAt t (c.u16 0)).armed = none ∧
  tooSoon t { action := c.u8 2, kind := c.u8 3, unit := c.u8 4, repeats := c.u8 5, flags := c.u8 6, pin := c.u8 7, frame := c.u64 8, pos := c.u32 16, arg := c.u16 20, stop := c.u32 24, count := c.u32 28 } = false

/-- The operands and the state with which evtSlotSet completes (evtSlotSetArmed). -/
abbrev okEvtSlotSetArmed (c : Cmd) (t : State) : Prop :=
  Zero c 22 2 ∧
  c.u16 0 ≤ 4031 ∧
  (∀ x ∈ slotChecks t { action := c.u8 2, kind := c.u8 3, unit := c.u8 4, repeats := c.u8 5, flags := c.u8 6, pin := c.u8 7, frame := c.u64 8, pos := c.u32 16, arg := c.u16 20, stop := c.u32 24, count := c.u32 28 }, x.1 = false) ∧
  (slotAt t (c.u16 0)).armed.isSome = true

/-- The operands and the state with which evtSlotGet completes (evtSlotGet). -/
abbrev okEvtSlotGet (c : Cmd) (_t : State) : Prop :=
  c.u16 0 ≤ 4095

/-- The operands and the state with which evoConfig completes (evoConfig). -/
abbrev okEvoConfig (c : Cmd) (_t : State) : Prop :=
  c.u8 1 ≤ 3 ∧
  Zero c 3 1 ∧
  c.u8 0 ≤ 15

/-- The operands and the state with which eviConfig completes (eviConfig). -/
abbrev okEviConfig (c : Cmd) (_t : State) : Prop :=
  c.u8 3 ≤ 1 ∧
  c.u8 0 ≤ 15 ∧
  c.u8 1 ≤ 3 ∧
  1 ≤ c.u8 2

/-- The operands and the state with which fsPolicySet completes (fsPolicySet). -/
abbrev okFsPolicySet (c : Cmd) (_t : State) : Prop :=
  c.u16 0 ≤ 4000 ∧
  1 ≤ c.u16 2 ∧
  c.u16 2 ≤ 1000 ∧
  1 ≤ c.u8 4 ∧
  c.u8 4 ≤ 168 ∧
  c.u8 5 ≤ 1 ∧
  1 ≤ c.u16 6

/-- The operands and the state with which fsFill completes (fsFillLong). -/
abbrev okFsFillLong (c : Cmd) (t : State) : Prop :=
  Zero c 20 4 ∧
  c.u64 0 % 65536 = 0 ∧
  1 ≤ c.u64 8 ∧
  c.u64 8 % 65536 = 0 ∧
  c.u64 0 + c.u64 8 ≤ capacity t ∧
  ledgerOverlap t (c.u64 0) (c.u64 8) = false ∧
  t.fs.fillDone = true ∧
  fillHeld t (c.u64 0) (c.u64 8) = false ∧
  retireHeld t = false ∧
  gib < c.u64 8

/-- The operands and the state with which fsFill completes (fsFillShort). -/
abbrev okFsFillShort (c : Cmd) (t : State) : Prop :=
  Zero c 20 4 ∧
  c.u64 0 % 65536 = 0 ∧
  1 ≤ c.u64 8 ∧
  c.u64 8 % 65536 = 0 ∧
  c.u64 0 + c.u64 8 ≤ capacity t ∧
  ledgerOverlap t (c.u64 0) (c.u64 8) = false ∧
  t.fs.fillDone = true ∧
  fillHeld t (c.u64 0) (c.u64 8) = false ∧
  retireHeld t = false ∧
  c.u64 8 ≤ gib

/-- The operands and the state with which fsPatrolReport completes (fsPatrolReport). -/
abbrev okFsPatrolReport (c : Cmd) (t : State) : Prop :=
  Zero c 12 4 ∧
  c.u64 0 % 4 = 0 ∧
  16 ≤ c.u32 8 ∧
  c.u32 8 ≤ 16384 ∧
  hostReachable t = true

/-- The operands and the state with which fsChannelRetire completes (fsChannelRetire). -/
abbrev okFsChannelRetire (c : Cmd) (t : State) : Prop :=
  Zero c 1 3 ∧
  c.u8 0 ≤ 15 ∧
  t.fs.cfg.reserve = true ∧
  anyRetired t = false ∧
  t.fs.fillDone = true ∧
  retireHeld t = false ∧
  fillHeldAny t = false

/-- The operands and the state with which ledgerPoolCreate completes (ledgerPoolCreate). -/
abbrev okLedgerPoolCreate (c : Cmd) (t : State) (p f : Nat) : Prop :=
  c.u64 0 % 4096 = 0 ∧
  8388608 ≤ c.u64 0 ∧
  1 ≤ c.u32 8 ∧
  c.u32 8 % 4096 = 0 ∧
  1 ≤ c.u16 12 ∧
  c.u16 12 ≤ 4096 ∧
  c.u8 14 ≤ 1 ∧
  (c.u8 14 = 1 → 2 ≤ c.u16 12 ∧ c.u8 15 = 0) ∧
  (c.u8 14 = 0 → 1 ≤ c.u8 15 ∧ c.u8 15 ≤ min (c.u16 12) 255) ∧
  1 ≤ c.u16 16 ∧
  c.u16 16 ≤ 16384 ∧
  formatOk (c.u16 18) = true ∧
  c.u16 16 * c.u32 20 ≤ c.u32 8 ∧
  formatMinSize (c.u16 18) (c.u16 16) (c.u32 20) ≤ c.u32 8 ∧
  c.u64 0 + c.u32 8 * c.u16 12 ≤ capacity t ∧
  poolOverlap t (c.u64 0) (c.u32 8 * c.u16 12) = false ∧
  (List.range 64).find? (fun p => !(poolAt t p).used) = some p ∧
  (List.range 4096).find? (fun f => runFree t f (c.u16 12)) = some f ∧
  (t.fs.fillDone = true ∨ c.u64 0 + c.u32 8 * c.u16 12 ≤ t.fs.fillPtr * 65536)

/-- The operands and the state with which ledgerPoolDelete completes (ledgerPoolDelete). -/
abbrev okLedgerPoolDelete (c : Cmd) (t : State) : Prop :=
  Zero c 1 3 ∧
  c.u8 0 ≤ 63 ∧
  (poolAt t (c.u8 0)).used = true ∧
  (∀ b ∈ poolBufs (poolAt t (c.u8 0)), (bufAt t b).state = .free ∨ (bufAt t b).state = .quarantined) ∧
  poolBound t (c.u8 0) = false

/-- The operands and the state with which ledgerOp completes (ledgerOpAcquire). -/
abbrev okLedgerOpAcquire (c : Cmd) (t : State) (b : Nat) : Prop :=
  Zero c 22 2 ∧
  c.u8 0 = 0 ∧
  c.u8 1 ≤ 63 ∧
  (poolAt t (c.u8 1)).used = true ∧
  (ledgerAcquire (c.u8 1) (agentToken t clsMailbox c.mb) t).1 = some b

/-- The operands and the state with which ledgerOp completes (ledgerOpPublish). -/
abbrev okLedgerOpPublish (c : Cmd) (t : State) (p : Nat) : Prop :=
  Zero c 22 2 ∧
  c.u8 0 = 1 ∧
  c.u16 2 ≤ 4095 ∧
  poolOf t (c.u16 2) = some p ∧
  c.u16 4 + c.u16 6 ≤ (poolAt t p).lines ∧
  c.u32 24 < 1000000000 ∧
  bufInDescriptor t c.mb (c.u16 2) = false ∧
  writerCase t (c.u16 2) (agentToken t clsMailbox c.mb) = .ok

/-- The operands and the state with which ledgerOp completes (ledgerOpDiscard). -/
abbrev okLedgerOpDiscard (c : Cmd) (t : State) : Prop :=
  Zero c 22 2 ∧
  c.u8 0 = 2 ∧
  c.u16 2 ≤ 4095 ∧
  (poolOf t (c.u16 2)).isSome = true ∧
  bufInDescriptor t c.mb (c.u16 2) = false ∧
  writerCase t (c.u16 2) (agentToken t clsMailbox c.mb) = .ok

/-- The operands and the state with which ledgerOp completes (ledgerOpTake). -/
abbrev okLedgerOpTake (c : Cmd) (t : State) : Prop :=
  Zero c 22 2 ∧
  c.u8 0 = 3 ∧
  c.u16 2 ≤ 4095 ∧
  (poolOf t (c.u16 2)).isSome = true ∧
  (bufAt t (c.u16 2)).state = .published ∧
  refCount t (c.u16 2) < 255 ∧
  t.ledger.refs.length < 16384

/-- The operands and the state with which ledgerOp completes (ledgerOpRelease). -/
abbrev okLedgerOpRelease (c : Cmd) (t : State) : Prop :=
  Zero c 22 2 ∧
  c.u8 0 = 4 ∧
  c.u16 2 ≤ 4095 ∧
  (poolOf t (c.u16 2)).isSome = true ∧
  releaseCase t (c.u16 2) (agentToken t clsMailbox c.mb) = .ok

/-- The operands and the state with which ledgerDescGet completes (ledgerDescGet). -/
abbrev okLedgerDescGet (c : Cmd) (_t : State) : Prop :=
  c.u16 0 ≤ 4095

/-- The operands and the state with which ingestStreamSet completes (ingestStreamEnable). -/
abbrev okIngestStreamEnable (c : Cmd) (t : State) : Prop :=
  c.u8 0 ≤ 3 ∧
  c.u8 1 = 1 ∧
  Zero c 6 2 ∧
  c.u8 2 ≤ 15 ∧
  c.u8 3 ≤ 63 ∧
  (poolAt t (c.u8 3)).used = true ∧
  c.u16 4 ≤ 4096 ∧
  c.u32 8 ≤ 1000000000 ∧
  1000 ≤ c.u32 12 ∧
  c.u32 12 ≤ 10000000 ∧
  (inAt t (c.u8 0)).enabled = false ∧
  notLinear (poolAt t (c.u8 3)).format = false ∧
  (macAt t (c.u8 2)).enabled = true ∧
  (macAt t (c.u8 2)).cfg.role = 1

/-- The operands and the state with which ingestStreamSet completes (ingestStreamDisable). -/
abbrev okIngestStreamDisable (c : Cmd) (t : State) : Prop :=
  c.u8 0 ≤ 3 ∧
  c.u8 1 = 0 ∧
  (inAt t (c.u8 0)).enabled = true

/-- The operands and the state with which ingestStreamSet completes (ingestStreamResetAgain). -/
abbrev okIngestStreamResetAgain (c : Cmd) (t : State) : Prop :=
  c.u8 0 ≤ 3 ∧
  c.u8 1 = 0 ∧
  (inAt t (c.u8 0)).enabled = false

/-- The operands and the state with which ingestStreamGet completes (ingestStreamGet). -/
abbrev okIngestStreamGet (c : Cmd) (_t : State) : Prop :=
  Zero c 1 3 ∧
  c.u8 0 ≤ 3

/-- The operands and the state with which sysNop completes (sysNop). -/
abbrev okSysNop (c : Cmd) (_t : State) : Prop :=
  c.length ≤ 16

/-- The operands and the state with which headConfigReport completes (headConfigReport). -/
abbrev okHeadConfigReport (c : Cmd) (t : State) : Prop :=
  Zero c 2 2 ∧
  c.u8 0 ≤ 7 ∧
  c.u8 1 ≤ 1 ∧
  c.u32 4 % 32 = 0 ∧
  32 ≤ c.u32 4 ∧
  c.u32 4 ≤ 544 ∧
  c.u64 8 % 4 = 0 ∧
  isUpperOfPair t (c.u8 0) = false ∧
  hostReachable t = true

/-- The operands and the state with which faultLogRead completes (faultLogRead). -/
abbrev okFaultLogRead (c : Cmd) (t : State) : Prop :=
  Zero c 12 4 ∧
  c.u64 0 % 4 = 0 ∧
  c.u32 8 % 16 = 0 ∧
  16 ≤ c.u32 8 ∧
  c.u32 8 ≤ 4096 ∧
  hostReachable t = true

/-- The operands and the state with which faultRecover completes (faultRecover). -/
abbrev okFaultRecover (c : Cmd) (t : State) : Prop :=
  Zero c 1 3 ∧
  c.u8 0 ≤ 11 ∧
  (synAt t (c.u8 0)).state = .failed ∧
  (synAt t (c.u8 0)).refFault = false ∧
  synHeld t (c.u8 0) = false

/-- The operands and the state with which diagFsRaw completes (diagFsRawRead). -/
abbrev okDiagFsRawRead (c : Cmd) (t : State) : Prop :=
  Zero c 2 2 ∧
  c.u8 0 ≤ 15 ∧
  c.u32 4 < dataSpace t / 960 ∧
  c.u64 8 % 4 = 0 ∧
  (∀ i, i < 15 → ∀ f, fsaAt t (c.u8 0) (c.u32 4 * 960 + 64 * i) = some f → 8388608 ≤ f ∧ poolOverlap t f 64 = false) ∧
  (chanAt t (c.u8 0)).state = .active ∧
  t.fs.fillDone = true ∧
  hostReachable t = true ∧
  c.u8 1 = 0

/-- The operands and the state with which diagFsRaw completes (diagFsRawWrite). -/
abbrev okDiagFsRawWrite (c : Cmd) (t : State) : Prop :=
  Zero c 2 2 ∧
  c.u8 0 ≤ 15 ∧
  c.u32 4 < dataSpace t / 960 ∧
  c.u64 8 % 4 = 0 ∧
  (∀ i, i < 15 → ∀ f, fsaAt t (c.u8 0) (c.u32 4 * 960 + 64 * i) = some f → 8388608 ≤ f ∧ poolOverlap t f 64 = false) ∧
  (chanAt t (c.u8 0)).state = .active ∧
  t.fs.fillDone = true ∧
  hostReachable t = true ∧
  c.u8 1 = 1

/-- The operands and the state with which availClear completes (availClear). -/
abbrev okAvailClear (c : Cmd) (_t : State) : Prop :=
  c.u32 0 < 2 ^ 26

/-- The operands and the state with which fwUpdate completes (fwUpdate). -/
abbrev okFwUpdate (c : Cmd) (t : State) : Prop :=
  c.u8 1 ≤ 1 ∧
  Zero c 2 2 ∧
  c.u8 0 ≤ 1 ∧
  528 ≤ c.u32 4 ∧
  c.u32 4 ≤ 786944 ∧
  c.u64 8 % 4 = 0 ∧
  t.boot.fwLock = false ∧
  t.boot.slot ≠ c.u8 0 ∧
  (t.boot.trial = true → (recInForce t).1.active ≠ c.u8 0) ∧
  fwHeld t (c.u8 0) = false ∧
  hostReachable t = true

/-- The operands and the state with which fwConfirm completes (fwConfirmDrop). -/
abbrev okFwConfirmDrop (c : Cmd) (t : State) : Prop :=
  Zero c 2 2 ∧
  c.u8 1 ≤ 1 ∧
  t.boot.fwLock = false ∧
  c.u8 0 = 1 ∧
  c.u8 1 = 0

/-- The operands and the state with which fwConfirm completes (fwConfirmKeep). -/
abbrev okFwConfirmKeep (c : Cmd) (t : State) : Prop :=
  Zero c 2 2 ∧
  c.u8 1 ≤ 1 ∧
  t.boot.fwLock = false ∧
  c.u8 0 = 0 ∧
  c.u8 1 = 1 ∧
  t.boot.trial = true

/-- The operands and the state with which secFuseProgram completes (secFuseDebug). -/
abbrev okSecFuseDebug (c : Cmd) (t : State) : Prop :=
  Zero c 1 3 ∧
  t.boot.fwLock = false ∧
  c.u8 0 = 1 ∧
  t.boot.fuses.debugLock = false

/-- The operands and the state with which secFuseProgram completes (secFuseRevoke). -/
abbrev okSecFuseRevoke (c : Cmd) (t : State) : Prop :=
  Zero c 1 3 ∧
  t.boot.fwLock = false ∧
  (c.u8 0 = 3 ∨ c.u8 0 = 4) ∧
  t.boot.fuses.revoke.testBit (c.u8 0 - 3) = false ∧
  keyInUse t (c.u8 0 - 3) = false

/-- The operands and the state with which secFuseProgram completes (secFuseKey). -/
abbrev okSecFuseKey (c : Cmd) (t : State) : Prop :=
  Zero c 1 3 ∧
  t.boot.fwLock = false ∧
  c.u8 0 = 2 ∧
  t.boot.fuses.keyHash1 = none

/-- The operands and the state with which layerSourceSet completes (layerSourceNone). -/
abbrev okLayerSourceNone (c : Cmd) (t : State) : Prop :=
  c.u8 1 = 0 ∧
  c.u8 2 ≤ 1 ∧
  Zero c 3 1 ∧
  Zero c 7 1 ∧
  Zero c 17 3 ∧
  c.u8 0 ≤ 63 ∧
  winOwns t (c.u8 0) = false

/-- The operands and the state with which layerSourceSet completes (layerSourceBuffer). -/
abbrev okLayerSourceBuffer (c : Cmd) (t : State) (p : Nat) : Prop :=
  c.u8 2 ≤ 1 ∧
  Zero c 3 1 ∧
  Zero c 7 1 ∧
  Zero c 17 3 ∧
  c.u8 16 ≤ 15 ∧
  c.u8 0 ≤ 63 ∧
  1 ≤ c.u16 12 ∧
  c.u16 12 ≤ 16384 ∧
  1 ≤ c.u16 14 ∧
  c.u16 14 ≤ 16384 ∧
  c.u8 1 = 1 ∧
  c.u16 4 ≤ 4095 ∧
  poolOf t (c.u16 4) = some p ∧
  (bufAt t (c.u16 4)).state ≠ .free ∧
  sourceFault (isVideo (c.u8 0)) (srcOf c) (poolAt t p).format (poolAt t p).stride (poolAt t p).lines = none ∧
  winOwns t (c.u8 0) = false

/-- The operands and the state with which layerSourceSet completes (layerSourcePool). -/
abbrev okLayerSourcePool (c : Cmd) (t : State) : Prop :=
  c.u8 2 ≤ 1 ∧
  Zero c 3 1 ∧
  Zero c 7 1 ∧
  Zero c 17 3 ∧
  c.u8 16 ≤ 15 ∧
  c.u8 0 ≤ 63 ∧
  1 ≤ c.u16 12 ∧
  c.u16 12 ≤ 16384 ∧
  1 ≤ c.u16 14 ∧
  c.u16 14 ≤ 16384 ∧
  c.u8 1 = 2 ∧
  c.u8 6 ≤ 63 ∧
  (poolAt t (c.u8 6)).used = true ∧
  sourceFault (isVideo (c.u8 0)) (srcOf c) (poolAt t (c.u8 6)).format (poolAt t (c.u8 6)).stride (poolAt t (c.u8 6)).lines = none ∧
  winOwns t (c.u8 0) = false

/-- The operands and the state with which layerGeometrySet completes (layerGeometrySet). -/
abbrev okLayerGeometrySet (c : Cmd) (t : State) : Prop :=
  Zero c 1 1 ∧
  Zero c 10 2 ∧
  c.u8 0 ≤ 63 ∧
  -16384 ≤ c.i16 2 ∧
  c.i16 2 ≤ 16383 ∧
  -16384 ≤ c.i16 4 ∧
  c.i16 4 ≤ 16383 ∧
  (if isVideo (c.u8 0) then 1 ≤ c.u16 6 ∧ c.u16 6 ≤ 8192 ∧ 1 ≤ c.u16 8 ∧ c.u16 8 ≤ 8192 else c.u16 6 = 0 ∧ c.u16 8 = 0) ∧
  winOwns t (c.u8 0) = false

/-- The operands and the state with which layerPaletteSet completes (layerPaletteSet). -/
abbrev okLayerPaletteSet (c : Cmd) (t : State) : Prop :=
  16 ≤ c.u8 0 ∧
  c.u8 0 ≤ 63 ∧
  1 ≤ c.u16 2 ∧
  c.u16 2 ≤ 256 ∧
  c.u8 1 + c.u16 2 ≤ 256 ∧
  winOwns t (c.u8 0) = false

/-- The operands and the state with which layerEnvelopeSet completes (layerEnvelopeOff). -/
abbrev okLayerEnvelopeOff (c : Cmd) (t : State) : Prop :=
  Zero c 2 2 ∧
  Zero c 20 4 ∧
  c.u8 0 ≤ 63 ∧
  c.u8 1 = 0 ∧
  winOwns t (c.u8 0) = false

/-- The operands and the state with which layerEnvelopeSet completes (layerEnvelopeOn). -/
abbrev okLayerEnvelopeOn (c : Cmd) (t : State) : Prop :=
  Zero c 2 2 ∧
  Zero c 20 4 ∧
  c.u8 0 ≤ 63 ∧
  c.u8 1 = 1 ∧
  c.i16 4 ≤ c.i16 6 ∧
  c.i16 8 ≤ c.i16 10 ∧
  1 ≤ c.u16 12 ∧
  c.u16 12 ≤ 16384 ∧
  c.u16 12 ≤ c.u16 14 ∧
  1 ≤ c.u16 16 ∧
  c.u16 16 ≤ 16384 ∧
  c.u16 16 ≤ c.u16 18 ∧
  (isVideo (c.u8 0) = false → (if rotated (layAt t (c.u8 0)).shadow.src.orient then c.u16 18 ≤ 8192 ∧ c.u16 14 ≤ 16384 else c.u16 14 ≤ 8192 ∧ c.u16 18 ≤ 16384)) ∧
  winOwns t (c.u8 0) = false

/-- The operands and the state with which layerBlendSet completes (layerBlendSet). -/
abbrev okLayerBlendSet (c : Cmd) (t : State) : Prop :=
  c.u8 2 ≤ 1 ∧
  Zero c 3 1 ∧
  Zero c 6 2 ∧
  c.u8 0 ≤ 63 ∧
  c.u8 1 ≤ 2 ∧
  (c.u8 1 = 2 → c.u8 2 = 0) ∧
  winOwns t (c.u8 0) = false

/-- The operands and the state with which layerCadenceSet completes (layerCadenceSet). -/
abbrev okLayerCadenceSet (c : Cmd) (t : State) : Prop :=
  c.u8 1 ≤ 1 ∧
  Zero c 2 2 ∧
  c.u8 0 ≤ 63 ∧
  c.u32 4 ≤ 1000000000 ∧
  winOwns t (c.u8 0) = false

/-- The operands and the state with which layerShedSet completes (layerShedSet). -/
abbrev okLayerShedSet (c : Cmd) (t : State) : Prop :=
  Zero c 2 2 ∧
  c.u8 0 ≤ 63 ∧
  c.u8 1 ≤ 7 ∧
  winOwns t (c.u8 0) = false

/-- The operands and the state with which graphicColourSet completes (graphicColourSet). -/
abbrev okGraphicColourSet (c : Cmd) (t : State) : Prop :=
  Zero c 2 2 ∧
  16 ≤ c.u8 0 ∧
  c.u8 0 ≤ 63 ∧
  c.u8 1 ≤ 1 ∧
  -524288 ≤ c.i32 4 ∧
  c.i32 4 ≤ 524287 ∧
  winOwns t (c.u8 0) = false

/-- The operands and the state with which layerScalerSet completes (layerScalerSet). -/
abbrev okLayerScalerSet (c : Cmd) (_t : State) : Prop :=
  c.u8 3 ≤ 31 ∧
  c.u8 0 ≤ 15 ∧
  c.u8 1 ≤ 15 ∧
  c.u8 2 ≤ 15 ∧
  (bits (c.u8 3) 0 3 = 0 ∨ bits (c.u8 3) 0 3 = 1 ∨ bits (c.u8 3) 0 3 = 2 ∨ bits (c.u8 3) 0 3 = 4) ∧
  bits (c.u8 3) 3 2 ≠ 3

/-- The operands and the state with which layerDecodeSet completes (layerDecodeSet). -/
abbrev okLayerDecodeSet (c : Cmd) (_t : State) : Prop :=
  c.u8 0 ≤ 15 ∧
  c.u8 1 ≤ 1 ∧
  c.u8 2 ≤ 2 ∧
  c.u8 3 ≤ 1

/-- The operands and the state with which layerAssign completes (layerAssign). -/
abbrev okLayerAssign (c : Cmd) (t : State) : Prop :=
  Zero c 2 2 ∧
  c.u8 0 ≤ 63 ∧
  (c.u8 1 ≤ 7 ∨ c.u8 1 = 255) ∧
  winOwns t (c.u8 0) = false ∧
  (c.u8 1 ≤ 7 → isUpperOfPair t (c.u8 1) = false) ∧
  (c.u8 1 ≤ 7 → (layAt t (c.u8 0)).sHead ≠ some (c.u8 1) → (shadowLayers t (c.u8 1)).length < 16)

/-- The operands and the state with which headTimingSet completes (headTimingSet). -/
abbrev okHeadTimingSet (c : Cmd) (t : State) : Prop :=
  c.u8 0 ≤ 7 ∧
  isUpperOfPair t (c.u8 0) = false ∧
  c.u8 1 ≤ 7 ∧
  Zero c 22 2

/-- The operands and the state with which headWritebackSet completes (headWritebackSet). -/
abbrev okHeadWritebackSet (c : Cmd) (t : State) : Prop :=
  c.u8 0 ≤ 7 ∧
  isUpperOfPair t (c.u8 0) = false ∧
  Zero c 3 1 ∧
  c.u8 1 ≤ 1 ∧
  (c.u8 2 ≤ 63 ∨ c.u8 2 = 255)

/-- The operands and the state with which headZorderSet completes (headZorderSet). -/
abbrev okHeadZorderSet (c : Cmd) (t : State) : Prop :=
  c.u8 0 ≤ 7 ∧
  isUpperOfPair t (c.u8 0) = false ∧
  Zero c 2 2 ∧
  c.u8 1 ≤ 16 ∧
  (∀ i, i < c.u8 1 → winOwns t (c.u8 (4 + i)) = false) ∧
  zorderFault (shadowLayers t (c.u8 0)) ((List.range (c.u8 1)).map (fun i => c.u8 (4 + i))) = none

/-- The operands and the state with which headBackgroundSet completes (headBackgroundSet). -/
abbrev okHeadBackgroundSet (c : Cmd) (t : State) : Prop :=
  c.u8 0 ≤ 7 ∧
  isUpperOfPair t (c.u8 0) = false ∧
  Zero c 1 3 ∧
  c24Ok (c.u32 4) = true ∧
  c24Ok (c.u32 8) = true ∧
  c24Ok (c.u32 12) = true

/-- The operands and the state with which headOutputSet completes (headOutputSet). -/
abbrev okHeadOutputSet (c : Cmd) (t : State) : Prop :=
  c.u8 0 ≤ 7 ∧
  isUpperOfPair t (c.u8 0) = false ∧
  c.u8 1 ≤ 63 ∧
  Zero c 5 3 ∧
  Zero c 11 1 ∧
  c.u8 2 ≤ 2 ∧
  (c.u8 3 = 8 ∨ c.u8 3 = 10 ∨ c.u8 3 = 12 ∨ c.u8 3 = 16) ∧
  c.u8 4 ≤ 2 ∧
  (c.u8 4 = 2 → 1 ≤ c.un 8 3)

/-- The operands and the state with which sigRegionSet completes (sigRegionSet). -/
abbrev okSigRegionSet (c : Cmd) (t : State) : Prop :=
  c.u8 0 ≤ 7 ∧
  isUpperOfPair t (c.u8 0) = false ∧
  c.u8 2 ≤ 7 ∧
  c.u8 14 ≤ 15 ∧
  Zero c 15 1 ∧
  c.u8 1 ≤ 15 ∧
  c.u16 4 % 2 = 0 ∧
  c.u16 8 % 2 = 0 ∧
  2 ≤ c.u16 8 ∧
  1 ≤ c.u16 10 ∧
  c.u8 3 ≤ 2 ∧
  1 ≤ c.u8 12 ∧
  c.u16 4 + c.u16 8 ≤ panelWidth t (c.u8 0) (hdAt t (c.u8 0)).shadow.timing ∧
  c.u16 6 + c.u16 10 ≤ (hdAt t (c.u8 0)).shadow.timing.vact

/-- The operands and the state with which headPairSet completes (headPairSet). -/
abbrev okHeadPairSet (c : Cmd) (t : State) : Prop :=
  Zero c 2 2 ∧
  c.u8 0 ≤ 3 ∧
  c.u8 1 ≤ 1 ∧
  (c.u8 0 = 0 → t.pic.win.enabled = false ∧ t.pic.win.closing = false) ∧
  headEnabled t (2 * c.u8 0) = false ∧
  (hdAt t (2 * c.u8 0)).enabling = false ∧
  headEnabled t (2 * c.u8 0 + 1) = false ∧
  (hdAt t (2 * c.u8 0 + 1)).enabling = false

/-- The operands and the state with which headFetchSet completes (headFetchRunning). -/
abbrev okHeadFetchRunning (c : Cmd) (t : State) : Prop :=
  Zero c 1 1 ∧
  Zero c 6 2 ∧
  c.u8 0 ≤ 7 ∧
  headEnabled t (c.u8 0) = true ∧
  (c.u16 2 = 0 ∨ (timingOf t (c.u8 0)).hact ≠ 0 ∧ marksOk (timingOf t (c.u8 0)).hact (c.u16 2, c.u16 4) = true)

/-- The operands and the state with which headFetchSet completes (headFetchStopped). -/
abbrev okHeadFetchStopped (c : Cmd) (t : State) : Prop :=
  Zero c 1 1 ∧
  Zero c 6 2 ∧
  c.u8 0 ≤ 7 ∧
  headEnabled t (c.u8 0) = false ∧
  (c.u16 2 = 0 ∨ (hdAt t (lowerOf t (c.u8 0))).shadow.timing.hact ≠ 0 ∧ marksOk (hdAt t (lowerOf t (c.u8 0))).shadow.timing.hact (c.u16 2, c.u16 4) = true)

/-- The operands and the state with which contactSheetSet completes (contactSheetSet). -/
abbrev okContactSheetSet (c : Cmd) (t : State) : Prop :=
  Zero c 15 1 ∧
  c.u8 0 ≤ 7 ∧
  isUpperOfPair t (c.u8 0) = false ∧
  1 ≤ c.u8 1 ∧
  c.u8 1 ≤ 16 ∧
  1 ≤ c.u8 2 ∧
  c.u8 2 ≤ 16 ∧
  1 ≤ c.u8 3 ∧
  c.u8 3 ≤ 16 ∧
  1 ≤ c.u16 8 ∧
  c.u16 8 ≤ 8192 ∧
  1 ≤ c.u16 10 ∧
  c.u16 10 ≤ 8192 ∧
  c.u16 12 ≤ 1024 ∧
  c.u8 14 ≤ 1 ∧
  c.u16 4 + c.u16 8 ≤ panelWidth t (c.u8 0) (hdAt t (c.u8 0)).shadow.timing ∧
  c.u16 6 + c.u16 10 ≤ (hdAt t (c.u8 0)).shadow.timing.vact ∧
  (c.u16 8 - (c.u8 1 - 1) * c.u16 12) / c.u8 1 ≠ 0 ∧
  (c.u16 10 - (c.u8 2 - 1) * c.u16 12) / c.u8 2 ≠ 0 ∧
  c.u8 3 ≤ c.u8 1 * c.u8 2 ∧
  c.u8 1 * c.u8 2 ≤ 16 ∧
  (∀ k, k < c.u8 3 → c.u8 (16 + k) ≠ 255 → c.u8 (16 + k) < 16 ∧ (layAt t (c.u8 (16 + k))).sHead = some (c.u8 0))

/-- The operands and the state with which matrixSet completes (matrixSetLayer). -/
abbrev okMatrixSetLayer (c : Cmd) (_t : State) : Prop :=
  Zero c 2 2 ∧
  c.u8 0 = 0 ∧
  c.u8 1 ≤ 15 ∧
  (∀ k, k < 9 → -524288 ≤ c.i32 (4 + 4 * k) ∧ c.i32 (4 + 4 * k) ≤ 524287) ∧
  (∀ k, k < 3 → -8388608 ≤ c.i32 (40 + 4 * k) ∧ c.i32 (40 + 4 * k) ≤ 8388607)

/-- The operands and the state with which matrixSet completes (matrixSetHead). -/
abbrev okMatrixSetHead (c : Cmd) (t : State) : Prop :=
  Zero c 2 2 ∧
  c.u8 0 = 1 ∧
  c.u8 1 ≤ 7 ∧
  isUpperOfPair t (c.u8 1) = false ∧
  (∀ k, k < 9 → -524288 ≤ c.i32 (4 + 4 * k) ∧ c.i32 (4 + 4 * k) ≤ 524287) ∧
  (∀ k, k < 3 → -8388608 ≤ c.i32 (40 + 4 * k) ∧ c.i32 (40 + 4 * k) ≤ 8388607)

/-- The operands and the state with which lut1dBuiltin completes (lut1dBuiltinLayer). -/
abbrev okLut1dBuiltinLayer (c : Cmd) (_t : State) : Prop :=
  Zero c 3 1 ∧
  Zero c 6 2 ∧
  1 ≤ c.u8 2 ∧
  c.u8 2 ≤ 3 ∧
  (c.u8 2 = 1 → c.u16 4 = 0 ∨ 100 ≤ c.u16 4 ∧ c.u16 4 ≤ 10000) ∧
  c.u8 0 = 0 ∧
  c.u8 1 ≤ 15

/-- The operands and the state with which lut1dBuiltin completes (lut1dBuiltinHead). -/
abbrev okLut1dBuiltinHead (c : Cmd) (t : State) : Prop :=
  Zero c 3 1 ∧
  Zero c 6 2 ∧
  1 ≤ c.u8 2 ∧
  c.u8 2 ≤ 3 ∧
  (c.u8 2 = 1 → c.u16 4 = 0 ∨ 100 ≤ c.u16 4 ∧ c.u16 4 ≤ 10000) ∧
  c.u8 0 = 1 ∧
  c.u8 1 ≤ 7 ∧
  isUpperOfPair t (c.u8 1) = false

/-- The operands and the state with which scalerCoefLoad completes (scalerCoefLoad). -/
abbrev okScalerCoefLoad (c : Cmd) (t : State) (l : List Byte) : Prop :=
  Zero c 1 3 ∧
  Zero c 6 2 ∧
  1 ≤ c.u8 0 ∧
  c.u8 0 ≤ 15 ∧
  c.u16 4 ≤ 4095 ∧
  tableOutside t (c.u16 4) (c.u32 8) 1792 = false ∧
  coefNamed t (c.u8 0) = false ∧
  (tableBytes (c.u16 4) (c.u32 8) 1792 t).1 = some (l, false) ∧
  coefFault (words16 l) = none

/-- The operands and the state with which lut1dLoad completes (lut1dLoad). -/
abbrev okLut1dLoad (c : Cmd) (t : State) (l : List Byte) : Prop :=
  c.u8 0 ≤ 2 ∧
  lutIndexBad (c.u8 0) (c.u8 1) = false ∧
  c.u16 2 ≤ 4095 ∧
  tableOutside t (c.u16 2) (c.u32 4) (4 * (if c.u8 0 = 2 then 256 else 4096)) = false ∧
  (c.u8 0 = 1 → isUpperOfPair t (c.u8 1) = false) ∧
  (c.u8 0 = 2 → curveInUse t = false) ∧
  (tableBytes (c.u16 2) (c.u32 4) (4 * (if c.u8 0 = 2 then 256 else 4096)) t).1 = some (l, false) ∧
  (∀ k, k < (if c.u8 0 = 2 then 256 else 4096) → -8388608 ≤ (words32 l).getD k 0 ∧ (words32 l).getD k 0 ≤ 8388607)

/-- The operands and the state with which lut1dRead completes (lut1dRead). -/
abbrev okLut1dRead (c : Cmd) (t : State) : Prop :=
  Zero c 3 1 ∧
  c.u8 0 ≤ 2 ∧
  lutIndexBad (c.u8 0) (c.u8 1) = false ∧
  c.u8 2 ≤ 1 ∧
  c.u64 4 % 4 = 0 ∧
  (c.u8 0 = 1 → isUpperOfPair t (c.u8 1) = false) ∧
  hostReachable t = true

/-- The operands and the state with which lut3dAssign completes (lut3dRelease). -/
abbrev okLut3dRelease (c : Cmd) (t : State) : Prop :=
  Zero c 3 1 ∧
  c.u8 0 ≤ 3 ∧
  c.u8 1 = 255 ∧
  c.u8 2 ≤ 1 ∧
  (lutAt t (c.u8 0)).mode ≠ 0 ∧
  lutEnabled t (c.u8 0) = false ∧
  (lutAt t (c.u8 0)).loading = none

/-- The operands and the state with which lut3dAssign completes (lut3dAssign). -/
abbrev okLut3dAssign (c : Cmd) (t : State) : Prop :=
  Zero c 3 1 ∧
  c.u8 0 ≤ 3 ∧
  c.u8 1 ≤ 7 ∧
  c.u8 2 ≤ 1 ∧
  isUpperOfPair t (c.u8 1) = false ∧
  (lutAt t (c.u8 0)).mode = 0 ∧
  (lutAt t (c.u8 0)).loading = none ∧
  refusal t { doms := [(23 + c.u8 0, 600, 800)] } = none ∧
  (domAt t (23 + c.u8 0)).level ≠ .on ∧
  t.power.queue.any (fun q => decide (q.domain = 23 + c.u8 0) ∧
  decide (q.target = .on)) = false

/-- The operands and the state with which lut3dLoad completes (lut3dLoad). -/
abbrev okLut3dLoad (c : Cmd) (t : State) : Prop :=
  c.u8 0 ≤ 3 ∧
  c.u8 1 = 0 ∧
  c.u16 2 ≤ 4095 ∧
  tableOutside t (c.u16 2) (c.u32 4) 1647750 = false ∧
  (lutAt t (c.u8 0)).mode = 1 ∧
  lutEnabled t (c.u8 0) = false ∧
  (lutAt t (c.u8 0)).loading = none ∧
  (takeRef false (c.u16 2) (fwToken t) t).1 = true

/-- The operands and the state with which admissionReserveSet completes (admissionReserveSet). -/
abbrev okAdmissionReserveSet (c : Cmd) (t : State) : Prop :=
  c.u32 0 ≤ 400000 ∧
  c.u32 4 ≤ 400000 ∧
  c.u32 8 ≤ 400000 ∧
  c.u32 12 ≤ 400000 ∧
  (c.u32 0 + c.u32 4 + c.u32 8 + c.u32 12 ≤ reservations t ∨ loadFits t (admLoad t - reservations t + (c.u32 0 + c.u32 4 + c.u32 8 + c.u32 12)) = true)

/-- The operands and the state with which shedPlanSet completes (shedPlanSet). -/
abbrev okShedPlanSet (c : Cmd) (t : State) : Prop :=
  Zero c 1 7 ∧
  c.u8 0 ≤ 32 ∧
  (∀ i, i < c.u8 0 → c.u8 (11 + 8 * i) = 0) ∧
  planFault ((List.range (c.u8 0)).map (fun i => { kind := c.u8 (8 + 8 * i), unit := c.u8 (9 + 8 * i), tier := c.u8 (10 + 8 * i), saving := c.u32 (12 + 8 * i) })) = none ∧
  t.pic.shed.taken = []

/-- The operands and the state with which shedPolicySet completes (shedPolicySet). -/
abbrev okShedPolicySet (c : Cmd) (_t : State) : Prop :=
  Zero c 6 2 ∧
  c.u32 0 ≤ 50000 ∧
  c.u16 4 ≤ 60000

/-- The operands and the state with which cfgCommit completes (cfgCommitWaits). -/
abbrev okCfgCommitWaits (c : Cmd) (t : State) : Prop :=
  commitBlocked t (headBits (c.u8 0)) = true

/-- The operands and the state with which cfgCommit completes (cfgCommitArms). -/
abbrev okCfgCommitArms (c : Cmd) (t : State) : Prop :=
  commitBlocked t (headBits (c.u8 0)) = false ∧
  (∀ x ∈ commitChecks c (commitArgs c) t, x.1 = false) ∧
  (takeRefs (commitRefs c t) t).1 = none ∧
  admitFault t (viewAfter t (commitArgs c).named (commitArgs c).en (commitArgs c).dis) (commitArgs c).named = none ∧
  (∀ h ∈ (commitArgs c).en, headEnabled t h = true)

/-- The operands and the state with which compat5200Set completes (compatEnable). -/
abbrev okCompatEnable (c : Cmd) (t : State) : Prop :=
  Zero c 1 3 ∧
  c.u8 0 = 1 ∧
  (∀ k, k < 8 → (layAt t (56 + k)).sHead = none ∧ (layAt t (56 + k)).head = none) ∧
  pairLocked t 0 = false

/-- The operands and the state with which compat5200Set completes (compatDisable). -/
abbrev okCompatDisable (c : Cmd) (t : State) : Prop :=
  Zero c 1 3 ∧
  c.u8 0 = 0 ∧
  t.pic.win.enabled = true ∧
  (∀ k, k < 8 → (layAt t (56 + k)).head = none) ∧
  t.pic.win.pend0 = none ∧
  t.pic.win.pend1 = none ∧
  t.ctl.inflight = []

/-- The operands and the state with which sdiLaneSet completes (sdiLaneOff). -/
abbrev okSdiLaneOff (c : Cmd) (t : State) : Prop :=
  c.u8 4 ≤ 31 ∧
  Zero c 6 2 ∧
  Zero c 11 1 ∧
  c.u8 0 ≤ 7 ∧
  c.u8 1 = 0 ∧
  c.u8 2 ≤ 7 ∧
  quadFollower t (c.u8 0) = false ∧
  headEnabled t (c.u8 2) = false

/-- The operands and the state with which sdiLaneSet completes (sdiLaneOn). -/
abbrev okSdiLaneOn (c : Cmd) (t : State) : Prop :=
  c.u8 4 ≤ 31 ∧
  Zero c 6 2 ∧
  Zero c 11 1 ∧
  c.u8 0 ≤ 7 ∧
  c.u8 1 = 1 ∧
  c.u8 2 ≤ 7 ∧
  (laneSetOf c).quad = false ∧
  1 ≤ c.u8 3 ∧
  c.u8 3 ≤ 8 ∧
  ((laneSetOf c).tcSource = true → c.u8 5 ≤ 63) ∧
  quadFollower t (c.u8 0) = false ∧
  pairLocked t (c.u8 2) = false ∧
  sdiFits t (c.u8 2) (c.u8 3) = true ∧
  (sdiAt t (c.u8 0)).cfg.enabled = false ∧
  refusal t { doms := [(28, 200, 200)], adds := [(28, 175, 0)] } = none ∧
  headEnabled t (c.u8 2) = true

/-- The operands and the state with which sdiAncRingSet completes (sdiAncRingOff). -/
abbrev okSdiAncRingOff (c : Cmd) (_t : State) : Prop :=
  Zero c 2 2 ∧
  c.u8 0 ≤ 7 ∧
  c.u8 1 = 0

/-- The operands and the state with which sdiAncRingSet completes (sdiAncRingOn). -/
abbrev okSdiAncRingOn (c : Cmd) (t : State) : Prop :=
  Zero c 2 2 ∧
  c.u8 0 ≤ 7 ∧
  2 ≤ c.u8 1 ∧
  c.u8 1 ≤ 16 ∧
  1 ≤ c.u32 4 ∧
  c.u32 4 % 4096 = 0 ∧
  c.u32 4 ≤ 4194304 ∧
  c.u64 8 % 4096 = 0 ∧
  c.u64 8 + c.u8 1 * c.u32 4 ≤ capacity t ∧
  poolOverlap t (c.u64 8) (c.u8 1 * c.u32 4) = false

/-- The operands and the state with which panelPortSet completes (panelOff). -/
abbrev okPanelOff (c : Cmd) (t : State) : Prop :=
  c.u8 7 ≤ 3 ∧
  Zero c 10 2 ∧
  c.u8 0 ≤ 3 ∧
  c.u8 2 ≤ 7 ∧
  c.u8 3 ≤ 2 ∧
  1 ≤ c.u8 4 ∧
  c.u8 4 ≤ 4 ∧
  c.u8 5 ≤ 2 ∧
  (c.u8 6 = 0x3E ∨ c.u8 6 = 0x0D) ∧
  (c.u8 5 = 2 → 80 ≤ c.u16 8 ∧ c.u16 8 ≤ 4500) ∧
  isUpperOfPair t (c.u8 2) = false ∧
  c.u8 1 = 0 ∧
  dcsHeld t (c.u8 0) = false ∧
  headEnabled t (c.u8 2) = false ∧
  (panelAt (panelApply (c.u8 0) (modPanel (c.u8 0) (fun x => { x with pending := some (0, panelCfgOf c) }) t)) (c.u8 0)).leaving = false

/-- The operands and the state with which panelPortSet completes (panelVideo). -/
abbrev okPanelVideo (c : Cmd) (t : State) : Prop :=
  c.u8 7 ≤ 3 ∧
  Zero c 10 2 ∧
  c.u8 0 ≤ 3 ∧
  c.u8 2 ≤ 7 ∧
  c.u8 3 ≤ 2 ∧
  1 ≤ c.u8 4 ∧
  c.u8 4 ≤ 4 ∧
  c.u8 5 ≤ 2 ∧
  (c.u8 6 = 0x3E ∨ c.u8 6 = 0x0D) ∧
  (c.u8 5 = 2 → 80 ≤ c.u16 8 ∧ c.u16 8 ≤ 4500) ∧
  isUpperOfPair t (c.u8 2) = false ∧
  c.u8 1 = 2 ∧
  panelOk t (c.u8 0) (panelCfgOf c) = true ∧
  (panelAt t (c.u8 0)).state ≠ .off ∧
  c.u8 3 = 0 ∧
  dcsHeld t (c.u8 0) = false ∧
  headEnabled t (c.u8 2) = true

/-- The operands and the state with which panelDcsSend completes (panelDcsStore). -/
abbrev okPanelDcsStore (c : Cmd) (t : State) (l : List DcsPacket) : Prop :=
  c.u8 0 ≤ 3 ∧
  c.u16 2 ≤ 512 ∧
  dcsHeld t (c.u8 0) = false ∧
  dcsEntries (c.u16 2) (c.params.drop 4) = some l ∧
  c.u8 1 = 1

/-- The operands and the state with which panelDcsSend completes (panelDcsSend). -/
abbrev okPanelDcsSend (c : Cmd) (t : State) (l : List DcsPacket) : Prop :=
  c.u8 0 ≤ 3 ∧
  c.u16 2 ≤ 512 ∧
  dcsHeld t (c.u8 0) = false ∧
  dcsEntries (c.u16 2) (c.params.drop 4) = some l ∧
  c.u8 1 = 0 ∧
  2 ≤ c.u16 2 ∧
  (panelAt t (c.u8 0)).state ≠ .off ∧
  (panelAt t (c.u8 0)).state ≠ .video ∧
  (panelAt t (c.u8 0)).queue = [] ∧
  (panelAt t (c.u8 0)).due ≤ runTime t

/-- The operands and the state with which macConfig completes (macConfigOff). -/
abbrev okMacConfigOff (c : Cmd) (t : State) : Prop :=
  c.u8 10 ≤ 3 ∧
  (∀ i, i < 8 → bit (c.u8 (12 + i)) 7 = false) ∧
  Zero c 22 2 ∧
  c.u8 0 ≤ 15 ∧
  c.u8 1 = 0 ∧
  macNamed t (c.u8 0) = false ∧
  (macAt t (c.u8 0)).enabled = true ∧
  (macAt t (c.u8 0)).tx.cur = none

/-- The operands and the state with which macConfig completes (macConfigNone). -/
abbrev okMacConfigNone (c : Cmd) (t : State) : Prop :=
  c.u8 10 ≤ 3 ∧
  (∀ i, i < 8 → bit (c.u8 (12 + i)) 7 = false) ∧
  Zero c 22 2 ∧
  c.u8 0 ≤ 15 ∧
  c.u8 1 = 0 ∧
  macNamed t (c.u8 0) = false ∧
  (macAt t (c.u8 0)).enabled = false

/-- The operands and the state with which macConfig completes (macConfigOn). -/
abbrev okMacConfigOn (c : Cmd) (t : State) (d : Nat) : Prop :=
  c.u8 10 ≤ 3 ∧
  (∀ i, i < 8 → bit (c.u8 (12 + i)) 7 = false ∧ c.u8 (12 + i) % 4 ≠ 3 ∧ (c.u8 (12 + i) % 4 = 2 → c.u8 (12 + i) / 4 % 32 ≤ 27)) ∧
  Zero c 22 2 ∧
  c.u8 0 ≤ 15 ∧
  c.u8 1 = 1 ∧
  modeBaud (c.u8 2) (c.u8 5) ≠ 0 ∧
  roleModeOk (c.u8 3) (c.u8 2) (c.u8 5) = true ∧
  groupOk (c.u8 4) (c.u8 5) = true ∧
  (if c.u8 2 = 1 then c.u8 6 ≤ 2 else c.u8 6 = 0) ∧
  64 ≤ c.u16 8 ∧
  c.u16 8 ≤ 16384 ∧
  (bit (c.u8 10) 1 = true → 2 ≤ modeBaud (c.u8 2) (c.u8 5)) ∧
  (if c.u8 3 = 0 then c.u8 11 ≤ 7 ∨ c.u8 11 = 255 else c.u8 11 = 0) ∧
  c.u16 20 ≤ 10000 ∧
  (∀ n ∈ groupLanes (c.u8 4) (c.u8 5), (laneAt t n).use = 0 ∧ baudConflict t n (modeBaud (c.u8 2) (c.u8 5)) = false) ∧
  roleFull t (c.u8 3) (c.u8 5) = false ∧
  (macAt t (c.u8 0)).enabled = false ∧
  refusal t (quadGrant (quadsOf (groupLanes (c.u8 4) (c.u8 5))) (modeBaud (c.u8 2) (c.u8 5))) = none ∧
  lastSwitch t (quadGrant (quadsOf (groupLanes (c.u8 4) (c.u8 5))) (modeBaud (c.u8 2) (c.u8 5))) = some d

/-- The operands and the state with which macConfig completes (macConfigNow). -/
abbrev okMacConfigNow (c : Cmd) (t : State) : Prop :=
  c.u8 10 ≤ 3 ∧
  (∀ i, i < 8 → bit (c.u8 (12 + i)) 7 = false ∧ c.u8 (12 + i) % 4 ≠ 3 ∧ (c.u8 (12 + i) % 4 = 2 → c.u8 (12 + i) / 4 % 32 ≤ 27)) ∧
  Zero c 22 2 ∧
  c.u8 0 ≤ 15 ∧
  c.u8 1 = 1 ∧
  modeBaud (c.u8 2) (c.u8 5) ≠ 0 ∧
  roleModeOk (c.u8 3) (c.u8 2) (c.u8 5) = true ∧
  groupOk (c.u8 4) (c.u8 5) = true ∧
  (if c.u8 2 = 1 then c.u8 6 ≤ 2 else c.u8 6 = 0) ∧
  64 ≤ c.u16 8 ∧
  c.u16 8 ≤ 16384 ∧
  (bit (c.u8 10) 1 = true → 2 ≤ modeBaud (c.u8 2) (c.u8 5)) ∧
  (if c.u8 3 = 0 then c.u8 11 ≤ 7 ∨ c.u8 11 = 255 else c.u8 11 = 0) ∧
  c.u16 20 ≤ 10000 ∧
  (∀ n ∈ groupLanes (c.u8 4) (c.u8 5), (laneAt t n).use = 0 ∧ baudConflict t n (modeBaud (c.u8 2) (c.u8 5)) = false) ∧
  roleFull t (c.u8 3) (c.u8 5) = false ∧
  (macAt t (c.u8 0)).enabled = false ∧
  refusal t (quadGrant (quadsOf (groupLanes (c.u8 4) (c.u8 5))) (modeBaud (c.u8 2) (c.u8 5))) = none ∧
  lastSwitch t (quadGrant (quadsOf (groupLanes (c.u8 4) (c.u8 5))) (modeBaud (c.u8 2) (c.u8 5))) = none

/-- The operands and the state with which macSpareSet completes (macSpareSet). -/
abbrev okMacSpareSet (c : Cmd) (t : State) : Prop :=
  Zero c 5 3 ∧
  c.u8 0 ≤ 15 ∧
  c.u8 1 = 0 ∧
  c.u8 2 ≤ 1 ∧
  c.u8 3 ≤ 23 ∧
  (macAt t (c.u8 0)).enabled = true ∧
  isKml (macAt t (c.u8 0)) = true ∧
  1 ≤ (macAt t (c.u8 0)).cfg.role ∧
  (macAt t (c.u8 0)).cfg.role ≤ 3 ∧
  c.u8 2 < (macAt t (c.u8 0)).cfg.width / 4 ∧
  (laneAt t (c.u8 3)).use = 0 ∧
  baudConflict t (c.u8 3) 3 = false ∧
  (tabGet (macAt t (c.u8 0)).lk.spares (c.u8 2)).valid = false ∧
  refusal t (spareGrant c t) = none ∧
  lastSwitch t (spareGrant c t) = none

/-- The operands and the state with which macSpareSet completes (macSpareFree). -/
abbrev okMacSpareFree (c : Cmd) (t : State) : Prop :=
  Zero c 5 3 ∧
  c.u8 0 ≤ 15 ∧
  c.u8 1 = 1 ∧
  c.u8 2 ≤ 1 ∧
  (macAt t (c.u8 0)).enabled = true ∧
  isKml (macAt t (c.u8 0)) = true ∧
  1 ≤ (macAt t (c.u8 0)).cfg.role ∧
  (macAt t (c.u8 0)).cfg.role ≤ 3 ∧
  c.u8 2 < (macAt t (c.u8 0)).cfg.width / 4 ∧
  (tabGet (macAt t (c.u8 0)).lk.spares (c.u8 2)).valid = true ∧
  (tabGet (macAt t (c.u8 0)).lk.spares (c.u8 2)).tx = 15 ∧
  (tabGet (macAt t (c.u8 0)).lk.spares (c.u8 2)).rx = 15

/-- The operands and the state with which macTxqSet completes (macTxqSet). -/
abbrev okMacTxqSet (c : Cmd) (_t : State) : Prop :=
  c.u8 0 ≤ 15 ∧
  c.u8 1 ≤ 7 ∧
  c.u16 2 % 256 = 0 ∧
  256 ≤ c.u16 2 ∧
  c.u16 2 ≤ 16384

/-- The operands and the state with which macRuleSet completes (macRuleSet). -/
abbrev okMacRuleSet (c : Cmd) (t : State) : Prop :=
  Zero c 15 1 ∧
  c.u8 12 ≤ 63 ∧
  c.u8 13 ≤ 63 ∧
  c.u8 0 ≤ 15 ∧
  c.u8 1 ≤ 63 ∧
  (c.u8 2 ≤ 7 ∨ c.u8 2 = 254 ∨ c.u8 2 = 255) ∧
  c.u8 3 ≤ 2 ∧
  c.u8 14 ≤ 1 ∧
  (macAt t (c.u8 0)).enabled = true ∧
  (macAt t (c.u8 0)).cfg.role = 0 ∧
  framesToRing t (c.u8 0) (macAt t (c.u8 0)).decided = 0

/-- The operands and the state with which macFilterSet completes (macFilterSet). -/
abbrev okMacFilterSet (c : Cmd) (t : State) : Prop :=
  c.u8 1 ≤ 15 ∧
  Zero c 2 6 ∧
  c.u8 0 ≤ 15 ∧
  (macAt t (c.u8 0)).enabled = true ∧
  (macAt t (c.u8 0)).cfg.role ≠ 0

/-- The operands and the state with which macStatsGet completes (macStatsGet). -/
abbrev okMacStatsGet (c : Cmd) (_t : State) : Prop :=
  Zero c 2 2 ∧
  c.u8 0 ≤ 15 ∧
  c.u8 1 % 8 = 0 ∧
  c.u8 1 ≤ 56

/-- The operands and the state with which macSleep completes (macSleepNow). -/
abbrev okMacSleepNow (c : Cmd) (t : State) : Prop :=
  Zero c 3 1 ∧
  c.u8 0 ≤ 15 ∧
  c.u8 1 = 0 ∧
  c.u8 2 ≤ 2 ∧
  (macAt t (c.u8 0)).enabled = true ∧
  (macAt t (c.u8 0)).sleep = false ∧
  macActive t (c.u8 0) = false ∧
  (macAt t (c.u8 0)).tx.cur = none

/-- The operands and the state with which macSleep completes (macWake). -/
abbrev okMacWake (c : Cmd) (t : State) (d : Nat) : Prop :=
  Zero c 3 1 ∧
  c.u8 0 ≤ 15 ∧
  c.u8 1 = 1 ∧
  c.u8 2 ≤ 2 ∧
  (macAt t (c.u8 0)).enabled = true ∧
  (macAt t (c.u8 0)).sleep = true ∧
  refusal t (macGrant t (c.u8 0)) = none ∧
  lastSwitch t (macGrant t (c.u8 0)) = some d

/-- The operands and the state with which macSleep completes (macWakeNow). -/
abbrev okMacWakeNow (c : Cmd) (t : State) : Prop :=
  Zero c 3 1 ∧
  c.u8 0 ≤ 15 ∧
  c.u8 1 = 1 ∧
  c.u8 2 ≤ 2 ∧
  (macAt t (c.u8 0)).enabled = true ∧
  (macAt t (c.u8 0)).sleep = true ∧
  refusal t (macGrant t (c.u8 0)) = none ∧
  lastSwitch t (macGrant t (c.u8 0)) = none

/-- The operands and the state with which magSlotSet completes (magSlotOn). -/
abbrev okMagSlotOn (c : Cmd) (t : State) : Prop :=
  Zero c 3 1 ∧
  c.u8 0 ≤ 1 ∧
  c.u8 1 = 1 ∧
  c.u8 2 ≤ 15 ∧
  (magAt t (c.u8 0)).copy = none ∧
  (macAt t (c.u8 2)).enabled = true ∧
  isKml (macAt t (c.u8 2)) = true ∧
  (macAt t (c.u8 2)).cfg.rxPauseEn = true ∧
  9050 ≤ (macAt t (c.u8 2)).cfg.maxFrame ∧
  (macAt t (c.u8 2)).cfg.role = 2 + c.u8 0 ∧
  formatHeld t (c.u8 0) = false

/-- The operands and the state with which magSlotSet completes (magSlotOff). -/
abbrev okMagSlotOff (c : Cmd) (t : State) : Prop :=
  Zero c 3 1 ∧
  c.u8 0 ≤ 1 ∧
  c.u8 1 = 0 ∧
  (magAt t (c.u8 0)).copy = none ∧
  formatHeld t (c.u8 0) = false

/-- The operands and the state with which magIndexRead completes (magIndexRead). -/
abbrev okMagIndexRead (c : Cmd) (t : State) : Prop :=
  Zero c 1 3 ∧
  c.u8 0 ≤ 1 ∧
  c.u32 4 % 32 = 0 ∧
  32 ≤ c.u32 4 ∧
  c.u32 4 ≤ 131072 ∧
  c.u64 8 % 4 = 0 ∧
  ((magAt t (c.u8 0)).state = .ready ∨ (magAt t (c.u8 0)).state = .recording) ∧
  formatHeld t (c.u8 0) = false ∧
  hostReachable t = true

/-- The operands and the state with which magFormat completes (magFormat). -/
abbrev okMagFormat (c : Cmd) (t : State) : Prop :=
  Zero c 1 3 ∧
  c.u8 0 ≤ 1 ∧
  (magAt t (c.u8 0)).state = .ready

/-- The operands and the state with which magEject completes (magEject). -/
abbrev okMagEject (c : Cmd) (t : State) : Prop :=
  Zero c 1 3 ∧
  c.u8 0 ≤ 1 ∧
  (magAt t (c.u8 0)).state ≠ .recording ∧
  (magAt t (c.u8 0)).state ≠ .busy ∧
  (magAt t (c.u8 0)).state ≠ .off

/-- The operands and the state with which recChannelSet completes (recChannelOn). -/
abbrev okRecChannelOn (c : Cmd) (t : State) : Prop :=
  c.u8 0 ≤ 1 ∧
  c.u8 1 = 1 ∧
  c.u8 2 ≤ 3 ∧
  c.u8 3 ≤ 15 ∧
  Zero c 7 1 ∧
  Zero c 10 2 ∧
  1 ≤ c.u8 2 ∧
  c.u8 4 ≤ 63 ∧
  (poolAt t (c.u8 4)).used = true ∧
  c.u8 6 ≤ 100 ∧
  c.u16 8 ≤ 1023 ∧
  1 ≤ c.u32 12 ∧
  c.u32 12 ≤ 400000 ∧
  (bit (c.u8 3) 0 = true → c.u8 2 ≠ 3) ∧
  (bit (c.u8 3) 1 = true → formatMinSize (poolAt t (c.u8 4)).format (poolAt t (c.u8 4)).lines (poolAt t (c.u8 4)).stride % 16 = 0) ∧
  (recAt t (c.u8 0)).state = .idle ∧
  (recAt t (c.u8 0)).trigger = none ∧
  copyOf t (c.u8 0) 0 = none ∧
  copyOf t (c.u8 0) 1 = none

/-- The operands and the state with which recChannelSet completes (recChannelOff). -/
abbrev okRecChannelOff (c : Cmd) (_t : State) : Prop :=
  c.u8 0 ≤ 1 ∧
  c.u8 1 = 0

/-- The operands and the state with which recStartAt completes (recStartAt). -/
abbrev okRecStartAt (c : Cmd) (t : State) : Prop :=
  Zero c 3 1 ∧
  c.u8 0 ≤ 1 ∧
  c.u8 1 = 1 ∧
  (recAt t (c.u8 0)).enabled = true ∧
  (recAt t (c.u8 0)).state = .idle ∧
  (recAt t (c.u8 0)).trigger = none ∧
  copyOf t (c.u8 0) 0 = none ∧
  copyOf t (c.u8 0) 1 = none ∧
  (∀ i ∈ recTargets (recAt t (c.u8 0)), (magAt t i).state = .ready) ∧
  ((recAt t (c.u8 0)).cfg.encrypt = true → (recAt t (c.u8 0)).key ≠ none) ∧
  (recAt t (c.u8 0)).cfg.rate ≤ 12500

/-- The operands and the state with which recStopAt completes (recStopAt). -/
abbrev okRecStopAt (c : Cmd) (t : State) : Prop :=
  Zero c 3 1 ∧
  c.u8 0 ≤ 1 ∧
  c.u8 1 = 1 ∧
  ((recAt t (c.u8 0)).state = .armed ∨ (recAt t (c.u8 0)).state = .recording) ∧
  (recAt t (c.u8 0)).start.all (fun fs => decide (fs < c.u64 8)) = true

/-- The operands and the state with which streamPortSet completes (streamPortSet). -/
abbrev okStreamPortSet (c : Cmd) (t : State) : Prop :=
  Zero c 1 1 ∧
  c.u8 0 ≤ 15 ∧
  macIsNetwork t (c.u8 0) = true

/-- The operands and the state with which streamSubCtrl completes (subCtrlAlready). -/
abbrev okSubCtrlAlready (c : Cmd) (t : State) : Prop :=
  Zero c 3 1 ∧
  c.u16 0 ≤ 2047 ∧
  c.u8 2 = 0 ∧
  (subAt t (c.u16 0)).enabled = true ∧
  (subAt t (c.u16 0)).disabling = false ∧
  (subAt t (c.u16 0)).started = true ∧
  (subAt t (c.u16 0)).stopping = false ∧
  (subAt t (c.u16 0)).starting = false

/-- The operands and the state with which streamSubCtrl completes (subCtrlStart). -/
abbrev okSubCtrlStart (c : Cmd) (t : State) : Prop :=
  Zero c 3 1 ∧
  c.u16 0 ≤ 2047 ∧
  c.u8 2 = 0 ∧
  (subAt t (c.u16 0)).enabled = true ∧
  (subAt t (c.u16 0)).disabling = false ∧
  (subAt t (c.u16 0)).started = false ∧
  (subAt t (c.u16 0)).starting = false ∧
  2 ≤ (subAt t (c.u16 0)).cfg.kind

/-- The operands and the state with which streamRxFlowSet completes (rxFlowOn). -/
abbrev okRxFlowOn (c : Cmd) (t : State) : Prop :=
  c.u16 0 ≤ 511 ∧
  c.u8 2 = 1 ∧
  c.u8 7 ≤ 1 ∧
  c.u8 3 ≤ 1 ∧
  c.u8 4 ≤ 15 ∧
  (c.u8 5 ≤ 15 ∨ c.u8 5 = 255) ∧
  (if c.u8 3 = 0 then c.u8 6 ≤ 15 else c.u8 6 ≤ 27) ∧
  1 ≤ c.u32 28 ∧
  c.u32 28 ≤ 10000000 ∧
  1 ≤ c.u16 32 ∧
  c.u16 32 ≤ 1024 ∧
  (c.u8 5 ≠ 255 → 100 ≤ c.u16 34 ∧ c.u16 34 ≤ 10000) ∧
  macIsNetwork t (c.u8 4) = true ∧
  (c.u8 5 ≠ 255 → macIsNetwork t (c.u8 5) = true) ∧
  (c.u8 3 = 0 → ∀ i, i < 512 → ¬(i ≠ c.u16 0 ∧ (flowAt t i).enabled = true ∧ (flowAt t i).cfg.dest = 0 ∧ (flowAt t i).cfg.target = c.u8 6))

/-- The operands and the state with which streamRxFlowSet completes (rxFlowOff). -/
abbrev okRxFlowOff (c : Cmd) (t : State) : Prop :=
  c.u16 0 ≤ 511 ∧
  c.u8 2 = 0 ∧
  (flowAt t (c.u16 0)).waiting = []

/-- The operands and the state with which streamDepackSet completes (depackOn). -/
abbrev okDepackOn (c : Cmd) (t : State) : Prop :=
  c.u8 0 ≤ 15 ∧
  c.u8 1 = 1 ∧
  Zero c 6 2 ∧
  c.u8 2 ≤ 63 ∧
  (poolAt t (c.u8 2)).used = true ∧
  c.u8 3 ≤ 6 ∧
  1 ≤ c.u16 4 ∧
  c.u16 4 % (pgroupOf (c.u8 3)).2 = 0 ∧
  1000 ≤ c.u32 8 ∧
  c.u32 8 ≤ 1000000 ∧
  fmtLayout (poolAt t (c.u8 2)).format = samplingLayout (c.u8 3) ∧
  fmtTiled (poolAt t (c.u8 2)).format = false ∧
  c.u16 4 * ((layoutOf (samplingLayout (c.u8 3))).getD {}).b ≤ 8 * (poolAt t (c.u8 2)).stride ∧
  (dpAt t (c.u8 0)).enabled = false ∧
  (dpAt t (c.u8 0)).state ≠ .opened

/-- The operands and the state with which streamDepackSet completes (depackOff). -/
abbrev okDepackOff (c : Cmd) (t : State) : Prop :=
  c.u8 0 ≤ 15 ∧
  c.u8 1 = 0 ∧
  (dpAt t (c.u8 0)).enabled = true

/-- The operands and the state with which streamStatsRead completes (streamStatsRead). -/
abbrev okStreamStatsRead (c : Cmd) (t : State) : Prop :=
  Zero c 6 2 ∧
  c.u8 0 ≤ 1 ∧
  c.u8 1 ≤ 1 ∧
  1 ≤ c.u16 4 ∧
  c.u16 4 ≤ 512 ∧
  c.u16 2 + c.u16 4 ≤ (if c.u8 0 = 1 then 512 else 2048) ∧
  c.u64 8 % 4 = 0 ∧
  hostReachable t = true

/-- The operands and the state with which ptpPortSet completes (ptpOn). -/
abbrev okPtpOn (c : Cmd) (t : State) : Prop :=
  c.u8 3 ≤ 1 ∧
  Zero c 10 2 ∧
  c.u8 0 ≤ 15 ∧
  c.u8 1 = 1 ∧
  c.u8 2 ≤ 127 ∧
  -7 ≤ signedOf 8 (c.u8 4) ∧
  signedOf 8 (c.u8 4) ≤ 0 ∧
  -3 ≤ signedOf 8 (c.u8 5) ∧
  signedOf 8 (c.u8 5) ≤ 3 ∧
  -7 ≤ signedOf 8 (c.u8 6) ∧
  signedOf 8 (c.u8 6) ≤ 3 ∧
  2 ≤ c.u8 7 ∧
  c.u8 7 ≤ 10 ∧
  macIsNetwork t (c.u8 0) = true ∧
  steersToFirmware t (c.u8 0) (fun r => decide (r.l4 = 1)) = true ∧
  leaderPort t (c.u8 0) = false

/-- The operands and the state with which ptpPortSet completes (ptpOff). -/
abbrev okPtpOff (c : Cmd) (t : State) : Prop :=
  c.u8 3 ≤ 1 ∧
  Zero c 10 2 ∧
  c.u8 0 ≤ 15 ∧
  c.u8 1 = 0 ∧
  ptpCandidate t (c.u8 0) = none ∧
  (ptpAt t (c.u8 0)).cfg.enabled = true ∧
  t.st.ptpStatus.port ≠ c.u8 0

/-- The operands and the state with which rigSet completes (rigOn). -/
abbrev okRigOn (c : Cmd) (t : State) : Prop :=
  Zero c 5 3 ∧
  c.u8 0 = 1 ∧
  c.u8 1 ≤ 15 ∧
  macIsNetwork t (c.u8 1) = true ∧
  (ptpAt t (c.u8 1)).cfg.enabled = true ∧
  rigSteered t (c.u8 1) = true ∧
  t.st.rig.state = .off

/-- The operands and the state with which rigSet completes (rigOff). -/
abbrev okRigOff (c : Cmd) (t : State) : Prop :=
  Zero c 5 3 ∧
  c.u8 0 = 0 ∧
  t.st.rig.state = .off

/-- The operands and the state with which dmaChannelSet completes (dmaChannelSet). -/
abbrev okDmaChannelSet (c : Cmd) (t : State) : Prop :=
  c.u8 0 ≤ 27 ∧
  c.u8 1 ≤ 2 ∧
  (c.u8 1 = 2 → 2 ≤ c.u16 2 ∧ c.u16 2 ≤ 4096 ∧ c.u32 4 % 64 = 0 ∧ 128 ≤ c.u32 4 ∧ c.u32 4 ≤ 16448 ∧ c.u64 8 % 64 = 0 ∧ c.u64 8 < 281474976710656) ∧
  ((dcAt t (c.u8 0)).mode = 0 ∧ (dcAt t (c.u8 0)).newMode.getD 0 = 0 ∨ (dcAt t (c.u8 0)).owner = c.mb)

/-- The operands and the state with which powerBudgetSet completes (powerBudgetSet). -/
abbrev okPowerBudgetSet (c : Cmd) (_t : State) : Prop :=
  12000 ≤ c.u32 0 ∧
  c.u32 0 ≤ 44000 ∧
  2000 ≤ c.u32 4 ∧
  c.u32 4 ≤ 20000

/-- The operands and the state with which powerStateSet completes (powerStandby). -/
abbrev okPowerStandby (c : Cmd) (t : State) : Prop :=
  Zero c 1 3 ∧
  c.u8 0 = 2 ∧
  t.power.state = .idle ∧
  anyStepCut t = false ∧
  t.fs.fillDone = true ∧
  (∀ k, k < 16 → (tabGet t.fs.chans k).state ≠ .retiring) ∧
  t.power.holdup = false

/-- The operands and the state with which powerStateSet completes (powerSafelight). -/
abbrev okPowerSafelight (c : Cmd) (t : State) : Prop :=
  Zero c 1 3 ∧
  c.u8 0 = 3 ∧
  t.power.state = .idle

/-- The operands and the state with which recKeySet completes (recKeySet). -/
abbrev okRecKeySet (c : Cmd) (t : State) : Prop :=
  c.length = 72 ∧
  Zero c 1 3 ∧
  c.u8 0 ≤ 1 ∧
  c.u32 4 ≠ 0 ∧
  c.bytes 8 32 ≠ c.bytes 40 32 ∧
  ((recAt t (c.u8 0)).state = .idle ∨ (recAt t (c.u8 0)).state = .armed) ∧
  reducedBars t 0x0A11 = false

/-- The operands and the state with which streamSubSet completes (streamSubSetArmed). -/
abbrev okStreamSubSetArmed (c : Cmd) (t : State) : Prop :=
  c.length = 92 ∧
  c.u16 0 ≤ 2047 ∧
  c.u8 2 = 1 ∧
  bit (c.u8 8) 0 = true ∧
  (∀ x ∈ subChecks t c (subCfgOf c) (headWidth t (subCfgOf c).head) (if c.u8 3 = 0 then (timingOf t (subCfgOf c).head).vact else (poolAt t (subCfgOf c).pool).lines), x.1 = false) ∧
  reducedBars t 0x0B10 = false ∧
  2 ≤ c.u8 3

/-- The operands and the state with which streamSubSet completes (streamSubSetUnpaced). -/
abbrev okStreamSubSetUnpaced (c : Cmd) (t : State) : Prop :=
  c.length = 92 ∧
  c.u16 0 ≤ 2047 ∧
  c.u8 2 = 1 ∧
  bit (c.u8 8) 0 = false ∧
  (∀ x ∈ subChecks t c (subCfgOf c) (headWidth t (subCfgOf c).head) (if c.u8 3 = 0 then (timingOf t (subCfgOf c).head).vact else (poolAt t (subCfgOf c).pool).lines), x.1 = false) ∧
  reducedBars t 0x0B10 = false ∧
  2 ≤ c.u8 3

/-- The operands and the state with which mbDbWrite completes (mbDbAccepted). -/
abbrev okMbDbAccepted (mb : Fin 16) (value : BitVec 32) (s : State) : Prop :=
  domOn s 1 = true ∧
  s.power.state ≠ .standby ∧
  (mbAt s mb).enable = true ∧
  (mbAt s mb).state = .ready ∧
  countDiff (value.toNat % 65536) (mbAt s mb).cmdHead ≤ 64 ∧
  countDiff (mbAt s mb).cmdTail (mbAt s mb).cmdHead ≤ countDiff (value.toNat % 65536) (mbAt s mb).cmdHead

/-- The operands and the state with which mbDbWrite completes (mbDbRefused). -/
abbrev okMbDbRefused (mb : Fin 16) (value : BitVec 32) (s : State) : Prop :=
  domOn s 1 = true ∧
  (mbAt s mb).enable = true ∧
  (mbAt s mb).state = .ready ∧
  64 < countDiff (value.toNat % 65536) (mbAt s mb).cmdHead

/-- The operands and the state with which mbRspHeadWrite completes (mbRspHeadAccepted). -/
abbrev okMbRspHeadAccepted (mb : Fin 16) (value : BitVec 32) (s : State) : Prop :=
  domOn s 1 = true ∧
  countDiff (value.toNat % 65536) (mbAt s mb).rspHead ≤ countDiff (mbAt s mb).rspTail (mbAt s mb).rspHead

/-- The operands and the state with which mbRspHeadWrite completes (mbRspHeadRefused). -/
abbrev okMbRspHeadRefused (mb : Fin 16) (value : BitVec 32) (s : State) : Prop :=
  domOn s 1 = true ∧
  countDiff (mbAt s mb).rspTail (mbAt s mb).rspHead < countDiff (value.toNat % 65536) (mbAt s mb).rspHead

/-- The operands and the state with which mailboxReset completes (mailboxReset). -/
abbrev okMailboxReset (mb : Fin 16) (s : State) : Prop :=
  domOn s 1 = true ∧
  (mbAt s mb).state ≠ .resetting ∧
  (mbAt s mb).state ≠ .down

/-- The operands and the state with which mailboxResetComplete completes (mailboxResetComplete). -/
abbrev okMailboxResetComplete (mb : Fin 16) (s : State) : Prop :=
  firmwareRunning s = true ∧
  (mbAt s mb).state = .resetting

/-- The operands and the state with which entryTake completes (entryTake). -/
abbrev okEntryTake (mb : Fin 16) (s : State) : Prop :=
  entryReady s mb = true

/-- The operands and the state with which extPayloadFetched completes (extPayloadFails). -/
abbrev okExtPayloadFails (mb : Fin 16) (c : Cmd) (s : State) : Prop :=
  fetching s mb = some c ∧
  firmwareRunning s = true ∧
  hostReachable s = true

/-- The operands and the state with which stepCutStep completes (stepCutLast). -/
abbrev okStepCutLast (mb : Fin 16) (c : Cmd) (p n d : Nat) (s : State) : Prop :=
  firmwareRunning s = true ∧
  domOn s 1 = true ∧
  s.ctl.inflight.findSome? (fun x => match x.phase with | .stepping j => if x.mb = mb then some (x, j) else none | _ => none) = some (c, .dcs p n d) ∧
  (panelAt s p).state ≠ .off ∧
  (panelAt s p).state ≠ .video ∧
  (panelAt s p).queue = [] ∧
  (panelAt s p).due ≤ runTime s ∧
  n = d + 1 ∧
  (((dcsEntries n (c.params.drop 4)).getD []).getD d {}).delay = 0

/-- The operands and the state with which stepCutStep completes (stepCutMore). -/
abbrev okStepCutMore (mb : Fin 16) (c : Cmd) (p n d : Nat) (s : State) : Prop :=
  firmwareRunning s = true ∧
  domOn s 1 = true ∧
  s.ctl.inflight.findSome? (fun x => match x.phase with | .stepping j => if x.mb = mb then some (x, j) else none | _ => none) = some (c, .dcs p n d) ∧
  (panelAt s p).state ≠ .off ∧
  (panelAt s p).state ≠ .video ∧
  (panelAt s p).queue = [] ∧
  (panelAt s p).due ≤ runTime s ∧
  (d + 1 < n ∨ n = d + 1 ∧ 0 < (((dcsEntries n (c.params.drop 4)).getD []).getD d {}).delay) ∧
  runTime s < c.lastRsp + 1000000 * nsUnits

/-- The operands and the state with which stepCutStep completes (stepCutHeld). -/
abbrev okStepCutHeld (mb : Fin 16) (c : Cmd) (p n d : Nat) (s : State) : Prop :=
  firmwareRunning s = true ∧
  domOn s 1 = true ∧
  s.ctl.inflight.findSome? (fun x => match x.phase with | .stepping j => if x.mb = mb then some (x, j) else none | _ => none) = some (c, .dcs p n d) ∧
  d < n ∧
  (panelAt s p).state = .video ∧
  dcsStep p n d c.params { s with ctl := { s.ctl with rrNext := (mb.val + 1) % 16 } } = none

/-- The operands and the state with which stepCutStep completes (stepCutRested). -/
abbrev okStepCutRested (mb : Fin 16) (c : Cmd) (p n d : Nat) (s : State) : Prop :=
  firmwareRunning s = true ∧
  domOn s 1 = true ∧
  s.ctl.inflight.findSome? (fun x => match x.phase with | .stepping j => if x.mb = mb then some (x, j) else none | _ => none) = some (c, .dcs p n d) ∧
  (panelAt s p).state ≠ .off ∧
  (panelAt s p).state ≠ .video ∧
  (panelAt s p).queue = [] ∧
  (panelAt s p).due ≤ runTime s ∧
  n ≤ d

/-- The operands and the state with which lockstepMismatch completes (lockstepMismatch). -/
abbrev okLockstepMismatch (s : State) : Prop :=
  domOn s 1 = true ∧
  s.ctl.pair = .running ∧
  (s.ctl.mismatchTimes.filter (fun t => decide (runTime s ≤ t + secUnits))).length < 2

/-- The operands and the state with which runWatchdogExpiry completes (runWatchdogExpiry). -/
abbrev okRunWatchdogExpiry (s : State) : Prop :=
  s.boot.ready = true ∧
  domOn s 1 = true ∧
  s.ctl.pair = .running ∧
  (s.ctl.mismatchTimes.filter (fun t => decide (runTime s ≤ t + secUnits))).length < 2

/-- The operands and the state with which controlFailure completes (controlFailure). -/
abbrev okControlFailure (s : State) : Prop :=
  s.ctl.pair = .restarting

/-- The operands and the state with which serviceResume completes (serviceResume). -/
abbrev okServiceResume (s : State) : Prop :=
  s.ctl.pair = .restarting

/-- The operands and the state with which tbLatch completes (tbLatch). -/
abbrev okTbLatch (s : State) : Prop :=
  domOn s 4 = true

/-- The operands and the state with which replicaCheck completes (replicaNear). -/
abbrev okReplicaNear (_domain : Fin 16) (diffNs : Int) (_s : State) : Prop :=
  -1 ≤ diffNs ∧
  diffNs ≤ 1

/-- The operands and the state with which replicaCheck completes (replicaFar). -/
abbrev okReplicaFar (_domain : Fin 16) (diffNs : Int) (_s : State) : Prop :=
  diffNs < -1 ∨ 1 < diffNs

/-- The operands and the state with which refSignalValid completes (refSignalValid). -/
abbrev okRefSignalValid (cand : Fin 4) (s : State) : Prop :=
  servoHeld s = false ∧
  candReal s cand = true ∧
  ((candAt s cand).type = 4 → leaderPort s (candAt s cand).unit = false) ∧
  ((candAt s cand).state = .absent ∨ (candAt s cand).state = .lost)

/-- The operands and the state with which refSignalInvalid completes (refSignalInvalid). -/
abbrev okRefSignalInvalid (cand : Fin 4) (s : State) : Prop :=
  servoHeld s = false ∧
  candReal s cand = true ∧
  (candAt s cand).state = .qualifying

/-- The operands and the state with which refQualified completes (refQualified). -/
abbrev okRefQualified (cand : Fin 4) (s : State) : Prop :=
  servoHeld s = false ∧
  candReal s cand = true ∧
  (candAt s cand).state = .qualifying ∧
  ((candAt s cand).type = 5 → s.time.ramp.run = none)

/-- The operands and the state with which refLost completes (refLost). -/
abbrev okRefLost (cand : Fin 4) (s : State) : Prop :=
  servoHeld s = false ∧
  candReal s cand = true ∧
  (candAt s cand).state = .qualified

/-- The operands and the state with which refLostTimeout completes (refLostTimeout). -/
abbrev okRefLostTimeout (cand : Fin 4) (s : State) : Prop :=
  servoHeld s = false ∧
  candReal s cand = true ∧
  (candAt s cand).state = .lost

/-- The operands and the state with which refErrorMeasure completes (refErrorOther). -/
abbrev okRefErrorOther (cand : Fin 4) (_errNs _ppb : Int) (s : State) : Prop :=
  servoHeld s = false ∧
  candReal s cand = true ∧
  (candAt s cand).state = .qualified ∧
  s.time.tb.master ≠ some cand.val

/-- The operands and the state with which refErrorMeasure completes (refErrorMaster). -/
abbrev okRefErrorMaster (cand : Fin 4) (_errNs _ppb : Int) (s : State) : Prop :=
  servoHeld s = false ∧
  candReal s cand = true ∧
  (candAt s cand).state = .qualified ∧
  s.time.tb.master = some cand.val

/-- The operands and the state with which slewComplete completes (slewComplete). -/
abbrev okSlewComplete (s : State) : Prop :=
  servoHeld s = false ∧
  s.time.tb.slew ≠ none ∧
  s.time.tb.errFull.natAbs ≤ 100

/-- The operands and the state with which stepApply completes (stepApplyTimeSet). -/
abbrev okStepApplyTimeSet (v : Nat) (s : State) : Prop :=
  servoHeld s = false ∧
  s.time.tb.timeSetDue = some v ∧
  s.sched.slots = [] ∧
  s.time.tb.state ≠ .stepPending

/-- The operands and the state with which stepApply completes (stepApplyError). -/
abbrev okStepApplyError (e : Int) (s : State) : Prop :=
  servoHeld s = false ∧
  s.time.tb.timeSetDue = none ∧
  s.time.tb.stepDue = some e ∧
  s.sched.slots = []

/-- The operands and the state with which headRealign completes (headRealignOne). -/
abbrev okHeadRealignOne (head : Fin 8) (s : State) : Prop :=
  headEnabled s head = true ∧
  pairLocked s head = false ∧
  (tabGet s.time.tb.heads head).realignDue = true

/-- The operands and the state with which headRealign completes (headRealignPair). -/
abbrev okHeadRealignPair (head : Fin 8) (s : State) : Prop :=
  headEnabled s head = true ∧
  pairLocked s head = true ∧
  (tabGet s.time.tb.heads head).realignDue = true

/-- The operands and the state with which headSlewConverged completes (headConvergedMoved). -/
abbrev okHeadConvergedMoved (head : Fin 8) (s : State) : Prop :=
  headEnabled s head = true ∧
  (tabGet s.time.tb.heads head).phaseErrNs.natAbs ≤ 100 ∧
  (tabGet s.time.tb.heads head).lag = true ∧
  (tabGet s.time.tb.heads head).realignDue = false ∧
  pairLocked s head = false ∧
  (hdAt s head).enabled = true ∧
  (hdAt s head).realign = true

/-- The operands and the state with which headSlewConverged completes (headConvergedOne). -/
abbrev okHeadConvergedOne (head : Fin 8) (s : State) : Prop :=
  headEnabled s head = true ∧
  (tabGet s.time.tb.heads head).phaseErrNs.natAbs ≤ 100 ∧
  (tabGet s.time.tb.heads head).lag = true ∧
  (tabGet s.time.tb.heads head).realignDue = false ∧
  pairLocked s head = false ∧
  (hdAt s head).realign = false

/-- The operands and the state with which headSlewConverged completes (headConvergedPair). -/
abbrev okHeadConvergedPair (head : Fin 8) (s : State) : Prop :=
  headEnabled s head = true ∧
  (tabGet s.time.tb.heads head).phaseErrNs.natAbs ≤ 100 ∧
  (tabGet s.time.tb.heads head).lag = true ∧
  (tabGet s.time.tb.heads head).realignDue = false ∧
  pairLocked s head = true ∧
  (hdAt s head).realign = false

/-- The operands and the state with which referenceFrameStart completes (referenceFramePlain). -/
abbrev okReferenceFramePlain (s : State) : Prop :=
  (∀ p : Nat, p < 4 → (panelAt s p).leaving = false ∧ (panelAt s p).queue = []) ∧
  s.time.refPending = none ∧
  s.time.tc.pending = none ∧
  s.boot.tcPreset = false ∧
  s.time.tc.running = false ∧
  s.time.tc.mode.ltcOut = false

/-- The operands and the state with which referenceFrameStart completes (referenceFrameLabelled). -/
abbrev okReferenceFrameLabelled (s : State) : Prop :=
  (∀ p : Nat, p < 4 → (panelAt s p).leaving = false ∧ (panelAt s p).queue = []) ∧
  s.time.refPending = none ∧
  s.time.tc.pending = none ∧
  s.boot.tcPreset = false ∧
  s.time.tc.running = true ∧
  s.time.tc.mode.ltcOut = false

/-- The operands and the state with which referenceFrameStart completes (referenceFrameRaster). -/
abbrev okReferenceFrameRaster (r : RefRaster) (s : State) : Prop :=
  (∀ p : Nat, p < 4 → (panelAt s p).leaving = false ∧ (panelAt s p).queue = []) ∧
  s.time.refPending = some r ∧
  s.time.tc.pending = none ∧
  s.boot.tcPreset = false ∧
  s.time.tc.running = false ∧
  s.time.tc.mode.ltcOut = false

/-- The operands and the state with which ltcWordReceived completes (ltcGone). -/
abbrev okLtcGone (valid : Bool) (_hh _mm _ss _ff : Nat) (_s : State) : Prop :=
  valid = false

/-- The operands and the state with which ltcWordReceived completes (ltcArmed). -/
abbrev okLtcArmed (valid : Bool) (_hh _mm _ss _ff : Nat) (s : State) : Prop :=
  valid = true ∧
  s.time.tc.pending = none ∧
  s.time.tc.running = true ∧
  s.time.tc.mode.mode = 1 ∧
  s.time.tc.armed = true

/-- The operands and the state with which ltcWordReceived completes (ltcKept). -/
abbrev okLtcKept (valid : Bool) (_hh _mm _ss _ff : Nat) (s : State) : Prop :=
  valid = true ∧
  s.time.tc.pending = none ∧
  (s.time.tc.running = false ∨ s.time.tc.mode.mode = 0 ∨ s.time.tc.mode.mode = 3)

/-- The operands and the state with which captureFrameBoundary completes (captureMarker). -/
abbrev okCaptureMarker (k : Fin 4) (s : State) : Prop :=
  s.time.cap.pending = none ∧
  s.time.ramp.startFrame ≠ some (s.time.cap.frame + 1) ∧
  s.time.cap.mode.drive = false ∧
  s.time.cap.mode.stream = k.val

/-- The operands and the state with which captureFrameBoundary completes (captureDriven). -/
abbrev okCaptureDriven (s : State) : Prop :=
  s.time.cap.pending = none ∧
  s.time.ramp.startFrame ≠ some (s.time.cap.frame + 1) ∧
  s.time.cap.mode.drive = true ∧
  (synAt s 8).gated = false

/-- The operands and the state with which captureMarkerTimeout completes (captureMarkerTimeout). -/
abbrev okCaptureMarkerTimeout (s : State) : Prop :=
  s.time.cap.mode.drive = false ∧
  s.time.cap.gapRaised = false ∧
  s.time.cap.hasBoundary = true ∧
  0 < s.time.cap.period ∧
  s.time.cap.markers = [] ∧
  s.time.cap.lastMarker + 2 * s.time.cap.period ≤ s.time.tb.now

/-- The operands and the state with which captureContinuationFrame completes (captureContinuationFrame). -/
abbrev okCaptureContinuationFrame (s : State) : Prop :=
  s.time.cap.pending = none ∧
  s.time.ramp.startFrame ≠ some (s.time.cap.frame + 1) ∧
  s.time.cap.mode.drive = false ∧
  s.time.cap.continuing = true

/-- The operands and the state with which rampUpdate completes (rampUpdate). -/
abbrev okRampUpdate (r : RampRun) (g : RampSeg) (rest : List RampSeg) (s : State) : Prop :=
  s.time.ramp.run = some r ∧
  (synAt s 8).gated = false ∧
  r.segs = g :: rest ∧
  r.tUs + 1 < g.duration

/-- The operands and the state with which rampEnd completes (rampEnd). -/
abbrev okRampEnd (r : RampRun) (g : RampSeg) (s : State) : Prop :=
  s.time.ramp.run = some r ∧
  r.segs = [g] ∧
  r.tUs = g.duration

/-- The operands and the state with which synLossOfLock completes (synLossOfLock). -/
abbrev okSynLossOfLock (syn : Fin 12) (s : State) : Prop :=
  (synAt s syn).state = .locked

/-- The operands and the state with which synLockTimeout completes (synLockTimeout). -/
abbrev okSynLockTimeout (syn : Fin 12) (s : State) : Prop :=
  (synAt s syn).state = .acquiring ∧
  (synAt s syn).attempts = 0

/-- The operands and the state with which synLockDeclared completes (synLockDeclared). -/
abbrev okSynLockDeclared (syn : Fin 12) (_band : Fin 64) (_fine _us : Nat) (s : State) : Prop :=
  (synAt s syn).state = .acquiring ∧
  (synAt s syn).refFault = false ∧
  (∀ j ∈ synPairOf s syn, j ≠ syn.val → (synAt s j).state = .locked ∧ (synAt s j).refFault = false)

/-- The operands and the state with which synLockDeclared completes (synLockWaits). -/
abbrev okSynLockWaits (syn : Fin 12) (_band : Fin 64) (_fine _us : Nat) (s : State) : Prop :=
  (synAt s syn).state = .acquiring ∧
  ((synAt s syn).refFault = true ∨ ¬(∀ j ∈ synPairOf s syn, j ≠ syn.val → (synAt s j).state = .locked ∧ (synAt s j).refFault = false))

/-- The operands and the state with which synRelockAttemptEnd completes (synRelockAgain). -/
abbrev okSynRelockAgain (syn : Fin 12) (s : State) : Prop :=
  (synAt s syn).state = .acquiring ∧
  0 < (synAt s syn).attempts ∧
  (synAt s syn).attempts < 3

/-- The operands and the state with which synRelockAttemptEnd completes (synRelockFailed). -/
abbrev okSynRelockFailed (syn : Fin 12) (s : State) : Prop :=
  (synAt s syn).state = .acquiring ∧
  3 ≤ (synAt s syn).attempts

/-- The operands and the state with which cachedBandTimeout completes (cachedBandTimeout). -/
abbrev okCachedBandTimeout (syn : Fin 12) (s : State) : Prop :=
  (synAt s syn).state = .acquiring ∧
  (synAt s syn).cacheHit = true ∧
  (synAt s syn).searching = false

/-- The operands and the state with which synUpdatePoint completes (synUpdatePoint). -/
abbrev okSynUpdatePoint (syn : Fin 12) (s : State) : Prop :=
  synPairOf s syn = [syn.val]

/-- The operands and the state with which synUpdatePoint completes (synUpdatePair). -/
abbrev okSynUpdatePair (syn : Fin 12) (s : State) : Prop :=
  synPairOf s syn = [syn.val / 2 * 2, syn.val / 2 * 2 + 1]

/-- The operands and the state with which trackingLoopUpdate completes (trackingLoopUpdate). -/
abbrev okTrackingLoopUpdate (head : Fin 8) (_phaseErrNs : Int) (s : State) : Prop :=
  pairLocked s head = false ∧
  (synAt s 10).cfg.sdiLead = none ∧
  (synAt s 11).cfg.sdiLead = none

/-- The operands and the state with which occurrenceArm completes (occurrenceArm). -/
abbrev okOccurrenceArm (slot : Fin 4096) (t : Nat) (s : State) : Prop :=
  armable s (slotAt s slot) = true ∧
  armFree s slot = true ∧
  occInstant s (slotAt s slot) = some t

/-- The operands and the state with which occurrenceFire completes (occurrenceWithdrawn). -/
abbrev okOccurrenceWithdrawn (slot : Fin 4096) (a : ArmedOcc) (s : State) : Prop :=
  (slotAt s slot).armed = some a ∧
  rasterHeld s (slotAt s slot).content.kind (slotAt s slot).content.unit = true

/-- The operands and the state with which occurrenceFire completes (occurrenceRises). -/
abbrev okOccurrenceRises (slot : Fin 4096) (a : ArmedOcc) (s : State) : Prop :=
  (slotAt s slot).armed = some a ∧
  a.late = false ∧
  firesAfter s slot a = false ∧
  rasterHeld s (slotAt s slot).content.kind (slotAt s slot).content.unit = false ∧
  (slotAt s slot).content.kind = 0 ∧
  (slotAt s slot).pending = [] ∧
  (slotAt s slot).content.action = 1 ∧
  (tabGet s.sched.pins (slotAt s slot).content.pin).outputEn = true ∧
  (tabGet s.sched.pins (slotAt s slot).content.pin).level = false ∧
  (tabGet s.sched.pins (slotAt s slot).content.pin).base = false ∧
  (tabGet s.sched.pins (slotAt s slot).content.pin).edges = []

/-- The operands and the state with which pulseStop completes (pulseStop). -/
abbrev okPulseStop (slot : Fin 4096) (p : PulseRun) (s : State) : Prop :=
  duePulse s slot = some p

/-- The operands and the state with which snapshotComplete completes (snapshotComplete). -/
abbrev okSnapshotComplete (t tag : Nat) (s : State) : Prop :=
  s.sched.snap.running = some (t, tag)

/-- The operands and the state with which fsReadRequest completes (fsReadClean). -/
abbrev okFsReadClean (fsa : Nat) (s : State) : Prop :=
  s.fs.up = true ∧
  beyond s (64 * (fsa / 64)) = false ∧
  aboveFill s (64 * (fsa / 64)) = false ∧
  chanDead s (placeOf s (64 * (fsa / 64))).1 = false ∧
  (tabGet s.fs.ecc (fsa / 64)).symbols = 0 ∧
  (tabGet s.fs.ecc (fsa / 64)).poison = false

/-- The operands and the state with which fsReadRequest completes (fsReadCorrected). -/
abbrev okFsReadCorrected (fsa : Nat) (s : State) : Prop :=
  s.fs.up = true ∧
  beyond s (64 * (fsa / 64)) = false ∧
  aboveFill s (64 * (fsa / 64)) = false ∧
  chanDead s (placeOf s (64 * (fsa / 64))).1 = false ∧
  (tabGet s.fs.ecc (fsa / 64)).symbols = 1 ∧
  (tabGet s.fs.ecc (fsa / 64)).poison = false

/-- The operands and the state with which fsReadRequest completes (fsReadUncorrectable). -/
abbrev okFsReadUncorrectable (fsa : Nat) (s : State) : Prop :=
  s.fs.up = true ∧
  beyond s (64 * (fsa / 64)) = false ∧
  aboveFill s (64 * (fsa / 64)) = false ∧
  chanDead s (placeOf s (64 * (fsa / 64))).1 = false ∧
  ((tabGet s.fs.ecc (fsa / 64)).symbols = 2 ∨ (tabGet s.fs.ecc (fsa / 64)).poison = true)

/-- The operands and the state with which fsReadRequest completes (fsReadBeyond). -/
abbrev okFsReadBeyond (fsa : Nat) (s : State) : Prop :=
  capacity s ≤ 64 * (fsa / 64)

/-- The operands and the state with which fsReadRequest completes (fsReadUnfilled). -/
abbrev okFsReadUnfilled (fsa : Nat) (s : State) : Prop :=
  s.fs.up = true ∧
  64 * (fsa / 64) < capacity s ∧
  s.fs.fillDone = false ∧
  s.fs.fillPtr * 65536 ≤ 64 * (fsa / 64)

/-- The operands and the state with which fsWriteRequest completes (fsWriteLineWhole). -/
abbrev okFsWriteLineWhole (line : Nat) (data : List Byte) (s : State) : Prop :=
  data.length = 64 ∧
  s.fs.up = true ∧
  beyond s (64 * (line)) = false ∧
  aboveFill s (64 * (line)) = false ∧
  chanDead s (placeOf s (64 * (line))).1 = false

/-- The operands and the state with which fsWriteRequest completes (fsWritePoisons). -/
abbrev okFsWritePoisons (fsa : Nat) (data : List Byte) (s : State) : Prop :=
  0 < data.length ∧
  fsa % 64 + data.length ≤ 64 ∧
  data.length < 64 ∧
  s.fs.up = true ∧
  beyond s (64 * (fsa / 64)) = false ∧
  aboveFill s (64 * (fsa / 64)) = false ∧
  chanDead s (placeOf s (64 * (fsa / 64))).1 = false ∧
  ((tabGet s.fs.ecc (fsa / 64)).symbols = 2 ∨ (tabGet s.fs.ecc (fsa / 64)).poison = true)

/-- The operands and the state with which fsWriteRequest completes (fsWriteMerged). -/
abbrev okFsWriteMerged (fsa : Nat) (data : List Byte) (s : State) : Prop :=
  0 < data.length ∧
  fsa % 64 + data.length ≤ 64 ∧
  data.length < 64 ∧
  s.fs.up = true ∧
  beyond s (64 * (fsa / 64)) = false ∧
  aboveFill s (64 * (fsa / 64)) = false ∧
  chanDead s (placeOf s (64 * (fsa / 64))).1 = false ∧
  (tabGet s.fs.ecc (fsa / 64)).symbols = 0 ∧
  (tabGet s.fs.ecc (fsa / 64)).poison = false

/-- The operands and the state with which fsWriteRequest completes (fsWriteDead). -/
abbrev okFsWriteDead (line : Nat) (data : List Byte) (s : State) : Prop :=
  data.length = 64 ∧
  s.fs.up = true ∧
  beyond s (64 * line) = false ∧
  aboveFill s (64 * line) = false ∧
  chanDead s (placeOf s (64 * line)).1 = true

/-- The operands and the state with which patrolScrubRead completes (patrolClean). -/
abbrev okPatrolClean (s : State) : Prop :=
  s.fs.fillDone = true ∧
  s.fs.up = true ∧
  s.fs.patrol.line < capacity s / 64 ∧
  s.fs.patrol.line + 1 < patrolLines s ∧
  (chanAt s (placeOf s (64 * s.fs.patrol.line)).1).state = .active ∧
  tabGet s.fs.ecc s.fs.patrol.line = {}

/-- The operands and the state with which patrolScrubRead completes (patrolPassEnds). -/
abbrev okPatrolPassEnds (s : State) : Prop :=
  s.fs.fillDone = true ∧
  s.fs.up = true ∧
  capacity s / 64 ≤ s.fs.patrol.line ∧
  patrolLines s ≤ s.fs.patrol.line + 1 ∧
  (chanAt s ((s.fs.patrol.line - capacity s / 64) % 16)).state = .retired

/-- The operands and the state with which startupFillStep completes (startupFillStep). -/
abbrev okStartupFillStep (s : State) : Prop :=
  s.fs.up = true ∧
  s.fs.fillDone = false ∧
  s.fs.fillPtr < capacityUnits s

/-- The operands and the state with which startupFillStep completes (startupFillReserve). -/
abbrev okStartupFillReserve (s : State) : Prop :=
  s.fs.up = true ∧
  s.fs.fillDone = false ∧
  capacityUnits s ≤ s.fs.fillPtr

/-- The operands and the state with which startupFillDone completes (startupFillDone). -/
abbrev okStartupFillDone (s : State) : Prop :=
  s.fs.up = true ∧
  s.fs.fillDone = false ∧
  s.fs.fillPtr = capacityUnits s ∧
  (s.fs.reserveFilled = true ∨ s.fs.cfg.reserve = false)

/-- The operands and the state with which channelTraining completes (channelTrained). -/
abbrev okChannelTrained (chan : Fin 16) (s : State) : Prop :=
  domOn s (11 + chan / 4) = true ∧
  (domAt s (11 + chan / 4)).loading = false ∧
  chanToTrain s chan = true ∧
  s.power.waking = false

/-- The operands and the state with which channelTraining completes (channelUntrained). -/
abbrev okChannelUntrained (chan : Fin 16) (s : State) : Prop :=
  domOn s (11 + chan / 4) = true ∧
  (domAt s (11 + chan / 4)).loading = false ∧
  chanToTrain s chan = true ∧
  (chanAt s chan).state ≠ .retired ∧
  (s.fs.cfg.reserve = false ∨ anyRetired s = true)

/-- The operands and the state with which channelTraining completes (channelNotAgain). -/
abbrev okChannelNotAgain (chan : Fin 16) (_ok : Bool) (s : State) : Prop :=
  domOn s (11 + chan / 4) = true ∧
  (domAt s (11 + chan / 4)).loading = false ∧
  chanToTrain s chan = false

/-- The operands and the state with which wckOscRead completes (wckOscRead). -/
abbrev okWckOscRead (chan : Fin 16) (drift0 drift1 : Int) (s : State) : Prop :=
  firmwareRunning s = true ∧
  (chanAt s chan).trained = true ∧
  (drift0 ≠ 0 ∨ drift1 ≠ 0)

/-- The operands and the state with which nudgeApply completes (nudgeSmall). -/
abbrev okNudgeSmall (chan : Fin 16) (a b : Int) (s : State) : Prop :=
  firmwareRunning s = true ∧
  (chanAt s chan).nudgeDue = some (a, b) ∧
  (clampI (-128) 127 ((chanAt s chan).nudge0 + a)).natAbs < 16 ∧
  (clampI (-128) 127 ((chanAt s chan).nudge1 + b)).natAbs < 16

/-- The operands and the state with which nudgeApply completes (nudgeReachesLimit). -/
abbrev okNudgeReachesLimit (chan : Fin 16) (a b : Int) (s : State) : Prop :=
  firmwareRunning s = true ∧
  (chanAt s chan).nudgeDue = some (a, b) ∧
  (chanAt s chan).nudge0.natAbs < 16 ∧
  16 ≤ (clampI (-128) 127 ((chanAt s chan).nudge0 + a)).natAbs

/-- The operands and the state with which nudgeApply completes (nudgePauses). -/
abbrev okNudgePauses (_chan : Fin 16) (s : State) : Prop :=
  firmwareRunning s = false

/-- The operands and the state with which migrationGranuleCopy completes (migrationGranuleCopy). -/
abbrev okMigrationGranuleCopy (c : Nat) (s : State) : Prop :=
  retiringChan s = some c ∧
  s.fs.migrateNext < chanGranules s

/-- The operands and the state with which migrationComplete completes (migrationComplete). -/
abbrev okMigrationComplete (c : Nat) (s : State) : Prop :=
  retiringChan s = some c ∧
  s.fs.migrateNext = chanGranules s

/-- The operands and the state with which rankPowerDownEntry completes (rankPowerDownEntry). -/
abbrev okRankPowerDownEntry (chan : Fin 16) (rank : Fin 2) (s : State) : Prop :=
  (s.fs.pdIdle ≠ 0 ∨ s.power.state = .idle) ∧
  rank < s.fs.cfg.ranks ∧
  (chanAt s chan).pdRanks.contains rank.val = false ∧
  (chanAt s chan).selfRefresh = false

/-- The operands and the state with which channelFail completes (channelFail). -/
abbrev okChannelFail (chan : Fin 16) (s : State) : Prop :=
  (chanAt s chan).state = .active ∧
  chanDead s chan = false ∧
  (s.fs.autoRetire = false ∨ s.fs.cfg.reserve = false ∨ anyRetired s = true)

/-- The operands and the state with which channelFail completes (channelFailRetires). -/
abbrev okChannelFailRetires (chan : Fin 16) (s : State) : Prop :=
  (chanAt s chan).state = .active ∧
  chanDead s chan = false ∧
  s.fs.autoRetire = true ∧
  s.fs.cfg.reserve = true ∧
  anyRetired s = false

/-- The operands and the state with which channelFail completes (channelFailRetiring). -/
abbrev okChannelFailRetiring (chan : Fin 16) (s : State) : Prop :=
  (chanAt s chan).state = .retiring ∧
  chanDead s chan = false

/-- The operands and the state with which ledgerAcquire completes (ledgerAcquired). -/
abbrev okLedgerAcquired (_cls : Fin 16) (_inst : Fin 32) (pool : Fin 64) (b : Nat) (rc : Bool) (s : State) : Prop :=
  (poolAt s pool).used = true ∧
  acquirePick s (poolAt s pool) = some (b, rc)

/-- The operands and the state with which ledgerAcquire completes (ledgerEmpty). -/
abbrev okLedgerEmpty (_cls : Fin 16) (_inst : Fin 32) (pool : Fin 64) (s : State) : Prop :=
  (poolAt s pool).used = true ∧
  acquirePick s (poolAt s pool) = none

/-- The operands and the state with which ledgerPublish completes (ledgerPublish). -/
abbrev okLedgerPublish (cls : Fin 16) (inst : Fin 32) (buf : Fin 4096) (_frame _capSec _capNs p : Nat) (s : State) : Prop :=
  tokStale s (agentToken s cls inst) = false ∧
  (bufAt s buf).state = .owned ∧
  (bufAt s buf).owner = agentToken s cls inst ∧
  poolOf s buf = some p

/-- The operands and the state with which ledgerPublish completes (ledgerPublishRejected). -/
abbrev okLedgerPublishRejected (cls : Fin 16) (inst : Fin 32) (buf : Fin 4096) (_frame _capSec _capNs : Nat) (s : State) : Prop :=
  tokStale s (agentToken s cls inst) = false ∧
  (bufAt s buf).state = .published

/-- The operands and the state with which ledgerDiscard completes (ledgerDiscard). -/
abbrev okLedgerDiscard (cls : Fin 16) (inst : Fin 32) (buf : Fin 4096) (s : State) : Prop :=
  tokStale s (agentToken s cls inst) = false ∧
  (bufAt s buf).state = .owned ∧
  (bufAt s buf).owner = agentToken s cls inst ∧
  refCount s buf = 0

/-- The operands and the state with which ledgerDiscard completes (ledgerDiscardIgnored). -/
abbrev okLedgerDiscardIgnored (cls : Fin 16) (inst : Fin 32) (buf : Fin 4096) (s : State) : Prop :=
  tokStale s (agentToken s cls inst) = false ∧
  (bufAt s buf).state = .free

/-- The operands and the state with which ledgerRefTake completes (ledgerRefTake). -/
abbrev okLedgerRefTake (cls : Fin 16) (inst : Fin 32) (buf : Fin 4096) (follow : Bool) (s : State) : Prop :=
  takeRefusal follow buf (agentToken s cls inst) s = none

/-- The operands and the state with which ledgerRefTake completes (ledgerRefTakeFull). -/
abbrev okLedgerRefTakeFull (cls : Fin 16) (inst : Fin 32) (buf : Fin 4096) (follow : Bool) (e : Nat) (s : State) : Prop :=
  takeRefusal follow buf (agentToken s cls inst) s = some e ∧
  (e = 3 ∨ e = 4)

/-- The operands and the state with which ledgerRefRelease completes (ledgerRefRelease). -/
abbrev okLedgerRefRelease (cls : Fin 16) (inst : Fin 32) (buf : Fin 4096) (s : State) : Prop :=
  tokStale s (agentToken s cls inst) = false ∧
  holdsRef s buf (agentToken s cls inst) = true

/-- The operands and the state with which agentResetReclaim completes (agentResetReclaim). -/
abbrev okAgentResetReclaim (cls : Fin 16) (inst : Fin 32) (tok : Nat) (s : State) : Prop :=
  s.ledger.drains = [tok] ∧
  tokAgent tok = 32 * cls.val + inst.val ∧
  cls.val ≠ 1 ∧
  cls.val ≠ 2 ∧
  cls.val ≠ 5

/-- The operands and the state with which bar2Read completes (bar2ReadLine). -/
abbrev okBar2ReadLine (offset : Fin 268435456) (line : Nat) (s : State) : Prop :=
  domOn s 3 = true ∧
  s.host.apBase * 2 ^ 20 + offset.val = 64 * line ∧
  storeOn s = true ∧
  s.fs.up = true ∧
  beyond s (64 * line) = false ∧
  aboveFill s (64 * line) = false ∧
  chanDead s (placeOf s (64 * line)).1 = false ∧
  (tabGet s.fs.ecc line).symbols = 0 ∧
  (tabGet s.fs.ecc line).poison = false

/-- The operands and the state with which bar2Read completes (bar2ReadOff). -/
abbrev okBar2ReadOff (offset : Fin 268435456) (line : Nat) (s : State) : Prop :=
  domOn s 3 = true ∧
  s.host.apBase * 2 ^ 20 + offset.val = 64 * line ∧
  storeOn s = false

/-- The operands and the state with which bar2Write completes (bar2WriteLine). -/
abbrev okBar2WriteLine (offset : Fin 268435456) (line : Nat) (data : List Byte) (s : State) : Prop :=
  domOn s 3 = true ∧
  s.host.apBase * 2 ^ 20 + offset.val = 64 * line ∧
  storeOn s = true ∧
  s.fs.up = true ∧
  beyond s (64 * line) = false ∧
  aboveFill s (64 * line) = false ∧
  131072 ≤ line ∧
  data.length = 64

/-- The operands and the state with which bar2Write completes (bar2WriteMap). -/
abbrev okBar2WriteMap (offset : Fin 268435456) (line : Nat) (data : List Byte) (s : State) : Prop :=
  domOn s 3 = true ∧
  s.host.apBase * 2 ^ 20 + offset.val = 64 * line ∧
  storeOn s = true ∧
  s.fs.up = true ∧
  beyond s (64 * line) = false ∧
  aboveFill s (64 * line) = false ∧
  line < 131072 ∧
  data.length = 64

/-- The operands and the state with which kmlMarkerReceived completes (kmlMarkerReceived). -/
abbrev okKmlMarkerReceived (lane : Fin 24) (m logical _group _seq linkState : Nat) (_fec : FecCounts) (s : State) : Prop :=
  (laneAt s lane).mac = m ∧
  (laneAt s lane).use = 1 ∧
  (macAt s m).enabled = true ∧
  isKml (macAt s m) = true ∧
  (macAt s m).sleep = false ∧
  (macAt s m).starting = false ∧
  (macAt s m).lk.link = .up ∧
  (laneAt s lane).rxLogical = logical ∧
  logical < (macAt s m).cfg.width ∧
  (macAt s m).lk.peerRlf = 0 ∧
  linkState % 2 = 1

/-- The operands and the state with which adaptTimeout completes (adaptTimeout). -/
abbrev okAdaptTimeout (mac : Fin 16) (s : State) : Prop :=
  (macAt s mac).enabled = true ∧
  isKml (macAt s mac) = true ∧
  ((macAt s mac).lk.link = .adapt ∨ (macAt s mac).lk.link = .lock ∨ (macAt s mac).lk.link = .aligned)

/-- The operands and the state with which laneFault completes (laneFaultPlain). -/
abbrev okLaneFaultPlain (lane : Fin 24) (m : Nat) (cause : Fin 4) (s : State) : Prop :=
  (laneAt s lane).mac = m ∧
  (laneAt s lane).use ≠ 0 ∧
  (macAt s m).enabled = true ∧
  (macAt s m).sleep = false ∧
  (laneAt s lane).fault = false ∧
  isKml (macAt s m) = false ∧
  cause.val < 2

/-- The operands and the state with which laneFault completes (laneFaultNotUp). -/
abbrev okLaneFaultNotUp (lane : Fin 24) (m : Nat) (_cause : Fin 4) (s : State) : Prop :=
  (laneAt s lane).mac = m ∧
  (laneAt s lane).use ≠ 0 ∧
  (macAt s m).enabled = true ∧
  (macAt s m).sleep = false ∧
  (laneAt s lane).fault = false ∧
  isKml (macAt s m) = true ∧
  linkUp (macAt s m) = false

/-- The operands and the state with which laneFault completes (laneFaultNoSpare). -/
abbrev okLaneFaultNoSpare (lane : Fin 24) (m : Nat) (_cause : Fin 4) (s : State) : Prop :=
  (laneAt s lane).mac = m ∧
  (laneAt s lane).use ≠ 0 ∧
  (macAt s m).enabled = true ∧
  (macAt s m).sleep = false ∧
  (laneAt s lane).fault = false ∧
  isKml (macAt s m) = true ∧
  linkUp (macAt s m) = true ∧
  (laneAt s lane).use = 1 ∧
  (laneAt s lane).rxLogical = 0 ∧
  (macAt s m).lk.rlf = 0 ∧
  (tabGet (macAt s m).lk.spares 0).valid = false ∧
  (tabGet (macAt s m).lk.spares 1).valid = false

/-- The operands and the state with which txMarkerPoint completes (txMarkerPoint). -/
abbrev okTxMarkerPoint (mac : Fin 16) (s : State) : Prop :=
  (macAt s mac).enabled = true ∧
  isKml (macAt s mac) = true ∧
  (macAt s mac).sleep = false ∧
  (macAt s mac).lk.link = .adapt ∧
  (macAt s mac).lk.moves = []

/-- The operands and the state with which ethLinkChange completes (ethLinkUp). -/
abbrev okEthLinkUp (mac : Fin 16) (_fec : FecCounts) (s : State) : Prop :=
  (macAt s mac).enabled = true ∧
  isKml (macAt s mac) = false ∧
  (macAt s mac).sleep = false ∧
  (macAt s mac).starting = false

/-- The operands and the state with which ethLinkChange completes (ethLinkDown). -/
abbrev okEthLinkDown (mac : Fin 16) (pcsLock localFault remoteFault : Bool) (_fec : FecCounts) (s : State) : Prop :=
  (macAt s mac).enabled = true ∧
  isKml (macAt s mac) = false ∧
  (macAt s mac).sleep = false ∧
  (macAt s mac).starting = false ∧
  (pcsLock = false ∨ localFault = true ∨ remoteFault = true) ∧
  linkUp (macAt s mac) = true

/-- The operands and the state with which macFrameReceived completes (frameShort). -/
abbrev okFrameShort (mac : Fin 16) (frame : List Byte) (_fcsOk : Bool) (s : State) : Prop :=
  linkUp (macAt s mac) = true ∧
  frame.length < 60

/-- The operands and the state with which macFrameReceived completes (frameBadFcs). -/
abbrev okFrameBadFcs (mac : Fin 16) (frame : List Byte) (s : State) : Prop :=
  linkUp (macAt s mac) = true ∧
  60 ≤ frame.length ∧
  frame.length + 4 ≤ (macAt s mac).cfg.maxFrame

/-- The operands and the state with which macFrameReceived completes (frameLong). -/
abbrev okFrameLong (mac : Fin 16) (frame : List Byte) (s : State) : Prop :=
  linkUp (macAt s mac) = true ∧
  60 ≤ frame.length ∧
  (macAt s mac).cfg.maxFrame < frame.length + 4 ∧
  (macAt s mac).cfg.role ≠ 0

/-- The operands and the state with which macFrameReceived completes (frameGood). -/
abbrev okFrameGood (mac : Fin 16) (frame : List Byte) (s : State) : Prop :=
  linkUp (macAt s mac) = true ∧
  60 ≤ frame.length ∧
  frame.length + 4 ≤ (macAt s mac).cfg.maxFrame ∧
  tagged frame = false

/-- The operands and the state with which txFrameStart completes (txFrameStart). -/
abbrev okTxFrameStart (mac : Fin 16) (queue : Fin 8) (f : TxFrame) (s : State) : Prop :=
  linkUp (macAt s mac) = true ∧
  (macAt s mac).tx.cur = none ∧
  (macAt s mac).tx.paused = false ∧
  (macAt s mac).stopping = false ∧
  (macAt s mac).tx.waiting.find? (fun f => decide (f.queue = queue.val)) = some f ∧
  min (tabGet (macAt s mac).tx.queues queue).thr f.bytes.length ≤ inBuffer (macAt s mac) f ∧
  f.owner ≠ 3

/-- The operands and the state with which txFrameStart completes (txFrameWaits). -/
abbrev okTxFrameWaits (mac : Fin 16) (queue : Fin 8) (f : TxFrame) (s : State) : Prop :=
  (macAt s mac).tx.waiting.find? (fun f => decide (f.queue = queue.val)) = some f ∧
  inBuffer (macAt s mac) f < min (tabGet (macAt s mac).tx.queues queue).thr f.bytes.length

/-- The operands and the state with which txUnderrun completes (txUnderrun). -/
abbrev okTxUnderrun (mac : Fin 16) (_bytes : Nat) (f : TxFrame) (s : State) : Prop :=
  (macAt s mac).tx.cur = some f ∧
  (macAt s mac).stopping = false

/-- The operands and the state with which txFrameEnd completes (txFrameEnd). -/
abbrev okTxFrameEnd (mac : Fin 16) (f : TxFrame) (s : State) : Prop :=
  (macAt s mac).tx.cur = some f ∧
  (macAt s mac).stopping = false ∧
  60 ≤ f.bytes.length ∧
  tagged f.bytes = false

/-- The operands and the state with which pauseTimerExpiry completes (pauseTimerExpiry). -/
abbrev okPauseTimerExpiry (mac : Fin 16) (s : State) : Prop :=
  (macAt s mac).tx.paused = true

/-- The operands and the state with which pauseAlarm completes (pauseAlarm). -/
abbrev okPauseAlarm (mac : Fin 16) (s : State) : Prop :=
  (macAt s mac).tx.paused = true ∧
  (macAt s mac).tx.alarmed = false ∧
  (macAt s mac).cfg.pauseAlarm ≠ 0

/-- The operands and the state with which wakeDetect completes (wakeDetect). -/
abbrev okWakeDetect (mac : Fin 16) (s : State) : Prop :=
  (macAt s mac).enabled = true ∧
  (macAt s mac).sleep = true ∧
  (macAt s mac).detect ≠ 0 ∧
  (macAt s mac).woke = false

/-- The operands and the state with which kpiFrameStart completes (kpiFrameStart). -/
abbrev okKpiFrameStart (mac : Fin 16) (frame : List Byte) (k : Nat) (s : State) : Prop :=
  toEngine (macAt s mac) frame = true ∧
  (macAt s mac).cfg.role = 1 ∧
  be16 frame 12 = 0x88B5 ∧
  beAt (kpiOf frame) 0 1 = 1 ∧
  beAt (kpiOf frame) 1 1 = 1 ∧
  beAt (kpiOf frame) 2 1 % 4 = k ∧
  (inAt s k).enabled = true ∧
  (inAt s k).cfg.mac = mac.val

/-- The operands and the state with which kpiLinePacket completes (kpiLinePacket). -/
abbrev okKpiLinePacket (mac : Fin 16) (frame : List Byte) (k : Nat) (s : State) : Prop :=
  toEngine (macAt s mac) frame = true ∧
  (macAt s mac).cfg.role = 1 ∧
  be16 frame 12 = 0x88B5 ∧
  beAt (kpiOf frame) 0 1 = 2 ∧
  beAt (kpiOf frame) 1 1 = 1 ∧
  beAt (kpiOf frame) 2 1 % 4 = k ∧
  (inAt s k).enabled = true ∧
  (inAt s k).cfg.mac = mac.val

/-- The operands and the state with which kpiFrameEnd completes (kpiFrameEnd). -/
abbrev okKpiFrameEnd (mac : Fin 16) (frame : List Byte) (k : Nat) (s : State) : Prop :=
  toEngine (macAt s mac) frame = true ∧
  (macAt s mac).cfg.role = 1 ∧
  be16 frame 12 = 0x88B5 ∧
  beAt (kpiOf frame) 0 1 = 3 ∧
  beAt (kpiOf frame) 1 1 = 1 ∧
  beAt (kpiOf frame) 2 1 % 4 = k ∧
  (inAt s k).enabled = true ∧
  (inAt s k).cfg.mac = mac.val ∧
  (inAt s k).state = .opened ∧
  beAt (kpiOf frame) 8 8 = (inAt s k).pic.frame

/-- The operands and the state with which kpiEndTimeout completes (kpiEndTimeout). -/
abbrev okKpiEndTimeout (stream : Fin 4) (s : State) : Prop :=
  (inAt s stream).state = .opened

/-- The operands and the state with which kpiStatusSend completes (kpiStatusSend). -/
abbrev okKpiStatusSend (stream : Fin 4) (s : State) : Prop :=
  (inAt s stream).enabled = true ∧
  (inAt s stream).srcAddr.isSome = true ∧
  linkUp (macAt s (inAt s stream).cfg.mac) = true ∧
  (macAt s (inAt s stream).cfg.mac).stopping = false

/-- The operands and the state with which fpGo completes (fpGoTaken). -/
abbrev okFpGoTaken (layer : Fin 64) (s : State) : Prop :=
  domOn s 27 = true ∧
  (layAt s layer).cfg.env.on = true ∧
  (layAt s layer).head.isSome = true

/-- The operands and the state with which fpGo completes (fpGoRejected). -/
abbrev okFpGoRejected (layer : Fin 64) (s : State) : Prop :=
  domOn s 27 = true ∧
  ((layAt s layer).cfg.env.on = false ∨ (layAt s layer).head = none)

/-- The operands and the state with which fastPathLatch completes (fastPathLatched). -/
abbrev okFastPathLatched (layer : Fin 64) (h : Nat) (f : FastSet) (s : State) : Prop :=
  (layAt s layer).head = some h ∧
  headEnabled s h = true ∧
  (hdAt s (lowerOf s h)).inBlank = false ∧
  (layAt s layer).fp.pending = some f ∧
  fpOk (modLay layer (fun x => { x with fp := { x.fp with pending := none } }) s) layer f = true

/-- The operands and the state with which fastPathLatch completes (fastPathRejected). -/
abbrev okFastPathRejected (layer : Fin 64) (h : Nat) (f : FastSet) (s : State) : Prop :=
  (layAt s layer).head = some h ∧
  headEnabled s h = true ∧
  (hdAt s (lowerOf s h)).inBlank = false ∧
  (layAt s layer).fp.pending = some f ∧
  fpOk (modLay layer (fun x => { x with fp := { x.fp with pending := none } }) s) layer f = false

/-- The operands and the state with which commitArm completes (commitArmFails). -/
abbrev okCommitArmFails (c : Cmd) (st : Status) (d : Nat) (r : List Byte) (u : State) (s : State) : Prop :=
  firmwareRunning s = true ∧
  s.ctl.inflight.find? (fun c => decide (c.phase = .waiting .commitArm) ∧
  !commitBlocked s (headBits (c.u8 0))) = some c ∧
  tryArm c s = .final st d r u

/-- The operands and the state with which commitArm completes (commitArms). -/
abbrev okCommitArms (c : Cmd) (k : WaitFor) (u : State) (s : State) : Prop :=
  firmwareRunning s = true ∧
  s.ctl.inflight.find? (fun c => decide (c.phase = .waiting .commitArm) ∧
  !commitBlocked s (headBits (c.u8 0))) = some c ∧
  tryArm c s = .wait k u

/-- The operands and the state with which fxFenceWrite completes (fxFenceWrite). -/
abbrev okFxFenceWrite (_fence : Fin 32) (_value : BitVec 32) (s : State) : Prop :=
  domOn s 1 = true

/-- The operands and the state with which commitTimeout completes (commitTimeout). -/
abbrev okCommitTimeout (a : Armed) (s : State) : Prop :=
  s.pic.fx.armed.find? (fun a => decide (a.timeout ≠ 0) ∧
  !a.ready ∧
  decide (a.timeout ≤ a.blanks)) = some a

/-- The operands and the state with which headFrameStart completes (headFrameStart). -/
abbrev okHeadFrameStart (head : Fin 8) (s : State) : Prop :=
  rasterRuns s head = true ∧
  (hdAt s head).inBlank = true

/-- The operands and the state with which headFrameStart completes (headFrameHeld). -/
abbrev okHeadFrameHeld (head : Fin 8) (s : State) : Prop :=
  rasterRuns s head = false ∨ (hdAt s head).inBlank = false

/-- The operands and the state with which latchPoint completes (latchPoint). -/
abbrev okLatchPoint (head : Fin 8) (s : State) : Prop :=
  rasterRuns s head = true ∧
  (hdAt s head).inBlank = false ∧
  (hdAt s head).latched = false ∧
  (∀ a ∈ s.pic.fx.armed, a.window = false) ∧
  (∀ l, l < 64 → (layAt s l).head ≠ some head.val ∨ (layAt s l).fp.pending = none)

/-- The operands and the state with which headBlankingStart completes (headBlankingPlain). -/
abbrev okHeadBlankingPlain (head : Fin 8) (s : State) : Prop :=
  rasterRuns s head = true ∧
  (hdAt s head).inBlank = false ∧
  ((hdAt s head).realign = false ∨ (hdAt s head).cfg.timing.align = true) ∧
  (hdAt s head).wb.buf = none ∧
  (∀ a ∈ s.pic.fx.armed, a.bound.contains head.val = false) ∧
  (∀ l, l < 64 → (layAt s l).join = none)

/-- The operands and the state with which headEnableStart completes (headEnableStart). -/
abbrev okHeadEnableStart (head : Fin 8) (a : Armed) (s : State) : Prop :=
  s.pic.fx.armed.find? (fun a => a.ready ∧
  a.enable.contains head.val ∧
  !a.landed.contains head.val) = some a ∧
  headEnabled s head = false ∧
  isUpperOfPair s head = false ∧
  headCanStart s head = true

/-- The operands and the state with which writebackPublish completes (writebackPublished). -/
abbrev okWritebackPublished (head : Fin 8) (b num at_ : Nat) (u v : State) (s : State) : Prop :=
  (hdAt s head).wb.done = some (b, num, at_) ∧
  (hdAt s head).wb.last = none ∧
  (hdAt s head).wb.freeze ≠ .frozen ∧
  (hdAt s head).cfg.wbMode = 1 ∧
  ledgerPublish b (headToken s head) num (at_ / secUnits) (at_ % secUnits / nsUnits) (modHd head (fun x => { x with wb := { x.wb with done := none } }) s) = (.ok, u) ∧
  takeRefFor lastRef false b (headToken s head) (modHd head (fun x => { x with ctr := { x.ctr with wbPub := (x.ctr.wbPub + 1) % 2 ^ 32 } }) u) = (true, v)

/-- The operands and the state with which writebackPublish completes (writebackEarly). -/
abbrev okWritebackEarly (head : Fin 8) (b : Nat) (s : State) : Prop :=
  (hdAt s head).wb.done = none ∧
  (hdAt s head).wb.freeze ≠ .frozen ∧
  (hdAt s head).wb.buf = some b ∧
  (hdAt s head).enabled = true ∧
  (hdAt s head).inBlank = false ∧
  (hdAt s head).composed = (hdAt s head).cfg.timing.vact

/-- The operands and the state with which fetchClassChange completes (fetchClassPlain). -/
abbrev okFetchClassPlain (head : Fin 8) (level : Nat) (s : State) : Prop :=
  headEnabled s head = true ∧
  (hdAt s head).res.low ≤ level ∧
  (hdAt s head).res.critical ≤ level

/-- The operands and the state with which fetchClassChange completes (fetchClassCritical). -/
abbrev okFetchClassCritical (head : Fin 8) (level : Nat) (s : State) : Prop :=
  headEnabled s head = true ∧
  level < (hdAt s head).res.critical ∧
  (hdAt s head).res.cls ≠ 2 ∧
  (hdAt s head).res.u3Raised = false

/-- The operands and the state with which reservoirStarved completes (reservoirStarved). -/
abbrev okReservoirStarved (head : Fin 8) (pixels : Nat) (s : State) : Prop :=
  headEnabled s head = true ∧
  (hdAt s (lowerOf s head)).inBlank = false ∧
  0 < pixels

/-- The operands and the state with which headLineCompose completes (headLineCompose). -/
abbrev okHeadLineCompose (head : Fin 8) (s : State) : Prop :=
  (hdAt s head).enabled = true ∧
  isUpperOfPair s head = false ∧
  (hdAt s head).composed < (hdAt s head).cfg.timing.vact ∧
  ((hdAt s head).inBlank = true → (hdAt s head).composed < 2) ∧
  ((hdAt s head).inBlank = false → resRoom s head = true) ∧
  (hdAt s head).wb.frozenBuf = none

/-- The operands and the state with which signatureCompare completes (signatureMatches). -/
abbrev okSignatureMatches (head : Fin 8) (region : Fin 16) (i : Nat) (s : State) : Prop :=
  (hdAt s head).enabled = true ∧
  (sigCfg s head region).enable = true ∧
  (sigAt s head region).outside = false ∧
  (sigAt s head region).compared = false ∧
  (sigCfg s head region).y + (sigCfg s head region).h ≤ (hdAt s head).composed ∧
  (sigCfg s head region).valid ≠ 0 ∧
  sigSkipped s head (sigCfg s head region) = false ∧
  (sigAt s head region).fault = false ∧
  (List.range 4).find? (fun i => bit (sigCfg s head region).valid i ∧
  decide ((sigCfg s head region).expect.getD i 0 = Nat.xor (sigAt s head region).run 0xFFFFFFFF)) = some i

/-- The operands and the state with which signatureCompare completes (signatureFaults). -/
abbrev okSignatureFaults (head : Fin 8) (region : Fin 16) (s : State) : Prop :=
  (hdAt s head).enabled = true ∧
  (sigCfg s head region).enable = true ∧
  (sigAt s head region).outside = false ∧
  (sigAt s head region).compared = false ∧
  (sigCfg s head region).y + (sigCfg s head region).h ≤ (hdAt s head).composed ∧
  (sigCfg s head region).valid ≠ 0 ∧
  sigSkipped s head (sigCfg s head region) = false ∧
  (sigAt s head region).fault = false ∧
  (sigCfg s head region).limit ≤ satAdd 255 (sigAt s head region).miss 1 ∧
  (List.range 4).find? (fun i => bit (sigCfg s head region).valid i ∧
  decide ((sigCfg s head region).expect.getD i 0 = Nat.xor (sigAt s head region).run 0xFFFFFFFF)) = none

/-- The operands and the state with which sigClear completes (sigClearFault). -/
abbrev okSigClearFault (head : Fin 8) (region : Fin 16) (s : State) : Prop :=
  domOn s (15 + head) = true ∧
  isUpperOfPair s head = false ∧
  (sigAt s head region).fault = true

/-- The operands and the state with which tallyForceWrite completes (tallyForceWrite). -/
abbrev okTallyForceWrite (_value : BitVec 32) (s : State) : Prop :=
  domOn s 3 = true

/-- The operands and the state with which shedEvaluation completes (shedEvaluation). -/
abbrev okShedEvaluation (s : State) : Prop :=
  s.pic.shed.evalDue = true ∧
  s.pic.shed.plan = [] ∧
  s.pic.shed.taken = [] ∧
  shedLoad s [] ≤ fsUsable s

/-- The operands and the state with which restoreHoldExpiry completes (restoreHoldExpiry). -/
abbrev okRestoreHoldExpiry (s : State) : Prop :=
  s.pic.shed.holding = true ∧
  s.pic.shed.plan = [] ∧
  s.pic.shed.taken = [] ∧
  shedLoad s [] ≤ fsUsable s

/-- The operands and the state with which sdiSlip completes (sdiSlip). -/
abbrev okSdiSlip (lane : Fin 8) (fill : Nat) (s : State) : Prop :=
  (sdiAt s lane).cfg.enabled = true ∧
  (sdiAt s lane).cfg.quad = false ∧
  (fill < 32 ∨ 480 < fill) ∧
  (fill ≠ 0 ∨ (synAt s (lowerOf s (sdiAt s lane).cfg.head)).gated = false)

/-- The operands and the state with which sdiSlip completes (sdiFill). -/
abbrev okSdiFill (lane : Fin 8) (fill : Nat) (s : State) : Prop :=
  (sdiAt s lane).cfg.enabled = true ∧
  32 ≤ fill ∧
  fill ≤ 480

/-- The operands and the state with which panelVideoStart completes (panelVideoStart). -/
abbrev okPanelVideoStart (port : Fin 4) (s : State) : Prop :=
  (panelAt s port).state = .video ∧
  (panelAt s port).running = false ∧
  (panelAt s port).queue = [] ∧
  headEnabled s (panelAt s port).cfg.head = true

/-- The operands and the state with which w5CommitWrite completes (w5CommitWrite). -/
abbrev okW5CommitWrite (value : BitVec 16) (s : State) : Prop :=
  domOn s 3 = true ∧
  s.pic.win.enabled = true ∧
  value.getLsbD 0 = true ∧
  value.getLsbD 1 = false ∧
  winPend s 0 = none ∧
  headEnabled s 0 = false

/-- The operands and the state with which w5CommitArm completes (w5CommitArmDrops). -/
abbrev okW5CommitArmDrops (p : WinPending) (s : State) : Prop :=
  firmwareRunning s = true ∧
  winPend s 0 = some p ∧
  winPend s 1 = none ∧
  p.armed = none ∧
  commitBlocked s [0] = false ∧
  headEnabled s 0 = false

/-- The operands and the state with which w5CommitArm completes (w5CommitArms). -/
abbrev okW5CommitArms (p : WinPending) (s : State) : Prop :=
  firmwareRunning s = true ∧
  winPend s 0 = some p ∧
  winPend s 1 = none ∧
  p.armed = none ∧
  commitBlocked s [0] = false ∧
  headEnabled s 0 = true ∧
  winShown p 0 = [] ∧
  (layersOn s 0).any (fun x => rotated x.2.src.orient) = false ∧
  (shadowLayers s 0).any (fun l => rotated (layAt s l).shadow.src.orient) = false ∧
  ((layersOn s 0).filter (fun x => !winOwns s x.1)).length ≤ 16 ∧
  portFault s (fun j => if j = 0 then { viewOf s 0 with lays := (layersOn s 0).filter (fun x => !winOwns s x.1) } else viewOf s j) = none ∧
  loadFits s (((List.range 8).map (fun j => headDemand s ((fun j => if j = 0 then { viewOf s 0 with lays := (layersOn s 0).filter (fun x => !winOwns s x.1) } else viewOf s j) j) [] false)).sum + reservations s) = true

/-- The operands and the state with which w5PalDataWrite completes (w5PalDataWrite). -/
abbrev okW5PalDataWrite (_value : BitVec 16) (s : State) : Prop :=
  domOn s 3 = true ∧
  s.pic.win.enabled = true ∧
  bit s.pic.win.palAddr 15 = true

/-- The operands and the state with which w5LBaseLoWrite completes (w5LBaseLoWrite). -/
abbrev okW5LBaseLoWrite (_layer : Fin 8) (_value : BitVec 16) (s : State) : Prop :=
  domOn s 3 = true ∧
  s.pic.win.enabled = true

/-- The operands and the state with which w5LBaseHiWrite completes (w5LBaseHiWrite). -/
abbrev okW5LBaseHiWrite (layer : Fin 8) (_value : BitVec 16) (lo : Nat) (s : State) : Prop :=
  domOn s 3 = true ∧
  s.pic.win.enabled = true ∧
  (winAt s layer).latch = some lo

/-- The operands and the state with which kmpMessageReceived completes (kmpHello). -/
abbrev okKmpHello (slot : Fin 2) (frame : List Byte) (s : State) : Prop :=
  (magAt s slot).state ≠ .off ∧
  toEngine (macAt s (magAt s slot).mac) frame = true ∧
  be16 frame 12 = 0x88B6 ∧
  kmpAt frame 0 1 = 1 ∧
  kmpAt frame 1 1 = 1 ∧
  (magAt s slot).state = .search ∧
  firmwareRunning s = true

/-- The operands and the state with which kmpMessageReceived completes (kmpCaps). -/
abbrev okKmpCaps (slot : Fin 2) (frame : List Byte) (s : State) : Prop :=
  (magAt s slot).state ≠ .off ∧
  toEngine (macAt s (magAt s slot).mac) frame = true ∧
  be16 frame 12 = 0x88B6 ∧
  kmpAt frame 0 1 = 3 ∧
  kmpAt frame 1 1 = 1 ∧
  (magAt s slot).state = .caps ∧
  firmwareRunning s = true ∧
  awaited s slot 2 (kmpAt frame 8 4) = true

/-- The operands and the state with which kmpMessageReceived completes (kmpStaleEpoch). -/
abbrev okKmpStaleEpoch (slot : Fin 2) (frame : List Byte) (s : State) : Prop :=
  (magAt s slot).state = .ready ∧
  toEngine (macAt s (magAt s slot).mac) frame = true ∧
  be16 frame 12 = 0x88B6 ∧
  kmpAt frame 0 1 ≠ 1 ∧
  kmpAt frame 4 4 ≠ (magAt s slot).epoch

/-- The operands and the state with which kmpCommitReceived completes (kmpCommitReceived). -/
abbrev okKmpCommitReceived (slot : Fin 2) (frame : List Byte) (k : Copy) (s : State) : Prop :=
  (magAt s slot).state ≠ .off ∧
  toEngine (macAt s (magAt s slot).mac) frame = true ∧
  be16 frame 12 = 0x88B6 ∧
  kmpAt frame 0 1 = 0x21 ∧
  kmpAt frame 1 1 = 1 ∧
  (pastMount (magAt s slot) = true → kmpAt frame 4 4 = (magAt s slot).epoch) ∧
  namedCopy s slot frame = some k ∧
  kmpAt frame 24 1 = 0

/-- The operands and the state with which kmpCommitReceived completes (kmpCommitBad). -/
abbrev okKmpCommitBad (slot : Fin 2) (frame : List Byte) (k : Copy) (s : State) : Prop :=
  (magAt s slot).state ≠ .off ∧
  toEngine (macAt s (magAt s slot).mac) frame = true ∧
  be16 frame 12 = 0x88B6 ∧
  kmpAt frame 0 1 = 0x21 ∧
  kmpAt frame 1 1 = 1 ∧
  (pastMount (magAt s slot) = true → kmpAt frame 4 4 = (magAt s slot).epoch) ∧
  namedCopy s slot frame = some k ∧
  kmpAt frame 24 1 ≠ 0 ∧
  2 ≤ k.bad.count (kmpAt frame 20 4)

/-- The operands and the state with which kmpResendReceived completes (kmpResendGone). -/
abbrev okKmpResendGone (slot : Fin 2) (frame : List Byte) (k : Copy) (s : State) : Prop :=
  (magAt s slot).state ≠ .off ∧
  toEngine (macAt s (magAt s slot).mac) frame = true ∧
  be16 frame 12 = 0x88B6 ∧
  kmpAt frame 0 1 = 0x22 ∧
  kmpAt frame 1 1 = 1 ∧
  (pastMount (magAt s slot) = true → kmpAt frame 4 4 = (magAt s slot).epoch) ∧
  namedCopy s slot frame = some k ∧
  (recAt (raiseMag slot 6 s) k.channel).backlog = []

/-- The operands and the state with which kmpResendReceived completes (kmpResendReceived). -/
abbrev okKmpResendReceived (slot : Fin 2) (frame : List Byte) (k : Copy) (q : ClipPicture) (s : State) : Prop :=
  (magAt s slot).state ≠ .off ∧
  toEngine (macAt s (magAt s slot).mac) frame = true ∧
  be16 frame 12 = 0x88B6 ∧
  kmpAt frame 0 1 = 0x22 ∧
  kmpAt frame 1 1 = 1 ∧
  (pastMount (magAt s slot) = true → kmpAt frame 4 4 = (magAt s slot).epoch) ∧
  namedCopy s slot frame = some k ∧
  (recAt s k.channel).backlog.find? (fun x => decide (x.idx = kmpAt frame 20 4)) = some q ∧
  (recAt s k.channel).state = .recording

/-- The operands and the state with which kmpNoticeReceived completes (kmpNotice). -/
abbrev okKmpNotice (slot : Fin 2) (frame : List Byte) (s : State) : Prop :=
  (magAt s slot).state ≠ .off ∧
  toEngine (macAt s (magAt s slot).mac) frame = true ∧
  be16 frame 12 = 0x88B6 ∧
  kmpAt frame 0 1 = 0x30 ∧
  kmpAt frame 1 1 = 1 ∧
  (pastMount (magAt s slot) = true → kmpAt frame 4 4 = (magAt s slot).epoch) ∧
  (magAt s slot).noticeSeq ≠ some (kmpAt frame 8 4) ∧
  kmpAt frame 16 1 = 3

/-- The operands and the state with which kmpNoticeReceived completes (kmpNoticeAgain). -/
abbrev okKmpNoticeAgain (slot : Fin 2) (frame : List Byte) (s : State) : Prop :=
  (magAt s slot).state ≠ .off ∧
  toEngine (macAt s (magAt s slot).mac) frame = true ∧
  be16 frame 12 = 0x88B6 ∧
  kmpAt frame 0 1 = 0x30 ∧
  kmpAt frame 1 1 = 1 ∧
  (pastMount (magAt s slot) = true → kmpAt frame 4 4 = (magAt s slot).epoch) ∧
  (magAt s slot).noticeSeq = some (kmpAt frame 8 4)

/-- The operands and the state with which kmpRequestTimeout completes (kmpRetry). -/
abbrev okKmpRetry (slot : Fin 2) (r : KmpReq) (rest : List KmpReq) (s : State) : Prop :=
  (magAt s slot).reqs = r :: rest ∧
  firmwareRunning s = true ∧
  ¬(r.type = 0x12 ∧ r.flags = 1) ∧
  r.retries < 3

/-- The operands and the state with which kmpRequestTimeout completes (kmpGivesUp). -/
abbrev okKmpGivesUp (slot : Fin 2) (r : KmpReq) (rest : List KmpReq) (s : State) : Prop :=
  (magAt s slot).reqs = r :: rest ∧
  firmwareRunning s = true ∧
  ¬(r.type = 0x12 ∧ r.flags = 1) ∧
  3 ≤ r.retries

/-- The operands and the state with which kmpHelloSend completes (kmpHelloSend). -/
abbrev okKmpHelloSend (slot : Fin 2) (s : State) : Prop :=
  (magAt s slot).state ≠ .off ∧
  linkUp (macAt s (magAt s slot).mac) = true

/-- The operands and the state with which kmpHelloTimeout completes (kmpHelloTimeout). -/
abbrev okKmpHelloTimeout (slot : Fin 2) (s : State) : Prop :=
  (magAt s slot).state = .ready ∧
  (magAt s slot).copy = none ∧
  (recAt s 0).hold = none ∧
  (recAt s 1).hold = none ∧
  s.ctl.inflight = []

/-- The operands and the state with which noPartnerTimeout completes (noPartnerTimeout). -/
abbrev okNoPartnerTimeout (slot : Fin 2) (s : State) : Prop :=
  (magAt s slot).state = .search ∧
  (magAt s slot).noPartner = false

/-- The operands and the state with which formatStatusTimeout completes (formatStatusTimeout). -/
abbrev okFormatStatusTimeout (slot : Fin 2) (s : State) : Prop :=
  (magAt s slot).state = .busy ∧
  s.ctl.inflight.any (fun c => match c.phase with | .stepping (.magFormat j _) => decide (j = slot.val) | _ => false) = true

/-- The operands and the state with which mainStreamPictureBegin completes (mainStreamPictureBegin). -/
abbrev okMainStreamPictureBegin (chan : Fin 2) (p : ClipPicture) (s : State) : Prop :=
  ((recAt s chan).state = .recording ∨ (recAt s chan).state = .draining) ∧
  (coupled s chan).isEmpty = false ∧
  (recAt s chan).backlog.find? (fun p => decide (p.idx = (recAt s chan).main)) = some p ∧
  (∀ i ∈ coupled s chan, slotBlocks s i (recAt s chan).main = false)

/-- The operands and the state with which mainStreamPictureBegin completes (mainStreamWaits). -/
abbrev okMainStreamWaits (chan : Fin 2) (p : ClipPicture) (s : State) : Prop :=
  ((recAt s chan).state = .recording ∨ (recAt s chan).state = .draining) ∧
  (recAt s chan).backlog.find? (fun p => decide (p.idx = (recAt s chan).main)) = some p ∧
  (coupled s chan).any (fun i => slotBlocks s i (recAt s chan).main) = true

/-- The operands and the state with which magazineStreamPictureBegin completes (magazineStreamPictureBegin). -/
abbrev okMagazineStreamPictureBegin (slot : Fin 2) (k : Copy) (p : ClipPicture) (s : State) : Prop :=
  (magAt s slot).copy = some k ∧
  (decoupled s k.channel).contains slot.val = true ∧
  slotBlocks s slot k.next = false ∧
  ((recAt s k.channel).state = .recording ∨ (recAt s k.channel).state = .draining) ∧
  (recAt s k.channel).backlog.find? (fun p => decide (p.idx = k.next)) = some p

/-- The operands and the state with which holdMaxExpiry completes (holdMaxExpiry). -/
abbrev okHoldMaxExpiry (chan : Fin 2) (i t : Nat) (s : State) : Prop :=
  (recAt s chan).hold = some (i, t) ∧
  (coupled s chan).contains i = true

/-- The operands and the state with which magazineRecouple completes (magazineRecouple). -/
abbrev okMagazineRecouple (slot : Fin 2) (k : Copy) (s : State) : Prop :=
  (magAt s slot).copy = some k ∧
  (decoupled s k.channel).contains slot.val = true ∧
  k.sending = none ∧
  k.next = (recAt s k.channel).main ∧
  (coupled s k.channel).isEmpty = false

/-- The operands and the state with which copyClose completes (copyClose). -/
abbrev okCopyClose (slot : Fin 2) (k : Copy) (s : State) : Prop :=
  (magAt s slot).copy = some k ∧
  k.opened = true ∧
  k.closing = none ∧
  (recAt s k.channel).state = .draining ∧
  (recAt s k.channel).ended = true ∧
  (recAt s k.channel).cancelled = false ∧
  (recAt s k.channel).count ≤ k.committed

/-- The operands and the state with which spanContinuation completes (spanContinuation). -/
abbrev okSpanContinuation (chan : Fin 2) (clip p i : Nat) (s : State) : Prop :=
  (recAt s chan).spanDue = some (i, clip, p) ∧
  firmwareRunning s = true ∧
  (copyOf s chan i).isNone = true ∧
  (magAt s i).state = .ready

/-- The operands and the state with which stopBathTrigger completes (stopBathTrigger). -/
abbrev okStopBathTrigger (s : State) : Prop :=
  (tabGet s.sl.cmps 1).state = false ∧
  (bathSlots s).any (fun i => (recAt s (copyAt s i).channel).cfg.stopbath) = true ∧
  s.mag.bath.state ≠ 1

/-- The operands and the state with which stopBathRecordDeadline completes (stopBathNothingSending). -/
abbrev okStopBathNothingSending (s : State) : Prop :=
  s.mag.bath.state = 1 ∧
  s.mag.bath.closingSent = false ∧
  (∀ i ∈ bathSlots s, (copyAt s i).sending = none)

/-- The operands and the state with which stopBathRecordDeadline completes (stopBathAbandons). -/
abbrev okStopBathAbandons (i : Nat) (s : State) : Prop :=
  s.mag.bath.state = 1 ∧
  s.mag.bath.closingSent = false ∧
  bathSlots s = [i] ∧
  (copyAt s i).sending.isSome = true

/-- The operands and the state with which stopBathCommitDeadline completes (stopBathCommitDeadline). -/
abbrev okStopBathCommitDeadline (s : State) : Prop :=
  s.mag.bath.state = 1 ∧
  s.mag.bath.closingSent = false ∧
  (bathSlots (forEach (bathSlots s) (fun i => closeCopy i 6 1) (modBath (fun b => { b with closingSent := true }) s))).isEmpty = false

/-- The operands and the state with which stopBathAckDeadline completes (stopBathAckDeadline). -/
abbrev okStopBathAckDeadline (s : State) : Prop :=
  s.mag.bath.state = 1 ∧
  s.mag.bath.closingSent = true ∧
  bathSlots s = []

/-- The operands and the state with which packetRelease completes (packetFrameEnds). -/
abbrev okPacketFrameEnds (sub : Fin 2048) (f : SubFrame) (s : State) : Prop :=
  (subAt s sub).cur = some f ∧
  releaseAt s (subAt s sub).cfg f ≤ s.time.tb.now ∧
  nPkt (subAt s sub).cfg f.width f.lines ≤ f.next

/-- The operands and the state with which packetRelease completes (packetRelease). -/
abbrev okPacketRelease (sub : Fin 2048) (f : SubFrame) (s : State) : Prop :=
  (subAt s sub).cur = some f ∧
  releaseAt s (subAt s sub).cfg f ≤ s.time.tb.now ∧
  f.next + 1 < nPkt (subAt s sub).cfg f.width f.lines ∧
  (subAt s sub).cfg.portB = none ∧
  (subAt s sub).holds.any (fun h => decide (h.id = f.id)) = true

/-- The operands and the state with which unpacedSlotEligible completes (slotEmpty). -/
abbrev okSlotEmpty (sub : Fin 2048) (s : State) : Prop :=
  (subAt s sub).enabled = true ∧
  subPaced (subAt s sub) = false ∧
  (subAt s sub).started = true ∧
  tierHeld s (subAt s sub).cfg.tier = false ∧
  (fsRead (ringSlot (subAt s sub).cfg (subAt s sub).ringNext) 16 s).1.getD 0 0 ≠ 1

/-- The operands and the state with which unpacedSlotEligible completes (slotSent). -/
abbrev okSlotSent (sub : Fin 2048) (h d : List Byte) (t u : State) (b : Bucket) (s : State) : Prop :=
  (subAt s sub).enabled = true ∧
  subPaced (subAt s sub) = false ∧
  (subAt s sub).started = true ∧
  tierHeld s (subAt s sub).cfg.tier = false ∧
  fsRead (ringSlot (subAt s sub).cfg (subAt s sub).ringNext) 16 s = (h, false, t) ∧
  h.getD 0 0 = 1 ∧
  bit (h.getD 1 0).toNat 0 = false ∧
  (subAt s sub).holds = [] ∧
  0 < leNat ((h.drop 2).take 2) ∧
  leNat ((h.drop 2).take 2) ≤ (subAt s sub).cfg.maxBytes ∧
  leNat ((h.drop 2).take 2) ≤ (subAt s sub).cfg.slotBytes - 16 ∧
  takeToken (refill (subAt s sub).cfg.ratePps (subAt s sub).cfg.burst (runTime s) (subAt s sub).bucket) = some b ∧
  fsRead (ringSlot (subAt s sub).cfg (subAt s sub).ringNext + 16) (leNat ((h.drop 2).take 2)) t = (d, false, u)

/-- The operands and the state with which portSchedule completes (portSchedule). -/
abbrev okPortSchedule (port : Fin 16) (i : Nat) (q : StPacket) (s : State) : Prop :=
  macIsNetwork s port = true ∧
  linkUp (macAt s port) = true ∧
  (macAt s port).tx.cur = none ∧
  (macAt s port).tx.paused = false ∧
  (portAt s port).sending = [] ∧
  (macAt s port).stopping = false ∧
  (portAt s port).owed = none ∧
  agedService s.time.tb.now (portAt s port) = none ∧
  lowestService s.time.tb.now (portAt s port) = some i ∧
  serviceHead s.time.tb.now (portAt s port) i = some q

/-- The operands and the state with which portSchedule completes (portPromotes). -/
abbrev okPortPromotes (port : Fin 16) (i : Nat) (q : StPacket) (s : State) : Prop :=
  macIsNetwork s port = true ∧
  linkUp (macAt s port) = true ∧
  (macAt s port).tx.cur = none ∧
  (macAt s port).tx.paused = false ∧
  (portAt s port).sending = [] ∧
  (macAt s port).stopping = false ∧
  (portAt s port).owed = none ∧
  agedService s.time.tb.now (portAt s port) = some i ∧
  (i = 0 ∨ pacedFirst s.time.tb.now (portAt s port) = []) ∧
  serviceHead s.time.tb.now (portAt s port) i = some q

/-- The operands and the state with which pacedDeadlineExpiry completes (pacedDeadlineExpiry). -/
abbrev okPacedDeadlineExpiry (port : Fin 16) (sub : Fin 2048) (q : StPacket) (s : State) : Prop :=
  (portAt s port).queue.find? (fun q => decide (q.sub = sub.val) ∧
  q.paced ∧
  !q.late ∧
  decide (q.deadline ≤ s.time.tb.now)) = some q ∧
  (subAt s sub).lateFrame ≠ some (headFrame s (subAt s sub).cfg.head) ∧
  (macAt s port).tx.paused = false

/-- The operands and the state with which mergeTimeout completes (mergeTimeout). -/
abbrev okMergeTimeout (flow : Fin 512) (e : Nat) (h : Held) (s : State) : Prop :=
  (flowAt s flow).next = some e ∧
  (flowAt s flow).waiting = [h]

/-- The operands and the state with which pathDownTimeout completes (pathADown). -/
abbrev okPathADown (flow : Fin 512) (b : Nat) (s : State) : Prop :=
  (flowAt s flow).enabled = true ∧
  (flowAt s flow).cfg.portB.isSome = true ∧
  (flowAt s flow).lastB = some b ∧
  runTime s < b + 100000000 * nsUnits ∧
  (flowAt s flow).lastA = none ∧
  (flowAt s flow).since + 100000000 * nsUnits ≤ runTime s ∧
  (flowAt s flow).downA = false

/-- The operands and the state with which pathDownTimeout completes (pathBDown). -/
abbrev okPathBDown (flow : Fin 512) (a b : Nat) (s : State) : Prop :=
  (flowAt s flow).enabled = true ∧
  (flowAt s flow).cfg.portB.isSome = true ∧
  (flowAt s flow).lastA = some a ∧
  runTime s < a + 100000000 * nsUnits ∧
  (flowAt s flow).lastB = some b ∧
  b + 100000000 * nsUnits ≤ runTime s ∧
  (flowAt s flow).downB = false

/-- The operands and the state with which depackEndTimeout completes (depackEndTimeout). -/
abbrev okDepackEndTimeout (depack : Fin 16) (s : State) : Prop :=
  (dpAt s depack).state = .opened

/-- The operands and the state with which depackEndTimeout completes (depackDropOver). -/
abbrev okDepackDropOver (depack : Fin 16) (s : State) : Prop :=
  (dpAt s depack).state = .dropping

/-- The operands and the state with which ptpMessageReceived completes (ptpAnnounceIgnored). -/
abbrev okPtpAnnounceIgnored (port : Fin 16) (frame : List Byte) (s : State) : Prop :=
  (ptpAt s port).cfg.enabled = true ∧
  toFirmware (macAt s port) frame = true ∧
  firmwareRunning s = true ∧
  packetBad frame = false ∧
  beNat (((udpPayload frame).drop 1).take 1) % 16 = 2 ∧
  beNat (((udpPayload frame).drop 4).take 1) = (ptpAt s port).cfg.domain ∧
  beNat (((udpPayload frame).drop 0).take 1) % 16 = 11 ∧
  leaderPort s port = true

/-- The operands and the state with which ptpMessageReceived completes (ptpSyncTwoStep). -/
abbrev okPtpSyncTwoStep (port : Fin 16) (frame : List Byte) (a : Announce) (s : State) : Prop :=
  (ptpAt s port).cfg.enabled = true ∧
  toFirmware (macAt s port) frame = true ∧
  firmwareRunning s = true ∧
  packetBad frame = false ∧
  beNat (((udpPayload frame).drop 1).take 1) % 16 = 2 ∧
  beNat (((udpPayload frame).drop 4).take 1) = (ptpAt s port).cfg.domain ∧
  beNat (((udpPayload frame).drop 0).take 1) % 16 = 0 ∧
  leaderPort s port = false ∧
  (ptpAt s port).best = some a ∧
  a.source = beNat (((udpPayload frame).drop 20).take 10) ∧
  bit (beNat (((udpPayload frame).drop 6).take 1)) 1 = true

/-- The operands and the state with which ptpMessageReceived completes (ptpDelayResp). -/
abbrev okPtpDelayResp (port : Fin 16) (frame : List Byte) (s : State) : Prop :=
  (ptpAt s port).cfg.enabled = true ∧
  toFirmware (macAt s port) frame = true ∧
  firmwareRunning s = true ∧
  packetBad frame = false ∧
  beNat (((udpPayload frame).drop 1).take 1) % 16 = 2 ∧
  beNat (((udpPayload frame).drop 4).take 1) = (ptpAt s port).cfg.domain ∧
  beNat (((udpPayload frame).drop 0).take 1) % 16 = 1 ∧
  leaderPort s port = true

/-- The operands and the state with which ptpMessageTimer completes (ptpSyncSent). -/
abbrev okPtpSyncSent (port : Fin 16) (s : State) : Prop :=
  (ptpAt s port).cfg.enabled = true ∧
  firmwareRunning s = true ∧
  leaderPort s port = true ∧
  (ptpAt s port).txSync % 2 ^ ((ptpAt s port).cfg.logAnnounce - (ptpAt s port).cfg.logSync).toNat ≠ 0

/-- The operands and the state with which ptpMessageTimer completes (ptpDelayReqSent). -/
abbrev okPtpDelayReqSent (port : Fin 16) (s : State) : Prop :=
  (ptpAt s port).cfg.enabled = true ∧
  firmwareRunning s = true ∧
  leaderPort s port = false ∧
  (ptpAt s port).best.isSome = true

/-- The operands and the state with which announceReceiptTimeout completes (announceReceiptTimeout). -/
abbrev okAnnounceReceiptTimeout (port : Fin 16) (s : State) : Prop :=
  (ptpAt s port).cfg.enabled = true ∧
  firmwareRunning s = true ∧
  leaderPort s port = false ∧
  (ptpAt s port).best.isSome = true

/-- The operands and the state with which rigFrameReceived completes (rigLeadHeard). -/
abbrev okRigLeadHeard (port : Fin 16) (frame : List Byte) (s : State) : Prop :=
  (s.st.rig).state ≠ .off ∧
  s.st.rig.port = port.val ∧
  toFirmware (macAt s port) frame = true ∧
  firmwareRunning s = true ∧
  etherType frame = 0x88B7 ∧
  beNat (((frame.drop (payloadAt frame)).drop 1).take 1) = 1 ∧
  beNat (((frame.drop (payloadAt frame)).drop 2).take 2) = s.st.rig.rigId ∧
  beNat (((frame.drop (payloadAt frame)).drop 0).take 1) = 2 ∧
  (beNat (((frame.drop (payloadAt frame)).drop 4).take 1), beNat (((frame.drop (payloadAt frame)).drop 8).take 8)) ≠ rigPair s ∧
  s.st.rig.state = .waiting

/-- The operands and the state with which rigFrameReceived completes (rigPresentHeard). -/
abbrev okRigPresentHeard (port : Fin 16) (frame : List Byte) (s : State) : Prop :=
  (s.st.rig).state ≠ .off ∧
  s.st.rig.port = port.val ∧
  toFirmware (macAt s port) frame = true ∧
  firmwareRunning s = true ∧
  etherType frame = 0x88B7 ∧
  beNat (((frame.drop (payloadAt frame)).drop 1).take 1) = 1 ∧
  beNat (((frame.drop (payloadAt frame)).drop 2).take 2) = s.st.rig.rigId ∧
  beNat (((frame.drop (payloadAt frame)).drop 0).take 1) = 3 ∧
  (beNat (((frame.drop (payloadAt frame)).drop 4).take 1), beNat (((frame.drop (payloadAt frame)).drop 8).take 8)) ≠ rigPair s ∧
  s.st.rig.state = .leader ∧
  s.st.rig.members.contains (beNat (((frame.drop (payloadAt frame)).drop 4).take 1), beNat (((frame.drop (payloadAt frame)).drop 8).take 8)) = false ∧
  s.st.rig.members.length < 15

/-- The operands and the state with which rigFrameReceived completes (rigDuplicateHeard). -/
abbrev okRigDuplicateHeard (port : Fin 16) (frame : List Byte) (s : State) : Prop :=
  (s.st.rig).state ≠ .off ∧
  s.st.rig.port = port.val ∧
  toFirmware (macAt s port) frame = true ∧
  firmwareRunning s = true ∧
  etherType frame = 0x88B7 ∧
  beNat (((frame.drop (payloadAt frame)).drop 1).take 1) = 1 ∧
  beNat (((frame.drop (payloadAt frame)).drop 2).take 2) = s.st.rig.rigId ∧
  beNat (((frame.drop (payloadAt frame)).drop 0).take 1) = 1 ∧
  (beNat (((frame.drop (payloadAt frame)).drop 4).take 1), beNat (((frame.drop (payloadAt frame)).drop 8).take 8)) = rigPair s ∧
  beNat (((frame.drop (payloadAt frame)).drop 16).take 4) ≠ s.st.rig.nonce ∧
  s.st.rig.state = .claiming

/-- The operands and the state with which rigClaimTimer completes (rigClaimAgain). -/
abbrev okRigClaimAgain (s : State) : Prop :=
  firmwareRunning s = true ∧
  s.st.rig.state = .claiming ∧
  s.st.rig.claims < 3

/-- The operands and the state with which rigClaimTimer completes (rigClaimWon). -/
abbrev okRigClaimWon (s : State) : Prop :=
  firmwareRunning s = true ∧
  s.st.rig.state = .claiming ∧
  3 ≤ s.st.rig.claims ∧
  s.st.rig.sameClaim = false ∧
  s.st.rig.lowerClaim = false

/-- The operands and the state with which rigLeadTimeout completes (rigLeadTimeout). -/
abbrev okRigLeadTimeout (s : State) : Prop :=
  firmwareRunning s = true ∧
  (s.st.rig.state = .waiting ∨ s.st.rig.state = .member)

/-- The operands and the state with which rigAnnounceTimer completes (rigLeadSent). -/
abbrev okRigLeadSent (s : State) : Prop :=
  firmwareRunning s = true ∧
  s.st.rig.state = .leader

/-- The operands and the state with which rigAnnounceTimer completes (rigPresentSent). -/
abbrev okRigPresentSent (s : State) : Prop :=
  firmwareRunning s = true ∧
  s.st.rig.state = .member

/-- The operands and the state with which dcDbHiWrite completes (doorbellStarts). -/
abbrev okDoorbellStarts (chan : Fin 32) (_value : BitVec 32) (s : State) : Prop :=
  domOn s 2 = true ∧
  (dcAt s chan).mode = 1 ∧
  (dcAt s chan).state = .idle ∧
  (dcAt s chan).queue.length < 8

/-- The operands and the state with which dcDbHiWrite completes (doorbellQueues). -/
abbrev okDoorbellQueues (chan : Fin 32) (_value : BitVec 32) (s : State) : Prop :=
  domOn s 2 = true ∧
  (dcAt s chan).mode = 1 ∧
  (dcAt s chan).state ≠ .idle ∧
  (dcAt s chan).state ≠ .resetting ∧
  (dcAt s chan).queue.length < 8

/-- The operands and the state with which dcDbHiWrite completes (doorbellIgnored). -/
abbrev okDoorbellIgnored (chan : Fin 32) (_value : BitVec 32) (s : State) : Prop :=
  domOn s 2 = true ∧
  ((dcAt s chan).mode ≠ 1 ∨ (dcAt s chan).state = .resetting ∨ 8 ≤ (dcAt s chan).queue.length)

/-- The operands and the state with which dcResume completes (dcResume). -/
abbrev okDcResume (chan : Fin 32) (a : DmaAddr) (rest : List DmaAddr) (s : State) : Prop :=
  domOn s 2 = true ∧
  (dcAt s chan).state = .halted ∧
  (dcAt s chan).queue = a :: rest

/-- The operands and the state with which dcReset completes (dcResetIdle). -/
abbrev okDcResetIdle (chan : Fin 32) (s : State) : Prop :=
  domOn s 2 = true ∧
  (dcAt s chan).run = none ∧
  (dcAt s chan).state = .idle ∧
  s.ctl.inflight = []

/-- The operands and the state with which dcReset completes (dcResetBurst). -/
abbrev okDcResetBurst (chan : Fin 32) (w : Bool) (a : Nat) (s : State) : Prop :=
  domOn s 2 = true ∧
  openBurst (dcAt s chan) = some (w, a) ∧
  (dcAt s chan).state = .running ∧
  s.ctl.inflight = []

/-- The operands and the state with which dcResetComplete completes (dcResetComplete). -/
abbrev okDcResetComplete (chan : Fin 32) (s : State) : Prop :=
  domOn s 2 = true ∧
  (dcAt s chan).state = .resetting ∧
  (dcAt s chan).newMode = none ∧
  (dcAt s chan).mode = 1 ∧
  (dcAt s chan).wasRunning = false

/-- The operands and the state with which descriptorFetch completes (descriptorFetch). -/
abbrev okDescriptorFetch (chan : Fin 32) (a : DmaAddr) (b : List Byte) (s : State) : Prop :=
  domOn s 2 = true ∧
  (dcAt s chan).next = some a ∧
  (dcAt s chan).state = .running ∧
  (dcAt s chan).run = none ∧
  a.fsa = false ∧
  hostRead a.addr 32 s = some b

/-- The operands and the state with which descriptorFetch completes (descriptorOutOfRange). -/
abbrev okDescriptorOutOfRange (chan : Fin 32) (a : DmaAddr) (s : State) : Prop :=
  domOn s 2 = true ∧
  (dcAt s chan).next = some a ∧
  (dcAt s chan).state = .running ∧
  (dcAt s chan).run = none ∧
  (dcAt s chan).refs = [] ∧
  a.fsa = true ∧
  a.addr < 2 ^ 40 ∧
  (rangeBad s a.addr 32 || poolOverlap s a.addr 32) = true

/-- The operands and the state with which dmaTurn completes (dmaTurnFill). -/
abbrev okDmaTurnFill (chan : Fin 32) (r : DescRun) (s : State) : Prop :=
  domOn s 2 = true ∧
  s.ctl.inflight = [] ∧
  ((List.range 32).map (fun i => (s.dma.served + 1 + i) % 32)).find? (wantsTurn s) = some chan.val ∧
  (dcAt s chan).run = some r ∧
  r.desc.op = .fill ∧
  r.desc.dst.fsa = true ∧
  r.finished = false ∧
  nextRun r.desc r.moved 4096 = (0, 0, 4096) ∧
  descRows r.desc = 1 ∧
  4096 < r.desc.length ∧
  r.moved = 0

/-- The operands and the state with which descriptorComplete completes (descriptorLast). -/
abbrev okDescriptorLast (chan : Fin 32) (r : DescRun) (s : State) : Prop :=
  domOn s 2 = true ∧
  (dcAt s chan).run = some r ∧
  r.finished = true ∧
  r.desc.isLast = true ∧
  (dcAt s chan).refs = [] ∧
  s.ctl.inflight = []

/-- The operands and the state with which ringFrameWrite completes (ringFrameWritten). -/
abbrev okRingFrameWritten (chan : Fin 32) (f : RingFrame) (rest : List RingFrame) (t : State) (s : State) : Prop :=
  domOn s 2 = true ∧
  (dcAt s chan).inbox = f :: rest ∧
  (dcAt s chan).state = .ring ∧
  ((dcAt s chan).prod + 65536 - (dcAt s chan).cons) % 65536 ≠ (dcAt s chan).entries ∧
  hostWrite ((dcAt s chan).ringAddr + (dcAt s chan).prod % (dcAt s chan).entries * (dcAt s chan).entryBytes) (ringHeader f (f.bytes.take ((dcAt s chan).entryBytes - 16)).length ++ f.bytes.take ((dcAt s chan).entryBytes - 16)) s = some t

/-- The operands and the state with which dcRingConsWrite completes (ringConsMoves). -/
abbrev okRingConsMoves (chan : Fin 32) (value : BitVec 32) (s : State) : Prop :=
  domOn s 2 = true ∧
  ((dcAt s chan).prod + 65536 - value.toNat % 65536) % 65536 ≤ ((dcAt s chan).prod + 65536 - (dcAt s chan).cons) % 65536

/-- The operands and the state with which dcRingConsWrite completes (ringConsIgnored). -/
abbrev okRingConsIgnored (chan : Fin 32) (value : BitVec 32) (s : State) : Prop :=
  domOn s 2 = true ∧
  ((dcAt s chan).prod + 65536 - (dcAt s chan).cons) % 65536 < ((dcAt s chan).prod + 65536 - value.toNat % 65536) % 65536

/-- The operands and the state with which eventRaise completes (eventRaise). -/
abbrev okEventRaise (source : Fin 1024) (_s : State) : Prop :=
  sourceReserved source = false

/-- The operands and the state with which msiXSend completes (msiXSend). -/
abbrev okMsiXSend (group : Fin 32) (s : State) : Prop :=
  canSend s group = true ∧
  (tabGet s.ev.table group).masked = false ∧
  s.host.functionMask = false

/-- The operands and the state with which evtRearmWrite completes (evtRearmWrite). -/
abbrev okEvtRearmWrite (_value : BitVec 32) (s : State) : Prop :=
  domOn s 2 = true

/-- The operands and the state with which evtHoldoffWrite completes (evtHoldoffWrite). -/
abbrev okEvtHoldoffWrite (_group : Fin 32) (_value : BitVec 32) (s : State) : Prop :=
  domOn s 2 = true

/-- The operands and the state with which evcClaimRead completes (evcClaimRead). -/
abbrev okEvcClaimRead (n : Nat) (s : State) : Prop :=
  domOn s 2 = true ∧
  s.ev.inService = none ∧
  lowestClaim s = some n

/-- The operands and the state with which evcClaimRead completes (evcClaimSpurious). -/
abbrev okEvcClaimSpurious (s : State) : Prop :=
  domOn s 2 = true ∧
  s.ev.inService.isSome = true

/-- The operands and the state with which evcCompleteWrite completes (evcCompleteWrite). -/
abbrev okEvcCompleteWrite (number : Fin 1024) (s : State) : Prop :=
  domOn s 2 = true ∧
  s.ev.inService = some number.val

/-- The operands and the state with which evcCompleteWrite completes (evcCompleteWrong). -/
abbrev okEvcCompleteWrong (number : Fin 1024) (s : State) : Prop :=
  domOn s 2 = true ∧
  s.ev.inService ≠ some number.val

/-- The operands and the state with which eviEdge completes (eviRises). -/
abbrev okEviRises (pin : Fin 16) (_firstSample : Nat) (s : State) : Prop :=
  s.ev.retention = false ∧
  (eviAt s pin).level = false ∧
  (eviAt s pin).edge % 2 = 1 ∧
  (eviAt s pin).edge ≤ 3

/-- The operands and the state with which eviEdge completes (eviFalls). -/
abbrev okEviFalls (pin : Fin 16) (_firstSample : Nat) (s : State) : Prop :=
  s.ev.retention = false ∧
  (eviAt s pin).level = true ∧
  (eviAt s pin).edge = 1

/-- The operands and the state with which powerRequest completes (powerGranted). -/
abbrev okPowerGranted (domain : Fin 32) (cost step : Nat) (s : State) : Prop :=
  firmwareRunning s = true ∧
  (domAt s domain).level ≠ .on ∧
  refusal s { doms := [(domain.val, cost, step)] } = none

/-- The operands and the state with which powerRequest completes (powerDenied). -/
abbrev okPowerDenied (domain : Fin 32) (cost step : Nat) (r : Nat × Nat) (s : State) : Prop :=
  firmwareRunning s = true ∧
  (domAt s domain).level = .on ∧
  refusal s { adds := [(domain.val, cost, step)] } = some r

/-- The operands and the state with which powerRequest completes (powerWaits). -/
abbrev okPowerWaits (_domain : Fin 32) (_cost _step : Nat) (s : State) : Prop :=
  firmwareRunning s = false

/-- The operands and the state with which domainSwitch completes (domainSwitchesOn). -/
abbrev okDomainSwitchesOn (q : Switch) (rest : List Switch) (s : State) : Prop :=
  s.power.queue = q :: rest ∧
  q.target = .on ∧
  windowSum s + q.step ≤ s.power.stepLimit ∧
  s.power.leaving = false

/-- The operands and the state with which domainSwitch completes (domainSwitchDelayed). -/
abbrev okDomainSwitchDelayed (q : Switch) (rest : List Switch) (s : State) : Prop :=
  s.power.queue = q :: rest ∧
  q.target = .on ∧
  s.power.stepLimit < windowSum s + q.step ∧
  q.delayed = false

/-- The operands and the state with which domainLoad completes (domainLoad). -/
abbrev okDomainLoad (domain : Fin 32) (s : State) : Prop :=
  (domAt s domain).loading = true ∧
  (domain.val = 1 ∨ firmwareRunning s = true)

/-- The operands and the state with which standbyWake completes (standbyWake). -/
abbrev okStandbyWake (s : State) : Prop :=
  s.power.state = .standby ∧
  s.power.wakeDue = true ∧
  (tabGet s.sl.cmps 1).state = true

/-- The operands and the state with which holdupExit completes (holdupExit). -/
abbrev okHoldupExit (s : State) : Prop :=
  s.power.holdup = true ∧
  (tabGet s.sl.cmps 1).state = true

/-- The operands and the state with which pwrWakeWrite completes (pwrWakeWrite). -/
abbrev okPwrWakeWrite (value : BitVec 32) (s : State) : Prop :=
  domOn s 3 = true ∧
  value.getLsbD 0 = true ∧
  s.power.state = .standby

/-- The operands and the state with which comparatorChange completes (comparatorPlain). -/
abbrev okComparatorPlain (comparator : Fin 6) (s : State) : Prop :=
  (comparator.val = 0 ∨ comparator.val = 4 ∨ comparator.val = 5) ∧
  s.power.state ≠ .safelight ∧
  s.power.state ≠ .standby ∧
  s.sl.wakeEn.testBit comparator = false

/-- The operands and the state with which comparatorChange completes (comparatorHot). -/
abbrev okComparatorHot (comparator : Fin 6) (s : State) : Prop :=
  comparator.val = 4 ∧
  s.power.state ≠ .safelight ∧
  s.power.state ≠ .standby ∧
  s.sl.wakeEn.testBit 4 = true

/-- The operands and the state with which vsafeSwitchover completes (vsafeToBattery). -/
abbrev okVsafeToBattery (s : State) : Prop :=
  s.sl.onBattery = false

/-- The operands and the state with which vsafeSwitchover completes (vsafeToSupply). -/
abbrev okVsafeToSupply (s : State) : Prop :=
  s.sl.onBattery = true

/-- The operands and the state with which rtcSecond completes (rtcCounts). -/
abbrev okRtcCounts (s : State) : Prop :=
  s.time.tb.todValid = false ∧
  (s.sl.alarmEn = true → (s.sl.rtcSec + 1) % 2 ^ 48 ≠ s.sl.alarm) ∧
  (s.power.state ≠ .safelight ∨ s.power.wakeDue = false)

/-- The operands and the state with which rtcSecond completes (rtcLoads). -/
abbrev okRtcLoads (s : State) : Prop :=
  s.time.tb.todValid = true ∧
  s.time.tb.state = .locked ∧
  (domAt s 4).level = .on ∧
  s.sl.alarmEn = false ∧
  s.power.state ≠ .safelight

/-- The operands and the state with which safelightWake completes (safelightWake). -/
abbrev okSafelightWake (source : Fin 9) (s : State) : Prop :=
  source.val ≠ 8 ∧
  s.sl.wakeEn.testBit source = true ∧
  s.power.state ≠ .standby ∧
  s.power.state ≠ .safelight

/-- The operands and the state with which safelightTcFrame completes (safelightTcFrame). -/
abbrev okSafelightTcFrame (s : State) : Prop :=
  s.time.tc.running = false

/-- The operands and the state with which sramError completes (sramCorrected). -/
abbrev okSramCorrected (kind _unit _detail : Nat) (s : State) : Prop :=
  kind ≠ 10 ∧
  kind ≠ 11 ∧
  s.rel.ceThisTick = false

/-- The operands and the state with which pornReset completes (pornReset). -/
abbrev okPornReset (_strap : Fin 4) (widthNs : Nat) (_s : State) : Prop :=
  10000 ≤ widthNs

/-- The operands and the state with which pornReset completes (pornIgnored). -/
abbrev okPornIgnored (_strap : Fin 4) (widthNs : Nat) (_s : State) : Prop :=
  widthNs < 10000

/-- The operands and the state with which hrstnReset completes (hrstnReset). -/
abbrev okHrstnReset (_strap : Fin 4) (widthNs : Nat) (s : State) : Prop :=
  500 ≤ widthNs ∧
  (recAt s 0).state ≠ .stopBath ∧
  (recAt s 1).state ≠ .stopBath

/-- The operands and the state with which hrstnReset completes (hrstnDeferred). -/
abbrev okHrstnDeferred (_strap : Fin 4) (widthNs : Nat) (s : State) : Prop :=
  500 ≤ widthNs ∧
  ((recAt s 0).state = .stopBath ∨ (recAt s 1).state = .stopBath) ∧
  s.mag.bath.state = 1 ∧
  runTime s < s.mag.bath.startAt + 25000000 * nsUnits

/-- The operands and the state with which bootWatchdogExpiry completes (bootWatchdogExpiry). -/
abbrev okBootWatchdogExpiry (_strap : Fin 4) (s : State) : Prop :=
  s.boot.ready = false ∧
  s.boot.stage ≠ 7 ∧
  s.power.state ≠ .safelight

/-- The operands and the state with which bootPushGo completes (bootPushFails). -/
abbrev okBootPushFails (value : BitVec 32) (img : List Byte) (s : State) : Prop :=
  domOn s 3 = true ∧
  s.boot.started = false ∧
  value.getLsbD 0 = true ∧
  s.boot.stage ≠ 1 ∧
  hostRead s.boot.pushAddr s.boot.pushLen s = some img ∧
  verifyImage s.boot.fuses (some img) ≠ 0

/-- The operands and the state with which bootPushGo completes (bootPushWaits). -/
abbrev okBootPushWaits (value : BitVec 32) (s : State) : Prop :=
  domOn s 3 = true ∧
  s.boot.started = false ∧
  value.getLsbD 0 = true ∧
  s.boot.stage ≠ 1 ∧
  hostReachable s = false

/-- The operands and the state with which firmwareReady completes (firmwareReady). -/
abbrev okFirmwareReady (s : State) : Prop :=
  s.ctl.pair = .boot ∧
  s.boot.ready = false ∧
  s.boot.stage ≠ 7 ∧
  s.boot.stage ≠ 1 ∧
  s.power.state ≠ .safelight ∧
  s.sl.slReset = false

/-- The operands and the state with which debugOff completes (debugOff). -/
abbrev okDebugOff (value : BitVec 32) (s : State) : Prop :=
  domOn s 3 = true ∧
  s.boot.debugOff = false ∧
  value.getLsbD 0 = true ∧
  value.getLsbD 1 = false

/-- The operands and the state with which fwUpdateLock completes (fwUpdateLock). -/
abbrev okFwUpdateLock (value : BitVec 32) (s : State) : Prop :=
  domOn s 3 = true ∧
  s.boot.fwLock = false ∧
  value.getLsbD 1 = true ∧
  value.getLsbD 0 = false

/-- The operands and the state with which upstreamRequestTimeout completes (upstreamPayload). -/
abbrev okUpstreamPayload (n : Fin 16) (c : Cmd) (s : State) : Prop :=
  hostReachable s = false ∧
  fetching s n = some c ∧
  firmwareRunning s = true

/-- The operands and the state with which upstreamRequestTimeout completes (upstreamPush). -/
abbrev okUpstreamPush (s : State) : Prop :=
  hostReachable s = false ∧
  s.boot.stage = 1

/-- The operands and the state with which pcieLinkUp completes (pcieLinkUp). -/
abbrev okPcieLinkUp (s : State) : Prop :=
  domOn s 3 = true ∧
  s.boot.stage ≠ 1

/-- The operands and the state with which mgmtSpiRead completes (mgmtSpiRead). -/
abbrev okMgmtSpiRead (frame : List Byte) (s : State) : Prop :=
  spiLength frame = frame.length ∧
  crc8 (frame.take (frame.length - 1)) = frame.getD (frame.length - 1) 0 ∧
  frame.headD 0 = 0x52 ∧
  beNat ((frame.drop 1).take 2) % 4 = 0 ∧
  beNat ((frame.drop 1).take 2) ≤ 0xFC ∧
  beNat ((frame.drop 1).take 2) ≠ 4 ∧
  (s.power.state ≠ .safelight ∨ s.power.wakeDue = false)

/-- The operands and the state with which mgmtSpiRead completes (mgmtSpiReadBadCrc). -/
abbrev okMgmtSpiReadBadCrc (frame : List Byte) (s : State) : Prop :=
  frame.length = spiLength frame ∧
  frame.headD 0 = 0x52 ∧
  crc8 (frame.take 3) ≠ frame.getD 3 0 ∧
  (s.power.state ≠ .safelight ∨ s.power.wakeDue = false)

/-- The operands and the state with which mgmtSpiWrite completes (mgmtSpiWrite). -/
abbrev okMgmtSpiWrite (frame : List Byte) (s : State) : Prop :=
  spiLength frame = frame.length ∧
  crc8 (frame.take (frame.length - 1)) = frame.getD (frame.length - 1) 0 ∧
  frame.headD 0 = 0x57 ∧
  beNat ((frame.drop 1).take 2) % 4 = 0 ∧
  beNat ((frame.drop 1).take 2) ≤ 0xFC ∧
  (s.power.state ≠ .safelight ∨ s.power.wakeDue = false)

/-- The operands and the state with which mgmtSpiWake completes (mgmtSpiWake). -/
abbrev okMgmtSpiWake (frame : List Byte) (s : State) : Prop :=
  spiLength frame = frame.length ∧
  crc8 (frame.take (frame.length - 1)) = frame.getD (frame.length - 1) 0 ∧
  frame.headD 0 = 0xA5 ∧
  beNat ((frame.drop 1).take 2) = 0 ∧
  s.sl.wakeEn.testBit 7 = true ∧
  s.power.state ≠ .safelight ∧
  s.power.state ≠ .standby

/-- The operands and the state with which mgmtSpiWake completes (mgmtSpiWakeRefused). -/
abbrev okMgmtSpiWakeRefused (frame : List Byte) (s : State) : Prop :=
  spiLength frame = frame.length ∧
  crc8 (frame.take (frame.length - 1)) = frame.getD (frame.length - 1) 0 ∧
  frame.headD 0 = 0xA5 ∧
  beNat ((frame.drop 1).take 2) = 0 ∧
  s.sl.wakeEn.testBit 7 = false ∧
  (s.power.state ≠ .safelight ∨ s.power.wakeDue = false)

/-- The operands and the state with which mgmtSpiAbort completes (mgmtSpiAbort). -/
abbrev okMgmtSpiAbort (frame : List Byte) (s : State) : Prop :=
  frame.length < spiLength frame ∧
  (s.power.state ≠ .safelight ∨ s.power.wakeDue = false)

/-- The operands and the state with which slSpiClear completes (slSpiClear). -/
abbrev okSlSpiClear (_value : BitVec 32) (s : State) : Prop :=
  domOn s 3 = true

/-- The operands and the state with which registerWrite completes (scratchWrite). -/
abbrev okScratchWrite (_value : BitVec 32) (s : State) : Prop :=
  domOn s 3 = true

/-- The operands and the state with which registerWrite completes (apertureWrite). -/
abbrev okApertureWrite (_value : BitVec 32) (s : State) : Prop :=
  domOn s 3 = true

/-- The operands and the state with which registerWrite completes (eventPendingClear). -/
abbrev okEventPendingClear (_group : Fin 32) (_value : BitVec 32) (s : State) : Prop :=
  domOn s 3 = true ∧
  domOn s 2 = true

/-- The operands and the state with which registerWrite completes (bar0WriteIgnored). -/
abbrev okBar0WriteIgnored (offset : Nat) (_value : BitVec 32) (s : State) : Prop :=
  offset % 4 ≠ 0 ∨ domOn s 3 = false

/-- The operands and the state with which registerWrite completes (commandRingWrite). -/
abbrev okCommandRingWrite (_mb : Fin 16) (_word : Fin 1024) (_value : BitVec 32) (s : State) : Prop :=
  domOn s 3 = true ∧
  domOn s 1 = true

end Sys2Proof.Machine
end

