-- ==== Sys2Proof/Certificates/Slice0/Obligations.lean ====
section
/-! DEFINITION. The statements: what each row of the table does, family by family, and what holds of every step. -/
open Sys2Proof Sys2Proof.Machine

/-- A step takes the command at the front of the queue and runs it on the state with the queue's rest; with no command waiting the clock runs on for one cycle (DESIGN CHOICE, log entry 3). The model's own choices behind it: log entries 3 and 140. -/
def Obligations.StepRunsFront : Prop :=
  (∀ (c : Instr) (rest : List Instr) (s : State), s.pending = c :: rest → step s = exec c { s with pending := rest }) ∧
  (∀ (s : State), s.pending = [] → step s = .next (tick s))

/-- Every row of the table answers a next state, whatever its operands and the state; it leaves the queue as it is, and a row that does not reach the Safelight domain leaves that domain as it is (R503). An entry of a mailbox changes of it at most the host's wake cause (R509). The model's own choices behind it: log entries 1, 4 and 8. -/
def Obligations.EveryRowCompletes : Prop :=
  (∀ (i : Instr) (s : State), ∃ t, exec i s = .next t ∧ t.pending = s.pending ∧ (reachesSafelight i = false → t.sl = s.sl)) ∧
  (∀ (i : Instr) (op : Nat) (e : CmdEntry) (s : State), rowEntry i = some (op, e) →
    ∃ t, exec i s = .next t ∧ (t.sl = s.sl ∨ t.sl = { s.sl with wakeCause := Nat.lor s.sl.wakeCause 512 }))

/-- The registers of the Safelight domain hold values of their fields' ranges after reset (R525, R529). -/
def Obligations.SafelightRangesAtReset : Prop :=
  SafelightRanges State.reset.sl

/-- Every step, whatever its command and the state, keeps every register of the Safelight domain within the range of its field: the counters at most 255, the wake words within their bits, the clock, its alarm and latches within their widths, the trim signed in 8 bits, and every comparator's threshold, hysteresis and filter in theirs, a filter of 0 standing for 1 (R523 to R530, R592). -/
def Obligations.SafelightRangesKept : Prop :=
  ∀ (s t : State), SafelightRanges s.sl → step s = .next t → SafelightRanges t.sl

/-- A reset that initialises the event unit clears every pending and enable word of both views, sets every ARMED bit, clears every HOLDOFF, puts no number in service, and sets every EVI pin to EDGE 0, FILT 1, INVERT 0 and COUNT 0; an event that a unit raises after it is pending as usual, where the unit's domain is on, and is not raised where it is not (R489, R502). The two states are the one after reset and the one that PORn, HRSTn and the boot watchdog start from any state. The model's own choices behind it: log entry 23. -/
def Obligations.EventUnitReset : Prop :=
  ∀ (s t : State), t = State.reset ∨ t = freshDevice s →
    (∀ g, tabGet t.ev.pend g = 0#32 ∧ tabGet t.ev.en g = 0#32 ∧ tabGet t.ev.evcPend g = 0#32 ∧ tabGet t.ev.evcEn g = 0#32) ∧
    t.ev.armed = 0xFFFFFFFF#32 ∧ (∀ g, tabGet t.ev.holdoff g = 0) ∧ t.ev.inService = none ∧
    (∀ n, (eviAt t n).edge = 0 ∧ (eviAt t n).filt = 1 ∧ (eviAt t n).invert = false ∧ (eviAt t n).count = 0) ∧
    (∀ n, unitOn t n = true → (raise n t).ev.pend = setEventBit n t.ev.pend ∧ (raise n t).ev.evcPend = setEventBit n t.ev.evcPend) ∧
    (∀ n, unitOn t n = false → raise n t = t)

/-- A Safelight reset sets THRESH, HYST, FILT and POL of the six comparators as the table of R529 gives them, clears WAKE_CAUSE, and leaves the switch where it is (R525). The model's own choices behind it: log entries 26 and 233. -/
def Obligations.ComparatorReset : Prop :=
  ∀ (s : State), ∃ t, exec .safelightReset s = .next t ∧
    (List.range 6).map (fun k => let c := tabGet t.sl.cmps k; (c.thresh, c.hyst, c.filt, c.pol)) =
      [(138, 6, 16, false), (186, 4, 4, false), (75, 4, 200, false), (75, 4, 200, false), (135, 5, 16, false), (0, 0, 1, false)] ∧
    t.sl.wakeCause = 0 ∧ t.sl.slReset = true ∧ t.sl.switchovers = 0 ∧ t.sl.onBattery = s.sl.onBattery

/-- A doorbell whose count lies at most 64 past the head count and not behind the tail count moves the tail count of its mailbox and nothing else of any mailbox; any other is ignored, sets DB_ERR and raises the mailbox error event (R37). The mailbox is one that takes doorbells: enabled and ready. -/
def Obligations.DoorbellRule : Prop :=
  ∀ (mb : Fin 16) (value : BitVec 32) (s : State), okDoorbell mb s →
    let T := value.toNat % 65536
    let m := mbAt s mb
    (countDiff T m.cmdHead ≤ 64 ∧ countDiff m.cmdTail m.cmdHead ≤ countDiff T m.cmdHead →
      ∃ t, exec (.mbDbWrite mb value) s = .next t ∧ t.ctl = (modMb mb (fun x => { x with cmdTail := T }) s).ctl ∧ t.ev = s.ev) ∧
    (64 < countDiff T m.cmdHead ∨ countDiff T m.cmdHead < countDiff m.cmdTail m.cmdHead →
      exec (.mbDbWrite mb value) s = .next (raise (929 + 2 * mb) (modMb mb (fun x => { x with dbErr := true }) s)))

/-- The line to the Onyx pair is asserted while no number is in service and a bit is both pending and enabled. A claim then returns the lowest such number, clears its pending bit and puts it in service; any other claim returns 1023, counts SPURIOUS and changes nothing else. Only the number in service, written to EVC_COMPLETE, leaves service; any other write sets COMPLETE_ERR. A source raised while its number is in service becomes pending (R498, R499). -/
def Obligations.OnyxClaimsAndCompletions : Prop :=
  (∀ (s : State), evcLine s = true ↔ s.ev.inService = none ∧ ∃ n, n < 1023 ∧ claimable s n = true) ∧
  (∀ (n : Nat) (s : State), okClaim n s →
    exec .evcClaimRead s = .next { s with ev := { s.ev with inService := some n, claim := n, evcPend := tabMod s.ev.evcPend (n / 32) (fun w => w &&& ~~~ sourceBit n) } }) ∧
  (∀ (s : State), domOn s 2 = true → evcLine s = false →
    exec .evcClaimRead s = .next { s with ev := { s.ev with claim := 1023, spurious := min 65535 (s.ev.spurious + 1) } }) ∧
  (∀ (n : Fin 1024) (s : State), okComplete n s → exec (.evcCompleteWrite n) s = .next { s with ev := { s.ev with inService := none } }) ∧
  (∀ (n : Fin 1024) (s : State), okCompleteOther n s → exec (.evcCompleteWrite n) s = .next { s with ev := { s.ev with completeErr := true } }) ∧
  (∀ (n : Fin 1024) (s : State), okRaiseServed n s →
    ∃ t, exec (.eventRaise n) s = .next t ∧ t.ev.inService = some n.val ∧ tabGet t.ev.evcPend (n / 32) &&& sourceBit n ≠ 0#32)

/-- A raise by a unit whose domain is on sets the source's pending bit in the host view and in the Onyx view and changes no other bit; a clear through EVT_PEND clears it in the host view alone (R487). The model's own choices behind it: log entry 47. -/
def Obligations.EventRaised : Prop :=
  (∀ (source : Fin 1024) (s : State), okRaised source s →
    exec (.eventRaise source) s = .next { s with ev := { s.ev with pend := setEventBit source s.ev.pend, evcPend := setEventBit source s.ev.evcPend } }) ∧
  (∀ (n : Nat) (t : Tab Word), tabGet (setEventBit n t) (n / 32) = tabGet t (n / 32) ||| sourceBit n ∧
    ∀ g, g ≠ n / 32 → tabGet (setEventBit n t) g = tabGet t g) ∧
  (∀ (group : Fin 32) (value : BitVec 32) (s : State), okHostClear s →
    ∃ t, exec (.registerWrite .bar0 (0x100000 + 4 * group) value) s = .next t ∧
      tabGet t.ev.pend group = tabGet s.ev.pend group &&& ~~~ value ∧ t.ev.evcPend = s.ev.evcPend ∧ ∀ g, g ≠ group.val → tabGet t.ev.pend g = tabGet s.ev.pend g)

/-- An entry that fails a check of R34 is answered with the status of the first check that fails, and nothing else of the device changes than that the entry has been taken and answered (R20, R34): a reserved FLAGS bit, LENGTH beyond 56 without EXT, a wrong LENGTH or address with EXT, opcode range 0x0F on another mailbox than 0, and a LENGTH shorter than the command needs. The model's own choices behind it: log entries 4 and 28. -/
def Obligations.EntryRefused : Prop :=
  ∀ (i : Instr) (op : Nat) (e : CmdEntry) (s : State), rowEntry i = some (op, e) → InTurn op e s →
    (4 ≤ e.flags.toNat → exec i s = .next (refusedEntry op e s .rejRange)) ∧
    (e.flags.toNat < 4 → bit e.flags.toNat 0 = false → 56 < e.length.toNat → exec i s = .next (refusedEntry op e s .rejRange)) ∧
    (e.flags.toNat < 4 → bit e.flags.toNat 0 = true → e.length = 0 ∨ 4096 < e.length.toNat ∨ (fetchOf op e s).u64 0 % 4 ≠ 0 →
      exec i s = .next (refusedEntry op e s .rejRange)) ∧
    (e.flags.toNat < 4 → (bit e.flags.toNat 0 = false ∧ e.length.toNat ≤ 56 ∨
        bit e.flags.toNat 0 = true ∧ e.length ≠ 0 ∧ e.length.toNat ≤ 4096 ∧ (fetchOf op e s).u64 0 % 4 = 0) →
      op / 256 = 15 → e.mailbox ≠ 0 → exec i s = .next (refusedEntry op e s .rejState)) ∧
    (e.flags.toNat < 4 → bit e.flags.toNat 0 = false → e.length.toNat ≤ 56 → (op / 256 = 15 → e.mailbox = 0) →
      e.length.toNat < lengthNeed (cmdOf op e s) → exec i s = .next (refusedEntry op e s .rejRange))

/-- A write of a whole line of the frame store below its capacity, filled and on a working channel, is read back and leaves every other byte (R146); a write of host memory is read back and leaves every other byte; and reads and writes of the store keep its memory in the canonical form. The model's own choices behind it: log entries 19, 21, 45, 59 and 180. -/
def Obligations.MemoryBytes : Prop :=
  (∀ (line : Nat) (b : List Byte) (s : State), okWholeLine line b s →
    let t := fsWriteLine line 0 b s
    (fsReadLine line t).1 = b ∧ (fsReadLine line t).2.1 = false ∧
    ∀ a, a < 64 * line ∨ 64 * line + 64 ≤ a → storedByte t a = storedByte s a) ∧
  (∀ (a : Nat) (b : List Byte) (s : State), hostReachable s = true →
    hostRead a b.length (hostPoke a b s) = some b ∧
    ∀ k, k < a ∨ a + b.length ≤ k → tabGet (hostPoke a b s).host.mem k = tabGet s.host.mem k) ∧
  (∀ (fsa : Nat) (b : List Byte) (s : State), Memory.wf s.fs.mem = true →
    Memory.wf (fsWrite fsa b s).fs.mem = true ∧ Memory.wf (fsRead fsa b.length s).2.2.fs.mem = true)

/-- Right after reset every register of BAR0 whose Reset value the spec gives holds that value, each row of its tables for every instance (R40, R88, R111, R135, R164, R179, R211, R261, R337, R484, R502, R531). Registers whose Reset column reads fw, and ADM_LOAD (log entry 20), are not among them. -/
def Obligations.ResetRegisters : Prop :=
  (∀ r ∈ resetRowsLow, rowAtReset r) ∧ (∀ r ∈ resetRowsHigh, rowAtReset r)

/-- A read of a register whose domain is not ON returns 0 (R585). What is written to a RW register is read back, reserved bits as 0: GLB_SCRATCH, AP_BASE, a fence, an enable word of the event unit, the position of a fast path, the low doorbell word of a DMA channel and the Safelight wake enables; a write of 1 to a bit of AP_STATUS clears it, and a write to a read-only register changes nothing it reads (R14, R15). The model's own choices behind it: log entries 36, 37 and 137. -/
def Obligations.RegisterReads : Prop :=
  (∀ (o : Nat) (s : State), domOn s (bar0Reg o s).1 = false → bar0Read o s = 0#32) ∧
  (∀ (v : BitVec 32) (s : State), okReadable 0x14 s →
    ∃ t, exec (.registerWrite .bar0 0x14 v) s = .next t ∧ bar0Read 0x14 t = v) ∧
  (∀ (v : BitVec 32) (s : State), okReadable 0x100 s →
    ∃ t, exec (.registerWrite .bar0 0x100 v) s = .next t ∧ bar0Read 0x100 t = v &&& 0xFFFFF#32) ∧
  (∀ (v : BitVec 32) (s : State), okReadable 0x104 s →
    ∃ t, exec (.registerWrite .bar0 0x104 v) s = .next t ∧ t.host.apStatus = Nat.xor s.host.apStatus (Nat.land s.host.apStatus v.toNat) ∧
      bar0Read 0x104 t = BitVec.ofNat 32 t.host.apStatus) ∧
  (∀ (k : Fin 32) (v : BitVec 32) (s : State), okReadable (0x81000 + 4 * k) s →
    ∃ t, exec (.fxFenceWrite k v) s = .next t ∧ tabGet t.pic.fx.fences k = v.toNat) ∧
  (∀ (g : Fin 32) (v : BitVec 32) (s : State), okReadable (0x100080 + 4 * g) s →
    ∃ t, exec (.registerWrite .bar0 (0x100080 + 4 * g) v) s = .next t ∧ bar0Read (0x100080 + 4 * g) t = v &&& eventMask g) ∧
  (∀ (l : Fin 64) (v : BitVec 32) (s : State), okReadable (0x80000 + 0x20 * l) s →
    ∃ t, exec (.registerWrite .bar0 (0x80000 + 0x20 * l) v) s = .next t ∧ bar0Read (0x80000 + 0x20 * l) t = v) ∧
  (∀ (n : Fin 32) (v : BitVec 32) (s : State), okReadable (0x200000 + 0x40 * n) s →
    ∃ t, exec (.registerWrite .bar0 (0x200000 + 0x40 * n) v) s = .next t ∧ bar0Read (0x200000 + 0x40 * n) t = v &&& 0xFFFFFFE1#32) ∧
  (∀ (v : BitVec 32) (s : State), okReadable 0x380064 s →
    ∃ t, exec (.registerWrite .bar0 0x380064 v) s = .next t ∧ bar0Read 0x380064 t = v &&& 0x1FF#32) ∧
  (∀ (v : BitVec 32) (s : State), okReadable 0x0 s →
    ∃ t, exec (.registerWrite .bar0 0x0 v) s = .next t ∧ bar0Read 0x0 t = 0x00107480#32)

/-- TIME_CORRECTION_SET puts its four settings in force (R67, R74, R75); HEAD_SLEW_SET the limits of one head (R77). TIME_REF_SELECT replaces the candidate list and chooses the master anew, a reference that was listed keeping what is known of it (R65, R69); an approved step and a time of day wait for the next reference frame start, and a declined step becomes a slew (R75, R76, R78); REF_RASTER_SET, TC_SET and CAPTURE_RASTER_SET wait for the frame they apply from (R82, R84, R85). The model's own choices behind it: log entries 4, 30, 50, 55, 57 and 162. -/
def Obligations.TimebaseCommands : Prop :=
  (∀ (e : CmdEntry) (s : State), Served 0x0202 e s →
    let c := cmdOf 0x0202 e s
    let t := entered 0x0202 e s
    okTimeCorrectionSet c t →
    exec (.timeCorrectionSet e) s = .next (answered 0x0202 e s [] { t with time := { t.time with tb := { t.time.tb with slewWindow := c.u32 0, slewPpb := c.u32 4, qualMs := c.u16 8, stepAuto := decide (c.u8 10 = 1) } } })) ∧
  (∀ (e : CmdEntry) (s : State), Served 0x0207 e s →
    let c := cmdOf 0x0207 e s
    let t := entered 0x0207 e s
    okHeadSlewSet c t →
    exec (.headSlewSet e) s = .next (answered 0x0207 e s [] { t with time := { t.time with tb := { t.time.tb with heads := tabMod t.time.tb.heads (c.u8 0) (fun x => { x with maxPpb := c.u32 4, maxPpbPerS := c.u32 8 }) } } })) ∧
  (∀ (e : CmdEntry) (s : State), Served 0x0201 e s →
    let c := cmdOf 0x0201 e s
    let t := entered 0x0201 e s
    let new := fun i => match t.time.tb.cands.find? (fun o => decide (o.type = c.u8 (4 + 12 * i)) && decide (o.unit = c.u8 (5 + 12 * i))) with
      | some o => { o with rateNum := c.u32 (8 + 12 * i), rateDen := c.u32 (12 + 12 * i) }
      | none => { type := c.u8 (4 + 12 * i), unit := c.u8 (5 + 12 * i), rateNum := c.u32 (8 + 12 * i), rateDen := c.u32 (12 + 12 * i) }
    okTimeRefSelect c t →
    exec (.timeRefSelect e) s = .next (answered 0x0201 e s [] (reevaluateMaster { t with time := { t.time with tb := { t.time.tb with cands := (List.range (c.u8 0)).map new } } }))) ∧
  (∀ (e : CmdEntry) (s : State), Served 0x0203 e s →
    let c := cmdOf 0x0203 e s
    let t := entered 0x0203 e s
    okTimeStepApprove c t →
    exec (.timeStepApprove e) s = .next (waiting 0x0203 e s .stepApplied { t with time := { t.time with tb := { t.time.tb with stepDue := some t.time.tb.errFull } } })) ∧
  (∀ (e : CmdEntry) (s : State), Served 0x0203 e s →
    let c := cmdOf 0x0203 e s
    let t := entered 0x0203 e s
    okTimeStepDecline c t →
    exec (.timeStepApprove e) s = .next (answered 0x0203 e s [] (startSlew t.time.tb.errFull true t))) ∧
  (∀ (e : CmdEntry) (s : State), Served 0x0204 e s →
    let c := cmdOf 0x0204 e s
    let t := entered 0x0204 e s
    okTimeSet c t →
    exec (.timeSet e) s = .next (waiting 0x0204 e s .timeSet { t with time := { t.time with tb := { t.time.tb with timeSetDue := some (c.un 0 6 * secUnits + c.u32 8 * nsUnits) } } })) ∧
  (∀ (e : CmdEntry) (s : State), Served 0x0205 e s →
    let c := cmdOf 0x0205 e s
    let t := entered 0x0205 e s
    okRefRasterSet c t →
    exec (.refRasterSet e) s = .next (waiting 0x0205 e s .refRaster { t with time := { t.time with refPending := some { num := c.u32 0, den := c.u32 4, lines := c.u16 8, samples := c.u16 10, offsetNs := c.i32 12 } } })) ∧
  (∀ (e : CmdEntry) (s : State), Served 0x0206 e s →
    let c := cmdOf 0x0206 e s
    let t := entered 0x0206 e s
    let tc : Timecode := { hh := c.u8 7, mm := c.u8 6, ss := c.u8 5, ff := c.u8 4 }
    okTcSet c t →
    exec (.tcSet e) s = .next (waiting 0x0206 e s .tcFrame { t with time := { t.time with tc := { t.time.tc with pendTaken := false, pending := some { mode := c.u8 0, base := c.u8 1, drop := bit (c.u8 2) 0, ltcOut := bit (c.u8 2) 1, tc0 := tc, n0 := (c.u64 8 : Int), userBits := c.u32 16, todOffset := c.i32 20 } } } })) ∧
  (∀ (e : CmdEntry) (s : State), Served 0x0208 e s →
    let c := cmdOf 0x0208 e s
    let t := entered 0x0208 e s
    okCaptureRasterFollow c t →
    exec (.captureRasterSet e) s = .next (waiting 0x0208 e s .captureRaster (modCap (fun x => { x with pending := some { drive := false, stream := c.u8 1, latencyNs := c.u32 4 }, markers := if (t.time.cap.pending.getD t.time.cap.mode).drive = false ∧ (t.time.cap.pending.getD t.time.cap.mode).stream = c.u8 1 then x.markers else [] }) (setSynShadow 8 (synAt t 8).shadow t)))) ∧
  (∀ (e : CmdEntry) (s : State), Served 0x0208 e s →
    let c := cmdOf 0x0208 e s
    let t := entered 0x0208 e s
    let d := capDivider (c.u32 8 * 1000000) (c.u32 12) (c.u16 2)
    okCaptureRasterDrive c t →
    exec (.captureRasterSet e) s = .next (waiting 0x0208 e s .captureRaster (modCap (fun x => { x with pending := some { drive := true, lines := c.u16 2, num := c.u32 8, den := c.u32 12 }, markers := if (t.time.cap.pending.getD t.time.cap.mode).drive = true ∧ (t.time.cap.pending.getD t.time.cap.mode).stream = 0 then x.markers else [] }) (setSynShadow 8 (some { refMode := 0, int := 320, frac := d % 16777216, modw := 0, od := d / 16777216 }) t))))

/-- SYN_CONFIG writes the shadow settings of a synthesizer, and of both of a locked pair; where the output runs they wait for its update point, else they apply at once, and a synthesizer that is off only keeps them (R93, R98, R104). SYN_CACHE_FILL runs its first search in the slice that takes it (R106). CAPTURE_RAMP_LOAD stores the profile; CAPTURE_RAMP_START waits for the capture frame it names, or ends the ramp that runs at the rate it has reached (R108, R109). The model's own choices behind it: log entries 4, 10, 27, 30, 49, 58, 85, 144 and 157. -/
def Obligations.SynthCommands : Prop :=
  (∀ (e : CmdEntry) (s : State), Served 0x0209 e s →
    let c := cmdOf 0x0209 e s
    let t := entered 0x0209 e s
    let k := c.u8 0
    let rm := c.u8 1
    let y := synAt t k
    let cfg : SynCfg := { refMode := rm, dither := bit (c.u8 2) 0, lockWin := c.u8 3, lockCnt := c.u16 4, seed := c.un 8 3, sdiLead := if (k = 10 ∨ k = 11) ∧ c.u8 12 ≤ 7 then some (c.u8 12) else none }
    let w := if rm ≠ (y.shadow.getD y.words).refMode then some (wordsAtRefMode (y.shadow.getD y.words) rm) else y.shadow
    let t1 := forEach (synPairOf t k) (fun j => modSyn j (fun z => { z with cfgShadow := some cfg, shadow := w })) t
    okSynConfigRunning c t →
    exec (.synConfig e) s = .next (waiting 0x0209 e s (.synUpdate k) t1)) ∧
  (∀ (e : CmdEntry) (s : State), Served 0x0209 e s →
    let c := cmdOf 0x0209 e s
    let t := entered 0x0209 e s
    let k := c.u8 0
    let rm := c.u8 1
    let y := synAt t k
    let cfg : SynCfg := { refMode := rm, dither := bit (c.u8 2) 0, lockWin := c.u8 3, lockCnt := c.u16 4, seed := c.un 8 3, sdiLead := if (k = 10 ∨ k = 11) ∧ c.u8 12 ≤ 7 then some (c.u8 12) else none }
    let w := if rm ≠ (y.shadow.getD y.words).refMode then some (wordsAtRefMode (y.shadow.getD y.words) rm) else y.shadow
    let t1 := forEach (synPairOf t k) (fun j => modSyn j (fun z => { z with cfgShadow := some cfg, shadow := w })) t
    okSynConfigIdle c t →
    exec (.synConfig e) s = .next (answered 0x0209 e s [] (synUpdatePoint k t1))) ∧
  (∀ (e : CmdEntry) (s : State), Served 0x0209 e s →
    let c := cmdOf 0x0209 e s
    let t := entered 0x0209 e s
    let k := c.u8 0
    let rm := c.u8 1
    let y := synAt t k
    let cfg : SynCfg := { refMode := rm, dither := bit (c.u8 2) 0, lockWin := c.u8 3, lockCnt := c.u16 4, seed := c.un 8 3, sdiLead := if (k = 10 ∨ k = 11) ∧ c.u8 12 ≤ 7 then some (c.u8 12) else none }
    let w := if rm ≠ (y.shadow.getD y.words).refMode then some (wordsAtRefMode (y.shadow.getD y.words) rm) else y.shadow
    let t1 := forEach (synPairOf t k) (fun j => modSyn j (fun z => { z with cfgShadow := some cfg, shadow := w })) t
    okSynConfigOff c t →
    exec (.synConfig e) s = .next (answered 0x0209 e s [] (forEach (synPairOf t1 k) (fun j => modSyn j synStored) t1))) ∧
  (∀ (e : CmdEntry) (s : State), Served 0x0209 e s →
    let c := cmdOf 0x0209 e s
    let t := entered 0x0209 e s
    let y := synAt t 8
    let cfg : SynCfg := { refMode := 0, dither := bit (c.u8 2) 0, lockWin := c.u8 3, lockCnt := c.u16 4, seed := c.un 8 3, sdiLead := none }
    let w := if 0 ≠ (y.shadow.getD y.words).refMode then some (wordsAtRefMode (y.shadow.getD y.words) 0) else y.shadow
    let t1 := modSyn 8 (fun z => { z with cfgShadow := some cfg, shadow := w }) t
    okSynConfigDrive c t →
    exec (.synConfig e) s = .next (waiting 0x0209 e s (.synUpdate 8) t1)) ∧
  (∀ (e : CmdEntry) (s : State), Served 0x0209 e s →
    let c := cmdOf 0x0209 e s
    let t := entered 0x0209 e s
    let y := synAt t 8
    let cfg : SynCfg := { refMode := 0, dither := bit (c.u8 2) 0, lockWin := c.u8 3, lockCnt := c.u16 4, seed := c.un 8 3, sdiLead := none }
    let w := if 0 ≠ (y.shadow.getD y.words).refMode then some (wordsAtRefMode (y.shadow.getD y.words) 0) else y.shadow
    let t1 := modSyn 8 (fun z => { z with cfgShadow := some cfg, shadow := w }) t
    okSynConfigFollow c t →
    exec (.synConfig e) s = .next (answered 0x0209 e s [] (synUpdatePoint 8 t1))) ∧
  (∀ (e : CmdEntry) (s : State), Served 0x020A e s →
    let c := cmdOf 0x020A e s
    let t := entered 0x020A e s
    let k := c.u8 0
    let ts := (List.range (c.u8 1)).map (fun i => c.u32 (4 + 4 * i))
    okSynCacheFill c t →
    exec (.synCacheFill e) s = .next (accepted 0x020A e s (.cacheFill k ts 1) (cacheSearch k (c.u32 4) t))) ∧
  (∀ (e : CmdEntry) (s : State), Served 0x020A e s →
    let c := cmdOf 0x020A e s
    let t := entered 0x020A e s
    okSynCacheFillOne c t →
    exec (.synCacheFill e) s = .next (acceptedAndEnded 0x020A e s .ok 0 [] (cacheSearch (c.u8 0) (c.u32 4) t))) ∧
  (∀ (e : CmdEntry) (s : State), Served 0x020B e s →
    let c := cmdOf 0x020B e s
    let t := entered 0x020B e s
    okCaptureRampLoad c t →
    exec (.captureRampLoad e) s = .next (answered 0x020B e s [] { t with time := { t.time with ramp := { t.time.ramp with profile := (List.range (c.u8 0)).map (fun i => { endRate := c.u32 (4 + 8 * i), duration := c.u32 (8 + 8 * i) }) } } })) ∧
  (∀ (e : CmdEntry) (s : State), Served 0x020C e s →
    let c := cmdOf 0x020C e s
    let t := entered 0x020C e s
    okCaptureRampStart c t →
    exec (.captureRampStart e) s = .next (waiting 0x020C e s .rampStart { t with time := { t.time with ramp := { t.time.ramp with startFrame := some (if c.u64 8 = 0 then t.time.cap.frame + 1 else c.u64 8) } } })) ∧
  (∀ (e : CmdEntry) (s : State) (r : RampRun), Served 0x020C e s →
    let c := cmdOf 0x020C e s
    let t := entered 0x020C e s
    okCaptureRampFreeze c t r →
    exec (.captureRampStart e) s = .next (answered 0x020C e s [] (endRamp (rampRate r) t)))

/-- EVT_SLOT_SET puts its content into a slot at once, or keeps it until the armed occurrence has fired (R117, R130); EVT_SLOT_GET returns content and status and changes nothing else (R115); EVO_CONFIG and EVI_CONFIG set one pin, an input taking the level it has under the new settings (R125, R491, R493). The model's own choices behind it: log entries 4, 52 and 210. -/
def Obligations.SchedulerCommands : Prop :=
  (∀ (e : CmdEntry) (s : State), Served 0x0301 e s →
    let c := cmdOf 0x0301 e s
    let t := entered 0x0301 e s
    let k : SlotContent := { action := c.u8 2, kind := c.u8 3, unit := c.u8 4, repeats := c.u8 5, flags := c.u8 6, pin := c.u8 7, frame := c.u64 8, pos := c.u32 16, arg := c.u16 20, stop := c.u32 24, count := c.u32 28 }
    okEvtSlotSetNow c t →
    exec (.evtSlotSet e) s = .next (answered 0x0301 e s [] (applyContent (c.u16 0) k t))) ∧
  (∀ (e : CmdEntry) (s : State), Served 0x0301 e s →
    let c := cmdOf 0x0301 e s
    let t := entered 0x0301 e s
    let k : SlotContent := { action := c.u8 2, kind := c.u8 3, unit := c.u8 4, repeats := c.u8 5, flags := c.u8 6, pin := c.u8 7, frame := c.u64 8, pos := c.u32 16, arg := c.u16 20, stop := c.u32 24, count := c.u32 28 }
    okEvtSlotSetArmed c t →
    exec (.evtSlotSet e) s = .next (waiting 0x0301 e s (.slotApply (c.u16 0) (slotAt t (c.u16 0)).writes) (modSlot (c.u16 0) (fun x => { x with pending := x.pending ++ [(x.writes, k)], writes := x.writes + 1 }) t))) ∧
  (∀ (e : CmdEntry) (s : State), Served 0x0302 e s →
    let c := cmdOf 0x0302 e s
    let t := entered 0x0302 e s
    let x := slotAt t (c.u16 0)
    okEvtSlotGet c t →
    exec (.evtSlotGet e) s = .next (answered 0x0302 e s (slotBytes (c.u16 0) x.content ++ leBytes 1 (slotStatus x) ++ leBytes 3 0 ++ leBytes 4 x.fired ++ leBytes 6 x.lastSec ++ leBytes 2 0) t)) ∧
  (∀ (e : CmdEntry) (s : State), Served 0x0303 e s →
    let c := cmdOf 0x0303 e s
    let t := entered 0x0303 e s
    okEvoConfig c t →
    exec (.evoConfig e) s = .next (answered 0x0303 e s [] { t with sched := { t.sched with pins := tabMod t.sched.pins (c.u8 0) (fun p => { p with outputEn := bit (c.u8 1) 0, invert := bit (c.u8 1) 1, trim := signedOf 8 (c.u8 2) }) } })) ∧
  (∀ (e : CmdEntry) (s : State), Served 0x0304 e s →
    let c := cmdOf 0x0304 e s
    let t := entered 0x0304 e s
    okEviConfig c t →
    exec (.eviConfig e) s = .next (answered 0x0304 e s [] { t with ev := { t.ev with pins := tabMod t.ev.pins (c.u8 0) (fun p => { p with edge := c.u8 1, filt := c.u8 2, invert := bit (c.u8 3) 0, level := Bool.xor p.ball (bit (c.u8 3) 0) }) } }))

/-- FS_INFO returns the configuration, the capacity and the usable bandwidth (R137, R158); FS_POLICY_SET sets the five settings of its table (R147, R156, R161, R163); FS_FILL fills its first step of at most 1 GiB in the slice that takes it (R148); FS_PATROL_REPORT writes the records that fit and drops them from the log (R147); FS_CHANNEL_RETIRE starts the migration (R163). The model's own choices behind it: log entries 4, 30, 35 and 60. -/
def Obligations.StoreCommands : Prop :=
  (∀ (e : CmdEntry) (s : State), Served 0x0401 e s →
    let t := entered 0x0401 e s
    let mask := (List.range 16).foldl (fun a k => if t.fs.brought ∧ (chanAt t k).state = .active then a + 2 ^ k else a) 0
    exec (.fsInfo e) s = .next (answered 0x0401 e s (leBytes 1 t.fs.cfg.ranks ++ leBytes 1 t.fs.cfg.density ++ leBytes 2 t.fs.cfg.speed ++ leBytes 1 (b2n t.fs.cfg.reserve) ++ leBytes 1 0 ++ leBytes 2 mask ++ leBytes 8 (capacity t) ++ leBytes 4 (fsUsable t)) t)) ∧
  (∀ (e : CmdEntry) (s : State), Served 0x0402 e s →
    let c := cmdOf 0x0402 e s
    let t := entered 0x0402 e s
    okFsPolicySet c t →
    exec (.fsPolicySet e) s = .next (answered 0x0402 e s [] { t with fs := { t.fs with pdIdle := c.u16 0, agingUs := c.u16 2, scrubH := c.u8 4, autoRetire := decide (c.u8 5 = 1), autoLimit := c.u16 6 } })) ∧
  (∀ (e : CmdEntry) (s : State), Served 0x0403 e s →
    let c := cmdOf 0x0403 e s
    let t := entered 0x0403 e s
    okFsFillLong c t →
    exec (.fsFill e) s = .next (accepted 0x0403 e s (.fsFill (c.u64 0) (c.u64 8) (c.bytes 16 4) gib) (fillLines (c.u64 0) gib (c.bytes 16 4) t))) ∧
  (∀ (e : CmdEntry) (s : State), Served 0x0403 e s →
    let c := cmdOf 0x0403 e s
    let t := entered 0x0403 e s
    okFsFillShort c t →
    exec (.fsFill e) s = .next (acceptedAndEnded 0x0403 e s .ok 0 [] (fillLines (c.u64 0) (c.u64 8) (c.bytes 16 4) t))) ∧
  (∀ (e : CmdEntry) (s : State), Served 0x0404 e s →
    let c := cmdOf 0x0404 e s
    let t := entered 0x0404 e s
    let k := min (c.u32 8 / 16) t.fs.patrol.log.length
    okFsPatrolReport c t →
    exec (.fsPatrolReport e) s = .next (acceptedAndEnded 0x0404 e s .ok 0 (leBytes 4 k ++ leBytes 4 t.fs.patrol.lost) { hostPoke (c.u64 0) ((t.fs.patrol.log.take k).map patrolBytes).flatten t with fs := { t.fs with patrol := { t.fs.patrol with log := t.fs.patrol.log.drop k, lost := 0 } } })) ∧
  (∀ (e : CmdEntry) (s : State), Served 0x0405 e s →
    let c := cmdOf 0x0405 e s
    let t := entered 0x0405 e s
    okFsChannelRetire c t →
    exec (.fsChannelRetire e) s = .next (accepted 0x0405 e s (.retire (c.u8 0) 0 (chanGranules t)) (startRetire (c.u8 0) t)))

/-- LEDGER_POOL_CREATE takes the lowest free pool number and the lowest run of buffer numbers, whose buffers are FREE (R170, R171); LEDGER_POOL_DELETE returns them, without what is held of them (R168, R170); LEDGER_OP applies one of its five operations under the token of its mailbox (R168, R173, R174); LEDGER_DESC_GET only reads (R179). The model's own choices behind it: log entries 4, 45, 61, 62, 122 and 216. -/
def Obligations.LedgerCommands : Prop :=
  (∀ (e : CmdEntry) (s : State) (p f : Nat), Served 0x0410 e s →
    let c := cmdOf 0x0410 e s
    let t := entered 0x0410 e s
    let q : Pool := { used := true, base := c.u64 0, size := c.u32 8, count := c.u16 12, ring := decide (c.u8 14 = 1), keep := c.u8 15, lines := c.u16 16, format := c.u16 18, stride := c.u32 20, first := f }
    okLedgerPoolCreate c t p f →
    exec (.ledgerPoolCreate e) s = .next (answered 0x0410 e s (leBytes 1 p ++ leBytes 1 0 ++ leBytes 2 f) { forUpTo (c.u16 12) (fun i s => modBuf (f + i) (fun _ => { freeSeq := t.ledger.seq + i }) s) { t with ledger := { t.ledger with pools := tabSet t.ledger.pools p q } } with ledger := { (forUpTo (c.u16 12) (fun i s => modBuf (f + i) (fun _ => { freeSeq := t.ledger.seq + i }) s) { t with ledger := { t.ledger with pools := tabSet t.ledger.pools p q } }).ledger with seq := t.ledger.seq + c.u16 12 } })) ∧
  (∀ (e : CmdEntry) (s : State), Served 0x0411 e s →
    let c := cmdOf 0x0411 e s
    let t := entered 0x0411 e s
    okLedgerPoolDelete c t →
    exec (.ledgerPoolDelete e) s = .next (answered 0x0411 e s [] { forEach (poolBufs (poolAt t (c.u8 0))) (fun b => modBuf b (fun _ => {})) t with ledger := { (forEach (poolBufs (poolAt t (c.u8 0))) (fun b => modBuf b (fun _ => {})) t).ledger with pools := tabSet t.ledger.pools (c.u8 0) {}, refs := t.ledger.refs.filter (fun r => !(poolBufs (poolAt t (c.u8 0))).contains r.buf) } })) ∧
  (∀ (e : CmdEntry) (s : State) (b : Nat), Served 0x0412 e s →
    let c := cmdOf 0x0412 e s
    let t := entered 0x0412 e s
    okLedgerOpAcquire c t b →
    exec (.ledgerOp e) s = .next (answered 0x0412 e s (leBytes 2 b) ((ledgerAcquire (c.u8 1) (agentToken t clsMailbox c.mb) t).2))) ∧
  (∀ (e : CmdEntry) (s : State) (p : Nat), Served 0x0412 e s →
    let c := cmdOf 0x0412 e s
    let t := entered 0x0412 e s
    okLedgerOpPublish c t p →
    exec (.ledgerOp e) s = .next (answered 0x0412 e s [] ((ledgerPublish (c.u16 2) (agentToken t clsMailbox c.mb) (c.u64 8) (c.un 16 6) (c.u32 24) (markLines (c.u16 2) (c.u16 4) (c.u16 6) t)).2))) ∧
  (∀ (e : CmdEntry) (s : State), Served 0x0412 e s →
    let c := cmdOf 0x0412 e s
    let t := entered 0x0412 e s
    okLedgerOpDiscard c t →
    exec (.ledgerOp e) s = .next (answered 0x0412 e s [] ((ledgerDiscard (c.u16 2) (agentToken t clsMailbox c.mb) t).2))) ∧
  (∀ (e : CmdEntry) (s : State), Served 0x0412 e s →
    let c := cmdOf 0x0412 e s
    let t := entered 0x0412 e s
    okLedgerOpTake c t →
    exec (.ledgerOp e) s = .next (answered 0x0412 e s [] (lowCheckOf (c.u16 2) { t with ledger := { t.ledger with refs := t.ledger.refs ++ [{ buf := c.u16 2, token := agentToken t clsMailbox c.mb }] } }))) ∧
  (∀ (e : CmdEntry) (s : State), Served 0x0412 e s →
    let c := cmdOf 0x0412 e s
    let t := entered 0x0412 e s
    okLedgerOpRelease c t →
    exec (.ledgerOp e) s = .next (answered 0x0412 e s [] (afterRelease (c.u16 2) { t with ledger := { t.ledger with refs := dropRef (c.u16 2) (agentToken t clsMailbox c.mb) t.ledger.refs } }))) ∧
  (∀ (e : CmdEntry) (s : State), Served 0x0413 e s →
    let c := cmdOf 0x0413 e s
    let t := entered 0x0413 e s
    okLedgerDescGet c t →
    exec (.ledgerDescGet e) s = .next (answered 0x0413 e s (descBytes t (c.u16 0)) t))

/-- INGEST_STREAM_SET enables a context with its settings on a pool that is neither tiled nor planar and waits for its next frame-start, or waits while the context that it disables is reset (R213, R230, R243); INGEST_STREAM_GET only reads (R213). The model's own choices behind it: log entries 4 and 30. -/
def Obligations.IngestCommands : Prop :=
  (∀ (e : CmdEntry) (s : State), Served 0x0501 e s →
    let c := cmdOf 0x0501 e s
    let t := entered 0x0501 e s
    okIngestStreamEnable c t →
    exec (.ingestStreamSet e) s = .next (waiting 0x0501 e s (.ingestStart (c.u8 0)) (updateLow (c.u8 0) (raiseIn (c.u8 0) 7 (modIn (c.u8 0) (fun x => { enabled := true, cfg := { mac := c.u8 2, pool := c.u8 3, lowMark := c.u16 4, latencyNs := c.u32 8, endTimeoutUs := c.u32 12 }, ctr := x.ctr, shadow := x.shadow }) t))))) ∧
  (∀ (e : CmdEntry) (s : State), Served 0x0501 e s →
    let c := cmdOf 0x0501 e s
    let t := entered 0x0501 e s
    okIngestStreamDisable c t →
    exec (.ingestStreamSet e) s = .next (waiting 0x0501 e s (.ingestReset (c.u8 0)) (raiseIn (c.u8 0) 7 (resetIngest (c.u8 0) t)))) ∧
  (∀ (e : CmdEntry) (s : State), Served 0x0501 e s →
    let c := cmdOf 0x0501 e s
    let t := entered 0x0501 e s
    okIngestStreamResetAgain c t →
    exec (.ingestStreamSet e) s = .next (waiting 0x0501 e s (.ingestReset (c.u8 0)) (resetIngest (c.u8 0) t))) ∧
  (∀ (e : CmdEntry) (s : State), Served 0x0502 e s →
    let c := cmdOf 0x0502 e s
    let t := entered 0x0502 e s
    let x := inAt t (c.u8 0)
    okIngestStreamGet c t →
    exec (.ingestStreamGet e) s = .next (answered 0x0502 e s (leBytes 1 (c.u8 0) ++ leBytes 1 (b2n x.enabled) ++ leBytes 1 x.cfg.mac ++ leBytes 1 x.cfg.pool ++ leBytes 2 x.cfg.lowMark ++ leBytes 2 0 ++ leBytes 4 x.cfg.latencyNs ++ leBytes 4 x.cfg.endTimeoutUs ++ leBytes 2 x.width) t))

/-- SYS_NOP echoes its payload with the timebase (R597); HEAD_CONFIG_REPORT writes the records that fit to host memory and says how many (R604); DIAG_CORE_INFO returns the pair's counts, those of its fetches being open (R57); FAULT_LOG_READ writes the oldest records and drops them (R547); FAULT_RECOVER waits for the synthesizer's recovery (R539); DIAG_FS_RAW moves a raw block, its check words and its unused bytes, between the store and host memory, and a line so written reads back so, and the reserved word poisons it (R142, R146); AVAIL_CLEAR waits for the end of the tick (R534). The model's own choices behind it: log entries 4, 12, 31, 58, 141, 154 and 157. -/
def Obligations.SystemCommands : Prop :=
  (∀ (e : CmdEntry) (s : State), Served 0x0101 e s →
    let c := cmdOf 0x0101 e s
    let t := entered 0x0101 e s
    okSysNop c t →
    exec (.sysNop e) s = .next (answered 0x0101 e s (c.bytes 0 16 ++ leBytes 6 (t.time.tb.now / secUnits) ++ leBytes 2 0 ++ leBytes 4 (t.time.tb.now % secUnits / nsUnits)) t)) ∧
  (∀ (e : CmdEntry) (s : State), Served 0x0606 e s →
    let c := cmdOf 0x0606 e s
    let t := entered 0x0606 e s
    let l := (headRecords t (c.u8 0) (decide (c.u8 1 = 1))).take (c.u32 4 / 32)
    okHeadConfigReport c t →
    exec (.headConfigReport e) s = .next (answered 0x0606 e s (leBytes 4 l.length) (hostPoke (c.u64 8) l.flatten t))) ∧
  (∀ (e : CmdEntry) (s : State), Served 0x0E03 e s →
    let t := entered 0x0E03 e s
    let u := coreFetches t
    exec (.diagCoreInfo e) s = .next (answered 0x0E03 e s (leBytes 8 u.ctl.fetches ++ leBytes 8 u.ctl.wrongPath ++ leBytes 4 t.ctl.mismatches ++ leBytes 4 t.ctl.restarts ++ leBytes 4 t.ctl.badCheckpoints) u)) ∧
  (∀ (e : CmdEntry) (s : State), Served 0x0E01 e s →
    let c := cmdOf 0x0E01 e s
    let t := entered 0x0E01 e s
    let k := min (c.u32 8 / 16) t.rel.log.length
    okFaultLogRead c t →
    exec (.faultLogRead e) s = .next (acceptedAndEnded 0x0E01 e s .ok 0 (leBytes 4 k ++ leBytes 4 t.rel.lost) { hostPoke (c.u64 0) ((t.rel.log.take k).map faultBytes).flatten t with rel := { t.rel with log := t.rel.log.drop k, lost := 0 } })) ∧
  (∀ (e : CmdEntry) (s : State), Served 0x0E02 e s →
    let c := cmdOf 0x0E02 e s
    let t := entered 0x0E02 e s
    okFaultRecover c t →
    exec (.faultRecover e) s = .next (waiting 0x0E02 e s (.faultRecover (c.u8 0)) (recoverSyn (c.u8 0) t))) ∧
  (∀ (e : CmdEntry) (s : State), Served 0x0E04 e s →
    let c := cmdOf 0x0E04 e s
    let t := entered 0x0E04 e s
    okDiagFsRawRead c t →
    exec (.diagFsRaw e) s = .next (answered 0x0E04 e s [] (hostPoke (c.u64 8) (rawBlock t (c.u8 0) (c.u32 4)) t))) ∧
  (∀ (e : CmdEntry) (s : State), Served 0x0E04 e s →
    let c := cmdOf 0x0E04 e s
    let t := entered 0x0E04 e s
    let d := (List.range 1024).map (fun i => tabGet t.host.mem (c.u64 8 + i))
    okDiagFsRawWrite c t →
    exec (.diagFsRaw e) s = .next (answered 0x0E04 e s [] (forUpTo 15 (fun i => rawStore (c.u8 0) (c.u32 4) i ((d.drop (64 * i)).take 64) (leNat ((d.drop (960 + 4 * i)).take 4))) { t with fs := { t.fs with spare := tabSet t.fs.spare (blockNo (c.u8 0) (c.u32 4)) (leNat ((d.drop 1020).take 4)) } }))) ∧
  (∀ (line chk : Nat) (d : List Byte) (s : State), 131072 ≤ line → d.length = 64 → chk < 2 ^ 32 →
    rawData (rawLine line d chk s) line = d ∧ checkWord (rawLine line d chk s) line = chk ∧
    (chk = Config.poisonWord % 2 ^ 32 → tabGet (rawLine line d chk s).fs.ecc line = { poison := true })) ∧
  (∀ (e : CmdEntry) (s : State), Served 0x0E05 e s →
    let c := cmdOf 0x0E05 e s
    let t := entered 0x0E05 e s
    okAvailClear c t →
    exec (.availClear e) s = .next (waiting 0x0E05 e s .availTick { t with rel := { t.rel with clearMask := Nat.lor t.rel.clearMask (c.u32 0) } }))

/-- FW_INFO only reads (R603); FW_UPDATE erases the first sector of its slot and goes on with the image it has read (R568); FW_CONFIRM writes the boot record and advances the counter where it is asked to (R565, R568); SEC_FUSE_PROGRAM blows a one-word item in its first step, and the key hash word by word (R546, R564). The model's own choices behind it: log entries 4, 22, 128, 129 and 130. -/
def Obligations.FirmwareCommands : Prop :=
  (∀ (e : CmdEntry) (s : State), Served 0x0F01 e s →
    let t := entered 0x0F01 e s
    let img := fun k => if slotVerify t k = 0 then imgHdr (slotImage t k) else {}
    let r := (recInForce t).1
    exec (.fwInfo e) s = .next (answered 0x0F01 e s (leBytes 4 t.boot.fwVersion ++ leBytes 1 t.boot.slot ++ leBytes 1 t.boot.svn ++ leBytes 1 t.boot.fuses.svnCtr ++ leBytes 1 (b2n t.boot.trial + 2 * b2n t.boot.fellBack + 4 * b2n t.boot.fuses.debugLock + 8 * b2n t.boot.fuses.keyHash1.isSome + 16 * t.boot.fuses.revoke) ++ leBytes 4 (img 0).fwVersion ++ leBytes 4 (img 1).fwVersion ++ leBytes 1 (img 0).svn ++ leBytes 1 (img 1).svn ++ leBytes 1 r.active ++ leBytes 1 r.trial ++ leBytes 1 r.tries ++ leBytes 1 0 ++ leBytes 1 3 ++ leBytes 1 2) t)) ∧
  (∀ (e : CmdEntry) (s : State), Served 0x0F02 e s →
    let c := cmdOf 0x0F02 e s
    let t := entered 0x0F02 e s
    okFwUpdate c t →
    exec (.fwUpdate e) s = .next (accepted 0x0F02 e s (.fwUpdate (c.u8 0) ((List.range (c.u32 4)).map (fun i => tabGet t.host.mem (c.u64 8 + i))) 0 1) (flashErase (slotBase (c.u8 0)) t))) ∧
  (∀ (e : CmdEntry) (s : State), Served 0x0F03 e s →
    let c := cmdOf 0x0F03 e s
    let t := entered 0x0F03 e s
    okFwConfirmDrop c t →
    exec (.fwConfirm e) s = .next (answered 0x0F03 e s [] (writeRec { (recInForce t).1 with trial := 255, tries := 0 } t))) ∧
  (∀ (e : CmdEntry) (s : State), Served 0x0F03 e s →
    let c := cmdOf 0x0F03 e s
    let t := entered 0x0F03 e s
    let u := writeRec { (recInForce t).1 with active := t.boot.slot, trial := 255, tries := 0 } t
    okFwConfirmKeep c t →
    exec (.fwConfirm e) s = .next (answered 0x0F03 e s [] { u with boot := { u.boot with fuses := { u.boot.fuses with svnCtr := max u.boot.fuses.svnCtr u.boot.svn } } })) ∧
  (∀ (e : CmdEntry) (s : State), Served 0x0F04 e s →
    let c := cmdOf 0x0F04 e s
    let t := entered 0x0F04 e s
    okSecFuseDebug c t →
    exec (.secFuseProgram e) s = .next (acceptedAndEnded 0x0F04 e s .ok 0 [] { t with boot := { t.boot with fuses := { t.boot.fuses with debugLock := true } } })) ∧
  (∀ (e : CmdEntry) (s : State), Served 0x0F04 e s →
    let c := cmdOf 0x0F04 e s
    let t := entered 0x0F04 e s
    okSecFuseRevoke c t →
    exec (.secFuseProgram e) s = .next (acceptedAndEnded 0x0F04 e s .ok 0 [] { t with boot := { t.boot with fuses := { t.boot.fuses with revoke := Nat.lor t.boot.fuses.revoke (2 ^ (c.u8 0 - 3)) } } })) ∧
  (∀ (e : CmdEntry) (s : State), Served 0x0F04 e s →
    let c := cmdOf 0x0F04 e s
    let t := entered 0x0F04 e s
    okSecFuseKey c t →
    exec (.secFuseProgram e) s = .next (accepted 0x0F04 e s (.fuse 2 ((List.range 12).map (fun i => c.u32 (4 + 4 * i))) 1) t))

/-- Each command of the layer shadows, with its operands in range and its layer not of an enabled 5200 window, writes its fields of the named layer's shadow and nothing else (R232, R239, R246, R249, R258, R270, R272, R282, R301, R319, R347). The model's own choices behind it: log entries 4, 29 and 71. -/
def Obligations.LayerCommands : Prop :=
  (∀ (e : CmdEntry) (s : State), Served 0x0611 e s →
    let c := cmdOf 0x0611 e s
    let t := entered 0x0611 e s
    okLayerSourceNone c t →
    exec (.layerSourceSet e) s = .next (answered 0x0611 e s [] (modLay (c.u8 0) (fun x => { x with shadow := { x.shadow with src := { kind := 0, opaq := bit (c.u8 2) 0, buffer := c.u16 4, pool := c.u8 6, cx := c.u16 8, cy := c.u16 10, cw := c.u16 12, ch := c.u16 14, orient := c.u8 16 } } }) t))) ∧
  (∀ (e : CmdEntry) (s : State) (p : Nat), Served 0x0611 e s →
    let c := cmdOf 0x0611 e s
    let t := entered 0x0611 e s
    okLayerSourceBuffer c t p →
    exec (.layerSourceSet e) s = .next (answered 0x0611 e s [] (modLay (c.u8 0) (fun x => { x with shadow := { x.shadow with src := srcOf c } }) t))) ∧
  (∀ (e : CmdEntry) (s : State), Served 0x0611 e s →
    let c := cmdOf 0x0611 e s
    let t := entered 0x0611 e s
    okLayerSourcePool c t →
    exec (.layerSourceSet e) s = .next (answered 0x0611 e s [] (modLay (c.u8 0) (fun x => { x with shadow := { x.shadow with src := srcOf c } }) t))) ∧
  (∀ (e : CmdEntry) (s : State), Served 0x0612 e s →
    let c := cmdOf 0x0612 e s
    let t := entered 0x0612 e s
    okLayerGeometrySet c t →
    exec (.layerGeometrySet e) s = .next (answered 0x0612 e s [] (modLay (c.u8 0) (fun x => { x with shadow := { x.shadow with geo := { dx := c.i16 2, dy := c.i16 4, dw := c.u16 6, dh := c.u16 8 } } }) t))) ∧
  (∀ (e : CmdEntry) (s : State), Served 0x0613 e s →
    let c := cmdOf 0x0613 e s
    let t := entered 0x0613 e s
    okLayerPaletteSet c t →
    exec (.layerPaletteSet e) s = .next (answered 0x0613 e s [] (modLay (c.u8 0) (fun x => { x with shadow := { x.shadow with palette := (List.range (c.u16 2)).foldl (fun p i => tabSet p (c.u8 1 + i) (c.u32 (4 + 4 * i))) x.shadow.palette } }) t))) ∧
  (∀ (e : CmdEntry) (s : State), Served 0x0614 e s →
    let c := cmdOf 0x0614 e s
    let t := entered 0x0614 e s
    okLayerEnvelopeOff c t →
    exec (.layerEnvelopeSet e) s = .next (answered 0x0614 e s [] (modLay (c.u8 0) (fun x => { x with shadow := { x.shadow with env := {} } }) t))) ∧
  (∀ (e : CmdEntry) (s : State), Served 0x0614 e s →
    let c := cmdOf 0x0614 e s
    let t := entered 0x0614 e s
    okLayerEnvelopeOn c t →
    exec (.layerEnvelopeSet e) s = .next (answered 0x0614 e s [] (modLay (c.u8 0) (fun x => { x with shadow := { x.shadow with env := { on := true, dxMin := c.i16 4, dxMax := c.i16 6, dyMin := c.i16 8, dyMax := c.i16 10, wMin := c.u16 12, wMax := c.u16 14, hMin := c.u16 16, hMax := c.u16 18 } } }) t))) ∧
  (∀ (e : CmdEntry) (s : State), Served 0x0616 e s →
    let c := cmdOf 0x0616 e s
    let t := entered 0x0616 e s
    okLayerBlendSet c t →
    exec (.layerBlendSet e) s = .next (answered 0x0616 e s [] (modLay (c.u8 0) (fun x => { x with shadow := { x.shadow with blend := { mode := c.u8 1, premult := bit (c.u8 2) 0, lw := c.u16 4 } } }) t))) ∧
  (∀ (e : CmdEntry) (s : State), Served 0x0604 e s →
    let c := cmdOf 0x0604 e s
    let t := entered 0x0604 e s
    okLayerCadenceSet c t →
    exec (.layerCadenceSet e) s = .next (answered 0x0604 e s [] (modLay (c.u8 0) (fun x => { x with shadow := { x.shadow with opened := bit (c.u8 1) 0, latency := c.u32 4 } }) t))) ∧
  (∀ (e : CmdEntry) (s : State), Served 0x0621 e s →
    let c := cmdOf 0x0621 e s
    let t := entered 0x0621 e s
    okLayerShedSet c t →
    exec (.layerShedSet e) s = .next (answered 0x0621 e s [] (modLay (c.u8 0) (fun x => { x with shadow := { x.shadow with tier := c.u8 1 } }) t))) ∧
  (∀ (e : CmdEntry) (s : State), Served 0x0708 e s →
    let c := cmdOf 0x0708 e s
    let t := entered 0x0708 e s
    okGraphicColourSet c t →
    exec (.graphicColourSet e) s = .next (answered 0x0708 e s [] (modLay (c.u8 0) (fun x => { x with shadow := { x.shadow with curve := decide (c.u8 1 = 1), gain := c.i32 4 } }) t))) ∧
  (∀ (e : CmdEntry) (s : State), Served 0x0702 e s →
    let c := cmdOf 0x0702 e s
    let t := entered 0x0702 e s
    okLayerScalerSet c t →
    exec (.layerScalerSet e) s = .next (answered 0x0702 e s [] (modLay (c.u8 0) (fun x => { x with shadow := { x.shadow with video := { x.shadow.video with hset := c.u8 1, vset := c.u8 2, predecH := bits (c.u8 3) 0 3, predecV := bits (c.u8 3) 3 2 } } }) t))) ∧
  (∀ (e : CmdEntry) (s : State), Served 0x0703 e s →
    let c := cmdOf 0x0703 e s
    let t := entered 0x0703 e s
    okLayerDecodeSet c t →
    exec (.layerDecodeSet e) s = .next (answered 0x0703 e s [] (modLay (c.u8 0) (fun x => { x with shadow := { x.shadow with video := { x.shadow.video with ycc := c.u8 1, chroma := c.u8 2, lin := decide (c.u8 3 = 1), rawBlack := c.u16 4, rawWhite := some (c.u16 6) } } }) t))) ∧
  (∀ (e : CmdEntry) (s : State), Served 0x0610 e s →
    let c := cmdOf 0x0610 e s
    let t := entered 0x0610 e s
    let l := c.u8 0
    let new : Option Nat := if c.u8 1 = 255 then none else some (c.u8 1)
    let s1 := match (layAt t l).sHead with
      | some o => modHd o (fun x => { x with shadow := { x.shadow with z := x.shadow.z.filter (fun y => decide (y ≠ l)) } }) t
      | none => t
    let s2 := match new with
      | some n => modHd n (fun x => { x with shadow := { x.shadow with z := x.shadow.z ++ [l] } }) s1
      | none => s1
    okLayerAssign c t →
    exec (.layerAssign e) s = .next (answered 0x0610 e s [] (if (layAt t l).sHead = new then t else modLay l (fun x => { x with sHead := new }) s2)))

/-- Each command of the head shadows, with its operands in range and no upper head of a locked pair named, writes its fields of the named head's shadow and nothing else (R291, R298, R305, R310, R318, R331, R358); CONTACT_SHEET_SET writes the tiles' geometry and reports it (R308); HEAD_FETCH_SET stores watermarks, which an enabled head takes at its next blanking (R253); MATRIX_SET, LUT_1D_BUILTIN write a matrix or a table of a layer or a head (R281, R284). The model's own choices behind it: log entries 4, 29, 72 and 89. -/
def Obligations.HeadCommands : Prop :=
  (∀ (e : CmdEntry) (s : State), Served 0x0601 e s →
    let c := cmdOf 0x0601 e s
    let t := entered 0x0601 e s
    okHeadTimingSet c t →
    exec (.headTimingSet e) s = .next (answered 0x0601 e s [] (modHd (c.u8 0) (fun x => { x with shadow := { x.shadow with timing := { hact := c.u16 2, hfp := c.u16 4, hsync := c.u16 6, hbp := c.u16 8, vact := c.u16 10, vfp := c.u16 12, vsync := c.u16 14, vbp := c.u16 16, hpol := bit (c.u8 1) 0, vpol := bit (c.u8 1) 1, align := bit (c.u8 1) 2, p := c.u16 18, q := c.u16 20, phase := c.i32 24 } } }) t))) ∧
  (∀ (e : CmdEntry) (s : State), Served 0x0603 e s →
    let c := cmdOf 0x0603 e s
    let t := entered 0x0603 e s
    okHeadWritebackSet c t →
    exec (.headWritebackSet e) s = .next (answered 0x0603 e s [] (modHd (c.u8 0) (fun x => { x with shadow := { x.shadow with wbMode := c.u8 1, wbPool := if c.u8 2 = 255 then none else some (c.u8 2) } }) t))) ∧
  (∀ (e : CmdEntry) (s : State), Served 0x0617 e s →
    let c := cmdOf 0x0617 e s
    let t := entered 0x0617 e s
    okHeadZorderSet c t →
    exec (.headZorderSet e) s = .next (answered 0x0617 e s [] (modHd (c.u8 0) (fun x => { x with shadow := { x.shadow with z := (List.range (c.u8 1)).map (fun i => c.u8 (4 + i)) } }) t))) ∧
  (∀ (e : CmdEntry) (s : State), Served 0x0618 e s →
    let c := cmdOf 0x0618 e s
    let t := entered 0x0618 e s
    okHeadBackgroundSet c t →
    exec (.headBackgroundSet e) s = .next (answered 0x0618 e s [] (modHd (c.u8 0) (fun x => { x with shadow := { x.shadow with bg := [c.i32 4, c.i32 8, c.i32 12] } }) t))) ∧
  (∀ (e : CmdEntry) (s : State), Served 0x0709 e s →
    let c := cmdOf 0x0709 e s
    let t := entered 0x0709 e s
    okHeadOutputSet c t →
    exec (.headOutputSet e) s = .next (answered 0x0709 e s [] (modHd (c.u8 0) (fun x => { x with shadow := { x.shadow with out := { neg := bit (c.u8 1) 0, lut3d := bit (c.u8 1) 1, bank := bits (c.u8 1) 2 1, full := bit (c.u8 1) 3, clip := bit (c.u8 1) 4, ycc := bits (c.u8 1) 5 1, form := c.u8 2, bits := c.u8 3, dither := c.u8 4, seed := c.un 8 3 } } }) t))) ∧
  (∀ (e : CmdEntry) (s : State), Served 0x0801 e s →
    let c := cmdOf 0x0801 e s
    let t := entered 0x0801 e s
    okSigRegionSet c t →
    exec (.sigRegionSet e) s = .next (answered 0x0801 e s [] (modHd (c.u8 0) (fun x => { x with shadow := { x.shadow with sigs := tabSet x.shadow.sigs (c.u8 1) { enable := bit (c.u8 2) 0, tally := bit (c.u8 2) 1, skipShed := bit (c.u8 2) 2, action := c.u8 3, x := c.u16 4, y := c.u16 6, w := c.u16 8, h := c.u16 10, limit := c.u8 12, recover := c.u8 13, valid := c.u8 14, expect := (List.range 4).map (fun i => c.u32 (16 + 4 * i)) } } }) t))) ∧
  (∀ (e : CmdEntry) (s : State), Served 0x0602 e s →
    let c := cmdOf 0x0602 e s
    let t := entered 0x0602 e s
    okHeadPairSet c t →
    exec (.headPairSet e) s = .next (answered 0x0602 e s [] (modHd (2 * c.u8 0) (fun x => { x with pair := decide (c.u8 1 = 1) }) t))) ∧
  (∀ (e : CmdEntry) (s : State), Served 0x0615 e s →
    let c := cmdOf 0x0615 e s
    let t := entered 0x0615 e s
    let stored := if c.u16 2 = 0 then (0, 0) else (c.u16 2, c.u16 4)
    okHeadFetchRunning c t →
    exec (.headFetchSet e) s = .next (waiting 0x0615 e s (.fetchMarks (c.u8 0)) (modHd (c.u8 0) (fun x => { x with res := { x.res with pendingMarks := some stored } }) t))) ∧
  (∀ (e : CmdEntry) (s : State), Served 0x0615 e s →
    let c := cmdOf 0x0615 e s
    let t := entered 0x0615 e s
    okHeadFetchStopped c t →
    exec (.headFetchSet e) s = .next (answered 0x0615 e s [] (modHd (c.u8 0) (fun x => { x with res := { x.res with storedMarks := some (if c.u16 2 = 0 then (0, 0) else (c.u16 2, c.u16 4)) } }) t))) ∧
  (∀ (e : CmdEntry) (s : State), Served 0x0619 e s →
    let c := cmdOf 0x0619 e s
    let t := entered 0x0619 e s
    let geo := fun k => tileGeometry (c.u16 4) (c.u16 6) ((c.u16 8 - (c.u8 1 - 1) * c.u16 12) / c.u8 1) ((c.u16 10 - (c.u8 2 - 1) * c.u16 12) / c.u8 2) (c.u16 12) (c.u8 1) (c.u8 14) k (layAt t (c.u8 (16 + k))).shadow.src
    okContactSheetSet c t →
    exec (.contactSheetSet e) s = .next (answered 0x0619 e s ((List.range 6).flatMap (fun k => if k < c.u8 3 ∧ c.u8 (16 + k) ≠ 255 then leBytes 2 (unsignedOf 16 (geo k).dx) ++ leBytes 2 (unsignedOf 16 (geo k).dy) ++ leBytes 2 (unsignedOf 16 (geo k).dw) ++ leBytes 2 (unsignedOf 16 (geo k).dh) else List.replicate 8 0)) (forEach ((List.range (c.u8 3)).filter (fun k => decide (c.u8 (16 + k) ≠ 255))) (fun k u => modLay (c.u8 (16 + k)) (fun x => { x with shadow := { x.shadow with geo := geo k } }) u) t))) ∧
  (∀ (e : CmdEntry) (s : State), Served 0x0704 e s →
    let c := cmdOf 0x0704 e s
    let t := entered 0x0704 e s
    okMatrixSetLayer c t →
    exec (.matrixSet e) s = .next (answered 0x0704 e s [] (modLay (c.u8 1) (fun x => { x with shadow := { x.shadow with matrix := { m := (List.range 9).map (fun k => c.i32 (4 + 4 * k)), off := (List.range 3).map (fun r => c.i32 (40 + 4 * r)) } } }) t))) ∧
  (∀ (e : CmdEntry) (s : State), Served 0x0704 e s →
    let c := cmdOf 0x0704 e s
    let t := entered 0x0704 e s
    okMatrixSetHead c t →
    exec (.matrixSet e) s = .next (answered 0x0704 e s [] (modHd (c.u8 1) (fun x => { x with shadow := { x.shadow with matrix := { m := (List.range 9).map (fun k => c.i32 (4 + 4 * k)), off := (List.range 3).map (fun r => c.i32 (40 + 4 * r)) } } }) t))) ∧
  (∀ (e : CmdEntry) (s : State), Served 0x0706 e s →
    let c := cmdOf 0x0706 e s
    let t := entered 0x0706 e s
    okLut1dBuiltinLayer c t →
    exec (.lut1dBuiltin e) s = .next (answered 0x0706 e s [] (modLay (c.u8 1) (fun x => { x with shadow := { x.shadow with lin := .builtin (c.u8 2) (if c.u8 2 = 1 ∧ c.u16 4 ≠ 0 then c.u16 4 else 203) } }) t))) ∧
  (∀ (e : CmdEntry) (s : State), Served 0x0706 e s →
    let c := cmdOf 0x0706 e s
    let t := entered 0x0706 e s
    okLut1dBuiltinHead c t →
    exec (.lut1dBuiltin e) s = .next (answered 0x0706 e s [] (modHd (c.u8 1) (fun x => { x with shadow := { x.shadow with enc := .builtin (c.u8 2) (if c.u8 2 = 1 ∧ c.u16 4 ≠ 0 then c.u16 4 else 203) } }) t)))

/-- SCALER_COEF_LOAD, LUT_1D_LOAD and LUT_3D_LOAD read their table from a PUBLISHED buffer and load it (R276, R282, R284, R287, R288); LUT_1D_READ writes a table to host memory (R280); LUT_3D_ASSIGN gives a unit to a head under the governor's leave, or releases it (R285). The model's own choices behind it: log entries 4, 69 and 70. -/
def Obligations.TableCommands : Prop :=
  (∀ (e : CmdEntry) (s : State) (l : List Byte), Served 0x0701 e s →
    let c := cmdOf 0x0701 e s
    let t := entered 0x0701 e s
    okScalerCoefLoad c t l →
    exec (.scalerCoefLoad e) s = .next (answered 0x0701 e s [] { (tableBytes (c.u16 4) (c.u32 8) 1792 t).2 with pic := { (tableBytes (c.u16 4) (c.u32 8) 1792 t).2.pic with coefs := tabSet (tableBytes (c.u16 4) (c.u32 8) 1792 t).2.pic.coefs (c.u8 0) { loaded := true, taps := words16 l } } })) ∧
  (∀ (e : CmdEntry) (s : State) (l : List Byte), Served 0x0705 e s →
    let c := cmdOf 0x0705 e s
    let t := entered 0x0705 e s
    okLut1dLoad c t l →
    exec (.lut1dLoad e) s = .next (answered 0x0705 e s [] (setLut1d (c.u8 0) (c.u8 1) (.loaded (words32 l)) (tableBytes (c.u16 2) (c.u32 4) (4 * (if c.u8 0 = 2 then 256 else 4096)) t).2))) ∧
  (∀ (e : CmdEntry) (s : State), Served 0x0707 e s →
    let c := cmdOf 0x0707 e s
    let t := entered 0x0707 e s
    okLut1dRead c t →
    exec (.lut1dRead e) s = .next (answered 0x0707 e s [] (hostPoke (c.u64 4) ((lutEntries (c.u8 0) (getLut1d (c.u8 0) (c.u8 1) (decide (c.u8 2 = 1)) t)).flatMap (fun v => leBytes 4 (unsignedOf 32 v))) t))) ∧
  (∀ (e : CmdEntry) (s : State), Served 0x070A e s →
    let c := cmdOf 0x070A e s
    let t := entered 0x070A e s
    okLut3dRelease c t →
    exec (.lut3dAssign e) s = .next (answered 0x070A e s [] (queueOff (23 + c.u8 0) (modLut (c.u8 0) (fun x => { swaps := x.swaps }) t)))) ∧
  (∀ (e : CmdEntry) (s : State), Served 0x070A e s →
    let c := cmdOf 0x070A e s
    let t := entered 0x070A e s
    okLut3dAssign c t →
    exec (.lut3dAssign e) s = .next (waiting 0x070A e s (.grant (23 + c.u8 0)) (modLut (c.u8 0) (fun y => { mode := c.u8 2 + 1, head := c.u8 1, swaps := y.swaps }) (givePower { doms := [(23 + c.u8 0, 600, 800)] } t)))) ∧
  (∀ (e : CmdEntry) (s : State), Served 0x070B e s →
    let c := cmdOf 0x070B e s
    let t := entered 0x070B e s
    let r := stepLut3d (c.u8 0) 0 (c.u16 2) (c.u32 4) 274625 0 (modLut (c.u8 0) (fun x => { x with bank0 := [], valid0 := false, loading := some 0 }) (takeRef false (c.u16 2) (fwToken t) t).2)
    okLut3dLoad c t →
    exec (.lut3dLoad e) s = .next (if r.2.1 then acceptedAndEnded 0x070B e s .internal 0x80000001 [] r.2.2 else accepted 0x070B e s (.lut3d (c.u8 0) 0 (c.u16 2) (c.u32 4) 274625 5445) r.2.2))

/-- ADMISSION_RESERVE_SET stores reservations that fit and reports the load (R345, R346); SHED_PLAN_SET and SHED_POLICY_SET store the plan and the policy (R347, R354); ADMISSION_REPORT only reads (R345). The model's own choices behind it: log entries 4, 20 and 82. -/
def Obligations.AdmissionCommands : Prop :=
  (∀ (e : CmdEntry) (s : State), Served 0x0620 e s →
    let c := cmdOf 0x0620 e s
    let t := entered 0x0620 e s
    let n := c.u32 0 + c.u32 4 + c.u32 8 + c.u32 12
    okAdmissionReserveSet c t →
    exec (.admissionReserveSet e) s = .next (answered 0x0620 e s (admResult t (admLoad t - reservations t + n) n (committedDemand t)) { t with pic := { t.pic with shed := { t.pic.shed with resIngest := c.u32 0, resRecord := c.u32 4, resStream := c.u32 8, resBe := c.u32 12, evalDue := true } } })) ∧
  (∀ (e : CmdEntry) (s : State), Served 0x0622 e s →
    let c := cmdOf 0x0622 e s
    let t := entered 0x0622 e s
    okShedPlanSet c t →
    exec (.shedPlanSet e) s = .next (answered 0x0622 e s [] { t with pic := { t.pic with shed := { t.pic.shed with plan := (List.range (c.u8 0)).map (fun i => { kind := c.u8 (8 + 8 * i), unit := c.u8 (9 + 8 * i), tier := c.u8 (10 + 8 * i), saving := c.u32 (12 + 8 * i) }), next := 0 } } })) ∧
  (∀ (e : CmdEntry) (s : State), Served 0x0623 e s →
    let c := cmdOf 0x0623 e s
    let t := entered 0x0623 e s
    okShedPolicySet c t →
    exec (.shedPolicySet e) s = .next (answered 0x0623 e s [] { t with pic := { t.pic with shed := { t.pic.shed with margin := c.u32 0, holdMs := c.u16 4 } } })) ∧
  (∀ (e : CmdEntry) (s : State), Served 0x0624 e s →
    let t := entered 0x0624 e s
    exec (.admissionReport e) s = .next (answered 0x0624 e s (admResult t (admLoad t) (reservations t) (committedDemand t)) t))

/-- CFG_COMMIT waits while sixteen commits or an earlier one on its heads are armed; else, once every check of R324, the references and admission pass, it is armed and waits to land (R323 to R325). COMPAT5200_SET enables the window with its registers cleared and its pending commits gone, or closes it (R569). The model's own choices behind it: log entries 4, 68, 80, 81 and 83. -/
def Obligations.CommitCommands : Prop :=
  (∀ (e : CmdEntry) (s : State), Served 0x0605 e s →
    let c := cmdOf 0x0605 e s
    let t := entered 0x0605 e s
    okCfgCommitWaits c t →
    exec (.cfgCommit e) s = .next (waiting 0x0605 e s .commitArm t)) ∧
  (∀ (e : CmdEntry) (s : State), Served 0x0605 e s →
    let c := cmdOf 0x0605 e s
    let t := entered 0x0605 e s
    let p := armCommit { commitArgs c with en := [] } (commitRefs c t) (takeRefs (commitRefs c t) t).2
    okCfgCommitArms c t →
    exec (.cfgCommit e) s = .next (waiting 0x0605 e s (.commit p.1) (powerHeads p.2))) ∧
  (∀ (e : CmdEntry) (s : State), Served 0x0630 e s →
    let c := cmdOf 0x0630 e s
    let t := entered 0x0630 e s
    okCompatEnable c t →
    exec (.compat5200Set e) s = .next (answered 0x0630 e s [] { winDiscard 1 (winDiscard 0 t) with pic := { (winDiscard 1 (winDiscard 0 t)).pic with win := { enabled := true } } })) ∧
  (∀ (e : CmdEntry) (s : State), Served 0x0630 e s →
    let c := cmdOf 0x0630 e s
    let t := entered 0x0630 e s
    okCompatDisable c t →
    exec (.compat5200Set e) s = .next (answered 0x0630 e s [] { t with pic := { t.pic with win := {} } }))

/-- SDI_LANE_SET that disables a lane of a disabled head applies at once, one that enables asks the governor and waits for its head, and SDI_ANC_RING_SET writes a ring (R374, R375, R377, R385, R511); PANEL_PORT_SET on a running head waits for its blanking (R375, R393), and PANEL_DCS_SEND stores a list or sends its first packet (R394). The model's own choices behind it: log entries 4, 87, 89, 157, 175 and 198. -/
def Obligations.FormatterCommands : Prop :=
  (∀ (e : CmdEntry) (s : State), Served 0x0901 e s →
    let c := cmdOf 0x0901 e s
    let t := entered 0x0901 e s
    okSdiLaneOff c t →
    exec (.sdiLaneSet e) s = .next (answered 0x0901 e s [] (sdiApply (c.u8 0) (modSdi (c.u8 0) (fun x => { x with pending := some (laneSetOf c), pendLabel := frameLabel t (laneSetOf c) }) t)))) ∧
  (∀ (e : CmdEntry) (s : State), Served 0x0901 e s →
    let c := cmdOf 0x0901 e s
    let t := entered 0x0901 e s
    okSdiLaneOn c t →
    exec (.sdiLaneSet e) s = .next (waiting 0x0901 e s (.sdiLane (c.u8 0)) (modSdi (c.u8 0) (fun x => { x with pending := some (laneSetOf c), pendLabel := frameLabel t (laneSetOf c) }) (givePower { doms := [(28, 200, 200)], adds := [(28, 175, 0)] } t)))) ∧
  (∀ (e : CmdEntry) (s : State), Served 0x0902 e s →
    let c := cmdOf 0x0902 e s
    let t := entered 0x0902 e s
    okSdiAncRingOff c t →
    exec (.sdiAncRingSet e) s = .next (answered 0x0902 e s [] (modSdi (c.u8 0) (fun x => { x with ringCount := 0, slotBytes := c.u32 4, ringFsa := c.u64 8, prod := 0, cons := 0, anc := [] }) t))) ∧
  (∀ (e : CmdEntry) (s : State), Served 0x0902 e s →
    let c := cmdOf 0x0902 e s
    let t := entered 0x0902 e s
    okSdiAncRingOn c t →
    exec (.sdiAncRingSet e) s = .next (answered 0x0902 e s [] (modSdi (c.u8 0) (fun x => { x with ringCount := c.u8 1, slotBytes := c.u32 4, ringFsa := c.u64 8, prod := 0, cons := 0, anc := [] }) t))) ∧
  (∀ (e : CmdEntry) (s : State), Served 0x0903 e s →
    let c := cmdOf 0x0903 e s
    let t := entered 0x0903 e s
    okPanelOff c t →
    exec (.panelPortSet e) s = .next (answered 0x0903 e s [] (panelApply (c.u8 0) (modPanel (c.u8 0) (fun x => { x with pending := some (0, panelCfgOf c) }) t)))) ∧
  (∀ (e : CmdEntry) (s : State), Served 0x0903 e s →
    let c := cmdOf 0x0903 e s
    let t := entered 0x0903 e s
    okPanelVideo c t →
    exec (.panelPortSet e) s = .next (waiting 0x0903 e s (.panel (c.u8 0)) (modPanel (c.u8 0) (fun x => { x with pending := some (2, panelCfgOf c) }) t))) ∧
  (∀ (e : CmdEntry) (s : State) (l : List DcsPacket), Served 0x0904 e s →
    let c := cmdOf 0x0904 e s
    let t := entered 0x0904 e s
    okPanelDcsStore c t l →
    exec (.panelDcsSend e) s = .next (acceptedAndEnded 0x0904 e s .ok 0 [] (modPanel (c.u8 0) (fun x => { x with list := l }) t))) ∧
  (∀ (e : CmdEntry) (s : State) (l : List DcsPacket), Served 0x0904 e s →
    let c := cmdOf 0x0904 e s
    let t := entered 0x0904 e s
    okPanelDcsSend c t l →
    exec (.panelDcsSend e) s = .next (accepted 0x0904 e s (.dcs (c.u8 0) (c.u16 2) 1) (modPanel (c.u8 0) (fun x => { x with sent := [(false, dcsBytes (l.getD 0 {}))], dcs := (x.dcs + 1) % 2 ^ 32, due := runTime t + (l.getD 0 {}).delay * 1000000 * nsUnits }) t)))

/-- MAC_CONFIG with its group free and the governor's leave assigns the lanes and waits for the quads, and one that disables an idle port releases them (R181 to R183); MAC_SPARE_SET assigns a spare lane (R191); MAC_TXQ_SET, MAC_RULE_SET and MAC_FILTER_SET write their settings (R196, R205, R208); MAC_STATS_GET only reads (R210); MAC_SLEEP puts an idle port to sleep (R211). The model's own choices behind it: log entries 4 and 63. -/
def Obligations.MacCommands : Prop :=
  (∀ (e : CmdEntry) (s : State), Served 0x0B01 e s →
    let c := cmdOf 0x0B01 e s
    let t := entered 0x0B01 e s
    okMacConfigOff c t →
    exec (.macConfig e) s = .next (answered 0x0B01 e s [] (releaseLanes (c.u8 0) t))) ∧
  (∀ (e : CmdEntry) (s : State), Served 0x0B01 e s →
    let c := cmdOf 0x0B01 e s
    let t := entered 0x0B01 e s
    okMacConfigNone c t →
    exec (.macConfig e) s = .next (answered 0x0B01 e s [] t)) ∧
  (∀ (e : CmdEntry) (s : State) (d : Nat), Served 0x0B01 e s →
    let c := cmdOf 0x0B01 e s
    let t := entered 0x0B01 e s
    okMacConfigOn c t d →
    exec (.macConfig e) s = .next (waiting 0x0B01 e s (.grant d) (modMac (c.u8 0) (fun x => { x with enabled := true, cfg := macCfgOf c, lk := { retries := x.lk.retries, downs := x.lk.downs, markerSeq := x.lk.markerSeq, scr := x.lk.scr }, tx := { queues := x.tx.queues, underQueue := x.tx.underQueue, underBytes := x.tx.underBytes, underValid := x.tx.underValid, freeAt := x.tx.freeAt, alarmed := x.tx.alarmed }, sleep := false, woke := false, starting := true, rules := [], filter := [] }) (forEach (List.range (c.u8 5)) (fun i u => modLane (c.u8 4 + i) (fun l => { l with use := 1, mac := c.u8 0, baud := modeBaud (c.u8 2) (c.u8 5), txLogical := i }) u) (givePower (quadGrant (quadsOf (groupLanes (c.u8 4) (c.u8 5))) (modeBaud (c.u8 2) (c.u8 5))) t))))) ∧
  (∀ (e : CmdEntry) (s : State), Served 0x0B01 e s →
    let c := cmdOf 0x0B01 e s
    let t := entered 0x0B01 e s
    okMacConfigNow c t →
    exec (.macConfig e) s = .next (answered 0x0B01 e s [] (startLink (c.u8 0) (modMac (c.u8 0) (fun x => { x with enabled := true, cfg := macCfgOf c, lk := { retries := x.lk.retries, downs := x.lk.downs, markerSeq := x.lk.markerSeq, scr := x.lk.scr }, tx := { queues := x.tx.queues, underQueue := x.tx.underQueue, underBytes := x.tx.underBytes, underValid := x.tx.underValid, freeAt := x.tx.freeAt, alarmed := x.tx.alarmed }, sleep := false, woke := false, starting := true, rules := [], filter := [] }) (forEach (List.range (c.u8 5)) (fun i u => modLane (c.u8 4 + i) (fun l => { l with use := 1, mac := c.u8 0, baud := modeBaud (c.u8 2) (c.u8 5), txLogical := i }) u) (givePower (quadGrant (quadsOf (groupLanes (c.u8 4) (c.u8 5))) (modeBaud (c.u8 2) (c.u8 5))) t)))))) ∧
  (∀ (e : CmdEntry) (s : State), Served 0x0B02 e s →
    let c := cmdOf 0x0B02 e s
    let t := entered 0x0B02 e s
    okMacSpareSet c t →
    exec (.macSpareSet e) s = .next (answered 0x0B02 e s [] (modMac (c.u8 0) (fun x => { x with lk := { x.lk with spares := tabSet x.lk.spares (c.u8 2) { valid := true, lane := c.u8 3 } } }) (modLane (c.u8 3) (fun l => { l with use := 2, mac := c.u8 0, baud := 3 }) (givePower (spareGrant c t) t))))) ∧
  (∀ (e : CmdEntry) (s : State), Served 0x0B02 e s →
    let c := cmdOf 0x0B02 e s
    let t := entered 0x0B02 e s
    let n := (tabGet (macAt t (c.u8 0)).lk.spares (c.u8 2)).lane
    okMacSpareFree c t →
    exec (.macSpareSet e) s = .next (answered 0x0B02 e s [] (dropQuads [n / 4] (modMac (c.u8 0) (fun x => { x with lk := { x.lk with spares := tabSet x.lk.spares (c.u8 2) {} } }) (modLane n (fun l => { ({} : Lane) with signal := l.signal, cdr := l.cdr }) t))))) ∧
  (∀ (e : CmdEntry) (s : State), Served 0x0B03 e s →
    let c := cmdOf 0x0B03 e s
    let t := entered 0x0B03 e s
    okMacTxqSet c t →
    exec (.macTxqSet e) s = .next (answered 0x0B03 e s [] (modMac (c.u8 0) (fun x => { x with tx := { x.tx with queues := tabSet x.tx.queues (c.u8 1) { base := c.u16 2, thr := c.u16 2, clean := 0 } } }) t))) ∧
  (∀ (e : CmdEntry) (s : State), Served 0x0B04 e s →
    let c := cmdOf 0x0B04 e s
    let t := entered 0x0B04 e s
    okMacRuleSet c t →
    exec (.macRuleSet e) s = .next (answered 0x0B04 e s (leBytes 4 0) (modMac (c.u8 0) (fun x => { x with rules := tabSet x.rules (c.u8 1) { queue := c.u8 2, vlanMode := c.u8 3, tci := c.u16 4, tciMask := c.u16 6, etype := c.u16 8, etypeMask := c.u16 10, dscp := c.u8 12, dscpMask := c.u8 13, l4 := c.u8 14 } }) t))) ∧
  (∀ (e : CmdEntry) (s : State), Served 0x0B05 e s →
    let c := cmdOf 0x0B05 e s
    let t := entered 0x0B05 e s
    okMacFilterSet c t →
    exec (.macFilterSet e) s = .next (answered 0x0B05 e s [] (modMac (c.u8 0) (fun x => { x with filter := (List.range 4).map (fun i => (i, { valid := bit (c.u8 1) i, addr := c.bytes (8 + 6 * i) 6 })) }) t))) ∧
  (∀ (e : CmdEntry) (s : State), Served 0x0B06 e s →
    let c := cmdOf 0x0B06 e s
    let t := entered 0x0B06 e s
    okMacStatsGet c t →
    exec (.macStatsGet e) s = .next (answered 0x0B06 e s (((List.range 8).map (fun i => leBytes 6 (macLive t (macAt t (c.u8 0)) (c.u8 1 + i)))).flatten) t)) ∧
  (∀ (e : CmdEntry) (s : State), Served 0x0B07 e s →
    let c := cmdOf 0x0B07 e s
    let t := entered 0x0B07 e s
    okMacSleepNow c t →
    exec (.macSleep e) s = .next (answered 0x0B07 e s [] (macToSleep (c.u8 0) (c.u8 2) t))) ∧
  (∀ (e : CmdEntry) (s : State) (d : Nat), Served 0x0B07 e s →
    let c := cmdOf 0x0B07 e s
    let t := entered 0x0B07 e s
    okMacWake c t d →
    exec (.macSleep e) s = .next (waiting 0x0B07 e s (.grant d) (modMac (c.u8 0) (fun x => { x with sleep := false, starting := true }) (givePower (macGrant t (c.u8 0)) t)))) ∧
  (∀ (e : CmdEntry) (s : State), Served 0x0B07 e s →
    let c := cmdOf 0x0B07 e s
    let t := entered 0x0B07 e s
    okMacWakeNow c t →
    exec (.macSleep e) s = .next (answered 0x0B07 e s [] (startLink (c.u8 0) (modMac (c.u8 0) (fun x => { x with sleep := false, starting := true }) (givePower (macGrant t (c.u8 0)) t)))))

/-- MAG_SLOT_SET takes a slot into SEARCH or OFF (R397, R402); MAG_INDEX_READ writes the newest records to host memory (R405); MAG_FORMAT and MAG_EJECT ask the magazine and make the slot BUSY (R404); REC_CHANNEL_SET stores a channel's settings (R410); REC_KEY_SET takes both keys (R413); REC_START_AT opens the copies and waits (R414); REC_STOP_AT arms the stop slot (R415). The model's own choices behind it: log entries 4, 54, 94, 99 and 175. -/
def Obligations.MagazineCommands : Prop :=
  (∀ (e : CmdEntry) (s : State), Served 0x0A01 e s →
    let c := cmdOf 0x0A01 e s
    let t := entered 0x0A01 e s
    okMagSlotOn c t →
    exec (.magSlotSet e) s = .next (answered 0x0A01 e s [] (modMag (c.u8 0) (fun x => { x with state := .search, mac := c.u8 2, noPartner := false, reqs := [], held := [], src := none, noticeSeq := none, lastHello := runTime t }) t))) ∧
  (∀ (e : CmdEntry) (s : State), Served 0x0A01 e s →
    let c := cmdOf 0x0A01 e s
    let t := entered 0x0A01 e s
    okMagSlotOff c t →
    exec (.magSlotSet e) s = .next (answered 0x0A01 e s [] (modMag (c.u8 0) (fun x => { x with state := .off, mac := 0, noPartner := false, reqs := [], held := [], src := none, noticeSeq := none }) t))) ∧
  (∀ (e : CmdEntry) (s : State), Served 0x0A02 e s →
    let c := cmdOf 0x0A02 e s
    let t := entered 0x0A02 e s
    let l := (magAt t (c.u8 0)).index.reverse.take (c.u32 4 / 32)
    okMagIndexRead c t →
    exec (.magIndexRead e) s = .next (acceptedAndEnded 0x0A02 e s .ok 0 (leBytes 4 l.length) (hostPoke (c.u64 8) l.flatten t))) ∧
  (∀ (e : CmdEntry) (s : State), Served 0x0A03 e s →
    let c := cmdOf 0x0A03 e s
    let t := entered 0x0A03 e s
    okMagFormat c t →
    exec (.magFormat e) s = .next (accepted 0x0A03 e s (.magFormat (c.u8 0) 0) (kmpRequest (c.u8 0) 0x40 0 [] (modMag (c.u8 0) (fun x => { x with state := .busy }) t)))) ∧
  (∀ (e : CmdEntry) (s : State), Served 0x0A04 e s →
    let c := cmdOf 0x0A04 e s
    let t := entered 0x0A04 e s
    okMagEject c t →
    exec (.magEject e) s = .next (waiting 0x0A04 e s (.eject (c.u8 0)) (kmpRequest (c.u8 0) 0x42 0 [] (modMag (c.u8 0) (fun x => { x with state := .busy }) t)))) ∧
  (∀ (e : CmdEntry) (s : State), Served 0x0A10 e s →
    let c := cmdOf 0x0A10 e s
    let t := entered 0x0A10 e s
    okRecChannelOn c t →
    exec (.recChannelSet e) s = .next (answered 0x0A10 e s [] (modRec (c.u8 0) (fun x => { x with enabled := true, cfg := { targets := c.u8 2, span := bit (c.u8 3) 0, encrypt := bit (c.u8 3) 1, match1 := bit (c.u8 3) 2, stopbath := bit (c.u8 3) 3, pool := c.u8 4, lagMax := if c.u8 5 = 0 then 8 else c.u8 5, holdMs := if c.u8 6 = 0 then 5 else c.u8 6, preroll := c.u16 8, rate := c.u32 12 } }) t))) ∧
  (∀ (e : CmdEntry) (s : State), Served 0x0A10 e s →
    let c := cmdOf 0x0A10 e s
    let t := entered 0x0A10 e s
    okRecChannelOff c t →
    exec (.recChannelSet e) s = .next (waiting 0x0A10 e s (.recReset (c.u8 0)) (resetRec (c.u8 0) t))) ∧
  (∀ (e : CmdEntry) (s : State), Served 0x0A12 e s →
    let c := cmdOf 0x0A12 e s
    let t := entered 0x0A12 e s
    okRecStartAt c t →
    exec (.recStartAt e) s = .next (waiting 0x0A12 e s (.recOpen (c.u8 0)) (forEach (recTargets (recAt t (c.u8 0))) (fun i => openCopy (c.u8 0) i 0 0) (modRec (c.u8 0) (fun x => { x with trigger := some { kind := 1, frame := c.u64 8 }, activity := 0, start := none, stop := none }) t)))) ∧
  (∀ (e : CmdEntry) (s : State), Served 0x0A13 e s →
    let c := cmdOf 0x0A13 e s
    let t := entered 0x0A13 e s
    okRecStopAt c t →
    exec (.recStopAt e) s = .next (answered 0x0A13 e s (leBytes 8 (c.u64 8)) (armSlot (recSlot (c.u8 0) true) 10 0 (c.u64 8) 0 (c.u8 0) (modRec (c.u8 0) (fun x => { x with stop := some (c.u64 8), stopAt := none, stopDue := none, stopAfterOne := false, ended := false }) t))))

/-- STREAM_PORT_SET, STREAM_RX_FLOW_SET and STREAM_DEPACK_SET write their settings, the last waiting for a running depacketizer's reset (R430, R449, R453, R455); STREAM_SUB_CTRL starts and stops a subscriber (R444); STREAM_STATS_READ writes records to host memory (R450). The model's own choices behind it: log entries 4, 103, 104 and 175. -/
def Obligations.StreamCommands : Prop :=
  (∀ (e : CmdEntry) (s : State), Served 0x0B11 e s →
    let c := cmdOf 0x0B11 e s
    let t := entered 0x0B11 e s
    okStreamPortSet c t →
    exec (.streamPortSet e) s = .next (answered 0x0B11 e s [] (modPort (c.u8 0) (fun p => { p with srcMac := c.bytes 2 6, age := (List.range 8).foldl (fun a i => tabSet a i (c.u16 (8 + 2 * i))) p.age }) t))) ∧
  (∀ (e : CmdEntry) (s : State), Served 0x0B12 e s →
    let c := cmdOf 0x0B12 e s
    let t := entered 0x0B12 e s
    okSubCtrlAlready c t →
    exec (.streamSubCtrl e) s = .next (answered 0x0B12 e s [] t)) ∧
  (∀ (e : CmdEntry) (s : State), Served 0x0B12 e s →
    let c := cmdOf 0x0B12 e s
    let t := entered 0x0B12 e s
    okSubCtrlStart c t →
    exec (.streamSubCtrl e) s = .next (answered 0x0B12 e s [] (raise 672 (modSub (c.u16 0) (fun x => { x with started := true }) t)))) ∧
  (∀ (e : CmdEntry) (s : State), Served 0x0B13 e s →
    let c := cmdOf 0x0B13 e s
    let t := entered 0x0B13 e s
    okRxFlowOn c t →
    exec (.streamRxFlowSet e) s = .next (answered 0x0B13 e s [] (modFlow (c.u16 0) (fun x => { enabled := true, since := runTime t, cfg := flowCfgOf c, bucketA := { level := c.u16 32 * secUnits, at_ := runTime t }, bucketB := { level := c.u16 32 * secUnits, at_ := runTime t }, ctr := x.ctr, shadow := x.shadow }) t))) ∧
  (∀ (e : CmdEntry) (s : State), Served 0x0B13 e s →
    let c := cmdOf 0x0B13 e s
    let t := entered 0x0B13 e s
    okRxFlowOff c t →
    exec (.streamRxFlowSet e) s = .next (answered 0x0B13 e s [] (modFlow (c.u16 0) (fun x => { ctr := x.ctr, shadow := x.shadow }) t))) ∧
  (∀ (e : CmdEntry) (s : State), Served 0x0B14 e s →
    let c := cmdOf 0x0B14 e s
    let t := entered 0x0B14 e s
    okDepackOn c t →
    exec (.streamDepackSet e) s = .next (waiting 0x0B14 e s (.depack (c.u8 0)) (modDp (c.u8 0) (fun x => { enabled := true, pool := c.u8 2, sampling := c.u8 3, width := c.u16 4, endTimeoutUs := c.u32 8, ctr := x.ctr, shadow := x.shadow }) t))) ∧
  (∀ (e : CmdEntry) (s : State), Served 0x0B14 e s →
    let c := cmdOf 0x0B14 e s
    let t := entered 0x0B14 e s
    okDepackOff c t →
    exec (.streamDepackSet e) s = .next (waiting 0x0B14 e s (.depackReset (c.u8 0)) (resetDepack (c.u8 0) t))) ∧
  (∀ (e : CmdEntry) (s : State), Served 0x0B15 e s →
    let c := cmdOf 0x0B15 e s
    let t := entered 0x0B15 e s
    okStreamStatsRead c t →
    exec (.streamStatsRead e) s = .next (acceptedAndEnded 0x0B15 e s .ok 0 [] (hostPoke (c.u64 8) (statsBytes t (decide (c.u8 0 = 1)) (decide (c.u8 1 = 1)) (c.u16 2) (c.u16 4)) t)))

/-- PTP_PORT_SET starts PTP on a network port that steers it to the firmware, with a state of LISTENING or the leader's (R456, R458, R462); RIG_SET makes the port claim leadership with a nonce that the spec leaves free (R459, R460); DMA_CHANNEL_SET gives the channel to the mailbox and waits for its reset (R463, R465, R482). The model's own choices behind it: log entries 4, 16, 17, 121 and 122. -/
def Obligations.PtpCommands : Prop :=
  (∀ (e : CmdEntry) (s : State), Served 0x0B18 e s →
    let c := cmdOf 0x0B18 e s
    let t := entered 0x0B18 e s
    okPtpOn c t →
    exec (.ptpPortSet e) s = .next (answered 0x0B18 e s [] (setPtpState (c.u8 0) 1 (modPtp (c.u8 0) (fun _ => { cfg := { enabled := true, domain := c.u8 2, unicast := bit (c.u8 3) 0, logSync := signedOf 8 (c.u8 4), logAnnounce := signedOf 8 (c.u8 5), logDelayReq := signedOf 8 (c.u8 6), annTimeout := c.u8 7, prio1 := c.u8 8, prio2 := c.u8 9 } }) t)))) ∧
  (∀ (e : CmdEntry) (s : State), Served 0x0B18 e s →
    let c := cmdOf 0x0B18 e s
    let t := entered 0x0B18 e s
    okPtpOff c t →
    exec (.ptpPortSet e) s = .next (answered 0x0B18 e s [] (modPtp (c.u8 0) (fun _ => {}) t))) ∧
  (∀ (e : CmdEntry) (s : State), Served 0x0B19 e s →
    let c := cmdOf 0x0B19 e s
    let t := entered 0x0B19 e s
    okRigOn c t →
    exec (.rigSet e) s = .next (answered 0x0B19 e s [] (rigClaim (modRig (fun r => { r with port := c.u8 1, rigId := c.u16 2, priority := c.u8 4, nonce := Config.freeNonce t.free % 2 ^ 32, round := 0 }) { t with free := t.free + 1 })))) ∧
  (∀ (e : CmdEntry) (s : State), Served 0x0B19 e s →
    let c := cmdOf 0x0B19 e s
    let t := entered 0x0B19 e s
    okRigOff c t →
    exec (.rigSet e) s = .next (answered 0x0B19 e s [] t)) ∧
  (∀ (e : CmdEntry) (s : State), Served 0x0C01 e s →
    let c := cmdOf 0x0C01 e s
    let t := entered 0x0C01 e s
    okDmaChannelSet c t →
    exec (.dmaChannelSet e) s = .next (waiting 0x0C01 e s (.dmaReset (c.u8 0)) (modDc (c.u8 0) (fun x => { x with owner := c.mb, entries := if c.u8 1 = 2 then c.u16 2 else 0, entryBytes := if c.u8 1 = 2 then c.u32 4 else 0, ringAddr := if c.u8 1 = 2 then c.u64 8 else 0 }) (releaseHeldOps (dcStartReset (c.u8 0) (some (c.u8 1)) t)))))

/-- POWER_BUDGET_SET puts the budget and the step limit in force, with OVER following (R513, R516); POWER_STATE_SET queues the switches that take the device to STANDBY or SAFELIGHT (R508, R510). REC_KEY_SET and STREAM_SUB_SET, whose parameters are longer than 56 bytes, are taken with FLAGS.EXT; once their payload is fetched, REC_KEY_SET holds the key pair of its channel (R413), and STREAM_SUB_SET stores the subscriber's settings, which starts where it is neither armed nor paced (R33, R431, R433, R444). The model's own choices behind it: log entries 4, 103, 124 and 175. -/
def Obligations.PowerCommands : Prop :=
  (∀ (e : CmdEntry) (s : State), Served 0x0D01 e s →
    let c := cmdOf 0x0D01 e s
    let t := entered 0x0D01 e s
    okPowerBudgetSet c t →
    exec (.powerBudgetSet e) s = .next (answered 0x0D01 e s [] (updateOver { t with power := { t.power with budget := c.u32 0, stepLimit := c.u32 4 } }))) ∧
  (∀ (e : CmdEntry) (s : State), Served 0x0D02 e s →
    let c := cmdOf 0x0D02 e s
    let t := entered 0x0D02 e s
    okPowerStandby c t →
    exec (.powerStateSet e) s = .next (answered 0x0D02 e s [] { t with power := { t.power with leaving := true, queue := t.power.queue ++ [{ domain := 11, target := .off }, { domain := 12, target := .off }, { domain := 13, target := .off }, { domain := 14, target := .off }, { domain := 31, target := .ret }, { domain := 30, target := .ret }, { domain := 2, target := .ret }, { domain := 1, target := .ret }] } })) ∧
  (∀ (e : CmdEntry) (s : State), Served 0x0D02 e s →
    let c := cmdOf 0x0D02 e s
    let t := entered 0x0D02 e s
    okPowerSafelight c t →
    exec (.powerStateSet e) s = .next (answered 0x0D02 e s [] { t with power := { t.power with leaving := true, queue := t.power.queue ++ [11, 12, 13, 14, 31, 30, 2, 4, 3, 1].map (fun d => { domain := d, target := .off }) } })) ∧
  (∀ (e : CmdEntry) (s : State) (b : List Byte), Fetched 0x0A11 e s →
    hostRead ((fetchOf 0x0A11 e s).u64 0) e.length.toNat s = some b →
    let c := fetchedCmd 0x0A11 e b s
    let t := fetchedState 0x0A11 e s
    okRecKeySet c t →
    exec (.recKeySet e) s = .next (fetchingState 0x0A11 e s) ∧
    exec (.extPayloadFetched e.mailbox true) (fetchingState 0x0A11 e s) = .next (postFinal c .ok 0 [] (modRec (c.u8 0) (fun x => { x with key := some (c.u32 4, c.bytes 8 64) }) t))) ∧
  (∀ (e : CmdEntry) (s : State) (b : List Byte), Fetched 0x0B10 e s →
    hostRead ((fetchOf 0x0B10 e s).u64 0) e.length.toNat s = some b →
    let c := fetchedCmd 0x0B10 e b s
    let t := fetchedState 0x0B10 e s
    okStreamSubSetArmed c t →
    exec (.streamSubSet e) s = .next (fetchingState 0x0B10 e s) ∧
    exec (.extPayloadFetched e.mailbox true) (fetchingState 0x0B10 e s) = .next (postFinal c .ok 0 [] (modSub (c.u16 0) (fun x => { x with enabled := true, cfg := subCfgOf c, width := 0, lines := 0, started := false, starting := false, picked := false, bucket := { level := c.u16 32 * secUnits, at_ := runTime t } }) t))) ∧
  (∀ (e : CmdEntry) (s : State) (b : List Byte), Fetched 0x0B10 e s →
    hostRead ((fetchOf 0x0B10 e s).u64 0) e.length.toNat s = some b →
    let c := fetchedCmd 0x0B10 e b s
    let t := fetchedState 0x0B10 e s
    okStreamSubSetUnpaced c t →
    exec (.streamSubSet e) s = .next (fetchingState 0x0B10 e s) ∧
    exec (.extPayloadFetched e.mailbox true) (fetchingState 0x0B10 e s) = .next (postFinal c .ok 0 [] (raise 672 (modSub (c.u16 0) (fun x => { x with enabled := true, cfg := subCfgOf c, width := 0, lines := 0, started := true, starting := false, picked := false, bucket := { level := c.u16 32 * secUnits, at_ := runTime t } }) t))))

/-- A doorbell whose count lies in the ring moves the tail count, and one that does not raises an error with no other effect (R36, R37); a response-head write likewise (R39). A mailbox reset discards the entries not taken and detaches those in flight; its completion gives counts of 0, a new token and an event (R49). ENTRY_TAKE moves the head count and serves the entry (R38, R43); a failed fetch answers TIMEOUT (R33, R34); a slice runs one step of a step-cut command (R42). The model's own choices behind it: log entries 5, 6, 8, 34, 155 and 175. -/
def Obligations.MailboxEvents : Prop :=
  (∀ (mb : Fin 16) (value : BitVec 32) (s : State), okMbDbAccepted mb value s →
    exec (.mbDbWrite mb value) s = .next (modMb mb (fun x => { x with cmdTail := value.toNat % 65536 }) s)) ∧
  (∀ (mb : Fin 16) (value : BitVec 32) (s : State), okMbDbRefused mb value s →
    exec (.mbDbWrite mb value) s = .next (raise (929 + 2 * mb) (modMb mb (fun x => { x with dbErr := true }) s))) ∧
  (∀ (mb : Fin 16) (value : BitVec 32) (s : State), okMbRspHeadAccepted mb value s →
    exec (.mbRspHeadWrite mb value) s = .next (modMb mb (fun x => { x with rspHead := value.toNat % 65536 }) s)) ∧
  (∀ (mb : Fin 16) (value : BitVec 32) (s : State), okMbRspHeadRefused mb value s →
    exec (.mbRspHeadWrite mb value) s = .next (raise (929 + 2 * mb) (modMb mb (fun x => { x with rspErr := true }) s))) ∧
  (∀ (mb : Fin 16) (s : State), okMailboxReset mb s →
    exec (.mailboxReset mb) s = .next (dmaMailboxReset mb (modMb mb (fun x => { x with state := .resetting, cmdHead := x.cmdTail }) { s with ctl := { s.ctl with inflight := s.ctl.inflight.map (fun c => if c.mb = mb.val then { c with detached := true } else c) } }))) ∧
  (∀ (mb : Fin 16) (s : State), okMailboxResetComplete mb s →
    exec (.mailboxResetComplete mb) s = .next (raise (929 + 2 * mb) (modMb mb (fun x => { x with state := if x.enable then .ready else .disabled, cmdTail := 0, cmdHead := 0, rspTail := 0, rspHead := 0 }) (resetAgent clsMailbox mb s)))) ∧
  (∀ (mb : Fin 16) (s : State), okEntryTake mb s →
    exec (.entryTake mb) s = .next (serveEntry (readEntry mb (mbAt s mb).cmdHead (mbAt s mb)) (modMb mb (fun x => { x with cmdHead := (x.cmdHead + 1) % 65536 }) { s with ctl := { s.ctl with rrNext := (mb.val + 1) % 16 } }))) ∧
  (∀ (mb : Fin 16) (c : Cmd) (s : State), okExtPayloadFails mb c s →
    exec (.extPayloadFetched mb false) s = .next (postFinal c .timeout 1 [] (dropCmd c s))) ∧
  (∀ (mb : Fin 16) (c : Cmd) (p n d : Nat) (s : State), okStepCutLast mb c p n d s →
    exec (.stepCutStep mb) s = .next (postFinal c .ok 0 [] (modPanel p (fun x => { x with sent := [(false, dcsBytes (((dcsEntries n (c.params.drop 4)).getD []).getD d {}))], dcs := (x.dcs + 1) % 2 ^ 32, due := runTime s }) (dropCmd c { s with ctl := { s.ctl with rrNext := (mb.val + 1) % 16 } })))) ∧
  (∀ (mb : Fin 16) (c : Cmd) (p n d : Nat) (s : State), okStepCutMore mb c p n d s →
    exec (.stepCutStep mb) s = .next ({ modPanel p (fun x => { x with sent := [(false, dcsBytes (((dcsEntries n (c.params.drop 4)).getD []).getD d {}))], dcs := (x.dcs + 1) % 2 ^ 32, due := runTime s + (((dcsEntries n (c.params.drop 4)).getD []).getD d {}).delay * 1000000 * nsUnits }) s with ctl := { s.ctl with rrNext := (mb.val + 1) % 16, inflight := s.ctl.inflight.filter (fun x => decide (x.uid ≠ c.uid)) ++ [{ c with phase := .stepping (.dcs p n (d + 1)) }] } })) ∧
  (∀ (mb : Fin 16) (c : Cmd) (p n d : Nat) (s : State), okStepCutHeld mb c p n d s →
    exec (.stepCutStep mb) s = .next (postProgress c (.dcs p n d) { s with ctl := { s.ctl with rrNext := (mb.val + 1) % 16, inflight := s.ctl.inflight.filter (fun x => decide (x.uid ≠ c.uid)) ++ [{ c with phase := .stepping (.dcs p n d) }] } })) ∧
  (∀ (mb : Fin 16) (c : Cmd) (p n d : Nat) (s : State), okStepCutRested mb c p n d s →
    exec (.stepCutStep mb) s = .next (postFinal c .ok 0 [] (dropCmd c { s with ctl := { s.ctl with rrNext := (mb.val + 1) % 16 } })))

/-- A mismatch stops the pair and restarts it, counted, until a third within 1 s (R51, R56, R500); the run watchdog does the same, and is not counted as a mismatch (R560); a pair that does not resume is held with every mailbox down (R56); a resume marks the commands in flight and raises event 6 (R51 to R54). The model's own choices behind it: log entries 6, 7, 33, 93, 159 and 175. -/
def Obligations.PairEvents : Prop :=
  (∀ (s : State), okLockstepMismatch s →
    exec .lockstepMismatch s = .next ({ serviceReturned { s with ctl := { s.ctl with mismatchTimes := s.ctl.mismatchTimes.filter (fun t => decide (runTime s ≤ t + secUnits)) ++ [runTime s], mismatches := (s.ctl.mismatches + 1) % 2 ^ 32 } } with ctl := { s.ctl with mismatchTimes := s.ctl.mismatchTimes.filter (fun t => decide (runTime s ≤ t + secUnits)) ++ [runTime s], mismatches := (s.ctl.mismatches + 1) % 2 ^ 32, pair := .restarting } })) ∧
  (∀ (s : State), okRunWatchdogExpiry s →
    exec .runWatchdogExpiry s = .next ({ serviceReturned { s with ctl := { s.ctl with mismatchTimes := s.ctl.mismatchTimes.filter (fun t => decide (runTime s ≤ t + secUnits)) ++ [runTime s], mismatches := (s.ctl.mismatches + 0) % 2 ^ 32 } } with ctl := { s.ctl with mismatchTimes := s.ctl.mismatchTimes.filter (fun t => decide (runTime s ≤ t + secUnits)) ++ [runTime s], mismatches := (s.ctl.mismatches + 0) % 2 ^ 32, pair := .restarting } })) ∧
  (∀ (s : State), okControlFailure s →
    exec .controlFailure s = .next (raise 7 (logFault 6 255 0 (forUpTo 16 (fun n => modMb n (fun m => { m with state := .down })) { s with ctl := { s.ctl with pair := .held } })))) ∧
  (∀ (s : State), okServiceResume s →
    let l := s.ctl.inflight.map (fun c => { c with restarted := true })
    exec .serviceResume s = .next (byServo rampUnqualifies (waitingRequests (kmpResume (forEach l postEnded (raise 6 (logFault 5 255 0 (forEach (l.filter (fun c => !c.detached)) (fun c => modMb c.mb (fun m => { m with restarted := true })) { s with ctl := { s.ctl with inflight := l, pair := .running, restarts := (s.ctl.restarts + 1) % 2 ^ 32 } })))))) ))

/-- TB_LATCH holds the timebase (R61). A replica beyond 1 ns is reloaded, counted and raises event 64; one within it is only noted (R63). While the firmware runs, a candidate's signal, qualification and loss move its state and choose the master anew, events 42 and 38 with the number of the candidate telling of the last two (R67 to R70). A measured error is noted for its candidate, folded where the type asks for it, and for the master goes to the error and the correction (R62, R66, R74, R75). A slew ends within 100 ns of the master with event 36 (R74). A step without slots in the scheduler takes its value with event 35, and 37 for a TIME_SET, and every enabled head lags and realigns (R78, R79). A head, or a locked pair as one, realigns with event 48 and its number and converges with event 56 and its number (R77, R79). The model's own choices behind it: log entries 8, 50, 53, 56, 146, 158, 159, 160, 161, 166 and 175. -/
def Obligations.TimebaseEvents : Prop :=
  (∀ (s : State), okTbLatch s →
    exec .tbLatch s = .next ({ s with time := { s.time with tb := { s.time.tb with latched := s.time.tb.now } } })) ∧
  (∀ (domain : Fin 16) (diffNs : Int) (s : State), okReplicaNear domain diffNs s →
    exec (.replicaCheck domain diffNs) s = .next ({ s with time := { s.time with tb := { s.time.tb with replicaErr := tabSet s.time.tb.replicaErr domain diffNs } } })) ∧
  (∀ (domain : Fin 16) (diffNs : Int) (s : State), okReplicaFar domain diffNs s →
    exec (.replicaCheck domain diffNs) s = .next (logFault 1 domain 0 (raise 64 { s with time := { s.time with tb := { s.time.tb with replicaErr := tabSet s.time.tb.replicaErr domain 0 } } }))) ∧
  (∀ (cand : Fin 4) (s : State), okRefSignalValid cand s →
    exec (.refSignalValid cand) s = .next (reevaluateMaster (modTb (fun b => { b with cands := b.cands.modify cand (fun c => { c with state := .qualifying }) }) s))) ∧
  (∀ (cand : Fin 4) (s : State), okRefSignalInvalid cand s →
    exec (.refSignalInvalid cand) s = .next (reevaluateMaster (modTb (fun b => { b with cands := b.cands.modify cand (fun c => { c with state := .absent }) }) s))) ∧
  (∀ (cand : Fin 4) (s : State), okRefQualified cand s →
    exec (.refQualified cand) s = .next (reevaluateMaster (modTb (fun b => { b with cands := b.cands.modify cand (fun c => { c with state := .qualified }) }) (raise (42 + cand) s)))) ∧
  (∀ (cand : Fin 4) (s : State), okRefLost cand s →
    exec (.refLost cand) s = .next (reevaluateMaster (modTb (fun b => { b with cands := b.cands.modify cand (fun c => { c with state := .lost }) }) (raise (38 + cand) s)))) ∧
  (∀ (cand : Fin 4) (s : State), okRefLostTimeout cand s →
    exec (.refLostTimeout cand) s = .next (reevaluateMaster (modTb (fun b => { b with cands := b.cands.modify cand (fun c => { c with state := .absent }) }) s))) ∧
  (∀ (cand : Fin 4) (errNs ppb : Int) (s : State), okRefErrorOther cand errNs ppb s →
    let e := if foldsError (candAt s cand).type then foldError errNs (candAt s cand).rateNum (candAt s cand).rateDen else errNs
    exec (.refErrorMeasure cand errNs ppb) s = .next ({ s with time := { s.time with tb := { s.time.tb with cands := s.time.tb.cands.modify cand (fun c => { c with offsetNs := e }) } } })) ∧
  (∀ (cand : Fin 4) (errNs ppb : Int) (s : State), okRefErrorMaster cand errNs ppb s →
    let e := if foldsError (candAt s cand).type then foldError errNs (candAt s cand).rateNum (candAt s cand).rateDen else errNs
    exec (.refErrorMeasure cand errNs ppb) s = .next (correctMaster e { s with time := { s.time with tb := { { s.time.tb with cands := s.time.tb.cands.modify cand (fun c => { c with offsetNs := e }) } with errNs := satNs e, errFull := e, masterPpb := servoRate ppb, freqPpb := slewedPpb (servoRate ppb) s.time.tb.slew, history := (s.time.tb.history.filter (fun r => decide (runTime s ≤ r.at_ + 16 * secUnits))) ++ [{ at_ := runTime s, ppb := servoRate ppb, slewing := s.time.tb.slew.isSome }] } } })) ∧
  (∀ (s : State), okSlewComplete s →
    exec .slewComplete s = .next (takeTod (setTbState .locked (raise 36 (modTb (fun b => { b with slew := none, declined := false, freqPpb := slewedPpb b.masterPpb none }) s))))) ∧
  (∀ (v : Nat) (s : State), okStepApplyTimeSet v s →
    let q := holdRasters s
    let d : Int := (v : Int) - s.time.tb.now
    let r := restate d q
    exec .stepApply s = .next (finishWait .timeSet .ok 0 [] (finishWait .stepApplied .rejState unstated [] (raise 37 (raise 35 { r with sched := { r.sched with pulses := r.sched.pulses.map (stepPulse s.time.tb.now v q), snap := { r.sched.snap with pend := r.sched.snap.pend && r.sched.snap.running.isSome } }, time := { r.time with refFrame := refFrameAt s.time.ref v, tc := stepTc (refFrameAt s.time.ref v - refFrameAt s.time.ref s.time.tb.now) r.time.tc, tb := { r.time.tb with now := v, stepSum := r.time.tb.stepSum + d, stepNs := satNs (d / (nsUnits : Nat)), stepDue := none, timeSetDue := none, slew := none, declined := false, freqPpb := if s.time.tb.state = .freerun ∨ s.time.tb.state = .hold then r.time.tb.freqPpb else slewedPpb r.time.tb.masterPpb none, todValid := true, errNs := r.time.tb.errNs, errFull := r.time.tb.errFull, heads := (List.range 8).foldl (fun hs h => if headEnabled s h then tabMod hs h (fun x => { x with lag := true, realignDue := true }) else hs) r.time.tb.heads } } }))))) ∧
  (∀ (e : Int) (s : State), okStepApplyError e s →
    let v := ((s.time.tb.now : Int) + e * (nsUnits : Nat)).toNat
    let q := holdRasters s
    let d : Int := (v : Int) - s.time.tb.now
    let r := restate d q
    exec .stepApply s = .next (finishWait .stepApplied .ok 0 [] (setTbState .locked (raise 35 { r with sched := { r.sched with pulses := r.sched.pulses.map (stepPulse s.time.tb.now v q), snap := { r.sched.snap with pend := r.sched.snap.pend && r.sched.snap.running.isSome } }, time := { r.time with refFrame := refFrameAt s.time.ref v, tc := stepTc (refFrameAt s.time.ref v - refFrameAt s.time.ref s.time.tb.now) r.time.tc, tb := { r.time.tb with now := v, stepSum := r.time.tb.stepSum + d, stepNs := satNs (d / (nsUnits : Nat)), stepDue := none, timeSetDue := none, slew := none, declined := false, freqPpb := if s.time.tb.state = .freerun ∨ s.time.tb.state = .hold then r.time.tb.freqPpb else slewedPpb r.time.tb.masterPpb none, todValid := (s.time.tb.todValid || masterGivesTod s), errNs := 0, errFull := 0, heads := (List.range 8).foldl (fun hs h => if headEnabled s h then tabMod hs h (fun x => { x with lag := true, realignDue := true }) else hs) r.time.tb.heads } } })))) ∧
  (∀ (head : Fin 8) (s : State), okHeadRealignOne head s →
    let one := fun (k : Nat) (u : State) => raise (48 + k) (modTb (fun b => { b with heads := tabMod b.heads k (fun x => { x with lag := false, stepped := true, realignDue := false, phaseErrNs := 0 }) }) u)
    exec (.headRealign head) s = .next (one head (withdrawLater head (modHd head (fun x => { x with longBlank := true }) s)))) ∧
  (∀ (head : Fin 8) (s : State), okHeadRealignPair head s →
    let one := fun (k : Nat) (u : State) => raise (48 + k) (modTb (fun b => { b with heads := tabMod b.heads k (fun x => { x with lag := false, stepped := true, realignDue := false, phaseErrNs := 0 }) }) u)
    exec (.headRealign head) s = .next (one (head.val / 2 * 2 + 1) (one (head.val / 2 * 2) (withdrawLater head (modHd (head.val / 2 * 2) (fun x => { x with longBlank := true }) s))))) ∧
  (∀ (head : Fin 8) (s : State), okHeadConvergedMoved head s →
    let one := fun (k : Nat) (u : State) => raise (56 + k) (modTb (fun b => { b with heads := tabMod b.heads k (fun x => { x with lag := false }) }) u)
    exec (.headSlewConverged head) s = .next (raise (98 + 16 * head) (modHd head (fun x => { x with realign := false }) (one head s)))) ∧
  (∀ (head : Fin 8) (s : State), okHeadConvergedOne head s →
    let one := fun (k : Nat) (u : State) => raise (56 + k) (modTb (fun b => { b with heads := tabMod b.heads k (fun x => { x with lag := false }) }) u)
    exec (.headSlewConverged head) s = .next (one head s)) ∧
  (∀ (head : Fin 8) (s : State), okHeadConvergedPair head s →
    let one := fun (k : Nat) (u : State) => raise (56 + k) (modTb (fun b => { b with heads := tabMod b.heads k (fun x => { x with lag := false }) }) u)
    exec (.headSlewConverged head) s = .next (one (head.val / 2 * 2 + 1) (one (head.val / 2 * 2) s)))

/-- A reference frame start counts its frame and advances the timecode, which the Safelight domain takes while the generator runs and the record marks take always; a raster or timecode settings that wait apply with it (R82, R85, R407, R527). An LTC word is kept, or sets the generator that is armed (R85). A capture frame begins at a marker of the followed stream, its boundaries rising, or from SYN8 in DRIVE mode (R84); a gap raises event 47 once and is bridged at the last period (R84); a ramp advances and ends with event 21 (R109). The model's own choices behind it: log entries 8, 51, 55, 57, 58, 85, 158, 164 and 207. -/
def Obligations.RasterEvents : Prop :=
  (∀ (s : State), okReferenceFramePlain s →
    let u := s
    let n := refFrameAt u.time.ref u.time.tb.now
    exec .referenceFrameStart s = .next (outsideSafelight refFrameMark { u with time := { u.time with refFrame := n, tc := { u.time.tc with current := (tcAt { u with time := { u.time with refFrame := n } } n).1, sub := (tcAt { u with time := { u.time with refFrame := n } } n).2, frame := n } } })) ∧
  (∀ (s : State), okReferenceFrameLabelled s →
    let u := s
    let n := refFrameAt u.time.ref u.time.tb.now
    let f : State := { u with time := { u.time with refFrame := n, tc := { u.time.tc with current := (tcAt { u with time := { u.time with refFrame := n } } n).1, sub := (tcAt { u with time := { u.time with refFrame := n } } n).2, frame := n } } }
    exec .referenceFrameStart s = .next (outsideSafelight refFrameMark { f with sl := { s.sl with tcHh := f.time.tc.current.hh, tcMm := f.time.tc.current.mm, tcSs := f.time.tc.current.ss, tcFf := f.time.tc.current.ff, tcBase := s.time.tc.mode.base, tcDrop := s.time.tc.mode.drop, tcValid := true } })) ∧
  (∀ (r : RefRaster) (s : State), okReferenceFrameRaster r s →
    let u := finishWait .refRaster .ok 0 [] (slotsInRaster (refRenum s.time.ref r) (headsSeekLock (decide (r.offsetNs ≠ s.time.ref.offsetNs)) { s with time := { s.time with ref := r, refPending := none } }))
    let n := refFrameAt u.time.ref u.time.tb.now
    exec .referenceFrameStart s = .next (outsideSafelight refFrameMark { u with time := { u.time with refFrame := n, tc := { u.time.tc with current := (tcAt { u with time := { u.time with refFrame := n } } n).1, sub := (tcAt { u with time := { u.time with refFrame := n } } n).2, frame := n } } })) ∧
  (∀ (valid : Bool) (hh mm ss ff : Nat) (s : State), okLtcGone valid hh mm ss ff s →
    exec (.ltcWordReceived valid hh mm ss ff) s = .next ({ s with time := { s.time with tc := { s.time.tc with ltcValid := false } } })) ∧
  (∀ (valid : Bool) (hh mm ss ff : Nat) (s : State), okLtcArmed valid hh mm ss ff s →
    exec (.ltcWordReceived valid hh mm ss ff) s = .next ({ s with time := { s.time with tc := { s.time.tc with ltcValid := true, ltcIn := { hh := hh, mm := mm, ss := ss, ff := ff }, ltcFrame := s.time.refFrame, armed := false, mode := { s.time.tc.mode with tc0 := { hh := hh, mm := mm, ss := ss, ff := ff }, n0 := s.time.refFrame } } } })) ∧
  (∀ (valid : Bool) (hh mm ss ff : Nat) (s : State), okLtcKept valid hh mm ss ff s →
    exec (.ltcWordReceived valid hh mm ss ff) s = .next ({ s with time := { s.time with tc := { s.time.tc with ltcValid := true, ltcIn := { hh := hh, mm := mm, ss := ss, ff := ff }, ltcFrame := s.time.refFrame } } })) ∧
  (∀ (k : Fin 4) (s : State), okCaptureMarker k s →
    let a := s.time.cap.markers.headD s.time.tb.now - s.time.cap.mode.latencyNs * nsUnits
    let b := if s.time.cap.hasBoundary = true ∧ a ≤ s.time.cap.boundary then s.time.cap.boundary + nsUnits else a
    exec (.captureFrameBoundary (some k)) s = .next (recFrameBegin { s with time := { s.time with cap := { s.time.cap with frame := s.time.cap.frame + 1, boundary := b, hasBoundary := true, posBase := 0, posAt := b, past := keepPast b ((s.time.cap.frame, if s.time.cap.hasBoundary then s.time.cap.boundary else 0) :: s.time.cap.past), period := if s.time.cap.hasBoundary then b - s.time.cap.boundary else s.time.cap.period, gapRaised := false, continuing := false, markers := s.time.cap.markers.drop 1 } } })) ∧
  (∀ (s : State), okCaptureDriven s →
    let e := max s.time.cap.posAt (ceilInstant (reachAt s.time.cap.posBase s.time.cap.posAt (capRate s) (16 * s.time.cap.mode.lines * posUnit : Nat)))
    let b := max (if s.time.cap.hasBoundary = true then e else s.time.tb.now) (s.time.cap.boundary + 1)
    exec (.captureFrameBoundary none) s = .next (recFrameBegin (synUpdatePoint 8 { s with time := { s.time with cap := { s.time.cap with frame := s.time.cap.frame + 1, boundary := b, hasBoundary := true, posBase := 0, posAt := b, past := keepPast b ((s.time.cap.frame, if s.time.cap.hasBoundary then s.time.cap.boundary else 0) :: s.time.cap.past), period := if s.time.cap.hasBoundary then b - s.time.cap.boundary else s.time.cap.period } } }))) ∧
  (∀ (s : State), okCaptureMarkerTimeout s →
    exec .captureMarkerTimeout s = .next (raise 47 { s with time := { s.time with cap := { s.time.cap with gapRaised := true, continuing := true } } })) ∧
  (∀ (s : State), okCaptureContinuationFrame s →
    let b := s.time.cap.boundary + s.time.cap.period
    exec .captureContinuationFrame s = .next (recFrameBegin { s with time := { s.time with cap := { s.time.cap with frame := s.time.cap.frame + 1, boundary := b, hasBoundary := true, posBase := 0, posAt := b, past := keepPast b ((s.time.cap.frame, if s.time.cap.hasBoundary then s.time.cap.boundary else 0) :: s.time.cap.past) } } })) ∧
  (∀ (r : RampRun) (g : RampSeg) (rest : List RampSeg) (s : State), okRampUpdate r g rest s →
    exec .rampUpdate s = .next ({ setDivider (rampDivider (rampRate { r with tUs := r.tUs + 1 }) s.time.cap.mode.lines) s with time := { (setDivider (rampDivider (rampRate { r with tUs := r.tUs + 1 }) s.time.cap.mode.lines) s).time with ramp := { s.time.ramp with run := some { r with tUs := r.tUs + 1 } } } })) ∧
  (∀ (r : RampRun) (g : RampSeg) (s : State), okRampEnd r g s →
    exec .rampEnd s = .next (raise 21 { s with time := { s.time with ramp := { s.time.ramp with run := none, rateNum := g.endRate, rateDen := 1 } } }))

/-- A synthesizer that loses lock is gated with its pair, counted as an attempt and raises its event; SYN9 then leaves the timebase on the fabric clock (R94 to R99, R105). Lock opens the gates of its pair where the whole pair is locked (R94, R98); the third failed attempt leaves it FAILED with event 996 (R97); a cached band that does not lock is dropped and searched anew (R107); an update point applies the shadows to it and its pair (R93, R98, R104); a reference fault gates every output with event 20 (R100); a tracking loop moves a head's offset within its limits (R77, R101). An occurrence is armed with its frame, instant, lateness and trim, a snapshot then pending (R118, R126, R127, R128, R134); an armed one fires, those of one instant in slot order, and those whose rasters are held are withdrawn (R119, R120, R129); a pulse stops on its pin (R123); a snapshot completes with event 986 (R134). The model's own choices behind it: log entries 52 and 178. The model's own choices behind it: log entries 8, 10, 11, 49, 52, 53, 56, 58, 158, 167, 168, 173 and 174. -/
def Obligations.SynthSchedulerEvents : Prop :=
  (∀ (syn : Fin 12) (s : State), okSynLossOfLock syn s →
    let u := withdrawHeld (forEach (synPairOf s syn) (fun j => modSyn j (fun y => { y with gated := true })) (modSyn syn (fun y => { y with state := .acquiring, gated := true, lost := true, attempts := 1, searching := true, cacheHit := false }) (raise (8 + syn) (holdRasters s))))
    exec (.synLossOfLock syn) s = .next (lanesFollow (fun _ => synLossFault syn (if syn.val = 9 then { u with time := { u.time with tb := { u.time.tb with onFabric := true } } } else u)) s)) ∧
  (∀ (syn : Fin 12) (s : State), okSynLockTimeout syn s →
    let u := withdrawHeld (forEach (synPairOf s syn) (fun j => modSyn j (fun y => { y with gated := true })) (modSyn syn (fun y => { y with state := .acquiring, gated := true, lost := true, attempts := 1, searching := true, cacheHit := false }) (raise (8 + syn) (holdRasters s))))
    exec (.synLockTimeout syn) s = .next (lanesFollow (fun _ => synLossFault syn (if syn.val = 9 then { u with time := { u.time with tb := { u.time.tb with onFabric := true } } } else u)) s)) ∧
  (∀ (syn : Fin 12) (band : Fin 64) (fine us : Nat) (s : State), okSynLockDeclared syn band fine us s →
    let T := (Config.freeTemp s.free).toInt
    let u := modSyn syn (synLockedOf syn s.time.tb.now T band fine us) { s with time := { s.time with dieTemp := T }, free := s.free + 1 }
    let g := forEach (synPairOf s syn) (fun j => modSyn j (fun y => { y with gated := false })) (holdRasters u)
    exec (.synLockDeclared syn band fine us) s = .next (lanesFollow (fun _ => finishWait (.faultRecover syn) .ok 0 [] (if syn.val = 9 then { g with time := { g.time with tb := { g.time.tb with onFabric := false } } } else g)) s)) ∧
  (∀ (syn : Fin 12) (band : Fin 64) (fine us : Nat) (s : State), okSynLockWaits syn band fine us s →
    let T := (Config.freeTemp s.free).toInt
    let u := modSyn syn (synLockedOf syn s.time.tb.now T band fine us) { s with time := { s.time with dieTemp := T }, free := s.free + 1 }
    exec (.synLockDeclared syn band fine us) s = .next (lanesFollow (fun _ => finishWait (.faultRecover syn) .ok 0 [] u) s)) ∧
  (∀ (syn : Fin 12) (s : State), okSynRelockAgain syn s →
    exec (.synRelockAttemptEnd syn) s = .next (modSyn syn (fun y => { y with attempts := y.attempts + 1 }) s)) ∧
  (∀ (syn : Fin 12) (s : State), okSynRelockFailed syn s →
    exec (.synRelockAttemptEnd syn) s = .next (synFailedFault syn (modSyn syn (fun y => { y with state := .failed, attempts := 0, searching := false }) s))) ∧
  (∀ (syn : Fin 12) (s : State), okCachedBandTimeout syn s →
    exec (.cachedBandTimeout syn) s = .next (modSyn syn (fun y => { y with cacheHit := false, searching := true, cache := y.cache.filter (fun e => !(decide (e.refMode = (synAt s syn).words.refMode) && decide (e.vcoMhz = vcoMhz syn (synAt s syn).words))) }) s)) ∧
  (∀ (syn : Fin 12) (s : State), okSynUpdatePoint syn s →
    let T := (Config.freeTemp s.free).toInt
    let u : State := { holdRasters s with time := { (holdRasters s).time with dieTemp := T }, free := s.free + 1 }
    let up := fun (j : Nat) => modSyn j (synUpdated j s.time.tb.now T)
    exec (.synUpdatePoint syn) s = .next (lanesFollow (fun _ => finishWait (.synUpdate syn) .ok 0 [] (withdrawHeld (up syn u))) s)) ∧
  (∀ (syn : Fin 12) (s : State), okSynUpdatePair syn s →
    let T := (Config.freeTemp s.free).toInt
    let u : State := { holdRasters s with time := { (holdRasters s).time with dieTemp := T }, free := s.free + 1 }
    let up := fun (j : Nat) => modSyn j (synUpdated j s.time.tb.now T)
    exec (.synUpdatePoint syn) s = .next (lanesFollow (fun _ => finishWait (.synUpdate (syn.val / 2 * 2 + 1)) .ok 0 [] (finishWait (.synUpdate (syn.val / 2 * 2)) .ok 0 [] (withdrawHeld (up (syn.val / 2 * 2 + 1) (up (syn.val / 2 * 2) u))))) s)) ∧
  (∀ (s : State),
    let u := holdRasters s
    exec .referenceFault s = .next (lanesFollow (fun _ => refFaultRecord (raise 20 (withdrawHeld (forUpTo 12 (fun k => modSyn k (fun y => { y with gated := true, refFault := true })) { u with time := { u.time with tb := { u.time.tb with onFabric := true } } })))) s)) ∧
  (∀ (head : Fin 8) (phaseErrNs : Int) (s : State), okTrackingLoopUpdate head phaseErrNs s →
    let e := headError s head phaseErrNs
    let off := trackedOffset (tabGet s.time.tb.heads head).offsetUppb ((s.time.tb.freqPpb + e.sign * (Config.freeTracking e s.free).natAbs) * 1000000) (slewLimits s head).1 (slewLimits s head).2
    let u := holdRasters s
    exec (.trackingLoopUpdate head phaseErrNs) s = .next (panelFollow head (setOffset 11 (s.time.tb.freqPpb * 1000000) (setOffset 10 (s.time.tb.freqPpb * 1000000) (setOffset 8 (if s.time.cap.mode.drive = true then s.time.tb.freqPpb * 1000000 else 0) (setOffset head off { u with free := s.free + 1, time := { u.time with tb := { u.time.tb with heads := tabMod s.time.tb.heads head (fun x => { x with phaseErrNs := e, offsetUppb := off }) } } })))))) ∧
  (∀ (slot : Fin 4096) (t : Nat) (s : State), okOccurrenceArm slot t s →
    let k := (slotAt s slot).content
    let stop := (if bit k.flags 2 then posInstant s k (slotAt s slot).occFrame (posLine k.stop) k.stop else none).getD 0
    let u := modSlot slot (fun x => { x with rearm := false, armed := some { frame := x.occFrame, instant := t, stop := stop, late := decide (t < s.time.tb.now + (if x.rearm then 0 else armLead)), trim := (tabGet s.sched.pins k.pin).trim } }) s
    exec (.occurrenceArm slot (slotAt s slot).occFrame (slotAt s slot).occLine) s = .next ({ u with sched := { u.sched with armTimes := s.sched.armTimes.filter (fun x => decide (s.time.tb.now < x + 1000 * nsUnits)) ++ [s.time.tb.now], snap := if k.action = 6 then { s.sched.snap with pend := true } else s.sched.snap } })) ∧
  (∀ (slot : Fin 4096) (a : ArmedOcc) (s : State), okOccurrenceWithdrawn slot a s →
    exec (.occurrenceFire slot) s = .next (withdrawHeld s)) ∧
  (∀ (slot : Fin 4096) (a : ArmedOcc) (s : State), okOccurrenceRises slot a s →
    let p := (slotAt s slot).content.pin
    let u := modSlot slot (slotFired (a.instant / secUnits % 2 ^ 48) false 0) s
    exec (.occurrenceFire slot) s = .next ({ u with sched := { u.sched with pins := tabSet s.sched.pins p { tabGet s.sched.pins p with level := true, edges := [{ at_ := ((a.instant : Int) - a.trim * 32768).toNat, slot := slot, op := .high }] } } })) ∧
  (∀ (slot : Fin 4096) (p : PulseRun) (s : State), okPulseStop slot p s →
    exec (.pulseStop slot) s = .next (driveEdge slot p.pin .low ((pulseEnd s p : Int) - p.trim * 32768).toNat { s with sched := { s.sched with pulses := s.sched.pulses.erase p } })) ∧
  (∀ (t tag : Nat) (s : State), okSnapshotComplete t tag s →
    exec .snapshotComplete s = .next (raise 986 { s with sched := { s.sched with snap := { s.sched.snap with running := none, instant := t, tag := tag, seq := (s.sched.snap.seq + 1) % 2 ^ 31, pend := snapArmed s } } }))

/-- A read of a line without wrong symbols only wakes the rank that it names (R156); one wrong symbol is corrected, written back, counted on the channel that holds the line now, and raises CE (R144, R162); two wrong symbols are counted, latched, logged and raise UE (R145, R547); a read beyond the capacity raises OOR (R141), one above the fill boundary UNFILLED (R149). A whole-line write replaces the line and its check word, a part of a line is merged, and over an uncorrectable line leaves it poisoned (R146); a failed channel takes no write (R164). The patrol reads the next line and ends its pass with event 874 (R147). The model's own choices behind it: log entries 8, 12, 59, 60, 179 and 181. -/
def Obligations.StoreReads : Prop :=
  (∀ (fsa : Nat) (s : State), okFsReadClean fsa s →
    exec (.fsReadRequest fsa 0) s = .next (wakeRank (placeOf s (64 * (fsa / 64))).1 (placeOf s (64 * (fsa / 64))).2 s)) ∧
  (∀ (fsa : Nat) (s : State), okFsReadCorrected fsa s →
    let t := wakeRank (placeOf s (64 * (fsa / 64))).1 (placeOf s (64 * (fsa / 64))).2 s
    exec (.fsReadRequest fsa 0) s = .next (reportCe (fsa / 64) { t with fs := { t.fs with mem := pokeBytes (64 * (fsa / 64)) (correctedLine t (fsa / 64)) t.fs.mem, raw := tabSet t.fs.raw (fsa / 64) none } })) ∧
  (∀ (fsa : Nat) (s : State), okFsReadUncorrectable fsa s →
    exec (.fsReadRequest fsa 0) s = .next (reportUe (fsa / 64) (wakeRank (placeOf s (64 * (fsa / 64))).1 (placeOf s (64 * (fsa / 64))).2 s))) ∧
  (∀ (fsa : Nat) (s : State), okFsReadBeyond fsa s →
    exec (.fsReadRequest fsa 0) s = .next (raise 875 { s with fs := { s.fs with oor := true } })) ∧
  (∀ (fsa : Nat) (s : State), okFsReadUnfilled fsa s →
    exec (.fsReadRequest fsa 0) s = .next (raise 866 { s with fs := { s.fs with unfilled := true } })) ∧
  (∀ (line : Nat) (s : State), 131072 ≤ line → tabGet s.fs.raw line = none → correctedLine s line = lineBytes s line) ∧
  (∀ (line : Nat) (data : List Byte) (s : State), okFsWriteLineWhole line data s →
    let t := wakeRank (placeOf s (64 * (line))).1 (placeOf s (64 * (line))).2 s
    exec (.fsWriteRequest (64 * line) data) s = .next ({ t with fs := { t.fs with mem := pokeBytes (64 * line) data t.fs.mem, ecc := tabSet t.fs.ecc line {}, raw := tabSet t.fs.raw line none } })) ∧
  (∀ (fsa : Nat) (data : List Byte) (s : State), okFsWritePoisons fsa data s →
    let t := reportUe (fsa / 64) (wakeRank (placeOf s (64 * (fsa / 64))).1 (placeOf s (64 * (fsa / 64))).2 s)
    exec (.fsWriteRequest fsa data) s = .next ({ t with fs := { t.fs with mem := pokeBytes (64 * (fsa / 64) + fsa % 64) data (pokeBytes (64 * (fsa / 64)) (List.replicate 64 0) t.fs.mem), ecc := tabSet t.fs.ecc (fsa / 64) { poison := true }, raw := tabSet t.fs.raw (fsa / 64) none } })) ∧
  (∀ (fsa : Nat) (data : List Byte) (s : State), okFsWriteMerged fsa data s →
    let t := wakeRank (placeOf s (64 * (fsa / 64))).1 (placeOf s (64 * (fsa / 64))).2 s
    exec (.fsWriteRequest fsa data) s = .next ({ t with fs := { t.fs with mem := pokeBytes (64 * (fsa / 64) + fsa % 64) data t.fs.mem } })) ∧
  (∀ (line : Nat) (data : List Byte) (s : State), okFsWriteDead line data s →
    exec (.fsWriteRequest (64 * line) data) s = .next (s)) ∧
  (∀ (s : State), okPatrolClean s →
    let t := wakeRank (placeOf s (64 * s.fs.patrol.line)).1 (placeOf s (64 * s.fs.patrol.line)).2 { s with fs := { s.fs with ecc := tabSet s.fs.ecc s.fs.patrol.line {} } }
    exec (.patrolScrubRead 0) s = .next ({ t with fs := { t.fs with patrol := { t.fs.patrol with line := s.fs.patrol.line + 1 } } })) ∧
  (∀ (s : State), okPatrolPassEnds s →
    exec (.patrolScrubRead 0) s = .next (raise 874 { s with fs := { s.fs with patrol := { s.fs.patrol with line := 0, pass := s.fs.patrol.pass + 1, correctedBefore := s.fs.patrol.corrected, corrected := [] } } }))

/-- The start-up fill puts zeros and check words through 1 GiB and moves its pointer, fills the reserve last and ends with event 867 (R148); training sets a channel's delays, which are open, and a failed one retires it or keeps the store down (R151, R155); a drift queues a nudge that is applied to every delay of the lanes and counted (R152, R153); a poll raises a multiplier at once by the hottest rank (R157); migration copies a granule and ends in STATE 2 with event 873 (R163); a rank powers down where the idle time permits it (R156); an aged grant is counted (R161); a failed channel is reported (R540). The model's own choices behind it: log entries 8, 13, 35, 59, 173 and 180. -/
def Obligations.StoreUpkeep : Prop :=
  (∀ (chan : Fin 16) (s : State),
    exec (.beAgingPromotion chan) s = .next (modChan chan (fun x => { x with ctr := { x.ctr with aged := satAdd 0xFFFFFFFF x.ctr.aged 1 } }) s)) ∧
  (∀ (s : State), okStartupFillStep s →
    let t := zeroRange64 (65536 * s.fs.fillPtr) (65536 * min (capacityUnits s) (s.fs.fillPtr + 16384)) (wakeRange (4096 * s.fs.fillPtr) (4096 * min (capacityUnits s) (s.fs.fillPtr + 16384)) s)
    exec .startupFillStep s = .next ({ t with fs := { t.fs with fillPtr := min (capacityUnits s) (s.fs.fillPtr + 16384) } })) ∧
  (∀ (s : State), okStartupFillReserve s →
    let u := wakeRange (normalSpace s) (dataSpace s) s
    exec .startupFillStep s = .next ({ u with fs := { u.fs with loose := [], looseEcc := [], looseRaw := [], spare := [], reserveFilled := true } })) ∧
  (∀ (lo hi line : Nat) (s : State), 131072 ≤ line → lo % 64 = 0 → hi % 64 = 0 → lo ≤ 64 * line → 64 * line < hi → tabWf s.fs.mem = true → tabWf s.fs.ecc = true →
    tabGet (zeroRange64 lo hi s).fs.ecc line = {} ∧ lineBytes (zeroRange64 lo hi s) line = List.replicate 64 0) ∧
  (∀ (s : State), okStartupFillDone s →
    exec .startupFillDone s = .next (raise 867 { s with fs := { s.fs with fillDone := true } })) ∧
  (∀ (chan : Fin 16) (s : State), okChannelTrained chan s →
    let v := modChan chan (fun x => { x with trained := true, retrain := false, nudge0 := 0, nudge1 := 0, nudgeDue := none, temp := (Config.freeTemp s.free).toInt, trainings := satAdd 15 x.trainings 1, delays := trainedDelays s.free }) s
    let all := fsAllTrained chan s
    exec (.channelTraining chan true) s = .next (withUsable (fun _ => { v with free := s.free + 1, fs := { v.fs with up := s.fs.up || all, brought := s.fs.brought || all } }) s)) ∧
  (∀ (chan : Fin 16) (s : State), okChannelUntrained chan s →
    exec (.channelTraining chan false) s = .next (raise 876 (withUsable (fun s => { s with fs := { s.fs with up := false, brought := false } }) s))) ∧
  (∀ (chan : Fin 16) (ok : Bool) (s : State), okChannelNotAgain chan ok s →
    exec (.channelTraining chan ok) s = .next (s)) ∧
  (∀ (chan : Fin 16) (drift0 drift1 : Int) (s : State), okWckOscRead chan drift0 drift1 s →
    exec (.wckOscRead chan drift0 drift1) s = .next (modChan chan (fun x => { x with nudgeDue := some (clampI (-2) 2 drift0, clampI (-2) 2 drift1) }) s)) ∧
  (∀ (chan : Fin 16) (a b : Int) (s : State), okNudgeSmall chan a b s →
    exec (.nudgeApply chan) s = .next (modChan chan (fun x => { x with nudgeDue := none, nudge0 := clampI (-128) 127 (x.nudge0 + a), nudge1 := clampI (-128) 127 (x.nudge1 + b), ctr := { x.ctr with nudge := satAdd 0xFFFFFFFF x.ctr.nudge 1 }, delays := { x.delays with wr0 := nudged x.delays.wr0 a, wrDmi0 := nudged x.delays.wrDmi0 a, wr1 := nudged x.delays.wr1 b, wrDmi1 := nudged x.delays.wrDmi1 b, rd0 := nudged x.delays.rd0 a, rd1 := nudged x.delays.rd1 b } }) s)) ∧
  (∀ (chan : Fin 16) (a b : Int) (s : State), okNudgeReachesLimit chan a b s →
    exec (.nudgeApply chan) s = .next (raise 871 (modChan chan (fun x => { x with nudgeDue := none, nudge0 := clampI (-128) 127 (x.nudge0 + a), nudge1 := clampI (-128) 127 (x.nudge1 + b), ctr := { x.ctr with nudge := satAdd 0xFFFFFFFF x.ctr.nudge 1 }, delays := { x.delays with wr0 := nudged x.delays.wr0 a, wrDmi0 := nudged x.delays.wrDmi0 a, wr1 := nudged x.delays.wr1 b, wrDmi1 := nudged x.delays.wrDmi1 b, rd0 := nudged x.delays.rd0 a, rd1 := nudged x.delays.rd1 b }, retrain := true }) s))) ∧
  (∀ (chan : Fin 16) (s : State), okNudgePauses chan s →
    exec (.nudgeApply chan) s = .next (s)) ∧
  (∀ (codes bands : List Nat) (s : State),
    exec (.mr4Poll codes bands) s = .next (withUsable (forUpTo 16 (fun c s => pollChannel c (hottest s c codes bands).1 (hottest s c codes bands).2 s)) s)) ∧
  (∀ (c code band : Nat) (s : State), (chanAt s c).trained = true → (chanAt s c).mult < bandMult band → band < 3 →
    pollChannel c code band s = raise 869 (modChan c (fun x => { x with mult := bandMult band, lowPolls := [], dramTemp := code % 256, above105 := false }) s)) ∧
  (∀ (c r : Nat) (codes bands : List Nat) (s : State), r < s.fs.cfg.ranks → bands.getD (s.fs.cfg.ranks * c + r) 0 ≤ (hottest s c codes bands).2) ∧
  (∀ (c : Nat) (s : State), okMigrationGranuleCopy c s →
    let t := forUpTo 4 (fun i => copyLine (fsaOf c (256 * s.fs.migrateNext) / 64 + i)) s
    exec .migrationGranuleCopy s = .next (modChan c (fun x => { x with migrated := (s.fs.migrateNext + 1) * 1000 / chanGranules s }) { t with fs := { t.fs with migrateNext := s.fs.migrateNext + 1 } })) ∧
  (∀ (line : Nat) (s : State), 131072 ≤ line → (fsReadLine line s).1.length = 64 →
    lineBytes (copyLine line s) line = (fsReadLine line s).1 ∧ tabGet (copyLine line s).fs.ecc line = { poison := (fsReadLine line s).2.1 }) ∧
  (∀ (c : Nat) (s : State), okMigrationComplete c s →
    exec .migrationComplete s = .next (finishRetire (raise 873 (modChan c (fun x => { x with state := .retired, migrated := 0 }) s)))) ∧
  (∀ (chan : Fin 16) (rank : Fin 2) (s : State), okRankPowerDownEntry chan rank s →
    exec (.rankPowerDownEntry chan rank) s = .next (modChan chan (fun x => { x with pdRanks := x.pdRanks ++ [rank.val] }) s)) ∧
  (∀ (chan : Fin 16) (s : State), okChannelFail chan s →
    exec (.channelFail chan) s = .next (raise 995 (logFault 8 chan 0 (withUsable (fun s => modChan chan (fun x => { x with state := .failed }) s) s)))) ∧
  (∀ (chan : Fin 16) (s : State), okChannelFailRetires chan s →
    exec (.channelFail chan) s = .next (startRetire chan (raise 995 (logFault 8 chan 0 (withUsable (fun s => modChan chan (fun x => { x with state := .failed }) s) s))))) ∧
  (∀ (chan : Fin 16) (s : State), okChannelFailRetiring chan s →
    exec (.channelFail chan) s = .next (raise 995 (logFault 8 chan 0 (modChan chan (fun x => { x with dead := true }) s))))

/-- An acquire takes the longest FREE buffer of its pool, or fails with event 899 (R168, R171); publish and discard by the owner and the reference rules are the ledger's operations (R168, R173, R174); a release of a buffer by a token that is not its owner has no effect but the error record and event 897, and one by an old token none at all (R174); a drained agent's tokens are reclaimed (R175). The model's own choices behind it: log entries 8, 61, 62, 215 and 216. -/
def Obligations.LedgerEvents : Prop :=
  (∀ (cls : Fin 16) (inst : Fin 32) (pool : Fin 64) (b : Nat) (rc : Bool) (s : State), okLedgerAcquired cls inst pool b rc s →
    exec (.ledgerAcquire cls inst pool) s = .next (lowCheck pool (modPool pool (fun q => { q with ctr := { q.ctr with acq := satAdd 0xFFFFFFFF q.ctr.acq 1, reclaim := if rc then satAdd 0xFFFFFFFF q.ctr.reclaim 1 else q.ctr.reclaim } }) (modBuf b (fun x => { x with state := .owned, owner := agentToken s cls inst, valid := 0, holeReads := 0 }) s)))) ∧
  (∀ (cls : Fin 16) (inst : Fin 32) (pool : Fin 64) (s : State), okLedgerEmpty cls inst pool s →
    exec (.ledgerAcquire cls inst pool) s = .next (raise 899 (modPool pool (fun q => { q with ctr := { q.ctr with empty := satAdd 0xFFFFFFFF q.ctr.empty 1 } }) s))) ∧
  (∀ (cls : Fin 16) (inst : Fin 32) (buf : Fin 4096) (frame capSec capNs p : Nat) (s : State), okLedgerPublish cls inst buf frame capSec capNs p s →
    exec (.ledgerPublish cls inst buf frame capSec capNs) s = .next (lowCheck p (keepRule p (recPublished p buf (modBuf buf (fun x => { x with state := .published, owner := 0, frame := frame, capSec := capSec, capNs := capNs, pubSeq := s.ledger.seq }) { s with ledger := { s.ledger with seq := s.ledger.seq + 1 } }))))) ∧
  (∀ (cls : Fin 16) (inst : Fin 32) (buf : Fin 4096) (frame capSec capNs : Nat) (s : State), okLedgerPublishRejected cls inst buf frame capSec capNs s →
    exec (.ledgerPublish cls inst buf frame capSec capNs) s = .next (releaseError buf (agentToken s cls inst) true s)) ∧
  (∀ (cls : Fin 16) (inst : Fin 32) (buf : Fin 4096) (s : State), okLedgerDiscard cls inst buf s →
    exec (.ledgerDiscard cls inst buf) s = .next (lowCheckOf buf (freeBuf buf s))) ∧
  (∀ (cls : Fin 16) (inst : Fin 32) (buf : Fin 4096) (s : State), okLedgerDiscardIgnored cls inst buf s →
    exec (.ledgerDiscard cls inst buf) s = .next (releaseError buf (agentToken s cls inst) false s)) ∧
  (∀ (cls : Fin 16) (inst : Fin 32) (buf : Fin 4096) (follow : Bool) (s : State), okLedgerRefTake cls inst buf follow s →
    exec (.ledgerRefTake cls inst buf follow) s = .next (lowCheckOf buf { s with ledger := { s.ledger with refs := s.ledger.refs ++ [{ buf := buf, token := agentToken s cls inst }] } })) ∧
  (∀ (cls : Fin 16) (inst : Fin 32) (buf : Fin 4096) (follow : Bool) (e : Nat) (s : State), okLedgerRefTakeFull cls inst buf follow e s →
    exec (.ledgerRefTake cls inst buf follow) s = .next (raise 901 s)) ∧
  (∀ (cls : Fin 16) (inst : Fin 32) (buf : Fin 4096) (s : State), okLedgerRefRelease cls inst buf s →
    exec (.ledgerRefRelease cls inst buf) s = .next (afterRelease buf { s with ledger := { s.ledger with refs := dropRef buf (agentToken s cls inst) s.ledger.refs } })) ∧
  (∀ (b tok : Nat) (s : State) (f : State → State), tokStale s tok = true →
    underRelease (writerCase s b tok) b tok f s = (.stale, s) ∧ underRelease (releaseCase s b tok) b tok f s = (.stale, s)) ∧
  (∀ (cls : Fin 16) (inst : Fin 32) (tok : Nat) (s : State), okAgentResetReclaim cls inst tok s →
    exec (.agentResetReclaim cls inst) s = .next (reclaimToken tok { s with ledger := { s.ledger with drains := [] } }))

/-- A BAR2 access goes to the frame store at the aperture's base: a read of a stored line returns its bytes and a write changes them, a line at a time (R586 to R588); either is held where the host interface is off. The model's own choices behind it: log entries 8, 44, 179 and 180. -/
def Obligations.ApertureEvents : Prop :=
  (∀ (offset : Fin 268435456) (line : Nat) (s : State), okBar2ReadLine offset line s →
    exec (.bar2Read offset 64) s = .next (modHost (fun h => { h with readBytes := lineBytes s line }) (wakeRank (placeOf s (64 * (line))).1 (placeOf s (64 * (line))).2 s))) ∧
  (∀ (offset : Fin 268435456) (line : Nat) (s : State), okBar2ReadOff offset line s →
    exec (.bar2Read offset 64) s = .next (modHost (fun h => { h with readBytes := List.replicate 64 0 }) (apFlag 4 s))) ∧
  (∀ (offset : Fin 268435456) (line : Nat) (data : List Byte) (s : State), okBar2WriteLine offset line data s →
    exec (.bar2Write offset data (List.replicate 64 true)) s = .next (fsWriteLine line 0 data s)) ∧
  (∀ (offset : Fin 268435456) (line : Nat) (data : List Byte) (s : State), okBar2WriteMap offset line data s →
    exec (.bar2Write offset data (List.replicate 64 true)) s = .next (apFlag 2 s))

/-- A marker on a lane that is in step records its fields, and what the FEC counted with it (R187, R190, R210); a lane goes where its marker names it (R187); a peer that reports UP on every deskewed lane brings an aligned link UP with event 0 (R188); a link that does not come UP adapts again and counts a retry (R188); a lane fault shows its cause and without a spare takes the link down (R190, R191); CDR lock returns (R190); a marker point completes its period, advances the sequence and sends a marker on each lane (R186); an Ethernet link follows its PCS and fault signals and sends remote fault while its receive side is faulted (R189). The model's own choices behind it: log entries 8, 64, 175, 184, 185 and 189. -/
def Obligations.LinkEvents : Prop :=
  (∀ (lane : Fin 24) (m logical group seq linkState : Nat) (fec : FecCounts) (s : State), okKmlMarkerReceived lane m logical group seq linkState fec s →
    exec (.kmlMarkerReceived lane logical group 0 seq { linkState := linkState, fec := fec }) s = .next (modMac m (fun x => { x with lk := { x.lk with peerDown := 0, peerRlf := 0 } }) (recordMarker m lane group seq (countFec m { fec with codewords := markerCodewords (laneAt s lane) seq fec.codewords } s)))) ∧
  (∀ (m n group seq : Nat) (s : State), n < 24 → laneAt (recordMarker m n group seq s) n = { laneAt s n with signal := true, cdr := true, marker := true, fault := false, seq := seq % 65536, seqAt := runTime s, groupOk := decide (group = (macAt s m).cfg.linkId) } ∧
    (macAt (recordMarker m n group seq s) m).lk.idMismatch = groupDiffers (recordMarker m n group seq s) (macAt s m)) ∧
  (∀ (m n k : Nat) (s : State), n ∈ macLanes (macAt s m) → (macLanes (macAt s m) ++ spareLanes (macAt s m)).Nodup →
    (laneAt (placeLane m n k s) n).rxLogical = k ∧ ∀ j ∈ macLanes (macAt s m), j ≠ n → k ≠ 15 → (laneAt (placeLane m n k s) j).rxLogical ≠ k) ∧
  (∀ (mac : Fin 16) (s : State), okAdaptTimeout mac s →
    exec (.adaptTimeout mac) s = .next (readapt mac (modMac mac (fun x => { x with lk := { x.lk with retries := satAdd 65535 x.lk.retries 1 } }) s))) ∧
  (∀ (lane : Fin 24) (m : Nat) (cause : Fin 4) (s : State), okLaneFaultPlain lane m cause s →
    exec (.laneFault { lane := lane, cause := cause }) s = .next (raiseMac m 3 (modLane lane (faultedLane cause) s))) ∧
  (∀ (lane : Fin 24) (m : Nat) (cause : Fin 4) (s : State), okLaneFaultNotUp lane m cause s →
    let u := raiseMac m 3 (modLane lane (faultedLane cause) s)
    exec (.laneFault { lane := lane, cause := cause }) s = .next (modMac m (fun x => { x with lk := { x.lk with idMismatch := groupDiffers u (macAt u m) } }) u)) ∧
  (∀ (lane : Fin 24) (m : Nat) (cause : Fin 4) (s : State), okLaneFaultNoSpare lane m cause s →
    let u := raiseMac m 3 (modLane lane (faultedLane cause) s)
    exec (.laneFault { lane := lane, cause := cause }) s = .next (linkLost m (modMac m (fun x => { x with lk := { x.lk with idMismatch := groupDiffers u (macAt u m), rlf := 1 } }) u))) ∧
  (∀ (lane : Fin 24) (s : State),
    exec (.laneCdrLock lane) s = .next (modLane lane (fun x => { x with signal := true, cdr := true, fault := if (laneAt s lane).use ≠ 0 ∧ !isKml (macAt s (laneAt s lane).mac) then false else x.fault }) s)) ∧
  (∀ (mac : Fin 16) (s : State), okTxMarkerPoint mac s →
    exec (.txMarkerPoint mac) s = .next (sendMarkers mac (modMac mac (fun x => { x with lk := ageSwitches { x.lk with markerSeq := ((macAt s mac).lk.markerSeq + 1) % 65536 } }) (fillPeriod mac s)))) ∧
  (∀ (m n : Nat) (s : State), n ∈ macLanes (macAt s m) ++ spareLanes (macAt s m) → (macLanes (macAt s m) ++ spareLanes (macAt s m)).Nodup →
    (laneAt (sendMarkers m s) n).markerOut = markerBytes (macAt s m) (laneAt s n) ∧ (laneAt (sendMarkers m s) n).bip = 0 ∧ (macAt (sendMarkers m s) m).lk.dealt = (macAt s m).cfg.width) ∧
  (∀ (x : Mac) (l : Lane), (markerBytes x l).length = 32 ∧ (markerBytes x l).take 6 = [0xA5, 0xC3, 0x96, 0xF0, 0x0F, 0x69] ∧ (markerBytes x l).getD 6 0 = BitVec.ofNat 8 (l.txLogical % 16) ∧
    (markerBytes x l).getD 7 0 = BitVec.ofNat 8 x.cfg.linkId ∧ (markerBytes x l).getD 8 0 = BitVec.ofNat 8 x.lk.rlf ∧ (markerBytes x l).getD 12 0 = BitVec.ofNat 8 l.bip) ∧
  (∀ (b : List Nat), b.length = 20 → (codeword b).length = 544 ∧ ((codeword b).take 514 = (List.range 514).map (fun j => b.foldr (fun b a => b + 2 ^ 257 * a) 0 / 2 ^ (10 * j) % 1024))) ∧
  (∀ (mac : Fin 16) (fec : FecCounts) (s : State), okEthLinkUp mac fec s →
    exec (.ethLinkChange mac { lock := true, fec := fec } false false) s = .next (setLink mac .up (modMac mac (fun x => { x with lk := { x.lk with localFault := false, remoteFault := false, sendsRf := false } }) (countFec mac (if (macAt s mac).cfg.mode = 1 ∧ (macAt s mac).cfg.fec = 0 then { pcsErrors := fec.pcsErrors } else fec) s)))) ∧
  (∀ (mac : Fin 16) (pcsLock localFault remoteFault : Bool) (fec : FecCounts) (s : State), okEthLinkDown mac pcsLock localFault remoteFault fec s →
    exec (.ethLinkChange mac { lock := pcsLock, fec := fec } localFault remoteFault) s = .next (linkDown mac (modMac mac (fun x => { x with lk := { x.lk with localFault := localFault, remoteFault := remoteFault, sendsRf := !pcsLock || localFault } }) (countFec mac (if (macAt s mac).cfg.mode = 1 ∧ (macAt s mac).cfg.fec = 0 then { pcsErrors := fec.pcsErrors } else fec) s)))) ∧
  (∀ (m : Nat) (l : Link) (s : State), linkUp (macAt s m) = false → linkUp (macAt (modMac m (fun x => { x with lk := { x.lk with link := l } }) s) m) = true →
    setLink m l s = recFeeds m (raiseMac m 0 (modMac m (fun x => { x with lk := { x.lk with link := l } }) s)))

/-- A frame is counted by its length, its address and its type (R203, R210): one shorter than 64 bytes as a runt, one with a bad FCS as an FCS error, neither delivered (R203); a good frame is steered or filtered (R205, R206). A waiting frame starts (R194, R196); one that ends goes with its FCS and is counted (R195, R198, R210); an underrun cuts it, ends it with the complement of the FCS and raises its queue's threshold (R197). PAUSE ends and its alarm is raised once (R200, R202). A wake match is taken once (R211). The model's own choices behind it: log entries 8, 63, 175 and 191. -/
def Obligations.FrameEvents : Prop :=
  (∀ (mac : Fin 16) (frame : List Byte) (fcsOk : Bool) (s : State), okFrameShort mac frame fcsOk s →
    exec (.macFrameReceived mac frame fcsOk) s = .next (recFeeds mac (macCount mac (if fcsOk then 19 else 20) 1 s))) ∧
  (∀ (mac : Fin 16) (frame : List Byte) (s : State), okFrameBadFcs mac frame s →
    exec (.macFrameReceived mac frame false) s = .next (recFeeds mac (macCount mac 18 1 s))) ∧
  (∀ (mac : Fin 16) (frame : List Byte) (s : State), okFrameLong mac frame s →
    exec (.macFrameReceived mac frame true) s = .next (recFeeds mac (macCount mac 21 1 s))) ∧
  (∀ (mac : Fin 16) (frame : List Byte) (s : State), okFrameGood mac frame s →
    exec (.macFrameReceived mac frame true) s = .next (recFeeds mac (goodFrame mac frame (macCount mac (2 + addrType frame) 1 (macCount mac 0 (frame.length + 4) (macCount mac 1 1 (macCount mac (7 + sizeBin (frame.length + 4)) 1 s))))))) ∧
  (∀ (m : Nat) (b : List Byte) (s : State), isControl b = false → (macAt s m).cfg.role = 0 → steer (macAt s m) b = none →
    goodFrame m b s = macCount m 22 1 s) ∧
  (∀ (m q : Nat) (b : List Byte) (s : State), isControl b = true → be16 b 14 = 1 → be16 b 16 = q →
    goodFrame m b s = rxPause m q (macCount m 5 1 s)) ∧
  (∀ (m : Nat) (b : List Byte) (s : State), isControl b = false → (macAt s m).cfg.role ≠ 0 → filterPass (macAt s m) b = false → goodFrame m b s = macCount m 22 1 s) ∧
  (∀ (m : Nat) (b : List Byte) (s : State), isControl b = true → be16 b 14 ≠ 1 → goodFrame m b s = macCount m 24 1 s) ∧
  (∀ (mac : Fin 16) (queue : Fin 8) (f : TxFrame) (s : State), okTxFrameStart mac queue f s →
    exec (.txFrameStart mac queue) s = .next (recFeeds mac (modMac mac (fun x => { x with tx := { x.tx with cur := some f, waiting := x.tx.waiting.erase f, sfdAt := s.time.tb.now } }) s))) ∧
  (∀ (mac : Fin 16) (queue : Fin 8) (f : TxFrame) (s : State), okTxFrameWaits mac queue f s →
    exec (.txFrameStart mac queue) s = .next (recFeeds mac s)) ∧
  (∀ (mac : Fin 16) (bytes : Nat) (f : TxFrame) (s : State), okTxUnderrun mac bytes f s →
    exec (.txUnderrun mac bytes) s = .next (recFeeds mac (frameFailed mac f (raiseMac mac 2 (macCount mac 50 1 (onWire mac (((padded f.bytes).take bytes) ++ badFcs ((padded f.bytes).take bytes)) (modMac mac (fun x => { x with tx := { x.tx with cur := none, underQueue := f.queue, underBytes := bytes % 32768, underValid := true, queues := tabMod x.tx.queues f.queue (fun q => { q with thr := min 16384 (q.thr + 256), clean := 0 }) } }) s))))))) ∧
  (∀ (mac : Fin 16) (f : TxFrame) (s : State), okTxFrameEnd mac f s →
    let n := f.bytes.length + 4
    exec (.txFrameEnd mac) s = .next (recFeeds mac (frameSent mac f (macCount mac 32 n (macCount mac 33 1 (macCount mac (39 + sizeBin n) 1 (macCount mac (34 + addrType f.bytes) 1 (onWire mac (f.bytes ++ fcsOf f.bytes) (modMac mac (fun x => { x with tx := { x.tx with cur := none, queues := tabMod x.tx.queues f.queue cleanFrame } }) s))))))))) ∧
  (∀ (m : Nat) (b : List Byte) (s : State), isKml (macAt s m) = false → onWire m b s = modMac m (fun x => { x with tx := { x.tx with last := b } }) s) ∧
  fcsOf [0x31, 0x32, 0x33, 0x34, 0x35, 0x36, 0x37, 0x38, 0x39] = [0x26, 0x39, 0xF4, 0xCB] ∧
  (∀ (mac : Fin 16) (s : State), okPauseTimerExpiry mac s →
    exec (.pauseTimerExpiry mac) s = .next (recFeeds mac (macCount mac 52 ((runTime s - (macAt s mac).tx.pausedAt) / (1000 * nsUnits)) (modMac mac (fun x => { x with tx := { x.tx with paused := false, quanta := 0, freeAt := runTime s } }) s)))) ∧
  (∀ (mac : Fin 16) (s : State), okPauseAlarm mac s →
    exec (.pauseAlarm mac) s = .next (raiseMac mac 7 (modMac mac (fun x => { x with tx := { x.tx with alarmed := true } }) s))) ∧
  (∀ (mac : Fin 16) (s : State), okWakeDetect mac s →
    exec (.wakeDetect mac) s = .next (slWake 8 (raiseMac mac 5 (modMac mac (fun x => { x with woke := true }) s))))

/-- A frame-start takes a buffer and opens a picture; one whose format differs from the pool's is dropped (R223 to R225, R229). A packet of another picture is an orphan (R223); a good segment is stored at its place in the buffer and marks its line when the line is whole (R226). A frame-end closes the picture (R227), as the end timeout does without its CRC (R227). A status packet is sent once a marker has come (R220, R221). The model's own choices behind it: log entries 8, 65, 66, 142, 190 and 192. -/
def Obligations.IngestEvents : Prop :=
  (∀ (mac : Fin 16) (frame : List Byte) (k : Nat) (s : State), okKpiFrameStart mac frame k s →
    exec (.kpiFrameStart mac frame) s = .next (frameStart frame k (kpiOf frame) s)) ∧
  (∀ (k a b : Nat) (f p : List Byte) (s t : State), (inAt s k).state = .idle → (inAt s k).seenMarker = false → (s.time.cap.pending.getD s.time.cap.mode).drive = true → a = s.time.tb.now →
    (poolAt s (inAt s k).cfg.pool).format = beAt p 28 2 → (poolAt s (inAt s k).cfg.pool).lines = beAt p 32 2 → 0 < beAt p 36 4 → beAt p 36 4 ≤ (poolAt s (inAt s k).cfg.pool).stride →
    ledgerAcquire (inAt s k).cfg.pool (inToken s k) (finishWait (.ingestStart k) .ok 0 [] (modIn k (fun x => { x with lastFrame := beAt p 8 8, seenMarker := true, lastArrival := a, srcAddr := some ((f.drop 6).take 6), width := beAt p 30 2, ctr := { x.ctr with frameGap := wrap32 x.ctr.frameGap 0 } }) s)) = (some b, t) →
    frameStart f k p s = updateLow k (modIn k (fun x => { x with state := .opened, pic := { frame := beAt p 8 8, buffer := b, lines := (poolAt s (inAt s k).cfg.pool).lines, lineBytes := beAt p 36 4, stride := (poolAt s (inAt s k).cfg.pool).stride, base := bufBase t b, capSec := (captureOf k a p s).1, capNs := (captureOf k a p s).2.1, capFrame := (captureOf k a p s).2.2 } }) t)) ∧
  (∀ (mac : Fin 16) (frame : List Byte) (k : Nat) (s : State), okKpiLinePacket mac frame k s →
    exec (.kpiLinePacket mac frame) s = .next (linePacket k (kpiOf frame) s)) ∧
  (∀ (k line off len : Nat) (p : List Byte) (s : State), beAt p 8 2 = line → beAt p 12 4 = off → beAt p 16 2 = len →
    crc32c (p.take (20 + len)) = beAt p (20 + len) 4 → 24 + len ≤ p.length → line < (inAt s k).pic.lines → 0 < len → len ≤ 16320 →
    lineValid s (inAt s k).pic.buffer line = false → (inAt s k).pic.broken.testBit line = false → off = tabGet (inAt s k).pic.expected line → off + len < (inAt s k).pic.lineBytes →
    placeSegment k p s = modIn k (fun x => { x with pic := { x.pic with expected := tabSet x.pic.expected line (off + len) } })
      (fsWrite ((inAt s k).pic.base + line * (inAt s k).pic.stride + off) ((p.drop 20).take len) (modIn k (fun x => { x with pic := { x.pic with crc := crc32cFrom (inAt s k).pic.crc ((p.drop (20 + len)).take 4) } }) s))) ∧
  (∀ (mac : Fin 16) (frame : List Byte) (k : Nat) (s : State), okKpiFrameEnd mac frame k s →
    exec (.kpiFrameEnd mac frame) s = .next (closePicture k (some (beAt (kpiOf frame) 20 4)) s)) ∧
  (∀ (stream : Fin 4) (s : State), okKpiEndTimeout stream s →
    exec (.kpiEndTimeout stream) s = .next (closePicture stream none s)) ∧
  (∀ (stream : Fin 4) (s : State), okKpiStatusSend stream s →
    exec (.kpiStatusSend stream) s = .next (modMac (inAt s stream).cfg.mac (fun x => { x with tx := { x.tx with waiting := x.tx.waiting ++ [{ bytes := statusFrame stream s, queue := 1, owner := 3 }] } }) s))

/-- FP_GO takes the staged set of a layer that has an envelope and is on a head, and rejects any other (R259, R261); at the latch a set that passes its checks is latched and one that does not is rejected (R260). A waiting commit is checked and armed once no earlier one blocks it (R325); a fence write stores its value and readies the commits it meets (R326); a commit that is not ready after its time-out is dropped with TIMEOUT and its events (R327). The model's own choices behind it: log entries 8, 68, 76, 80, 81, 149 and 155. -/
def Obligations.FastPathAndFixerEvents : Prop :=
  (∀ (layer : Fin 64) (s : State), okFpGoTaken layer s →
    exec (.fpGo layer) s = .next (modLay layer (fun x => { x with fp := { x.fp with pending := some x.fp.staging } }) s)) ∧
  (∀ (layer : Fin 64) (s : State), okFpGoRejected layer s →
    exec (.fpGo layer) s = .next (raise (225 + 2 * layer) (modLay layer (fun x => { x with fp := { x.fp with rejected := true } }) s))) ∧
  (∀ (layer : Fin 64) (h : Nat) (f : FastSet) (s : State), okFastPathLatched layer h f s →
    exec (.fastPathLatch layer) s = .next (modLay layer (fun x => { x with fp := { x.fp with pending := none, latched := some f } }) s)) ∧
  (∀ (layer : Fin 64) (h : Nat) (f : FastSet) (s : State), okFastPathRejected layer h f s →
    exec (.fastPathLatch layer) s = .next (raise (225 + 2 * layer) (modLay layer (fun x => { x with fp := { x.fp with pending := none, rejected := true } }) s))) ∧
  (∀ (c : Cmd) (st : Status) (d : Nat) (r : List Byte) (u : State) (s : State), okCommitArmFails c st d r u s →
    exec .commitArm s = .next (powerHeads (postFinal c st d r (dropCmd c u)))) ∧
  (∀ (c : Cmd) (k : WaitFor) (u : State) (s : State), okCommitArms c k u s →
    exec .commitArm s = .next (powerHeads (modCmd c (fun x => { x with phase := .waiting k }) u))) ∧
  (∀ (fence : Fin 32) (value : BitVec 32) (s : State), okFxFenceWrite fence value s →
    exec (.fxFenceWrite fence value) s = .next (powerHeads (fxReady (modFx (fun x => { x with fences := tabSet x.fences fence value.toNat }) s)))) ∧
  (∀ (a : Armed) (s : State), okCommitTimeout a s →
    exec .commitTimeout s = .next (forEach a.heads (fun h s => raise (96 + 16 * h + 1) s) (finishWait (.commit a.id) .timeout (unmetMask s a) [] (dropArmed a s))))

/-- A frame start advances the frame number of a head whose gate is open (R314); at its latch point the ready commits that name it are bound (R328); at a blanking without commits its next frame is prepared (R328); a finished write-back is published (R333); a fetch class is the one its level gives (R253), and the requests of every agent have the class of its row (R26, R161); samples that found the reservoir empty are counted and logged (R254, R536); a line is composed in order (R252). The model's own choices behind it: log entries 8, 73, 77, 78, 79, 89, 104, 108, 150, 183 and 199. -/
def Obligations.HeadEvents : Prop :=
  (∀ (head : Fin 8) (s : State), okHeadFrameStart head s →
    let at_ := nextFrameStart s head
    let u := forEach (pairOf s head) (fun j r => modHd j (fun x => { x with frame := (hdAt s head).frame + 1, frameAt := at_, posBase := 0, posAt := at_, longBlank := false, inBlank := false, ctr := { x.ctr with frames := (x.ctr.frames + 1) % 2 ^ 32, frozen := (x.ctr.frozen + b2n (decide ((hdAt s head).wb.freeze = .frozen))) % 2 ^ 32 } }) r) s
    let v := forEach (pairOf s head) (fun j s => { s with rel := { s.rel with outputs := tabMod s.rel.outputs j (fun o => { o with chargedFrame := false }) } }) u
    let t := headPlaced head (hdAt s head) (outFrameStart head (forEach (pairOf s head) panelFrameStart (forEach (pairOf s head) sdiFrameStart (actAhead head (sigFrameStart head (forEach (pairOf s head) chargeGated v))))))
    exec (.headFrameStart head) s = .next (if (hdAt t head).inBlank = true then t else forEach (pairOf s head) (fun j s => streamFrameStart j (chargeTables j s)) t)) ∧
  (∀ (head : Fin 8) (s : State), okHeadFrameHeld head s →
    exec (.headFrameStart head) s = .next (s)) ∧
  (∀ (head : Fin 8) (s : State), okLatchPoint head s →
    exec (.latchPoint head) s = .next (modHd head (fun x => { x with latched := true }) (modFx (fun x => { x with armed := x.armed.map (fun a => if a.ready && a.heads.contains head.val && !a.landed.contains head.val && !a.bound.contains head.val then { a with bound := a.bound ++ [head.val] } else a) }) s))) ∧
  (∀ (head : Fin 8) (s : State), okHeadBlankingPlain head s →
    let v := countBlanks head (outFrameEnd head s)
    let u := slotsInRaster noRenum (if headEnabled v head then blankingBody head (headReach s head (headTarget s head (timingOf s head).vact 0)) v else v)
    exec (.headBlankingStart head) s = .next ((if (hdAt u head).inBlank = (hdAt s head).inBlank ∧ headEnabled u head = headEnabled s head then u else forEach (pairOf s head) streamBlanking (winBlanking head u)))) ∧
  (∀ (head : Fin 8) (a : Armed) (s : State), okHeadEnableStart head a s →
    let t := forEach (pairOf s head) (fun j => modHd j (fun x => { x with enabled := true, enabling := false, frame := -1 })) s
    let v := raise (96 + 16 * head + 6) (commitLand a head (joinWaiting head t))
    let u := slotsInRaster (headRenum v head) (forEach (pairOf v head) (fun j => modHd j (fun x => { x with realign := false })) (blankingBody head (firstFrameStart v head - blankLength v (timingOf v head)) v))
    exec (.headEnableStart head) s = .next ((if (hdAt u head).inBlank = (hdAt s head).inBlank ∧ headEnabled u head = headEnabled s head then u else forEach (pairOf s head) streamBlanking (winBlanking head u)))) ∧
  (∀ (head : Fin 8) (b num at_ : Nat) (u v : State) (s : State), okWritebackPublished head b num at_ u v s →
    exec (.writebackPublish head) s = .next (modHd head (fun x => { x with wb := { x.wb with last := some b, lastNum := b } }) v)) ∧
  (∀ (head : Fin 8) (b : Nat) (s : State), okWritebackEarly head b s →
    exec (.writebackPublish head) s = .next (publishFrame head (b, ((hdAt s head).frame % 2 ^ 64).toNat, (hdAt s head).frameAt) (modHd head (fun x => { x with wb := { x.wb with buf := none, captured := if x.wb.freeze = .capture then some b else none } }) s))) ∧
  (∀ (head : Fin 8) (level : Nat) (s : State), okFetchClassPlain head level s →
    exec (.fetchClassChange head level) s = .next (modHd head (fun x => { x with res := { x.res with cls := 0, scanned := (hdAt s (lowerOf s head)).composed * (hdAt s (lowerOf s head)).cfg.timing.hact - level, minRun := if (hdAt s (lowerOf s head)).inBlank then x.res.minRun else min x.res.minRun level, u3Raised := x.res.u3Raised || false }, ctr := { x.ctr with u2 := (x.ctr.u2 + 0) % 2 ^ 32, u3 := (x.ctr.u3 + 0) % 2 ^ 32 } }) s)) ∧
  (∀ (head : Fin 8) (level : Nat) (s : State), okFetchClassCritical head level s →
    exec (.fetchClassChange head level) s = .next (raise (96 + 16 * head + 14) (modHd head (fun x => { x with res := { x.res with cls := 2, scanned := (hdAt s (lowerOf s head)).composed * (hdAt s (lowerOf s head)).cfg.timing.hact - level, minRun := if (hdAt s (lowerOf s head)).inBlank then x.res.minRun else min x.res.minRun level, u3Raised := true }, ctr := { x.ctr with u2 := (x.ctr.u2 + 0) % 2 ^ 32, u3 := (x.ctr.u3 + 1) % 2 ^ 32 } }) s))) ∧
  (∀ (s : State) (n : Nat), requestClass s (.fetch n) = (if (hdAt s n).res.cls = 0 then .rt else if (hdAt s n).res.cls = 1 then .u2 else .u3) ∧
    (∀ a ∈ [Agent.writeBack n, .ingest n, .record n, .packetizer, .psfLane n, .depack n], requestClass s a = .rt ∧ waitingClass s a true = .rt) ∧
    (∀ a ∈ [Agent.lutLoad n, .tables, .dma n, .bar2, .onyx], requestClass s a = .be ∧ waitingClass s a false = .be ∧ waitingClass s a true = .ag)) ∧
  (∀ (head : Fin 8) (pixels : Nat) (s : State), okReservoirStarved head pixels s →
    let u := forEach (pairOf s head) (fun j => chargeFrame j 15) (logFault 15 head pixels (modHd head (fun x => { x with res := { x.res with substituted := x.res.substituted + pixels, scanned := (hdAt s (lowerOf s head)).composed * (timingOf s head).hact + x.res.substituted + pixels, minRun := 0, starvedRaised := true }, ctr := { x.ctr with starved := (x.ctr.starved + pixels) % 2 ^ 32 } }) s))
    exec (.reservoirStarved head pixels) s = .next (if (hdAt s head).res.starvedRaised then u else raise (96 + 16 * head + 15) u)) ∧
  (∀ (head : Fin 8) (s : State), okHeadLineCompose head s →
    let y := (hdAt s head).composed
    let r := liveLine head (panelWidth s head (hdAt s head).cfg.timing) (hdAt s head).cfg.timing.vact y s
    let u := signLine head y r.1 r.2
    let out := actOnLine u head y r.1
    let v := forEach (pairOf s head) (resFill s) (modHd head (fun x => { x with composed := y + 1, lineOut := out.map (fun c => c.1 + 65536 * c.2.1 + 4294967296 * c.2.2), ahead := if x.inBlank then x.ahead ++ [(r.1, out)] else x.ahead }) (writeBackLine head y out u))
    exec (.headLineCompose head) s = .next (if (hdAt s head).inBlank then v else handLine head y out (clearOut head v)))

/-- A comparison that matches clears the count of misses; a mismatch is counted, and the one that reaches the limit raises FAULT with its event (R363 to R365); a clear ends a fault with its event (R365); a forced tally follows its bit (R367). An evaluation takes place when a cause is noted, and the end of the restore hold is one (R350, R354). With no plan and enough bandwidth it only records the load (R350). A slip is due on a lane whose fill leaves its limits (R380); a panel port in video starts with its head (R393). A line of an SDI stream begins with its timing reference and takes exactly the words of its format, its head line lying where the line rule puts it (R378); a DSI line with sync events takes exactly the bytes of its head line (R390). The model's own choices behind it: log entries 8, 84, 90, 145, 196 and 197. -/
def Obligations.HeadOutputEvents : Prop :=
  (∀ (head : Fin 8) (region : Fin 16) (i : Nat) (s : State), okSignatureMatches head region i s →
    exec (.signatureCompare head region) s = .next (modSig head region (fun x => { x with value := Nat.xor (sigAt s head region).run 0xFFFFFFFF, frame := ((hdAt s head).composeFrame % 2 ^ 32).toNat, compared := true, matched := true, matchIdx := i, miss := 0, good := 0, fault := false }) s)) ∧
  (∀ (head : Fin 8) (region : Fin 16) (s : State), okSignatureFaults head region s →
    exec (.signatureCompare head region) s = .next (raiseSig head 0 (modSig head region (fun x => { x with value := Nat.xor (sigAt s head region).run 0xFFFFFFFF, frame := ((hdAt s head).composeFrame % 2 ^ 32).toNat, compared := true, matched := false, miss := satAdd 255 (sigAt s head region).miss 1, good := 0, fault := true, mismatches := (x.mismatches + 1) % 2 ^ 32 }) s))) ∧
  (∀ (head : Fin 8) (region : Fin 16) (s : State), okSigClearFault head region s →
    exec (.sigClear head region) s = .next (raiseSig head 1 (modSig head region (fun x => { x with miss := 0, good := 0, fault := false }) s))) ∧
  (∀ (value : BitVec 32) (s : State), okTallyForceWrite value s →
    exec (.tallyForceWrite value) s = .next ({ s with pic := { s.pic with tallyForce := value.getLsbD 1 } })) ∧
  (∀ s : State, tallyLevel s = true ↔ s.pic.tallyForce = true ∨ ∃ h, h < 8 ∧ ∃ r, r < 16 ∧ (sigCfg s h r).tally = true ∧ (sigAt s h r).fault = true) ∧
  (∀ (s : State), okShedEvaluation s →
    exec .shedEvaluation s = .next (modShed (fun p => { p with exhausted := false, evalDue := false, shedLoad := shedLoad s [], usable := fsUsable s }) s)) ∧
  (∀ (s : State), okRestoreHoldExpiry s →
    exec .restoreHoldExpiry s = .next (modShed (fun p => { p with holding := false, exhausted := false, evalDue := false, shedLoad := shedLoad s [], usable := fsUsable s }) s)) ∧
  (∀ s : State, fsUsable s < shedLoad s s.pic.shed.taken → s.pic.shed.next < s.pic.shed.plan.length → shedLoad s (s.pic.shed.taken ++ [s.pic.shed.next]) < shedLoad s s.pic.shed.taken → ∀ n, shedTake (n + 1) false s = shedTake n true (raise 24 (shedDecision s.pic.shed.next false (shedLoad s s.pic.shed.taken - shedLoad s (s.pic.shed.taken ++ [s.pic.shed.next])) (modShed (fun q => { q with taken := q.taken ++ [s.pic.shed.next], next := s.pic.shed.next + 1 }) s)))) ∧
  (∀ (lane : Fin 8) (fill : Nat) (s : State), okSdiSlip lane fill s →
    exec (.sdiSlip lane fill) s = .next (modSdi lane (fun y => { y with fill := fill, slipDue := true }) s)) ∧
  (∀ (lane : Fin 8) (fill : Nat) (s : State), okSdiFill lane fill s →
    exec (.sdiSlip lane fill) s = .next (modSdi lane (fun y => { y with fill := fill }) s)) ∧
  (∀ (port : Fin 4) (s : State), okPanelVideoStart port s →
    let n := (timingOf s (panelAt s port).cfg.head).vact + (timingOf s (panelAt s port).cfg.head).vfp
    exec (.panelVideoStart port) s = .next (panelBlank port n (skewRate s (panelAt s port).cfg) (modPanel port (fun x => { x with running := true, dcsLine := n }) s))) ∧
  (∀ (g : SdiGeo) (stream line crc : Nat) (chroma : Bool) (hanc : List Nat) (act : List (Nat × Nat)), (act.map (·.1)).sum = g.active → g.active + 12 + hanc.length ≤ g.words →
    ((sdiLine g stream line chroma crc hanc act).1.words.map (·.1)).sum = g.words ∧ (sdiLine g stream line chroma crc hanc act).1.words.take 3 = [(1, 0x3FF), (2, 0), (1, trsWord (decide (g.fmt = 3) && decide (564 ≤ line)) (!inPicture g.fmt line) true)]) ∧
  (∀ (y : Nat), (y < 720 → structLine 1 y = y + 26 ∧ inPicture 1 (structLine 1 y) = true) ∧ (y < 1080 → structLine 2 y = y + 42 ∧ inPicture 2 (structLine 2 y) = true) ∧ (724 < y → y < 750 → structLine 1 y = y - 724) ∧ (1083 < y → y < 1125 → structLine 2 y = y - 1083)) ∧
  (∀ (c : PanelCfg) (t : Timing) (bpp m y : Nat) (skew : Bool) (body : List DsiPacket), c.mode = 1 →
    packetBytes (lineSync c t bpp m y ++ fillPacket (sampleBytes bpp (m * (t.hsync + t.hbp)) - 4) ++ body) + 6 ≤ sampleBytes bpp (m * hTotal t) →
    packetBytes (dsiLine c t bpp m y skew body).packets = sampleBytes bpp (m * hTotal t))

/-- A write of 1 to a bit of W5_COMMIT takes a snapshot of the window layers for its head (R573, R576); the palette data goes to the addressed entry and the address steps with AUTO_INC (R575); the base low word waits for the high word (R574); a pending set of a head that does not run is dropped with reason 6 (R577, R579). The model's own choices behind it: log entries 8, 43, 81 and 83. -/
def Obligations.WindowEvents : Prop :=
  (∀ (value : BitVec 16) (s : State), okW5CommitWrite value s →
    exec (.w5CommitWrite value) s = .next (setPend 0 (some { layers := s.pic.win.layers, due := 1 }) s)) ∧
  (∀ (p : WinPending) (s : State), okW5CommitArmDrops p s →
    exec .w5CommitArm s = .next (powerHeads (winDrop 0 6 0 0 s))) ∧
  (∀ (p : WinPending) (s : State), okW5CommitArms p s →
    exec .w5CommitArm s = .next (powerHeads (modShed (fun q => { q with evalDue := true }) (setPend 0 (some { p with armed := some s.pic.fx.nextId }) (modFx (fun x => { x with armed := x.armed ++ [{ id := s.pic.fx.nextId, heads := [0], ready := true, window := true, views := [(0, viewOf s 0), (0, (fun j => if j = 0 then { viewOf s 0 with lays := (layersOn s 0).filter (fun x => !winOwns s x.1) } else viewOf s j) 0)] }], nextId := s.pic.fx.nextId + 1 }) s))))) ∧
  (∀ (value : BitVec 16) (s : State), okW5PalDataWrite value s →
    exec (.w5PalDataWrite value) s = .next (modWin (fun w => { w with palAddr := s.pic.win.palAddr / 256 * 256 + (s.pic.win.palAddr + 1) % 256 }) (modWinLayer (bits s.pic.win.palAddr 8 3) (fun w => { w with pal := tabSet w.pal (s.pic.win.palAddr % 256) value.toNat }) s))) ∧
  (∀ (layer : Fin 8) (value : BitVec 16) (s : State), okW5LBaseLoWrite layer value s →
    exec (.w5LBaseLoWrite layer value) s = .next (modWinLayer layer (fun w => { w with latch := some value.toNat }) s)) ∧
  (∀ (layer : Fin 8) (value : BitVec 16) (lo : Nat) (s : State), okW5LBaseHiWrite layer value lo s →
    exec (.w5LBaseHiWrite layer value) s = .next (modWinLayer layer (fun w => { w with baseHi := value.toNat % 4096, baseLo := lo, latch := none }) s))

/-- A HELLO names the magazine and, in SEARCH, asks for its capabilities (R399, R402); a reply ends its request and moves the mount on (R401, R404); a message with an epoch not in force is only counted (R401). A commit gives credit, is counted and moves the committed count (R412); a CRC error is counted with event 7 (R408); a resend request raises event 6 (R419); a notice is acknowledged, and acted on once (R401, R420). Requests are repeated three times, then the partner is lost (R401, R402). The model's own choices behind it: log entries 8, 91, 92, 93, 95, 146, 175, 190 and 228. -/
def Obligations.KmpEvents : Prop :=
  (∀ (slot : Fin 2) (frame : List Byte) (s : State), okKmpHello slot frame s →
    exec (.kmpMessageReceived slot frame) s = .next (hrstnAfter (kmpRequest slot 0x02 0 [] (modMag slot (fun x => { x with state := .caps, helloEpoch := kmpAt frame 24 4, serial := kmpAt frame 16 8, src := some ((frame.drop 6).take 6), noPartner := false, lastHello := runTime s }) s)))) ∧
  (∀ (slot : Fin 2) (frame : List Byte) (s : State), okKmpCaps slot frame s →
    exec (.kmpMessageReceived slot frame) s = .next (hrstnAfter (mountSlot slot (modMag slot (fun x => { x with reqs := x.reqs.filter (fun r => !(decide (r.type = 2) && decide (r.seq = kmpAt frame 8 4))), maxWrite := kmpAt frame 16 2, bufferPictures := kmpAt frame 20 4, capacity := kmpAt frame 24 8, free := kmpAt frame 32 8 }) s)))) ∧
  (∀ (slot : Fin 2) (frame : List Byte) (s : State), okKmpStaleEpoch slot frame s →
    exec (.kmpMessageReceived slot frame) s = .next (hrstnAfter (modMag slot (fun x => { x with ctr := { x.ctr with stale := (x.ctr.stale + 1) % 2 ^ 32 } }) s))) ∧
  (∀ (slot : Fin 2) (frame : List Byte) (k : Copy) (s : State), okKmpCommitReceived slot frame k s →
    exec (.kmpCommitReceived slot frame) s = .next (hrstnAfter (recEval k.channel (recRelease k.channel (modCopy slot (fun k => absorb (k.ahead.length + 1) (if kmpAt frame 20 4 < k.committed ∨ k.ahead.contains (kmpAt frame 20 4) then k else { k with ahead := k.ahead ++ [kmpAt frame 20 4] })) (modMag slot (fun x => { x with ctr := { x.ctr with commit := (x.ctr.commit + 1) % 2 ^ 32 } }) (giveCredit slot (kmpAt frame 28 4) s))))))) ∧
  (∀ (slot : Fin 2) (frame : List Byte) (k : Copy) (s : State), okKmpCommitBad slot frame k s →
    exec (.kmpCommitReceived slot frame) s = .next (hrstnAfter (closeCopy slot 4 0 (modCopy slot (fun x => { x with bad := x.bad ++ [kmpAt frame 20 4] }) (raiseMag slot 7 (modMag slot (fun x => { x with ctr := { x.ctr with crcBad := (x.ctr.crcBad + 1) % 2 ^ 32 } }) (giveCredit slot (kmpAt frame 28 4) s))))))) ∧
  (∀ (slot : Fin 2) (frame : List Byte) (k : Copy) (s : State), okKmpResendGone slot frame k s →
    exec (.kmpResendReceived slot frame) s = .next (hrstnAfter (modMag slot (fun x => { x with ctr := { x.ctr with stale := (x.ctr.stale + 1) % 2 ^ 32 } }) (raiseMag slot 6 s)))) ∧
  (∀ (slot : Fin 2) (frame : List Byte) (k : Copy) (q : ClipPicture) (s : State), okKmpResendReceived slot frame k q s →
    exec (.kmpResendReceived slot frame) s = .next (hrstnAfter (resend slot q ((List.range (min 4 (kmpAt frame 24 1))).map (fun j => (kmpAt frame (28 + 12 * j) 8, kmpAt frame (36 + 12 * j) 4))) (raiseMag slot 6 s)))) ∧
  (∀ (slot : Fin 2) (frame : List Byte) (s : State), okKmpNotice slot frame s →
    exec (.kmpNoticeReceived slot frame) s = .next (hrstnAfter (raiseMag slot 4 (modMag slot (fun x => { x with noticeSeq := some (kmpAt frame 8 4), notice := 3 }) (kmpSend slot 0x31 0 (kmpAt frame 8 4) 0 [] s))))) ∧
  (∀ (slot : Fin 2) (frame : List Byte) (s : State), okKmpNoticeAgain slot frame s →
    exec (.kmpNoticeReceived slot frame) s = .next (hrstnAfter (kmpSend slot 0x31 0 (kmpAt frame 8 4) 0 [] s))) ∧
  (∀ (slot : Fin 2) (r : KmpReq) (rest : List KmpReq) (s : State), okKmpRetry slot r rest s →
    exec (.kmpRequestTimeout slot) s = .next (hrstnAfter (kmpSend slot r.type r.flags r.seq 0 r.body (modMag slot (fun x => { x with reqs := { r with retries := r.retries + 1 } :: rest, ctr := { x.ctr with retry := (x.ctr.retry + 1) % 2 ^ 32 } }) s)))) ∧
  (∀ (slot : Fin 2) (r : KmpReq) (rest : List KmpReq) (s : State), okKmpGivesUp slot r rest s →
    exec (.kmpRequestTimeout slot) s = .next (hrstnAfter (partnerLost slot s))) ∧
  (∀ (slot : Fin 2) (s : State), okKmpHelloSend slot s →
    exec (.kmpHelloSend slot) s = .next (kmpSend slot 0x01 0 0 0 (beBytes 8 s.boot.fuses.serial ++ beBytes 4 (magAt s slot).epoch) s)) ∧
  (∀ (slot : Fin 2) (s : State), okKmpHelloTimeout slot s →
    exec (.kmpHelloTimeout slot) s = .next (hrstnAfter (raiseMag slot 2 (modMag slot (fun x => { x with state := .search, reqs := [], held := [], noPartner := false, lastHello := runTime s }) s)))) ∧
  (∀ (slot : Fin 2) (s : State), okNoPartnerTimeout slot s →
    exec (.noPartnerTimeout slot) s = .next (raiseMag slot 1 (modMag slot (fun x => { x with noPartner := true }) s))) ∧
  (∀ (slot : Fin 2) (s : State), okFormatStatusTimeout slot s →
    exec (.formatStatusTimeout slot) s = .next (finishCmds (fun c => match c.phase with | .stepping (.magFormat j _) => decide (j = slot.val) | _ => false) .timeout unstated [] (slotReady slot (modMag slot (fun x => { x with reqs := [] }) s))))

/-- The main stream takes the next picture, reads it once and sends it to every coupled magazine (R412, R417); a decoupled magazine takes its own (R417); the end of a hold decouples its magazine (R417); one that has caught up is coupled again with event 4 (R418); a copy that has committed the last picture closes with STOP (R416); a clip goes on on a ready slot (R421). The stop-bath sequence begins with event 640 where VMAIN is low and a copy is open, abandons the record in hand, sends POWERFAIL closes and ends with event 641 (R423, R425). The model's own choices behind it: log entries 8, 95, 96, 97, 100, 175 and 227. -/
def Obligations.RecordEvents : Prop :=
  (∀ (chan : Fin 2) (p : ClipPicture) (s : State), okMainStreamPictureBegin chan p s →
    let t := s
    let r := readPayload p.buf (agentToken s clsRecord chan) (endHold chan s)
    exec (.mainStreamPictureBegin chan) s = .next (recEval chan (lagCheck chan (recFlags chan p r.2.1 (modRec chan (fun x => { x with main := p.idx + 1, mainFrame := (bufAt s p.buf).frame, ctr := { x.ctr with pictures := (x.ctr.pictures + 1) % 2 ^ 32 } }) (forEach (coupled s chan) (fun i s => modCopy i (fun k => { k with sending := some p.idx, next := p.idx + 1, record := some { pic := p, pay := sentPayload t chan p r.1, poison := r.2.1 } }) s) r.2.2)))))) ∧
  (∀ (chan : Fin 2) (p : ClipPicture) (s : State), okMainStreamWaits chan p s →
    exec (.mainStreamPictureBegin chan) s = .next (recEval chan s)) ∧
  (∀ (slot : Fin 2) (k : Copy) (p : ClipPicture) (s : State), okMagazineStreamPictureBegin slot k p s →
    let u := s
    let r := readPayload p.buf (agentToken s clsRecord k.channel) s
    exec (.magazineStreamPictureBegin slot) s = .next (ownFeed slot (recFlags k.channel p r.2.1 (countReread k.channel r.1.length (modCopy slot (fun k => { k with sending := some p.idx, next := p.idx + 1, record := some { pic := p, pay := sentPayload u k.channel p r.1, poison := r.2.1 } }) r.2.2))))) ∧
  (∀ (chan : Fin 2) (i t : Nat) (s : State), okHoldMaxExpiry chan i t s →
    exec (.holdMaxExpiry chan) s = .next (decouple chan i s)) ∧
  (∀ (slot : Fin 2) (k : Copy) (s : State), okMagazineRecouple slot k s →
    exec (.magazineRecouple slot) s = .next (raiseRec k.channel 4 (modCopy slot (fun k => { k with decoupled := false }) s))) ∧
  (∀ (slot : Fin 2) (k : Copy) (s : State), okCopyClose slot k s →
    exec (.copyClose slot) s = .next (hrstnAfter (closeCopy slot 0 0 s))) ∧
  (∀ (chan : Fin 2) (clip p i : Nat) (s : State), okSpanContinuation chan clip p i s →
    exec (.spanContinuation chan) s = .next (openCopy chan i clip p s)) ∧
  (∀ (s : State), okStopBathTrigger s →
    exec .stopBathTrigger s = .next (hrstnAfter (forUpTo 2 bathEnter (raise 640 { s with mag := { s.mag with bath := { state := 1, startAt := runTime s } } })))) ∧
  (∀ (s : State), okStopBathNothingSending s →
    exec .stopBathRecordDeadline s = .next (hrstnAfter s)) ∧
  (∀ (i : Nat) (s : State), okStopBathAbandons i s →
    exec .stopBathRecordDeadline s = .next (hrstnAfter (modBath (fun b => { b with abandoned := Nat.lor b.abandoned (2 ^ i) }) (modCopy i (fun k => { k with sending := none, record := none }) (modMac (magAt s i).mac (fun m => { m with tx := { m.tx with waiting := m.tx.waiting.filter (fun f => decide (f.queue ≠ 0)) } }) s))))) ∧
  (∀ (s : State), okStopBathCommitDeadline s →
    exec .stopBathCommitDeadline s = .next (hrstnAfter (forEach (bathSlots s) (fun i => closeCopy i 6 1) (modBath (fun b => { b with closingSent := true }) s)))) ∧
  (∀ (s : State), okStopBathAckDeadline s →
    exec .stopBathAckDeadline s = .next (hrstnAfter (bathComplete s)))

/-- A packet of the frame in hand is read, made and put on its ports eligible at the instant of its number and with its deadline, and its number advances (R435 to R440); after the last one the frame is released (R441, R444). A ring slot that is not filled is not sent (R445, R446). A port sends the lowest service's head (R447), or one that has waited past its limit, which is counted (R448). A paced packet that waits past its deadline is counted and reported (R440). A merge that waits past its time goes on at the nearest number held, counting those missing (R451); a path that is quiet while the other delivers is down, with event 677 (R451); the end timeout of a depacketizer closes its picture (R454). The model's own choices behind it: log entries 8, 63, 102, 107, 108, 110, 111, 112 and 175. -/
def Obligations.PacketEvents : Prop :=
  (∀ (sub : Fin 2048) (f : SubFrame) (s : State), okPacketFrameEnds sub f s →
    exec (.packetRelease sub) s = .next (frameReleased sub f s)) ∧
  (∀ (sub : Fin 2048) (f : SubFrame) (s : State), okPacketRelease sub f s →
    let k := (subAt s sub).cfg
    let y := f.next / linePackets k f.width
    let g := f.next % linePackets k f.width * k.pgroups
    let px := (pgroupOf k.sampling).2
    let r := readPixels (frameRef sub f.id) f.buf (g * px) (min k.pgroups (lineGroups k.sampling f.width - g) * px) y s
    let u := modSub sub (fun x => { x with seq := inc32 (subAt s sub).seq, cur := some { f with next := f.next + 1 } }) r.2.2
    let v := if r.2.1 then forEach (portsOf k) (fun m => chargeFrame (10 + m) 7) u else u
    exec (.packetRelease sub) s = .next (sendCopies sub f.id (releaseAt v k f) (releaseAt v k f + (if k.typeW then 8 * packetSpacing v k f.width f.lines else packetSpacing v k f.width f.lines)) true [(k.portA, pathFrame v k false (rtpPacket k (subAt s sub).seq (f.stamp.getD 0) false y (g * px) r.1))] v)) ∧
  (∀ (sub : Fin 2048) (s : State), okSlotEmpty sub s →
    exec (.unpacedSlotEligible sub) s = .next ((fsRead (ringSlot (subAt s sub).cfg (subAt s sub).ringNext) 16 s).2.2)) ∧
  (∀ (sub : Fin 2048) (h d : List Byte) (t u : State) (b : Bucket) (s : State), okSlotSent sub h d t u b s →
    let i := (subAt s sub).ringNext
    let v := modSub sub (fun x => { x with bucket := b, ids := (subAt s sub).ids + 1, holds := x.holds ++ [{ id := (subAt s sub).ids, own := some (ringSlot (subAt s sub).cfg i), complete := true }], ringNext := if x.ringNext + 1 < (subAt s sub).cfg.ringCount then x.ringNext + 1 else 0 }) u
    exec (.unpacedSlotEligible sub) s = .next (holdDone sub (subAt s sub).ids (sendCopies sub (subAt s sub).ids s.time.tb.now (s.time.tb.now + 100000 * nsUnits) false (slotFrames v (subAt s sub).cfg d) v))) ∧
  (∀ (port : Fin 16) (i : Nat) (q : StPacket) (s : State), okPortSchedule port i q s →
    exec (.portSchedule port) s = .next (handOver port q (modPort port (fun p => { p with owed := none }) s))) ∧
  (∀ (port : Fin 16) (i : Nat) (q : StPacket) (s : State), okPortPromotes port i q s →
    exec (.portSchedule port) s = .next (handOver port q (countPromotion port i (modPort port (fun p => { p with owed := none }) s)))) ∧
  (∀ (port : Fin 16) (sub : Fin 2048) (q : StPacket) (s : State), okPacedDeadlineExpiry port sub q s →
    let u := modPort port (fun p => { p with queue := p.queue.map (fun r => if r = q then { r with late := true } else r), sending := p.sending.map (fun r => if r = q then { r with late := true } else r), ctr := { p.ctr with late := inc32 p.ctr.late } }) s
    let t := modSub sub (fun x => { x with ctr := { x.ctr with late := inc32 x.ctr.late }, lateFrame := some (headFrame s (subAt s sub).cfg.head) }) u
    exec (.pacedDeadlineExpiry port sub) s = .next (chargeFrame (10 + port) 16 (logFault 16 (10 + port) sub (raise 674 { t with st := { t.st with lastSub := sub, lastSubValid := true } })))) ∧
  (∀ (flow : Fin 512) (e : Nat) (h : Held) (s : State), okMergeTimeout flow e h s →
    exec (.mergeTimeout flow) s = .next (drainFlow flow (modFlow flow (fun x => { x with next := some h.seq, ctr := { x.ctr with lost := (x.ctr.lost + (h.seq + mergeSpan (flowAt s flow).cfg - e) % mergeSpan (flowAt s flow).cfg) % 2 ^ 30 } }) s))) ∧
  (∀ (flow : Fin 512) (b : Nat) (s : State), okPathADown flow b s →
    exec (.pathDownTimeout flow false) s = .next (raise 677 (modFlow flow (fun x => { x with downA := true }) s))) ∧
  (∀ (flow : Fin 512) (a b : Nat) (s : State), okPathBDown flow a b s →
    exec (.pathDownTimeout flow true) s = .next (raise 677 (modFlow flow (fun x => { x with downB := true }) s))) ∧
  (∀ (depack : Fin 16) (s : State), okDepackEndTimeout depack s →
    exec (.depackEndTimeout depack) s = .next (closeDepack depack false s)) ∧
  (∀ (depack : Fin 16) (s : State), okDepackDropOver depack s →
    exec (.depackEndTimeout depack) s = .next (modDp depack (fun x => { x with state := .idle }) s))

/-- A Sync with a Follow_Up to come is kept, its Follow_Up gives an offset (R456, R457); a leader answers a Delay_Req (R458) and ignores an Announce, which it counts (R458); the timer sends a Sync of a leader and a Delay_Req of a slave (R458); an announce timeout raises event 714 and the port listens (R462). A LEAD is joined by a waiting device (R460, R461); a PRESENT of a new member is counted by the leader (R461); a frame with the device's own pair and another NONCE raises event 718 (R460). A further CLAIM goes out, and a claim without a lower pair makes the device leader (R460); a lead that is not heard starts a claim (R461); the announce timer sends LEAD or PRESENT (R461). The model's own choices behind it: log entries 8, 16, 17, 112, 113, 114, 115 and 190. -/
def Obligations.PtpRigEvents : Prop :=
  (∀ (port : Fin 16) (frame : List Byte) (s : State), okPtpAnnounceIgnored port frame s →
    exec (.ptpMessageReceived port frame) s = .next ({ s with st := { s.st with ptpStatus := { s.st.ptpStatus with ignored := satAdd 65535 s.st.ptpStatus.ignored 1 } } })) ∧
  (∀ (port : Fin 16) (frame : List Byte) (a : Announce) (s : State), okPtpSyncTwoStep port frame a s →
    exec (.ptpMessageReceived port frame) s = .next (modPtp port (fun p => { p with syncSeq := some (beNat (((udpPayload frame).drop 30).take 2)), syncT2 := s.time.tb.now, syncCorr := signedOf 64 (beNat (((udpPayload frame).drop 8).take 8)) / 65536 }) s)) ∧
  (∀ (port : Fin 16) (frame : List Byte) (s : State), okPtpDelayResp port frame s →
    exec (.ptpMessageReceived port frame) s = .next (ptpSend port 4 320 none (ptpHeader s port 9 54 0 (beNat (((udpPayload frame).drop 30).take 2)) 3 (ptpAt s port).cfg.logDelayReq ++ ptpStampBytes s.time.tb.now ++ ((udpPayload frame).drop 20).take 10) s)) ∧
  (∀ (port : Fin 16) (s : State), okPtpSyncSent port s →
    exec (.ptpMessageTimer port) s = .next (sendSync port s)) ∧
  (∀ (port : Fin 16) (s : State), okPtpDelayReqSent port s →
    exec (.ptpMessageTimer port) s = .next (sendDelayReq port s)) ∧
  (∀ (port : Fin 16) (s : State), okAnnounceReceiptTimeout port s →
    exec (.announceReceiptTimeout port) s = .next (setPtpState port 1 (raise 714 (modPtp port (fun p => { p with best := none, syncSeq := none, delays := [], offsets := [] }) s)))) ∧
  (∀ (port : Fin 16) (frame : List Byte) (s : State), okRigLeadHeard port frame s →
    exec (.rigFrameReceived port frame) s = .next (joinLead (beNat (((frame.drop (payloadAt frame)).drop 4).take 1), beNat (((frame.drop (payloadAt frame)).drop 8).take 8)) (beNat (((frame.drop (payloadAt frame)).drop 5).take 1)) s)) ∧
  (∀ (port : Fin 16) (frame : List Byte) (s : State), okRigPresentHeard port frame s →
    exec (.rigFrameReceived port frame) s = .next (setCount (s.st.rig.members.length + 2) (modRig (fun r => { r with members := r.members ++ [(beNat (((frame.drop (payloadAt frame)).drop 4).take 1), beNat (((frame.drop (payloadAt frame)).drop 8).take 8))], alone := false }) s))) ∧
  (∀ (port : Fin 16) (frame : List Byte) (s : State), okRigDuplicateHeard port frame s →
    exec (.rigFrameReceived port frame) s = .next (modRig (fun r => { r with sameClaim := true, anyClaim := true }) (raise 718 (modRig (fun r => { r with dupSeen := true }) s)))) ∧
  (∀ (s : State), okRigClaimAgain s →
    exec .rigClaimTimer s = .next (rigSend 1 (modRig (fun r => { r with claims := r.claims + 1 }) s))) ∧
  (∀ (s : State), okRigClaimWon s →
    exec .rigClaimTimer s = .next (becomeLeader (!s.st.rig.anyClaim) s)) ∧
  (∀ (s : State), okRigLeadTimeout s →
    exec .rigLeadTimeout s = .next (rigClaim s)) ∧
  (∀ (s : State), okRigLeadSent s →
    exec .rigAnnounceTimer s = .next (rigSend 2 s)) ∧
  (∀ (s : State), okRigPresentSent s →
    exec .rigAnnounceTimer s = .next (rigSend 3 s))

/-- A doorbell starts an idle channel on the address of its two registers, or queues it behind a running one; one that cannot be taken sets DB_ERR with its event (R475). RESUME goes on with the next chain of a halted channel (R479). A reset empties the channel and moves its GEN on (R482), with event 992 where a burst was open, and every master of the fabric has its number there (R483, R484); its completion takes the references back and sets the mode (R482). The model's own choices behind it: log entries 8, 119 and 120. -/
def Obligations.DmaChannelEvents : Prop :=
  (∀ (chan : Fin 32) (value : BitVec 32) (s : State), okDoorbellStarts chan value s →
    exec (.dcDbHiWrite chan value) s = .next (modDc chan (fun x => { x with state := .running, next := some (dbAddr (dcAt s chan).dbLo (value.toNat % 65536)) }) s)) ∧
  (∀ (chan : Fin 32) (value : BitVec 32) (s : State), okDoorbellQueues chan value s →
    exec (.dcDbHiWrite chan value) s = .next (modDc chan (fun x => { x with queue := x.queue ++ [dbAddr (dcAt s chan).dbLo (value.toNat % 65536)] }) s)) ∧
  (∀ (chan : Fin 32) (value : BitVec 32) (s : State), okDoorbellIgnored chan value s →
    exec (.dcDbHiWrite chan value) s = .next (raise (801 + 2 * chan) (modDc chan (fun x => { x with dbErr := true }) s))) ∧
  (∀ (chan : Fin 32) (a : DmaAddr) (rest : List DmaAddr) (s : State), okDcResume chan a rest s →
    exec (.dcResume chan) s = .next (modDc chan (fun x => { x with err := 0, state := .running, next := some a, queue := rest }) s)) ∧
  (∀ (chan : Fin 32) (s : State), okDcResetIdle chan s →
    exec (.dcReset chan) s = .next (resetAgent clsDma chan (modDc chan (fun x => { x with state := .resetting, queue := [], next := none, run := none, refs := [], bufs := [], inbox := [], wasRunning := false, newMode := x.newMode }) s))) ∧
  (∀ (chan : Fin 32) (w : Bool) (a : Nat) (s : State), okDcResetBurst chan w a s →
    exec (.dcReset chan) s = .next (resetAgent clsDma chan (modDc chan (fun x => { x with state := .resetting, queue := [], next := none, run := none, refs := [], bufs := [], inbox := [], wasRunning := true, newMode := x.newMode }) (raise 992 { s with dma := { s.dma with lastMaster := chan, lastWrite := w, lastValid := true, lastAddr := a } })))) ∧
  (∀ (chan : Fin 32) (s : State), okDcResetComplete chan s →
    exec (.dcResetComplete chan) s = .next (finishWait (.dmaReset chan) .ok 0 [] (raise (801 + 2 * chan) (modDc chan (fun x => { x with mode := 1, newMode := none, wasRunning := false, err := x.err, state := .idle, owner := x.owner, prod := 0, cons := 0, dropAt := none }) (agentReclaim clsDma chan s))))) ∧
  (∀ (s : State) (n addr : Nat) (w : Bool), (∀ p ∈ [(Agent.dma n, n), (.ingest n, 0x20 + n), (.record n, 0x24 + n), (.fetch n, 0x28 + n), (.writeBack n, 0x30 + n), (.packetizer, 0x38), (.depack n, 0x40 + n), (.lutLoad n, 0x50 + n), (.bar2, 0x58), (.onyx, 0x59), (.psfLane n, 0x60 + n)],
    cutBurst (p.1, w, addr) s = raise 992 { s with dma := { s.dma with lastMaster := p.2, lastWrite := w, lastValid := true, lastAddr := addr / 64 * 64 } }))

/-- A descriptor is fetched, checked and begun, or halts its channel with its ERR code (R468, R472). A turn of the next channel that wants one moves its bytes (R477); a completed descriptor is counted and, where it is last, ends its chain with the channel's event (R476, R478). A frame of a receive ring is written to its entry (R481), and a consumer write moves CONS (R481). The model's own choices behind it: log entries 8, 21, 116, 117, 118 and 121. -/
def Obligations.DmaTransferEvents : Prop :=
  (∀ (chan : Fin 32) (a : DmaAddr) (b : List Byte) (s : State), okDescriptorFetch chan a b s →
    exec (.descriptorFetch chan) s = .next (descBegin chan a b s)) ∧
  (∀ (chan : Fin 32) (a : DmaAddr) (s : State), okDescriptorOutOfRange chan a s →
    exec (.descriptorFetch chan) s = .next (raise (801 + 2 * chan) (modDc chan (fun x => { x with refs := [], bufs := [], state := .halted, err := 4, cur := a, next := none, run := none }) s))) ∧
  (∀ (n : Nat) (a : DmaAddr) (b : List Byte) (s : State), descParamBad b = true → descBegin n a b s = dcHalt n 1 a none (modDc n (fun x => { x with cur := a }) s)) ∧
  (∀ (n : Nat) (a : DmaAddr) (b : List Byte) (s t : State), descParamBad b = false → sidesOverlap (descOf b) = false → checkSides n (descOf b) (modDc n (fun x => { x with cur := a }) s) = .ok t → descBegin n a b s = modDc n (fun x => { x with run := some { desc := descOf b, at_ := a, finished := false }, next := none }) t) ∧
  (∀ (chan : Fin 32) (r : DescRun) (s : State), okDmaTurnFill chan r s →
    exec (.dmaTurn chan) s = .next (countMoved chan 4096 (modRun chan (fun x => { x with moved := 4096, finished := false }) (fsWrite (r.desc.dst.addr) (fillRun r.desc 0 4096) { s with dma := { s.dma with served := chan } })))) ∧
  (∀ (chan : Fin 32) (r : DescRun) (s : State), okDescriptorLast chan r s →
    exec (.descriptorComplete chan) s = .next (dcNextChain chan (modDc chan (fun x => { x with chains := (x.chains + 1) % 2 ^ 32 }) (raise (800 + 2 * chan) (modDc chan (fun x => { x with refs := [], bufs := [], run := none, cur := r.at_, done := (x.done + 1) % 2 ^ 32 }) s))))) ∧
  (∀ (chan : Fin 32) (f : RingFrame) (rest : List RingFrame) (t : State) (s : State), okRingFrameWritten chan f rest t s →
    exec (.ringFrameWrite chan) s = .next (modDc chan (fun x => { x with prod := ((dcAt s chan).prod + 1) % 65536, inbox := rest }) t)) ∧
  (∀ (chan : Fin 32) (value : BitVec 32) (s : State), okRingConsMoves chan value s →
    exec (.dcRingConsWrite chan value) s = .next (modDc chan (fun x => { x with cons := value.toNat % 65536 }) s)) ∧
  (∀ (chan : Fin 32) (value : BitVec 32) (s : State), okRingConsIgnored chan value s →
    exec (.dcRingConsWrite chan value) s = .next (modDc chan (fun x => { x with dbErr := true }) s))

/-- A raise of a source that is not reserved goes to both views (R487). A group whose sum is set and which is armed sends one message, is disarmed and is counted (R495); REARM arms (R496); a hold-off write ends its timer (R497), as an expiry does (R497). A claim gives the lowest enabled pending number and takes it in service (R498), or 1023 (R499); its completion ends the service, and any other number sets COMPLETE_ERR (R498). An edge on an input is recorded with its instant and raises its source (R491, R492). The model's own choices behind it: log entries 8 and 47. -/
def Obligations.EventUnitEvents : Prop :=
  (∀ (source : Fin 1024) (s : State), okEventRaise source s →
    exec (.eventRaise source) s = .next (raise source s)) ∧
  (∀ (group : Fin 32) (s : State), okMsiXSend group s →
    exec (.msiXSend group) s = .next (modEv (fun e => { e with armed := e.armed &&& ~~~ groupBit group, running := if tabGet e.holdoff group = 0 then e.running else e.running ||| groupBit group, msgs := tabMod e.msgs group (fun n => (n + 1) % 2 ^ 32), pba := e.pba &&& ~~~ groupBit group }) (hostPoke (tabGet s.ev.table group).addr (leBytes 4 (tabGet s.ev.table group).data) s))) ∧
  (∀ (value : BitVec 32) (s : State), okEvtRearmWrite value s →
    exec (.evtRearmWrite value) s = .next (modEv (fun e => { e with armed := e.armed ||| value }) s)) ∧
  (∀ (group : Fin 32) (value : BitVec 32) (s : State), okEvtHoldoffWrite group value s →
    exec (.evtHoldoffWrite group value) s = .next (modEv (fun e => { e with holdoff := tabSet e.holdoff group (value.toNat % 65536), running := e.running &&& ~~~ groupBit group }) s)) ∧
  (∀ (group : Fin 32) (s : State),
    exec (.holdoffExpiry group) s = .next (modEv (fun e => { e with running := e.running &&& ~~~ groupBit group }) s)) ∧
  (∀ (n : Nat) (s : State), okEvcClaimRead n s →
    exec .evcClaimRead s = .next (modEv (fun e => { e with inService := some n, claim := n, evcPend := tabMod e.evcPend (n / 32) (fun w => w &&& ~~~ sourceBit n) }) s)) ∧
  (∀ (s : State), okEvcClaimSpurious s →
    exec .evcClaimRead s = .next (modEv (fun e => { e with claim := 1023, spurious := satAdd 65535 e.spurious 1 }) s)) ∧
  (∀ (number : Fin 1024) (s : State), okEvcCompleteWrite number s →
    exec (.evcCompleteWrite number) s = .next (modEv (fun e => { e with inService := none }) s)) ∧
  (∀ (number : Fin 1024) (s : State), okEvcCompleteWrong number s →
    exec (.evcCompleteWrite number) s = .next (modEv (fun e => { e with completeErr := true }) s)) ∧
  (∀ (pin : Fin 16) (firstSample : Nat) (s : State), okEviRises pin firstSample s →
    exec (.eviEdge pin firstSample) s = .next (raise (960 + pin) (modEv (fun e => { e with pins := tabSet e.pins pin { eviAt s pin with level := true, ball := !(eviAt s pin).invert, count := ((eviAt s pin).count + 1) % 65536, sec := firstSample / secUnits % 2 ^ 48, ns := firstSample % secUnits / nsUnits } }) s))) ∧
  (∀ (pin : Fin 16) (firstSample : Nat) (s : State), okEviFalls pin firstSample s →
    exec (.eviEdge pin firstSample) s = .next (modEv (fun e => { e with pins := tabSet e.pins pin { eviAt s pin with level := false, ball := (eviAt s pin).invert, count := ((eviAt s pin).count + 1) % 65536, sec := firstSample / secUnits % 2 ^ 48, ns := firstSample % secUnits / nsUnits } }) s))

/-- A request with leave commits its cost and queues its switch, and one without is refused and latched (R511, R512, R518). The head of the queue switches where the step limit allows it, and is delayed once otherwise (R505, R513). A loaded domain counts a reload with event 30 and its units act (R543). STANDBY wakes to IDLE with event 0 (R509); HOLDUP ends with event 4 when VMAIN is back (R521). The model's own choices behind it: log entries 8, 123, 124, 126 and 175. -/
def Obligations.PowerEvents : Prop :=
  (∀ (domain : Fin 32) (cost step : Nat) (s : State), okPowerGranted domain cost step s →
    exec (.powerRequest domain cost step) s = .next (givePower { doms := [(domain, cost, step)] } s)) ∧
  (∀ (domain : Fin 32) (cost step : Nat) (r : Nat × Nat) (s : State), okPowerDenied domain cost step r s →
    exec (.powerRequest domain cost step) s = .next (raise 1 (modPwr (fun p => { p with denyReason := r.1, denyDomain := domain, denyExcess := r.2, denyValid := true, ctr := { p.ctr with deny := (p.ctr.deny + 1) % 2 ^ 32 } }) s))) ∧
  (∀ (domain : Fin 32) (cost step : Nat) (s : State), okPowerWaits domain cost step s →
    exec (.powerRequest domain cost step) s = .next (modPwr (fun p => { p with waiting := p.waiting ++ [(domain.val, cost, step)] }) s)) ∧
  (∀ (q : Switch) (rest : List Switch) (s : State), okDomainSwitchesOn q rest s →
    exec .domainSwitch s = .next (setLevel q.domain .on (modPwr (fun p => { p with queue := rest, window := p.window.filter (fun w => decide (runTime s < w.1 + 1000000 * nsUnits)) ++ [(runTime s, q.step)] }) s))) ∧
  (∀ (q : Switch) (rest : List Switch) (s : State), okDomainSwitchDelayed q rest s →
    exec .domainSwitch s = .next (modPwr (fun p => { p with queue := { q with delayed := true } :: rest, ctr := { p.ctr with delay := (p.ctr.delay + 1) % 2 ^ 32 } }) s)) ∧
  (∀ (domain : Fin 32) (s : State), okDomainLoad domain s →
    let t := modDom domain (fun x => { x with loading := false, epoch := s.rel.epoch }) s
    exec (.domainLoad domain) s = .next (domainReady domain (raise 30 { t with rel := { t.rel with reloads := (t.rel.reloads + 1) % 2 ^ 32 } }))) ∧
  (∀ (s : State), okStandbyWake s →
    let t := forEach [11, 12, 13, 14] (fun d => givePower { doms := [(d, 1500, 1200)] }) (forEach [1, 2, 30, 31] (fun d s => modDom d (fun x => { x with level := .on, loading := false, cost := baseCost d }) s) s)
    let v := raise 0 (updateOver (evRestore (modPwr (fun p => { p with wakeDue := false, waking := true, state := .idle, ctr := { p.ctr with switch := (p.ctr.switch + 4) % 2 ^ 32 } }) t)))
    exec .standbyWake s = .next ({ v with fs := { v.fs with chans := (List.range 16).foldl (fun t c => tabMod t c (fun x => { x with trained := x.trained && decide (x.state = .failed), retrain := false, selfRefresh := false })) v.fs.chans, up := false } })) ∧
  (∀ (s : State), okHoldupExit s →
    exec .holdupExit s = .next (raise 4 (modPwr (fun p => { p with holdup := false }) s)))

/-- A comparator change is recorded with its event and is a wake source (R528, R530); a supply switchover is counted (R523); the Safelight reset leaves its registers at their reset values (R525); a second loads or advances the clock and compares the alarm (R526, R530); an enabled wake source sets its cause (R530); a read of the high seconds latches the rest (R526); the Safelight timecode counts a frame while no generator runs (R527). A write of 1 to PWR_WAKE in STANDBY wakes the device (R509). The model's own choices behind it: log entries 8, 26, 135, 175, 202 and 233. -/
def Obligations.SafelightEvents : Prop :=
  (∀ (value : BitVec 32) (s : State), okPwrWakeWrite value s →
    exec (.pwrWakeWrite value) s = .next (modPwr (fun p => { p with wakeDue := true }) (modSl (fun l => { l with wakeCause := Nat.lor l.wakeCause 512 }) s))) ∧
  (∀ (comparator : Fin 6) (s : State), okComparatorPlain comparator s →
    exec (.comparatorChange comparator) s = .next (raise (976 + comparator) (modSl (fun l => { l with cmps := tabSet l.cmps comparator { tabGet s.sl.cmps comparator with state := !(tabGet s.sl.cmps comparator).state, changed := true } }) s))) ∧
  (∀ (comparator : Fin 6) (s : State), okComparatorHot comparator s →
    exec (.comparatorChange comparator) s = .next (modSl (fun l => { l with wakeCause := Nat.lor l.wakeCause 16 }) (raise 980 (modSl (fun l => { l with cmps := tabSet l.cmps 4 { tabGet s.sl.cmps 4 with state := !(tabGet s.sl.cmps 4).state, changed := true } }) s)))) ∧
  (∀ (s : State), okVsafeToBattery s →
    exec (.vsafeSwitchover true) s = .next (modSl (fun l => { l with onBattery := true, switchovers := satAdd 255 l.switchovers 1 }) s)) ∧
  (∀ (s : State), okVsafeToSupply s →
    exec (.vsafeSwitchover false) s = .next (modSl (fun l => { l with onBattery := false }) s)) ∧
  (∀ s : State, ∃ t, exec .safelightReset s = .next t ∧ t = { s with sl := t.sl, power := { s.power with wakeDue := false }, ev := { s.ev with recorded := s.ev.recorded.filter (fun n => decide (sourceDomains s n = [4])) }, host := { s.host with spiOut := [] } } ∧ t.sl.timeValid = ({} : Safelight).timeValid ∧ t.sl.tcValid = ({} : Safelight).tcValid ∧ t.sl.rtcSec = ({} : Safelight).rtcSec ∧ t.sl.wakeEn = ({} : Safelight).wakeEn ∧ t.sl.wakeCause = ({} : Safelight).wakeCause ∧ t.sl.alarm = ({} : Safelight).alarm ∧ t.sl.slReset = ({} : Safelight).slReset ∧ t.sl.onBattery = s.sl.onBattery) ∧
  (∀ (s : State), okRtcCounts s →
    exec .rtcSecond s = .next (modSl (fun l => { l with rtcSec := (l.rtcSec + 1) % 2 ^ 48, secAt := runTime s }) s)) ∧
  (∀ (s : State), okRtcLoads s →
    exec .rtcSecond s = .next (modSl (fun l => { l with rtcSec := s.time.tb.now / secUnits % 2 ^ 48, secAt := runTime s, timeValid := true }) s)) ∧
  (∀ (source : Fin 9) (s : State), okSafelightWake source s →
    exec (.safelightWake source) s = .next (modSl (fun l => { l with wakeCause := Nat.lor l.wakeCause (2 ^ source.val) }) s)) ∧
  (∀ (s : State),
    exec (.rtcSecHiRead false) s = .next (setRead (s.sl.rtcSec / 2 ^ 32) (modSl (fun l => { l with latchBar := (l.rtcSec % 2 ^ 32, rtcSub s) }) s))) ∧
  (∀ (s : State),
    exec (.rtcSecHiRead true) s = .next (setRead (s.sl.rtcSec / 2 ^ 32) (modSl (fun l => { l with latchSpi := (l.rtcSec % 2 ^ 32, rtcSub s) }) s))) ∧
  (∀ (s : State), okSafelightTcFrame s →
    let t := tcOfCount { base := s.sl.tcBase, drop := s.sl.tcDrop } (tcCount { base := s.sl.tcBase, drop := s.sl.tcDrop } { hh := s.sl.tcHh, mm := s.sl.tcMm, ss := s.sl.tcSs, ff := s.sl.tcFf } + 1)
    exec .safelightTcFrame s = .next (modSl (fun l => { l with tcHh := t.hh, tcMm := t.mm, tcSs := t.ss, tcFf := t.ff }) s))

/-- An availability tick counts the seconds of every output and ends the commands that wait for it (R534). A corrected memory error is counted and logged once a tick with event 993; an uncorrected one is counted, has the effect of its kind and raises event 994 (R536, R538). Changes of the timebase state, refusals, shedding decisions, ingest drops and signature faults charge no output (R535). The model's own choices behind it: log entries 8 and 134. -/
def Obligations.FaultEvents : Prop :=
  (∀ (s : State),
    let t := forUpTo 26 tickOutput s
    exec .availTick s = .next (finishWait .availTick .ok 0 [] { t with rel := { t.rel with clearMask := 0, ceThisTick := false } })) ∧
  (∀ (kind unit detail : Nat) (s : State), okSramCorrected kind unit detail s →
    exec (.sramError kind unit detail true) s = .next (raise 993 (logFault 9 255 0 { s with rel := { s.rel with sramCe := (s.rel.sramCe + 1) % 2 ^ 32, ceThisTick := true } }))) ∧
  (∀ (b : Nat) (s : State),
    exec (.sramError 12 0 b false) s = .next (raise 994 (logFault 12 255 (bufBase s b / 64 % 2 ^ 32) (lowCheckOf b (modBuf b (fun x => { x with state := .quarantined, owner := 0 }) { s with rel := { s.rel with sramUe := (s.rel.sramUe + 1) % 2 ^ 32 } }))))) ∧
  (∀ (n : Nat) (s : State),
    exec (.sramError 14 0 n false) s = .next (raise 994 (logFault 14 255 0 (disarmed (modSlot n (fun x => { x with enabled := false, armed := none, refused := true }) { s with rel := { s.rel with sramUe := (s.rel.sramUe + 1) % 2 ^ 32 } }))))) ∧
  (∀ (s : State) (t : TbState) (n k u frame saving h r : Nat) (x : Resp) (b : Bool),
    (setTbState t s).rel = s.rel ∧ (postResp n x s).rel = s.rel ∧ (shedDecision u b saving s).rel = s.rel ∧ (dropPicture k frame true s).rel = s.rel ∧ (countUnbound b s).rel = s.rel ∧
    (signatureCompare h r s).rel = s.rel)

/-- Resets start the device anew and boot it by its straps (R549, R552, R557): PORn, HRSTn and the boot watchdog each with its code; a pulse that is too short is ignored. A hot reset resets the host's view and is counted (R551). Firmware that is ready starts the device (R561, R562); the locks of SEC_CTRL are set once (R566, R567); a push that fails gives its code (R558). The model's own choices behind it: log entries 8, 21, 34, 46, 127, 128, 132, 152 and 175. -/
def Obligations.BootEvents : Prop :=
  (∀ (strap : Fin 4) (widthNs : Nat) (s : State), okPornReset strap widthNs s →
    exec (.pornReset strap widthNs) s = .next (deviceReset 0 strap 0 0 s)) ∧
  (∀ (strap : Fin 4) (widthNs : Nat) (s : State), okPornIgnored strap widthNs s →
    exec (.pornReset strap widthNs) s = .next (s)) ∧
  (∀ (strap : Fin 4) (widthNs : Nat) (s : State), okHrstnReset strap widthNs s →
    exec (.hrstnReset strap widthNs) s = .next (deviceReset 1 strap s.boot.wdtCount 0 s)) ∧
  (∀ (strap : Fin 4) (widthNs : Nat) (s : State), okHrstnDeferred strap widthNs s →
    exec (.hrstnReset strap widthNs) s = .next (modBoot (fun b => { b with hrstDue := some strap }) s)) ∧
  (∀ (s : State),
    exec .pcieHotReset s = .next (modBoot (fun b => { b with hotCount := (b.hotCount + 1) % 2 ^ 32 }) (dropUnready (fastPathDiscard (hostViewReset (forUpTo 28 dcReset (forUpTo 16 mailboxReset (modHost (fun h => { mem := h.mem, readData := h.readData, readBytes := h.readBytes, spiOut := h.spiOut }) s)))))))) ∧
  (∀ (strap : Fin 4) (s : State), okBootWatchdogExpiry strap s →
    exec (.bootWatchdogExpiry strap) s = .next (deviceReset 2 strap (min 15 (s.boot.wdtCount + 1)) s.boot.hotCount s)) ∧
  (∀ (value : BitVec 32) (img : List Byte) (s : State), okBootPushFails value img s →
    exec (.bootPushGo value) s = .next (modBoot (fun b => { b with stage := 7, result := verifyImage s.boot.fuses (some img) }) s)) ∧
  (∀ (value : BitVec 32) (s : State), okBootPushWaits value s →
    exec (.bootPushGo value) s = .next (modBoot (fun b => { b with stage := 1 }) s)) ∧
  (∀ (s : State), okFirmwareReady s →
    let u := startSynths (loadTimebase s)
    let v := modBoot (fun b => { b with ready := true, started := true, stage := if u.fs.up then 5 else 6, result := if u.fs.up then 0 else 0x10, wdtCount := 0, bootTime := (runTime s - s.boot.releasedAt) / (1000 * nsUnits) % 2 ^ 32, tcPreset := s.sl.tcValid }) u
    exec .firmwareReady s = .next ({ v with ctl := { v.ctl with pair := .running }, sl := { s.sl with pwrReq := false } })) ∧
  (∀ (value : BitVec 32) (s : State), okDebugOff value s →
    exec (.debugOff value) s = .next (modBoot (fun b => { b with debugOff := true }) s)) ∧
  (∀ (value : BitVec 32) (s : State), okFwUpdateLock value s →
    exec (.fwUpdateLock value) s = .next (modBoot (fun b => { b with fwLock := true }) s))

/-- A read of an access that BAR0 does not allow returns all ones and a write of one has no effect (R17). An upstream request that stays blocked ends: a payload with TIMEOUT, a push with code 8 (R582). The link comes up (R552). A MGMT_SPI read returns its register, a write sets it, a wake without WAKE_EN is refused, and a frame that ends early aborts (R591 to R593). A register write follows the field types of its register (R14 to R16). The model's own choices behind it: log entries 8, 36, 39, 40, 41, 42 and 155. -/
def Obligations.HostEvents : Prop :=
  (∀ (offset : Nat) (size : Fin 4) (value : BitVec 64) (s : State),
    exec (.bar0BadAccess { offset := offset, size := size } false value) s = .next (setRead (2 ^ (8 * 2 ^ size.val) - 1) s)) ∧
  (∀ (offset : Nat) (size : Fin 4) (value : BitVec 64) (s : State),
    exec (.bar0BadAccess { offset := offset, size := size } true value) s = .next (s)) ∧
  (∀ (n : Fin 16) (c : Cmd) (s : State), okUpstreamPayload n c s →
    exec (.upstreamRequestTimeout (.extPayload n)) s = .next (postFinal c .timeout 1 [] (dropCmd c s))) ∧
  (∀ (s : State), okUpstreamPush s →
    exec (.upstreamRequestTimeout .imagePush) s = .next (modBoot (fun b => { b with stage := 7, result := 8 }) s)) ∧
  (∀ (s : State), okPcieLinkUp s →
    exec .pcieLinkUp s = .next (modHost (fun h => { h with linkUp := true }) s)) ∧
  (∀ (frame : List Byte) (s : State), okMgmtSpiRead frame s →
    exec (.mgmtSpiRead frame) s = .next (modHost (fun h => { h with spiOut := [0x5A, 0] ++ beBytes 4 (slRead true (beNat ((frame.drop 1).take 2)) s) ++ [crc8 ([0] ++ beBytes 4 (slRead true (beNat ((frame.drop 1).take 2)) s))] }) s)) ∧
  (∀ (frame : List Byte) (s : State), okMgmtSpiReadBadCrc frame s →
    exec (.mgmtSpiRead frame) s = .next (modHost (fun h => { h with spiOut := [0x5A, 1, 0, 0, 0, 0, crc8 [1, 0, 0, 0, 0]] }) (modSl (fun l => { l with spiCrcErrs := satAdd 255 l.spiCrcErrs 1 }) s))) ∧
  (∀ (frame : List Byte) (s : State), okMgmtSpiWrite frame s →
    exec (.mgmtSpiWrite frame) s = .next (modHost (fun h => { h with spiOut := [0x5A, 0, crc8 [0]] }) (slWrite (beNat ((frame.drop 1).take 2)) (beNat ((frame.drop 3).take 4)) s))) ∧
  (∀ (frame : List Byte) (s : State), okMgmtSpiWake frame s →
    exec (.mgmtSpiWake frame) s = .next (modHost (fun h => { h with spiOut := [0x5A, 0, crc8 [0]] }) (modSl (fun l => { l with wakeCause := Nat.lor l.wakeCause 128 }) s))) ∧
  (∀ (frame : List Byte) (s : State), okMgmtSpiWakeRefused frame s →
    exec (.mgmtSpiWake frame) s = .next (modHost (fun h => { h with spiOut := [0x5A, 4, crc8 [4]] }) s)) ∧
  (∀ (frame : List Byte) (s : State), okMgmtSpiAbort frame s →
    exec (.mgmtSpiAbort frame) s = .next (modSl (fun l => { l with spiAbort := true }) s)) ∧
  (∀ (value : BitVec 32) (s : State), okSlSpiClear value s →
    exec (.slSpiClear value) s = .next (modSl (fun l => { l with spiAbort := l.spiAbort && !value.getLsbD 8, spiCrcErrs := if value.getLsbD 9 then 0 else l.spiCrcErrs }) s)) ∧
  (∀ (value : BitVec 32) (s : State), okScratchWrite value s →
    exec (.registerWrite .bar0 0x014 value) s = .next (modHost (fun h => { h with scratch := value.toNat }) s)) ∧
  (∀ (value : BitVec 32) (s : State), okApertureWrite value s →
    exec (.registerWrite .bar0 0x100 value) s = .next (modHost (fun h => { h with apBase := value.toNat % 2 ^ 20 }) s)) ∧
  (∀ (group : Fin 32) (value : BitVec 32) (s : State), okEventPendingClear group value s →
    exec (.registerWrite .bar0 (0x100000 + 4 * group) value) s = .next (modEv (fun e => { e with pend := tabMod e.pend group (fun w => w &&& ~~~ value) }) s)) ∧
  (∀ (offset : Nat) (value : BitVec 32) (s : State), okBar0WriteIgnored offset value s →
    exec (.registerWrite .bar0 offset value) s = .next (s)) ∧
  (∀ (mb : Fin 16) (word : Fin 1024) (value : BitVec 32) (s : State), okCommandRingWrite mb word value s →
    exec (.registerWrite .bar0 (0x40000 + 0x2000 * mb + 4 * word) value) s = .next (modMb mb (fun m => { m with cmdRing := tabSet m.cmdRing word value }) s))
end

