-- ==== Sys2Proof/Laws/State.lean ====
section
/-! SUPPORT. What each update of one part of State leaves and gives, field by field, so that no proof unfolds a record
update. -/
namespace Sys2Proof.Machine
open Sys2Proof

@[simp] theorem modTb_time_tb_own (f : Timebase → Timebase) (s : State) : (modTb f s).time.tb = f s.time.tb := rfl
@[simp] theorem modTb_ctl (f : Timebase → Timebase) (s : State) : (modTb f s).ctl = s.ctl := rfl
@[simp] theorem modTb_sched (f : Timebase → Timebase) (s : State) : (modTb f s).sched = s.sched := rfl
@[simp] theorem modTb_fs (f : Timebase → Timebase) (s : State) : (modTb f s).fs = s.fs := rfl
@[simp] theorem modTb_ledger (f : Timebase → Timebase) (s : State) : (modTb f s).ledger = s.ledger := rfl
@[simp] theorem modTb_mac (f : Timebase → Timebase) (s : State) : (modTb f s).mac = s.mac := rfl
@[simp] theorem modTb_ingest (f : Timebase → Timebase) (s : State) : (modTb f s).ingest = s.ingest := rfl
@[simp] theorem modTb_pic (f : Timebase → Timebase) (s : State) : (modTb f s).pic = s.pic := rfl
@[simp] theorem modTb_vid (f : Timebase → Timebase) (s : State) : (modTb f s).vid = s.vid := rfl
@[simp] theorem modTb_mag (f : Timebase → Timebase) (s : State) : (modTb f s).mag = s.mag := rfl
@[simp] theorem modTb_st (f : Timebase → Timebase) (s : State) : (modTb f s).st = s.st := rfl
@[simp] theorem modTb_dma (f : Timebase → Timebase) (s : State) : (modTb f s).dma = s.dma := rfl
@[simp] theorem modTb_ev (f : Timebase → Timebase) (s : State) : (modTb f s).ev = s.ev := rfl
@[simp] theorem modTb_power (f : Timebase → Timebase) (s : State) : (modTb f s).power = s.power := rfl
@[simp] theorem modTb_sl (f : Timebase → Timebase) (s : State) : (modTb f s).sl = s.sl := rfl
@[simp] theorem modTb_rel (f : Timebase → Timebase) (s : State) : (modTb f s).rel = s.rel := rfl
@[simp] theorem modTb_boot (f : Timebase → Timebase) (s : State) : (modTb f s).boot = s.boot := rfl
@[simp] theorem modTb_host (f : Timebase → Timebase) (s : State) : (modTb f s).host = s.host := rfl
@[simp] theorem modTb_free (f : Timebase → Timebase) (s : State) : (modTb f s).free = s.free := rfl
@[simp] theorem modTb_pending (f : Timebase → Timebase) (s : State) : (modTb f s).pending = s.pending := rfl
@[simp] theorem modCap_time_cap_own (f : Capture → Capture) (s : State) : (modCap f s).time.cap = f s.time.cap := rfl
@[simp] theorem modCap_ctl (f : Capture → Capture) (s : State) : (modCap f s).ctl = s.ctl := rfl
@[simp] theorem modCap_sched (f : Capture → Capture) (s : State) : (modCap f s).sched = s.sched := rfl
@[simp] theorem modCap_fs (f : Capture → Capture) (s : State) : (modCap f s).fs = s.fs := rfl
@[simp] theorem modCap_ledger (f : Capture → Capture) (s : State) : (modCap f s).ledger = s.ledger := rfl
@[simp] theorem modCap_mac (f : Capture → Capture) (s : State) : (modCap f s).mac = s.mac := rfl
@[simp] theorem modCap_ingest (f : Capture → Capture) (s : State) : (modCap f s).ingest = s.ingest := rfl
@[simp] theorem modCap_pic (f : Capture → Capture) (s : State) : (modCap f s).pic = s.pic := rfl
@[simp] theorem modCap_vid (f : Capture → Capture) (s : State) : (modCap f s).vid = s.vid := rfl
@[simp] theorem modCap_mag (f : Capture → Capture) (s : State) : (modCap f s).mag = s.mag := rfl
@[simp] theorem modCap_st (f : Capture → Capture) (s : State) : (modCap f s).st = s.st := rfl
@[simp] theorem modCap_dma (f : Capture → Capture) (s : State) : (modCap f s).dma = s.dma := rfl
@[simp] theorem modCap_ev (f : Capture → Capture) (s : State) : (modCap f s).ev = s.ev := rfl
@[simp] theorem modCap_power (f : Capture → Capture) (s : State) : (modCap f s).power = s.power := rfl
@[simp] theorem modCap_sl (f : Capture → Capture) (s : State) : (modCap f s).sl = s.sl := rfl
@[simp] theorem modCap_rel (f : Capture → Capture) (s : State) : (modCap f s).rel = s.rel := rfl
@[simp] theorem modCap_boot (f : Capture → Capture) (s : State) : (modCap f s).boot = s.boot := rfl
@[simp] theorem modCap_host (f : Capture → Capture) (s : State) : (modCap f s).host = s.host := rfl
@[simp] theorem modCap_free (f : Capture → Capture) (s : State) : (modCap f s).free = s.free := rfl
@[simp] theorem modCap_pending (f : Capture → Capture) (s : State) : (modCap f s).pending = s.pending := rfl
@[simp] theorem modTc_time_tc_own (f : TcGen → TcGen) (s : State) : (modTc f s).time.tc = f s.time.tc := rfl
@[simp] theorem modTc_ctl (f : TcGen → TcGen) (s : State) : (modTc f s).ctl = s.ctl := rfl
@[simp] theorem modTc_sched (f : TcGen → TcGen) (s : State) : (modTc f s).sched = s.sched := rfl
@[simp] theorem modTc_fs (f : TcGen → TcGen) (s : State) : (modTc f s).fs = s.fs := rfl
@[simp] theorem modTc_ledger (f : TcGen → TcGen) (s : State) : (modTc f s).ledger = s.ledger := rfl
@[simp] theorem modTc_mac (f : TcGen → TcGen) (s : State) : (modTc f s).mac = s.mac := rfl
@[simp] theorem modTc_ingest (f : TcGen → TcGen) (s : State) : (modTc f s).ingest = s.ingest := rfl
@[simp] theorem modTc_pic (f : TcGen → TcGen) (s : State) : (modTc f s).pic = s.pic := rfl
@[simp] theorem modTc_vid (f : TcGen → TcGen) (s : State) : (modTc f s).vid = s.vid := rfl
@[simp] theorem modTc_mag (f : TcGen → TcGen) (s : State) : (modTc f s).mag = s.mag := rfl
@[simp] theorem modTc_st (f : TcGen → TcGen) (s : State) : (modTc f s).st = s.st := rfl
@[simp] theorem modTc_dma (f : TcGen → TcGen) (s : State) : (modTc f s).dma = s.dma := rfl
@[simp] theorem modTc_ev (f : TcGen → TcGen) (s : State) : (modTc f s).ev = s.ev := rfl
@[simp] theorem modTc_power (f : TcGen → TcGen) (s : State) : (modTc f s).power = s.power := rfl
@[simp] theorem modTc_sl (f : TcGen → TcGen) (s : State) : (modTc f s).sl = s.sl := rfl
@[simp] theorem modTc_rel (f : TcGen → TcGen) (s : State) : (modTc f s).rel = s.rel := rfl
@[simp] theorem modTc_boot (f : TcGen → TcGen) (s : State) : (modTc f s).boot = s.boot := rfl
@[simp] theorem modTc_host (f : TcGen → TcGen) (s : State) : (modTc f s).host = s.host := rfl
@[simp] theorem modTc_free (f : TcGen → TcGen) (s : State) : (modTc f s).free = s.free := rfl
@[simp] theorem modTc_pending (f : TcGen → TcGen) (s : State) : (modTc f s).pending = s.pending := rfl
@[simp] theorem modSyn_time_syns_own (k : Nat) (f : Syn → Syn) (s : State) : (modSyn k f s).time.syns = tabMod s.time.syns k f := rfl
@[simp] theorem modSyn_ctl (k : Nat) (f : Syn → Syn) (s : State) : (modSyn k f s).ctl = s.ctl := rfl
@[simp] theorem modSyn_sched (k : Nat) (f : Syn → Syn) (s : State) : (modSyn k f s).sched = s.sched := rfl
@[simp] theorem modSyn_fs (k : Nat) (f : Syn → Syn) (s : State) : (modSyn k f s).fs = s.fs := rfl
@[simp] theorem modSyn_ledger (k : Nat) (f : Syn → Syn) (s : State) : (modSyn k f s).ledger = s.ledger := rfl
@[simp] theorem modSyn_mac (k : Nat) (f : Syn → Syn) (s : State) : (modSyn k f s).mac = s.mac := rfl
@[simp] theorem modSyn_ingest (k : Nat) (f : Syn → Syn) (s : State) : (modSyn k f s).ingest = s.ingest := rfl
@[simp] theorem modSyn_pic (k : Nat) (f : Syn → Syn) (s : State) : (modSyn k f s).pic = s.pic := rfl
@[simp] theorem modSyn_vid (k : Nat) (f : Syn → Syn) (s : State) : (modSyn k f s).vid = s.vid := rfl
@[simp] theorem modSyn_mag (k : Nat) (f : Syn → Syn) (s : State) : (modSyn k f s).mag = s.mag := rfl
@[simp] theorem modSyn_st (k : Nat) (f : Syn → Syn) (s : State) : (modSyn k f s).st = s.st := rfl
@[simp] theorem modSyn_dma (k : Nat) (f : Syn → Syn) (s : State) : (modSyn k f s).dma = s.dma := rfl
@[simp] theorem modSyn_ev (k : Nat) (f : Syn → Syn) (s : State) : (modSyn k f s).ev = s.ev := rfl
@[simp] theorem modSyn_power (k : Nat) (f : Syn → Syn) (s : State) : (modSyn k f s).power = s.power := rfl
@[simp] theorem modSyn_sl (k : Nat) (f : Syn → Syn) (s : State) : (modSyn k f s).sl = s.sl := rfl
@[simp] theorem modSyn_rel (k : Nat) (f : Syn → Syn) (s : State) : (modSyn k f s).rel = s.rel := rfl
@[simp] theorem modSyn_boot (k : Nat) (f : Syn → Syn) (s : State) : (modSyn k f s).boot = s.boot := rfl
@[simp] theorem modSyn_host (k : Nat) (f : Syn → Syn) (s : State) : (modSyn k f s).host = s.host := rfl
@[simp] theorem modSyn_free (k : Nat) (f : Syn → Syn) (s : State) : (modSyn k f s).free = s.free := rfl
@[simp] theorem modSyn_pending (k : Nat) (f : Syn → Syn) (s : State) : (modSyn k f s).pending = s.pending := rfl
@[simp] theorem modFx_pic_fx_own (f : Fixer → Fixer) (s : State) : (modFx f s).pic.fx = f s.pic.fx := rfl
@[simp] theorem modFx_ctl (f : Fixer → Fixer) (s : State) : (modFx f s).ctl = s.ctl := rfl
@[simp] theorem modFx_time (f : Fixer → Fixer) (s : State) : (modFx f s).time = s.time := rfl
@[simp] theorem modFx_sched (f : Fixer → Fixer) (s : State) : (modFx f s).sched = s.sched := rfl
@[simp] theorem modFx_fs (f : Fixer → Fixer) (s : State) : (modFx f s).fs = s.fs := rfl
@[simp] theorem modFx_ledger (f : Fixer → Fixer) (s : State) : (modFx f s).ledger = s.ledger := rfl
@[simp] theorem modFx_mac (f : Fixer → Fixer) (s : State) : (modFx f s).mac = s.mac := rfl
@[simp] theorem modFx_ingest (f : Fixer → Fixer) (s : State) : (modFx f s).ingest = s.ingest := rfl
@[simp] theorem modFx_vid (f : Fixer → Fixer) (s : State) : (modFx f s).vid = s.vid := rfl
@[simp] theorem modFx_mag (f : Fixer → Fixer) (s : State) : (modFx f s).mag = s.mag := rfl
@[simp] theorem modFx_st (f : Fixer → Fixer) (s : State) : (modFx f s).st = s.st := rfl
@[simp] theorem modFx_dma (f : Fixer → Fixer) (s : State) : (modFx f s).dma = s.dma := rfl
@[simp] theorem modFx_ev (f : Fixer → Fixer) (s : State) : (modFx f s).ev = s.ev := rfl
@[simp] theorem modFx_power (f : Fixer → Fixer) (s : State) : (modFx f s).power = s.power := rfl
@[simp] theorem modFx_sl (f : Fixer → Fixer) (s : State) : (modFx f s).sl = s.sl := rfl
@[simp] theorem modFx_rel (f : Fixer → Fixer) (s : State) : (modFx f s).rel = s.rel := rfl
@[simp] theorem modFx_boot (f : Fixer → Fixer) (s : State) : (modFx f s).boot = s.boot := rfl
@[simp] theorem modFx_host (f : Fixer → Fixer) (s : State) : (modFx f s).host = s.host := rfl
@[simp] theorem modFx_free (f : Fixer → Fixer) (s : State) : (modFx f s).free = s.free := rfl
@[simp] theorem modFx_pending (f : Fixer → Fixer) (s : State) : (modFx f s).pending = s.pending := rfl
@[simp] theorem modPanel_vid_panels_own (p : Nat) (f : Panel → Panel) (s : State) : (modPanel p f s).vid.panels = tabMod s.vid.panels p f := rfl
@[simp] theorem modPanel_ctl (p : Nat) (f : Panel → Panel) (s : State) : (modPanel p f s).ctl = s.ctl := rfl
@[simp] theorem modPanel_time (p : Nat) (f : Panel → Panel) (s : State) : (modPanel p f s).time = s.time := rfl
@[simp] theorem modPanel_sched (p : Nat) (f : Panel → Panel) (s : State) : (modPanel p f s).sched = s.sched := rfl
@[simp] theorem modPanel_fs (p : Nat) (f : Panel → Panel) (s : State) : (modPanel p f s).fs = s.fs := rfl
@[simp] theorem modPanel_ledger (p : Nat) (f : Panel → Panel) (s : State) : (modPanel p f s).ledger = s.ledger := rfl
@[simp] theorem modPanel_mac (p : Nat) (f : Panel → Panel) (s : State) : (modPanel p f s).mac = s.mac := rfl
@[simp] theorem modPanel_ingest (p : Nat) (f : Panel → Panel) (s : State) : (modPanel p f s).ingest = s.ingest := rfl
@[simp] theorem modPanel_pic (p : Nat) (f : Panel → Panel) (s : State) : (modPanel p f s).pic = s.pic := rfl
@[simp] theorem modPanel_mag (p : Nat) (f : Panel → Panel) (s : State) : (modPanel p f s).mag = s.mag := rfl
@[simp] theorem modPanel_st (p : Nat) (f : Panel → Panel) (s : State) : (modPanel p f s).st = s.st := rfl
@[simp] theorem modPanel_dma (p : Nat) (f : Panel → Panel) (s : State) : (modPanel p f s).dma = s.dma := rfl
@[simp] theorem modPanel_ev (p : Nat) (f : Panel → Panel) (s : State) : (modPanel p f s).ev = s.ev := rfl
@[simp] theorem modPanel_power (p : Nat) (f : Panel → Panel) (s : State) : (modPanel p f s).power = s.power := rfl
@[simp] theorem modPanel_sl (p : Nat) (f : Panel → Panel) (s : State) : (modPanel p f s).sl = s.sl := rfl
@[simp] theorem modPanel_rel (p : Nat) (f : Panel → Panel) (s : State) : (modPanel p f s).rel = s.rel := rfl
@[simp] theorem modPanel_boot (p : Nat) (f : Panel → Panel) (s : State) : (modPanel p f s).boot = s.boot := rfl
@[simp] theorem modPanel_host (p : Nat) (f : Panel → Panel) (s : State) : (modPanel p f s).host = s.host := rfl
@[simp] theorem modPanel_free (p : Nat) (f : Panel → Panel) (s : State) : (modPanel p f s).free = s.free := rfl
@[simp] theorem modPanel_pending (p : Nat) (f : Panel → Panel) (s : State) : (modPanel p f s).pending = s.pending := rfl
@[simp] theorem modDc_dma_chans_own (n : Nat) (f : DmaChan → DmaChan) (s : State) : (modDc n f s).dma.chans = tabMod s.dma.chans n f := rfl
@[simp] theorem modDc_ctl (n : Nat) (f : DmaChan → DmaChan) (s : State) : (modDc n f s).ctl = s.ctl := rfl
@[simp] theorem modDc_time (n : Nat) (f : DmaChan → DmaChan) (s : State) : (modDc n f s).time = s.time := rfl
@[simp] theorem modDc_sched (n : Nat) (f : DmaChan → DmaChan) (s : State) : (modDc n f s).sched = s.sched := rfl
@[simp] theorem modDc_fs (n : Nat) (f : DmaChan → DmaChan) (s : State) : (modDc n f s).fs = s.fs := rfl
@[simp] theorem modDc_ledger (n : Nat) (f : DmaChan → DmaChan) (s : State) : (modDc n f s).ledger = s.ledger := rfl
@[simp] theorem modDc_mac (n : Nat) (f : DmaChan → DmaChan) (s : State) : (modDc n f s).mac = s.mac := rfl
@[simp] theorem modDc_ingest (n : Nat) (f : DmaChan → DmaChan) (s : State) : (modDc n f s).ingest = s.ingest := rfl
@[simp] theorem modDc_pic (n : Nat) (f : DmaChan → DmaChan) (s : State) : (modDc n f s).pic = s.pic := rfl
@[simp] theorem modDc_vid (n : Nat) (f : DmaChan → DmaChan) (s : State) : (modDc n f s).vid = s.vid := rfl
@[simp] theorem modDc_mag (n : Nat) (f : DmaChan → DmaChan) (s : State) : (modDc n f s).mag = s.mag := rfl
@[simp] theorem modDc_st (n : Nat) (f : DmaChan → DmaChan) (s : State) : (modDc n f s).st = s.st := rfl
@[simp] theorem modDc_ev (n : Nat) (f : DmaChan → DmaChan) (s : State) : (modDc n f s).ev = s.ev := rfl
@[simp] theorem modDc_power (n : Nat) (f : DmaChan → DmaChan) (s : State) : (modDc n f s).power = s.power := rfl
@[simp] theorem modDc_sl (n : Nat) (f : DmaChan → DmaChan) (s : State) : (modDc n f s).sl = s.sl := rfl
@[simp] theorem modDc_rel (n : Nat) (f : DmaChan → DmaChan) (s : State) : (modDc n f s).rel = s.rel := rfl
@[simp] theorem modDc_boot (n : Nat) (f : DmaChan → DmaChan) (s : State) : (modDc n f s).boot = s.boot := rfl
@[simp] theorem modDc_host (n : Nat) (f : DmaChan → DmaChan) (s : State) : (modDc n f s).host = s.host := rfl
@[simp] theorem modDc_free (n : Nat) (f : DmaChan → DmaChan) (s : State) : (modDc n f s).free = s.free := rfl
@[simp] theorem modDc_pending (n : Nat) (f : DmaChan → DmaChan) (s : State) : (modDc n f s).pending = s.pending := rfl
@[simp] theorem modBath_mag_bath_own (f : StopBath → StopBath) (s : State) : (modBath f s).mag.bath = f s.mag.bath := rfl
@[simp] theorem modBath_ctl (f : StopBath → StopBath) (s : State) : (modBath f s).ctl = s.ctl := rfl
@[simp] theorem modBath_time (f : StopBath → StopBath) (s : State) : (modBath f s).time = s.time := rfl
@[simp] theorem modBath_sched (f : StopBath → StopBath) (s : State) : (modBath f s).sched = s.sched := rfl
@[simp] theorem modBath_fs (f : StopBath → StopBath) (s : State) : (modBath f s).fs = s.fs := rfl
@[simp] theorem modBath_ledger (f : StopBath → StopBath) (s : State) : (modBath f s).ledger = s.ledger := rfl
@[simp] theorem modBath_mac (f : StopBath → StopBath) (s : State) : (modBath f s).mac = s.mac := rfl
@[simp] theorem modBath_ingest (f : StopBath → StopBath) (s : State) : (modBath f s).ingest = s.ingest := rfl
@[simp] theorem modBath_pic (f : StopBath → StopBath) (s : State) : (modBath f s).pic = s.pic := rfl
@[simp] theorem modBath_vid (f : StopBath → StopBath) (s : State) : (modBath f s).vid = s.vid := rfl
@[simp] theorem modBath_st (f : StopBath → StopBath) (s : State) : (modBath f s).st = s.st := rfl
@[simp] theorem modBath_dma (f : StopBath → StopBath) (s : State) : (modBath f s).dma = s.dma := rfl
@[simp] theorem modBath_ev (f : StopBath → StopBath) (s : State) : (modBath f s).ev = s.ev := rfl
@[simp] theorem modBath_power (f : StopBath → StopBath) (s : State) : (modBath f s).power = s.power := rfl
@[simp] theorem modBath_sl (f : StopBath → StopBath) (s : State) : (modBath f s).sl = s.sl := rfl
@[simp] theorem modBath_rel (f : StopBath → StopBath) (s : State) : (modBath f s).rel = s.rel := rfl
@[simp] theorem modBath_boot (f : StopBath → StopBath) (s : State) : (modBath f s).boot = s.boot := rfl
@[simp] theorem modBath_host (f : StopBath → StopBath) (s : State) : (modBath f s).host = s.host := rfl
@[simp] theorem modBath_free (f : StopBath → StopBath) (s : State) : (modBath f s).free = s.free := rfl
@[simp] theorem modBath_pending (f : StopBath → StopBath) (s : State) : (modBath f s).pending = s.pending := rfl
@[simp] theorem modMb_ctl_mbs_own (n : Nat) (f : Mailbox → Mailbox) (s : State) : (modMb n f s).ctl.mbs = tabMod s.ctl.mbs n f := rfl
@[simp] theorem modMb_time (n : Nat) (f : Mailbox → Mailbox) (s : State) : (modMb n f s).time = s.time := rfl
@[simp] theorem modMb_sched (n : Nat) (f : Mailbox → Mailbox) (s : State) : (modMb n f s).sched = s.sched := rfl
@[simp] theorem modMb_fs (n : Nat) (f : Mailbox → Mailbox) (s : State) : (modMb n f s).fs = s.fs := rfl
@[simp] theorem modMb_ledger (n : Nat) (f : Mailbox → Mailbox) (s : State) : (modMb n f s).ledger = s.ledger := rfl
@[simp] theorem modMb_mac (n : Nat) (f : Mailbox → Mailbox) (s : State) : (modMb n f s).mac = s.mac := rfl
@[simp] theorem modMb_ingest (n : Nat) (f : Mailbox → Mailbox) (s : State) : (modMb n f s).ingest = s.ingest := rfl
@[simp] theorem modMb_pic (n : Nat) (f : Mailbox → Mailbox) (s : State) : (modMb n f s).pic = s.pic := rfl
@[simp] theorem modMb_vid (n : Nat) (f : Mailbox → Mailbox) (s : State) : (modMb n f s).vid = s.vid := rfl
@[simp] theorem modMb_mag (n : Nat) (f : Mailbox → Mailbox) (s : State) : (modMb n f s).mag = s.mag := rfl
@[simp] theorem modMb_st (n : Nat) (f : Mailbox → Mailbox) (s : State) : (modMb n f s).st = s.st := rfl
@[simp] theorem modMb_dma (n : Nat) (f : Mailbox → Mailbox) (s : State) : (modMb n f s).dma = s.dma := rfl
@[simp] theorem modMb_ev (n : Nat) (f : Mailbox → Mailbox) (s : State) : (modMb n f s).ev = s.ev := rfl
@[simp] theorem modMb_power (n : Nat) (f : Mailbox → Mailbox) (s : State) : (modMb n f s).power = s.power := rfl
@[simp] theorem modMb_sl (n : Nat) (f : Mailbox → Mailbox) (s : State) : (modMb n f s).sl = s.sl := rfl
@[simp] theorem modMb_rel (n : Nat) (f : Mailbox → Mailbox) (s : State) : (modMb n f s).rel = s.rel := rfl
@[simp] theorem modMb_boot (n : Nat) (f : Mailbox → Mailbox) (s : State) : (modMb n f s).boot = s.boot := rfl
@[simp] theorem modMb_host (n : Nat) (f : Mailbox → Mailbox) (s : State) : (modMb n f s).host = s.host := rfl
@[simp] theorem modMb_free (n : Nat) (f : Mailbox → Mailbox) (s : State) : (modMb n f s).free = s.free := rfl
@[simp] theorem modMb_pending (n : Nat) (f : Mailbox → Mailbox) (s : State) : (modMb n f s).pending = s.pending := rfl
@[simp] theorem modHd_pic_heads_own (h : Nat) (f : Head → Head) (s : State) : (modHd h f s).pic.heads = tabMod s.pic.heads h f := rfl
@[simp] theorem modHd_ctl (h : Nat) (f : Head → Head) (s : State) : (modHd h f s).ctl = s.ctl := rfl
@[simp] theorem modHd_time (h : Nat) (f : Head → Head) (s : State) : (modHd h f s).time = s.time := rfl
@[simp] theorem modHd_sched (h : Nat) (f : Head → Head) (s : State) : (modHd h f s).sched = s.sched := rfl
@[simp] theorem modHd_fs (h : Nat) (f : Head → Head) (s : State) : (modHd h f s).fs = s.fs := rfl
@[simp] theorem modHd_ledger (h : Nat) (f : Head → Head) (s : State) : (modHd h f s).ledger = s.ledger := rfl
@[simp] theorem modHd_mac (h : Nat) (f : Head → Head) (s : State) : (modHd h f s).mac = s.mac := rfl
@[simp] theorem modHd_ingest (h : Nat) (f : Head → Head) (s : State) : (modHd h f s).ingest = s.ingest := rfl
@[simp] theorem modHd_vid (h : Nat) (f : Head → Head) (s : State) : (modHd h f s).vid = s.vid := rfl
@[simp] theorem modHd_mag (h : Nat) (f : Head → Head) (s : State) : (modHd h f s).mag = s.mag := rfl
@[simp] theorem modHd_st (h : Nat) (f : Head → Head) (s : State) : (modHd h f s).st = s.st := rfl
@[simp] theorem modHd_dma (h : Nat) (f : Head → Head) (s : State) : (modHd h f s).dma = s.dma := rfl
@[simp] theorem modHd_ev (h : Nat) (f : Head → Head) (s : State) : (modHd h f s).ev = s.ev := rfl
@[simp] theorem modHd_power (h : Nat) (f : Head → Head) (s : State) : (modHd h f s).power = s.power := rfl
@[simp] theorem modHd_sl (h : Nat) (f : Head → Head) (s : State) : (modHd h f s).sl = s.sl := rfl
@[simp] theorem modHd_rel (h : Nat) (f : Head → Head) (s : State) : (modHd h f s).rel = s.rel := rfl
@[simp] theorem modHd_boot (h : Nat) (f : Head → Head) (s : State) : (modHd h f s).boot = s.boot := rfl
@[simp] theorem modHd_host (h : Nat) (f : Head → Head) (s : State) : (modHd h f s).host = s.host := rfl
@[simp] theorem modHd_free (h : Nat) (f : Head → Head) (s : State) : (modHd h f s).free = s.free := rfl
@[simp] theorem modHd_pending (h : Nat) (f : Head → Head) (s : State) : (modHd h f s).pending = s.pending := rfl
@[simp] theorem modLay_pic_layers_own (l : Nat) (f : Layer → Layer) (s : State) : (modLay l f s).pic.layers = tabMod s.pic.layers l f := rfl
@[simp] theorem modLay_ctl (l : Nat) (f : Layer → Layer) (s : State) : (modLay l f s).ctl = s.ctl := rfl
@[simp] theorem modLay_time (l : Nat) (f : Layer → Layer) (s : State) : (modLay l f s).time = s.time := rfl
@[simp] theorem modLay_sched (l : Nat) (f : Layer → Layer) (s : State) : (modLay l f s).sched = s.sched := rfl
@[simp] theorem modLay_fs (l : Nat) (f : Layer → Layer) (s : State) : (modLay l f s).fs = s.fs := rfl
@[simp] theorem modLay_ledger (l : Nat) (f : Layer → Layer) (s : State) : (modLay l f s).ledger = s.ledger := rfl
@[simp] theorem modLay_mac (l : Nat) (f : Layer → Layer) (s : State) : (modLay l f s).mac = s.mac := rfl
@[simp] theorem modLay_ingest (l : Nat) (f : Layer → Layer) (s : State) : (modLay l f s).ingest = s.ingest := rfl
@[simp] theorem modLay_vid (l : Nat) (f : Layer → Layer) (s : State) : (modLay l f s).vid = s.vid := rfl
@[simp] theorem modLay_mag (l : Nat) (f : Layer → Layer) (s : State) : (modLay l f s).mag = s.mag := rfl
@[simp] theorem modLay_st (l : Nat) (f : Layer → Layer) (s : State) : (modLay l f s).st = s.st := rfl
@[simp] theorem modLay_dma (l : Nat) (f : Layer → Layer) (s : State) : (modLay l f s).dma = s.dma := rfl
@[simp] theorem modLay_ev (l : Nat) (f : Layer → Layer) (s : State) : (modLay l f s).ev = s.ev := rfl
@[simp] theorem modLay_power (l : Nat) (f : Layer → Layer) (s : State) : (modLay l f s).power = s.power := rfl
@[simp] theorem modLay_sl (l : Nat) (f : Layer → Layer) (s : State) : (modLay l f s).sl = s.sl := rfl
@[simp] theorem modLay_rel (l : Nat) (f : Layer → Layer) (s : State) : (modLay l f s).rel = s.rel := rfl
@[simp] theorem modLay_boot (l : Nat) (f : Layer → Layer) (s : State) : (modLay l f s).boot = s.boot := rfl
@[simp] theorem modLay_host (l : Nat) (f : Layer → Layer) (s : State) : (modLay l f s).host = s.host := rfl
@[simp] theorem modLay_free (l : Nat) (f : Layer → Layer) (s : State) : (modLay l f s).free = s.free := rfl
@[simp] theorem modLay_pending (l : Nat) (f : Layer → Layer) (s : State) : (modLay l f s).pending = s.pending := rfl
@[simp] theorem modLut_pic_luts_own (u : Nat) (f : LutUnit → LutUnit) (s : State) : (modLut u f s).pic.luts = tabMod s.pic.luts u f := rfl
@[simp] theorem modLut_ctl (u : Nat) (f : LutUnit → LutUnit) (s : State) : (modLut u f s).ctl = s.ctl := rfl
@[simp] theorem modLut_time (u : Nat) (f : LutUnit → LutUnit) (s : State) : (modLut u f s).time = s.time := rfl
@[simp] theorem modLut_sched (u : Nat) (f : LutUnit → LutUnit) (s : State) : (modLut u f s).sched = s.sched := rfl
@[simp] theorem modLut_fs (u : Nat) (f : LutUnit → LutUnit) (s : State) : (modLut u f s).fs = s.fs := rfl
@[simp] theorem modLut_ledger (u : Nat) (f : LutUnit → LutUnit) (s : State) : (modLut u f s).ledger = s.ledger := rfl
@[simp] theorem modLut_mac (u : Nat) (f : LutUnit → LutUnit) (s : State) : (modLut u f s).mac = s.mac := rfl
@[simp] theorem modLut_ingest (u : Nat) (f : LutUnit → LutUnit) (s : State) : (modLut u f s).ingest = s.ingest := rfl
@[simp] theorem modLut_vid (u : Nat) (f : LutUnit → LutUnit) (s : State) : (modLut u f s).vid = s.vid := rfl
@[simp] theorem modLut_mag (u : Nat) (f : LutUnit → LutUnit) (s : State) : (modLut u f s).mag = s.mag := rfl
@[simp] theorem modLut_st (u : Nat) (f : LutUnit → LutUnit) (s : State) : (modLut u f s).st = s.st := rfl
@[simp] theorem modLut_dma (u : Nat) (f : LutUnit → LutUnit) (s : State) : (modLut u f s).dma = s.dma := rfl
@[simp] theorem modLut_ev (u : Nat) (f : LutUnit → LutUnit) (s : State) : (modLut u f s).ev = s.ev := rfl
@[simp] theorem modLut_power (u : Nat) (f : LutUnit → LutUnit) (s : State) : (modLut u f s).power = s.power := rfl
@[simp] theorem modLut_sl (u : Nat) (f : LutUnit → LutUnit) (s : State) : (modLut u f s).sl = s.sl := rfl
@[simp] theorem modLut_rel (u : Nat) (f : LutUnit → LutUnit) (s : State) : (modLut u f s).rel = s.rel := rfl
@[simp] theorem modLut_boot (u : Nat) (f : LutUnit → LutUnit) (s : State) : (modLut u f s).boot = s.boot := rfl
@[simp] theorem modLut_host (u : Nat) (f : LutUnit → LutUnit) (s : State) : (modLut u f s).host = s.host := rfl
@[simp] theorem modLut_free (u : Nat) (f : LutUnit → LutUnit) (s : State) : (modLut u f s).free = s.free := rfl
@[simp] theorem modLut_pending (u : Nat) (f : LutUnit → LutUnit) (s : State) : (modLut u f s).pending = s.pending := rfl
@[simp] theorem modSdi_vid_lanes_own (n : Nat) (f : SdiLane → SdiLane) (s : State) : (modSdi n f s).vid.lanes = tabMod s.vid.lanes n f := rfl
@[simp] theorem modSdi_ctl (n : Nat) (f : SdiLane → SdiLane) (s : State) : (modSdi n f s).ctl = s.ctl := rfl
@[simp] theorem modSdi_time (n : Nat) (f : SdiLane → SdiLane) (s : State) : (modSdi n f s).time = s.time := rfl
@[simp] theorem modSdi_sched (n : Nat) (f : SdiLane → SdiLane) (s : State) : (modSdi n f s).sched = s.sched := rfl
@[simp] theorem modSdi_fs (n : Nat) (f : SdiLane → SdiLane) (s : State) : (modSdi n f s).fs = s.fs := rfl
@[simp] theorem modSdi_ledger (n : Nat) (f : SdiLane → SdiLane) (s : State) : (modSdi n f s).ledger = s.ledger := rfl
@[simp] theorem modSdi_mac (n : Nat) (f : SdiLane → SdiLane) (s : State) : (modSdi n f s).mac = s.mac := rfl
@[simp] theorem modSdi_ingest (n : Nat) (f : SdiLane → SdiLane) (s : State) : (modSdi n f s).ingest = s.ingest := rfl
@[simp] theorem modSdi_pic (n : Nat) (f : SdiLane → SdiLane) (s : State) : (modSdi n f s).pic = s.pic := rfl
@[simp] theorem modSdi_mag (n : Nat) (f : SdiLane → SdiLane) (s : State) : (modSdi n f s).mag = s.mag := rfl
@[simp] theorem modSdi_st (n : Nat) (f : SdiLane → SdiLane) (s : State) : (modSdi n f s).st = s.st := rfl
@[simp] theorem modSdi_dma (n : Nat) (f : SdiLane → SdiLane) (s : State) : (modSdi n f s).dma = s.dma := rfl
@[simp] theorem modSdi_ev (n : Nat) (f : SdiLane → SdiLane) (s : State) : (modSdi n f s).ev = s.ev := rfl
@[simp] theorem modSdi_power (n : Nat) (f : SdiLane → SdiLane) (s : State) : (modSdi n f s).power = s.power := rfl
@[simp] theorem modSdi_sl (n : Nat) (f : SdiLane → SdiLane) (s : State) : (modSdi n f s).sl = s.sl := rfl
@[simp] theorem modSdi_rel (n : Nat) (f : SdiLane → SdiLane) (s : State) : (modSdi n f s).rel = s.rel := rfl
@[simp] theorem modSdi_boot (n : Nat) (f : SdiLane → SdiLane) (s : State) : (modSdi n f s).boot = s.boot := rfl
@[simp] theorem modSdi_host (n : Nat) (f : SdiLane → SdiLane) (s : State) : (modSdi n f s).host = s.host := rfl
@[simp] theorem modSdi_free (n : Nat) (f : SdiLane → SdiLane) (s : State) : (modSdi n f s).free = s.free := rfl
@[simp] theorem modSdi_pending (n : Nat) (f : SdiLane → SdiLane) (s : State) : (modSdi n f s).pending = s.pending := rfl
@[simp] theorem modMag_mag_slots_own (i : Nat) (f : MagSlot → MagSlot) (s : State) : (modMag i f s).mag.slots = tabMod s.mag.slots i f := rfl
@[simp] theorem modMag_ctl (i : Nat) (f : MagSlot → MagSlot) (s : State) : (modMag i f s).ctl = s.ctl := rfl
@[simp] theorem modMag_time (i : Nat) (f : MagSlot → MagSlot) (s : State) : (modMag i f s).time = s.time := rfl
@[simp] theorem modMag_sched (i : Nat) (f : MagSlot → MagSlot) (s : State) : (modMag i f s).sched = s.sched := rfl
@[simp] theorem modMag_fs (i : Nat) (f : MagSlot → MagSlot) (s : State) : (modMag i f s).fs = s.fs := rfl
@[simp] theorem modMag_ledger (i : Nat) (f : MagSlot → MagSlot) (s : State) : (modMag i f s).ledger = s.ledger := rfl
@[simp] theorem modMag_mac (i : Nat) (f : MagSlot → MagSlot) (s : State) : (modMag i f s).mac = s.mac := rfl
@[simp] theorem modMag_ingest (i : Nat) (f : MagSlot → MagSlot) (s : State) : (modMag i f s).ingest = s.ingest := rfl
@[simp] theorem modMag_pic (i : Nat) (f : MagSlot → MagSlot) (s : State) : (modMag i f s).pic = s.pic := rfl
@[simp] theorem modMag_vid (i : Nat) (f : MagSlot → MagSlot) (s : State) : (modMag i f s).vid = s.vid := rfl
@[simp] theorem modMag_st (i : Nat) (f : MagSlot → MagSlot) (s : State) : (modMag i f s).st = s.st := rfl
@[simp] theorem modMag_dma (i : Nat) (f : MagSlot → MagSlot) (s : State) : (modMag i f s).dma = s.dma := rfl
@[simp] theorem modMag_ev (i : Nat) (f : MagSlot → MagSlot) (s : State) : (modMag i f s).ev = s.ev := rfl
@[simp] theorem modMag_power (i : Nat) (f : MagSlot → MagSlot) (s : State) : (modMag i f s).power = s.power := rfl
@[simp] theorem modMag_sl (i : Nat) (f : MagSlot → MagSlot) (s : State) : (modMag i f s).sl = s.sl := rfl
@[simp] theorem modMag_rel (i : Nat) (f : MagSlot → MagSlot) (s : State) : (modMag i f s).rel = s.rel := rfl
@[simp] theorem modMag_boot (i : Nat) (f : MagSlot → MagSlot) (s : State) : (modMag i f s).boot = s.boot := rfl
@[simp] theorem modMag_host (i : Nat) (f : MagSlot → MagSlot) (s : State) : (modMag i f s).host = s.host := rfl
@[simp] theorem modMag_free (i : Nat) (f : MagSlot → MagSlot) (s : State) : (modMag i f s).free = s.free := rfl
@[simp] theorem modMag_pending (i : Nat) (f : MagSlot → MagSlot) (s : State) : (modMag i f s).pending = s.pending := rfl
@[simp] theorem modFlow_st_flows_own (f : Nat) (g : RxFlow → RxFlow) (s : State) : (modFlow f g s).st.flows = tabMod s.st.flows f g := rfl
@[simp] theorem modFlow_ctl (f : Nat) (g : RxFlow → RxFlow) (s : State) : (modFlow f g s).ctl = s.ctl := rfl
@[simp] theorem modFlow_time (f : Nat) (g : RxFlow → RxFlow) (s : State) : (modFlow f g s).time = s.time := rfl
@[simp] theorem modFlow_sched (f : Nat) (g : RxFlow → RxFlow) (s : State) : (modFlow f g s).sched = s.sched := rfl
@[simp] theorem modFlow_fs (f : Nat) (g : RxFlow → RxFlow) (s : State) : (modFlow f g s).fs = s.fs := rfl
@[simp] theorem modFlow_ledger (f : Nat) (g : RxFlow → RxFlow) (s : State) : (modFlow f g s).ledger = s.ledger := rfl
@[simp] theorem modFlow_mac (f : Nat) (g : RxFlow → RxFlow) (s : State) : (modFlow f g s).mac = s.mac := rfl
@[simp] theorem modFlow_ingest (f : Nat) (g : RxFlow → RxFlow) (s : State) : (modFlow f g s).ingest = s.ingest := rfl
@[simp] theorem modFlow_pic (f : Nat) (g : RxFlow → RxFlow) (s : State) : (modFlow f g s).pic = s.pic := rfl
@[simp] theorem modFlow_vid (f : Nat) (g : RxFlow → RxFlow) (s : State) : (modFlow f g s).vid = s.vid := rfl
@[simp] theorem modFlow_mag (f : Nat) (g : RxFlow → RxFlow) (s : State) : (modFlow f g s).mag = s.mag := rfl
@[simp] theorem modFlow_dma (f : Nat) (g : RxFlow → RxFlow) (s : State) : (modFlow f g s).dma = s.dma := rfl
@[simp] theorem modFlow_ev (f : Nat) (g : RxFlow → RxFlow) (s : State) : (modFlow f g s).ev = s.ev := rfl
@[simp] theorem modFlow_power (f : Nat) (g : RxFlow → RxFlow) (s : State) : (modFlow f g s).power = s.power := rfl
@[simp] theorem modFlow_sl (f : Nat) (g : RxFlow → RxFlow) (s : State) : (modFlow f g s).sl = s.sl := rfl
@[simp] theorem modFlow_rel (f : Nat) (g : RxFlow → RxFlow) (s : State) : (modFlow f g s).rel = s.rel := rfl
@[simp] theorem modFlow_boot (f : Nat) (g : RxFlow → RxFlow) (s : State) : (modFlow f g s).boot = s.boot := rfl
@[simp] theorem modFlow_host (f : Nat) (g : RxFlow → RxFlow) (s : State) : (modFlow f g s).host = s.host := rfl
@[simp] theorem modFlow_free (f : Nat) (g : RxFlow → RxFlow) (s : State) : (modFlow f g s).free = s.free := rfl
@[simp] theorem modFlow_pending (f : Nat) (g : RxFlow → RxFlow) (s : State) : (modFlow f g s).pending = s.pending := rfl
@[simp] theorem modDp_st_depacks_own (d : Nat) (g : Depack → Depack) (s : State) : (modDp d g s).st.depacks = tabMod s.st.depacks d g := rfl
@[simp] theorem modDp_ctl (d : Nat) (g : Depack → Depack) (s : State) : (modDp d g s).ctl = s.ctl := rfl
@[simp] theorem modDp_time (d : Nat) (g : Depack → Depack) (s : State) : (modDp d g s).time = s.time := rfl
@[simp] theorem modDp_sched (d : Nat) (g : Depack → Depack) (s : State) : (modDp d g s).sched = s.sched := rfl
@[simp] theorem modDp_fs (d : Nat) (g : Depack → Depack) (s : State) : (modDp d g s).fs = s.fs := rfl
@[simp] theorem modDp_ledger (d : Nat) (g : Depack → Depack) (s : State) : (modDp d g s).ledger = s.ledger := rfl
@[simp] theorem modDp_mac (d : Nat) (g : Depack → Depack) (s : State) : (modDp d g s).mac = s.mac := rfl
@[simp] theorem modDp_ingest (d : Nat) (g : Depack → Depack) (s : State) : (modDp d g s).ingest = s.ingest := rfl
@[simp] theorem modDp_pic (d : Nat) (g : Depack → Depack) (s : State) : (modDp d g s).pic = s.pic := rfl
@[simp] theorem modDp_vid (d : Nat) (g : Depack → Depack) (s : State) : (modDp d g s).vid = s.vid := rfl
@[simp] theorem modDp_mag (d : Nat) (g : Depack → Depack) (s : State) : (modDp d g s).mag = s.mag := rfl
@[simp] theorem modDp_dma (d : Nat) (g : Depack → Depack) (s : State) : (modDp d g s).dma = s.dma := rfl
@[simp] theorem modDp_ev (d : Nat) (g : Depack → Depack) (s : State) : (modDp d g s).ev = s.ev := rfl
@[simp] theorem modDp_power (d : Nat) (g : Depack → Depack) (s : State) : (modDp d g s).power = s.power := rfl
@[simp] theorem modDp_sl (d : Nat) (g : Depack → Depack) (s : State) : (modDp d g s).sl = s.sl := rfl
@[simp] theorem modDp_rel (d : Nat) (g : Depack → Depack) (s : State) : (modDp d g s).rel = s.rel := rfl
@[simp] theorem modDp_boot (d : Nat) (g : Depack → Depack) (s : State) : (modDp d g s).boot = s.boot := rfl
@[simp] theorem modDp_host (d : Nat) (g : Depack → Depack) (s : State) : (modDp d g s).host = s.host := rfl
@[simp] theorem modDp_free (d : Nat) (g : Depack → Depack) (s : State) : (modDp d g s).free = s.free := rfl
@[simp] theorem modDp_pending (d : Nat) (g : Depack → Depack) (s : State) : (modDp d g s).pending = s.pending := rfl
@[simp] theorem modDom_power_doms_own (d : Nat) (f : Domain → Domain) (s : State) : (modDom d f s).power.doms = tabMod s.power.doms d f := rfl
@[simp] theorem modDom_ctl (d : Nat) (f : Domain → Domain) (s : State) : (modDom d f s).ctl = s.ctl := rfl
@[simp] theorem modDom_time (d : Nat) (f : Domain → Domain) (s : State) : (modDom d f s).time = s.time := rfl
@[simp] theorem modDom_sched (d : Nat) (f : Domain → Domain) (s : State) : (modDom d f s).sched = s.sched := rfl
@[simp] theorem modDom_fs (d : Nat) (f : Domain → Domain) (s : State) : (modDom d f s).fs = s.fs := rfl
@[simp] theorem modDom_ledger (d : Nat) (f : Domain → Domain) (s : State) : (modDom d f s).ledger = s.ledger := rfl
@[simp] theorem modDom_mac (d : Nat) (f : Domain → Domain) (s : State) : (modDom d f s).mac = s.mac := rfl
@[simp] theorem modDom_ingest (d : Nat) (f : Domain → Domain) (s : State) : (modDom d f s).ingest = s.ingest := rfl
@[simp] theorem modDom_pic (d : Nat) (f : Domain → Domain) (s : State) : (modDom d f s).pic = s.pic := rfl
@[simp] theorem modDom_vid (d : Nat) (f : Domain → Domain) (s : State) : (modDom d f s).vid = s.vid := rfl
@[simp] theorem modDom_mag (d : Nat) (f : Domain → Domain) (s : State) : (modDom d f s).mag = s.mag := rfl
@[simp] theorem modDom_st (d : Nat) (f : Domain → Domain) (s : State) : (modDom d f s).st = s.st := rfl
@[simp] theorem modDom_dma (d : Nat) (f : Domain → Domain) (s : State) : (modDom d f s).dma = s.dma := rfl
@[simp] theorem modDom_ev (d : Nat) (f : Domain → Domain) (s : State) : (modDom d f s).ev = s.ev := rfl
@[simp] theorem modDom_sl (d : Nat) (f : Domain → Domain) (s : State) : (modDom d f s).sl = s.sl := rfl
@[simp] theorem modDom_rel (d : Nat) (f : Domain → Domain) (s : State) : (modDom d f s).rel = s.rel := rfl
@[simp] theorem modDom_boot (d : Nat) (f : Domain → Domain) (s : State) : (modDom d f s).boot = s.boot := rfl
@[simp] theorem modDom_host (d : Nat) (f : Domain → Domain) (s : State) : (modDom d f s).host = s.host := rfl
@[simp] theorem modDom_free (d : Nat) (f : Domain → Domain) (s : State) : (modDom d f s).free = s.free := rfl
@[simp] theorem modDom_pending (d : Nat) (f : Domain → Domain) (s : State) : (modDom d f s).pending = s.pending := rfl
@[simp] theorem modPwr_power_own (f : PowerPart → PowerPart) (s : State) : (modPwr f s).power = f s.power := rfl
@[simp] theorem modPwr_ctl (f : PowerPart → PowerPart) (s : State) : (modPwr f s).ctl = s.ctl := rfl
@[simp] theorem modPwr_time (f : PowerPart → PowerPart) (s : State) : (modPwr f s).time = s.time := rfl
@[simp] theorem modPwr_sched (f : PowerPart → PowerPart) (s : State) : (modPwr f s).sched = s.sched := rfl
@[simp] theorem modPwr_fs (f : PowerPart → PowerPart) (s : State) : (modPwr f s).fs = s.fs := rfl
@[simp] theorem modPwr_ledger (f : PowerPart → PowerPart) (s : State) : (modPwr f s).ledger = s.ledger := rfl
@[simp] theorem modPwr_mac (f : PowerPart → PowerPart) (s : State) : (modPwr f s).mac = s.mac := rfl
@[simp] theorem modPwr_ingest (f : PowerPart → PowerPart) (s : State) : (modPwr f s).ingest = s.ingest := rfl
@[simp] theorem modPwr_pic (f : PowerPart → PowerPart) (s : State) : (modPwr f s).pic = s.pic := rfl
@[simp] theorem modPwr_vid (f : PowerPart → PowerPart) (s : State) : (modPwr f s).vid = s.vid := rfl
@[simp] theorem modPwr_mag (f : PowerPart → PowerPart) (s : State) : (modPwr f s).mag = s.mag := rfl
@[simp] theorem modPwr_st (f : PowerPart → PowerPart) (s : State) : (modPwr f s).st = s.st := rfl
@[simp] theorem modPwr_dma (f : PowerPart → PowerPart) (s : State) : (modPwr f s).dma = s.dma := rfl
@[simp] theorem modPwr_ev (f : PowerPart → PowerPart) (s : State) : (modPwr f s).ev = s.ev := rfl
@[simp] theorem modPwr_sl (f : PowerPart → PowerPart) (s : State) : (modPwr f s).sl = s.sl := rfl
@[simp] theorem modPwr_rel (f : PowerPart → PowerPart) (s : State) : (modPwr f s).rel = s.rel := rfl
@[simp] theorem modPwr_boot (f : PowerPart → PowerPart) (s : State) : (modPwr f s).boot = s.boot := rfl
@[simp] theorem modPwr_host (f : PowerPart → PowerPart) (s : State) : (modPwr f s).host = s.host := rfl
@[simp] theorem modPwr_free (f : PowerPart → PowerPart) (s : State) : (modPwr f s).free = s.free := rfl
@[simp] theorem modPwr_pending (f : PowerPart → PowerPart) (s : State) : (modPwr f s).pending = s.pending := rfl
@[simp] theorem modSl_sl_own (f : Safelight → Safelight) (s : State) : (modSl f s).sl = f s.sl := rfl
@[simp] theorem modSl_ctl (f : Safelight → Safelight) (s : State) : (modSl f s).ctl = s.ctl := rfl
@[simp] theorem modSl_time (f : Safelight → Safelight) (s : State) : (modSl f s).time = s.time := rfl
@[simp] theorem modSl_sched (f : Safelight → Safelight) (s : State) : (modSl f s).sched = s.sched := rfl
@[simp] theorem modSl_fs (f : Safelight → Safelight) (s : State) : (modSl f s).fs = s.fs := rfl
@[simp] theorem modSl_ledger (f : Safelight → Safelight) (s : State) : (modSl f s).ledger = s.ledger := rfl
@[simp] theorem modSl_mac (f : Safelight → Safelight) (s : State) : (modSl f s).mac = s.mac := rfl
@[simp] theorem modSl_ingest (f : Safelight → Safelight) (s : State) : (modSl f s).ingest = s.ingest := rfl
@[simp] theorem modSl_pic (f : Safelight → Safelight) (s : State) : (modSl f s).pic = s.pic := rfl
@[simp] theorem modSl_vid (f : Safelight → Safelight) (s : State) : (modSl f s).vid = s.vid := rfl
@[simp] theorem modSl_mag (f : Safelight → Safelight) (s : State) : (modSl f s).mag = s.mag := rfl
@[simp] theorem modSl_st (f : Safelight → Safelight) (s : State) : (modSl f s).st = s.st := rfl
@[simp] theorem modSl_dma (f : Safelight → Safelight) (s : State) : (modSl f s).dma = s.dma := rfl
@[simp] theorem modSl_ev (f : Safelight → Safelight) (s : State) : (modSl f s).ev = s.ev := rfl
@[simp] theorem modSl_power (f : Safelight → Safelight) (s : State) : (modSl f s).power = s.power := rfl
@[simp] theorem modSl_rel (f : Safelight → Safelight) (s : State) : (modSl f s).rel = s.rel := rfl
@[simp] theorem modSl_boot (f : Safelight → Safelight) (s : State) : (modSl f s).boot = s.boot := rfl
@[simp] theorem modSl_host (f : Safelight → Safelight) (s : State) : (modSl f s).host = s.host := rfl
@[simp] theorem modSl_free (f : Safelight → Safelight) (s : State) : (modSl f s).free = s.free := rfl
@[simp] theorem modSl_pending (f : Safelight → Safelight) (s : State) : (modSl f s).pending = s.pending := rfl
@[simp] theorem modEv_ev_own (f : EventPart → EventPart) (s : State) : (modEv f s).ev = f s.ev := rfl
@[simp] theorem modEv_ctl (f : EventPart → EventPart) (s : State) : (modEv f s).ctl = s.ctl := rfl
@[simp] theorem modEv_time (f : EventPart → EventPart) (s : State) : (modEv f s).time = s.time := rfl
@[simp] theorem modEv_sched (f : EventPart → EventPart) (s : State) : (modEv f s).sched = s.sched := rfl
@[simp] theorem modEv_fs (f : EventPart → EventPart) (s : State) : (modEv f s).fs = s.fs := rfl
@[simp] theorem modEv_ledger (f : EventPart → EventPart) (s : State) : (modEv f s).ledger = s.ledger := rfl
@[simp] theorem modEv_mac (f : EventPart → EventPart) (s : State) : (modEv f s).mac = s.mac := rfl
@[simp] theorem modEv_ingest (f : EventPart → EventPart) (s : State) : (modEv f s).ingest = s.ingest := rfl
@[simp] theorem modEv_pic (f : EventPart → EventPart) (s : State) : (modEv f s).pic = s.pic := rfl
@[simp] theorem modEv_vid (f : EventPart → EventPart) (s : State) : (modEv f s).vid = s.vid := rfl
@[simp] theorem modEv_mag (f : EventPart → EventPart) (s : State) : (modEv f s).mag = s.mag := rfl
@[simp] theorem modEv_st (f : EventPart → EventPart) (s : State) : (modEv f s).st = s.st := rfl
@[simp] theorem modEv_dma (f : EventPart → EventPart) (s : State) : (modEv f s).dma = s.dma := rfl
@[simp] theorem modEv_power (f : EventPart → EventPart) (s : State) : (modEv f s).power = s.power := rfl
@[simp] theorem modEv_sl (f : EventPart → EventPart) (s : State) : (modEv f s).sl = s.sl := rfl
@[simp] theorem modEv_rel (f : EventPart → EventPart) (s : State) : (modEv f s).rel = s.rel := rfl
@[simp] theorem modEv_boot (f : EventPart → EventPart) (s : State) : (modEv f s).boot = s.boot := rfl
@[simp] theorem modEv_host (f : EventPart → EventPart) (s : State) : (modEv f s).host = s.host := rfl
@[simp] theorem modEv_free (f : EventPart → EventPart) (s : State) : (modEv f s).free = s.free := rfl
@[simp] theorem modEv_pending (f : EventPart → EventPart) (s : State) : (modEv f s).pending = s.pending := rfl
@[simp] theorem modBoot_boot_own (f : BootPart → BootPart) (s : State) : (modBoot f s).boot = f s.boot := rfl
@[simp] theorem modBoot_ctl (f : BootPart → BootPart) (s : State) : (modBoot f s).ctl = s.ctl := rfl
@[simp] theorem modBoot_time (f : BootPart → BootPart) (s : State) : (modBoot f s).time = s.time := rfl
@[simp] theorem modBoot_sched (f : BootPart → BootPart) (s : State) : (modBoot f s).sched = s.sched := rfl
@[simp] theorem modBoot_fs (f : BootPart → BootPart) (s : State) : (modBoot f s).fs = s.fs := rfl
@[simp] theorem modBoot_ledger (f : BootPart → BootPart) (s : State) : (modBoot f s).ledger = s.ledger := rfl
@[simp] theorem modBoot_mac (f : BootPart → BootPart) (s : State) : (modBoot f s).mac = s.mac := rfl
@[simp] theorem modBoot_ingest (f : BootPart → BootPart) (s : State) : (modBoot f s).ingest = s.ingest := rfl
@[simp] theorem modBoot_pic (f : BootPart → BootPart) (s : State) : (modBoot f s).pic = s.pic := rfl
@[simp] theorem modBoot_vid (f : BootPart → BootPart) (s : State) : (modBoot f s).vid = s.vid := rfl
@[simp] theorem modBoot_mag (f : BootPart → BootPart) (s : State) : (modBoot f s).mag = s.mag := rfl
@[simp] theorem modBoot_st (f : BootPart → BootPart) (s : State) : (modBoot f s).st = s.st := rfl
@[simp] theorem modBoot_dma (f : BootPart → BootPart) (s : State) : (modBoot f s).dma = s.dma := rfl
@[simp] theorem modBoot_ev (f : BootPart → BootPart) (s : State) : (modBoot f s).ev = s.ev := rfl
@[simp] theorem modBoot_power (f : BootPart → BootPart) (s : State) : (modBoot f s).power = s.power := rfl
@[simp] theorem modBoot_sl (f : BootPart → BootPart) (s : State) : (modBoot f s).sl = s.sl := rfl
@[simp] theorem modBoot_rel (f : BootPart → BootPart) (s : State) : (modBoot f s).rel = s.rel := rfl
@[simp] theorem modBoot_host (f : BootPart → BootPart) (s : State) : (modBoot f s).host = s.host := rfl
@[simp] theorem modBoot_free (f : BootPart → BootPart) (s : State) : (modBoot f s).free = s.free := rfl
@[simp] theorem modBoot_pending (f : BootPart → BootPart) (s : State) : (modBoot f s).pending = s.pending := rfl
@[simp] theorem modChan_fs_chans_own (c : Nat) (f : Channel → Channel) (s : State) : (modChan c f s).fs.chans = tabMod s.fs.chans c f := rfl
@[simp] theorem modChan_ctl (c : Nat) (f : Channel → Channel) (s : State) : (modChan c f s).ctl = s.ctl := rfl
@[simp] theorem modChan_time (c : Nat) (f : Channel → Channel) (s : State) : (modChan c f s).time = s.time := rfl
@[simp] theorem modChan_sched (c : Nat) (f : Channel → Channel) (s : State) : (modChan c f s).sched = s.sched := rfl
@[simp] theorem modChan_ledger (c : Nat) (f : Channel → Channel) (s : State) : (modChan c f s).ledger = s.ledger := rfl
@[simp] theorem modChan_mac (c : Nat) (f : Channel → Channel) (s : State) : (modChan c f s).mac = s.mac := rfl
@[simp] theorem modChan_ingest (c : Nat) (f : Channel → Channel) (s : State) : (modChan c f s).ingest = s.ingest := rfl
@[simp] theorem modChan_pic (c : Nat) (f : Channel → Channel) (s : State) : (modChan c f s).pic = s.pic := rfl
@[simp] theorem modChan_vid (c : Nat) (f : Channel → Channel) (s : State) : (modChan c f s).vid = s.vid := rfl
@[simp] theorem modChan_mag (c : Nat) (f : Channel → Channel) (s : State) : (modChan c f s).mag = s.mag := rfl
@[simp] theorem modChan_st (c : Nat) (f : Channel → Channel) (s : State) : (modChan c f s).st = s.st := rfl
@[simp] theorem modChan_dma (c : Nat) (f : Channel → Channel) (s : State) : (modChan c f s).dma = s.dma := rfl
@[simp] theorem modChan_ev (c : Nat) (f : Channel → Channel) (s : State) : (modChan c f s).ev = s.ev := rfl
@[simp] theorem modChan_power (c : Nat) (f : Channel → Channel) (s : State) : (modChan c f s).power = s.power := rfl
@[simp] theorem modChan_sl (c : Nat) (f : Channel → Channel) (s : State) : (modChan c f s).sl = s.sl := rfl
@[simp] theorem modChan_rel (c : Nat) (f : Channel → Channel) (s : State) : (modChan c f s).rel = s.rel := rfl
@[simp] theorem modChan_boot (c : Nat) (f : Channel → Channel) (s : State) : (modChan c f s).boot = s.boot := rfl
@[simp] theorem modChan_host (c : Nat) (f : Channel → Channel) (s : State) : (modChan c f s).host = s.host := rfl
@[simp] theorem modChan_free (c : Nat) (f : Channel → Channel) (s : State) : (modChan c f s).free = s.free := rfl
@[simp] theorem modChan_pending (c : Nat) (f : Channel → Channel) (s : State) : (modChan c f s).pending = s.pending := rfl
@[simp] theorem modPtp_st_ptp_own (m : Nat) (f : PtpPort → PtpPort) (s : State) : (modPtp m f s).st.ptp = tabMod s.st.ptp m f := rfl
@[simp] theorem modPtp_ctl (m : Nat) (f : PtpPort → PtpPort) (s : State) : (modPtp m f s).ctl = s.ctl := rfl
@[simp] theorem modPtp_time (m : Nat) (f : PtpPort → PtpPort) (s : State) : (modPtp m f s).time = s.time := rfl
@[simp] theorem modPtp_sched (m : Nat) (f : PtpPort → PtpPort) (s : State) : (modPtp m f s).sched = s.sched := rfl
@[simp] theorem modPtp_fs (m : Nat) (f : PtpPort → PtpPort) (s : State) : (modPtp m f s).fs = s.fs := rfl
@[simp] theorem modPtp_ledger (m : Nat) (f : PtpPort → PtpPort) (s : State) : (modPtp m f s).ledger = s.ledger := rfl
@[simp] theorem modPtp_mac (m : Nat) (f : PtpPort → PtpPort) (s : State) : (modPtp m f s).mac = s.mac := rfl
@[simp] theorem modPtp_ingest (m : Nat) (f : PtpPort → PtpPort) (s : State) : (modPtp m f s).ingest = s.ingest := rfl
@[simp] theorem modPtp_pic (m : Nat) (f : PtpPort → PtpPort) (s : State) : (modPtp m f s).pic = s.pic := rfl
@[simp] theorem modPtp_vid (m : Nat) (f : PtpPort → PtpPort) (s : State) : (modPtp m f s).vid = s.vid := rfl
@[simp] theorem modPtp_mag (m : Nat) (f : PtpPort → PtpPort) (s : State) : (modPtp m f s).mag = s.mag := rfl
@[simp] theorem modPtp_dma (m : Nat) (f : PtpPort → PtpPort) (s : State) : (modPtp m f s).dma = s.dma := rfl
@[simp] theorem modPtp_ev (m : Nat) (f : PtpPort → PtpPort) (s : State) : (modPtp m f s).ev = s.ev := rfl
@[simp] theorem modPtp_power (m : Nat) (f : PtpPort → PtpPort) (s : State) : (modPtp m f s).power = s.power := rfl
@[simp] theorem modPtp_sl (m : Nat) (f : PtpPort → PtpPort) (s : State) : (modPtp m f s).sl = s.sl := rfl
@[simp] theorem modPtp_rel (m : Nat) (f : PtpPort → PtpPort) (s : State) : (modPtp m f s).rel = s.rel := rfl
@[simp] theorem modPtp_boot (m : Nat) (f : PtpPort → PtpPort) (s : State) : (modPtp m f s).boot = s.boot := rfl
@[simp] theorem modPtp_host (m : Nat) (f : PtpPort → PtpPort) (s : State) : (modPtp m f s).host = s.host := rfl
@[simp] theorem modPtp_free (m : Nat) (f : PtpPort → PtpPort) (s : State) : (modPtp m f s).free = s.free := rfl
@[simp] theorem modPtp_pending (m : Nat) (f : PtpPort → PtpPort) (s : State) : (modPtp m f s).pending = s.pending := rfl
@[simp] theorem modRig_st_rig_own (f : Rig → Rig) (s : State) : (modRig f s).st.rig = f s.st.rig := rfl
@[simp] theorem modRig_ctl (f : Rig → Rig) (s : State) : (modRig f s).ctl = s.ctl := rfl
@[simp] theorem modRig_time (f : Rig → Rig) (s : State) : (modRig f s).time = s.time := rfl
@[simp] theorem modRig_sched (f : Rig → Rig) (s : State) : (modRig f s).sched = s.sched := rfl
@[simp] theorem modRig_fs (f : Rig → Rig) (s : State) : (modRig f s).fs = s.fs := rfl
@[simp] theorem modRig_ledger (f : Rig → Rig) (s : State) : (modRig f s).ledger = s.ledger := rfl
@[simp] theorem modRig_mac (f : Rig → Rig) (s : State) : (modRig f s).mac = s.mac := rfl
@[simp] theorem modRig_ingest (f : Rig → Rig) (s : State) : (modRig f s).ingest = s.ingest := rfl
@[simp] theorem modRig_pic (f : Rig → Rig) (s : State) : (modRig f s).pic = s.pic := rfl
@[simp] theorem modRig_vid (f : Rig → Rig) (s : State) : (modRig f s).vid = s.vid := rfl
@[simp] theorem modRig_mag (f : Rig → Rig) (s : State) : (modRig f s).mag = s.mag := rfl
@[simp] theorem modRig_dma (f : Rig → Rig) (s : State) : (modRig f s).dma = s.dma := rfl
@[simp] theorem modRig_ev (f : Rig → Rig) (s : State) : (modRig f s).ev = s.ev := rfl
@[simp] theorem modRig_power (f : Rig → Rig) (s : State) : (modRig f s).power = s.power := rfl
@[simp] theorem modRig_sl (f : Rig → Rig) (s : State) : (modRig f s).sl = s.sl := rfl
@[simp] theorem modRig_rel (f : Rig → Rig) (s : State) : (modRig f s).rel = s.rel := rfl
@[simp] theorem modRig_boot (f : Rig → Rig) (s : State) : (modRig f s).boot = s.boot := rfl
@[simp] theorem modRig_host (f : Rig → Rig) (s : State) : (modRig f s).host = s.host := rfl
@[simp] theorem modRig_free (f : Rig → Rig) (s : State) : (modRig f s).free = s.free := rfl
@[simp] theorem modRig_pending (f : Rig → Rig) (s : State) : (modRig f s).pending = s.pending := rfl
@[simp] theorem modShed_pic_shed_own (f : ShedPart → ShedPart) (s : State) : (modShed f s).pic.shed = f s.pic.shed := rfl
@[simp] theorem modShed_ctl (f : ShedPart → ShedPart) (s : State) : (modShed f s).ctl = s.ctl := rfl
@[simp] theorem modShed_time (f : ShedPart → ShedPart) (s : State) : (modShed f s).time = s.time := rfl
@[simp] theorem modShed_sched (f : ShedPart → ShedPart) (s : State) : (modShed f s).sched = s.sched := rfl
@[simp] theorem modShed_fs (f : ShedPart → ShedPart) (s : State) : (modShed f s).fs = s.fs := rfl
@[simp] theorem modShed_ledger (f : ShedPart → ShedPart) (s : State) : (modShed f s).ledger = s.ledger := rfl
@[simp] theorem modShed_mac (f : ShedPart → ShedPart) (s : State) : (modShed f s).mac = s.mac := rfl
@[simp] theorem modShed_ingest (f : ShedPart → ShedPart) (s : State) : (modShed f s).ingest = s.ingest := rfl
@[simp] theorem modShed_vid (f : ShedPart → ShedPart) (s : State) : (modShed f s).vid = s.vid := rfl
@[simp] theorem modShed_mag (f : ShedPart → ShedPart) (s : State) : (modShed f s).mag = s.mag := rfl
@[simp] theorem modShed_st (f : ShedPart → ShedPart) (s : State) : (modShed f s).st = s.st := rfl
@[simp] theorem modShed_dma (f : ShedPart → ShedPart) (s : State) : (modShed f s).dma = s.dma := rfl
@[simp] theorem modShed_ev (f : ShedPart → ShedPart) (s : State) : (modShed f s).ev = s.ev := rfl
@[simp] theorem modShed_power (f : ShedPart → ShedPart) (s : State) : (modShed f s).power = s.power := rfl
@[simp] theorem modShed_sl (f : ShedPart → ShedPart) (s : State) : (modShed f s).sl = s.sl := rfl
@[simp] theorem modShed_rel (f : ShedPart → ShedPart) (s : State) : (modShed f s).rel = s.rel := rfl
@[simp] theorem modShed_boot (f : ShedPart → ShedPart) (s : State) : (modShed f s).boot = s.boot := rfl
@[simp] theorem modShed_host (f : ShedPart → ShedPart) (s : State) : (modShed f s).host = s.host := rfl
@[simp] theorem modShed_free (f : ShedPart → ShedPart) (s : State) : (modShed f s).free = s.free := rfl
@[simp] theorem modShed_pending (f : ShedPart → ShedPart) (s : State) : (modShed f s).pending = s.pending := rfl
@[simp] theorem modSub_st_subs_own (n : Nat) (f : Sub → Sub) (s : State) : (modSub n f s).st.subs = tabMod s.st.subs n f := rfl
@[simp] theorem modSub_ctl (n : Nat) (f : Sub → Sub) (s : State) : (modSub n f s).ctl = s.ctl := rfl
@[simp] theorem modSub_time (n : Nat) (f : Sub → Sub) (s : State) : (modSub n f s).time = s.time := rfl
@[simp] theorem modSub_sched (n : Nat) (f : Sub → Sub) (s : State) : (modSub n f s).sched = s.sched := rfl
@[simp] theorem modSub_fs (n : Nat) (f : Sub → Sub) (s : State) : (modSub n f s).fs = s.fs := rfl
@[simp] theorem modSub_ledger (n : Nat) (f : Sub → Sub) (s : State) : (modSub n f s).ledger = s.ledger := rfl
@[simp] theorem modSub_mac (n : Nat) (f : Sub → Sub) (s : State) : (modSub n f s).mac = s.mac := rfl
@[simp] theorem modSub_ingest (n : Nat) (f : Sub → Sub) (s : State) : (modSub n f s).ingest = s.ingest := rfl
@[simp] theorem modSub_pic (n : Nat) (f : Sub → Sub) (s : State) : (modSub n f s).pic = s.pic := rfl
@[simp] theorem modSub_vid (n : Nat) (f : Sub → Sub) (s : State) : (modSub n f s).vid = s.vid := rfl
@[simp] theorem modSub_mag (n : Nat) (f : Sub → Sub) (s : State) : (modSub n f s).mag = s.mag := rfl
@[simp] theorem modSub_dma (n : Nat) (f : Sub → Sub) (s : State) : (modSub n f s).dma = s.dma := rfl
@[simp] theorem modSub_ev (n : Nat) (f : Sub → Sub) (s : State) : (modSub n f s).ev = s.ev := rfl
@[simp] theorem modSub_power (n : Nat) (f : Sub → Sub) (s : State) : (modSub n f s).power = s.power := rfl
@[simp] theorem modSub_sl (n : Nat) (f : Sub → Sub) (s : State) : (modSub n f s).sl = s.sl := rfl
@[simp] theorem modSub_rel (n : Nat) (f : Sub → Sub) (s : State) : (modSub n f s).rel = s.rel := rfl
@[simp] theorem modSub_boot (n : Nat) (f : Sub → Sub) (s : State) : (modSub n f s).boot = s.boot := rfl
@[simp] theorem modSub_host (n : Nat) (f : Sub → Sub) (s : State) : (modSub n f s).host = s.host := rfl
@[simp] theorem modSub_free (n : Nat) (f : Sub → Sub) (s : State) : (modSub n f s).free = s.free := rfl
@[simp] theorem modSub_pending (n : Nat) (f : Sub → Sub) (s : State) : (modSub n f s).pending = s.pending := rfl
@[simp] theorem modPort_st_ports_own (m : Nat) (f : StPort → StPort) (s : State) : (modPort m f s).st.ports = tabMod s.st.ports m f := rfl
@[simp] theorem modPort_ctl (m : Nat) (f : StPort → StPort) (s : State) : (modPort m f s).ctl = s.ctl := rfl
@[simp] theorem modPort_time (m : Nat) (f : StPort → StPort) (s : State) : (modPort m f s).time = s.time := rfl
@[simp] theorem modPort_sched (m : Nat) (f : StPort → StPort) (s : State) : (modPort m f s).sched = s.sched := rfl
@[simp] theorem modPort_fs (m : Nat) (f : StPort → StPort) (s : State) : (modPort m f s).fs = s.fs := rfl
@[simp] theorem modPort_ledger (m : Nat) (f : StPort → StPort) (s : State) : (modPort m f s).ledger = s.ledger := rfl
@[simp] theorem modPort_mac (m : Nat) (f : StPort → StPort) (s : State) : (modPort m f s).mac = s.mac := rfl
@[simp] theorem modPort_ingest (m : Nat) (f : StPort → StPort) (s : State) : (modPort m f s).ingest = s.ingest := rfl
@[simp] theorem modPort_pic (m : Nat) (f : StPort → StPort) (s : State) : (modPort m f s).pic = s.pic := rfl
@[simp] theorem modPort_vid (m : Nat) (f : StPort → StPort) (s : State) : (modPort m f s).vid = s.vid := rfl
@[simp] theorem modPort_mag (m : Nat) (f : StPort → StPort) (s : State) : (modPort m f s).mag = s.mag := rfl
@[simp] theorem modPort_dma (m : Nat) (f : StPort → StPort) (s : State) : (modPort m f s).dma = s.dma := rfl
@[simp] theorem modPort_ev (m : Nat) (f : StPort → StPort) (s : State) : (modPort m f s).ev = s.ev := rfl
@[simp] theorem modPort_power (m : Nat) (f : StPort → StPort) (s : State) : (modPort m f s).power = s.power := rfl
@[simp] theorem modPort_sl (m : Nat) (f : StPort → StPort) (s : State) : (modPort m f s).sl = s.sl := rfl
@[simp] theorem modPort_rel (m : Nat) (f : StPort → StPort) (s : State) : (modPort m f s).rel = s.rel := rfl
@[simp] theorem modPort_boot (m : Nat) (f : StPort → StPort) (s : State) : (modPort m f s).boot = s.boot := rfl
@[simp] theorem modPort_host (m : Nat) (f : StPort → StPort) (s : State) : (modPort m f s).host = s.host := rfl
@[simp] theorem modPort_free (m : Nat) (f : StPort → StPort) (s : State) : (modPort m f s).free = s.free := rfl
@[simp] theorem modPort_pending (m : Nat) (f : StPort → StPort) (s : State) : (modPort m f s).pending = s.pending := rfl
@[simp] theorem modSlot_sched_slots_own (n : Nat) (f : Slot → Slot) (s : State) : (modSlot n f s).sched.slots = tabMod s.sched.slots n f := rfl
@[simp] theorem modSlot_ctl (n : Nat) (f : Slot → Slot) (s : State) : (modSlot n f s).ctl = s.ctl := rfl
@[simp] theorem modSlot_time (n : Nat) (f : Slot → Slot) (s : State) : (modSlot n f s).time = s.time := rfl
@[simp] theorem modSlot_fs (n : Nat) (f : Slot → Slot) (s : State) : (modSlot n f s).fs = s.fs := rfl
@[simp] theorem modSlot_ledger (n : Nat) (f : Slot → Slot) (s : State) : (modSlot n f s).ledger = s.ledger := rfl
@[simp] theorem modSlot_mac (n : Nat) (f : Slot → Slot) (s : State) : (modSlot n f s).mac = s.mac := rfl
@[simp] theorem modSlot_ingest (n : Nat) (f : Slot → Slot) (s : State) : (modSlot n f s).ingest = s.ingest := rfl
@[simp] theorem modSlot_pic (n : Nat) (f : Slot → Slot) (s : State) : (modSlot n f s).pic = s.pic := rfl
@[simp] theorem modSlot_vid (n : Nat) (f : Slot → Slot) (s : State) : (modSlot n f s).vid = s.vid := rfl
@[simp] theorem modSlot_mag (n : Nat) (f : Slot → Slot) (s : State) : (modSlot n f s).mag = s.mag := rfl
@[simp] theorem modSlot_st (n : Nat) (f : Slot → Slot) (s : State) : (modSlot n f s).st = s.st := rfl
@[simp] theorem modSlot_dma (n : Nat) (f : Slot → Slot) (s : State) : (modSlot n f s).dma = s.dma := rfl
@[simp] theorem modSlot_ev (n : Nat) (f : Slot → Slot) (s : State) : (modSlot n f s).ev = s.ev := rfl
@[simp] theorem modSlot_power (n : Nat) (f : Slot → Slot) (s : State) : (modSlot n f s).power = s.power := rfl
@[simp] theorem modSlot_sl (n : Nat) (f : Slot → Slot) (s : State) : (modSlot n f s).sl = s.sl := rfl
@[simp] theorem modSlot_rel (n : Nat) (f : Slot → Slot) (s : State) : (modSlot n f s).rel = s.rel := rfl
@[simp] theorem modSlot_boot (n : Nat) (f : Slot → Slot) (s : State) : (modSlot n f s).boot = s.boot := rfl
@[simp] theorem modSlot_host (n : Nat) (f : Slot → Slot) (s : State) : (modSlot n f s).host = s.host := rfl
@[simp] theorem modSlot_free (n : Nat) (f : Slot → Slot) (s : State) : (modSlot n f s).free = s.free := rfl
@[simp] theorem modSlot_pending (n : Nat) (f : Slot → Slot) (s : State) : (modSlot n f s).pending = s.pending := rfl
@[simp] theorem modIn_ingest_ctxs_own (k : Nat) (f : Ingest → Ingest) (s : State) : (modIn k f s).ingest.ctxs = tabMod s.ingest.ctxs k f := rfl
@[simp] theorem modIn_ctl (k : Nat) (f : Ingest → Ingest) (s : State) : (modIn k f s).ctl = s.ctl := rfl
@[simp] theorem modIn_time (k : Nat) (f : Ingest → Ingest) (s : State) : (modIn k f s).time = s.time := rfl
@[simp] theorem modIn_sched (k : Nat) (f : Ingest → Ingest) (s : State) : (modIn k f s).sched = s.sched := rfl
@[simp] theorem modIn_fs (k : Nat) (f : Ingest → Ingest) (s : State) : (modIn k f s).fs = s.fs := rfl
@[simp] theorem modIn_ledger (k : Nat) (f : Ingest → Ingest) (s : State) : (modIn k f s).ledger = s.ledger := rfl
@[simp] theorem modIn_mac (k : Nat) (f : Ingest → Ingest) (s : State) : (modIn k f s).mac = s.mac := rfl
@[simp] theorem modIn_pic (k : Nat) (f : Ingest → Ingest) (s : State) : (modIn k f s).pic = s.pic := rfl
@[simp] theorem modIn_vid (k : Nat) (f : Ingest → Ingest) (s : State) : (modIn k f s).vid = s.vid := rfl
@[simp] theorem modIn_mag (k : Nat) (f : Ingest → Ingest) (s : State) : (modIn k f s).mag = s.mag := rfl
@[simp] theorem modIn_st (k : Nat) (f : Ingest → Ingest) (s : State) : (modIn k f s).st = s.st := rfl
@[simp] theorem modIn_dma (k : Nat) (f : Ingest → Ingest) (s : State) : (modIn k f s).dma = s.dma := rfl
@[simp] theorem modIn_ev (k : Nat) (f : Ingest → Ingest) (s : State) : (modIn k f s).ev = s.ev := rfl
@[simp] theorem modIn_power (k : Nat) (f : Ingest → Ingest) (s : State) : (modIn k f s).power = s.power := rfl
@[simp] theorem modIn_sl (k : Nat) (f : Ingest → Ingest) (s : State) : (modIn k f s).sl = s.sl := rfl
@[simp] theorem modIn_rel (k : Nat) (f : Ingest → Ingest) (s : State) : (modIn k f s).rel = s.rel := rfl
@[simp] theorem modIn_boot (k : Nat) (f : Ingest → Ingest) (s : State) : (modIn k f s).boot = s.boot := rfl
@[simp] theorem modIn_host (k : Nat) (f : Ingest → Ingest) (s : State) : (modIn k f s).host = s.host := rfl
@[simp] theorem modIn_free (k : Nat) (f : Ingest → Ingest) (s : State) : (modIn k f s).free = s.free := rfl
@[simp] theorem modIn_pending (k : Nat) (f : Ingest → Ingest) (s : State) : (modIn k f s).pending = s.pending := rfl
@[simp] theorem modMac_mac_macs_own (m : Nat) (f : Mac → Mac) (s : State) : (modMac m f s).mac.macs = tabMod s.mac.macs m f := rfl
@[simp] theorem modMac_ctl (m : Nat) (f : Mac → Mac) (s : State) : (modMac m f s).ctl = s.ctl := rfl
@[simp] theorem modMac_time (m : Nat) (f : Mac → Mac) (s : State) : (modMac m f s).time = s.time := rfl
@[simp] theorem modMac_sched (m : Nat) (f : Mac → Mac) (s : State) : (modMac m f s).sched = s.sched := rfl
@[simp] theorem modMac_fs (m : Nat) (f : Mac → Mac) (s : State) : (modMac m f s).fs = s.fs := rfl
@[simp] theorem modMac_ledger (m : Nat) (f : Mac → Mac) (s : State) : (modMac m f s).ledger = s.ledger := rfl
@[simp] theorem modMac_ingest (m : Nat) (f : Mac → Mac) (s : State) : (modMac m f s).ingest = s.ingest := rfl
@[simp] theorem modMac_pic (m : Nat) (f : Mac → Mac) (s : State) : (modMac m f s).pic = s.pic := rfl
@[simp] theorem modMac_vid (m : Nat) (f : Mac → Mac) (s : State) : (modMac m f s).vid = s.vid := rfl
@[simp] theorem modMac_mag (m : Nat) (f : Mac → Mac) (s : State) : (modMac m f s).mag = s.mag := rfl
@[simp] theorem modMac_st (m : Nat) (f : Mac → Mac) (s : State) : (modMac m f s).st = s.st := rfl
@[simp] theorem modMac_dma (m : Nat) (f : Mac → Mac) (s : State) : (modMac m f s).dma = s.dma := rfl
@[simp] theorem modMac_ev (m : Nat) (f : Mac → Mac) (s : State) : (modMac m f s).ev = s.ev := rfl
@[simp] theorem modMac_power (m : Nat) (f : Mac → Mac) (s : State) : (modMac m f s).power = s.power := rfl
@[simp] theorem modMac_sl (m : Nat) (f : Mac → Mac) (s : State) : (modMac m f s).sl = s.sl := rfl
@[simp] theorem modMac_rel (m : Nat) (f : Mac → Mac) (s : State) : (modMac m f s).rel = s.rel := rfl
@[simp] theorem modMac_boot (m : Nat) (f : Mac → Mac) (s : State) : (modMac m f s).boot = s.boot := rfl
@[simp] theorem modMac_host (m : Nat) (f : Mac → Mac) (s : State) : (modMac m f s).host = s.host := rfl
@[simp] theorem modMac_free (m : Nat) (f : Mac → Mac) (s : State) : (modMac m f s).free = s.free := rfl
@[simp] theorem modMac_pending (m : Nat) (f : Mac → Mac) (s : State) : (modMac m f s).pending = s.pending := rfl
@[simp] theorem modLane_mac_lanes_own (n : Nat) (f : Lane → Lane) (s : State) : (modLane n f s).mac.lanes = tabMod s.mac.lanes n f := rfl
@[simp] theorem modLane_ctl (n : Nat) (f : Lane → Lane) (s : State) : (modLane n f s).ctl = s.ctl := rfl
@[simp] theorem modLane_time (n : Nat) (f : Lane → Lane) (s : State) : (modLane n f s).time = s.time := rfl
@[simp] theorem modLane_sched (n : Nat) (f : Lane → Lane) (s : State) : (modLane n f s).sched = s.sched := rfl
@[simp] theorem modLane_fs (n : Nat) (f : Lane → Lane) (s : State) : (modLane n f s).fs = s.fs := rfl
@[simp] theorem modLane_ledger (n : Nat) (f : Lane → Lane) (s : State) : (modLane n f s).ledger = s.ledger := rfl
@[simp] theorem modLane_ingest (n : Nat) (f : Lane → Lane) (s : State) : (modLane n f s).ingest = s.ingest := rfl
@[simp] theorem modLane_pic (n : Nat) (f : Lane → Lane) (s : State) : (modLane n f s).pic = s.pic := rfl
@[simp] theorem modLane_vid (n : Nat) (f : Lane → Lane) (s : State) : (modLane n f s).vid = s.vid := rfl
@[simp] theorem modLane_mag (n : Nat) (f : Lane → Lane) (s : State) : (modLane n f s).mag = s.mag := rfl
@[simp] theorem modLane_st (n : Nat) (f : Lane → Lane) (s : State) : (modLane n f s).st = s.st := rfl
@[simp] theorem modLane_dma (n : Nat) (f : Lane → Lane) (s : State) : (modLane n f s).dma = s.dma := rfl
@[simp] theorem modLane_ev (n : Nat) (f : Lane → Lane) (s : State) : (modLane n f s).ev = s.ev := rfl
@[simp] theorem modLane_power (n : Nat) (f : Lane → Lane) (s : State) : (modLane n f s).power = s.power := rfl
@[simp] theorem modLane_sl (n : Nat) (f : Lane → Lane) (s : State) : (modLane n f s).sl = s.sl := rfl
@[simp] theorem modLane_rel (n : Nat) (f : Lane → Lane) (s : State) : (modLane n f s).rel = s.rel := rfl
@[simp] theorem modLane_boot (n : Nat) (f : Lane → Lane) (s : State) : (modLane n f s).boot = s.boot := rfl
@[simp] theorem modLane_host (n : Nat) (f : Lane → Lane) (s : State) : (modLane n f s).host = s.host := rfl
@[simp] theorem modLane_free (n : Nat) (f : Lane → Lane) (s : State) : (modLane n f s).free = s.free := rfl
@[simp] theorem modLane_pending (n : Nat) (f : Lane → Lane) (s : State) : (modLane n f s).pending = s.pending := rfl
@[simp] theorem modBuf_ledger_bufs_own (b : Nat) (f : Buffer → Buffer) (s : State) : (modBuf b f s).ledger.bufs = tabMod s.ledger.bufs b f := rfl
@[simp] theorem modBuf_ctl (b : Nat) (f : Buffer → Buffer) (s : State) : (modBuf b f s).ctl = s.ctl := rfl
@[simp] theorem modBuf_time (b : Nat) (f : Buffer → Buffer) (s : State) : (modBuf b f s).time = s.time := rfl
@[simp] theorem modBuf_sched (b : Nat) (f : Buffer → Buffer) (s : State) : (modBuf b f s).sched = s.sched := rfl
@[simp] theorem modBuf_fs (b : Nat) (f : Buffer → Buffer) (s : State) : (modBuf b f s).fs = s.fs := rfl
@[simp] theorem modBuf_mac (b : Nat) (f : Buffer → Buffer) (s : State) : (modBuf b f s).mac = s.mac := rfl
@[simp] theorem modBuf_ingest (b : Nat) (f : Buffer → Buffer) (s : State) : (modBuf b f s).ingest = s.ingest := rfl
@[simp] theorem modBuf_pic (b : Nat) (f : Buffer → Buffer) (s : State) : (modBuf b f s).pic = s.pic := rfl
@[simp] theorem modBuf_vid (b : Nat) (f : Buffer → Buffer) (s : State) : (modBuf b f s).vid = s.vid := rfl
@[simp] theorem modBuf_mag (b : Nat) (f : Buffer → Buffer) (s : State) : (modBuf b f s).mag = s.mag := rfl
@[simp] theorem modBuf_st (b : Nat) (f : Buffer → Buffer) (s : State) : (modBuf b f s).st = s.st := rfl
@[simp] theorem modBuf_dma (b : Nat) (f : Buffer → Buffer) (s : State) : (modBuf b f s).dma = s.dma := rfl
@[simp] theorem modBuf_ev (b : Nat) (f : Buffer → Buffer) (s : State) : (modBuf b f s).ev = s.ev := rfl
@[simp] theorem modBuf_power (b : Nat) (f : Buffer → Buffer) (s : State) : (modBuf b f s).power = s.power := rfl
@[simp] theorem modBuf_sl (b : Nat) (f : Buffer → Buffer) (s : State) : (modBuf b f s).sl = s.sl := rfl
@[simp] theorem modBuf_rel (b : Nat) (f : Buffer → Buffer) (s : State) : (modBuf b f s).rel = s.rel := rfl
@[simp] theorem modBuf_boot (b : Nat) (f : Buffer → Buffer) (s : State) : (modBuf b f s).boot = s.boot := rfl
@[simp] theorem modBuf_host (b : Nat) (f : Buffer → Buffer) (s : State) : (modBuf b f s).host = s.host := rfl
@[simp] theorem modBuf_free (b : Nat) (f : Buffer → Buffer) (s : State) : (modBuf b f s).free = s.free := rfl
@[simp] theorem modBuf_pending (b : Nat) (f : Buffer → Buffer) (s : State) : (modBuf b f s).pending = s.pending := rfl
@[simp] theorem modPool_ledger_pools_own (p : Nat) (f : Pool → Pool) (s : State) : (modPool p f s).ledger.pools = tabMod s.ledger.pools p f := rfl
@[simp] theorem modPool_ctl (p : Nat) (f : Pool → Pool) (s : State) : (modPool p f s).ctl = s.ctl := rfl
@[simp] theorem modPool_time (p : Nat) (f : Pool → Pool) (s : State) : (modPool p f s).time = s.time := rfl
@[simp] theorem modPool_sched (p : Nat) (f : Pool → Pool) (s : State) : (modPool p f s).sched = s.sched := rfl
@[simp] theorem modPool_fs (p : Nat) (f : Pool → Pool) (s : State) : (modPool p f s).fs = s.fs := rfl
@[simp] theorem modPool_mac (p : Nat) (f : Pool → Pool) (s : State) : (modPool p f s).mac = s.mac := rfl
@[simp] theorem modPool_ingest (p : Nat) (f : Pool → Pool) (s : State) : (modPool p f s).ingest = s.ingest := rfl
@[simp] theorem modPool_pic (p : Nat) (f : Pool → Pool) (s : State) : (modPool p f s).pic = s.pic := rfl
@[simp] theorem modPool_vid (p : Nat) (f : Pool → Pool) (s : State) : (modPool p f s).vid = s.vid := rfl
@[simp] theorem modPool_mag (p : Nat) (f : Pool → Pool) (s : State) : (modPool p f s).mag = s.mag := rfl
@[simp] theorem modPool_st (p : Nat) (f : Pool → Pool) (s : State) : (modPool p f s).st = s.st := rfl
@[simp] theorem modPool_dma (p : Nat) (f : Pool → Pool) (s : State) : (modPool p f s).dma = s.dma := rfl
@[simp] theorem modPool_ev (p : Nat) (f : Pool → Pool) (s : State) : (modPool p f s).ev = s.ev := rfl
@[simp] theorem modPool_power (p : Nat) (f : Pool → Pool) (s : State) : (modPool p f s).power = s.power := rfl
@[simp] theorem modPool_sl (p : Nat) (f : Pool → Pool) (s : State) : (modPool p f s).sl = s.sl := rfl
@[simp] theorem modPool_rel (p : Nat) (f : Pool → Pool) (s : State) : (modPool p f s).rel = s.rel := rfl
@[simp] theorem modPool_boot (p : Nat) (f : Pool → Pool) (s : State) : (modPool p f s).boot = s.boot := rfl
@[simp] theorem modPool_host (p : Nat) (f : Pool → Pool) (s : State) : (modPool p f s).host = s.host := rfl
@[simp] theorem modPool_free (p : Nat) (f : Pool → Pool) (s : State) : (modPool p f s).free = s.free := rfl
@[simp] theorem modPool_pending (p : Nat) (f : Pool → Pool) (s : State) : (modPool p f s).pending = s.pending := rfl
@[simp] theorem modRec_mag_chans_own (c : Nat) (f : RecChan → RecChan) (s : State) : (modRec c f s).mag.chans = tabMod s.mag.chans c f := rfl
@[simp] theorem modRec_ctl (c : Nat) (f : RecChan → RecChan) (s : State) : (modRec c f s).ctl = s.ctl := rfl
@[simp] theorem modRec_time (c : Nat) (f : RecChan → RecChan) (s : State) : (modRec c f s).time = s.time := rfl
@[simp] theorem modRec_sched (c : Nat) (f : RecChan → RecChan) (s : State) : (modRec c f s).sched = s.sched := rfl
@[simp] theorem modRec_fs (c : Nat) (f : RecChan → RecChan) (s : State) : (modRec c f s).fs = s.fs := rfl
@[simp] theorem modRec_ledger (c : Nat) (f : RecChan → RecChan) (s : State) : (modRec c f s).ledger = s.ledger := rfl
@[simp] theorem modRec_mac (c : Nat) (f : RecChan → RecChan) (s : State) : (modRec c f s).mac = s.mac := rfl
@[simp] theorem modRec_ingest (c : Nat) (f : RecChan → RecChan) (s : State) : (modRec c f s).ingest = s.ingest := rfl
@[simp] theorem modRec_pic (c : Nat) (f : RecChan → RecChan) (s : State) : (modRec c f s).pic = s.pic := rfl
@[simp] theorem modRec_vid (c : Nat) (f : RecChan → RecChan) (s : State) : (modRec c f s).vid = s.vid := rfl
@[simp] theorem modRec_st (c : Nat) (f : RecChan → RecChan) (s : State) : (modRec c f s).st = s.st := rfl
@[simp] theorem modRec_dma (c : Nat) (f : RecChan → RecChan) (s : State) : (modRec c f s).dma = s.dma := rfl
@[simp] theorem modRec_ev (c : Nat) (f : RecChan → RecChan) (s : State) : (modRec c f s).ev = s.ev := rfl
@[simp] theorem modRec_power (c : Nat) (f : RecChan → RecChan) (s : State) : (modRec c f s).power = s.power := rfl
@[simp] theorem modRec_sl (c : Nat) (f : RecChan → RecChan) (s : State) : (modRec c f s).sl = s.sl := rfl
@[simp] theorem modRec_rel (c : Nat) (f : RecChan → RecChan) (s : State) : (modRec c f s).rel = s.rel := rfl
@[simp] theorem modRec_boot (c : Nat) (f : RecChan → RecChan) (s : State) : (modRec c f s).boot = s.boot := rfl
@[simp] theorem modRec_host (c : Nat) (f : RecChan → RecChan) (s : State) : (modRec c f s).host = s.host := rfl
@[simp] theorem modRec_free (c : Nat) (f : RecChan → RecChan) (s : State) : (modRec c f s).free = s.free := rfl
@[simp] theorem modRec_pending (c : Nat) (f : RecChan → RecChan) (s : State) : (modRec c f s).pending = s.pending := rfl
@[simp] theorem modWin_pic_win_own (f : Window → Window) (s : State) : (modWin f s).pic.win = f s.pic.win := rfl
@[simp] theorem modWin_ctl (f : Window → Window) (s : State) : (modWin f s).ctl = s.ctl := rfl
@[simp] theorem modWin_time (f : Window → Window) (s : State) : (modWin f s).time = s.time := rfl
@[simp] theorem modWin_sched (f : Window → Window) (s : State) : (modWin f s).sched = s.sched := rfl
@[simp] theorem modWin_fs (f : Window → Window) (s : State) : (modWin f s).fs = s.fs := rfl
@[simp] theorem modWin_ledger (f : Window → Window) (s : State) : (modWin f s).ledger = s.ledger := rfl
@[simp] theorem modWin_mac (f : Window → Window) (s : State) : (modWin f s).mac = s.mac := rfl
@[simp] theorem modWin_ingest (f : Window → Window) (s : State) : (modWin f s).ingest = s.ingest := rfl
@[simp] theorem modWin_vid (f : Window → Window) (s : State) : (modWin f s).vid = s.vid := rfl
@[simp] theorem modWin_mag (f : Window → Window) (s : State) : (modWin f s).mag = s.mag := rfl
@[simp] theorem modWin_st (f : Window → Window) (s : State) : (modWin f s).st = s.st := rfl
@[simp] theorem modWin_dma (f : Window → Window) (s : State) : (modWin f s).dma = s.dma := rfl
@[simp] theorem modWin_ev (f : Window → Window) (s : State) : (modWin f s).ev = s.ev := rfl
@[simp] theorem modWin_power (f : Window → Window) (s : State) : (modWin f s).power = s.power := rfl
@[simp] theorem modWin_sl (f : Window → Window) (s : State) : (modWin f s).sl = s.sl := rfl
@[simp] theorem modWin_rel (f : Window → Window) (s : State) : (modWin f s).rel = s.rel := rfl
@[simp] theorem modWin_boot (f : Window → Window) (s : State) : (modWin f s).boot = s.boot := rfl
@[simp] theorem modWin_host (f : Window → Window) (s : State) : (modWin f s).host = s.host := rfl
@[simp] theorem modWin_free (f : Window → Window) (s : State) : (modWin f s).free = s.free := rfl
@[simp] theorem modWin_pending (f : Window → Window) (s : State) : (modWin f s).pending = s.pending := rfl
@[simp] theorem modHost_host_own (f : HostPart → HostPart) (s : State) : (modHost f s).host = f s.host := rfl
@[simp] theorem modHost_ctl (f : HostPart → HostPart) (s : State) : (modHost f s).ctl = s.ctl := rfl
@[simp] theorem modHost_time (f : HostPart → HostPart) (s : State) : (modHost f s).time = s.time := rfl
@[simp] theorem modHost_sched (f : HostPart → HostPart) (s : State) : (modHost f s).sched = s.sched := rfl
@[simp] theorem modHost_fs (f : HostPart → HostPart) (s : State) : (modHost f s).fs = s.fs := rfl
@[simp] theorem modHost_ledger (f : HostPart → HostPart) (s : State) : (modHost f s).ledger = s.ledger := rfl
@[simp] theorem modHost_mac (f : HostPart → HostPart) (s : State) : (modHost f s).mac = s.mac := rfl
@[simp] theorem modHost_ingest (f : HostPart → HostPart) (s : State) : (modHost f s).ingest = s.ingest := rfl
@[simp] theorem modHost_pic (f : HostPart → HostPart) (s : State) : (modHost f s).pic = s.pic := rfl
@[simp] theorem modHost_vid (f : HostPart → HostPart) (s : State) : (modHost f s).vid = s.vid := rfl
@[simp] theorem modHost_mag (f : HostPart → HostPart) (s : State) : (modHost f s).mag = s.mag := rfl
@[simp] theorem modHost_st (f : HostPart → HostPart) (s : State) : (modHost f s).st = s.st := rfl
@[simp] theorem modHost_dma (f : HostPart → HostPart) (s : State) : (modHost f s).dma = s.dma := rfl
@[simp] theorem modHost_ev (f : HostPart → HostPart) (s : State) : (modHost f s).ev = s.ev := rfl
@[simp] theorem modHost_power (f : HostPart → HostPart) (s : State) : (modHost f s).power = s.power := rfl
@[simp] theorem modHost_sl (f : HostPart → HostPart) (s : State) : (modHost f s).sl = s.sl := rfl
@[simp] theorem modHost_rel (f : HostPart → HostPart) (s : State) : (modHost f s).rel = s.rel := rfl
@[simp] theorem modHost_boot (f : HostPart → HostPart) (s : State) : (modHost f s).boot = s.boot := rfl
@[simp] theorem modHost_free (f : HostPart → HostPart) (s : State) : (modHost f s).free = s.free := rfl
@[simp] theorem modHost_pending (f : HostPart → HostPart) (s : State) : (modHost f s).pending = s.pending := rfl
@[simp] theorem setRead_ctl (v : Nat) (s : State) : (setRead v s).ctl = s.ctl := rfl
@[simp] theorem setRead_time (v : Nat) (s : State) : (setRead v s).time = s.time := rfl
@[simp] theorem setRead_sched (v : Nat) (s : State) : (setRead v s).sched = s.sched := rfl
@[simp] theorem setRead_fs (v : Nat) (s : State) : (setRead v s).fs = s.fs := rfl
@[simp] theorem setRead_ledger (v : Nat) (s : State) : (setRead v s).ledger = s.ledger := rfl
@[simp] theorem setRead_mac (v : Nat) (s : State) : (setRead v s).mac = s.mac := rfl
@[simp] theorem setRead_ingest (v : Nat) (s : State) : (setRead v s).ingest = s.ingest := rfl
@[simp] theorem setRead_pic (v : Nat) (s : State) : (setRead v s).pic = s.pic := rfl
@[simp] theorem setRead_vid (v : Nat) (s : State) : (setRead v s).vid = s.vid := rfl
@[simp] theorem setRead_mag (v : Nat) (s : State) : (setRead v s).mag = s.mag := rfl
@[simp] theorem setRead_st (v : Nat) (s : State) : (setRead v s).st = s.st := rfl
@[simp] theorem setRead_dma (v : Nat) (s : State) : (setRead v s).dma = s.dma := rfl
@[simp] theorem setRead_ev (v : Nat) (s : State) : (setRead v s).ev = s.ev := rfl
@[simp] theorem setRead_power (v : Nat) (s : State) : (setRead v s).power = s.power := rfl
@[simp] theorem setRead_sl (v : Nat) (s : State) : (setRead v s).sl = s.sl := rfl
@[simp] theorem setRead_rel (v : Nat) (s : State) : (setRead v s).rel = s.rel := rfl
@[simp] theorem setRead_boot (v : Nat) (s : State) : (setRead v s).boot = s.boot := rfl
@[simp] theorem setRead_free (v : Nat) (s : State) : (setRead v s).free = s.free := rfl
@[simp] theorem setRead_pending (v : Nat) (s : State) : (setRead v s).pending = s.pending := rfl
@[simp] theorem raise_ctl (n : Nat) (s : State) : (raise n s).ctl = s.ctl := by
  unfold raise; split
  · rfl
  · split <;> rfl
@[simp] theorem raise_time (n : Nat) (s : State) : (raise n s).time = s.time := by
  unfold raise; split
  · rfl
  · split <;> rfl
@[simp] theorem raise_sched (n : Nat) (s : State) : (raise n s).sched = s.sched := by
  unfold raise; split
  · rfl
  · split <;> rfl
@[simp] theorem raise_fs (n : Nat) (s : State) : (raise n s).fs = s.fs := by
  unfold raise; split
  · rfl
  · split <;> rfl
@[simp] theorem raise_ledger (n : Nat) (s : State) : (raise n s).ledger = s.ledger := by
  unfold raise; split
  · rfl
  · split <;> rfl
@[simp] theorem raise_mac (n : Nat) (s : State) : (raise n s).mac = s.mac := by
  unfold raise; split
  · rfl
  · split <;> rfl
@[simp] theorem raise_ingest (n : Nat) (s : State) : (raise n s).ingest = s.ingest := by
  unfold raise; split
  · rfl
  · split <;> rfl
@[simp] theorem raise_pic (n : Nat) (s : State) : (raise n s).pic = s.pic := by
  unfold raise; split
  · rfl
  · split <;> rfl
@[simp] theorem raise_vid (n : Nat) (s : State) : (raise n s).vid = s.vid := by
  unfold raise; split
  · rfl
  · split <;> rfl
@[simp] theorem raise_mag (n : Nat) (s : State) : (raise n s).mag = s.mag := by
  unfold raise; split
  · rfl
  · split <;> rfl
@[simp] theorem raise_st (n : Nat) (s : State) : (raise n s).st = s.st := by
  unfold raise; split
  · rfl
  · split <;> rfl
@[simp] theorem raise_dma (n : Nat) (s : State) : (raise n s).dma = s.dma := by
  unfold raise; split
  · rfl
  · split <;> rfl
@[simp] theorem raise_power (n : Nat) (s : State) : (raise n s).power = s.power := by
  unfold raise; split
  · rfl
  · split <;> rfl
@[simp] theorem raise_sl (n : Nat) (s : State) : (raise n s).sl = s.sl := by
  unfold raise; split
  · rfl
  · split <;> rfl
@[simp] theorem raise_rel (n : Nat) (s : State) : (raise n s).rel = s.rel := by
  unfold raise; split
  · rfl
  · split <;> rfl
@[simp] theorem raise_boot (n : Nat) (s : State) : (raise n s).boot = s.boot := by
  unfold raise; split
  · rfl
  · split <;> rfl
@[simp] theorem raise_host (n : Nat) (s : State) : (raise n s).host = s.host := by
  unfold raise; split
  · rfl
  · split <;> rfl
@[simp] theorem raise_free (n : Nat) (s : State) : (raise n s).free = s.free := by
  unfold raise; split
  · rfl
  · split <;> rfl
@[simp] theorem raise_pending (n : Nat) (s : State) : (raise n s).pending = s.pending := by
  unfold raise; split
  · rfl
  · split <;> rfl
@[simp] theorem postResp_time (n : Nat) (r : Resp) (s : State) : (postResp n r s).time = s.time := by
  simp [postResp]
@[simp] theorem postResp_sched (n : Nat) (r : Resp) (s : State) : (postResp n r s).sched = s.sched := by
  simp [postResp]
@[simp] theorem postResp_fs (n : Nat) (r : Resp) (s : State) : (postResp n r s).fs = s.fs := by
  simp [postResp]
@[simp] theorem postResp_ledger (n : Nat) (r : Resp) (s : State) : (postResp n r s).ledger = s.ledger := by
  simp [postResp]
@[simp] theorem postResp_mac (n : Nat) (r : Resp) (s : State) : (postResp n r s).mac = s.mac := by
  simp [postResp]
@[simp] theorem postResp_ingest (n : Nat) (r : Resp) (s : State) : (postResp n r s).ingest = s.ingest := by
  simp [postResp]
@[simp] theorem postResp_pic (n : Nat) (r : Resp) (s : State) : (postResp n r s).pic = s.pic := by
  simp [postResp]
@[simp] theorem postResp_vid (n : Nat) (r : Resp) (s : State) : (postResp n r s).vid = s.vid := by
  simp [postResp]
@[simp] theorem postResp_mag (n : Nat) (r : Resp) (s : State) : (postResp n r s).mag = s.mag := by
  simp [postResp]
@[simp] theorem postResp_st (n : Nat) (r : Resp) (s : State) : (postResp n r s).st = s.st := by
  simp [postResp]
@[simp] theorem postResp_dma (n : Nat) (r : Resp) (s : State) : (postResp n r s).dma = s.dma := by
  simp [postResp]
@[simp] theorem postResp_power (n : Nat) (r : Resp) (s : State) : (postResp n r s).power = s.power := by
  simp [postResp]
@[simp] theorem postResp_sl (n : Nat) (r : Resp) (s : State) : (postResp n r s).sl = s.sl := by
  simp [postResp]
@[simp] theorem postResp_rel (n : Nat) (r : Resp) (s : State) : (postResp n r s).rel = s.rel := by
  simp [postResp]
@[simp] theorem postResp_boot (n : Nat) (r : Resp) (s : State) : (postResp n r s).boot = s.boot := by
  simp [postResp]
@[simp] theorem postResp_host (n : Nat) (r : Resp) (s : State) : (postResp n r s).host = s.host := by
  simp [postResp]
@[simp] theorem postResp_free (n : Nat) (r : Resp) (s : State) : (postResp n r s).free = s.free := by
  simp [postResp]
@[simp] theorem postResp_pending (n : Nat) (r : Resp) (s : State) : (postResp n r s).pending = s.pending := by
  simp [postResp]
@[simp] theorem outsideSafelight_ctl (f : State → State) (s : State) : (outsideSafelight f s).ctl = (f s).ctl := rfl
@[simp] theorem outsideSafelight_time (f : State → State) (s : State) : (outsideSafelight f s).time = (f s).time := rfl
@[simp] theorem outsideSafelight_sched (f : State → State) (s : State) : (outsideSafelight f s).sched = (f s).sched := rfl
@[simp] theorem outsideSafelight_fs (f : State → State) (s : State) : (outsideSafelight f s).fs = (f s).fs := rfl
@[simp] theorem outsideSafelight_ledger (f : State → State) (s : State) : (outsideSafelight f s).ledger = (f s).ledger := rfl
@[simp] theorem outsideSafelight_mac (f : State → State) (s : State) : (outsideSafelight f s).mac = (f s).mac := rfl
@[simp] theorem outsideSafelight_ingest (f : State → State) (s : State) : (outsideSafelight f s).ingest = (f s).ingest := rfl
@[simp] theorem outsideSafelight_pic (f : State → State) (s : State) : (outsideSafelight f s).pic = (f s).pic := rfl
@[simp] theorem outsideSafelight_vid (f : State → State) (s : State) : (outsideSafelight f s).vid = (f s).vid := rfl
@[simp] theorem outsideSafelight_mag (f : State → State) (s : State) : (outsideSafelight f s).mag = (f s).mag := rfl
@[simp] theorem outsideSafelight_st (f : State → State) (s : State) : (outsideSafelight f s).st = (f s).st := rfl
@[simp] theorem outsideSafelight_dma (f : State → State) (s : State) : (outsideSafelight f s).dma = (f s).dma := rfl
@[simp] theorem outsideSafelight_ev (f : State → State) (s : State) : (outsideSafelight f s).ev = (f s).ev := rfl
@[simp] theorem outsideSafelight_power (f : State → State) (s : State) : (outsideSafelight f s).power = (f s).power := rfl
@[simp] theorem outsideSafelight_rel (f : State → State) (s : State) : (outsideSafelight f s).rel = (f s).rel := rfl
@[simp] theorem outsideSafelight_boot (f : State → State) (s : State) : (outsideSafelight f s).boot = (f s).boot := rfl
@[simp] theorem outsideSafelight_host (f : State → State) (s : State) : (outsideSafelight f s).host = (f s).host := rfl
@[simp] theorem outsideSafelight_free (f : State → State) (s : State) : (outsideSafelight f s).free = (f s).free := rfl
@[simp] theorem outsideSafelight_pending (f : State → State) (s : State) : (outsideSafelight f s).pending = (f s).pending := rfl
@[simp] theorem outsideSafelight_sl (f : State → State) (s : State) : (outsideSafelight f s).sl = s.sl := rfl
@[simp] theorem hostPoke_ctl (a : Nat) (b : List Byte) (s : State) : (hostPoke a b s).ctl = s.ctl := rfl
@[simp] theorem hostPoke_time (a : Nat) (b : List Byte) (s : State) : (hostPoke a b s).time = s.time := rfl
@[simp] theorem hostPoke_sched (a : Nat) (b : List Byte) (s : State) : (hostPoke a b s).sched = s.sched := rfl
@[simp] theorem hostPoke_fs (a : Nat) (b : List Byte) (s : State) : (hostPoke a b s).fs = s.fs := rfl
@[simp] theorem hostPoke_ledger (a : Nat) (b : List Byte) (s : State) : (hostPoke a b s).ledger = s.ledger := rfl
@[simp] theorem hostPoke_mac (a : Nat) (b : List Byte) (s : State) : (hostPoke a b s).mac = s.mac := rfl
@[simp] theorem hostPoke_ingest (a : Nat) (b : List Byte) (s : State) : (hostPoke a b s).ingest = s.ingest := rfl
@[simp] theorem hostPoke_pic (a : Nat) (b : List Byte) (s : State) : (hostPoke a b s).pic = s.pic := rfl
@[simp] theorem hostPoke_vid (a : Nat) (b : List Byte) (s : State) : (hostPoke a b s).vid = s.vid := rfl
@[simp] theorem hostPoke_mag (a : Nat) (b : List Byte) (s : State) : (hostPoke a b s).mag = s.mag := rfl
@[simp] theorem hostPoke_st (a : Nat) (b : List Byte) (s : State) : (hostPoke a b s).st = s.st := rfl
@[simp] theorem hostPoke_dma (a : Nat) (b : List Byte) (s : State) : (hostPoke a b s).dma = s.dma := rfl
@[simp] theorem hostPoke_ev (a : Nat) (b : List Byte) (s : State) : (hostPoke a b s).ev = s.ev := rfl
@[simp] theorem hostPoke_power (a : Nat) (b : List Byte) (s : State) : (hostPoke a b s).power = s.power := rfl
@[simp] theorem hostPoke_sl (a : Nat) (b : List Byte) (s : State) : (hostPoke a b s).sl = s.sl := rfl
@[simp] theorem hostPoke_rel (a : Nat) (b : List Byte) (s : State) : (hostPoke a b s).rel = s.rel := rfl
@[simp] theorem hostPoke_boot (a : Nat) (b : List Byte) (s : State) : (hostPoke a b s).boot = s.boot := rfl
@[simp] theorem hostPoke_free (a : Nat) (b : List Byte) (s : State) : (hostPoke a b s).free = s.free := rfl
@[simp] theorem hostPoke_pending (a : Nat) (b : List Byte) (s : State) : (hostPoke a b s).pending = s.pending := rfl

end Sys2Proof.Machine
end

