-- ==== Sys2Proof/Laws/Table.lean ====
section
/-! SUPPORT. The laws of the sparse tables and of memory: a read after a write, and the canonical form that every write
keeps. -/
namespace Sys2Proof.Machine
open Sys2Proof

section
variable {α : Type}

/-- The numbers of a table all exceed `k`. -/
def tabAbove (k : Nat) (t : Tab α) : Prop := ∀ e ∈ t, k < e.1

theorem tabSorted_iff_pairwise (t : Tab α) : tabSorted t = true ↔ t.Pairwise (fun a b => a.1 < b.1) := by
  induction t with
  | nil => simp [tabSorted]
  | cons e t ih =>
    cases t with
    | nil => simp [tabSorted]
    | cons e' r =>
      simp only [tabSorted, Bool.and_eq_true, decide_eq_true_eq] at ih ⊢
      rw [ih, List.pairwise_cons (a := e)]
      constructor
      · rintro ⟨h, hp⟩
        refine ⟨fun b hb => ?_, hp⟩
        rcases List.mem_cons.1 hb with rfl | hb
        · exact h
        · exact Nat.lt_trans h ((List.pairwise_cons.1 hp).1 b hb)
      · rintro ⟨h, hp⟩
        exact ⟨h e' (by simp), hp⟩

theorem mem_tabDrop {k : Nat} {t : Tab α} {e : Nat × α} : e ∈ tabDrop t k ↔ e ∈ t ∧ e.1 ≠ k := by
  induction t with
  | nil => simp [tabDrop]
  | cons x t ih =>
    simp only [tabDrop]
    split
    · rename_i h
      rw [ih, List.mem_cons]
      constructor
      · rintro ⟨h1, h2⟩; exact ⟨.inr h1, h2⟩
      · rintro ⟨rfl | h1, h2⟩
        · exact absurd h h2
        · exact ⟨h1, h2⟩
    · rename_i h
      rw [List.mem_cons, ih, List.mem_cons]
      constructor
      · rintro (rfl | ⟨h1, h2⟩)
        · exact ⟨.inl rfl, h⟩
        · exact ⟨.inr h1, h2⟩
      · rintro ⟨rfl | h1, h2⟩
        · exact .inl rfl
        · exact .inr ⟨h1, h2⟩

theorem tabDrop_sorted (k : Nat) (t : Tab α) (h : t.Pairwise (fun a b => a.1 < b.1)) :
    (tabDrop t k).Pairwise (fun a b => a.1 < b.1) := by
  induction t with
  | nil => simp [tabDrop]
  | cons x t ih =>
    have hx := List.pairwise_cons.1 h
    simp only [tabDrop]
    split
    · exact ih hx.2
    · exact List.pairwise_cons.2 ⟨fun e he => hx.1 e (mem_tabDrop.1 he).1, ih hx.2⟩

theorem mem_tabInsert {k : Nat} {v : α} {t : Tab α} {e : Nat × α} : e ∈ tabInsert k v t ↔ e = (k, v) ∨ e ∈ t := by
  induction t with
  | nil => simp [tabInsert]
  | cons x t ih =>
    simp only [tabInsert]
    split
    · simp
    · simp only [List.mem_cons, ih]; exact or_left_comm

theorem tabInsert_sorted (k : Nat) (v : α) (t : Tab α) (h : t.Pairwise (fun a b => a.1 < b.1)) (hk : ∀ e ∈ t, e.1 ≠ k) :
    (tabInsert k v t).Pairwise (fun a b => a.1 < b.1) := by
  induction t with
  | nil => simp [tabInsert]
  | cons x t ih =>
    have hx := List.pairwise_cons.1 h
    simp only [tabInsert]
    split
    · rename_i hl
      refine List.pairwise_cons.2 ⟨fun e he => ?_, h⟩
      rcases List.mem_cons.1 he with rfl | he
      · exact hl
      · exact Nat.lt_trans hl (hx.1 e he)
    · rename_i hl
      have hne := hk x (by simp)
      refine List.pairwise_cons.2 ⟨fun e he => ?_, ih hx.2 fun e he => hk e (by simp [he])⟩
      rcases mem_tabInsert.1 he with rfl | he
      · show x.1 < k; omega
      · exact hx.1 e he

variable [Inhabited α]

theorem tabGet_tabDrop_same (t : Tab α) (k : Nat) : tabGet (tabDrop t k) k = default := by
  induction t with
  | nil => rfl
  | cons x t ih =>
    simp only [tabDrop]
    split
    · exact ih
    · rename_i h; simp [tabGet, h, ih]

theorem tabGet_tabDrop_other (t : Tab α) {k j : Nat} (h : j ≠ k) : tabGet (tabDrop t k) j = tabGet t j := by
  induction t with
  | nil => rfl
  | cons x t ih =>
    simp only [tabDrop]
    split
    · rename_i hx
      have : x.1 ≠ j := by omega
      simp [tabGet, this, ih]
    · simp only [tabGet, ih]

theorem tabGet_tabInsert_same (t : Tab α) (k : Nat) (v : α) (h : ∀ e ∈ t, e.1 ≠ k) : tabGet (tabInsert k v t) k = v := by
  induction t with
  | nil => simp [tabInsert, tabGet]
  | cons x t ih =>
    simp only [tabInsert]
    split
    · simp [tabGet]
    · have hx := h x (by simp)
      simp [tabGet, hx, ih fun e he => h e (by simp [he])]

theorem tabGet_tabInsert_other (t : Tab α) {k j : Nat} (v : α) (h : j ≠ k) : tabGet (tabInsert k v t) j = tabGet t j := by
  induction t with
  | nil => simp [tabInsert, tabGet, h.symm]
  | cons x t ih =>
    simp only [tabInsert]
    split
    · simp [tabGet, h.symm]
    · simp only [tabGet, ih]

variable [DecidableEq α]

/-- A read after a write of the same number gives what was written. -/
@[simp] theorem tabGet_tabSet_same (t : Tab α) (k : Nat) (v : α) : tabGet (tabSet t k v) k = v := by
  unfold tabSet
  split
  · rename_i h; rw [tabGet_tabDrop_same, h]
  · exact tabGet_tabInsert_same _ _ _ fun e he => (mem_tabDrop.1 he).2

/-- A write leaves every other number alone. -/
theorem tabGet_tabSet_other (t : Tab α) {k j : Nat} (v : α) (h : j ≠ k) : tabGet (tabSet t k v) j = tabGet t j := by
  unfold tabSet
  split
  · exact tabGet_tabDrop_other t h
  · rw [tabGet_tabInsert_other _ v h, tabGet_tabDrop_other t h]

/-- A read after a write, in one equation. -/
theorem tabGet_tabSet (t : Tab α) (k j : Nat) (v : α) : tabGet (tabSet t k v) j = if j = k then v else tabGet t j := by
  split
  · rename_i h; rw [h, tabGet_tabSet_same]
  · rename_i h; exact tabGet_tabSet_other t v h

@[simp] theorem tabGet_tabMod_same (t : Tab α) (k : Nat) (f : α → α) : tabGet (tabMod t k f) k = f (tabGet t k) := by
  simp [tabMod]

theorem tabGet_tabMod_other (t : Tab α) {k j : Nat} (f : α → α) (h : j ≠ k) : tabGet (tabMod t k f) j = tabGet t j :=
  tabGet_tabSet_other t _ h

/-- Every write keeps the canonical form. -/
theorem tabSet_wf (t : Tab α) (k : Nat) (v : α) (h : tabWf t = true) : tabWf (tabSet t k v) = true := by
  simp only [tabWf, Bool.and_eq_true, tabSorted_iff_pairwise, List.all_eq_true, decide_eq_true_eq] at h ⊢
  unfold tabSet
  split
  · exact ⟨tabDrop_sorted k t h.1, fun e he => h.2 e (mem_tabDrop.1 he).1⟩
  · rename_i hv
    refine ⟨tabInsert_sorted k v _ (tabDrop_sorted k t h.1) fun e he => (mem_tabDrop.1 he).2, fun e he => ?_⟩
    rcases mem_tabInsert.1 he with rfl | he
    · exact hv
    · exact h.2 e (mem_tabDrop.1 he).1

theorem tabMod_wf (t : Tab α) (k : Nat) (f : α → α) (h : tabWf t = true) : tabWf (tabMod t k f) = true := tabSet_wf t k _ h

end

/-- Bytes written in a row keep the canonical form of a memory. -/
theorem pokeRow_wf (b : List Byte) (a : Nat) (m : Tab Byte) (h : Memory.wf m = true) :
    Memory.wf (b.foldl (fun (acc : Nat × Tab Byte) x => (acc.1 + 1, tabSet acc.2 acc.1 x)) ((a, m) : Nat × Tab Byte)).2 = true := by
  induction b generalizing a m with
  | nil => simpa using h
  | cons x b ih => exact ih (a + 1) (tabSet m a x) (tabSet_wf m a x h)

/-- A write to host memory keeps its canonical form. -/
theorem hostPoke_wf (a : Nat) (b : List Byte) (s : State) (h : Memory.wf s.host.mem = true) :
    Memory.wf (hostPoke a b s).host.mem = true := pokeRow_wf b a s.host.mem h

end Sys2Proof.Machine
end

