-- ==== Sys2Proof/Laws/Memory.lean ====
section
/-! SUPPORT. Every operation over the frame store's memory and over host memory keeps the canonical form, and what a read
of one byte gives after a write. -/
namespace Sys2Proof.Machine
open Sys2Proof

theorem pokeBytes_wf (a : Nat) (b : List Byte) (m : Tab Byte) (h : Memory.wf m = true) : Memory.wf (pokeBytes a b m) = true := by
  induction b generalizing a m with
  | nil => exact h
  | cons x b ih => exact ih (a + 1) (tabSet m a x) (tabSet_wf m a x h)

/-- A byte outside the range written reads as before. -/
theorem tabGet_pokeBytes_other (a : Nat) (b : List Byte) (m : Tab Byte) (k : Nat) (h : k < a ∨ a + b.length ≤ k) :
    tabGet (pokeBytes a b m) k = tabGet m k := by
  induction b generalizing a m with
  | nil => rfl
  | cons x b ih =>
    simp only [pokeBytes, List.length_cons] at h ⊢
    rw [ih (a + 1) _ (by omega), tabGet_tabSet_other m x (by omega)]

/-- A byte inside the range written reads as what was written. -/
theorem tabGet_pokeBytes_in (a : Nat) (b : List Byte) (m : Tab Byte) (i : Nat) (h : i < b.length) :
    tabGet (pokeBytes a b m) (a + i) = b[i] := by
  induction b generalizing a m i with
  | nil => simp at h
  | cons x b ih =>
    cases i with
    | zero =>
      simp only [pokeBytes, Nat.add_zero, List.getElem_cons_zero]
      rw [tabGet_pokeBytes_other (a + 1) b _ a (by omega), tabGet_tabSet_same]
    | succ i =>
      simp only [pokeBytes, List.getElem_cons_succ]
      rw [show a + (i + 1) = a + 1 + i by omega]
      exact ih (a + 1) _ i (by simpa using h)

theorem filter_wf {α : Type} [Inhabited α] [DecidableEq α] (t : Tab α) (p : Nat × α → Bool) (h : tabWf t = true) :
    tabWf (t.filter p) = true := by
  simp only [tabWf, Bool.and_eq_true, tabSorted_iff_pairwise, List.all_eq_true, decide_eq_true_eq] at h ⊢
  exact ⟨h.1.filter p, fun e he => h.2 e (List.mem_filter.1 he).1⟩

theorem dropGranules_wf (c : Nat) (s : State) (h : Memory.wf s.fs.mem = true) : Memory.wf (dropGranules c s).fs.mem = true :=
  filter_wf s.fs.mem _ h

@[simp] theorem logFault_fs (k u d : Nat) (s : State) : (logFault k u d s).fs = s.fs := by
  simp only [logFault]; split <;> simp

@[simp] theorem fsUeFault_fs (l c : Nat) (s : State) : (fsUeFault l c s).fs = s.fs := by simp [fsUeFault]

@[simp] theorem modChan_mem (c : Nat) (f : Channel → Channel) (s : State) : (modChan c f s).fs.mem = s.fs.mem := rfl

theorem wakeRank_mem (c loc : Nat) (s : State) : (wakeRank c loc s).fs.mem = s.fs.mem := by
  simp only [wakeRank]; split <;> rfl

theorem patrolLog_mem (l c : Nat) (r : Bool) (s : State) : (patrolLog l c r s).fs.mem = s.fs.mem := by
  simp only [patrolLog]; split <;> rfl

theorem withUsable_mem (f : State → State) (s : State) (h : (f s).fs.mem = s.fs.mem) : (withUsable f s).fs.mem = s.fs.mem := by
  simp only [withUsable]; split
  · exact h
  · simp [h]

theorem startRetire_mem (c : Nat) (s : State) : (startRetire c s).fs.mem = s.fs.mem := by
  simp only [startRetire, raise_fs]; exact withUsable_mem _ s rfl

theorem autoRetire_mem (c : Nat) (s : State) : (autoRetire c s).fs.mem = s.fs.mem := by
  simp only [autoRetire]; split
  · rw [startRetire_mem]; rfl
  · rfl

theorem countCe_mem (c : Nat) (s : State) : (countCe c s).fs.mem = s.fs.mem := by
  simp only [countCe]; split
  · rfl
  · simp

theorem reportCe_mem (l : Nat) (s : State) : (reportCe l s).fs.mem = s.fs.mem := countCe_mem _ _

theorem countUe_mem (l c : Nat) (s : State) : (countUe l c s).fs.mem = s.fs.mem := by
  simp only [countUe, autoRetire_mem, patrolLog_mem, fsUeFault_fs, raise_fs, modChan_mem]

theorem reportUe_mem (l : Nat) (s : State) : (reportUe l s).fs.mem = s.fs.mem := countUe_mem _ _ _

/-- A corrected line is written back in canonical form. -/
theorem fsReadLine_good_wf (line a n : Nat) (b : List Byte) (r : Tab (Option RawCheck)) (s : State) (h : Memory.wf s.fs.mem = true) :
    Memory.wf (reportCe line { s with fs.mem := pokeBytes a b s.fs.mem, fs.raw := r, free := n }).fs.mem = true := by
  rw [reportCe_mem]; exact pokeBytes_wf _ _ _ h

/-- Reading a line keeps the canonical form. -/
theorem fsReadLine_wf (line : Nat) (s : State) (h : Memory.wf s.fs.mem = true) : Memory.wf (fsReadLine line s).2.2.fs.mem = true := by
  have hw : Memory.wf (wakeRank (placeOf s (64 * line)).1 (placeOf s (64 * line)).2 s).fs.mem = true := by rw [wakeRank_mem]; exact h
  simp only [fsReadLine]
  generalize wakeRank (placeOf s (64 * line)).1 (placeOf s (64 * line)).2 s = t at hw ⊢
  split
  · rw [raise_fs]; exact h
  split
  · rw [raise_fs]; exact h
  split
  · exact h
  split
  · exact h
  split
  · rw [reportUe_mem]; exact hw
  split
  · exact hw
  split
  · exact fsReadLine_good_wf line _ t.free _ _ t hw
  split
  · exact fsReadLine_good_wf line _ _ _ _ t hw
  · rw [reportUe_mem]; exact hw

/-- Writing within a line keeps the canonical form. -/
theorem fsWriteLine_wf (line off : Nat) (b : List Byte) (s : State) (h : Memory.wf s.fs.mem = true) :
    Memory.wf (fsWriteLine line off b s).fs.mem = true := by
  have hr := fsReadLine_wf line s h
  simp only [fsWriteLine]
  generalize fsReadLine line s = r at hr ⊢
  repeat' split
  all_goals first
    | simpa using h
    | exact pokeBytes_wf _ _ _ (by rw [wakeRank_mem]; exact h)
    | exact pokeBytes_wf _ _ _ (pokeBytes_wf _ _ _ hr)
    | exact pokeBytes_wf _ _ _ hr

/-- What an FSA leaves behind keeps the canonical form of the places that no FSA names. -/
theorem leaveBehind_wf (c loc : Nat) (b : List Byte) (e : LineEcc) (r : Option RawCheck) (s : State) (h : Memory.wf s.fs.loose = true) :
    Memory.wf (leaveBehind c loc b e r s).fs.loose = true := pokeBytes_wf _ _ _ h

/-- What an FSA leaves behind stands outside the frame store that FSAs name. -/
theorem leaveBehind_mem (c loc : Nat) (b : List Byte) (e : LineEcc) (r : Option RawCheck) (s : State) :
    (leaveBehind c loc b e r s).fs.mem = s.fs.mem := rfl

/-- A migrated line keeps the canonical form. -/
theorem copyLine_wf (line : Nat) (s : State) (h : Memory.wf s.fs.mem = true) : Memory.wf (copyLine line s).fs.mem = true :=
  pokeBytes_wf _ _ _ (by rw [leaveBehind_mem, wakeRank_mem]; exact fsReadLine_wf line s h)

/-- The start-up fill keeps the canonical form. -/
theorem zeroRange64_wf (lo hi : Nat) (s : State) (h : Memory.wf s.fs.mem = true) : Memory.wf (zeroRange64 lo hi s).fs.mem = true :=
  filter_wf s.fs.mem _ h

/-- A fold of steps that keep a property keeps it. -/
theorem foldl_keeps {α β : Type} (p : β → Prop) (f : β → α → β) (hf : ∀ b a, p b → p (f b a)) (l : List α) (b : β) (h : p b) :
    p (l.foldl f b) := by
  induction l generalizing b with
  | nil => exact h
  | cons x l ih => exact ih (f b x) (hf b x h)

/-- Reading bytes keeps the canonical form. -/
theorem fsRead_wf (fsa n : Nat) (s : State) (h : Memory.wf s.fs.mem = true) : Memory.wf (fsRead fsa n s).2.2.fs.mem = true := by
  simp only [fsRead]
  split
  · exact h
  · refine foldl_keeps (fun (x : List Byte × Bool × State) => Memory.wf x.2.2.fs.mem = true) _ (fun b a hb => ?_) _ _ ?_
    · exact fsReadLine_wf _ b.2.2 hb
    · exact h

/-- Writing bytes keeps the canonical form. -/
theorem fsWrite_wf (fsa : Nat) (b : List Byte) (s : State) (h : Memory.wf s.fs.mem = true) : Memory.wf (fsWrite fsa b s).fs.mem = true := by
  simp only [fsWrite]
  split
  · exact h
  · exact foldl_keeps (fun (x : State) => Memory.wf x.fs.mem = true) _ (fun t i ht => fsWriteLine_wf _ _ _ t ht) _ _ h

/-- A fill keeps the canonical form. -/
theorem fillLines_wf (fsa n : Nat) (p : List Byte) (s : State) (h : Memory.wf s.fs.mem = true) :
    Memory.wf (fillLines fsa n p s).fs.mem = true := by
  simp only [fillLines]
  exact foldl_keeps (fun (x : State) => Memory.wf x.fs.mem = true) _ (fun t i ht => fsWriteLine_wf _ _ _ t ht) _ _ h

/-- A raw line of DIAG_FS_RAW keeps the canonical form. -/
theorem rawLine_wf (line : Nat) (d : List Byte) (chk : Nat) (s : State) (h : Memory.wf s.fs.mem = true) :
    Memory.wf (rawLine line d chk s).fs.mem = true := by
  simp only [rawLine]
  repeat' split
  all_goals exact pokeBytes_wf _ _ _ h

/-- A line of a raw block keeps the canonical form, wherever it lies. -/
theorem rawStore_wf (chan b i : Nat) (d : List Byte) (chk : Nat) (s : State) (h : Memory.wf s.fs.mem = true) :
    Memory.wf (rawStore chan b i d chk s).fs.mem = true := by
  simp only [rawStore]
  split
  · exact rawLine_wf _ _ _ _ (by rw [wakeRank_mem]; exact h)
  · rw [leaveBehind_mem, wakeRank_mem]; exact h

end Sys2Proof.Machine
end

