-- ==== Sys2Proof/WellFormed.lean ====
section
/-! DEFINITION. The commands whose operands lie in the ranges the spec gives them. A command outside them still has its
meaning; the checks say which operands the hardware and its peers can bring about. -/
namespace Sys2Proof

/-- The longest MAC frame that a row brings; the counters of R210 reach beyond 9,216 bytes. -/
def maxFrame : Nat := 16384

/-- An entry carries at most 56 payload bytes (R32). -/
def entryOk (e : CmdEntry) : Bool := decide (e.payload.length ≤ 56)

/-- An offset of a register write lies in its space: a 4-byte or a 2-byte access, aligned (R17, R572, R580, R583, R589). -/
def regOffsetOk (space : RegSpace) (offset : Nat) : Bool :=
  match space with
  | .bar0 => decide (offset < 0x400000) && decide (offset % 4 = 0)
  | .window => decide (0x300000 ≤ offset) && decide (offset < 0x300200) && decide (offset % 2 = 0)
  | .bar4 => decide (offset < 0x2000) && decide (offset % 4 = 0)
  | .config => decide (offset < 0x1000) && decide (offset % 4 = 0)
  | .onyx => decide (offset % 4 = 0)

/-- An access of 2^`size` bytes is none that R17 asks for: not an aligned one of 4 bytes. In the 5200 window aligned accesses of
2 bytes are right too (R572). -/
def badAccessOk (offset size : Nat) : Bool :=
  !(decide (size = 2) && decide (offset % 4 = 0)) &&
    !(decide (0x300000 ≤ offset) && decide (offset < 0x300200) && decide (size = 1) && decide (offset % 2 = 0))

/-- The operands of a command lie in their ranges (DESIGN CHOICE, log entry 136). -/
def Instr.wf : Instr → Bool
  | .sysNop e => entryOk e
  | .headConfigReport e => entryOk e
  | .timeRefSelect e => entryOk e
  | .timeCorrectionSet e => entryOk e
  | .timeStepApprove e => entryOk e
  | .timeSet e => entryOk e
  | .refRasterSet e => entryOk e
  | .tcSet e => entryOk e
  | .headSlewSet e => entryOk e
  | .captureRasterSet e => entryOk e
  | .synConfig e => entryOk e
  | .synCacheFill e => entryOk e
  | .captureRampLoad e => entryOk e
  | .captureRampStart e => entryOk e
  | .evtSlotSet e => entryOk e
  | .evtSlotGet e => entryOk e
  | .evoConfig e => entryOk e
  | .eviConfig e => entryOk e
  | .fsInfo e => entryOk e
  | .fsPolicySet e => entryOk e
  | .fsFill e => entryOk e
  | .fsPatrolReport e => entryOk e
  | .fsChannelRetire e => entryOk e
  | .ledgerPoolCreate e => entryOk e
  | .ledgerPoolDelete e => entryOk e
  | .ledgerOp e => entryOk e
  | .ledgerDescGet e => entryOk e
  | .ingestStreamSet e => entryOk e
  | .ingestStreamGet e => entryOk e
  | .headTimingSet e => entryOk e
  | .headPairSet e => entryOk e
  | .headWritebackSet e => entryOk e
  | .layerCadenceSet e => entryOk e
  | .cfgCommit e => entryOk e
  | .layerAssign e => entryOk e
  | .layerSourceSet e => entryOk e
  | .layerGeometrySet e => entryOk e
  | .layerPaletteSet e => entryOk e
  | .layerEnvelopeSet e => entryOk e
  | .headFetchSet e => entryOk e
  | .layerBlendSet e => entryOk e
  | .headZorderSet e => entryOk e
  | .headBackgroundSet e => entryOk e
  | .contactSheetSet e => entryOk e
  | .admissionReserveSet e => entryOk e
  | .layerShedSet e => entryOk e
  | .shedPlanSet e => entryOk e
  | .shedPolicySet e => entryOk e
  | .admissionReport e => entryOk e
  | .compat5200Set e => entryOk e
  | .scalerCoefLoad e => entryOk e
  | .layerScalerSet e => entryOk e
  | .layerDecodeSet e => entryOk e
  | .matrixSet e => entryOk e
  | .lut1dLoad e => entryOk e
  | .lut1dBuiltin e => entryOk e
  | .lut1dRead e => entryOk e
  | .graphicColourSet e => entryOk e
  | .headOutputSet e => entryOk e
  | .lut3dAssign e => entryOk e
  | .lut3dLoad e => entryOk e
  | .sigRegionSet e => entryOk e
  | .sdiLaneSet e => entryOk e
  | .sdiAncRingSet e => entryOk e
  | .panelPortSet e => entryOk e
  | .panelDcsSend e => entryOk e
  | .magSlotSet e => entryOk e
  | .magIndexRead e => entryOk e
  | .magFormat e => entryOk e
  | .magEject e => entryOk e
  | .recChannelSet e => entryOk e
  | .recKeySet e => entryOk e
  | .recStartAt e => entryOk e
  | .recStopAt e => entryOk e
  | .macConfig e => entryOk e
  | .macSpareSet e => entryOk e
  | .macTxqSet e => entryOk e
  | .macRuleSet e => entryOk e
  | .macFilterSet e => entryOk e
  | .macStatsGet e => entryOk e
  | .macSleep e => entryOk e
  | .streamSubSet e => entryOk e
  | .streamPortSet e => entryOk e
  | .streamSubCtrl e => entryOk e
  | .streamRxFlowSet e => entryOk e
  | .streamDepackSet e => entryOk e
  | .streamStatsRead e => entryOk e
  | .ptpPortSet e => entryOk e
  | .rigSet e => entryOk e
  | .dmaChannelSet e => entryOk e
  | .powerBudgetSet e => entryOk e
  | .powerStateSet e => entryOk e
  | .faultLogRead e => entryOk e
  | .faultRecover e => entryOk e
  | .diagCoreInfo e => entryOk e
  | .diagFsRaw e => entryOk e
  | .availClear e => entryOk e
  | .fwInfo e => entryOk e
  | .fwUpdate e => entryOk e
  | .fwConfirm e => entryOk e
  | .secFuseProgram e => entryOk e
  | .mbDbWrite _ _ => true
  | .mbRspHeadWrite _ _ => true
  | .mailboxReset _ => true
  | .mailboxResetComplete _ => true
  | .entryTake _ => true
  | .extPayloadFetched _ _ => true
  | .stepCutStep _ => true
  | .lockstepMismatch => true
  | .serviceResume => true
  | .controlFailure => true
  | .runWatchdogExpiry => true
  | .fpGo _ => true
  | .fastPathLatch _ => true
  | .tbLatch => true
  | .replicaCheck _ _ => true
  | .refSignalValid _ => true
  | .refSignalInvalid _ => true
  | .refQualified _ => true
  | .refLost _ => true
  | .refLostTimeout _ => true
  | .refErrorMeasure _ _ _ => true
  | .slewComplete => true
  | .stepApply => true
  | .headRealign _ => true
  | .headSlewConverged _ => true
  | .referenceFrameStart => true
  | .ltcWordReceived _ hh mm ss ff => decide (hh < 24) && decide (mm < 60) && decide (ss < 60) && decide (ff < 30)
  | .captureFrameBoundary _ => true
  | .captureMarkerTimeout => true
  | .captureContinuationFrame => true
  | .synLossOfLock _ => true
  | .synLockDeclared _ _ _ _ => true
  | .synRelockAttemptEnd _ => true
  | .synLockTimeout _ => true
  | .synUpdatePoint _ => true
  | .referenceFault => true
  | .trackingLoopUpdate _ _ => true
  | .rampUpdate => true
  | .rampEnd => true
  | .occurrenceArm _ _ _ => true
  | .occurrenceFire _ => true
  | .pulseStop _ => true
  | .snapshotComplete => true
  | .fsReadRequest fsa _ => decide (fsa < 2 ^ 40)
  | .fsWriteRequest fsa data => decide (fsa + data.length ≤ 2 ^ 40)
  | .beAgingPromotion _ => true
  | .patrolScrubRead _ => true
  | .startupFillStep => true
  | .startupFillDone => true
  | .channelTraining _ _ => true
  | .wckOscRead _ _ _ => true
  | .nudgeApply _ => true
  | .mr4Poll codes bands => (decide (codes.length = 16) || decide (codes.length = 32)) && decide (bands.length = codes.length)
  | .migrationGranuleCopy => true
  | .migrationComplete => true
  | .channelFail _ => true
  | .ledgerAcquire _ _ _ => true
  | .ledgerPublish _ _ _ _ capSec capNs => decide (capSec < 2 ^ 48) && decide (capNs < 1000000000)
  | .ledgerDiscard _ _ _ => true
  | .ledgerRefTake _ _ _ _ => true
  | .ledgerRefRelease _ _ _ => true
  | .agentResetReclaim _ _ => true
  | .kmlMarkerReceived _ logical group rlf seq state => decide (logical < 16) && decide (group < 256) && decide (rlf < 256) && decide (seq < 65536) && decide (state.linkState < 256)
  | .adaptTimeout _ => true
  | .laneFault _ => true
  | .txMarkerPoint _ => true
  | .ethLinkChange _ _ _ _ => true
  | .macFrameReceived _ frame _ => decide (frame.length ≤ maxFrame)
  | .txFrameStart _ _ => true
  | .txUnderrun _ _ => true
  | .txFrameEnd _ => true
  | .pauseTimerExpiry _ => true
  | .pauseAlarm _ => true
  | .wakeDetect _ => true
  | .kpiFrameStart _ frame => decide (frame.length ≤ maxFrame)
  | .kpiLinePacket _ frame => decide (frame.length ≤ maxFrame)
  | .kpiFrameEnd _ frame => decide (frame.length ≤ maxFrame)
  | .kpiEndTimeout _ => true
  | .kpiStatusSend _ => true
  | .headEnableStart _ => true
  | .latchPoint _ => true
  | .headBlankingStart _ => true
  | .headFrameStart _ => true
  | .writebackPublish _ => true
  | .fetchClassChange _ level => decide (level < 2 ^ 15)
  | .reservoirStarved _ _ => true
  | .commitArm => true
  | .fxFenceWrite _ _ => true
  | .commitTimeout => true
  | .signatureCompare _ _ => true
  | .sigClear _ _ => true
  | .tallyForceWrite _ => true
  | .shedEvaluation => true
  | .restoreHoldExpiry => true
  | .sdiSlip _ _ => true
  | .panelVideoStart _ => true
  | .kmpMessageReceived _ frame => decide (frame.length ≤ maxFrame)
  | .kmpCommitReceived _ frame => decide (frame.length ≤ maxFrame)
  | .kmpResendReceived _ frame => decide (frame.length ≤ maxFrame)
  | .kmpNoticeReceived _ frame => decide (frame.length ≤ maxFrame)
  | .kmpRequestTimeout _ => true
  | .kmpHelloSend _ => true
  | .kmpHelloTimeout _ => true
  | .noPartnerTimeout _ => true
  | .mainStreamPictureBegin _ => true
  | .magazineStreamPictureBegin _ => true
  | .holdMaxExpiry _ => true
  | .magazineRecouple _ => true
  | .copyClose _ => true
  | .spanContinuation _ => true
  | .stopBathTrigger => true
  | .stopBathRecordDeadline => true
  | .stopBathCommitDeadline => true
  | .stopBathAckDeadline => true
  | .packetRelease _ => true
  | .unpacedSlotEligible _ => true
  | .portSchedule _ => true
  | .pacedDeadlineExpiry _ _ => true
  | .mergeTimeout _ => true
  | .pathDownTimeout _ _ => true
  | .depackEndTimeout _ => true
  | .ptpMessageReceived _ frame => decide (frame.length ≤ maxFrame)
  | .ptpMessageTimer _ => true
  | .announceReceiptTimeout _ => true
  | .rigFrameReceived _ frame => decide (frame.length ≤ maxFrame)
  | .rigClaimTimer => true
  | .rigLeadTimeout => true
  | .rigAnnounceTimer => true
  | .dcDbHiWrite _ _ => true
  | .dcResume _ => true
  | .dcReset _ => true
  | .dcResetComplete _ => true
  | .descriptorFetch _ => true
  | .dmaTurn _ => true
  | .descriptorComplete _ => true
  | .ringFrameWrite _ => true
  | .dcRingConsWrite _ _ => true
  | .eventRaise _ => true
  | .msiXSend _ => true
  | .evtRearmWrite _ => true
  | .evtHoldoffWrite _ _ => true
  | .holdoffExpiry _ => true
  | .evcClaimRead => true
  | .evcCompleteWrite _ => true
  | .eviEdge _ _ => true
  | .powerRequest _ _ _ => true
  | .domainSwitch => true
  | .domainLoad _ => true
  | .pwrWakeWrite _ => true
  | .standbyWake => true
  | .comparatorChange _ => true
  | .holdupExit => true
  | .vsafeSwitchover _ => true
  | .safelightReset => true
  | .rtcSecond => true
  | .safelightWake _ => true
  | .rtcSecHiRead _ => true
  | .availTick => true
  | .sramError kind _ _ _ => decide (9 ≤ kind) && decide (kind ≤ 14)
  | .pornReset _ _ => true
  | .hrstnReset _ _ => true
  | .pcieHotReset => true
  | .bootWatchdogExpiry _ => true
  | .bootPushGo _ => true
  | .firmwareReady => true
  | .debugOff _ => true
  | .fwUpdateLock _ => true
  | .upstreamRequestTimeout _ => true
  | .w5CommitWrite _ => true
  | .w5CommitArm => true
  | .w5PalDataWrite _ => true
  | .w5LBaseLoWrite _ _ => true
  | .w5LBaseHiWrite _ _ => true
  | .bar2Read offset length => decide (offset.val + length ≤ 2 ^ 28)
  | .bar2Write offset data enables => decide (enables.length = data.length) && decide (offset.val + data.length ≤ 2 ^ 28)
  | .bar0BadAccess place _ _ => badAccessOk place.offset place.size.val
  | .mgmtSpiRead frame => decide (frame.length ≤ maxFrame)
  | .mgmtSpiWrite frame => decide (frame.length ≤ maxFrame)
  | .mgmtSpiWake frame => decide (frame.length ≤ maxFrame)
  | .mgmtSpiAbort frame => decide (frame.length ≤ maxFrame)
  | .slSpiClear _ => true
  | .registerWrite space offset _ => regOffsetOk space offset
  | .headLineCompose _ => true
  | .pcieLinkUp => true
  | .rankPowerDownEntry _ _ => true
  | .cachedBandTimeout _ => true
  | .safelightTcFrame => true
  | .laneCdrLock _ => true
  | .formatStatusTimeout _ => true

/-- The bytes that a command brings with it: a payload, a frame or the data of a write. -/
def Instr.data : Instr → List Byte
  | .sysNop e => e.payload
  | .headConfigReport e => e.payload
  | .timeRefSelect e => e.payload
  | .timeCorrectionSet e => e.payload
  | .timeStepApprove e => e.payload
  | .timeSet e => e.payload
  | .refRasterSet e => e.payload
  | .tcSet e => e.payload
  | .headSlewSet e => e.payload
  | .captureRasterSet e => e.payload
  | .synConfig e => e.payload
  | .synCacheFill e => e.payload
  | .captureRampLoad e => e.payload
  | .captureRampStart e => e.payload
  | .evtSlotSet e => e.payload
  | .evtSlotGet e => e.payload
  | .evoConfig e => e.payload
  | .eviConfig e => e.payload
  | .fsInfo e => e.payload
  | .fsPolicySet e => e.payload
  | .fsFill e => e.payload
  | .fsPatrolReport e => e.payload
  | .fsChannelRetire e => e.payload
  | .ledgerPoolCreate e => e.payload
  | .ledgerPoolDelete e => e.payload
  | .ledgerOp e => e.payload
  | .ledgerDescGet e => e.payload
  | .ingestStreamSet e => e.payload
  | .ingestStreamGet e => e.payload
  | .headTimingSet e => e.payload
  | .headPairSet e => e.payload
  | .headWritebackSet e => e.payload
  | .layerCadenceSet e => e.payload
  | .cfgCommit e => e.payload
  | .layerAssign e => e.payload
  | .layerSourceSet e => e.payload
  | .layerGeometrySet e => e.payload
  | .layerPaletteSet e => e.payload
  | .layerEnvelopeSet e => e.payload
  | .headFetchSet e => e.payload
  | .layerBlendSet e => e.payload
  | .headZorderSet e => e.payload
  | .headBackgroundSet e => e.payload
  | .contactSheetSet e => e.payload
  | .admissionReserveSet e => e.payload
  | .layerShedSet e => e.payload
  | .shedPlanSet e => e.payload
  | .shedPolicySet e => e.payload
  | .admissionReport e => e.payload
  | .compat5200Set e => e.payload
  | .scalerCoefLoad e => e.payload
  | .layerScalerSet e => e.payload
  | .layerDecodeSet e => e.payload
  | .matrixSet e => e.payload
  | .lut1dLoad e => e.payload
  | .lut1dBuiltin e => e.payload
  | .lut1dRead e => e.payload
  | .graphicColourSet e => e.payload
  | .headOutputSet e => e.payload
  | .lut3dAssign e => e.payload
  | .lut3dLoad e => e.payload
  | .sigRegionSet e => e.payload
  | .sdiLaneSet e => e.payload
  | .sdiAncRingSet e => e.payload
  | .panelPortSet e => e.payload
  | .panelDcsSend e => e.payload
  | .magSlotSet e => e.payload
  | .magIndexRead e => e.payload
  | .magFormat e => e.payload
  | .magEject e => e.payload
  | .recChannelSet e => e.payload
  | .recKeySet e => e.payload
  | .recStartAt e => e.payload
  | .recStopAt e => e.payload
  | .macConfig e => e.payload
  | .macSpareSet e => e.payload
  | .macTxqSet e => e.payload
  | .macRuleSet e => e.payload
  | .macFilterSet e => e.payload
  | .macStatsGet e => e.payload
  | .macSleep e => e.payload
  | .streamSubSet e => e.payload
  | .streamPortSet e => e.payload
  | .streamSubCtrl e => e.payload
  | .streamRxFlowSet e => e.payload
  | .streamDepackSet e => e.payload
  | .streamStatsRead e => e.payload
  | .ptpPortSet e => e.payload
  | .rigSet e => e.payload
  | .dmaChannelSet e => e.payload
  | .powerBudgetSet e => e.payload
  | .powerStateSet e => e.payload
  | .faultLogRead e => e.payload
  | .faultRecover e => e.payload
  | .diagCoreInfo e => e.payload
  | .diagFsRaw e => e.payload
  | .availClear e => e.payload
  | .fwInfo e => e.payload
  | .fwUpdate e => e.payload
  | .fwConfirm e => e.payload
  | .secFuseProgram e => e.payload
  | .mbDbWrite _ _ => []
  | .mbRspHeadWrite _ _ => []
  | .mailboxReset _ => []
  | .mailboxResetComplete _ => []
  | .entryTake _ => []
  | .extPayloadFetched _ _ => []
  | .stepCutStep _ => []
  | .lockstepMismatch => []
  | .serviceResume => []
  | .controlFailure => []
  | .runWatchdogExpiry => []
  | .fpGo _ => []
  | .fastPathLatch _ => []
  | .tbLatch => []
  | .replicaCheck _ _ => []
  | .refSignalValid _ => []
  | .refSignalInvalid _ => []
  | .refQualified _ => []
  | .refLost _ => []
  | .refLostTimeout _ => []
  | .refErrorMeasure _ _ _ => []
  | .slewComplete => []
  | .stepApply => []
  | .headRealign _ => []
  | .headSlewConverged _ => []
  | .referenceFrameStart => []
  | .ltcWordReceived _ _ _ _ _ => []
  | .captureFrameBoundary _ => []
  | .captureMarkerTimeout => []
  | .captureContinuationFrame => []
  | .synLossOfLock _ => []
  | .synLockDeclared _ _ _ _ => []
  | .synRelockAttemptEnd _ => []
  | .synLockTimeout _ => []
  | .synUpdatePoint _ => []
  | .referenceFault => []
  | .trackingLoopUpdate _ _ => []
  | .rampUpdate => []
  | .rampEnd => []
  | .occurrenceArm _ _ _ => []
  | .occurrenceFire _ => []
  | .pulseStop _ => []
  | .snapshotComplete => []
  | .fsReadRequest _ _ => []
  | .fsWriteRequest _ data => data
  | .beAgingPromotion _ => []
  | .patrolScrubRead _ => []
  | .startupFillStep => []
  | .startupFillDone => []
  | .channelTraining _ _ => []
  | .wckOscRead _ _ _ => []
  | .nudgeApply _ => []
  | .mr4Poll _ _ => []
  | .migrationGranuleCopy => []
  | .migrationComplete => []
  | .channelFail _ => []
  | .ledgerAcquire _ _ _ => []
  | .ledgerPublish _ _ _ _ _ _ => []
  | .ledgerDiscard _ _ _ => []
  | .ledgerRefTake _ _ _ _ => []
  | .ledgerRefRelease _ _ _ => []
  | .agentResetReclaim _ _ => []
  | .kmlMarkerReceived _ _ _ _ _ _ => []
  | .adaptTimeout _ => []
  | .laneFault _ => []
  | .txMarkerPoint _ => []
  | .ethLinkChange _ _ _ _ => []
  | .macFrameReceived _ frame _ => frame
  | .txFrameStart _ _ => []
  | .txUnderrun _ _ => []
  | .txFrameEnd _ => []
  | .pauseTimerExpiry _ => []
  | .pauseAlarm _ => []
  | .wakeDetect _ => []
  | .kpiFrameStart _ frame => frame
  | .kpiLinePacket _ frame => frame
  | .kpiFrameEnd _ frame => frame
  | .kpiEndTimeout _ => []
  | .kpiStatusSend _ => []
  | .headEnableStart _ => []
  | .latchPoint _ => []
  | .headBlankingStart _ => []
  | .headFrameStart _ => []
  | .writebackPublish _ => []
  | .fetchClassChange _ _ => []
  | .reservoirStarved _ _ => []
  | .commitArm => []
  | .fxFenceWrite _ _ => []
  | .commitTimeout => []
  | .signatureCompare _ _ => []
  | .sigClear _ _ => []
  | .tallyForceWrite _ => []
  | .shedEvaluation => []
  | .restoreHoldExpiry => []
  | .sdiSlip _ _ => []
  | .panelVideoStart _ => []
  | .kmpMessageReceived _ frame => frame
  | .kmpCommitReceived _ frame => frame
  | .kmpResendReceived _ frame => frame
  | .kmpNoticeReceived _ frame => frame
  | .kmpRequestTimeout _ => []
  | .kmpHelloSend _ => []
  | .kmpHelloTimeout _ => []
  | .noPartnerTimeout _ => []
  | .mainStreamPictureBegin _ => []
  | .magazineStreamPictureBegin _ => []
  | .holdMaxExpiry _ => []
  | .magazineRecouple _ => []
  | .copyClose _ => []
  | .spanContinuation _ => []
  | .stopBathTrigger => []
  | .stopBathRecordDeadline => []
  | .stopBathCommitDeadline => []
  | .stopBathAckDeadline => []
  | .packetRelease _ => []
  | .unpacedSlotEligible _ => []
  | .portSchedule _ => []
  | .pacedDeadlineExpiry _ _ => []
  | .mergeTimeout _ => []
  | .pathDownTimeout _ _ => []
  | .depackEndTimeout _ => []
  | .ptpMessageReceived _ frame => frame
  | .ptpMessageTimer _ => []
  | .announceReceiptTimeout _ => []
  | .rigFrameReceived _ frame => frame
  | .rigClaimTimer => []
  | .rigLeadTimeout => []
  | .rigAnnounceTimer => []
  | .dcDbHiWrite _ _ => []
  | .dcResume _ => []
  | .dcReset _ => []
  | .dcResetComplete _ => []
  | .descriptorFetch _ => []
  | .dmaTurn _ => []
  | .descriptorComplete _ => []
  | .ringFrameWrite _ => []
  | .dcRingConsWrite _ _ => []
  | .eventRaise _ => []
  | .msiXSend _ => []
  | .evtRearmWrite _ => []
  | .evtHoldoffWrite _ _ => []
  | .holdoffExpiry _ => []
  | .evcClaimRead => []
  | .evcCompleteWrite _ => []
  | .eviEdge _ _ => []
  | .powerRequest _ _ _ => []
  | .domainSwitch => []
  | .domainLoad _ => []
  | .pwrWakeWrite _ => []
  | .standbyWake => []
  | .comparatorChange _ => []
  | .holdupExit => []
  | .vsafeSwitchover _ => []
  | .safelightReset => []
  | .rtcSecond => []
  | .safelightWake _ => []
  | .rtcSecHiRead _ => []
  | .availTick => []
  | .sramError _ _ _ _ => []
  | .pornReset _ _ => []
  | .hrstnReset _ _ => []
  | .pcieHotReset => []
  | .bootWatchdogExpiry _ => []
  | .bootPushGo _ => []
  | .firmwareReady => []
  | .debugOff _ => []
  | .fwUpdateLock _ => []
  | .upstreamRequestTimeout _ => []
  | .w5CommitWrite _ => []
  | .w5CommitArm => []
  | .w5PalDataWrite _ => []
  | .w5LBaseLoWrite _ _ => []
  | .w5LBaseHiWrite _ _ => []
  | .bar2Read _ _ => []
  | .bar2Write _ data _ => data
  | .bar0BadAccess _ _ _ => []
  | .mgmtSpiRead frame => frame
  | .mgmtSpiWrite frame => frame
  | .mgmtSpiWake frame => frame
  | .mgmtSpiAbort frame => frame
  | .slSpiClear _ => []
  | .registerWrite _ _ _ => []
  | .headLineCompose _ => []
  | .pcieLinkUp => []
  | .rankPowerDownEntry _ _ => []
  | .cachedBandTimeout _ => []
  | .safelightTcFrame => []
  | .laneCdrLock _ => []
  | .formatStatusTimeout _ => []

end Sys2Proof
end

