-- ==== Sys2Proof/Laws/PerInstr.lean ====
section
/-! SUPPORT. The family Bytes, one lemma for each command: a well-formed command brings no more bytes than the frame store's
address space holds. -/
namespace Sys2Proof.Laws.Bytes
open Sys2Proof

/-- The bytes of a well-formed command fit the address space of the frame store (R32, R140, R586). -/
def Statement (i : Instr) : Prop := i.wf = true → i.data.length ≤ 2 ^ 40

/-- A command without bytes. -/
theorem of_nil {i : Instr} (h : i.data = []) : Statement i := fun _ => by simp [h]

/-- An entry, which has at most 56. -/
theorem of_entry {i : Instr} {e : CmdEntry} (h : i.data = e.payload) (hw : i.wf = entryOk e) : Statement i := fun w => by
  rw [hw, entryOk, decide_eq_true_eq] at w
  rw [h]; exact Nat.le_trans w (by decide)

/-- A command with a frame. -/
theorem of_frame {i : Instr} {b : List Byte} (h : i.data = b) (hw : i.wf = decide (b.length ≤ maxFrame)) : Statement i := fun w => by
  rw [hw, decide_eq_true_eq] at w
  rw [h]; exact Nat.le_trans w (by decide)

theorem sysNop (entry : CmdEntry) : Statement (.sysNop entry) := of_entry rfl rfl
theorem headConfigReport (entry : CmdEntry) : Statement (.headConfigReport entry) := of_entry rfl rfl
theorem timeRefSelect (entry : CmdEntry) : Statement (.timeRefSelect entry) := of_entry rfl rfl
theorem timeCorrectionSet (entry : CmdEntry) : Statement (.timeCorrectionSet entry) := of_entry rfl rfl
theorem timeStepApprove (entry : CmdEntry) : Statement (.timeStepApprove entry) := of_entry rfl rfl
theorem timeSet (entry : CmdEntry) : Statement (.timeSet entry) := of_entry rfl rfl
theorem refRasterSet (entry : CmdEntry) : Statement (.refRasterSet entry) := of_entry rfl rfl
theorem tcSet (entry : CmdEntry) : Statement (.tcSet entry) := of_entry rfl rfl
theorem headSlewSet (entry : CmdEntry) : Statement (.headSlewSet entry) := of_entry rfl rfl
theorem captureRasterSet (entry : CmdEntry) : Statement (.captureRasterSet entry) := of_entry rfl rfl
theorem synConfig (entry : CmdEntry) : Statement (.synConfig entry) := of_entry rfl rfl
theorem synCacheFill (entry : CmdEntry) : Statement (.synCacheFill entry) := of_entry rfl rfl
theorem captureRampLoad (entry : CmdEntry) : Statement (.captureRampLoad entry) := of_entry rfl rfl
theorem captureRampStart (entry : CmdEntry) : Statement (.captureRampStart entry) := of_entry rfl rfl
theorem evtSlotSet (entry : CmdEntry) : Statement (.evtSlotSet entry) := of_entry rfl rfl
theorem evtSlotGet (entry : CmdEntry) : Statement (.evtSlotGet entry) := of_entry rfl rfl
theorem evoConfig (entry : CmdEntry) : Statement (.evoConfig entry) := of_entry rfl rfl
theorem eviConfig (entry : CmdEntry) : Statement (.eviConfig entry) := of_entry rfl rfl
theorem fsInfo (entry : CmdEntry) : Statement (.fsInfo entry) := of_entry rfl rfl
theorem fsPolicySet (entry : CmdEntry) : Statement (.fsPolicySet entry) := of_entry rfl rfl
theorem fsFill (entry : CmdEntry) : Statement (.fsFill entry) := of_entry rfl rfl
theorem fsPatrolReport (entry : CmdEntry) : Statement (.fsPatrolReport entry) := of_entry rfl rfl
theorem fsChannelRetire (entry : CmdEntry) : Statement (.fsChannelRetire entry) := of_entry rfl rfl
theorem ledgerPoolCreate (entry : CmdEntry) : Statement (.ledgerPoolCreate entry) := of_entry rfl rfl
theorem ledgerPoolDelete (entry : CmdEntry) : Statement (.ledgerPoolDelete entry) := of_entry rfl rfl
theorem ledgerOp (entry : CmdEntry) : Statement (.ledgerOp entry) := of_entry rfl rfl
theorem ledgerDescGet (entry : CmdEntry) : Statement (.ledgerDescGet entry) := of_entry rfl rfl
theorem ingestStreamSet (entry : CmdEntry) : Statement (.ingestStreamSet entry) := of_entry rfl rfl
theorem ingestStreamGet (entry : CmdEntry) : Statement (.ingestStreamGet entry) := of_entry rfl rfl
theorem headTimingSet (entry : CmdEntry) : Statement (.headTimingSet entry) := of_entry rfl rfl
theorem headPairSet (entry : CmdEntry) : Statement (.headPairSet entry) := of_entry rfl rfl
theorem headWritebackSet (entry : CmdEntry) : Statement (.headWritebackSet entry) := of_entry rfl rfl
theorem layerCadenceSet (entry : CmdEntry) : Statement (.layerCadenceSet entry) := of_entry rfl rfl
theorem cfgCommit (entry : CmdEntry) : Statement (.cfgCommit entry) := of_entry rfl rfl
theorem layerAssign (entry : CmdEntry) : Statement (.layerAssign entry) := of_entry rfl rfl
theorem layerSourceSet (entry : CmdEntry) : Statement (.layerSourceSet entry) := of_entry rfl rfl
theorem layerGeometrySet (entry : CmdEntry) : Statement (.layerGeometrySet entry) := of_entry rfl rfl
theorem layerPaletteSet (entry : CmdEntry) : Statement (.layerPaletteSet entry) := of_entry rfl rfl
theorem layerEnvelopeSet (entry : CmdEntry) : Statement (.layerEnvelopeSet entry) := of_entry rfl rfl
theorem headFetchSet (entry : CmdEntry) : Statement (.headFetchSet entry) := of_entry rfl rfl
theorem layerBlendSet (entry : CmdEntry) : Statement (.layerBlendSet entry) := of_entry rfl rfl
theorem headZorderSet (entry : CmdEntry) : Statement (.headZorderSet entry) := of_entry rfl rfl
theorem headBackgroundSet (entry : CmdEntry) : Statement (.headBackgroundSet entry) := of_entry rfl rfl
theorem contactSheetSet (entry : CmdEntry) : Statement (.contactSheetSet entry) := of_entry rfl rfl
theorem admissionReserveSet (entry : CmdEntry) : Statement (.admissionReserveSet entry) := of_entry rfl rfl
theorem layerShedSet (entry : CmdEntry) : Statement (.layerShedSet entry) := of_entry rfl rfl
theorem shedPlanSet (entry : CmdEntry) : Statement (.shedPlanSet entry) := of_entry rfl rfl
theorem shedPolicySet (entry : CmdEntry) : Statement (.shedPolicySet entry) := of_entry rfl rfl
theorem admissionReport (entry : CmdEntry) : Statement (.admissionReport entry) := of_entry rfl rfl
theorem compat5200Set (entry : CmdEntry) : Statement (.compat5200Set entry) := of_entry rfl rfl
theorem scalerCoefLoad (entry : CmdEntry) : Statement (.scalerCoefLoad entry) := of_entry rfl rfl
theorem layerScalerSet (entry : CmdEntry) : Statement (.layerScalerSet entry) := of_entry rfl rfl
theorem layerDecodeSet (entry : CmdEntry) : Statement (.layerDecodeSet entry) := of_entry rfl rfl
theorem matrixSet (entry : CmdEntry) : Statement (.matrixSet entry) := of_entry rfl rfl
theorem lut1dLoad (entry : CmdEntry) : Statement (.lut1dLoad entry) := of_entry rfl rfl
theorem lut1dBuiltin (entry : CmdEntry) : Statement (.lut1dBuiltin entry) := of_entry rfl rfl
theorem lut1dRead (entry : CmdEntry) : Statement (.lut1dRead entry) := of_entry rfl rfl
theorem graphicColourSet (entry : CmdEntry) : Statement (.graphicColourSet entry) := of_entry rfl rfl
theorem headOutputSet (entry : CmdEntry) : Statement (.headOutputSet entry) := of_entry rfl rfl
theorem lut3dAssign (entry : CmdEntry) : Statement (.lut3dAssign entry) := of_entry rfl rfl
theorem lut3dLoad (entry : CmdEntry) : Statement (.lut3dLoad entry) := of_entry rfl rfl
theorem sigRegionSet (entry : CmdEntry) : Statement (.sigRegionSet entry) := of_entry rfl rfl
theorem sdiLaneSet (entry : CmdEntry) : Statement (.sdiLaneSet entry) := of_entry rfl rfl
theorem sdiAncRingSet (entry : CmdEntry) : Statement (.sdiAncRingSet entry) := of_entry rfl rfl
theorem panelPortSet (entry : CmdEntry) : Statement (.panelPortSet entry) := of_entry rfl rfl
theorem panelDcsSend (entry : CmdEntry) : Statement (.panelDcsSend entry) := of_entry rfl rfl
theorem magSlotSet (entry : CmdEntry) : Statement (.magSlotSet entry) := of_entry rfl rfl
theorem magIndexRead (entry : CmdEntry) : Statement (.magIndexRead entry) := of_entry rfl rfl
theorem magFormat (entry : CmdEntry) : Statement (.magFormat entry) := of_entry rfl rfl
theorem magEject (entry : CmdEntry) : Statement (.magEject entry) := of_entry rfl rfl
theorem recChannelSet (entry : CmdEntry) : Statement (.recChannelSet entry) := of_entry rfl rfl
theorem recKeySet (entry : CmdEntry) : Statement (.recKeySet entry) := of_entry rfl rfl
theorem recStartAt (entry : CmdEntry) : Statement (.recStartAt entry) := of_entry rfl rfl
theorem recStopAt (entry : CmdEntry) : Statement (.recStopAt entry) := of_entry rfl rfl
theorem macConfig (entry : CmdEntry) : Statement (.macConfig entry) := of_entry rfl rfl
theorem macSpareSet (entry : CmdEntry) : Statement (.macSpareSet entry) := of_entry rfl rfl
theorem macTxqSet (entry : CmdEntry) : Statement (.macTxqSet entry) := of_entry rfl rfl
theorem macRuleSet (entry : CmdEntry) : Statement (.macRuleSet entry) := of_entry rfl rfl
theorem macFilterSet (entry : CmdEntry) : Statement (.macFilterSet entry) := of_entry rfl rfl
theorem macStatsGet (entry : CmdEntry) : Statement (.macStatsGet entry) := of_entry rfl rfl
theorem macSleep (entry : CmdEntry) : Statement (.macSleep entry) := of_entry rfl rfl
theorem streamSubSet (entry : CmdEntry) : Statement (.streamSubSet entry) := of_entry rfl rfl
theorem streamPortSet (entry : CmdEntry) : Statement (.streamPortSet entry) := of_entry rfl rfl
theorem streamSubCtrl (entry : CmdEntry) : Statement (.streamSubCtrl entry) := of_entry rfl rfl
theorem streamRxFlowSet (entry : CmdEntry) : Statement (.streamRxFlowSet entry) := of_entry rfl rfl
theorem streamDepackSet (entry : CmdEntry) : Statement (.streamDepackSet entry) := of_entry rfl rfl
theorem streamStatsRead (entry : CmdEntry) : Statement (.streamStatsRead entry) := of_entry rfl rfl
theorem ptpPortSet (entry : CmdEntry) : Statement (.ptpPortSet entry) := of_entry rfl rfl
theorem rigSet (entry : CmdEntry) : Statement (.rigSet entry) := of_entry rfl rfl
theorem dmaChannelSet (entry : CmdEntry) : Statement (.dmaChannelSet entry) := of_entry rfl rfl
theorem powerBudgetSet (entry : CmdEntry) : Statement (.powerBudgetSet entry) := of_entry rfl rfl
theorem powerStateSet (entry : CmdEntry) : Statement (.powerStateSet entry) := of_entry rfl rfl
theorem faultLogRead (entry : CmdEntry) : Statement (.faultLogRead entry) := of_entry rfl rfl
theorem faultRecover (entry : CmdEntry) : Statement (.faultRecover entry) := of_entry rfl rfl
theorem diagCoreInfo (entry : CmdEntry) : Statement (.diagCoreInfo entry) := of_entry rfl rfl
theorem diagFsRaw (entry : CmdEntry) : Statement (.diagFsRaw entry) := of_entry rfl rfl
theorem availClear (entry : CmdEntry) : Statement (.availClear entry) := of_entry rfl rfl
theorem fwInfo (entry : CmdEntry) : Statement (.fwInfo entry) := of_entry rfl rfl
theorem fwUpdate (entry : CmdEntry) : Statement (.fwUpdate entry) := of_entry rfl rfl
theorem fwConfirm (entry : CmdEntry) : Statement (.fwConfirm entry) := of_entry rfl rfl
theorem secFuseProgram (entry : CmdEntry) : Statement (.secFuseProgram entry) := of_entry rfl rfl
theorem mbDbWrite (mb : Fin 16) (value : BitVec 32) : Statement (.mbDbWrite mb value) := of_nil rfl
theorem mbRspHeadWrite (mb : Fin 16) (value : BitVec 32) : Statement (.mbRspHeadWrite mb value) := of_nil rfl
theorem mailboxReset (mb : Fin 16) : Statement (.mailboxReset mb) := of_nil rfl
theorem mailboxResetComplete (mb : Fin 16) : Statement (.mailboxResetComplete mb) := of_nil rfl
theorem entryTake (mb : Fin 16) : Statement (.entryTake mb) := of_nil rfl
theorem extPayloadFetched (mb : Fin 16) (ok : Bool) : Statement (.extPayloadFetched mb ok) := of_nil rfl
theorem stepCutStep (mb : Fin 16) : Statement (.stepCutStep mb) := of_nil rfl
theorem lockstepMismatch : Statement .lockstepMismatch := of_nil rfl
theorem serviceResume : Statement .serviceResume := of_nil rfl
theorem controlFailure : Statement .controlFailure := of_nil rfl
theorem runWatchdogExpiry : Statement .runWatchdogExpiry := of_nil rfl
theorem fpGo (layer : Fin 64) : Statement (.fpGo layer) := of_nil rfl
theorem fastPathLatch (layer : Fin 64) : Statement (.fastPathLatch layer) := of_nil rfl
theorem tbLatch : Statement .tbLatch := of_nil rfl
theorem replicaCheck (domain : Fin 16) (diffNs : Int) : Statement (.replicaCheck domain diffNs) := of_nil rfl
theorem refSignalValid (cand : Fin 4) : Statement (.refSignalValid cand) := of_nil rfl
theorem refSignalInvalid (cand : Fin 4) : Statement (.refSignalInvalid cand) := of_nil rfl
theorem refQualified (cand : Fin 4) : Statement (.refQualified cand) := of_nil rfl
theorem refLost (cand : Fin 4) : Statement (.refLost cand) := of_nil rfl
theorem refLostTimeout (cand : Fin 4) : Statement (.refLostTimeout cand) := of_nil rfl
theorem refErrorMeasure (cand : Fin 4) (errNs ppb : Int) : Statement (.refErrorMeasure cand errNs ppb) := of_nil rfl
theorem slewComplete : Statement .slewComplete := of_nil rfl
theorem stepApply : Statement .stepApply := of_nil rfl
theorem headRealign (head : Fin 8) : Statement (.headRealign head) := of_nil rfl
theorem headSlewConverged (head : Fin 8) : Statement (.headSlewConverged head) := of_nil rfl
theorem referenceFrameStart : Statement .referenceFrameStart := of_nil rfl
theorem ltcWordReceived (valid : Bool) (hh mm ss ff : Nat) : Statement (.ltcWordReceived valid hh mm ss ff) := of_nil rfl
theorem captureFrameBoundary (marker : Option (Fin 4)) : Statement (.captureFrameBoundary marker) := of_nil rfl
theorem captureMarkerTimeout : Statement .captureMarkerTimeout := of_nil rfl
theorem captureContinuationFrame : Statement .captureContinuationFrame := of_nil rfl
theorem synLossOfLock (syn : Fin 12) : Statement (.synLossOfLock syn) := of_nil rfl
theorem synLockDeclared (syn : Fin 12) (band : Fin 64) (fine us : Nat) : Statement (.synLockDeclared syn band fine us) := of_nil rfl
theorem synRelockAttemptEnd (syn : Fin 12) : Statement (.synRelockAttemptEnd syn) := of_nil rfl
theorem synLockTimeout (syn : Fin 12) : Statement (.synLockTimeout syn) := of_nil rfl
theorem synUpdatePoint (syn : Fin 12) : Statement (.synUpdatePoint syn) := of_nil rfl
theorem referenceFault : Statement .referenceFault := of_nil rfl
theorem trackingLoopUpdate (head : Fin 8) (phaseErrNs : Int) : Statement (.trackingLoopUpdate head phaseErrNs) := of_nil rfl
theorem rampUpdate : Statement .rampUpdate := of_nil rfl
theorem rampEnd : Statement .rampEnd := of_nil rfl
theorem occurrenceArm (slot : Fin 4096) (frame : Int) (line : Nat) : Statement (.occurrenceArm slot frame line) := of_nil rfl
theorem occurrenceFire (slot : Fin 4096) : Statement (.occurrenceFire slot) := of_nil rfl
theorem pulseStop (slot : Fin 4096) : Statement (.pulseStop slot) := of_nil rfl
theorem snapshotComplete : Statement .snapshotComplete := of_nil rfl
theorem fsReadRequest (fsa upset : Nat) : Statement (.fsReadRequest fsa upset) := of_nil rfl
theorem fsWriteRequest (fsa : Nat) (data : List Byte) : Statement (.fsWriteRequest fsa data) := fun w => by
  simp only [Instr.wf, decide_eq_true_eq] at w; simp only [Instr.data]; omega
theorem beAgingPromotion (chan : Fin 16) : Statement (.beAgingPromotion chan) := of_nil rfl
theorem patrolScrubRead (upset : Nat) : Statement (.patrolScrubRead upset) := of_nil rfl
theorem startupFillStep : Statement .startupFillStep := of_nil rfl
theorem startupFillDone : Statement .startupFillDone := of_nil rfl
theorem channelTraining (chan : Fin 16) (ok : Bool) : Statement (.channelTraining chan ok) := of_nil rfl
theorem wckOscRead (chan : Fin 16) (drift0 drift1 : Int) : Statement (.wckOscRead chan drift0 drift1) := of_nil rfl
theorem nudgeApply (chan : Fin 16) : Statement (.nudgeApply chan) := of_nil rfl
theorem mr4Poll (codes bands : List Nat) : Statement (.mr4Poll codes bands) := of_nil rfl
theorem migrationGranuleCopy : Statement .migrationGranuleCopy := of_nil rfl
theorem migrationComplete : Statement .migrationComplete := of_nil rfl
theorem channelFail (chan : Fin 16) : Statement (.channelFail chan) := of_nil rfl
theorem ledgerAcquire (cls : Fin 16) (inst : Fin 32) (pool : Fin 64) : Statement (.ledgerAcquire cls inst pool) := of_nil rfl
theorem ledgerPublish (cls : Fin 16) (inst : Fin 32) (buf : Fin 4096) (frame capSec capNs : Nat) : Statement (.ledgerPublish cls inst buf frame capSec capNs) := of_nil rfl
theorem ledgerDiscard (cls : Fin 16) (inst : Fin 32) (buf : Fin 4096) : Statement (.ledgerDiscard cls inst buf) := of_nil rfl
theorem ledgerRefTake (cls : Fin 16) (inst : Fin 32) (buf : Fin 4096) (follow : Bool) : Statement (.ledgerRefTake cls inst buf follow) := of_nil rfl
theorem ledgerRefRelease (cls : Fin 16) (inst : Fin 32) (buf : Fin 4096) : Statement (.ledgerRefRelease cls inst buf) := of_nil rfl
theorem agentResetReclaim (cls : Fin 16) (inst : Fin 32) : Statement (.agentResetReclaim cls inst) := of_nil rfl
theorem kmlMarkerReceived (lane : Fin 24) (logical group rlf seq : Nat) (state : MarkerState) :
    Statement (.kmlMarkerReceived lane logical group rlf seq state) := of_nil rfl
theorem adaptTimeout (mac : Fin 16) : Statement (.adaptTimeout mac) := of_nil rfl
theorem laneFault (loss : LaneLoss) : Statement (.laneFault loss) := of_nil rfl
theorem txMarkerPoint (mac : Fin 16) : Statement (.txMarkerPoint mac) := of_nil rfl
theorem ethLinkChange (mac : Fin 16) (pcs : PcsReport) (localFault remoteFault : Bool) :
    Statement (.ethLinkChange mac pcs localFault remoteFault) := of_nil rfl
theorem macFrameReceived (mac : Fin 16) (frame : List Byte) (fcsOk : Bool) : Statement (.macFrameReceived mac frame fcsOk) := of_frame rfl rfl
theorem txFrameStart (mac : Fin 16) (queue : Fin 8) : Statement (.txFrameStart mac queue) := of_nil rfl
theorem txUnderrun (mac : Fin 16) (bytes : Nat) : Statement (.txUnderrun mac bytes) := of_nil rfl
theorem txFrameEnd (mac : Fin 16) : Statement (.txFrameEnd mac) := of_nil rfl
theorem pauseTimerExpiry (mac : Fin 16) : Statement (.pauseTimerExpiry mac) := of_nil rfl
theorem pauseAlarm (mac : Fin 16) : Statement (.pauseAlarm mac) := of_nil rfl
theorem wakeDetect (mac : Fin 16) : Statement (.wakeDetect mac) := of_nil rfl
theorem kpiFrameStart (mac : Fin 16) (frame : List Byte) : Statement (.kpiFrameStart mac frame) := of_frame rfl rfl
theorem kpiLinePacket (mac : Fin 16) (frame : List Byte) : Statement (.kpiLinePacket mac frame) := of_frame rfl rfl
theorem kpiFrameEnd (mac : Fin 16) (frame : List Byte) : Statement (.kpiFrameEnd mac frame) := of_frame rfl rfl
theorem kpiEndTimeout (stream : Fin 4) : Statement (.kpiEndTimeout stream) := of_nil rfl
theorem kpiStatusSend (stream : Fin 4) : Statement (.kpiStatusSend stream) := of_nil rfl
theorem headEnableStart (head : Fin 8) : Statement (.headEnableStart head) := of_nil rfl
theorem latchPoint (head : Fin 8) : Statement (.latchPoint head) := of_nil rfl
theorem headBlankingStart (head : Fin 8) : Statement (.headBlankingStart head) := of_nil rfl
theorem headFrameStart (head : Fin 8) : Statement (.headFrameStart head) := of_nil rfl
theorem writebackPublish (head : Fin 8) : Statement (.writebackPublish head) := of_nil rfl
theorem fetchClassChange (head : Fin 8) (level : Nat) : Statement (.fetchClassChange head level) := of_nil rfl
theorem reservoirStarved (head : Fin 8) (pixels : Nat) : Statement (.reservoirStarved head pixels) := of_nil rfl
theorem commitArm : Statement .commitArm := of_nil rfl
theorem fxFenceWrite (fence : Fin 32) (value : BitVec 32) : Statement (.fxFenceWrite fence value) := of_nil rfl
theorem commitTimeout : Statement .commitTimeout := of_nil rfl
theorem signatureCompare (head : Fin 8) (region : Fin 16) : Statement (.signatureCompare head region) := of_nil rfl
theorem sigClear (head : Fin 8) (region : Fin 16) : Statement (.sigClear head region) := of_nil rfl
theorem tallyForceWrite (value : BitVec 32) : Statement (.tallyForceWrite value) := of_nil rfl
theorem shedEvaluation : Statement .shedEvaluation := of_nil rfl
theorem restoreHoldExpiry : Statement .restoreHoldExpiry := of_nil rfl
theorem sdiSlip (lane : Fin 8) (fill : Nat) : Statement (.sdiSlip lane fill) := of_nil rfl
theorem panelVideoStart (port : Fin 4) : Statement (.panelVideoStart port) := of_nil rfl
theorem kmpMessageReceived (slot : Fin 2) (frame : List Byte) : Statement (.kmpMessageReceived slot frame) := of_frame rfl rfl
theorem kmpCommitReceived (slot : Fin 2) (frame : List Byte) : Statement (.kmpCommitReceived slot frame) := of_frame rfl rfl
theorem kmpResendReceived (slot : Fin 2) (frame : List Byte) : Statement (.kmpResendReceived slot frame) := of_frame rfl rfl
theorem kmpNoticeReceived (slot : Fin 2) (frame : List Byte) : Statement (.kmpNoticeReceived slot frame) := of_frame rfl rfl
theorem kmpRequestTimeout (slot : Fin 2) : Statement (.kmpRequestTimeout slot) := of_nil rfl
theorem kmpHelloSend (slot : Fin 2) : Statement (.kmpHelloSend slot) := of_nil rfl
theorem kmpHelloTimeout (slot : Fin 2) : Statement (.kmpHelloTimeout slot) := of_nil rfl
theorem noPartnerTimeout (slot : Fin 2) : Statement (.noPartnerTimeout slot) := of_nil rfl
theorem mainStreamPictureBegin (chan : Fin 2) : Statement (.mainStreamPictureBegin chan) := of_nil rfl
theorem magazineStreamPictureBegin (slot : Fin 2) : Statement (.magazineStreamPictureBegin slot) := of_nil rfl
theorem holdMaxExpiry (chan : Fin 2) : Statement (.holdMaxExpiry chan) := of_nil rfl
theorem magazineRecouple (slot : Fin 2) : Statement (.magazineRecouple slot) := of_nil rfl
theorem copyClose (slot : Fin 2) : Statement (.copyClose slot) := of_nil rfl
theorem spanContinuation (chan : Fin 2) : Statement (.spanContinuation chan) := of_nil rfl
theorem stopBathTrigger : Statement .stopBathTrigger := of_nil rfl
theorem stopBathRecordDeadline : Statement .stopBathRecordDeadline := of_nil rfl
theorem stopBathCommitDeadline : Statement .stopBathCommitDeadline := of_nil rfl
theorem stopBathAckDeadline : Statement .stopBathAckDeadline := of_nil rfl
theorem packetRelease (sub : Fin 2048) : Statement (.packetRelease sub) := of_nil rfl
theorem unpacedSlotEligible (sub : Fin 2048) : Statement (.unpacedSlotEligible sub) := of_nil rfl
theorem portSchedule (port : Fin 16) : Statement (.portSchedule port) := of_nil rfl
theorem pacedDeadlineExpiry (port : Fin 16) (sub : Fin 2048) : Statement (.pacedDeadlineExpiry port sub) := of_nil rfl
theorem mergeTimeout (flow : Fin 512) : Statement (.mergeTimeout flow) := of_nil rfl
theorem pathDownTimeout (flow : Fin 512) (pathB : Bool) : Statement (.pathDownTimeout flow pathB) := of_nil rfl
theorem depackEndTimeout (depack : Fin 16) : Statement (.depackEndTimeout depack) := of_nil rfl
theorem ptpMessageReceived (port : Fin 16) (frame : List Byte) : Statement (.ptpMessageReceived port frame) := of_frame rfl rfl
theorem ptpMessageTimer (port : Fin 16) : Statement (.ptpMessageTimer port) := of_nil rfl
theorem announceReceiptTimeout (port : Fin 16) : Statement (.announceReceiptTimeout port) := of_nil rfl
theorem rigFrameReceived (port : Fin 16) (frame : List Byte) : Statement (.rigFrameReceived port frame) := of_frame rfl rfl
theorem rigClaimTimer : Statement .rigClaimTimer := of_nil rfl
theorem rigLeadTimeout : Statement .rigLeadTimeout := of_nil rfl
theorem rigAnnounceTimer : Statement .rigAnnounceTimer := of_nil rfl
theorem dcDbHiWrite (chan : Fin 32) (value : BitVec 32) : Statement (.dcDbHiWrite chan value) := of_nil rfl
theorem dcResume (chan : Fin 32) : Statement (.dcResume chan) := of_nil rfl
theorem dcReset (chan : Fin 32) : Statement (.dcReset chan) := of_nil rfl
theorem dcResetComplete (chan : Fin 32) : Statement (.dcResetComplete chan) := of_nil rfl
theorem descriptorFetch (chan : Fin 32) : Statement (.descriptorFetch chan) := of_nil rfl
theorem dmaTurn (chan : Fin 32) : Statement (.dmaTurn chan) := of_nil rfl
theorem descriptorComplete (chan : Fin 32) : Statement (.descriptorComplete chan) := of_nil rfl
theorem ringFrameWrite (chan : Fin 32) : Statement (.ringFrameWrite chan) := of_nil rfl
theorem dcRingConsWrite (chan : Fin 32) (value : BitVec 32) : Statement (.dcRingConsWrite chan value) := of_nil rfl
theorem eventRaise (source : Fin 1024) : Statement (.eventRaise source) := of_nil rfl
theorem msiXSend (group : Fin 32) : Statement (.msiXSend group) := of_nil rfl
theorem evtRearmWrite (value : BitVec 32) : Statement (.evtRearmWrite value) := of_nil rfl
theorem evtHoldoffWrite (group : Fin 32) (value : BitVec 32) : Statement (.evtHoldoffWrite group value) := of_nil rfl
theorem holdoffExpiry (group : Fin 32) : Statement (.holdoffExpiry group) := of_nil rfl
theorem evcClaimRead : Statement .evcClaimRead := of_nil rfl
theorem evcCompleteWrite (number : Fin 1024) : Statement (.evcCompleteWrite number) := of_nil rfl
theorem eviEdge (pin : Fin 16) (firstSample : Nat) : Statement (.eviEdge pin firstSample) := of_nil rfl
theorem powerRequest (domain : Fin 32) (cost step : Nat) : Statement (.powerRequest domain cost step) := of_nil rfl
theorem domainSwitch : Statement .domainSwitch := of_nil rfl
theorem domainLoad (domain : Fin 32) : Statement (.domainLoad domain) := of_nil rfl
theorem pwrWakeWrite (value : BitVec 32) : Statement (.pwrWakeWrite value) := of_nil rfl
theorem standbyWake : Statement .standbyWake := of_nil rfl
theorem comparatorChange (comparator : Fin 6) : Statement (.comparatorChange comparator) := of_nil rfl
theorem holdupExit : Statement .holdupExit := of_nil rfl
theorem vsafeSwitchover (toBattery : Bool) : Statement (.vsafeSwitchover toBattery) := of_nil rfl
theorem safelightReset : Statement .safelightReset := of_nil rfl
theorem rtcSecond : Statement .rtcSecond := of_nil rfl
theorem safelightWake (source : Fin 9) : Statement (.safelightWake source) := of_nil rfl
theorem rtcSecHiRead (spi : Bool) : Statement (.rtcSecHiRead spi) := of_nil rfl
theorem availTick : Statement .availTick := of_nil rfl
theorem sramError (kind unit detail : Nat) (corrected : Bool) : Statement (.sramError kind unit detail corrected) := of_nil rfl
theorem pornReset (strap : Fin 4) (widthNs : Nat) : Statement (.pornReset strap widthNs) := of_nil rfl
theorem hrstnReset (strap : Fin 4) (widthNs : Nat) : Statement (.hrstnReset strap widthNs) := of_nil rfl
theorem pcieHotReset : Statement .pcieHotReset := of_nil rfl
theorem bootWatchdogExpiry (strap : Fin 4) : Statement (.bootWatchdogExpiry strap) := of_nil rfl
theorem bootPushGo (value : BitVec 32) : Statement (.bootPushGo value) := of_nil rfl
theorem firmwareReady : Statement .firmwareReady := of_nil rfl
theorem debugOff (value : BitVec 32) : Statement (.debugOff value) := of_nil rfl
theorem fwUpdateLock (value : BitVec 32) : Statement (.fwUpdateLock value) := of_nil rfl
theorem upstreamRequestTimeout (request : UpstreamRequest) : Statement (.upstreamRequestTimeout request) := of_nil rfl
theorem w5CommitWrite (value : BitVec 16) : Statement (.w5CommitWrite value) := of_nil rfl
theorem w5CommitArm : Statement .w5CommitArm := of_nil rfl
theorem w5PalDataWrite (value : BitVec 16) : Statement (.w5PalDataWrite value) := of_nil rfl
theorem w5LBaseLoWrite (layer : Fin 8) (value : BitVec 16) : Statement (.w5LBaseLoWrite layer value) := of_nil rfl
theorem w5LBaseHiWrite (layer : Fin 8) (value : BitVec 16) : Statement (.w5LBaseHiWrite layer value) := of_nil rfl
theorem bar2Read (offset : Fin 268435456) (length : Nat) : Statement (.bar2Read offset length) := of_nil rfl
theorem bar2Write (offset : Fin 268435456) (data : List Byte) (enables : List Bool) : Statement (.bar2Write offset data enables) := fun w => by
  simp only [Instr.wf, Bool.and_eq_true, decide_eq_true_eq] at w; simp only [Instr.data]; omega
theorem bar0BadAccess (place : BarPlace) (write : Bool) (value : BitVec 64) : Statement (.bar0BadAccess place write value) := of_nil rfl
theorem mgmtSpiRead (frame : List Byte) : Statement (.mgmtSpiRead frame) := of_frame rfl rfl
theorem mgmtSpiWrite (frame : List Byte) : Statement (.mgmtSpiWrite frame) := of_frame rfl rfl
theorem mgmtSpiWake (frame : List Byte) : Statement (.mgmtSpiWake frame) := of_frame rfl rfl
theorem mgmtSpiAbort (frame : List Byte) : Statement (.mgmtSpiAbort frame) := of_frame rfl rfl
theorem slSpiClear (value : BitVec 32) : Statement (.slSpiClear value) := of_nil rfl
theorem registerWrite (space : RegSpace) (offset : Nat) (value : BitVec 32) : Statement (.registerWrite space offset value) := of_nil rfl
theorem headLineCompose (head : Fin 8) : Statement (.headLineCompose head) := of_nil rfl
theorem pcieLinkUp : Statement .pcieLinkUp := of_nil rfl
theorem rankPowerDownEntry (chan : Fin 16) (rank : Fin 2) : Statement (.rankPowerDownEntry chan rank) := of_nil rfl
theorem cachedBandTimeout (syn : Fin 12) : Statement (.cachedBandTimeout syn) := of_nil rfl
theorem safelightTcFrame : Statement .safelightTcFrame := of_nil rfl
theorem laneCdrLock (lane : Fin 24) : Statement (.laneCdrLock lane) := of_nil rfl
theorem formatStatusTimeout (slot : Fin 2) : Statement (.formatStatusTimeout slot) := of_nil rfl

end Sys2Proof.Laws.Bytes
end

