-- ==== Sys2Proof/Laws/Rows.lean ====
section
/-! SUPPORT. What the rows of the table have in common: an entry is submitted through its mailbox, and a row that does not
reach the Safelight domain acts outside it. -/
namespace Sys2Proof.Machine
open Sys2Proof

set_option maxHeartbeats 1000000 in
/-- A row that is an entry submits it (R32, R36). -/
theorem exec_entry (i : Instr) (op : Nat) (e : CmdEntry) (s : State) (h : rowEntry i = some (op, e)) :
    exec i s = act (submit op e) s := by
  cases i <;> first | (cases h; done) | (cases h; rfl)

set_option maxHeartbeats 1000000 in
/-- A row that does not reach the Safelight domain acts outside it (R503). -/
theorem exec_outside (i : Instr) (s : State) (h : reachesSafelight i = false) : ∃ f, exec i s = actOutside f s := by
  cases i <;> first | exact ⟨_, rfl⟩ | cases h

@[simp] theorem act_eq (f : State → State) (s : State) : act f s = .next { f s with pending := s.pending } := rfl

@[simp] theorem actOutside_eq (f : State → State) (s : State) :
    actOutside f s = .next { f s with sl := s.sl, pending := s.pending } := rfl

end Sys2Proof.Machine
end

