-- ==== Sys2Proof/Laws/Submit.lean ====
section
/-! SUPPORT. What a host command does when its entry is served at once: the entry reads back from the ring as it was
written, and the command runs on the state with the entry taken. -/
namespace Sys2Proof.Machine
open Sys2Proof

/-! Bytes. -/

theorem leBytes_length (n v : Nat) : (leBytes n v).length = n := by
  induction n generalizing v with
  | zero => rfl
  | succ n ih => simp [leBytes, ih]

theorem leNat_leBytes (n v : Nat) : leNat (leBytes n v) = v % 256 ^ n := by
  induction n generalizing v with
  | zero => simp [leBytes, leNat, Nat.mod_one]
  | succ n ih =>
    simp only [leBytes, leNat, ih, BitVec.toNat_ofNat]
    rw [show 256 ^ (n + 1) = 256 * 256 ^ n by rw [Nat.pow_succ, Nat.mul_comm], Nat.mod_mul]

theorem leNat_lt (l : List Byte) : leNat l < 256 ^ l.length := by
  induction l with
  | nil => simp [leNat]
  | cons b t ih =>
    have := b.isLt
    simp only [leNat, List.length_cons, Nat.pow_succ]
    omega

/-- Bytes, packed into a number and taken out again, are those bytes with zeros above. -/
theorem leBytes_leNat (l : List Byte) (n : Nat) (h : l.length ≤ n) :
    leBytes n (leNat l) = l ++ List.replicate (n - l.length) 0 := by
  induction l generalizing n with
  | nil =>
    simp only [leNat, List.length_nil, Nat.sub_zero, List.nil_append]
    clear h
    induction n with
    | zero => rfl
    | succ n ih => simp [leBytes, ih, List.replicate_succ]
  | cons b t ih =>
    cases n with
    | zero => simp at h
    | succ n =>
      have hb := b.isLt
      simp only [leBytes, leNat, List.length_cons, List.cons_append]
      congr 1
      · apply BitVec.eq_of_toNat_eq; simp only [BitVec.toNat_ofNat]; omega
      · rw [show (b.toNat + 256 * leNat t) / 256 = leNat t by omega, ih n (by simpa using h)]
        congr 2; omega

/-- Four bytes at a time, each group padded with zeros, give the bytes padded with zeros. -/
theorem flatMap_words (k : Nat) (bs : List Byte) (h : bs.length ≤ 4 * k) :
    (List.range k).flatMap (fun i => (bs.drop (4 * i)).take 4 ++ List.replicate (4 - ((bs.drop (4 * i)).take 4).length) 0) =
      bs ++ List.replicate (4 * k - bs.length) 0 := by
  induction k generalizing bs with
  | zero => simp at h; simp [h]
  | succ k ih =>
    rw [List.range_succ_eq_map, List.flatMap_cons, List.flatMap_map]
    have := ih (bs.drop 4) (by simp; omega)
    simp only [List.drop_drop] at this
    have e : ∀ i, 4 * (i + 1) = 4 + 4 * i := by omega
    simp only [Nat.succ_eq_add_one, e, this]
    simp only [Nat.mul_zero, List.drop_zero, List.length_take, List.length_drop]
    by_cases hl : 4 ≤ bs.length
    · rw [Nat.min_eq_left hl]
      simp only [Nat.sub_self, List.replicate_zero, List.append_nil]
      rw [← List.append_assoc, List.take_append_drop]
      congr 2; omega
    · have h4 : bs.length ≤ 4 := by omega
      rw [List.take_of_length_le h4, List.drop_eq_nil_of_le h4, Nat.min_eq_right h4, List.nil_append, List.append_assoc,
        List.replicate_append_replicate]
      congr 2; omega

/-! The ring. -/

/-- The words of ring entry `k` after `j` of them are written. -/
theorem tabGet_forUpTo (j k : Nat) (w : List Word) (t : Tab Word) (i : Nat) :
    tabGet (forUpTo j (fun i t => tabSet t (16 * k + i) (w.getD i 0)) t) (16 * k + i) =
      if i < j then w.getD i 0 else tabGet t (16 * k + i) := by
  induction j with
  | zero => simp [forUpTo]
  | succ j ih =>
    simp only [forUpTo, List.range_succ, List.foldl_append, List.foldl_cons, List.foldl_nil] at ih ⊢
    rw [tabGet_tabSet]
    by_cases hi : i = j
    · subst hi; simp
    · rw [if_neg (by omega), ih]
      by_cases hlt : i < j
      · rw [if_pos hlt, if_pos (by omega)]
      · rw [if_neg hlt, if_neg (by omega)]

/-- The bytes of an entry, before they are padded to 64. -/
def entryBytes (op : Nat) (e : CmdEntry) : List Byte :=
  leBytes 2 op ++ leBytes 2 e.ticket.toNat ++ leBytes 2 e.flags.toNat ++ leBytes 2 e.length.toNat ++ e.payload.take 56

theorem entryBytes_length (op : Nat) (e : CmdEntry) : (entryBytes op e).length = 8 + min 56 e.payload.length := by
  simp [entryBytes, leBytes_length]; omega

/-- An entry reads back from the ring as it was written: opcode, TICKET, FLAGS, LENGTH and the padded payload. -/
theorem readEntry_writeEntry (n seq op : Nat) (e : CmdEntry) (m : Mailbox) (hop : op < 65536) (hp : e.payload.length ≤ 56) :
    readEntry n seq (writeEntry (seq % 64) (entryWords op e) m) =
      { mb := n, opcode := op, ticket := e.ticket.toNat, flags := e.flags.toNat, length := e.length.toNat, seq := seq,
        params := e.payload ++ List.replicate (56 - e.payload.length) 0 } := by
  have hlen := entryBytes_length op e
  have hw : ∀ i, i < 16 → (leBytes 4 (tabGet (writeEntry (seq % 64) (entryWords op e) m).cmdRing (16 * (seq % 64) + i)).toNat) =
      ((entryBytes op e).drop (4 * i)).take 4 ++ List.replicate (4 - (((entryBytes op e).drop (4 * i)).take 4).length) 0 := by
    intro i hi
    simp only [writeEntry]
    rw [tabGet_forUpTo, if_pos hi]
    have : (entryWords op e).getD i 0 = BitVec.ofNat 32 (leNat (((entryBytes op e).drop (4 * i)).take 4)) := by
      simp only [entryWords, entryBytes]
      rw [List.getD_eq_getElem?_getD, List.getElem?_map, List.getElem?_range hi]; rfl
    rw [this, BitVec.toNat_ofNat, Nat.mod_eq_of_lt, leBytes_leNat _ 4 (List.length_take_le _ _)]
    refine Nat.lt_of_lt_of_le (leNat_lt _) ?_
    calc 256 ^ _ ≤ 256 ^ 4 := Nat.pow_le_pow_right (by omega) (List.length_take_le _ _)
      _ = 2 ^ 32 := by decide
  have hb : (List.range 16).flatMap (fun i => leBytes 4 (tabGet (writeEntry (seq % 64) (entryWords op e) m).cmdRing (16 * (seq % 64) + i)).toNat) =
      entryBytes op e ++ List.replicate (64 - (entryBytes op e).length) 0 := by
    rw [← flatMap_words 16 (entryBytes op e) (by omega)]
    simp only [List.flatMap_def]
    congr 1
    exact List.map_congr_left fun i hi => hw i (List.mem_range.1 hi)
  simp only [readEntry, hb]
  have he : entryBytes op e ++ List.replicate (64 - (entryBytes op e).length) 0 =
      leBytes 2 op ++ (leBytes 2 e.ticket.toNat ++ (leBytes 2 e.flags.toNat ++ (leBytes 2 e.length.toNat ++
        (e.payload ++ List.replicate (56 - e.payload.length) 0)))) := by
    rw [hlen, Nat.min_eq_right hp, show 64 - (8 + e.payload.length) = 56 - e.payload.length by omega]
    simp only [entryBytes, List.append_assoc, List.take_of_length_le hp]
  have l2 : ∀ v, (leBytes 2 v).length = 2 := leBytes_length 2
  rw [he]
  have ht := e.ticket.isLt
  have hf := e.flags.isLt
  have hl := e.length.isLt
  have d2 : ∀ v (x : List Byte), (leBytes 2 v ++ x).drop 2 = x := fun v x =>
    List.drop_left' (l2 v)
  have t2 : ∀ v (x : List Byte), (leBytes 2 v ++ x).take 2 = leBytes 2 v := fun v x =>
    List.take_left' (l2 v)
  have d4 : ∀ (x : List Byte), x.drop 4 = (x.drop 2).drop 2 := fun x => by simp
  have d6 : ∀ (x : List Byte), x.drop 6 = ((x.drop 2).drop 2).drop 2 := fun x => by simp
  have d8 : ∀ (x : List Byte), x.drop 8 = (((x.drop 2).drop 2).drop 2).drop 2 := fun x => by simp
  have n2 : ∀ v, v < 65536 → leNat (leBytes 2 v) = v := fun v h => by
    rw [leNat_leBytes]; exact Nat.mod_eq_of_lt h
  simp only [d4, d6, d8, List.drop_zero, d2, t2, n2 op hop, n2 _ ht, n2 _ hf, n2 _ hl]

/-! Serving. -/

theorem known_lt {op : Nat} (h : knownOpcode op = true) : op < 65536 := by
  simp only [knownOpcode, List.any_eq_true, decide_eq_true_eq] at h
  obtain ⟨x, hx, rfl⟩ := h
  have : ∀ x ∈ opcodeLengths, x.1 < 65536 := by decide
  exact this x hx

@[simp] theorem mbAt_modMb_same (n : Nat) (f : Mailbox → Mailbox) (s : State) : mbAt (modMb n f s) n = f (mbAt s n) := by
  simp [mbAt, modMb]

@[simp] theorem modMb_inflight (n : Nat) (f : Mailbox → Mailbox) (s : State) : (modMb n f s).ctl.inflight = s.ctl.inflight := rfl
@[simp] theorem modMb_pair (n : Nat) (f : Mailbox → Mailbox) (s : State) : (modMb n f s).ctl.pair = s.ctl.pair := rfl
@[simp] theorem mbCmds_modMb (n k : Nat) (f : Mailbox → Mailbox) (s : State) : mbCmds (modMb n f s) k = mbCmds s k := rfl

/-- Every check of a list passes: the command goes on. -/
theorem checks_pass (s : State) (l : List Check) (k : CmdRes) (h : ∀ x ∈ l, x.1 = false) : checks s l k = k := by
  unfold checks
  have : l.find? (fun x => x.1) = none := by
    rw [List.find?_eq_none]; intro x hx; simp [h x hx]
  rw [this]

/-- The first check of a list that holds ends the command, with no change of state. -/
theorem checks_stop (s : State) (l : List Check) (k : CmdRes) (c : Check) (r : List Check) (h : ∀ x ∈ l, x.1 = false) (hc : c.1 = true) :
    checks s (l ++ c :: r) k = .final c.2.1 c.2.2 [] s := by
  unfold checks
  have : (l ++ c :: r).find? (fun x => x.1) = some c := by
    rw [List.find?_append, List.find?_eq_none.2 (fun x hx => by simp [h x hx])]; simp [hc]
  rw [this]

@[simp] theorem entered_sl (op : Nat) (e : CmdEntry) (s : State) : (entered op e s).sl = s.sl := rfl
@[simp] theorem entered_pending (op : Nat) (e : CmdEntry) (s : State) : (entered op e s).pending = s.pending := rfl
@[simp] theorem entered_boot (op : Nat) (e : CmdEntry) (s : State) : (entered op e s).boot = s.boot := rfl

/-- A doorbell within its range, with the device out of STANDBY, moves the tail count. -/
theorem doorbell_ok (n t : Nat) (s : State) (hen : (mbAt s n).enable = true) (hrdy : (mbAt s n).state = .ready)
    (hst : s.power.state ≠ .standby) (h1 : countDiff t (mbAt s n).cmdHead ≤ 64)
    (h2 : countDiff (mbAt s n).cmdTail (mbAt s n).cmdHead ≤ countDiff t (mbAt s n).cmdHead) (ht : t < 65536) :
    doorbell n t s = modMb n (fun x => { x with cmdTail := t }) s := by
  unfold doorbell
  simp only [hen, hrdy, h1, h2, Nat.mod_eq_of_lt ht, and_self, if_true, hst, if_false]
  simp

/-- An entry that is served at once runs its command on the state with the entry taken. -/
theorem submit_served (op : Nat) (e : CmdEntry) (s : State) (h : Served op e s) :
    submit op e s = { settle (cmdOf op e s) (runCmd (cmdOf op e s) (entered op e s)) with sl := s.sl } := by
  obtain ⟨hserv, hstby, hring, htail, hhold, hflags, hcut, hfree, hpay, hlen, hknown, h15, hred, hneed⟩ := h
  have hop := known_lt hknown
  simp only [serving, Bool.and_eq_true, decide_eq_true_eq] at hserv
  obtain ⟨⟨⟨hfw, hdom⟩, hen⟩, hrdy⟩ := hserv
  let n := e.mailbox.val
  have hdb : doorbell n (((mbAt s n).cmdTail + 1) % 65536) (modMb n (writeEntry ((mbAt s n).cmdTail % 64) (entryWords op e)) s) =
      modMb n (fun x => { x with cmdTail := ((mbAt s n).cmdTail + 1) % 65536 }) (modMb n (writeEntry ((mbAt s n).cmdTail % 64) (entryWords op e)) s) := by
    have e1 : (mbAt (modMb n (writeEntry ((mbAt s n).cmdTail % 64) (entryWords op e)) s) n) =
      writeEntry ((mbAt s n).cmdTail % 64) (entryWords op e) (mbAt s n) := mbAt_modMb_same _ _ _
    refine doorbell_ok n _ _ (by rw [e1]; exact hen) (by rw [e1]; exact hrdy) hstby ?_ ?_ (by omega)
    · rw [e1]
      show countDiff (((mbAt s n).cmdTail + 1) % 65536) (mbAt s n).cmdHead ≤ 64
      simp only [n, countDiff, hring]; omega
    · rw [e1]
      show countDiff (mbAt s n).cmdTail (mbAt s n).cmdHead ≤ countDiff (((mbAt s n).cmdTail + 1) % 65536) (mbAt s n).cmdHead
      simp only [n, countDiff, hring]; omega
  have hs : submit op e s = outsideSafelight (takeEntry n)
      (modMb n (fun x => { x with cmdTail := ((mbAt s n).cmdTail + 1) % 65536 }) (modMb n (writeEntry ((mbAt s n).cmdTail % 64) (entryWords op e)) s)) := by
    unfold submit
    simp only [n] at hdb
    simp only [hdb, hring, if_true, n]
  rw [hs]
  let s1 := modMb n (fun x => { x with cmdTail := ((mbAt s n).cmdTail + 1) % 65536 }) (modMb n (writeEntry ((mbAt s n).cmdTail % 64) (entryWords op e)) s)
  have hm1 : mbAt s1 n = { writeEntry ((mbAt s n).cmdTail % 64) (entryWords op e) (mbAt s n) with cmdTail := ((mbAt s n).cmdTail + 1) % 65536 } := by
    simp [s1]
  have hread : readEntry n (mbAt s1 n).cmdHead (mbAt s1 n) =
      { mb := n, opcode := op, ticket := e.ticket.toNat, flags := e.flags.toNat, length := e.length.toNat, seq := (mbAt s n).cmdHead,
        params := e.payload ++ List.replicate (56 - e.payload.length) 0 } := by
    rw [hm1]
    have := readEntry_writeEntry n (mbAt s n).cmdHead op e (mbAt s n) hop hpay
    rw [hring] at this
    show readEntry n (mbAt s n).cmdHead _ = _
    rw [hring]
    exact this
  have hfl : e.flags.toNat = 0 ∨ (e.flags.toNat = 2 ∧ mbCmds s n = []) := by
    rcases hflags with h | ⟨h, h'⟩
    · left; rw [h]; rfl
    · right; exact ⟨by rw [h]; rfl, h'⟩
  have hready : entryReady s1 n = true := by
    have hturn : entryInTurn s1 n = true := by
      simp only [entryInTurn, hread, Bool.and_eq_true, decide_eq_true_eq, Bool.not_eq_true', isStepCut]
      refine ⟨⟨⟨⟨?_, ?_⟩, ?_⟩, ?_⟩, ?_⟩
      · simp only [serving, hm1, Bool.and_eq_true, decide_eq_true_eq]
        exact ⟨⟨⟨hfw, hdom⟩, hen⟩, hrdy⟩
      · simp only [hm1, writeEntry]; rw [hring]; simp only [n] at htail ⊢; omega
      · exact hhold
      · rcases hfl with h | ⟨h, h'⟩
        · rw [h]; rfl
        · show (bit e.flags.toNat 1 && !(mbCmds s n).isEmpty) = false
          rw [h']; simp
      · by_cases hc : op ∈ stepCutOpcodes
        · have := hcut hc
          have e2 : stepCutOpen s1 n = stepCutOpen s n := rfl
          rw [e2]; simp; intro _; exact this
        · simp [hc]
    simp only [entryReady, hturn, Bool.true_and, decide_eq_true_eq, spaceNeed, hread, isStepCut]
    have e3 : freeEntries s1 n = freeEntries s n := by
      simp only [freeEntries, hm1, writeEntry]; rfl
    rw [e3]
    by_cases hc : op ∈ stepCutOpcodes <;> simp only [hc, if_true, if_false] at hfree <;> simp [hc, n, hfree]
  have htake : takeEntry n s1 = settle (cmdOf op e s) (runCmd (cmdOf op e s) (entered op e s)) := by
    unfold takeEntry
    rw [if_pos hready]
    simp only [hread, serveEntry, entryChecks]
    have hck : ∀ cr : Cmd, ([bad (!knownOpcode op), bad (decide (4 ≤ e.flags.toNat)), bad (!bit e.flags.toNat 0 && decide (56 < e.length.toNat)),
        bad (bit e.flags.toNat 0 && (decide (e.length.toNat = 0) || decide (4096 < e.length.toNat) ||
          decide (Cmd.u64 cr 0 % 4 ≠ 0))),
        stateIf (decide (op / 256 = 15) && decide (n ≠ 0)) unstated] : List Check).find? (fun x => x.1) = none := by
      intro cr
      rw [List.find?_eq_none]
      have hb0 : bit e.flags.toNat 0 = false := by
        rcases hfl with h | ⟨h, _⟩ <;> rw [h] <;> rfl
      have h4 : ¬ 4 ≤ e.flags.toNat := by rcases hfl with h | ⟨h, _⟩ <;> omega
      have h56 : ¬ 56 < e.length.toNat := by omega
      intro x hx
      simp only [List.mem_cons, List.not_mem_nil, or_false] at hx
      rcases hx with rfl | rfl | rfl | rfl | rfl
      · simp [bad, hknown]
      · simp [bad]; omega
      · simp [bad, h56]
      · simp [bad, hb0]
      · simp only [stateIf, Bool.and_eq_true, decide_eq_true_eq]; rintro ⟨h, h'⟩; exact h' (h15 h)
    have hb0 : bit e.flags.toNat 0 = false := by
      rcases hfl with h | ⟨h, _⟩ <;> rw [h] <;> rfl
    rw [hck]
    simp only [hb0, Bool.false_eq_true, if_false]
    refine Eq.trans (b := runPayload (cmdOf op e s) (entered op e s)) rfl ?_
    have hred' : reducedBars (entered op e s) (cmdOf op e s).opcode = false := hred
    unfold runPayload
    rw [checks_pass, hred', if_neg Bool.false_ne_true]
    intro x hx
    rw [List.mem_singleton.1 hx]
    simp only [tooShort, decide_eq_false_iff_not, Nat.not_lt]; exact hneed
  show outsideSafelight (takeEntry n) s1 = _
  unfold outsideSafelight
  rw [htake]
  rfl

@[simp] theorem postFinal_sl (c : Cmd) (st : Status) (d : Nat) (r : List Byte) (s : State) : (postFinal c st d r s).sl = s.sl := by
  by_cases h : st = .ok ∧ configOpcodes.contains c.opcode = true <;> by_cases h' : c.detached = true <;>
    simp only [postFinal, h, h', if_true, if_false, and_self, Bool.false_eq_true, postResp_sl] <;> rfl
@[simp] theorem postFinal_pending (c : Cmd) (st : Status) (d : Nat) (r : List Byte) (s : State) : (postFinal c st d r s).pending = s.pending := by
  by_cases h : st = .ok ∧ configOpcodes.contains c.opcode = true <;> by_cases h' : c.detached = true <;>
    simp only [postFinal, h, h', if_true, if_false, and_self, Bool.false_eq_true, postResp_pending] <;> rfl

theorem state_eta (s : State) (sl : Safelight) (p : List Instr) (h : s.sl = sl) (h' : s.pending = p) :
    ({ s with sl := sl, pending := p } : State) = s := by subst h; subst h'; rfl

/-- A command that ends in its first slice: the row's whole effect. -/
theorem act_final (op : Nat) (e : CmdEntry) (s : State) (r : List Byte) (t : State) (h : Served op e s)
    (hr : runCmd (cmdOf op e s) (entered op e s) = .final .ok 0 r t) (hs : t.sl = s.sl) (hp : t.pending = s.pending) :
    act (submit op e) s = .next (answered op e s r t) := by
  unfold act
  rw [submit_served op e s h, hr]
  simp only [settle]
  exact congrArg _ (state_eta _ _ _ (by simp [hs]) (by simp [hp]))

/-- A command that waits after its first slice: the row's whole effect. -/
theorem act_wait (op : Nat) (e : CmdEntry) (s : State) (w : WaitFor) (t : State) (h : Served op e s)
    (hr : runCmd (cmdOf op e s) (entered op e s) = .wait w t) (hs : t.sl = s.sl) (hp : t.pending = s.pending) :
    act (submit op e) s = .next (waiting op e s w t) := by
  unfold act
  rw [submit_served op e s h, hr]
  simp only [settle]
  exact congrArg _ (state_eta _ _ _ hs hp)

@[simp] theorem addCmd_sl (c : Cmd) (s : State) : (addCmd c s).sl = s.sl := rfl
@[simp] theorem addCmd_pending (c : Cmd) (s : State) : (addCmd c s).pending = s.pending := rfl

/-- A step-cut command that goes on after ACCEPTED: the row's whole effect. -/
theorem act_accept (op : Nat) (e : CmdEntry) (s : State) (j : Job) (t : State) (h : Served op e s)
    (hr : runCmd (cmdOf op e s) (entered op e s) = .accept j none t) (hs : t.sl = s.sl) (hp : t.pending = s.pending) :
    act (submit op e) s = .next (accepted op e s j t) := by
  unfold act
  rw [submit_served op e s h, hr]
  simp only [settle]
  exact congrArg _ (state_eta _ _ _ (by simp [cmdOf, hs]) (by simp [cmdOf, hp]))

/-- A step-cut command that ends in its first slice: the row's whole effect. -/
theorem act_accept_end (op : Nat) (e : CmdEntry) (s : State) (j : Job) (st : Status) (d : Nat) (r : List Byte) (t : State)
    (h : Served op e s) (hr : runCmd (cmdOf op e s) (entered op e s) = .accept j (some (st, d, r)) t) (hs : t.sl = s.sl)
    (hp : t.pending = s.pending) : act (submit op e) s = .next (acceptedAndEnded op e s st d r t) := by
  unfold act
  rw [submit_served op e s h, hr]
  simp only [settle]
  exact congrArg _ (state_eta _ _ _ (by simp [cmdOf, hs]) (by simp [cmdOf, hp]))

/-- Reserved bytes of 0 pass their check. -/
theorem rsv_pass (c : Cmd) (o n : Nat) (h : Zero c o n) : (rsv c o n).1 = false := by
  simp only [rsv, List.any_eq_false, decide_eq_true_eq, Decidable.not_not]; exact h

end Sys2Proof.Machine
end

