-- ==== Sys2Proof/Tests/Slice0.lean ====
section
/-! SUPPORT. Tests: ill-formed terms that WellFormed refuses, single steps, and for every form that a statement names a
concrete state and operands that meet its hypotheses. -/
namespace Sys2Proof.Tests
set_option Elab.async false
open Sys2Proof Sys2Proof.Machine

/-- A state in which the firmware runs and mailbox 0 is served. -/
def wS : State := { State.reset with ctl := { State.reset.ctl with pair := .running } }

/-- An entry of mailbox 0 whose payload is given, with its LENGTH. -/
def wE (p : List Nat) : CmdEntry :=
  { ticket := 7, length := BitVec.ofNat 16 p.length, payload := p.map (fun b => BitVec.ofNat 8 b) }

/-- A head's shadow with a small valid raster and a write-back pool. -/
def wHd : HeadCfg :=
  { timing := { hact := 1920, hfp := 88, hsync := 44, hbp := 148, vact := 1080, vfp := 4, vsync := 5, vbp := 36, p := 1, q := 1 }, wbPool := some 3 }

/-- A table of taps in which each phase has one tap of 4096. -/
def wTaps : List Byte := (List.range 64).flatMap (fun _ => 0 :: 16 :: List.replicate 14 0) ++ (List.range 64).flatMap (fun _ => 0 :: 16 :: List.replicate 10 0)

/-- The same table in the second buffer of a pool. -/
def wCoef : State :=
  let s := modBuf 8 (fun b => { b with state := .published }) (modPool 3 (fun _ => { used := true, base := 8388608, size := 65536, count := 2, keep := 1, lines := 32, format := 0x41, stride := 1024, first := 7 }) wS)
  { s with fs := { s.fs with up := true, fillDone := true, mem := (List.range 64).map (fun p => (8454145 + 16 * p, 16#8)) ++ (List.range 64).map (fun p => (8455169 + 12 * p, 16#8)) } }
/-- The store is up and its start-up fill is done. -/
def wFilled (s : State) : State := { s with fs := { s.fs with up := true, fillDone := true } }

/-- An entry of mailbox 0 whose payload of `n` bytes stands at address 4096 of host memory. -/
def wX (n : Nat) : CmdEntry := { ticket := 7, flags := 1, length := BitVec.ofNat 16 n, payload := leBytes 8 4096 }

/-- Host memory that can be reached, with bytes at address 4096. -/
def wHost (b : List Byte) (s : State) : State := hostPoke 4096 b { s with host := { s.host with linkUp := true, busMaster := true } }
/-- The same with the store's domains on. -/
def wOn : State := wFilled (forUpTo 32 (fun d => modDom d (fun x => { x with level := .on, loading := false })) wS)

/-! Operands that WellFormed refuses, one term for each check, and a term that it takes. -/

theorem test_wf_entry : (Instr.sysNop (wE [1, 2, 3])).wf = true := by decide
theorem test_wf_entryLong : (Instr.sysNop { wE [] with payload := List.replicate 57 0 }).wf = false := by decide
theorem test_wf_timecode : (Instr.ltcWordReceived true 24 0 0 0).wf = false ∧ (Instr.ltcWordReceived true 23 60 0 0).wf = false ∧
    (Instr.ltcWordReceived true 23 59 60 0).wf = false ∧ (Instr.ltcWordReceived true 23 59 59 30).wf = false := by decide
theorem test_wf_fsRead : (Instr.fsReadRequest (2 ^ 40) 0).wf = false := by decide
theorem test_wf_fsWrite : (Instr.fsWriteRequest (2 ^ 40) [0]).wf = false := by decide
theorem test_wf_polls : (Instr.mr4Poll [] (List.replicate 16 0)).wf = false ∧ (Instr.mr4Poll (List.replicate 16 0) []).wf = false := by decide
theorem test_wf_publish : (Instr.ledgerPublish 0 0 0 0 (2 ^ 48) 0).wf = false ∧ (Instr.ledgerPublish 0 0 0 0 0 1000000000).wf = false := by decide
theorem test_wf_marker : (Instr.kmlMarkerReceived 0 16 0 0 0 { linkState := 0 }).wf = false ∧ (Instr.kmlMarkerReceived 0 0 256 0 0 { linkState := 0 }).wf = false ∧
    (Instr.kmlMarkerReceived 0 0 0 256 0 { linkState := 0 }).wf = false ∧ (Instr.kmlMarkerReceived 0 0 0 0 65536 { linkState := 0 }).wf = false ∧
    (Instr.kmlMarkerReceived 0 0 0 0 0 { linkState := 256 }).wf = false := by decide
theorem test_wf_frame : (Instr.rigFrameReceived 0 (List.replicate 16385 0)).wf = false := by decide +kernel
theorem test_wf_level : (Instr.fetchClassChange 0 (2 ^ 15)).wf = false := by decide
theorem test_wf_sramKind : (Instr.sramError 8 0 0 true).wf = false ∧ (Instr.sramError 15 0 0 true).wf = false := by decide
theorem test_wf_bar2Read : (Instr.bar2Read ⟨2 ^ 28 - 1, by decide⟩ 2).wf = false := by decide
theorem test_wf_bar2Write : (Instr.bar2Write ⟨0, by decide⟩ [0] []).wf = false := by decide
theorem test_wf_register : (Instr.registerWrite .bar0 0x400000 0).wf = false ∧ (Instr.registerWrite .bar0 2 0).wf = false ∧
    (Instr.registerWrite .window 0x2FFFFE 0).wf = false ∧ (Instr.registerWrite .window 0x300200 0).wf = false ∧
    (Instr.registerWrite .bar4 0x2000 0).wf = false ∧ (Instr.registerWrite .config 0x1000 0).wf = false ∧
    (Instr.registerWrite .onyx 1 0).wf = false := by decide

/-! Worked examples of the spec. -/

/-- The address of the example under R140. -/
theorem test_channel : chanOf 0x0040001A00 = 15 ∧ localOf 0x0040001A00 = 0x04000100 := by decide +kernel
/-- The physical byte and the check word of the example under R142. -/
theorem test_block : physOf 0x04000100 = 71583040 ∧ checkOf 0x04000100 = 71583700 := by decide +kernel
/-- The example under R66: an edge 39.6 ms late with a period of 40 ms is 0.4 ms early, so that the error is −(−0.4) ms. -/
theorem test_fold : foldError (-39600000) 25 1 = 400000 := by decide
/-- Rows of the table of R91. -/
theorem test_synWords : synWordsFor 0 250000000 1 = some { int := 370, frac := 10, modw := 27, od := 40, tnum := 250000000, tden := 1 } ∧
    synWordsFor 0 148500000 1 = some { int := 363, frac := 0, modw := 1, od := 66, tnum := 148500000, tden := 1 } ∧
    synWordsFor 0 148500000000 1001 = some { int := 362, frac := 58, modw := 91, od := 66, tnum := 148500000000, tden := 1001 } ∧
    synWordsFor 0 594000000 1 = some { int := 352, frac := 0, modw := 1, od := 16, tnum := 594000000, tden := 1 } ∧
    synWordsFor 0 74250000000 1001 = some { int := 368, frac := 12, modw := 91, od := 134, tnum := 74250000000, tden := 1001 } ∧
    synWordsFor 0 74250000 1 = some { int := 368, frac := 1, modw := 2, od := 134, tnum := 74250000, tden := 1 } := by decide +kernel
/-- Cases 1 to 6 of the worked pixels under R304. -/
theorem test_blend : blendComp 0 false 65536 65536 524288 188748 = 524288 ∧
    (blendPx {} { r := 524288, a := 32896 } { r := 188748 }).r = 357178 ∧
    (blendPx { lw := 49151 } { r := 524288, a := 32896 } { r := 188748 }).r = 315072 ∧
    (blendPx { premult := true } { r := 262144, a := 32896 } { r := 188748 }).r = 356146 ∧
    (blendPx { mode := 2 } { r := 524288, a := 65535 } { r := 188748 }).r = 94374 ∧
    (blendPx { mode := 1 } { r := 600000, a := 65535 } { r := 8000000 }).r = 8388607 := by decide +kernel
/-- White of eight bits decodes to 1,048,576 (the worked pixels under R304, by R266). -/
theorem test_decode : decodeC 0 255 255 = 1048576 := by decide +kernel
/-- The read of SL_STATUS in the example of chapter 25 gives 0x0000_0303. -/
theorem test_slStatus : slRead true 0 { wS with sl := { wS.sl with timeValid := true, tcValid := true, slReset := false, switchovers := 3 } } = 0x303 := by decide
/-- 64 entries fill a ring; a 65th is refused (R36, R37). -/
theorem test_doorbell : (mbAt (doorbell 0 64 wS) 0).cmdTail = 64 ∧ (mbAt (doorbell 0 65 wS) 0).dbErr = true := by decide +kernel
/-- A command that no table lists is answered REJECTED_RANGE (R34, row 1). -/
theorem test_unknown : (tabGet (mbAt (submit 0x0199 (wE []) wS) 0).rspRing 0).status = .rejRange := by decide +kernel

/-! Hypotheses are met. -/

theorem witness_front : ({ wS with pending := [.tbLatch, .rtcSecond] } : State).pending = [.tbLatch, .rtcSecond] ∧ wS.pending = [] := by decide
theorem witness_outside : reachesSafelight .tbLatch = false ∧ rowEntry (.sysNop (wE [])) = some (0x0101, wE []) := by decide
theorem witness_ranges : SafelightRanges ({ wS with pending := [.rtcSecond] } : State).sl ∧ (∃ t, step { wS with pending := [.rtcSecond] } = .next t) := by
  refine ⟨by decide, _, rfl⟩
theorem witness_eventUnitReset : (∃ t, t = freshDevice (raise 5 wS)) ∧ unitOn State.reset 5 = true ∧ unitOn State.reset 98 = false := ⟨⟨_, rfl⟩, by decide +kernel, by decide +kernel⟩
theorem witness_doorbell : okDoorbell 0 wS ∧ countDiff 64 (mbAt wS 0).cmdHead ≤ 64 ∧ countDiff (mbAt wS 0).cmdTail (mbAt wS 0).cmdHead ≤ countDiff 64 (mbAt wS 0).cmdHead ∧
    64 < countDiff 65 (mbAt wS 0).cmdHead := by decide +kernel
theorem witness_doorbellBehind : okDoorbell 0 (modMb 0 (fun m => { m with cmdTail := 3 }) wS) ∧
    countDiff 2 (mbAt (modMb 0 (fun m => { m with cmdTail := 3 }) wS) 0).cmdHead < countDiff 3 (mbAt (modMb 0 (fun m => { m with cmdTail := 3 }) wS) 0).cmdHead := by decide +kernel
theorem witness_claim : okClaim 5 ({ wS with ev := { wS.ev with evcPend := [(0, 0x60#32)], evcEn := [(0, 0xE0#32)] } } : State) := by decide +kernel
theorem witness_noClaim : domOn wS 2 = true ∧ evcLine wS = false := by decide +kernel
theorem witness_completed : okComplete 5 ({ wS with ev := { wS.ev with inService := some 5 } } : State) ∧ okCompleteOther 6 ({ wS with ev := { wS.ev with inService := some 5 } } : State) ∧ okRaiseServed 5 ({ wS with ev := { wS.ev with inService := some 5 } } : State) := by decide +kernel
theorem witness_raised : okRaised 5 wS ∧ okHostClear wS := by decide +kernel
theorem witness_refusedFlags : InTurn 0x0101 { wE [] with flags := 4 } wS := by decide +kernel
theorem witness_refusedLength : InTurn 0x0101 { wE [] with length := 57 } wS := by decide +kernel
theorem witness_refusedExt : InTurn 0x0101 { wE [] with flags := 1 } wS := by decide +kernel
theorem witness_refusedMailbox : InTurn 0x0F01 { wE [] with mailbox := 1 } (modMb 1 (fun m => { m with enable := true, state := .ready }) wS) := by decide +kernel
theorem witness_refusedShort : InTurn 0x0201 (wE []) wS ∧ (wE []).length.toNat < lengthNeed (cmdOf 0x0201 (wE []) wS) := by decide +kernel
theorem witness_wholeLine : okWholeLine 131072 (List.replicate 64 7) (wFilled wS) ∧ hostReachable (wHost [] wS) = true ∧ Memory.wf wS.fs.mem = true := by decide +kernel
theorem witness_resetRows : (0x4100, 0x20, 12, 4) ∈ resetRowsLow ∧ (0x100108, 0, 1, 0xFFFFFFFF) ∈ resetRowsHigh := by decide +kernel
/-- Every domain is on. -/
def wAllOn : State := { wS with power := { wS.power with doms := (List.range 32).map (fun d => (d, { level := .on })) } }
theorem witness_readable : okReadable 0x14 wAllOn ∧ okReadable 0x100 wAllOn ∧ okReadable 0x104 wAllOn ∧ okReadable 0x81004 wAllOn ∧ okReadable 0x100084 wAllOn ∧
    okReadable 0x80020 wAllOn ∧ okReadable 0x200040 wAllOn ∧ okReadable 0x380064 wAllOn ∧ okReadable 0x0 wAllOn ∧ domOn wS (bar0Reg 0x80020 wS).1 = false := by decide +kernel
theorem witness_timeCorrectionSet : Served 0x0202 (wE [0, 225, 245, 5, 232, 3, 0, 0, 96, 234, 1, 0]) wS ∧ okTimeCorrectionSet (cmdOf 0x0202 (wE [0, 225, 245, 5, 232, 3, 0, 0, 96, 234, 1, 0]) wS) (entered 0x0202 (wE [0, 225, 245, 5, 232, 3, 0, 0, 96, 234, 1, 0]) wS) := by decide +kernel
theorem witness_headSlewSet : Served 0x0207 (wE [7, 0, 0, 0, 100, 0, 0, 0, 64, 66, 15, 0]) wS ∧ okHeadSlewSet (cmdOf 0x0207 (wE [7, 0, 0, 0, 100, 0, 0, 0, 64, 66, 15, 0]) wS) (entered 0x0207 (wE [7, 0, 0, 0, 100, 0, 0, 0, 64, 66, 15, 0]) wS) := by decide +kernel
theorem witness_timeRefSelect : Served 0x0201 (wE [2, 0, 0, 0, 1, 0, 0, 0, 24, 0, 0, 0, 1, 0, 0, 0, 0, 0, 0, 0, 0, 0, 0, 0, 0, 0, 0, 0]) wS ∧ okTimeRefSelect (cmdOf 0x0201 (wE [2, 0, 0, 0, 1, 0, 0, 0, 24, 0, 0, 0, 1, 0, 0, 0, 0, 0, 0, 0, 0, 0, 0, 0, 0, 0, 0, 0]) wS) (entered 0x0201 (wE [2, 0, 0, 0, 1, 0, 0, 0, 24, 0, 0, 0, 1, 0, 0, 0, 0, 0, 0, 0, 0, 0, 0, 0, 0, 0, 0, 0]) wS) := by decide +kernel
theorem witness_timeStepApprove : Served 0x0203 (wE [0, 0, 0, 0]) (modTb (fun b => { b with state := .stepPending, errFull := 5000000 }) wS) ∧ okTimeStepApprove (cmdOf 0x0203 (wE [0, 0, 0, 0]) (modTb (fun b => { b with state := .stepPending, errFull := 5000000 }) wS)) (entered 0x0203 (wE [0, 0, 0, 0]) (modTb (fun b => { b with state := .stepPending, errFull := 5000000 }) wS)) := by decide +kernel
theorem witness_timeStepDecline : Served 0x0203 (wE [1, 0, 0, 0]) (modTb (fun b => { b with state := .stepPending, errFull := -5000000 }) wS) ∧ okTimeStepDecline (cmdOf 0x0203 (wE [1, 0, 0, 0]) (modTb (fun b => { b with state := .stepPending, errFull := -5000000 }) wS)) (entered 0x0203 (wE [1, 0, 0, 0]) (modTb (fun b => { b with state := .stepPending, errFull := -5000000 }) wS)) := by decide +kernel
theorem witness_timeSet : Served 0x0204 (wE [5, 0, 0, 0, 0, 0, 0, 0, 255, 201, 154, 59]) wS ∧ okTimeSet (cmdOf 0x0204 (wE [5, 0, 0, 0, 0, 0, 0, 0, 255, 201, 154, 59]) wS) (entered 0x0204 (wE [5, 0, 0, 0, 0, 0, 0, 0, 255, 201, 154, 59]) wS) := by decide +kernel
theorem witness_refRasterSet : Served 0x0205 (wE [192, 93, 0, 0, 232, 3, 0, 0, 101, 4, 152, 8, 24, 252, 255, 255]) wS ∧ okRefRasterSet (cmdOf 0x0205 (wE [192, 93, 0, 0, 232, 3, 0, 0, 101, 4, 152, 8, 24, 252, 255, 255]) wS) (entered 0x0205 (wE [192, 93, 0, 0, 232, 3, 0, 0, 101, 4, 152, 8, 24, 252, 255, 255]) wS) := by decide +kernel
theorem witness_tcSet : Served 0x0206 (wE [0, 4, 1, 0, 29, 59, 59, 23, 0, 0, 0, 0, 0, 0, 0, 0, 0, 0, 0, 0, 240, 241, 255, 255]) wS ∧ okTcSet (cmdOf 0x0206 (wE [0, 4, 1, 0, 29, 59, 59, 23, 0, 0, 0, 0, 0, 0, 0, 0, 0, 0, 0, 0, 240, 241, 255, 255]) wS) (entered 0x0206 (wE [0, 4, 1, 0, 29, 59, 59, 23, 0, 0, 0, 0, 0, 0, 0, 0, 0, 0, 0, 0, 240, 241, 255, 255]) wS) := by decide +kernel
theorem witness_captureRasterFollow : Served 0x0208 (wE [0, 3, 0, 0, 232, 3, 0, 0, 0, 0, 0, 0, 0, 0, 0, 0]) wS ∧ okCaptureRasterFollow (cmdOf 0x0208 (wE [0, 3, 0, 0, 232, 3, 0, 0, 0, 0, 0, 0, 0, 0, 0, 0]) wS) (entered 0x0208 (wE [0, 3, 0, 0, 232, 3, 0, 0, 0, 0, 0, 0, 0, 0, 0, 0]) wS) := by decide +kernel
theorem witness_captureRasterDrive : Served 0x0208 (wE [1, 0, 152, 8, 0, 0, 0, 0, 24, 0, 0, 0, 1, 0, 0, 0]) wS ∧ okCaptureRasterDrive (cmdOf 0x0208 (wE [1, 0, 152, 8, 0, 0, 0, 0, 24, 0, 0, 0, 1, 0, 0, 0]) wS) (entered 0x0208 (wE [1, 0, 152, 8, 0, 0, 0, 0, 24, 0, 0, 0, 1, 0, 0, 0]) wS) := by decide +kernel
theorem witness_synConfigRunning : Served 0x0209 (wE [9, 0, 1, 20, 0, 4, 0, 0, 1, 0, 0, 0, 255, 0, 0, 0]) wS ∧ okSynConfigRunning (cmdOf 0x0209 (wE [9, 0, 1, 20, 0, 4, 0, 0, 1, 0, 0, 0, 255, 0, 0, 0]) wS) (entered 0x0209 (wE [9, 0, 1, 20, 0, 4, 0, 0, 1, 0, 0, 0, 255, 0, 0, 0]) wS) := by decide +kernel
theorem witness_synConfigIdle : Served 0x0209 (wE [3, 1, 1, 20, 0, 4, 0, 0, 1, 0, 0, 0, 255, 0, 0, 0]) (modSyn 3 (fun y => { y with state := .locked }) wS) ∧ okSynConfigIdle (cmdOf 0x0209 (wE [3, 1, 1, 20, 0, 4, 0, 0, 1, 0, 0, 0, 255, 0, 0, 0]) (modSyn 3 (fun y => { y with state := .locked }) wS)) (entered 0x0209 (wE [3, 1, 1, 20, 0, 4, 0, 0, 1, 0, 0, 0, 255, 0, 0, 0]) (modSyn 3 (fun y => { y with state := .locked }) wS)) := by decide +kernel
theorem witness_synConfigOff : Served 0x0209 (wE [3, 1, 1, 20, 0, 4, 0, 0, 1, 0, 0, 0, 255, 0, 0, 0]) wS ∧ okSynConfigOff (cmdOf 0x0209 (wE [3, 1, 1, 20, 0, 4, 0, 0, 1, 0, 0, 0, 255, 0, 0, 0]) wS) (entered 0x0209 (wE [3, 1, 1, 20, 0, 4, 0, 0, 1, 0, 0, 0, 255, 0, 0, 0]) wS) := by decide +kernel
theorem witness_synConfigDrive : Served 0x0209 (wE [8, 0, 1, 20, 0, 4, 0, 0, 1, 0, 0, 0, 255, 0, 0, 0]) { wS with time := { wS.time with cap := { wS.time.cap with mode := { wS.time.cap.mode with drive := true } } } } ∧ okSynConfigDrive (cmdOf 0x0209 (wE [8, 0, 1, 20, 0, 4, 0, 0, 1, 0, 0, 0, 255, 0, 0, 0]) { wS with time := { wS.time with cap := { wS.time.cap with mode := { wS.time.cap.mode with drive := true } } } }) (entered 0x0209 (wE [8, 0, 1, 20, 0, 4, 0, 0, 1, 0, 0, 0, 255, 0, 0, 0]) { wS with time := { wS.time with cap := { wS.time.cap with mode := { wS.time.cap.mode with drive := true } } } }) := by decide +kernel
theorem witness_synConfigFollow : Served 0x0209 (wE [8, 0, 1, 20, 0, 4, 0, 0, 1, 0, 0, 0, 255, 0, 0, 0]) (modSyn 8 (fun y => { y with state := .locked }) wS) ∧ okSynConfigFollow (cmdOf 0x0209 (wE [8, 0, 1, 20, 0, 4, 0, 0, 1, 0, 0, 0, 255, 0, 0, 0]) (modSyn 8 (fun y => { y with state := .locked }) wS)) (entered 0x0209 (wE [8, 0, 1, 20, 0, 4, 0, 0, 1, 0, 0, 0, 255, 0, 0, 0]) (modSyn 8 (fun y => { y with state := .locked }) wS)) := by decide +kernel
theorem witness_synCacheFill : Served 0x020A (wE [0, 2, 0, 0, 136, 19, 0, 0, 16, 39, 0, 0]) wS ∧ okSynCacheFill (cmdOf 0x020A (wE [0, 2, 0, 0, 136, 19, 0, 0, 16, 39, 0, 0]) wS) (entered 0x020A (wE [0, 2, 0, 0, 136, 19, 0, 0, 16, 39, 0, 0]) wS) := by decide +kernel
theorem witness_synCacheFillOne : Served 0x020A (wE [0, 1, 0, 0, 136, 19, 0, 0]) wS ∧ okSynCacheFillOne (cmdOf 0x020A (wE [0, 1, 0, 0, 136, 19, 0, 0]) wS) (entered 0x020A (wE [0, 1, 0, 0, 136, 19, 0, 0]) wS) := by decide +kernel
theorem witness_captureRampLoad : Served 0x020B (wE [1, 0, 0, 0, 0, 40, 107, 238, 0, 135, 147, 3]) wS ∧ okCaptureRampLoad (cmdOf 0x020B (wE [1, 0, 0, 0, 0, 40, 107, 238, 0, 135, 147, 3]) wS) (entered 0x020B (wE [1, 0, 0, 0, 0, 40, 107, 238, 0, 135, 147, 3]) wS) := by decide +kernel
theorem witness_captureRampStart : Served 0x020C (wE [0, 0, 0, 0, 0, 0, 0, 0, 1, 0, 0, 0, 0, 0, 0, 0]) { wS with time := { wS.time with cap := { wS.time.cap with mode := { drive := true, lines := 2200, num := 24 } }, ramp := { wS.time.ramp with profile := [{ endRate := 24000000, duration := 1 }] } } } ∧ okCaptureRampStart (cmdOf 0x020C (wE [0, 0, 0, 0, 0, 0, 0, 0, 1, 0, 0, 0, 0, 0, 0, 0]) { wS with time := { wS.time with cap := { wS.time.cap with mode := { drive := true, lines := 2200, num := 24 } }, ramp := { wS.time.ramp with profile := [{ endRate := 24000000, duration := 1 }] } } }) (entered 0x020C (wE [0, 0, 0, 0, 0, 0, 0, 0, 1, 0, 0, 0, 0, 0, 0, 0]) { wS with time := { wS.time with cap := { wS.time.cap with mode := { drive := true, lines := 2200, num := 24 } }, ramp := { wS.time.ramp with profile := [{ endRate := 24000000, duration := 1 }] } } }) := by decide +kernel
theorem witness_captureRampFreeze : Served 0x020C (wE [1, 0, 0, 0, 0, 0, 0, 0, 0, 0, 0, 0, 0, 0, 0, 0]) { wS with time := { wS.time with ramp := { wS.time.ramp with run := some { segs := [] } } } } ∧ okCaptureRampFreeze (cmdOf 0x020C (wE [1, 0, 0, 0, 0, 0, 0, 0, 0, 0, 0, 0, 0, 0, 0, 0]) { wS with time := { wS.time with ramp := { wS.time.ramp with run := some { segs := [] } } } }) (entered 0x020C (wE [1, 0, 0, 0, 0, 0, 0, 0, 0, 0, 0, 0, 0, 0, 0, 0]) { wS with time := { wS.time with ramp := { wS.time.ramp with run := some { segs := [] } } } }) { segs := [] } := by decide +kernel
theorem witness_evtSlotSetNow : Served 0x0301 (wE [191, 15, 1, 1, 0, 1, 3, 15, 0, 0, 0, 0, 0, 0, 0, 0, 100, 4, 0, 0, 0, 0, 0, 0, 0, 0, 0, 0, 0, 0, 0, 0]) wS ∧ okEvtSlotSetNow (cmdOf 0x0301 (wE [191, 15, 1, 1, 0, 1, 3, 15, 0, 0, 0, 0, 0, 0, 0, 0, 100, 4, 0, 0, 0, 0, 0, 0, 0, 0, 0, 0, 0, 0, 0, 0]) wS) (entered 0x0301 (wE [191, 15, 1, 1, 0, 1, 3, 15, 0, 0, 0, 0, 0, 0, 0, 0, 100, 4, 0, 0, 0, 0, 0, 0, 0, 0, 0, 0, 0, 0, 0, 0]) wS) := by decide +kernel
theorem witness_evtSlotSetArmed : Served 0x0301 (wE [191, 15, 1, 1, 0, 1, 3, 15, 0, 0, 0, 0, 0, 0, 0, 0, 100, 4, 0, 0, 0, 0, 0, 0, 0, 0, 0, 0, 0, 0, 0, 0]) (modSlot 4031 (fun x => { x with armed := some {} }) wS) ∧ okEvtSlotSetArmed (cmdOf 0x0301 (wE [191, 15, 1, 1, 0, 1, 3, 15, 0, 0, 0, 0, 0, 0, 0, 0, 100, 4, 0, 0, 0, 0, 0, 0, 0, 0, 0, 0, 0, 0, 0, 0]) (modSlot 4031 (fun x => { x with armed := some {} }) wS)) (entered 0x0301 (wE [191, 15, 1, 1, 0, 1, 3, 15, 0, 0, 0, 0, 0, 0, 0, 0, 100, 4, 0, 0, 0, 0, 0, 0, 0, 0, 0, 0, 0, 0, 0, 0]) (modSlot 4031 (fun x => { x with armed := some {} }) wS)) := by decide +kernel
theorem witness_evtSlotGet : Served 0x0302 (wE [255, 15]) wS ∧ okEvtSlotGet (cmdOf 0x0302 (wE [255, 15]) wS) (entered 0x0302 (wE [255, 15]) wS) := by decide +kernel
theorem witness_evoConfig : Served 0x0303 (wE [15, 3, 128, 0]) wS ∧ okEvoConfig (cmdOf 0x0303 (wE [15, 3, 128, 0]) wS) (entered 0x0303 (wE [15, 3, 128, 0]) wS) := by decide +kernel
theorem witness_eviConfig : Served 0x0304 (wE [15, 3, 255, 1]) wS ∧ okEviConfig (cmdOf 0x0304 (wE [15, 3, 255, 1]) wS) (entered 0x0304 (wE [15, 3, 255, 1]) wS) := by decide +kernel
theorem witness_fsInfo : Served 0x0401 (wE []) wS := by decide +kernel
theorem witness_fsPolicySet : Served 0x0402 (wE [160, 15, 232, 3, 168, 1, 255, 255]) wS ∧ okFsPolicySet (cmdOf 0x0402 (wE [160, 15, 232, 3, 168, 1, 255, 255]) wS) (entered 0x0402 (wE [160, 15, 232, 3, 168, 1, 255, 255]) wS) := by decide +kernel
theorem witness_fsFillLong : Served 0x0403 (wE [0, 0, 128, 0, 0, 0, 0, 0, 0, 0, 1, 64, 0, 0, 0, 0, 0, 0, 0, 0, 0, 0, 0, 0]) { wS with fs := { wS.fs with fillDone := true } } ∧ okFsFillLong (cmdOf 0x0403 (wE [0, 0, 128, 0, 0, 0, 0, 0, 0, 0, 1, 64, 0, 0, 0, 0, 0, 0, 0, 0, 0, 0, 0, 0]) { wS with fs := { wS.fs with fillDone := true } }) (entered 0x0403 (wE [0, 0, 128, 0, 0, 0, 0, 0, 0, 0, 1, 64, 0, 0, 0, 0, 0, 0, 0, 0, 0, 0, 0, 0]) { wS with fs := { wS.fs with fillDone := true } }) := by decide +kernel
theorem witness_fsFillShort : Served 0x0403 (wE [0, 0, 128, 0, 0, 0, 0, 0, 0, 0, 1, 0, 0, 0, 0, 0, 0, 0, 0, 0, 0, 0, 0, 0]) { wS with fs := { wS.fs with fillDone := true } } ∧ okFsFillShort (cmdOf 0x0403 (wE [0, 0, 128, 0, 0, 0, 0, 0, 0, 0, 1, 0, 0, 0, 0, 0, 0, 0, 0, 0, 0, 0, 0, 0]) { wS with fs := { wS.fs with fillDone := true } }) (entered 0x0403 (wE [0, 0, 128, 0, 0, 0, 0, 0, 0, 0, 1, 0, 0, 0, 0, 0, 0, 0, 0, 0, 0, 0, 0, 0]) { wS with fs := { wS.fs with fillDone := true } }) := by decide +kernel
theorem witness_fsPatrolReport : Served 0x0404 (wE [0, 16, 0, 0, 0, 0, 0, 0, 16, 0, 0, 0, 0, 0, 0, 0]) { wS with host := { wS.host with linkUp := true, busMaster := true }, fs := { wS.fs with patrol := { wS.fs.patrol with lost := 3, log := [{ fsa := 64 }, { fsa := 128 }] } } } ∧ okFsPatrolReport (cmdOf 0x0404 (wE [0, 16, 0, 0, 0, 0, 0, 0, 16, 0, 0, 0, 0, 0, 0, 0]) { wS with host := { wS.host with linkUp := true, busMaster := true }, fs := { wS.fs with patrol := { wS.fs.patrol with lost := 3, log := [{ fsa := 64 }, { fsa := 128 }] } } }) (entered 0x0404 (wE [0, 16, 0, 0, 0, 0, 0, 0, 16, 0, 0, 0, 0, 0, 0, 0]) { wS with host := { wS.host with linkUp := true, busMaster := true }, fs := { wS.fs with patrol := { wS.fs.patrol with lost := 3, log := [{ fsa := 64 }, { fsa := 128 }] } } }) := by decide +kernel
theorem witness_fsChannelRetire : Served 0x0405 (wE [15, 0, 0, 0]) { wS with fs := { wS.fs with fillDone := true, up := true, cfg := { wS.fs.cfg with reserve := true } } } ∧ okFsChannelRetire (cmdOf 0x0405 (wE [15, 0, 0, 0]) { wS with fs := { wS.fs with fillDone := true, up := true, cfg := { wS.fs.cfg with reserve := true } } }) (entered 0x0405 (wE [15, 0, 0, 0]) { wS with fs := { wS.fs with fillDone := true, up := true, cfg := { wS.fs.cfg with reserve := true } } }) := by decide +kernel
set_option maxRecDepth 100000 in
theorem witness_ledgerPoolCreate : Served 0x0410 (wE [0, 0, 128, 0, 0, 0, 0, 0, 0, 16, 0, 0, 2, 0, 0, 1, 1, 0, 65, 0, 0, 1, 0, 0]) { wS with fs := { wS.fs with fillDone := true } } ∧ okLedgerPoolCreate (cmdOf 0x0410 (wE [0, 0, 128, 0, 0, 0, 0, 0, 0, 16, 0, 0, 2, 0, 0, 1, 1, 0, 65, 0, 0, 1, 0, 0]) { wS with fs := { wS.fs with fillDone := true } }) (entered 0x0410 (wE [0, 0, 128, 0, 0, 0, 0, 0, 0, 16, 0, 0, 2, 0, 0, 1, 1, 0, 65, 0, 0, 1, 0, 0]) { wS with fs := { wS.fs with fillDone := true } }) 0 0 := by decide +kernel
theorem witness_ledgerPoolDelete : Served 0x0411 (wE [0, 0, 0, 0]) (modPool 0 (fun _ => { used := true, base := 8388608, size := 4096, count := 2, keep := 1, lines := 1, format := 1, stride := 256 }) wS) ∧ okLedgerPoolDelete (cmdOf 0x0411 (wE [0, 0, 0, 0]) (modPool 0 (fun _ => { used := true, base := 8388608, size := 4096, count := 2, keep := 1, lines := 1, format := 1, stride := 256 }) wS)) (entered 0x0411 (wE [0, 0, 0, 0]) (modPool 0 (fun _ => { used := true, base := 8388608, size := 4096, count := 2, keep := 1, lines := 1, format := 1, stride := 256 }) wS)) := by decide +kernel
theorem witness_ledgerOpAcquire : Served 0x0412 (wE [0, 0, 0, 0, 0, 0, 0, 0, 0, 0, 0, 0, 0, 0, 0, 0, 0, 0, 0, 0, 0, 0, 0, 0, 0, 0, 0, 0]) (modPool 0 (fun _ => { used := true, base := 8388608, size := 4096, count := 2, keep := 1, lines := 4, format := 1, stride := 256 }) wS) ∧ okLedgerOpAcquire (cmdOf 0x0412 (wE [0, 0, 0, 0, 0, 0, 0, 0, 0, 0, 0, 0, 0, 0, 0, 0, 0, 0, 0, 0, 0, 0, 0, 0, 0, 0, 0, 0]) (modPool 0 (fun _ => { used := true, base := 8388608, size := 4096, count := 2, keep := 1, lines := 4, format := 1, stride := 256 }) wS)) (entered 0x0412 (wE [0, 0, 0, 0, 0, 0, 0, 0, 0, 0, 0, 0, 0, 0, 0, 0, 0, 0, 0, 0, 0, 0, 0, 0, 0, 0, 0, 0]) (modPool 0 (fun _ => { used := true, base := 8388608, size := 4096, count := 2, keep := 1, lines := 4, format := 1, stride := 256 }) wS)) 0 := by decide +kernel
theorem witness_ledgerOpPublish : Served 0x0412 (wE [1, 0, 1, 0, 0, 0, 4, 0, 9, 0, 0, 0, 0, 0, 0, 0, 0, 0, 0, 0, 0, 0, 0, 0, 255, 201, 154, 59]) (modBuf 1 (fun b => { b with state := .owned, owner := 14336 }) (modPool 0 (fun _ => { used := true, base := 8388608, size := 4096, count := 2, keep := 1, lines := 4, format := 1, stride := 256 }) wS)) ∧ okLedgerOpPublish (cmdOf 0x0412 (wE [1, 0, 1, 0, 0, 0, 4, 0, 9, 0, 0, 0, 0, 0, 0, 0, 0, 0, 0, 0, 0, 0, 0, 0, 255, 201, 154, 59]) (modBuf 1 (fun b => { b with state := .owned, owner := 14336 }) (modPool 0 (fun _ => { used := true, base := 8388608, size := 4096, count := 2, keep := 1, lines := 4, format := 1, stride := 256 }) wS))) (entered 0x0412 (wE [1, 0, 1, 0, 0, 0, 4, 0, 9, 0, 0, 0, 0, 0, 0, 0, 0, 0, 0, 0, 0, 0, 0, 0, 255, 201, 154, 59]) (modBuf 1 (fun b => { b with state := .owned, owner := 14336 }) (modPool 0 (fun _ => { used := true, base := 8388608, size := 4096, count := 2, keep := 1, lines := 4, format := 1, stride := 256 }) wS))) 0 := by decide +kernel
theorem witness_ledgerOpDiscard : Served 0x0412 (wE [2, 0, 1, 0, 0, 0, 0, 0, 0, 0, 0, 0, 0, 0, 0, 0, 0, 0, 0, 0, 0, 0, 0, 0, 0, 0, 0, 0]) (modBuf 1 (fun b => { b with state := .owned, owner := 14336 }) (modPool 0 (fun _ => { used := true, base := 8388608, size := 4096, count := 2, keep := 1, lines := 4, format := 1, stride := 256 }) wS)) ∧ okLedgerOpDiscard (cmdOf 0x0412 (wE [2, 0, 1, 0, 0, 0, 0, 0, 0, 0, 0, 0, 0, 0, 0, 0, 0, 0, 0, 0, 0, 0, 0, 0, 0, 0, 0, 0]) (modBuf 1 (fun b => { b with state := .owned, owner := 14336 }) (modPool 0 (fun _ => { used := true, base := 8388608, size := 4096, count := 2, keep := 1, lines := 4, format := 1, stride := 256 }) wS))) (entered 0x0412 (wE [2, 0, 1, 0, 0, 0, 0, 0, 0, 0, 0, 0, 0, 0, 0, 0, 0, 0, 0, 0, 0, 0, 0, 0, 0, 0, 0, 0]) (modBuf 1 (fun b => { b with state := .owned, owner := 14336 }) (modPool 0 (fun _ => { used := true, base := 8388608, size := 4096, count := 2, keep := 1, lines := 4, format := 1, stride := 256 }) wS))) := by decide +kernel
theorem witness_ledgerOpTake : Served 0x0412 (wE [3, 0, 1, 0, 0, 0, 0, 0, 0, 0, 0, 0, 0, 0, 0, 0, 0, 0, 0, 0, 0, 0, 0, 0, 0, 0, 0, 0]) (modBuf 1 (fun b => { b with state := .published }) (modPool 0 (fun _ => { used := true, base := 8388608, size := 4096, count := 2, keep := 1, lines := 4, format := 1, stride := 256 }) wS)) ∧ okLedgerOpTake (cmdOf 0x0412 (wE [3, 0, 1, 0, 0, 0, 0, 0, 0, 0, 0, 0, 0, 0, 0, 0, 0, 0, 0, 0, 0, 0, 0, 0, 0, 0, 0, 0]) (modBuf 1 (fun b => { b with state := .published }) (modPool 0 (fun _ => { used := true, base := 8388608, size := 4096, count := 2, keep := 1, lines := 4, format := 1, stride := 256 }) wS))) (entered 0x0412 (wE [3, 0, 1, 0, 0, 0, 0, 0, 0, 0, 0, 0, 0, 0, 0, 0, 0, 0, 0, 0, 0, 0, 0, 0, 0, 0, 0, 0]) (modBuf 1 (fun b => { b with state := .published }) (modPool 0 (fun _ => { used := true, base := 8388608, size := 4096, count := 2, keep := 1, lines := 4, format := 1, stride := 256 }) wS))) := by decide +kernel
theorem witness_ledgerOpRelease : Served 0x0412 (wE [4, 0, 1, 0, 0, 0, 0, 0, 0, 0, 0, 0, 0, 0, 0, 0, 0, 0, 0, 0, 0, 0, 0, 0, 0, 0, 0, 0]) { (modBuf 1 (fun b => { b with state := .published }) (modPool 0 (fun _ => { used := true, base := 8388608, size := 4096, count := 2, keep := 1, lines := 4, format := 1, stride := 256 }) wS)) with ledger := { (modBuf 1 (fun b => { b with state := .published }) (modPool 0 (fun _ => { used := true, base := 8388608, size := 4096, count := 2, keep := 1, lines := 4, format := 1, stride := 256 }) wS)).ledger with refs := [{ buf := 1, token := 14336 }] } } ∧ okLedgerOpRelease (cmdOf 0x0412 (wE [4, 0, 1, 0, 0, 0, 0, 0, 0, 0, 0, 0, 0, 0, 0, 0, 0, 0, 0, 0, 0, 0, 0, 0, 0, 0, 0, 0]) { (modBuf 1 (fun b => { b with state := .published }) (modPool 0 (fun _ => { used := true, base := 8388608, size := 4096, count := 2, keep := 1, lines := 4, format := 1, stride := 256 }) wS)) with ledger := { (modBuf 1 (fun b => { b with state := .published }) (modPool 0 (fun _ => { used := true, base := 8388608, size := 4096, count := 2, keep := 1, lines := 4, format := 1, stride := 256 }) wS)).ledger with refs := [{ buf := 1, token := 14336 }] } }) (entered 0x0412 (wE [4, 0, 1, 0, 0, 0, 0, 0, 0, 0, 0, 0, 0, 0, 0, 0, 0, 0, 0, 0, 0, 0, 0, 0, 0, 0, 0, 0]) { (modBuf 1 (fun b => { b with state := .published }) (modPool 0 (fun _ => { used := true, base := 8388608, size := 4096, count := 2, keep := 1, lines := 4, format := 1, stride := 256 }) wS)) with ledger := { (modBuf 1 (fun b => { b with state := .published }) (modPool 0 (fun _ => { used := true, base := 8388608, size := 4096, count := 2, keep := 1, lines := 4, format := 1, stride := 256 }) wS)).ledger with refs := [{ buf := 1, token := 14336 }] } }) := by decide +kernel
theorem witness_ledgerDescGet : Served 0x0413 (wE [255, 15]) wS ∧ okLedgerDescGet (cmdOf 0x0413 (wE [255, 15]) wS) (entered 0x0413 (wE [255, 15]) wS) := by decide +kernel
theorem witness_ingestStreamEnable : Served 0x0501 (wE [3, 1, 0, 0, 2, 0, 0, 0, 0, 0, 0, 0, 232, 3, 0, 0]) (modMac 0 (fun m => { m with enabled := true, cfg := { m.cfg with role := 1 } }) (modPool 0 (fun _ => { used := true, base := 8388608, size := 4096, count := 2, keep := 1, lines := 4, format := 1, stride := 256 }) wS)) ∧ okIngestStreamEnable (cmdOf 0x0501 (wE [3, 1, 0, 0, 2, 0, 0, 0, 0, 0, 0, 0, 232, 3, 0, 0]) (modMac 0 (fun m => { m with enabled := true, cfg := { m.cfg with role := 1 } }) (modPool 0 (fun _ => { used := true, base := 8388608, size := 4096, count := 2, keep := 1, lines := 4, format := 1, stride := 256 }) wS))) (entered 0x0501 (wE [3, 1, 0, 0, 2, 0, 0, 0, 0, 0, 0, 0, 232, 3, 0, 0]) (modMac 0 (fun m => { m with enabled := true, cfg := { m.cfg with role := 1 } }) (modPool 0 (fun _ => { used := true, base := 8388608, size := 4096, count := 2, keep := 1, lines := 4, format := 1, stride := 256 }) wS))) := by decide +kernel
theorem witness_ingestStreamDisable : Served 0x0501 (wE [3, 0, 0, 0, 0, 0, 0, 0, 0, 0, 0, 0, 0, 0, 0, 0]) (modIn 3 (fun x => { x with enabled := true }) wS) ∧ okIngestStreamDisable (cmdOf 0x0501 (wE [3, 0, 0, 0, 0, 0, 0, 0, 0, 0, 0, 0, 0, 0, 0, 0]) (modIn 3 (fun x => { x with enabled := true }) wS)) (entered 0x0501 (wE [3, 0, 0, 0, 0, 0, 0, 0, 0, 0, 0, 0, 0, 0, 0, 0]) (modIn 3 (fun x => { x with enabled := true }) wS)) := by decide +kernel
theorem witness_ingestStreamResetAgain : Served 0x0501 (wE [3, 0, 0, 0, 0, 0, 0, 0, 0, 0, 0, 0, 0, 0, 0, 0]) wS ∧ okIngestStreamResetAgain (cmdOf 0x0501 (wE [3, 0, 0, 0, 0, 0, 0, 0, 0, 0, 0, 0, 0, 0, 0, 0]) wS) (entered 0x0501 (wE [3, 0, 0, 0, 0, 0, 0, 0, 0, 0, 0, 0, 0, 0, 0, 0]) wS) := by decide +kernel
theorem witness_ingestStreamGet : Served 0x0502 (wE [3, 0, 0, 0]) wS ∧ okIngestStreamGet (cmdOf 0x0502 (wE [3, 0, 0, 0]) wS) (entered 0x0502 (wE [3, 0, 0, 0]) wS) := by decide +kernel
theorem witness_sysNop : Served 0x0101 (wE [1, 2, 3, 4, 5, 6, 7, 8, 9, 10, 11, 12, 13, 14, 15, 16]) wS ∧ okSysNop (cmdOf 0x0101 (wE [1, 2, 3, 4, 5, 6, 7, 8, 9, 10, 11, 12, 13, 14, 15, 16]) wS) (entered 0x0101 (wE [1, 2, 3, 4, 5, 6, 7, 8, 9, 10, 11, 12, 13, 14, 15, 16]) wS) := by decide +kernel
theorem witness_headConfigReport : Served 0x0606 (wE [7, 1, 0, 0, 32, 2, 0, 0, 0, 16, 0, 0, 0, 0, 0, 0]) { wS with host := { wS.host with linkUp := true, busMaster := true } } ∧ okHeadConfigReport (cmdOf 0x0606 (wE [7, 1, 0, 0, 32, 2, 0, 0, 0, 16, 0, 0, 0, 0, 0, 0]) { wS with host := { wS.host with linkUp := true, busMaster := true } }) (entered 0x0606 (wE [7, 1, 0, 0, 32, 2, 0, 0, 0, 16, 0, 0, 0, 0, 0, 0]) { wS with host := { wS.host with linkUp := true, busMaster := true } }) := by decide +kernel
theorem witness_diagCoreInfo : Served 0x0E03 (wE []) wS := by decide +kernel
theorem witness_faultLogRead : Served 0x0E01 (wE [0, 16, 0, 0, 0, 0, 0, 0, 16, 0, 0, 0, 0, 0, 0, 0]) { { wS with host := { wS.host with linkUp := true, busMaster := true } } with rel := { wS.rel with lost := 2, log := [{ kind := 1 }, { kind := 2 }] } } ∧ okFaultLogRead (cmdOf 0x0E01 (wE [0, 16, 0, 0, 0, 0, 0, 0, 16, 0, 0, 0, 0, 0, 0, 0]) { { wS with host := { wS.host with linkUp := true, busMaster := true } } with rel := { wS.rel with lost := 2, log := [{ kind := 1 }, { kind := 2 }] } }) (entered 0x0E01 (wE [0, 16, 0, 0, 0, 0, 0, 0, 16, 0, 0, 0, 0, 0, 0, 0]) { { wS with host := { wS.host with linkUp := true, busMaster := true } } with rel := { wS.rel with lost := 2, log := [{ kind := 1 }, { kind := 2 }] } }) := by decide +kernel
theorem witness_faultRecover : Served 0x0E02 (wE [11, 0, 0, 0]) (modSyn 11 (fun y => { y with state := .failed }) wS) ∧ okFaultRecover (cmdOf 0x0E02 (wE [11, 0, 0, 0]) (modSyn 11 (fun y => { y with state := .failed }) wS)) (entered 0x0E02 (wE [11, 0, 0, 0]) (modSyn 11 (fun y => { y with state := .failed }) wS)) := by decide +kernel
theorem witness_diagFsRawRead : Served 0x0E04 (wE [15, 0, 0, 0, 232, 3, 0, 0, 0, 16, 0, 0, 0, 0, 0, 0]) { { wS with host := { wS.host with linkUp := true, busMaster := true } } with fs := { wS.fs with fillDone := true, cfg := { wS.fs.cfg with reserve := true } } } ∧ okDiagFsRawRead (cmdOf 0x0E04 (wE [15, 0, 0, 0, 232, 3, 0, 0, 0, 16, 0, 0, 0, 0, 0, 0]) { { wS with host := { wS.host with linkUp := true, busMaster := true } } with fs := { wS.fs with fillDone := true, cfg := { wS.fs.cfg with reserve := true } } }) (entered 0x0E04 (wE [15, 0, 0, 0, 232, 3, 0, 0, 0, 16, 0, 0, 0, 0, 0, 0]) { { wS with host := { wS.host with linkUp := true, busMaster := true } } with fs := { wS.fs with fillDone := true, cfg := { wS.fs.cfg with reserve := true } } }) := by decide +kernel
theorem witness_diagFsRawWrite : Served 0x0E04 (wE [15, 1, 0, 0, 232, 3, 0, 0, 0, 16, 0, 0, 0, 0, 0, 0]) { { wS with host := { wS.host with linkUp := true, busMaster := true } } with fs := { wS.fs with fillDone := true, cfg := { wS.fs.cfg with reserve := true } } } ∧ okDiagFsRawWrite (cmdOf 0x0E04 (wE [15, 1, 0, 0, 232, 3, 0, 0, 0, 16, 0, 0, 0, 0, 0, 0]) { { wS with host := { wS.host with linkUp := true, busMaster := true } } with fs := { wS.fs with fillDone := true, cfg := { wS.fs.cfg with reserve := true } } }) (entered 0x0E04 (wE [15, 1, 0, 0, 232, 3, 0, 0, 0, 16, 0, 0, 0, 0, 0, 0]) { { wS with host := { wS.host with linkUp := true, busMaster := true } } with fs := { wS.fs with fillDone := true, cfg := { wS.fs.cfg with reserve := true } } }) := by decide +kernel
theorem witness_rawLine : 131072 ≤ 131072 ∧ (List.replicate 64 (0 : Byte)).length = 64 ∧ 5 < 2 ^ 32 := by decide +kernel
theorem witness_availClear : Served 0x0E05 (wE [255, 255, 255, 3]) wS ∧ okAvailClear (cmdOf 0x0E05 (wE [255, 255, 255, 3]) wS) (entered 0x0E05 (wE [255, 255, 255, 3]) wS) := by decide +kernel
theorem witness_fwInfo : Served 0x0F01 (wE []) wS := by decide +kernel
theorem witness_fwUpdate : Served 0x0F02 (wE [1, 0, 0, 0, 16, 2, 0, 0, 0, 16, 0, 0, 0, 0, 0, 0]) { wS with host := { wS.host with linkUp := true, busMaster := true } } ∧ okFwUpdate (cmdOf 0x0F02 (wE [1, 0, 0, 0, 16, 2, 0, 0, 0, 16, 0, 0, 0, 0, 0, 0]) { wS with host := { wS.host with linkUp := true, busMaster := true } }) (entered 0x0F02 (wE [1, 0, 0, 0, 16, 2, 0, 0, 0, 16, 0, 0, 0, 0, 0, 0]) { wS with host := { wS.host with linkUp := true, busMaster := true } }) := by decide +kernel
theorem witness_fwConfirmDrop : Served 0x0F03 (wE [1, 0, 0, 0]) wS ∧ okFwConfirmDrop (cmdOf 0x0F03 (wE [1, 0, 0, 0]) wS) (entered 0x0F03 (wE [1, 0, 0, 0]) wS) := by decide +kernel
theorem witness_fwConfirmKeep : Served 0x0F03 (wE [0, 1, 0, 0]) { wS with boot := { wS.boot with trial := true, slot := 1, svn := 3 } } ∧ okFwConfirmKeep (cmdOf 0x0F03 (wE [0, 1, 0, 0]) { wS with boot := { wS.boot with trial := true, slot := 1, svn := 3 } }) (entered 0x0F03 (wE [0, 1, 0, 0]) { wS with boot := { wS.boot with trial := true, slot := 1, svn := 3 } }) := by decide +kernel
theorem witness_secFuseDebug : Served 0x0F04 (wE [1, 0, 0, 0]) wS ∧ okSecFuseDebug (cmdOf 0x0F04 (wE [1, 0, 0, 0]) wS) (entered 0x0F04 (wE [1, 0, 0, 0]) wS) := by decide +kernel
theorem witness_secFuseRevoke : Served 0x0F04 (wE [4, 0, 0, 0]) (modBoot (fun b => { b with flash := (List.range 4).map (fun i => (slotBase 0 + 12 + i, 0xFF#8)) }) wS) ∧ okSecFuseRevoke (cmdOf 0x0F04 (wE [4, 0, 0, 0]) (modBoot (fun b => { b with flash := (List.range 4).map (fun i => (slotBase 0 + 12 + i, 0xFF#8)) }) wS)) (entered 0x0F04 (wE [4, 0, 0, 0]) (modBoot (fun b => { b with flash := (List.range 4).map (fun i => (slotBase 0 + 12 + i, 0xFF#8)) }) wS)) := by decide +kernel
set_option maxRecDepth 100000 in
theorem witness_secFuseKey : Served 0x0F04 (wE [2, 0, 0, 0, 0, 1, 2, 3, 4, 5, 6, 7, 8, 9, 10, 11, 12, 13, 14, 15, 16, 17, 18, 19, 20, 21, 22, 23, 24, 25, 26, 27, 28, 29, 30, 31, 32, 33, 34, 35, 36, 37, 38, 39, 40, 41, 42, 43, 44, 45, 46, 47]) wS ∧ okSecFuseKey (cmdOf 0x0F04 (wE [2, 0, 0, 0, 0, 1, 2, 3, 4, 5, 6, 7, 8, 9, 10, 11, 12, 13, 14, 15, 16, 17, 18, 19, 20, 21, 22, 23, 24, 25, 26, 27, 28, 29, 30, 31, 32, 33, 34, 35, 36, 37, 38, 39, 40, 41, 42, 43, 44, 45, 46, 47]) wS) (entered 0x0F04 (wE [2, 0, 0, 0, 0, 1, 2, 3, 4, 5, 6, 7, 8, 9, 10, 11, 12, 13, 14, 15, 16, 17, 18, 19, 20, 21, 22, 23, 24, 25, 26, 27, 28, 29, 30, 31, 32, 33, 34, 35, 36, 37, 38, 39, 40, 41, 42, 43, 44, 45, 46, 47]) wS) := by decide +kernel
theorem witness_layerSourceNone : Served 0x0611 (wE [63, 0, 1, 0, 0, 0, 0, 0, 0, 0, 0, 0, 0, 0, 0, 0, 0, 0, 0, 0]) wS ∧ okLayerSourceNone (cmdOf 0x0611 (wE [63, 0, 1, 0, 0, 0, 0, 0, 0, 0, 0, 0, 0, 0, 0, 0, 0, 0, 0, 0]) wS) (entered 0x0611 (wE [63, 0, 1, 0, 0, 0, 0, 0, 0, 0, 0, 0, 0, 0, 0, 0, 0, 0, 0, 0]) wS) := by decide +kernel
theorem witness_layerSourceBuffer : Served 0x0611 (wE [63, 1, 1, 0, 8, 0, 0, 0, 0, 0, 0, 0, 64, 0, 32, 0, 0, 0, 0, 0]) (modBuf 8 (fun b => { b with state := .published }) (modPool 3 (fun _ => { used := true, base := 8388608, size := 65536, count := 2, keep := 1, lines := 32, format := 0x41, stride := 1024, first := 7 }) wS)) ∧ okLayerSourceBuffer (cmdOf 0x0611 (wE [63, 1, 1, 0, 8, 0, 0, 0, 0, 0, 0, 0, 64, 0, 32, 0, 0, 0, 0, 0]) (modBuf 8 (fun b => { b with state := .published }) (modPool 3 (fun _ => { used := true, base := 8388608, size := 65536, count := 2, keep := 1, lines := 32, format := 0x41, stride := 1024, first := 7 }) wS))) (entered 0x0611 (wE [63, 1, 1, 0, 8, 0, 0, 0, 0, 0, 0, 0, 64, 0, 32, 0, 0, 0, 0, 0]) (modBuf 8 (fun b => { b with state := .published }) (modPool 3 (fun _ => { used := true, base := 8388608, size := 65536, count := 2, keep := 1, lines := 32, format := 0x41, stride := 1024, first := 7 }) wS))) 3 := by decide +kernel
theorem witness_layerSourcePool : Served 0x0611 (wE [16, 2, 1, 0, 0, 0, 3, 0, 0, 0, 0, 0, 64, 0, 32, 0, 0, 0, 0, 0]) (modPool 3 (fun _ => { used := true, base := 8388608, size := 65536, count := 2, keep := 1, lines := 32, format := 0x41, stride := 1024, first := 7 }) wS) ∧ okLayerSourcePool (cmdOf 0x0611 (wE [16, 2, 1, 0, 0, 0, 3, 0, 0, 0, 0, 0, 64, 0, 32, 0, 0, 0, 0, 0]) (modPool 3 (fun _ => { used := true, base := 8388608, size := 65536, count := 2, keep := 1, lines := 32, format := 0x41, stride := 1024, first := 7 }) wS)) (entered 0x0611 (wE [16, 2, 1, 0, 0, 0, 3, 0, 0, 0, 0, 0, 64, 0, 32, 0, 0, 0, 0, 0]) (modPool 3 (fun _ => { used := true, base := 8388608, size := 65536, count := 2, keep := 1, lines := 32, format := 0x41, stride := 1024, first := 7 }) wS)) := by decide +kernel
theorem witness_layerGeometrySet : Served 0x0612 (wE [15, 0, 0, 192, 255, 63, 0, 32, 1, 0, 0, 0]) wS ∧ okLayerGeometrySet (cmdOf 0x0612 (wE [15, 0, 0, 192, 255, 63, 0, 32, 1, 0, 0, 0]) wS) (entered 0x0612 (wE [15, 0, 0, 192, 255, 63, 0, 32, 1, 0, 0, 0]) wS) := by decide +kernel
theorem witness_layerPaletteSet : Served 0x0613 (wE [16, 255, 1, 0, 7, 0, 0, 0]) wS ∧ okLayerPaletteSet (cmdOf 0x0613 (wE [16, 255, 1, 0, 7, 0, 0, 0]) wS) (entered 0x0613 (wE [16, 255, 1, 0, 7, 0, 0, 0]) wS) := by decide +kernel
theorem witness_layerEnvelopeOff : Served 0x0614 (wE [63, 0, 0, 0, 0, 0, 0, 0, 0, 0, 0, 0, 0, 0, 0, 0, 0, 0, 0, 0, 0, 0, 0, 0]) wS ∧ okLayerEnvelopeOff (cmdOf 0x0614 (wE [63, 0, 0, 0, 0, 0, 0, 0, 0, 0, 0, 0, 0, 0, 0, 0, 0, 0, 0, 0, 0, 0, 0, 0]) wS) (entered 0x0614 (wE [63, 0, 0, 0, 0, 0, 0, 0, 0, 0, 0, 0, 0, 0, 0, 0, 0, 0, 0, 0, 0, 0, 0, 0]) wS) := by decide +kernel
theorem witness_layerEnvelopeOn : Served 0x0614 (wE [16, 1, 0, 0, 251, 255, 5, 0, 0, 0, 0, 0, 1, 0, 0, 32, 0, 64, 0, 64, 0, 0, 0, 0]) wS ∧ okLayerEnvelopeOn (cmdOf 0x0614 (wE [16, 1, 0, 0, 251, 255, 5, 0, 0, 0, 0, 0, 1, 0, 0, 32, 0, 64, 0, 64, 0, 0, 0, 0]) wS) (entered 0x0614 (wE [16, 1, 0, 0, 251, 255, 5, 0, 0, 0, 0, 0, 1, 0, 0, 32, 0, 64, 0, 64, 0, 0, 0, 0]) wS) := by decide +kernel
theorem witness_layerBlendSet : Served 0x0616 (wE [63, 1, 1, 0, 255, 255, 0, 0]) wS ∧ okLayerBlendSet (cmdOf 0x0616 (wE [63, 1, 1, 0, 255, 255, 0, 0]) wS) (entered 0x0616 (wE [63, 1, 1, 0, 255, 255, 0, 0]) wS) := by decide +kernel
theorem witness_layerCadenceSet : Served 0x0604 (wE [63, 1, 0, 0, 0, 202, 154, 59]) wS ∧ okLayerCadenceSet (cmdOf 0x0604 (wE [63, 1, 0, 0, 0, 202, 154, 59]) wS) (entered 0x0604 (wE [63, 1, 0, 0, 0, 202, 154, 59]) wS) := by decide +kernel
theorem witness_layerShedSet : Served 0x0621 (wE [63, 7, 0, 0]) wS ∧ okLayerShedSet (cmdOf 0x0621 (wE [63, 7, 0, 0]) wS) (entered 0x0621 (wE [63, 7, 0, 0]) wS) := by decide +kernel
theorem witness_graphicColourSet : Served 0x0708 (wE [63, 1, 0, 0, 0, 0, 248, 255]) wS ∧ okGraphicColourSet (cmdOf 0x0708 (wE [63, 1, 0, 0, 0, 0, 248, 255]) wS) (entered 0x0708 (wE [63, 1, 0, 0, 0, 0, 248, 255]) wS) := by decide +kernel
theorem witness_layerScalerSet : Served 0x0702 (wE [15, 15, 1, 20]) wS ∧ okLayerScalerSet (cmdOf 0x0702 (wE [15, 15, 1, 20]) wS) (entered 0x0702 (wE [15, 15, 1, 20]) wS) := by decide +kernel
theorem witness_layerDecodeSet : Served 0x0703 (wE [15, 1, 2, 1, 64, 0, 172, 3]) wS ∧ okLayerDecodeSet (cmdOf 0x0703 (wE [15, 1, 2, 1, 64, 0, 172, 3]) wS) (entered 0x0703 (wE [15, 1, 2, 1, 64, 0, 172, 3]) wS) := by decide +kernel
theorem witness_layerAssign : Served 0x0610 (wE [5, 7, 0, 0]) (modLay 5 (fun x => { x with sHead := some 2 }) wS) ∧ okLayerAssign (cmdOf 0x0610 (wE [5, 7, 0, 0]) (modLay 5 (fun x => { x with sHead := some 2 }) wS)) (entered 0x0610 (wE [5, 7, 0, 0]) (modLay 5 (fun x => { x with sHead := some 2 }) wS)) := by decide +kernel
theorem witness_headTimingSet : Served 0x0601 (wE [7, 5, 128, 7, 88, 0, 44, 0, 148, 0, 56, 4, 4, 0, 5, 0, 36, 0, 1, 0, 1, 0, 0, 0, 253, 255, 255, 255]) wS ∧ okHeadTimingSet (cmdOf 0x0601 (wE [7, 5, 128, 7, 88, 0, 44, 0, 148, 0, 56, 4, 4, 0, 5, 0, 36, 0, 1, 0, 1, 0, 0, 0, 253, 255, 255, 255]) wS) (entered 0x0601 (wE [7, 5, 128, 7, 88, 0, 44, 0, 148, 0, 56, 4, 4, 0, 5, 0, 36, 0, 1, 0, 1, 0, 0, 0, 253, 255, 255, 255]) wS) := by decide +kernel
theorem witness_headWritebackSet : Served 0x0603 (wE [7, 1, 63, 0]) wS ∧ okHeadWritebackSet (cmdOf 0x0603 (wE [7, 1, 63, 0]) wS) (entered 0x0603 (wE [7, 1, 63, 0]) wS) := by decide +kernel
theorem witness_headZorderSet : Served 0x0617 (wE [2, 2, 0, 0, 9, 5]) (modLay 5 (fun x => { x with sHead := some 2 }) (modLay 9 (fun x => { x with sHead := some 2 }) wS)) ∧ okHeadZorderSet (cmdOf 0x0617 (wE [2, 2, 0, 0, 9, 5]) (modLay 5 (fun x => { x with sHead := some 2 }) (modLay 9 (fun x => { x with sHead := some 2 }) wS))) (entered 0x0617 (wE [2, 2, 0, 0, 9, 5]) (modLay 5 (fun x => { x with sHead := some 2 }) (modLay 9 (fun x => { x with sHead := some 2 }) wS))) := by decide +kernel
theorem witness_headBackgroundSet : Served 0x0618 (wE [7, 0, 0, 0, 0, 0, 128, 255, 255, 255, 127, 0, 0, 0, 0, 0]) wS ∧ okHeadBackgroundSet (cmdOf 0x0618 (wE [7, 0, 0, 0, 0, 0, 128, 255, 255, 255, 127, 0, 0, 0, 0, 0]) wS) (entered 0x0618 (wE [7, 0, 0, 0, 0, 0, 128, 255, 255, 255, 127, 0, 0, 0, 0, 0]) wS) := by decide +kernel
theorem witness_headOutputSet : Served 0x0709 (wE [7, 63, 2, 10, 2, 0, 0, 0, 255, 255, 255, 0]) wS ∧ okHeadOutputSet (cmdOf 0x0709 (wE [7, 63, 2, 10, 2, 0, 0, 0, 255, 255, 255, 0]) wS) (entered 0x0709 (wE [7, 63, 2, 10, 2, 0, 0, 0, 255, 255, 255, 0]) wS) := by decide +kernel
theorem witness_sigRegionSet : Served 0x0801 (wE [7, 15, 7, 2, 64, 0, 10, 0, 2, 0, 22, 0, 255, 255, 15, 0, 1, 0, 0, 0, 2, 0, 0, 0, 3, 0, 0, 0, 4, 0, 0, 0]) (modHd 7 (fun x => { x with shadow := { x.shadow with timing := { x.shadow.timing with hact := 66, vact := 32 } } }) wS) ∧ okSigRegionSet (cmdOf 0x0801 (wE [7, 15, 7, 2, 64, 0, 10, 0, 2, 0, 22, 0, 255, 255, 15, 0, 1, 0, 0, 0, 2, 0, 0, 0, 3, 0, 0, 0, 4, 0, 0, 0]) (modHd 7 (fun x => { x with shadow := { x.shadow with timing := { x.shadow.timing with hact := 66, vact := 32 } } }) wS)) (entered 0x0801 (wE [7, 15, 7, 2, 64, 0, 10, 0, 2, 0, 22, 0, 255, 255, 15, 0, 1, 0, 0, 0, 2, 0, 0, 0, 3, 0, 0, 0, 4, 0, 0, 0]) (modHd 7 (fun x => { x with shadow := { x.shadow with timing := { x.shadow.timing with hact := 66, vact := 32 } } }) wS)) := by decide +kernel
theorem witness_headPairSet : Served 0x0602 (wE [3, 1, 0, 0]) wS ∧ okHeadPairSet (cmdOf 0x0602 (wE [3, 1, 0, 0]) wS) (entered 0x0602 (wE [3, 1, 0, 0]) wS) := by decide +kernel
theorem witness_headFetchRunning : Served 0x0615 (wE [7, 0, 128, 0, 126, 0, 0, 0]) (modHd 7 (fun x => { x with enabled := true, cfg := { x.cfg with timing := { x.cfg.timing with hact := 66, vact := 32 } } }) wS) ∧ okHeadFetchRunning (cmdOf 0x0615 (wE [7, 0, 128, 0, 126, 0, 0, 0]) (modHd 7 (fun x => { x with enabled := true, cfg := { x.cfg with timing := { x.cfg.timing with hact := 66, vact := 32 } } }) wS)) (entered 0x0615 (wE [7, 0, 128, 0, 126, 0, 0, 0]) (modHd 7 (fun x => { x with enabled := true, cfg := { x.cfg with timing := { x.cfg.timing with hact := 66, vact := 32 } } }) wS)) := by decide +kernel
theorem witness_headFetchStopped : Served 0x0615 (wE [7, 0, 128, 0, 126, 0, 0, 0]) (modHd 7 (fun x => { x with shadow := { x.shadow with timing := { x.shadow.timing with hact := 66, vact := 32 } } }) wS) ∧ okHeadFetchStopped (cmdOf 0x0615 (wE [7, 0, 128, 0, 126, 0, 0, 0]) (modHd 7 (fun x => { x with shadow := { x.shadow with timing := { x.shadow.timing with hact := 66, vact := 32 } } }) wS)) (entered 0x0615 (wE [7, 0, 128, 0, 126, 0, 0, 0]) (modHd 7 (fun x => { x with shadow := { x.shadow with timing := { x.shadow.timing with hact := 66, vact := 32 } } }) wS)) := by decide +kernel
theorem witness_contactSheetSet : Served 0x0619 (wE [2, 2, 1, 2, 0, 0, 0, 0, 64, 0, 32, 0, 4, 0, 1, 0, 5, 255]) (modLay 5 (fun x => { x with sHead := some 2, shadow := { x.shadow with src := { x.shadow.src with cw := 100, ch := 50 } } }) (modHd 2 (fun x => { x with shadow := { x.shadow with timing := { x.shadow.timing with hact := 64, vact := 32 } } }) wS)) ∧ okContactSheetSet (cmdOf 0x0619 (wE [2, 2, 1, 2, 0, 0, 0, 0, 64, 0, 32, 0, 4, 0, 1, 0, 5, 255]) (modLay 5 (fun x => { x with sHead := some 2, shadow := { x.shadow with src := { x.shadow.src with cw := 100, ch := 50 } } }) (modHd 2 (fun x => { x with shadow := { x.shadow with timing := { x.shadow.timing with hact := 64, vact := 32 } } }) wS))) (entered 0x0619 (wE [2, 2, 1, 2, 0, 0, 0, 0, 64, 0, 32, 0, 4, 0, 1, 0, 5, 255]) (modLay 5 (fun x => { x with sHead := some 2, shadow := { x.shadow with src := { x.shadow.src with cw := 100, ch := 50 } } }) (modHd 2 (fun x => { x with shadow := { x.shadow with timing := { x.shadow.timing with hact := 64, vact := 32 } } }) wS))) := by decide +kernel
theorem witness_matrixSetLayer : Served 0x0704 (wE [0, 15, 0, 0, 0, 0, 248, 255, 0, 0, 248, 255, 0, 0, 248, 255, 0, 0, 248, 255, 0, 0, 248, 255, 0, 0, 248, 255, 0, 0, 248, 255, 0, 0, 248, 255, 0, 0, 248, 255, 255, 255, 127, 0, 0, 0, 0, 0, 0, 0, 128, 255]) wS ∧ okMatrixSetLayer (cmdOf 0x0704 (wE [0, 15, 0, 0, 0, 0, 248, 255, 0, 0, 248, 255, 0, 0, 248, 255, 0, 0, 248, 255, 0, 0, 248, 255, 0, 0, 248, 255, 0, 0, 248, 255, 0, 0, 248, 255, 0, 0, 248, 255, 255, 255, 127, 0, 0, 0, 0, 0, 0, 0, 128, 255]) wS) (entered 0x0704 (wE [0, 15, 0, 0, 0, 0, 248, 255, 0, 0, 248, 255, 0, 0, 248, 255, 0, 0, 248, 255, 0, 0, 248, 255, 0, 0, 248, 255, 0, 0, 248, 255, 0, 0, 248, 255, 0, 0, 248, 255, 255, 255, 127, 0, 0, 0, 0, 0, 0, 0, 128, 255]) wS) := by decide +kernel
theorem witness_matrixSetHead : Served 0x0704 (wE [1, 7, 0, 0, 255, 255, 7, 0, 255, 255, 7, 0, 255, 255, 7, 0, 255, 255, 7, 0, 255, 255, 7, 0, 255, 255, 7, 0, 255, 255, 7, 0, 255, 255, 7, 0, 255, 255, 7, 0, 255, 255, 127, 0, 0, 0, 0, 0, 0, 0, 128, 255]) wS ∧ okMatrixSetHead (cmdOf 0x0704 (wE [1, 7, 0, 0, 255, 255, 7, 0, 255, 255, 7, 0, 255, 255, 7, 0, 255, 255, 7, 0, 255, 255, 7, 0, 255, 255, 7, 0, 255, 255, 7, 0, 255, 255, 7, 0, 255, 255, 7, 0, 255, 255, 127, 0, 0, 0, 0, 0, 0, 0, 128, 255]) wS) (entered 0x0704 (wE [1, 7, 0, 0, 255, 255, 7, 0, 255, 255, 7, 0, 255, 255, 7, 0, 255, 255, 7, 0, 255, 255, 7, 0, 255, 255, 7, 0, 255, 255, 7, 0, 255, 255, 7, 0, 255, 255, 7, 0, 255, 255, 127, 0, 0, 0, 0, 0, 0, 0, 128, 255]) wS) := by decide +kernel
theorem witness_lut1dBuiltinLayer : Served 0x0706 (wE [0, 15, 1, 0, 100, 0, 0, 0]) wS ∧ okLut1dBuiltinLayer (cmdOf 0x0706 (wE [0, 15, 1, 0, 100, 0, 0, 0]) wS) (entered 0x0706 (wE [0, 15, 1, 0, 100, 0, 0, 0]) wS) := by decide +kernel
theorem witness_lut1dBuiltinHead : Served 0x0706 (wE [1, 7, 1, 0, 16, 39, 0, 0]) wS ∧ okLut1dBuiltinHead (cmdOf 0x0706 (wE [1, 7, 1, 0, 16, 39, 0, 0]) wS) (entered 0x0706 (wE [1, 7, 1, 0, 16, 39, 0, 0]) wS) := by decide +kernel
theorem witness_scalerCoefLoad : Served 0x0701 (wE [15, 0, 0, 0, 8, 0, 0, 0, 0, 0, 0, 0]) wCoef ∧ okScalerCoefLoad (cmdOf 0x0701 (wE [15, 0, 0, 0, 8, 0, 0, 0, 0, 0, 0, 0]) wCoef) (entered 0x0701 (wE [15, 0, 0, 0, 8, 0, 0, 0, 0, 0, 0, 0]) wCoef) wTaps := by decide +kernel
theorem witness_lut1dLoad : Served 0x0705 (wE [2, 0, 8, 0, 0, 0, 0, 0]) (wFilled (modBuf 8 (fun b => { b with state := .published }) (modPool 3 (fun _ => { used := true, base := 8388608, size := 4194304, count := 2, keep := 1, lines := 32, format := 0x41, stride := 1024, first := 7 }) wS))) ∧ okLut1dLoad (cmdOf 0x0705 (wE [2, 0, 8, 0, 0, 0, 0, 0]) (wFilled (modBuf 8 (fun b => { b with state := .published }) (modPool 3 (fun _ => { used := true, base := 8388608, size := 4194304, count := 2, keep := 1, lines := 32, format := 0x41, stride := 1024, first := 7 }) wS)))) (entered 0x0705 (wE [2, 0, 8, 0, 0, 0, 0, 0]) (wFilled (modBuf 8 (fun b => { b with state := .published }) (modPool 3 (fun _ => { used := true, base := 8388608, size := 4194304, count := 2, keep := 1, lines := 32, format := 0x41, stride := 1024, first := 7 }) wS)))) (List.replicate 1024 0) := by decide +kernel
theorem witness_lut1dRead : Served 0x0707 (wE [0, 15, 1, 0, 0, 16, 0, 0, 0, 0, 0, 0]) { wS with host := { wS.host with linkUp := true, busMaster := true } } ∧ okLut1dRead (cmdOf 0x0707 (wE [0, 15, 1, 0, 0, 16, 0, 0, 0, 0, 0, 0]) { wS with host := { wS.host with linkUp := true, busMaster := true } }) (entered 0x0707 (wE [0, 15, 1, 0, 0, 16, 0, 0, 0, 0, 0, 0]) { wS with host := { wS.host with linkUp := true, busMaster := true } }) := by decide +kernel
theorem witness_lut3dRelease : Served 0x070A (wE [3, 255, 0, 0]) (modLut 3 (fun x => { x with mode := 1, head := 5 }) wS) ∧ okLut3dRelease (cmdOf 0x070A (wE [3, 255, 0, 0]) (modLut 3 (fun x => { x with mode := 1, head := 5 }) wS)) (entered 0x070A (wE [3, 255, 0, 0]) (modLut 3 (fun x => { x with mode := 1, head := 5 }) wS)) := by decide +kernel
theorem witness_lut3dAssign : Served 0x070A (wE [3, 7, 1, 0]) { wS with power := { wS.power with waking := false, budget := 100000 } } ∧ okLut3dAssign (cmdOf 0x070A (wE [3, 7, 1, 0]) { wS with power := { wS.power with waking := false, budget := 100000 } }) (entered 0x070A (wE [3, 7, 1, 0]) { wS with power := { wS.power with waking := false, budget := 100000 } }) := by decide +kernel
theorem witness_lut3dLoad : Served 0x070B (wE [3, 0, 8, 0, 0, 0, 0, 0]) (modLut 3 (fun x => { x with mode := 1, head := 5 }) (wFilled (modBuf 8 (fun b => { b with state := .published }) (modPool 3 (fun _ => { used := true, base := 8388608, size := 4194304, count := 2, keep := 1, lines := 32, format := 0x41, stride := 1024, first := 7 }) wS)))) ∧ okLut3dLoad (cmdOf 0x070B (wE [3, 0, 8, 0, 0, 0, 0, 0]) (modLut 3 (fun x => { x with mode := 1, head := 5 }) (wFilled (modBuf 8 (fun b => { b with state := .published }) (modPool 3 (fun _ => { used := true, base := 8388608, size := 4194304, count := 2, keep := 1, lines := 32, format := 0x41, stride := 1024, first := 7 }) wS))))) (entered 0x070B (wE [3, 0, 8, 0, 0, 0, 0, 0]) (modLut 3 (fun x => { x with mode := 1, head := 5 }) (wFilled (modBuf 8 (fun b => { b with state := .published }) (modPool 3 (fun _ => { used := true, base := 8388608, size := 4194304, count := 2, keep := 1, lines := 32, format := 0x41, stride := 1024, first := 7 }) wS))))) := by decide +kernel
theorem witness_admissionReserveSet : Served 0x0620 (wE [0, 0, 0, 0, 0, 0, 0, 0, 0, 0, 0, 0, 0, 0, 0, 0]) wS ∧ okAdmissionReserveSet (cmdOf 0x0620 (wE [0, 0, 0, 0, 0, 0, 0, 0, 0, 0, 0, 0, 0, 0, 0, 0]) wS) (entered 0x0620 (wE [0, 0, 0, 0, 0, 0, 0, 0, 0, 0, 0, 0, 0, 0, 0, 0]) wS) := by decide +kernel
theorem witness_shedPlanSet : Served 0x0622 (wE [2, 0, 0, 0, 0, 0, 0, 0, 1, 7, 6, 0, 0, 0, 0, 0, 2, 7, 0, 0, 0, 0, 0, 0]) wS ∧ okShedPlanSet (cmdOf 0x0622 (wE [2, 0, 0, 0, 0, 0, 0, 0, 1, 7, 6, 0, 0, 0, 0, 0, 2, 7, 0, 0, 0, 0, 0, 0]) wS) (entered 0x0622 (wE [2, 0, 0, 0, 0, 0, 0, 0, 1, 7, 6, 0, 0, 0, 0, 0, 2, 7, 0, 0, 0, 0, 0, 0]) wS) := by decide +kernel
theorem witness_shedPolicySet : Served 0x0623 (wE [80, 195, 0, 0, 96, 234, 0, 0]) wS ∧ okShedPolicySet (cmdOf 0x0623 (wE [80, 195, 0, 0, 96, 234, 0, 0]) wS) (entered 0x0623 (wE [80, 195, 0, 0, 96, 234, 0, 0]) wS) := by decide +kernel
theorem witness_admissionReport : Served 0x0624 (wE []) wS := by decide +kernel
theorem witness_cfgCommitWaits : Served 0x0605 (wE [1, 0, 0, 0, 0, 0, 0, 0]) { wS with pic := { wS.pic with fx := { wS.pic.fx with armed := [{ id := 1, heads := [0] }] } } } ∧ okCfgCommitWaits (cmdOf 0x0605 (wE [1, 0, 0, 0, 0, 0, 0, 0]) { wS with pic := { wS.pic with fx := { wS.pic.fx with armed := [{ id := 1, heads := [0] }] } } }) (entered 0x0605 (wE [1, 0, 0, 0, 0, 0, 0, 0]) { wS with pic := { wS.pic with fx := { wS.pic.fx with armed := [{ id := 1, heads := [0] }] } } }) := by decide +kernel
set_option maxRecDepth 100000 in
theorem witness_cfgCommitArms : Served 0x0605 (wE [4, 0, 0, 0, 0, 0, 0, 0]) (modShed (fun p => { p with resIngest := 0, resRecord := 0, resStream := 0, resBe := 0 }) (modHd 2 (fun x => { x with enabled := true, shadow := wHd, cfg := wHd }) (modPool 3 (fun _ => { used := true, base := 8388608, size := 8847360, count := 2, keep := 1, lines := 1080, format := 0x20, stride := 8192, first := 7 }) wS))) ∧ okCfgCommitArms (cmdOf 0x0605 (wE [4, 0, 0, 0, 0, 0, 0, 0]) (modShed (fun p => { p with resIngest := 0, resRecord := 0, resStream := 0, resBe := 0 }) (modHd 2 (fun x => { x with enabled := true, shadow := wHd, cfg := wHd }) (modPool 3 (fun _ => { used := true, base := 8388608, size := 8847360, count := 2, keep := 1, lines := 1080, format := 0x20, stride := 8192, first := 7 }) wS)))) (entered 0x0605 (wE [4, 0, 0, 0, 0, 0, 0, 0]) (modShed (fun p => { p with resIngest := 0, resRecord := 0, resStream := 0, resBe := 0 }) (modHd 2 (fun x => { x with enabled := true, shadow := wHd, cfg := wHd }) (modPool 3 (fun _ => { used := true, base := 8388608, size := 8847360, count := 2, keep := 1, lines := 1080, format := 0x20, stride := 8192, first := 7 }) wS)))) := by decide +kernel
theorem witness_compatEnable : Served 0x0630 (wE [1, 0, 0, 0]) wS ∧ okCompatEnable (cmdOf 0x0630 (wE [1, 0, 0, 0]) wS) (entered 0x0630 (wE [1, 0, 0, 0]) wS) := by decide +kernel
theorem witness_compatDisable : Served 0x0630 (wE [0, 0, 0, 0]) { wS with pic := { wS.pic with win := { enabled := true } } } ∧ okCompatDisable (cmdOf 0x0630 (wE [0, 0, 0, 0]) { wS with pic := { wS.pic with win := { enabled := true } } }) (entered 0x0630 (wE [0, 0, 0, 0]) { wS with pic := { wS.pic with win := { enabled := true } } }) := by decide +kernel
theorem witness_sdiLaneOff : Served 0x0901 (wE [7, 0, 3, 0, 0, 0, 0, 0, 0, 0, 0, 0]) wS ∧ okSdiLaneOff (cmdOf 0x0901 (wE [7, 0, 3, 0, 0, 0, 0, 0, 0, 0, 0, 0]) wS) (entered 0x0901 (wE [7, 0, 3, 0, 0, 0, 0, 0, 0, 0, 0, 0]) wS) := by decide +kernel
theorem witness_sdiLaneOn : Served 0x0901 (wE [7, 1, 2, 2, 3, 0, 0, 0, 0, 0, 0, 0]) { (modHd 2 (fun x => { x with enabled := true, cfg := { wHd with out := { wHd.out with form := 2, bits := 10, clip := true }, timing := { wHd.timing with hfp := 638, p := 2, q := 5 } } }) wS) with power := { wS.power with waking := false, budget := 100000 } } ∧ okSdiLaneOn (cmdOf 0x0901 (wE [7, 1, 2, 2, 3, 0, 0, 0, 0, 0, 0, 0]) { (modHd 2 (fun x => { x with enabled := true, cfg := { wHd with out := { wHd.out with form := 2, bits := 10, clip := true }, timing := { wHd.timing with hfp := 638, p := 2, q := 5 } } }) wS) with power := { wS.power with waking := false, budget := 100000 } }) (entered 0x0901 (wE [7, 1, 2, 2, 3, 0, 0, 0, 0, 0, 0, 0]) { (modHd 2 (fun x => { x with enabled := true, cfg := { wHd with out := { wHd.out with form := 2, bits := 10, clip := true }, timing := { wHd.timing with hfp := 638, p := 2, q := 5 } } }) wS) with power := { wS.power with waking := false, budget := 100000 } }) := by decide +kernel
theorem witness_sdiAncRingOff : Served 0x0902 (wE [7, 0, 0, 0, 0, 0, 0, 0, 0, 0, 0, 0, 0, 0, 0, 0]) wS ∧ okSdiAncRingOff (cmdOf 0x0902 (wE [7, 0, 0, 0, 0, 0, 0, 0, 0, 0, 0, 0, 0, 0, 0, 0]) wS) (entered 0x0902 (wE [7, 0, 0, 0, 0, 0, 0, 0, 0, 0, 0, 0, 0, 0, 0, 0]) wS) := by decide +kernel
theorem witness_sdiAncRingOn : Served 0x0902 (wE [7, 16, 0, 0, 0, 16, 0, 0, 0, 0, 128, 0, 0, 0, 0, 0]) wS ∧ okSdiAncRingOn (cmdOf 0x0902 (wE [7, 16, 0, 0, 0, 16, 0, 0, 0, 0, 128, 0, 0, 0, 0, 0]) wS) (entered 0x0902 (wE [7, 16, 0, 0, 0, 16, 0, 0, 0, 0, 128, 0, 0, 0, 0, 0]) wS) := by decide +kernel
theorem witness_panelOff : Served 0x0903 (wE [3, 0, 7, 2, 4, 2, 62, 3, 80, 0, 0, 0]) wS ∧ okPanelOff (cmdOf 0x0903 (wE [3, 0, 7, 2, 4, 2, 62, 3, 80, 0, 0, 0]) wS) (entered 0x0903 (wE [3, 0, 7, 2, 4, 2, 62, 3, 80, 0, 0, 0]) wS) := by decide +kernel
theorem witness_panelVideo : Served 0x0903 (wE [3, 2, 2, 0, 4, 2, 62, 3, 160, 15, 0, 0]) (modPanel 3 (fun x => { x with state := .init }) (modHd 2 (fun x => { x with enabled := true, cfg := { wHd with out := { wHd.out with form := 0, bits := 8 } } }) wS)) ∧ okPanelVideo (cmdOf 0x0903 (wE [3, 2, 2, 0, 4, 2, 62, 3, 160, 15, 0, 0]) (modPanel 3 (fun x => { x with state := .init }) (modHd 2 (fun x => { x with enabled := true, cfg := { wHd with out := { wHd.out with form := 0, bits := 8 } } }) wS))) (entered 0x0903 (wE [3, 2, 2, 0, 4, 2, 62, 3, 160, 15, 0, 0]) (modPanel 3 (fun x => { x with state := .init }) (modHd 2 (fun x => { x with enabled := true, cfg := { wHd with out := { wHd.out with form := 0, bits := 8 } } }) wS))) := by decide +kernel
theorem witness_panelDcsStore : Served 0x0904 (wE [3, 1, 1, 0, 21, 5, 2, 0, 81, 255, 0, 0]) wS ∧ okPanelDcsStore (cmdOf 0x0904 (wE [3, 1, 1, 0, 21, 5, 2, 0, 81, 255, 0, 0]) wS) (entered 0x0904 (wE [3, 1, 1, 0, 21, 5, 2, 0, 81, 255, 0, 0]) wS) [({ dt := 0x15, delay := 5, data := [0x51, 0xFF] } : DcsPacket)] := by decide +kernel
theorem witness_panelDcsSend : Served 0x0904 (wE [3, 0, 2, 0, 5, 5, 0, 0, 5, 0, 0, 0]) (modPanel 3 (fun x => { x with state := .init }) wS) ∧ okPanelDcsSend (cmdOf 0x0904 (wE [3, 0, 2, 0, 5, 5, 0, 0, 5, 0, 0, 0]) (modPanel 3 (fun x => { x with state := .init }) wS)) (entered 0x0904 (wE [3, 0, 2, 0, 5, 5, 0, 0, 5, 0, 0, 0]) (modPanel 3 (fun x => { x with state := .init }) wS)) [({ dt := 0x05, delay := 5, data := [] } : DcsPacket),({ dt := 0x05, delay := 0, data := [] } : DcsPacket)] := by decide +kernel
theorem witness_macConfigOff : Served 0x0B01 (wE [15, 0, 0, 0, 0, 0, 0, 0, 0, 0, 0, 0, 0, 0, 0, 0, 0, 0, 0, 0, 0, 0, 0, 0]) (modMac 15 (fun m => { m with enabled := true }) wS) ∧ okMacConfigOff (cmdOf 0x0B01 (wE [15, 0, 0, 0, 0, 0, 0, 0, 0, 0, 0, 0, 0, 0, 0, 0, 0, 0, 0, 0, 0, 0, 0, 0]) (modMac 15 (fun m => { m with enabled := true }) wS)) (entered 0x0B01 (wE [15, 0, 0, 0, 0, 0, 0, 0, 0, 0, 0, 0, 0, 0, 0, 0, 0, 0, 0, 0, 0, 0, 0, 0]) (modMac 15 (fun m => { m with enabled := true }) wS)) := by decide +kernel
theorem witness_macConfigNone : Served 0x0B01 (wE [15, 0, 0, 0, 0, 0, 0, 0, 0, 0, 0, 0, 0, 0, 0, 0, 0, 0, 0, 0, 0, 0, 0, 0]) wS ∧ okMacConfigNone (cmdOf 0x0B01 (wE [15, 0, 0, 0, 0, 0, 0, 0, 0, 0, 0, 0, 0, 0, 0, 0, 0, 0, 0, 0, 0, 0, 0, 0]) wS) (entered 0x0B01 (wE [15, 0, 0, 0, 0, 0, 0, 0, 0, 0, 0, 0, 0, 0, 0, 0, 0, 0, 0, 0, 0, 0, 0, 0]) wS) := by decide +kernel
theorem witness_macConfigOn : Served 0x0B01 (wE [15, 1, 6, 1, 16, 8, 0, 255, 0, 64, 3, 0, 2, 2, 2, 2, 2, 2, 2, 2, 16, 39, 0, 0]) { wS with power := { wS.power with waking := false, budget := 100000 } } ∧ okMacConfigOn (cmdOf 0x0B01 (wE [15, 1, 6, 1, 16, 8, 0, 255, 0, 64, 3, 0, 2, 2, 2, 2, 2, 2, 2, 2, 16, 39, 0, 0]) { wS with power := { wS.power with waking := false, budget := 100000 } }) (entered 0x0B01 (wE [15, 1, 6, 1, 16, 8, 0, 255, 0, 64, 3, 0, 2, 2, 2, 2, 2, 2, 2, 2, 16, 39, 0, 0]) { wS with power := { wS.power with waking := false, budget := 100000 } }) 10 := by decide +kernel
theorem witness_macConfigNow : Served 0x0B01 (wE [15, 1, 6, 1, 16, 8, 0, 255, 0, 64, 3, 0, 2, 2, 2, 2, 2, 2, 2, 2, 16, 39, 0, 0]) (modDom 9 (fun d => { d with level := .on }) (modDom 10 (fun d => { d with level := .on }) { wS with power := { wS.power with waking := false, budget := 100000 } })) ∧ okMacConfigNow (cmdOf 0x0B01 (wE [15, 1, 6, 1, 16, 8, 0, 255, 0, 64, 3, 0, 2, 2, 2, 2, 2, 2, 2, 2, 16, 39, 0, 0]) (modDom 9 (fun d => { d with level := .on }) (modDom 10 (fun d => { d with level := .on }) { wS with power := { wS.power with waking := false, budget := 100000 } }))) (entered 0x0B01 (wE [15, 1, 6, 1, 16, 8, 0, 255, 0, 64, 3, 0, 2, 2, 2, 2, 2, 2, 2, 2, 16, 39, 0, 0]) (modDom 9 (fun d => { d with level := .on }) (modDom 10 (fun d => { d with level := .on }) { wS with power := { wS.power with waking := false, budget := 100000 } }))) := by decide +kernel
theorem witness_macSpareSet : Served 0x0B02 (wE [15, 0, 1, 23, 0, 0, 0, 0]) (modDom 10 (fun d => { d with level := .on }) (modMac 15 (fun m => { m with enabled := true, cfg := { m.cfg with mode := 6, role := 1, width := 8 } }) { wS with power := { wS.power with waking := false, budget := 100000 } })) ∧ okMacSpareSet (cmdOf 0x0B02 (wE [15, 0, 1, 23, 0, 0, 0, 0]) (modDom 10 (fun d => { d with level := .on }) (modMac 15 (fun m => { m with enabled := true, cfg := { m.cfg with mode := 6, role := 1, width := 8 } }) { wS with power := { wS.power with waking := false, budget := 100000 } }))) (entered 0x0B02 (wE [15, 0, 1, 23, 0, 0, 0, 0]) (modDom 10 (fun d => { d with level := .on }) (modMac 15 (fun m => { m with enabled := true, cfg := { m.cfg with mode := 6, role := 1, width := 8 } }) { wS with power := { wS.power with waking := false, budget := 100000 } }))) := by decide +kernel
theorem witness_macSpareFree : Served 0x0B02 (wE [15, 1, 1, 23, 0, 0, 0, 0]) (modDom 10 (fun d => { d with level := .on }) (modMac 15 (fun m => { m with enabled := true, cfg := { m.cfg with mode := 6, role := 1, width := 8 }, lk := { m.lk with spares := [(1, { valid := true, lane := 23 })] } }) { wS with power := { wS.power with waking := false, budget := 100000 } })) ∧ okMacSpareFree (cmdOf 0x0B02 (wE [15, 1, 1, 23, 0, 0, 0, 0]) (modDom 10 (fun d => { d with level := .on }) (modMac 15 (fun m => { m with enabled := true, cfg := { m.cfg with mode := 6, role := 1, width := 8 }, lk := { m.lk with spares := [(1, { valid := true, lane := 23 })] } }) { wS with power := { wS.power with waking := false, budget := 100000 } }))) (entered 0x0B02 (wE [15, 1, 1, 23, 0, 0, 0, 0]) (modDom 10 (fun d => { d with level := .on }) (modMac 15 (fun m => { m with enabled := true, cfg := { m.cfg with mode := 6, role := 1, width := 8 }, lk := { m.lk with spares := [(1, { valid := true, lane := 23 })] } }) { wS with power := { wS.power with waking := false, budget := 100000 } }))) := by decide +kernel
theorem witness_macTxqSet : Served 0x0B03 (wE [15, 7, 0, 64]) wS ∧ okMacTxqSet (cmdOf 0x0B03 (wE [15, 7, 0, 64]) wS) (entered 0x0B03 (wE [15, 7, 0, 64]) wS) := by decide +kernel
theorem witness_macRuleSet : Served 0x0B04 (wE [15, 63, 254, 2, 1, 0, 2, 0, 3, 0, 4, 0, 63, 63, 1, 0]) (modMac 15 (fun m => { m with enabled := true }) wS) ∧ okMacRuleSet (cmdOf 0x0B04 (wE [15, 63, 254, 2, 1, 0, 2, 0, 3, 0, 4, 0, 63, 63, 1, 0]) (modMac 15 (fun m => { m with enabled := true }) wS)) (entered 0x0B04 (wE [15, 63, 254, 2, 1, 0, 2, 0, 3, 0, 4, 0, 63, 63, 1, 0]) (modMac 15 (fun m => { m with enabled := true }) wS)) := by decide +kernel
theorem witness_macFilterSet : Served 0x0B05 (wE [15, 5, 0, 0, 0, 0, 0, 0, 0, 1, 2, 3, 4, 5, 6, 7, 8, 9, 10, 11, 12, 13, 14, 15, 16, 17, 18, 19, 20, 21, 22, 23]) (modMac 15 (fun m => { m with enabled := true, cfg := { m.cfg with role := 1 } }) wS) ∧ okMacFilterSet (cmdOf 0x0B05 (wE [15, 5, 0, 0, 0, 0, 0, 0, 0, 1, 2, 3, 4, 5, 6, 7, 8, 9, 10, 11, 12, 13, 14, 15, 16, 17, 18, 19, 20, 21, 22, 23]) (modMac 15 (fun m => { m with enabled := true, cfg := { m.cfg with role := 1 } }) wS)) (entered 0x0B05 (wE [15, 5, 0, 0, 0, 0, 0, 0, 0, 1, 2, 3, 4, 5, 6, 7, 8, 9, 10, 11, 12, 13, 14, 15, 16, 17, 18, 19, 20, 21, 22, 23]) (modMac 15 (fun m => { m with enabled := true, cfg := { m.cfg with role := 1 } }) wS)) := by decide +kernel
theorem witness_macStatsGet : Served 0x0B06 (wE [15, 56, 0, 0]) wS ∧ okMacStatsGet (cmdOf 0x0B06 (wE [15, 56, 0, 0]) wS) (entered 0x0B06 (wE [15, 56, 0, 0]) wS) := by decide +kernel
theorem witness_macSleepNow : Served 0x0B07 (wE [15, 0, 2, 0]) (modMac 15 (fun m => { m with enabled := true }) wS) ∧ okMacSleepNow (cmdOf 0x0B07 (wE [15, 0, 2, 0]) (modMac 15 (fun m => { m with enabled := true }) wS)) (entered 0x0B07 (wE [15, 0, 2, 0]) (modMac 15 (fun m => { m with enabled := true }) wS)) := by decide +kernel
theorem witness_macWake : Served 0x0B07 (wE [15, 1, 0, 0]) (modMac 15 (fun m => { m with enabled := true, sleep := true, cfg := { m.cfg with mode := 1, width := 1 } }) { wS with power := { wS.power with waking := false, budget := 100000 } }) ∧ okMacWake (cmdOf 0x0B07 (wE [15, 1, 0, 0]) (modMac 15 (fun m => { m with enabled := true, sleep := true, cfg := { m.cfg with mode := 1, width := 1 } }) { wS with power := { wS.power with waking := false, budget := 100000 } })) (entered 0x0B07 (wE [15, 1, 0, 0]) (modMac 15 (fun m => { m with enabled := true, sleep := true, cfg := { m.cfg with mode := 1, width := 1 } }) { wS with power := { wS.power with waking := false, budget := 100000 } })) 5 := by decide +kernel
theorem witness_macWakeNow : Served 0x0B07 (wE [15, 1, 0, 0]) (modMac 15 (fun m => { m with enabled := true, sleep := true, cfg := { m.cfg with mode := 1, width := 1 } }) (modDom 5 (fun d => { d with level := .on }) { wS with power := { wS.power with waking := false, budget := 100000 } })) ∧ okMacWakeNow (cmdOf 0x0B07 (wE [15, 1, 0, 0]) (modMac 15 (fun m => { m with enabled := true, sleep := true, cfg := { m.cfg with mode := 1, width := 1 } }) (modDom 5 (fun d => { d with level := .on }) { wS with power := { wS.power with waking := false, budget := 100000 } }))) (entered 0x0B07 (wE [15, 1, 0, 0]) (modMac 15 (fun m => { m with enabled := true, sleep := true, cfg := { m.cfg with mode := 1, width := 1 } }) (modDom 5 (fun d => { d with level := .on }) { wS with power := { wS.power with waking := false, budget := 100000 } }))) := by decide +kernel
theorem witness_magSlotOn : Served 0x0A01 (wE [1, 1, 15, 0]) (modMac 15 (fun m => { m with enabled := true, cfg := { m.cfg with mode := 6, role := 3, rxPauseEn := true, maxFrame := 9050 } }) wS) ∧ okMagSlotOn (cmdOf 0x0A01 (wE [1, 1, 15, 0]) (modMac 15 (fun m => { m with enabled := true, cfg := { m.cfg with mode := 6, role := 3, rxPauseEn := true, maxFrame := 9050 } }) wS)) (entered 0x0A01 (wE [1, 1, 15, 0]) (modMac 15 (fun m => { m with enabled := true, cfg := { m.cfg with mode := 6, role := 3, rxPauseEn := true, maxFrame := 9050 } }) wS)) := by decide +kernel
theorem witness_magSlotOff : Served 0x0A01 (wE [1, 0, 255, 0]) wS ∧ okMagSlotOff (cmdOf 0x0A01 (wE [1, 0, 255, 0]) wS) (entered 0x0A01 (wE [1, 0, 255, 0]) wS) := by decide +kernel
theorem witness_magIndexRead : Served 0x0A02 (wE [1, 0, 0, 0, 32, 0, 0, 0, 0, 16, 0, 0, 0, 0, 0, 0]) (modMag 1 (fun x => { x with state := .ready, index := [List.replicate 32 1, List.replicate 32 2] }) { wS with host := { wS.host with linkUp := true, busMaster := true } }) ∧ okMagIndexRead (cmdOf 0x0A02 (wE [1, 0, 0, 0, 32, 0, 0, 0, 0, 16, 0, 0, 0, 0, 0, 0]) (modMag 1 (fun x => { x with state := .ready, index := [List.replicate 32 1, List.replicate 32 2] }) { wS with host := { wS.host with linkUp := true, busMaster := true } })) (entered 0x0A02 (wE [1, 0, 0, 0, 32, 0, 0, 0, 0, 16, 0, 0, 0, 0, 0, 0]) (modMag 1 (fun x => { x with state := .ready, index := [List.replicate 32 1, List.replicate 32 2] }) { wS with host := { wS.host with linkUp := true, busMaster := true } })) := by decide +kernel
theorem witness_magFormat : Served 0x0A03 (wE [1, 0, 0, 0]) (modMag 1 (fun x => { x with state := .ready }) wS) ∧ okMagFormat (cmdOf 0x0A03 (wE [1, 0, 0, 0]) (modMag 1 (fun x => { x with state := .ready }) wS)) (entered 0x0A03 (wE [1, 0, 0, 0]) (modMag 1 (fun x => { x with state := .ready }) wS)) := by decide +kernel
theorem witness_magEject : Served 0x0A04 (wE [1, 0, 0, 0]) (modMag 1 (fun x => { x with state := .ready }) wS) ∧ okMagEject (cmdOf 0x0A04 (wE [1, 0, 0, 0]) (modMag 1 (fun x => { x with state := .ready }) wS)) (entered 0x0A04 (wE [1, 0, 0, 0]) (modMag 1 (fun x => { x with state := .ready }) wS)) := by decide +kernel
theorem witness_recChannelOn : Served 0x0A10 (wE [1, 1, 3, 14, 3, 0, 100, 0, 255, 3, 0, 0, 128, 26, 6, 0]) (modPool 3 (fun _ => { used := true, base := 8388608, size := 65536, count := 2, keep := 1, lines := 32, format := 0x41, stride := 1024, first := 7 }) wS) ∧ okRecChannelOn (cmdOf 0x0A10 (wE [1, 1, 3, 14, 3, 0, 100, 0, 255, 3, 0, 0, 128, 26, 6, 0]) (modPool 3 (fun _ => { used := true, base := 8388608, size := 65536, count := 2, keep := 1, lines := 32, format := 0x41, stride := 1024, first := 7 }) wS)) (entered 0x0A10 (wE [1, 1, 3, 14, 3, 0, 100, 0, 255, 3, 0, 0, 128, 26, 6, 0]) (modPool 3 (fun _ => { used := true, base := 8388608, size := 65536, count := 2, keep := 1, lines := 32, format := 0x41, stride := 1024, first := 7 }) wS)) := by decide +kernel
theorem witness_recChannelOff : Served 0x0A10 (wE [1, 0, 0, 0, 0, 0, 0, 0, 0, 0, 0, 0, 0, 0, 0, 0]) wS ∧ okRecChannelOff (cmdOf 0x0A10 (wE [1, 0, 0, 0, 0, 0, 0, 0, 0, 0, 0, 0, 0, 0, 0, 0]) wS) (entered 0x0A10 (wE [1, 0, 0, 0, 0, 0, 0, 0, 0, 0, 0, 0, 0, 0, 0, 0]) wS) := by decide +kernel
theorem witness_recStartAt : Served 0x0A12 (wE [1, 1, 0, 0, 0, 0, 0, 0, 77, 0, 0, 0, 0, 0, 0, 0]) (modMag 0 (fun x => { x with state := .ready }) (modMag 1 (fun x => { x with state := .ready }) (modRec 1 (fun x => { x with enabled := true, cfg := { targets := 3, rate := 12500 } }) wS))) ∧ okRecStartAt (cmdOf 0x0A12 (wE [1, 1, 0, 0, 0, 0, 0, 0, 77, 0, 0, 0, 0, 0, 0, 0]) (modMag 0 (fun x => { x with state := .ready }) (modMag 1 (fun x => { x with state := .ready }) (modRec 1 (fun x => { x with enabled := true, cfg := { targets := 3, rate := 12500 } }) wS)))) (entered 0x0A12 (wE [1, 1, 0, 0, 0, 0, 0, 0, 77, 0, 0, 0, 0, 0, 0, 0]) (modMag 0 (fun x => { x with state := .ready }) (modMag 1 (fun x => { x with state := .ready }) (modRec 1 (fun x => { x with enabled := true, cfg := { targets := 3, rate := 12500 } }) wS)))) := by decide +kernel
theorem witness_recStopAt : Served 0x0A13 (wE [1, 1, 0, 0, 0, 0, 0, 0, 77, 0, 0, 0, 0, 0, 0, 0]) (modRec 1 (fun x => { x with enabled := true, state := .recording, start := some 76 }) wS) ∧ okRecStopAt (cmdOf 0x0A13 (wE [1, 1, 0, 0, 0, 0, 0, 0, 77, 0, 0, 0, 0, 0, 0, 0]) (modRec 1 (fun x => { x with enabled := true, state := .recording, start := some 76 }) wS)) (entered 0x0A13 (wE [1, 1, 0, 0, 0, 0, 0, 0, 77, 0, 0, 0, 0, 0, 0, 0]) (modRec 1 (fun x => { x with enabled := true, state := .recording, start := some 76 }) wS)) := by decide +kernel
theorem witness_streamPortSet : Served 0x0B11 (wE [15, 0, 0, 1, 2, 3, 4, 5, 6, 7, 8, 9, 10, 11, 12, 13, 14, 15, 16, 17, 18, 19, 20, 21]) (modMac 15 (fun m => { m with enabled := true }) wS) ∧ okStreamPortSet (cmdOf 0x0B11 (wE [15, 0, 0, 1, 2, 3, 4, 5, 6, 7, 8, 9, 10, 11, 12, 13, 14, 15, 16, 17, 18, 19, 20, 21]) (modMac 15 (fun m => { m with enabled := true }) wS)) (entered 0x0B11 (wE [15, 0, 0, 1, 2, 3, 4, 5, 6, 7, 8, 9, 10, 11, 12, 13, 14, 15, 16, 17, 18, 19, 20, 21]) (modMac 15 (fun m => { m with enabled := true }) wS)) := by decide +kernel
theorem witness_subCtrlAlready : Served 0x0B12 (wE [255, 7, 0, 0]) (modSub 2047 (fun x => { x with enabled := true, started := true }) wS) ∧ okSubCtrlAlready (cmdOf 0x0B12 (wE [255, 7, 0, 0]) (modSub 2047 (fun x => { x with enabled := true, started := true }) wS)) (entered 0x0B12 (wE [255, 7, 0, 0]) (modSub 2047 (fun x => { x with enabled := true, started := true }) wS)) := by decide +kernel
theorem witness_subCtrlStart : Served 0x0B12 (wE [255, 7, 0, 0]) (modSub 2047 (fun x => { x with enabled := true, cfg := { x.cfg with kind := 2 } }) wS) ∧ okSubCtrlStart (cmdOf 0x0B12 (wE [255, 7, 0, 0]) (modSub 2047 (fun x => { x with enabled := true, cfg := { x.cfg with kind := 2 } }) wS)) (entered 0x0B12 (wE [255, 7, 0, 0]) (modSub 2047 (fun x => { x with enabled := true, cfg := { x.cfg with kind := 2 } }) wS)) := by decide +kernel
theorem witness_rxFlowOn : Served 0x0B13 (wE [255, 1, 1, 1, 15, 255, 27, 1, 1, 0, 0, 0, 2, 0, 0, 0, 3, 0, 0, 0, 4, 0, 0, 0, 5, 0, 6, 0, 1, 0, 0, 0, 1, 0, 0, 0]) (modMac 15 (fun m => { m with enabled := true }) wS) ∧ okRxFlowOn (cmdOf 0x0B13 (wE [255, 1, 1, 1, 15, 255, 27, 1, 1, 0, 0, 0, 2, 0, 0, 0, 3, 0, 0, 0, 4, 0, 0, 0, 5, 0, 6, 0, 1, 0, 0, 0, 1, 0, 0, 0]) (modMac 15 (fun m => { m with enabled := true }) wS)) (entered 0x0B13 (wE [255, 1, 1, 1, 15, 255, 27, 1, 1, 0, 0, 0, 2, 0, 0, 0, 3, 0, 0, 0, 4, 0, 0, 0, 5, 0, 6, 0, 1, 0, 0, 0, 1, 0, 0, 0]) (modMac 15 (fun m => { m with enabled := true }) wS)) := by decide +kernel
theorem witness_rxFlowOff : Served 0x0B13 (wE [255, 1, 0, 0, 0, 0, 0, 0, 0, 0, 0, 0, 0, 0, 0, 0, 0, 0, 0, 0, 0, 0, 0, 0, 0, 0, 0, 0, 0, 0, 0, 0, 0, 0, 0, 0]) wS ∧ okRxFlowOff (cmdOf 0x0B13 (wE [255, 1, 0, 0, 0, 0, 0, 0, 0, 0, 0, 0, 0, 0, 0, 0, 0, 0, 0, 0, 0, 0, 0, 0, 0, 0, 0, 0, 0, 0, 0, 0, 0, 0, 0, 0]) wS) (entered 0x0B13 (wE [255, 1, 0, 0, 0, 0, 0, 0, 0, 0, 0, 0, 0, 0, 0, 0, 0, 0, 0, 0, 0, 0, 0, 0, 0, 0, 0, 0, 0, 0, 0, 0, 0, 0, 0, 0]) wS) := by decide +kernel
theorem witness_depackOn : Served 0x0B14 (wE [15, 1, 3, 0, 64, 0, 0, 0, 232, 3, 0, 0]) (modPool 3 (fun _ => { used := true, base := 8388608, size := 65536, count := 2, keep := 1, lines := 32, format := samplingLayout 0, stride := 1024, first := 7 }) wS) ∧ okDepackOn (cmdOf 0x0B14 (wE [15, 1, 3, 0, 64, 0, 0, 0, 232, 3, 0, 0]) (modPool 3 (fun _ => { used := true, base := 8388608, size := 65536, count := 2, keep := 1, lines := 32, format := samplingLayout 0, stride := 1024, first := 7 }) wS)) (entered 0x0B14 (wE [15, 1, 3, 0, 64, 0, 0, 0, 232, 3, 0, 0]) (modPool 3 (fun _ => { used := true, base := 8388608, size := 65536, count := 2, keep := 1, lines := 32, format := samplingLayout 0, stride := 1024, first := 7 }) wS)) := by decide +kernel
theorem witness_depackOff : Served 0x0B14 (wE [15, 0, 0, 0, 0, 0, 0, 0, 0, 0, 0, 0]) (modDp 15 (fun x => { x with enabled := true }) wS) ∧ okDepackOff (cmdOf 0x0B14 (wE [15, 0, 0, 0, 0, 0, 0, 0, 0, 0, 0, 0]) (modDp 15 (fun x => { x with enabled := true }) wS)) (entered 0x0B14 (wE [15, 0, 0, 0, 0, 0, 0, 0, 0, 0, 0, 0]) (modDp 15 (fun x => { x with enabled := true }) wS)) := by decide +kernel
theorem witness_streamStatsRead : Served 0x0B15 (wE [1, 1, 255, 1, 1, 0, 0, 0, 0, 16, 0, 0, 0, 0, 0, 0]) { wS with host := { wS.host with linkUp := true, busMaster := true } } ∧ okStreamStatsRead (cmdOf 0x0B15 (wE [1, 1, 255, 1, 1, 0, 0, 0, 0, 16, 0, 0, 0, 0, 0, 0]) { wS with host := { wS.host with linkUp := true, busMaster := true } }) (entered 0x0B15 (wE [1, 1, 255, 1, 1, 0, 0, 0, 0, 16, 0, 0, 0, 0, 0, 0]) { wS with host := { wS.host with linkUp := true, busMaster := true } }) := by decide +kernel
theorem witness_ptpOn : Served 0x0B18 (wE [15, 1, 127, 1, 249, 253, 3, 10, 128, 129, 0, 0]) (modMac 15 (fun m => { m with enabled := true, cfg := { m.cfg with dest := [1] }, rules := [(5, { queue := 0, l4 := 1 })] }) wS) ∧ okPtpOn (cmdOf 0x0B18 (wE [15, 1, 127, 1, 249, 253, 3, 10, 128, 129, 0, 0]) (modMac 15 (fun m => { m with enabled := true, cfg := { m.cfg with dest := [1] }, rules := [(5, { queue := 0, l4 := 1 })] }) wS)) (entered 0x0B18 (wE [15, 1, 127, 1, 249, 253, 3, 10, 128, 129, 0, 0]) (modMac 15 (fun m => { m with enabled := true, cfg := { m.cfg with dest := [1] }, rules := [(5, { queue := 0, l4 := 1 })] }) wS)) := by decide +kernel
theorem witness_ptpOff : Served 0x0B18 (wE [15, 0, 0, 0, 0, 0, 0, 0, 0, 0, 0, 0]) (modPtp 15 (fun p => { p with cfg := { p.cfg with enabled := true } }) wS) ∧ okPtpOff (cmdOf 0x0B18 (wE [15, 0, 0, 0, 0, 0, 0, 0, 0, 0, 0, 0]) (modPtp 15 (fun p => { p with cfg := { p.cfg with enabled := true } }) wS)) (entered 0x0B18 (wE [15, 0, 0, 0, 0, 0, 0, 0, 0, 0, 0, 0]) (modPtp 15 (fun p => { p with cfg := { p.cfg with enabled := true } }) wS)) := by decide +kernel
theorem witness_rigOn : Served 0x0B19 (wE [1, 15, 2, 1, 9, 0, 0, 0]) (modPtp 15 (fun p => { p with cfg := { p.cfg with enabled := true } }) (modMac 15 (fun m => { m with enabled := true, cfg := { m.cfg with dest := [1] }, rules := [(5, { queue := 0, etype := 0x88B7, etypeMask := 0xFFFF })] }) wS)) ∧ okRigOn (cmdOf 0x0B19 (wE [1, 15, 2, 1, 9, 0, 0, 0]) (modPtp 15 (fun p => { p with cfg := { p.cfg with enabled := true } }) (modMac 15 (fun m => { m with enabled := true, cfg := { m.cfg with dest := [1] }, rules := [(5, { queue := 0, etype := 0x88B7, etypeMask := 0xFFFF })] }) wS))) (entered 0x0B19 (wE [1, 15, 2, 1, 9, 0, 0, 0]) (modPtp 15 (fun p => { p with cfg := { p.cfg with enabled := true } }) (modMac 15 (fun m => { m with enabled := true, cfg := { m.cfg with dest := [1] }, rules := [(5, { queue := 0, etype := 0x88B7, etypeMask := 0xFFFF })] }) wS))) := by decide +kernel
theorem witness_rigOff : Served 0x0B19 (wE [0, 0, 0, 0, 0, 0, 0, 0]) wS ∧ okRigOff (cmdOf 0x0B19 (wE [0, 0, 0, 0, 0, 0, 0, 0]) wS) (entered 0x0B19 (wE [0, 0, 0, 0, 0, 0, 0, 0]) wS) := by decide +kernel
theorem witness_dmaChannelSet : Served 0x0C01 (wE [27, 2, 0, 16, 64, 64, 0, 0, 64, 0, 0, 0, 0, 0, 0, 0]) wS ∧ okDmaChannelSet (cmdOf 0x0C01 (wE [27, 2, 0, 16, 64, 64, 0, 0, 64, 0, 0, 0, 0, 0, 0, 0]) wS) (entered 0x0C01 (wE [27, 2, 0, 16, 64, 64, 0, 0, 64, 0, 0, 0, 0, 0, 0, 0]) wS) := by decide +kernel
theorem witness_powerBudgetSet : Served 0x0D01 (wE [224, 46, 0, 0, 32, 78, 0, 0]) wS ∧ okPowerBudgetSet (cmdOf 0x0D01 (wE [224, 46, 0, 0, 32, 78, 0, 0]) wS) (entered 0x0D01 (wE [224, 46, 0, 0, 32, 78, 0, 0]) wS) := by decide +kernel
theorem witness_powerStandby : Served 0x0D02 (wE [2, 0, 0, 0]) { wS with power := { wS.power with state := .idle }, fs := { wS.fs with fillDone := true } } ∧ okPowerStandby (cmdOf 0x0D02 (wE [2, 0, 0, 0]) { wS with power := { wS.power with state := .idle }, fs := { wS.fs with fillDone := true } }) (entered 0x0D02 (wE [2, 0, 0, 0]) { wS with power := { wS.power with state := .idle }, fs := { wS.fs with fillDone := true } }) := by decide +kernel
theorem witness_powerSafelight : Served 0x0D02 (wE [3, 0, 0, 0]) { wS with power := { wS.power with state := .idle } } ∧ okPowerSafelight (cmdOf 0x0D02 (wE [3, 0, 0, 0]) { wS with power := { wS.power with state := .idle } }) (entered 0x0D02 (wE [3, 0, 0, 0]) { wS with power := { wS.power with state := .idle } }) := by decide +kernel
theorem witness_recKeySet : Fetched 0x0A11 (wX 72) (wHost [1, 0, 0, 0, 9, 0, 0, 0, 0, 1, 2, 3, 4, 5, 6, 7, 8, 9, 10, 11, 12, 13, 14, 15, 16, 17, 18, 19, 20, 21, 22, 23, 24, 25, 26, 27, 28, 29, 30, 31, 32, 33, 34, 35, 36, 37, 38, 39, 40, 41, 42, 43, 44, 45, 46, 47, 48, 49, 50, 51, 52, 53, 54, 55, 56, 57, 58, 59, 60, 61, 62, 63] wS) ∧ hostRead ((fetchOf 0x0A11 (wX 72) (wHost [1, 0, 0, 0, 9, 0, 0, 0, 0, 1, 2, 3, 4, 5, 6, 7, 8, 9, 10, 11, 12, 13, 14, 15, 16, 17, 18, 19, 20, 21, 22, 23, 24, 25, 26, 27, 28, 29, 30, 31, 32, 33, 34, 35, 36, 37, 38, 39, 40, 41, 42, 43, 44, 45, 46, 47, 48, 49, 50, 51, 52, 53, 54, 55, 56, 57, 58, 59, 60, 61, 62, 63] wS)).u64 0) 72 (wHost [1, 0, 0, 0, 9, 0, 0, 0, 0, 1, 2, 3, 4, 5, 6, 7, 8, 9, 10, 11, 12, 13, 14, 15, 16, 17, 18, 19, 20, 21, 22, 23, 24, 25, 26, 27, 28, 29, 30, 31, 32, 33, 34, 35, 36, 37, 38, 39, 40, 41, 42, 43, 44, 45, 46, 47, 48, 49, 50, 51, 52, 53, 54, 55, 56, 57, 58, 59, 60, 61, 62, 63] wS) = some ([1, 0, 0, 0, 9, 0, 0, 0, 0, 1, 2, 3, 4, 5, 6, 7, 8, 9, 10, 11, 12, 13, 14, 15, 16, 17, 18, 19, 20, 21, 22, 23, 24, 25, 26, 27, 28, 29, 30, 31, 32, 33, 34, 35, 36, 37, 38, 39, 40, 41, 42, 43, 44, 45, 46, 47, 48, 49, 50, 51, 52, 53, 54, 55, 56, 57, 58, 59, 60, 61, 62, 63]) ∧ okRecKeySet (fetchedCmd 0x0A11 (wX 72) [1, 0, 0, 0, 9, 0, 0, 0, 0, 1, 2, 3, 4, 5, 6, 7, 8, 9, 10, 11, 12, 13, 14, 15, 16, 17, 18, 19, 20, 21, 22, 23, 24, 25, 26, 27, 28, 29, 30, 31, 32, 33, 34, 35, 36, 37, 38, 39, 40, 41, 42, 43, 44, 45, 46, 47, 48, 49, 50, 51, 52, 53, 54, 55, 56, 57, 58, 59, 60, 61, 62, 63] (wHost [1, 0, 0, 0, 9, 0, 0, 0, 0, 1, 2, 3, 4, 5, 6, 7, 8, 9, 10, 11, 12, 13, 14, 15, 16, 17, 18, 19, 20, 21, 22, 23, 24, 25, 26, 27, 28, 29, 30, 31, 32, 33, 34, 35, 36, 37, 38, 39, 40, 41, 42, 43, 44, 45, 46, 47, 48, 49, 50, 51, 52, 53, 54, 55, 56, 57, 58, 59, 60, 61, 62, 63] wS)) (fetchedState 0x0A11 (wX 72) (wHost [1, 0, 0, 0, 9, 0, 0, 0, 0, 1, 2, 3, 4, 5, 6, 7, 8, 9, 10, 11, 12, 13, 14, 15, 16, 17, 18, 19, 20, 21, 22, 23, 24, 25, 26, 27, 28, 29, 30, 31, 32, 33, 34, 35, 36, 37, 38, 39, 40, 41, 42, 43, 44, 45, 46, 47, 48, 49, 50, 51, 52, 53, 54, 55, 56, 57, 58, 59, 60, 61, 62, 63] wS)) := by decide +kernel
theorem witness_streamSubSetArmed : Fetched 0x0B10 (wX 92) (wHost [255, 7, 1, 2, 15, 255, 7, 15, 1, 63, 1, 0, 0, 0, 0, 0, 0, 0, 0, 0, 0, 0, 0, 0, 0, 0, 0, 0, 10, 0, 0, 0, 1, 0, 192, 5, 2, 0, 0, 0, 128, 0, 0, 0, 0, 0, 0, 0, 0, 0, 128, 0, 0, 0, 0, 0, 0, 0, 0, 0, 0, 0, 0, 0, 0, 0, 0, 0, 0, 0, 0, 0, 0, 0, 0, 0, 0, 0, 0, 0, 0, 0, 0, 0, 0, 0, 0, 0, 0, 0, 0, 0] { (modMac 15 (fun m => { m with enabled := true, cfg := { m.cfg with mode := 1, width := 1 } }) wS) with fs := { wS.fs with fillDone := true } }) ∧ hostRead ((fetchOf 0x0B10 (wX 92) (wHost [255, 7, 1, 2, 15, 255, 7, 15, 1, 63, 1, 0, 0, 0, 0, 0, 0, 0, 0, 0, 0, 0, 0, 0, 0, 0, 0, 0, 10, 0, 0, 0, 1, 0, 192, 5, 2, 0, 0, 0, 128, 0, 0, 0, 0, 0, 0, 0, 0, 0, 128, 0, 0, 0, 0, 0, 0, 0, 0, 0, 0, 0, 0, 0, 0, 0, 0, 0, 0, 0, 0, 0, 0, 0, 0, 0, 0, 0, 0, 0, 0, 0, 0, 0, 0, 0, 0, 0, 0, 0, 0, 0] { (modMac 15 (fun m => { m with enabled := true, cfg := { m.cfg with mode := 1, width := 1 } }) wS) with fs := { wS.fs with fillDone := true } })).u64 0) 92 (wHost [255, 7, 1, 2, 15, 255, 7, 15, 1, 63, 1, 0, 0, 0, 0, 0, 0, 0, 0, 0, 0, 0, 0, 0, 0, 0, 0, 0, 10, 0, 0, 0, 1, 0, 192, 5, 2, 0, 0, 0, 128, 0, 0, 0, 0, 0, 0, 0, 0, 0, 128, 0, 0, 0, 0, 0, 0, 0, 0, 0, 0, 0, 0, 0, 0, 0, 0, 0, 0, 0, 0, 0, 0, 0, 0, 0, 0, 0, 0, 0, 0, 0, 0, 0, 0, 0, 0, 0, 0, 0, 0, 0] { (modMac 15 (fun m => { m with enabled := true, cfg := { m.cfg with mode := 1, width := 1 } }) wS) with fs := { wS.fs with fillDone := true } }) = some ([255, 7, 1, 2, 15, 255, 7, 15, 1, 63, 1, 0, 0, 0, 0, 0, 0, 0, 0, 0, 0, 0, 0, 0, 0, 0, 0, 0, 10, 0, 0, 0, 1, 0, 192, 5, 2, 0, 0, 0, 128, 0, 0, 0, 0, 0, 0, 0, 0, 0, 128, 0, 0, 0, 0, 0, 0, 0, 0, 0, 0, 0, 0, 0, 0, 0, 0, 0, 0, 0, 0, 0, 0, 0, 0, 0, 0, 0, 0, 0, 0, 0, 0, 0, 0, 0, 0, 0, 0, 0, 0, 0]) ∧ okStreamSubSetArmed (fetchedCmd 0x0B10 (wX 92) [255, 7, 1, 2, 15, 255, 7, 15, 1, 63, 1, 0, 0, 0, 0, 0, 0, 0, 0, 0, 0, 0, 0, 0, 0, 0, 0, 0, 10, 0, 0, 0, 1, 0, 192, 5, 2, 0, 0, 0, 128, 0, 0, 0, 0, 0, 0, 0, 0, 0, 128, 0, 0, 0, 0, 0, 0, 0, 0, 0, 0, 0, 0, 0, 0, 0, 0, 0, 0, 0, 0, 0, 0, 0, 0, 0, 0, 0, 0, 0, 0, 0, 0, 0, 0, 0, 0, 0, 0, 0, 0, 0] (wHost [255, 7, 1, 2, 15, 255, 7, 15, 1, 63, 1, 0, 0, 0, 0, 0, 0, 0, 0, 0, 0, 0, 0, 0, 0, 0, 0, 0, 10, 0, 0, 0, 1, 0, 192, 5, 2, 0, 0, 0, 128, 0, 0, 0, 0, 0, 0, 0, 0, 0, 128, 0, 0, 0, 0, 0, 0, 0, 0, 0, 0, 0, 0, 0, 0, 0, 0, 0, 0, 0, 0, 0, 0, 0, 0, 0, 0, 0, 0, 0, 0, 0, 0, 0, 0, 0, 0, 0, 0, 0, 0, 0] { (modMac 15 (fun m => { m with enabled := true, cfg := { m.cfg with mode := 1, width := 1 } }) wS) with fs := { wS.fs with fillDone := true } })) (fetchedState 0x0B10 (wX 92) (wHost [255, 7, 1, 2, 15, 255, 7, 15, 1, 63, 1, 0, 0, 0, 0, 0, 0, 0, 0, 0, 0, 0, 0, 0, 0, 0, 0, 0, 10, 0, 0, 0, 1, 0, 192, 5, 2, 0, 0, 0, 128, 0, 0, 0, 0, 0, 0, 0, 0, 0, 128, 0, 0, 0, 0, 0, 0, 0, 0, 0, 0, 0, 0, 0, 0, 0, 0, 0, 0, 0, 0, 0, 0, 0, 0, 0, 0, 0, 0, 0, 0, 0, 0, 0, 0, 0, 0, 0, 0, 0, 0, 0] { (modMac 15 (fun m => { m with enabled := true, cfg := { m.cfg with mode := 1, width := 1 } }) wS) with fs := { wS.fs with fillDone := true } })) := by decide +kernel
theorem witness_streamSubSetUnpaced : Fetched 0x0B10 (wX 92) (wHost [255, 7, 1, 2, 15, 255, 7, 15, 0, 63, 1, 0, 0, 0, 0, 0, 0, 0, 0, 0, 0, 0, 0, 0, 0, 0, 0, 0, 10, 0, 0, 0, 1, 0, 192, 5, 2, 0, 0, 0, 128, 0, 0, 0, 0, 0, 0, 0, 0, 0, 128, 0, 0, 0, 0, 0, 0, 0, 0, 0, 0, 0, 0, 0, 0, 0, 0, 0, 0, 0, 0, 0, 0, 0, 0, 0, 0, 0, 0, 0, 0, 0, 0, 0, 0, 0, 0, 0, 0, 0, 0, 0] { (modMac 15 (fun m => { m with enabled := true, cfg := { m.cfg with mode := 1, width := 1 } }) wS) with fs := { wS.fs with fillDone := true } }) ∧ hostRead ((fetchOf 0x0B10 (wX 92) (wHost [255, 7, 1, 2, 15, 255, 7, 15, 0, 63, 1, 0, 0, 0, 0, 0, 0, 0, 0, 0, 0, 0, 0, 0, 0, 0, 0, 0, 10, 0, 0, 0, 1, 0, 192, 5, 2, 0, 0, 0, 128, 0, 0, 0, 0, 0, 0, 0, 0, 0, 128, 0, 0, 0, 0, 0, 0, 0, 0, 0, 0, 0, 0, 0, 0, 0, 0, 0, 0, 0, 0, 0, 0, 0, 0, 0, 0, 0, 0, 0, 0, 0, 0, 0, 0, 0, 0, 0, 0, 0, 0, 0] { (modMac 15 (fun m => { m with enabled := true, cfg := { m.cfg with mode := 1, width := 1 } }) wS) with fs := { wS.fs with fillDone := true } })).u64 0) 92 (wHost [255, 7, 1, 2, 15, 255, 7, 15, 0, 63, 1, 0, 0, 0, 0, 0, 0, 0, 0, 0, 0, 0, 0, 0, 0, 0, 0, 0, 10, 0, 0, 0, 1, 0, 192, 5, 2, 0, 0, 0, 128, 0, 0, 0, 0, 0, 0, 0, 0, 0, 128, 0, 0, 0, 0, 0, 0, 0, 0, 0, 0, 0, 0, 0, 0, 0, 0, 0, 0, 0, 0, 0, 0, 0, 0, 0, 0, 0, 0, 0, 0, 0, 0, 0, 0, 0, 0, 0, 0, 0, 0, 0] { (modMac 15 (fun m => { m with enabled := true, cfg := { m.cfg with mode := 1, width := 1 } }) wS) with fs := { wS.fs with fillDone := true } }) = some ([255, 7, 1, 2, 15, 255, 7, 15, 0, 63, 1, 0, 0, 0, 0, 0, 0, 0, 0, 0, 0, 0, 0, 0, 0, 0, 0, 0, 10, 0, 0, 0, 1, 0, 192, 5, 2, 0, 0, 0, 128, 0, 0, 0, 0, 0, 0, 0, 0, 0, 128, 0, 0, 0, 0, 0, 0, 0, 0, 0, 0, 0, 0, 0, 0, 0, 0, 0, 0, 0, 0, 0, 0, 0, 0, 0, 0, 0, 0, 0, 0, 0, 0, 0, 0, 0, 0, 0, 0, 0, 0, 0]) ∧ okStreamSubSetUnpaced (fetchedCmd 0x0B10 (wX 92) [255, 7, 1, 2, 15, 255, 7, 15, 0, 63, 1, 0, 0, 0, 0, 0, 0, 0, 0, 0, 0, 0, 0, 0, 0, 0, 0, 0, 10, 0, 0, 0, 1, 0, 192, 5, 2, 0, 0, 0, 128, 0, 0, 0, 0, 0, 0, 0, 0, 0, 128, 0, 0, 0, 0, 0, 0, 0, 0, 0, 0, 0, 0, 0, 0, 0, 0, 0, 0, 0, 0, 0, 0, 0, 0, 0, 0, 0, 0, 0, 0, 0, 0, 0, 0, 0, 0, 0, 0, 0, 0, 0] (wHost [255, 7, 1, 2, 15, 255, 7, 15, 0, 63, 1, 0, 0, 0, 0, 0, 0, 0, 0, 0, 0, 0, 0, 0, 0, 0, 0, 0, 10, 0, 0, 0, 1, 0, 192, 5, 2, 0, 0, 0, 128, 0, 0, 0, 0, 0, 0, 0, 0, 0, 128, 0, 0, 0, 0, 0, 0, 0, 0, 0, 0, 0, 0, 0, 0, 0, 0, 0, 0, 0, 0, 0, 0, 0, 0, 0, 0, 0, 0, 0, 0, 0, 0, 0, 0, 0, 0, 0, 0, 0, 0, 0] { (modMac 15 (fun m => { m with enabled := true, cfg := { m.cfg with mode := 1, width := 1 } }) wS) with fs := { wS.fs with fillDone := true } })) (fetchedState 0x0B10 (wX 92) (wHost [255, 7, 1, 2, 15, 255, 7, 15, 0, 63, 1, 0, 0, 0, 0, 0, 0, 0, 0, 0, 0, 0, 0, 0, 0, 0, 0, 0, 10, 0, 0, 0, 1, 0, 192, 5, 2, 0, 0, 0, 128, 0, 0, 0, 0, 0, 0, 0, 0, 0, 128, 0, 0, 0, 0, 0, 0, 0, 0, 0, 0, 0, 0, 0, 0, 0, 0, 0, 0, 0, 0, 0, 0, 0, 0, 0, 0, 0, 0, 0, 0, 0, 0, 0, 0, 0, 0, 0, 0, 0, 0, 0] { (modMac 15 (fun m => { m with enabled := true, cfg := { m.cfg with mode := 1, width := 1 } }) wS) with fs := { wS.fs with fillDone := true } })) := by decide +kernel
theorem witness_mbDbAccepted : okMbDbAccepted 3 63#32 (modMb 3 (fun m => { m with enable := true, state := .ready, cmdHead := 65535, cmdTail := 65535, rspTail := 5, rspHead := 3 }) wS) := by decide +kernel
theorem witness_mbDbRefused : okMbDbRefused 3 64#32 (modMb 3 (fun m => { m with enable := true, state := .ready, cmdHead := 65535, cmdTail := 65535, rspTail := 5, rspHead := 3 }) wS) := by decide +kernel
theorem witness_mbRspHeadAccepted : okMbRspHeadAccepted 3 0x10005#32 (modMb 3 (fun m => { m with enable := true, state := .ready, cmdHead := 65535, cmdTail := 65535, rspTail := 5, rspHead := 3 }) wS) := by decide +kernel
theorem witness_mbRspHeadRefused : okMbRspHeadRefused 3 6#32 (modMb 3 (fun m => { m with enable := true, state := .ready, cmdHead := 65535, cmdTail := 65535, rspTail := 5, rspHead := 3 }) wS) := by decide +kernel
theorem witness_mailboxReset : okMailboxReset 3 (modMb 3 (fun m => { m with enable := true, state := .ready, cmdHead := 65535, cmdTail := 65535, rspTail := 5, rspHead := 3 }) wS) := by decide +kernel
theorem witness_mailboxResetComplete : okMailboxResetComplete 3 (modMb 3 (fun m => { m with state := .resetting }) wS) := by decide +kernel
theorem witness_entryTake : okEntryTake 3 (modMb 3 (fun m => { m with cmdTail := 0 }) (modMb 3 (fun m => { m with enable := true, state := .ready, cmdHead := 65535, cmdTail := 65535, rspTail := 5, rspHead := 3 }) wS)) := by decide +kernel
theorem witness_extPayloadFails : okExtPayloadFails 3 { mb := 3, opcode := 0x0A11, flags := 1, length := 72 } { wS with host := { wS.host with linkUp := true, busMaster := true }, ctl := { wS.ctl with inflight := [{ mb := 3, opcode := 0x0A11, flags := 1, length := 72 }] } } := by decide +kernel
theorem witness_stepCutLast : okStepCutLast 3 { mb := 3, opcode := 0x0904, phase := .stepping (.dcs 1 5 4) } 1 5 4 (modPanel 1 (fun x => { x with state := .init }) { wS with ctl := { wS.ctl with inflight := [{ mb := 3, opcode := 0x0904, phase := .stepping (.dcs 1 5 4) }] } }) := by decide +kernel
theorem witness_stepCutMore : okStepCutMore 3 { mb := 3, opcode := 0x0904, phase := .stepping (.dcs 1 5 3) } 1 5 3 (modPanel 1 (fun x => { x with state := .init }) { wS with ctl := { wS.ctl with inflight := [{ mb := 3, opcode := 0x0904, phase := .stepping (.dcs 1 5 3) }] } }) := by decide +kernel
theorem witness_stepCutHeld : okStepCutHeld 3 { mb := 3, opcode := 0x0904, phase := .stepping (.dcs 1 5 3) } 1 5 3 (modPanel 1 (fun x => { x with state := .video }) { wS with ctl := { wS.ctl with inflight := [{ mb := 3, opcode := 0x0904, phase := .stepping (.dcs 1 5 3) }] } }) := by decide +kernel
theorem witness_stepCutRested : okStepCutRested 3 { mb := 3, opcode := 0x0904, phase := .stepping (.dcs 1 5 5) } 1 5 5 (modPanel 1 (fun x => { x with state := .init }) { wS with ctl := { wS.ctl with inflight := [{ mb := 3, opcode := 0x0904, phase := .stepping (.dcs 1 5 5) }] } }) := by decide +kernel
theorem witness_lockstepMismatch : okLockstepMismatch wS := by decide +kernel
theorem witness_runWatchdogExpiry : okRunWatchdogExpiry { wS with boot := { wS.boot with ready := true } } := by decide +kernel
theorem witness_controlFailure : okControlFailure { wS with ctl := { wS.ctl with pair := .restarting } } := by decide +kernel
theorem witness_serviceResume : okServiceResume { wS with ctl := { wS.ctl with pair := .restarting, inflight := [{ mb := 3, opcode := 0x0904, phase := .waiting (.eject 1) }] } } := by decide +kernel
theorem witness_tbLatch : okTbLatch { wS with time := { wS.time with tb := { wS.time.tb with now := 77 } } } := by decide +kernel
theorem witness_replicaNear : okReplicaNear 15 (-1) wS := by decide +kernel
theorem witness_replicaFar : okReplicaFar 15 (-2) wS := by decide +kernel
theorem witness_refSignalValid : okRefSignalValid 0 { wS with time := { wS.time with tb := { wS.time.tb with cands := [{ type := 4, state := .lost, rateNum := 24, rateDen := 1 }] } } } := by decide +kernel
theorem witness_refSignalInvalid : okRefSignalInvalid 0 { wS with time := { wS.time with tb := { wS.time.tb with cands := [{ type := 1, state := .qualifying, rateNum := 24, rateDen := 1 }] } } } := by decide +kernel
theorem witness_refQualified : okRefQualified 0 { wS with time := { wS.time with tb := { wS.time.tb with cands := [{ type := 5, state := .qualifying, rateNum := 24, rateDen := 1 }] } } } := by decide +kernel
theorem witness_refLost : okRefLost 0 { wS with time := { wS.time with tb := { wS.time.tb with cands := [{ type := 1, state := .qualified, rateNum := 24, rateDen := 1 }] } } } := by decide +kernel
theorem witness_refLostTimeout : okRefLostTimeout 0 { wS with time := { wS.time with tb := { wS.time.tb with cands := [{ type := 1, state := .lost, rateNum := 24, rateDen := 1 }] } } } := by decide +kernel
theorem witness_refErrorOther : okRefErrorOther 0 50000000 3 { wS with time := { wS.time with tb := { wS.time.tb with cands := [{ type := 1, state := .qualified, rateNum := 24, rateDen := 1 }] } } } := by decide +kernel
theorem witness_refErrorMaster : okRefErrorMaster 0 50000000 300000 (modTb (fun b => { b with master := some 0 }) { wS with time := { wS.time with tb := { wS.time.tb with cands := [{ type := 1, state := .qualified, rateNum := 24, rateDen := 1 }] } } }) := by decide +kernel
theorem witness_slewComplete : okSlewComplete (modTb (fun b => { b with slew := some 5, errFull := -100 }) wS) := by decide +kernel
theorem witness_stepApplyTimeSet : okStepApplyTimeSet 500 (modHd 2 (fun h => { h with enabled := true }) (modTb (fun b => { b with timeSetDue := some 500 }) wS)) := by decide +kernel
theorem witness_stepApplyError : okStepApplyError 5 (modHd 2 (fun h => { h with enabled := true }) (modTb (fun b => { b with stepDue := some 5 }) wS)) := by decide +kernel
theorem witness_headRealignOne : okHeadRealignOne 3 { (modHd 3 (fun h => { h with enabled := true }) wS) with time := { wS.time with tb := { wS.time.tb with heads := [(3, { lag := true, realignDue := true })] } } } := by decide +kernel
theorem witness_headRealignPair : okHeadRealignPair 2 { (modHd 2 (fun h => { h with enabled := true, pair := true }) wS) with time := { wS.time with tb := { wS.time.tb with heads := [(2, { lag := true, realignDue := true })] } } } := by decide +kernel
theorem witness_headConvergedMoved : okHeadConvergedMoved 3 { (modHd 3 (fun h => { h with enabled := true, realign := true }) wS) with time := { wS.time with tb := { wS.time.tb with heads := [(3, { lag := true, realignDue := false })] } } } := by decide +kernel
theorem witness_headConvergedOne : okHeadConvergedOne 3 { (modHd 3 (fun h => { h with enabled := true }) wS) with time := { wS.time with tb := { wS.time.tb with heads := [(3, { lag := true, realignDue := false })] } } } := by decide +kernel
theorem witness_headConvergedPair : okHeadConvergedPair 2 { (modHd 2 (fun h => { h with enabled := true, pair := true }) wS) with time := { wS.time with tb := { wS.time.tb with heads := [(2, { lag := true, realignDue := false })] } } } := by decide +kernel
theorem witness_referenceFramePlain : okReferenceFramePlain { wS with time := { wS.time with tb := { wS.time.tb with now := 65536000000000 } } } := by decide +kernel
theorem witness_referenceFrameLabelled : okReferenceFrameLabelled { wS with time := { wS.time with tb := { wS.time.tb with now := 65536000000000 }, tc := { wS.time.tc with running := true } } } := by decide +kernel
theorem witness_referenceFrameRaster : okReferenceFrameRaster { num := 24000, den := 1000, lines := 1125, samples := 2200, offsetNs := 5 } { wS with time := { wS.time with tb := { wS.time.tb with now := 65536000000000 }, refPending := some { num := 24000, den := 1000, lines := 1125, samples := 2200, offsetNs := 5 } } } := by decide +kernel
theorem witness_ltcGone : okLtcGone false 0 0 0 0 { wS with time := { wS.time with tc := { wS.time.tc with ltcValid := true } } } := by decide +kernel
theorem witness_ltcArmed : okLtcArmed true 1 2 3 4 { wS with time := { wS.time with tc := { wS.time.tc with running := true, armed := true, mode := { wS.time.tc.mode with mode := 1 } } } } := by decide +kernel
theorem witness_ltcKept : okLtcKept true 1 2 3 4 wS := by decide +kernel
theorem witness_captureMarker : okCaptureMarker 0 { wS with time := { wS.time with cap := { wS.time.cap with hasBoundary := true, boundary := 900, markers := [5, 6] } } } := by decide +kernel
theorem witness_captureDriven : okCaptureDriven (modSyn 8 (fun y => { y with gated := false }) { wS with time := { wS.time with cap := { wS.time.cap with mode := { wS.time.cap.mode with drive := true } } } }) := by decide +kernel
theorem witness_captureMarkerTimeout : okCaptureMarkerTimeout { wS with time := { wS.time with tb := { wS.time.tb with now := 20 }, cap := { wS.time.cap with hasBoundary := true, lastMarker := 2, period := 9 } } } := by decide +kernel
theorem witness_captureContinuationFrame : okCaptureContinuationFrame { wS with time := { wS.time with cap := { wS.time.cap with continuing := true, hasBoundary := true, period := 9 } } } := by decide +kernel
theorem witness_rampUpdate : okRampUpdate { segs := [{ endRate := 48000000, duration := 10 }], startNum := 24000000, startDen := 1, tUs := 3 } { endRate := 48000000, duration := 10 } [] (modSyn 8 (fun y => { y with gated := false }) { wS with time := { wS.time with cap := { wS.time.cap with mode := { wS.time.cap.mode with drive := true, lines := 100 } }, ramp := { wS.time.ramp with run := some { segs := [{ endRate := 48000000, duration := 10 }], startNum := 24000000, startDen := 1, tUs := 3 } } } }) := by decide +kernel
theorem witness_rampEnd : okRampEnd { segs := [{ endRate := 48000000, duration := 10 }], startNum := 24000000, startDen := 1, tUs := 10 } { endRate := 48000000, duration := 10 } { wS with time := { wS.time with ramp := { wS.time.ramp with run := some { segs := [{ endRate := 48000000, duration := 10 }], startNum := 24000000, startDen := 1, tUs := 10 } } } } := by decide +kernel
theorem witness_synLossOfLock : okSynLossOfLock 9 (modSyn 9 (fun y => { y with state := .locked }) wS) := by decide +kernel
theorem witness_synLockTimeout : okSynLockTimeout 11 (modSyn 11 (fun y => { y with state := .acquiring }) wS) := by decide +kernel
theorem witness_synLockDeclared : okSynLockDeclared 9 63 5 70000 (modSyn 9 (fun y => { y with state := .acquiring, searching := true, attempts := 2 }) wS) := by decide +kernel
theorem witness_synLockWaits : okSynLockWaits 2 63 5 70000 (modHd 2 (fun h => { h with pair := true }) (modSyn 2 (fun y => { y with state := .acquiring }) wS)) := by decide +kernel
theorem witness_synRelockAgain : okSynRelockAgain 11 (modSyn 11 (fun y => { y with state := .acquiring, attempts := 2 }) wS) := by decide +kernel
theorem witness_synRelockFailed : okSynRelockFailed 11 (modSyn 11 (fun y => { y with state := .acquiring, attempts := 3 }) wS) := by decide +kernel
theorem witness_cachedBandTimeout : okCachedBandTimeout 11 (modSyn 11 (fun y => { y with state := .acquiring, cacheHit := true, cache := [{ vcoMhz := 1 }, { vcoMhz := vcoMhz 11 y.words, refMode := y.words.refMode }] }) wS) := by decide +kernel
theorem witness_synUpdatePoint : okSynUpdatePoint 11 (modSyn 11 (fun y => { y with cfgShadow := some { seed := 9 } }) wS) := by decide +kernel
theorem witness_synUpdatePair : okSynUpdatePair 3 (modHd 2 (fun h => { h with pair := true }) wS) := by decide +kernel
theorem witness_trackingLoopUpdate : okTrackingLoopUpdate 7 (-5) wS := by decide +kernel
theorem witness_occurrenceArm : okOccurrenceArm 5 0 (modSlot 5 (fun x => { x with enabled := true, content := { action := 6 } }) wS) := by decide +kernel
theorem witness_occurrenceWithdrawn : okOccurrenceWithdrawn 5 { frame := 0, instant := 7 } (modSlot 5 (fun x => { x with enabled := true, armed := some { frame := 0, instant := 7 }, content := { kind := 3, unit := 2 } }) (modSyn 2 (fun y => { y with gated := true }) (modHd 2 (fun h => { h with enabled := true }) wS))) := by decide +kernel
theorem witness_occurrenceRises : okOccurrenceRises 5 { frame := 0, instant := 7 } { (modSlot 5 (fun x => { x with enabled := true, armed := some { frame := 0, instant := 7 }, content := { action := 1, pin := 3 } }) wS) with sched := { (modSlot 5 (fun x => { x with enabled := true, armed := some { frame := 0, instant := 7 }, content := { action := 1, pin := 3 } }) wS).sched with pins := [(3, { outputEn := true, trim := 2 })] } } := by decide +kernel
theorem witness_pulseStop : okPulseStop 5 { slot := 5, pin := 2, stop := 9 } { wS with sched := { wS.sched with pulses := [{ slot := 5, pin := 2, stop := 9 }] } } := by decide +kernel
theorem witness_snapshotComplete : okSnapshotComplete 5 6 { wS with sched := { wS.sched with snap := { wS.sched.snap with running := some (5, 6) } } } := by decide +kernel
theorem witness_fsReadClean : okFsReadClean 8388610 (modChan 8 (fun x => { x with pdRanks := [0, 1] }) (modChan 2 (fun x => { x with pdRanks := [1] }) (wFilled wS))) := by decide +kernel
theorem witness_fsReadCorrected : okFsReadCorrected 8388610 { (wFilled wS) with fs := { (wFilled wS).fs with ecc := [(131072, { symbols := 1 })] } } := by decide +kernel
theorem witness_fsReadUncorrectable : okFsReadUncorrectable 8388610 { (wFilled wS) with fs := { (wFilled wS).fs with ecc := [(131072, { symbols := 2 })] } } := by decide +kernel
theorem witness_fsReadBeyond : okFsReadBeyond 1000000000000 wS := by decide +kernel
theorem witness_fsReadUnfilled : okFsReadUnfilled 8388610 { wS with fs := { wS.fs with up := true } } := by decide +kernel
theorem witness_correctedLine : 131072 ≤ 131072 ∧ tabGet wS.fs.raw 131072 = none := by decide +kernel
theorem witness_fsWriteLineWhole : okFsWriteLineWhole 131072 (List.replicate 64 7) { (wFilled wS) with fs := { (wFilled wS).fs with ecc := [(131072, { symbols := 1 })] } } := by decide +kernel
theorem witness_fsWritePoisons : okFsWritePoisons 8388610 [7, 8] { (wFilled wS) with fs := { (wFilled wS).fs with ecc := [(131072, { symbols := 2 })] } } := by decide +kernel
theorem witness_fsWriteMerged : okFsWriteMerged 8388610 [7, 8] (wFilled wS) := by decide +kernel
theorem witness_fsWriteDead : okFsWriteDead 131072 (List.replicate 64 7) (modChan 8 (fun x => { x with state := .failed }) (wFilled wS)) := by decide +kernel
theorem witness_patrolClean : okPatrolClean (wFilled wS) := by decide +kernel
theorem witness_patrolPassEnds : okPatrolPassEnds (forUpTo 16 (fun c s => modChan c (fun x => { x with state := .retired }) s) { (wFilled wS) with fs := { (wFilled wS).fs with patrol := { (wFilled wS).fs.patrol with line := 1000000000000, pass := 2, corrected := [5] } } }) := by decide +kernel
theorem witness_startupFillStep : okStartupFillStep { wS with fs := { wS.fs with up := true, fillPtr := 16384, ecc := [(16777216, { symbols := 1 })] } } := by decide +kernel
theorem witness_startupFillReserve : okStartupFillReserve { wS with fs := { wS.fs with up := true, fillPtr := capacityUnits wS, loose := [(5, 1)] } } := by decide +kernel
theorem witness_zeroRange64 : 131072 ≤ 131072 ∧ 0 % 64 = 0 ∧ 16777216 % 64 = 0 ∧ 64 * 131072 < 16777216 ∧ tabWf wS.fs.mem = true ∧ tabWf wS.fs.ecc = true := by decide +kernel
theorem witness_startupFillDone : okStartupFillDone { wS with fs := { wS.fs with up := true, fillPtr := capacityUnits wS } } := by decide +kernel
theorem witness_channelTrained : okChannelTrained 3 (modChan 3 (fun x => { x with trained := false }) wOn) := by decide +kernel
theorem witness_channelUntrained : okChannelUntrained 3 { (modChan 3 (fun x => { x with trained := false }) wOn) with fs := { (modChan 3 (fun x => { x with trained := false }) wOn).fs with up := false } } := by decide +kernel
theorem witness_channelNotAgain : okChannelNotAgain 3 true (modChan 3 (fun x => { x with trained := true }) wOn) := by decide +kernel
theorem witness_wckOscRead : okWckOscRead 3 1 (-5) (modChan 3 (fun x => { x with trained := true }) wS) := by decide +kernel
theorem witness_nudgeSmall : okNudgeSmall 3 1 (-2) (modChan 3 (fun x => { x with nudgeDue := some (1, -2), nudge0 := 14 }) wS) := by decide +kernel
theorem witness_nudgeReachesLimit : okNudgeReachesLimit 3 2 (-2) (modChan 3 (fun x => { x with nudgeDue := some (2, -2), nudge0 := 14 }) wS) := by decide +kernel
theorem witness_nudgePauses : okNudgePauses 3 (modChan 3 (fun x => { x with nudgeDue := some (2, -2) }) { wS with ctl := { wS.ctl with pair := .restarting } }) := by decide +kernel
theorem witness_pollChannel : (chanAt (modChan 3 (fun x => { x with trained := true }) wS) 3).trained = true ∧ (chanAt (modChan 3 (fun x => { x with trained := true }) wS) 3).mult < bandMult 2 ∧ 2 < 3 := by decide +kernel
theorem witness_hottest : 0 < wS.fs.cfg.ranks := by decide +kernel
theorem witness_migrationGranuleCopy : okMigrationGranuleCopy 3 (modChan 3 (fun x => { x with state := .retiring }) (wFilled { wS with fs := { wS.fs with up := true, cfg := { wS.fs.cfg with reserve := true } } })) := by decide +kernel
theorem witness_copyLine : (fsReadLine 131072 wS).1.length = 64 := by decide +kernel
theorem witness_migrationComplete : okMigrationComplete 3 { (modChan 3 (fun x => { x with state := .retiring }) (wFilled { wS with fs := { wS.fs with up := true, cfg := { wS.fs.cfg with reserve := true } } })) with fs := { (modChan 3 (fun x => { x with state := .retiring }) (wFilled { wS with fs := { wS.fs with up := true, cfg := { wS.fs.cfg with reserve := true } } })).fs with migrateNext := chanGranules (wFilled { wS with fs := { wS.fs with up := true, cfg := { wS.fs.cfg with reserve := true } } }) } } := by decide +kernel
theorem witness_rankPowerDownEntry : okRankPowerDownEntry 3 1 { wS with fs := { wS.fs with pdIdle := 5, cfg := { wS.fs.cfg with ranks := 2 } } } := by decide +kernel
theorem witness_channelFail : okChannelFail 3 { wS with fs := { wS.fs with autoRetire := false } } := by decide +kernel
theorem witness_channelFailRetires : okChannelFailRetires 3 { wS with fs := { wS.fs with autoRetire := true, cfg := { wS.fs.cfg with reserve := true } } } := by decide +kernel
theorem witness_channelFailRetiring : okChannelFailRetiring 3 (modChan 3 (fun x => { x with state := .retiring }) wS) := by decide +kernel
theorem witness_ledgerAcquired : okLedgerAcquired 2 0 3 7 false (modBuf 8 (fun b => { b with state := .published, frame := 3 }) (modPool 3 (fun _ => { used := true, base := 8388608, size := 65536, count := 2, keep := 1, lines := 32, format := 0x41, stride := 1024, first := 7 }) (wFilled wS))) := by decide +kernel
theorem witness_ledgerEmpty : okLedgerEmpty 2 0 3 (modBuf 7 (fun b => { b with state := .published }) (modBuf 8 (fun b => { b with state := .published, frame := 3 }) (modPool 3 (fun _ => { used := true, base := 8388608, size := 65536, count := 2, keep := 1, lines := 32, format := 0x41, stride := 1024, first := 7 }) (wFilled wS)))) := by decide +kernel
theorem witness_ledgerPublish : okLedgerPublish 2 0 8 5 6 7 3 (modBuf 8 (fun b => { b with state := .owned, owner := 4096 }) (modPool 3 (fun _ => { used := true, base := 8388608, size := 65536, count := 2, keep := 1, lines := 32, format := 0x41, stride := 1024, first := 7 }) (wFilled wS))) := by decide +kernel
theorem witness_ledgerPublishRejected : okLedgerPublishRejected 2 0 8 5 6 7 (modBuf 8 (fun b => { b with state := .published, frame := 3 }) (modPool 3 (fun _ => { used := true, base := 8388608, size := 65536, count := 2, keep := 1, lines := 32, format := 0x41, stride := 1024, first := 7 }) (wFilled wS))) := by decide +kernel
theorem witness_ledgerDiscard : okLedgerDiscard 2 0 8 (modBuf 8 (fun b => { b with state := .owned, owner := 4096 }) (modPool 3 (fun _ => { used := true, base := 8388608, size := 65536, count := 2, keep := 1, lines := 32, format := 0x41, stride := 1024, first := 7 }) (wFilled wS))) := by decide +kernel
theorem witness_ledgerDiscardIgnored : okLedgerDiscardIgnored 2 0 9 (modBuf 8 (fun b => { b with state := .owned, owner := 4096 }) (modPool 3 (fun _ => { used := true, base := 8388608, size := 65536, count := 2, keep := 1, lines := 32, format := 0x41, stride := 1024, first := 7 }) (wFilled wS))) := by decide +kernel
theorem witness_ledgerRefTake : okLedgerRefTake 3 1 8 false (modBuf 8 (fun b => { b with state := .published, frame := 3 }) (modPool 3 (fun _ => { used := true, base := 8388608, size := 65536, count := 2, keep := 1, lines := 32, format := 0x41, stride := 1024, first := 7 }) (wFilled wS))) := by decide +kernel
theorem witness_ledgerRefTakeFull : okLedgerRefTakeFull 3 1 8 false 3 { (modBuf 8 (fun b => { b with state := .published, frame := 3 }) (modPool 3 (fun _ => { used := true, base := 8388608, size := 65536, count := 2, keep := 1, lines := 32, format := 0x41, stride := 1024, first := 7 }) (wFilled wS))) with ledger := { (modBuf 8 (fun b => { b with state := .published, frame := 3 }) (modPool 3 (fun _ => { used := true, base := 8388608, size := 65536, count := 2, keep := 1, lines := 32, format := 0x41, stride := 1024, first := 7 }) (wFilled wS))).ledger with refs := List.replicate 255 { buf := 8, token := 9 } } } := by decide +kernel
theorem witness_ledgerRefRelease : okLedgerRefRelease 3 1 8 { (modBuf 8 (fun b => { b with state := .published, frame := 3 }) (modPool 3 (fun _ => { used := true, base := 8388608, size := 65536, count := 2, keep := 1, lines := 32, format := 0x41, stride := 1024, first := 7 }) (wFilled wS))) with ledger := { (modBuf 8 (fun b => { b with state := .published, frame := 3 }) (modPool 3 (fun _ => { used := true, base := 8388608, size := 65536, count := 2, keep := 1, lines := 32, format := 0x41, stride := 1024, first := 7 }) (wFilled wS))).ledger with refs := [{ buf := 8, token := 6208 }] } } := by decide +kernel
theorem witness_stale : tokStale (resetAgent 1 0 wS) 2048 = true := by decide +kernel
theorem witness_agentResetReclaim : okAgentResetReclaim 7 3 14528 { wS with ledger := { wS.ledger with drains := [14528] } } := by decide +kernel
theorem witness_bar2ReadLine : okBar2ReadLine 128 131074 { wOn with host := { wS.host with apBase := 8 } } := by decide +kernel
theorem witness_bar2ReadOff : okBar2ReadOff 128 131074 { (modDom 12 (fun d => { d with level := .off }) wOn) with host := { wS.host with apBase := 8 } } := by decide +kernel
theorem witness_bar2WriteLine : okBar2WriteLine 128 131074 (List.replicate 64 7) { wOn with host := { wS.host with apBase := 8 } } := by decide +kernel
theorem witness_bar2WriteMap : okBar2WriteMap 128 2 (List.replicate 64 7) wOn := by decide +kernel
theorem witness_kmlMarkerReceived : okKmlMarkerReceived 0 2 0 5 9 1 { corrected := 3 } (modMac 2 (fun x => { x with enabled := true, cfg := { mode := 6, role := 1, first := 0, width := 1, linkId := 5, maxFrame := 1600 }, filter := [(0, { valid := true, addr := [0, 1, 2, 3, 4, 5] })], lk := { x.lk with link := .up } }) (modLane 0 (fun l => { l with use := 1, mac := 2, rxLogical := 0, seq := 4, marker := true, groupOk := true }) wS)) := by decide +kernel
theorem witness_recordMarker : 0 < 24 := by decide
theorem witness_placeLane : 0 ∈ macLanes (macAt (modMac 2 (fun x => { x with enabled := true, cfg := { mode := 6, role := 1, first := 0, width := 1, linkId := 5, maxFrame := 1600 }, filter := [(0, { valid := true, addr := [0, 1, 2, 3, 4, 5] })], lk := { x.lk with link := .up } }) (modLane 0 (fun l => { l with use := 1, mac := 2, rxLogical := 0, seq := 4, marker := true, groupOk := true }) wS)) 2) ∧ (macLanes (macAt (modMac 2 (fun x => { x with enabled := true, cfg := { mode := 6, role := 1, first := 0, width := 1, linkId := 5, maxFrame := 1600 }, filter := [(0, { valid := true, addr := [0, 1, 2, 3, 4, 5] })], lk := { x.lk with link := .up } }) (modLane 0 (fun l => { l with use := 1, mac := 2, rxLogical := 0, seq := 4, marker := true, groupOk := true }) wS)) 2) ++ spareLanes (macAt (modMac 2 (fun x => { x with enabled := true, cfg := { mode := 6, role := 1, first := 0, width := 1, linkId := 5, maxFrame := 1600 }, filter := [(0, { valid := true, addr := [0, 1, 2, 3, 4, 5] })], lk := { x.lk with link := .up } }) (modLane 0 (fun l => { l with use := 1, mac := 2, rxLogical := 0, seq := 4, marker := true, groupOk := true }) wS)) 2)).Nodup := by decide +kernel
theorem witness_adaptTimeout : okAdaptTimeout 2 (modMac 2 (fun x => { x with enabled := true, cfg := { mode := 6, role := 1, first := 0, width := 1, linkId := 5, maxFrame := 1600 }, lk := { x.lk with link := .adapt } }) (modLane 0 (fun l => { l with use := 1, mac := 2 }) wS)) := by decide +kernel
theorem witness_laneFaultPlain : okLaneFaultPlain 0 2 1 (modMac 2 (fun x => { x with enabled := true, cfg := { mode := 1, role := 0, first := 0, width := 1, maxFrame := 1600, defaultQ := 255 }, lk := { x.lk with link := .up } }) (modLane 0 (fun l => { l with use := 1, mac := 2 }) wS)) := by decide +kernel
theorem witness_laneFaultNotUp : okLaneFaultNotUp 0 2 2 (modMac 2 (fun x => { x with enabled := true, cfg := { mode := 6, role := 1, first := 0, width := 1, linkId := 5, maxFrame := 1600 }, lk := { x.lk with link := .adapt } }) (modLane 0 (fun l => { l with use := 1, mac := 2 }) wS)) := by decide +kernel
theorem witness_laneFaultNoSpare : okLaneFaultNoSpare 0 2 3 (modMac 2 (fun x => { x with enabled := true, cfg := { mode := 6, role := 1, first := 0, width := 1, linkId := 5, maxFrame := 1600 }, filter := [(0, { valid := true, addr := [0, 1, 2, 3, 4, 5] })], lk := { x.lk with link := .up } }) (modLane 0 (fun l => { l with use := 1, mac := 2, rxLogical := 0, seq := 4, marker := true, groupOk := true }) wS)) := by decide +kernel
theorem witness_txMarkerPoint : okTxMarkerPoint 2 (modMac 2 (fun x => { x with enabled := true, cfg := { mode := 6, role := 1, first := 0, width := 1, linkId := 5, maxFrame := 1600 }, lk := { x.lk with link := .adapt } }) (modLane 0 (fun l => { l with use := 1, mac := 2 }) wS)) := by decide +kernel
theorem witness_sendMarkers : 0 ∈ macLanes (macAt (modMac 2 (fun x => { x with enabled := true, cfg := { mode := 6, role := 1, first := 0, width := 1, linkId := 5, maxFrame := 1600 }, filter := [(0, { valid := true, addr := [0, 1, 2, 3, 4, 5] })], lk := { x.lk with link := .up } }) (modLane 0 (fun l => { l with use := 1, mac := 2, rxLogical := 0, seq := 4, marker := true, groupOk := true }) wS)) 2) ++ spareLanes (macAt (modMac 2 (fun x => { x with enabled := true, cfg := { mode := 6, role := 1, first := 0, width := 1, linkId := 5, maxFrame := 1600 }, filter := [(0, { valid := true, addr := [0, 1, 2, 3, 4, 5] })], lk := { x.lk with link := .up } }) (modLane 0 (fun l => { l with use := 1, mac := 2, rxLogical := 0, seq := 4, marker := true, groupOk := true }) wS)) 2) ∧ (macLanes (macAt (modMac 2 (fun x => { x with enabled := true, cfg := { mode := 6, role := 1, first := 0, width := 1, linkId := 5, maxFrame := 1600 }, filter := [(0, { valid := true, addr := [0, 1, 2, 3, 4, 5] })], lk := { x.lk with link := .up } }) (modLane 0 (fun l => { l with use := 1, mac := 2, rxLogical := 0, seq := 4, marker := true, groupOk := true }) wS)) 2) ++ spareLanes (macAt (modMac 2 (fun x => { x with enabled := true, cfg := { mode := 6, role := 1, first := 0, width := 1, linkId := 5, maxFrame := 1600 }, filter := [(0, { valid := true, addr := [0, 1, 2, 3, 4, 5] })], lk := { x.lk with link := .up } }) (modLane 0 (fun l => { l with use := 1, mac := 2, rxLogical := 0, seq := 4, marker := true, groupOk := true }) wS)) 2)).Nodup := by decide +kernel
theorem witness_codeword : (List.replicate 20 (5 : Nat)).length = 20 := by decide
theorem witness_ethLinkUp : okEthLinkUp 2 { pcsErrors := 2 } (modMac 2 (fun x => { x with enabled := true, cfg := { mode := 1, role := 0, first := 0, width := 1, maxFrame := 1600, defaultQ := 255 }, lk := { x.lk with link := .down } }) (modLane 0 (fun l => { l with use := 1, mac := 2 }) wS)) := by decide +kernel
theorem witness_ethLinkDown : okEthLinkDown 2 true true false {} (modMac 2 (fun x => { x with enabled := true, cfg := { mode := 1, role := 0, first := 0, width := 1, maxFrame := 1600, defaultQ := 255 }, lk := { x.lk with link := .up } }) (modLane 0 (fun l => { l with use := 1, mac := 2 }) wS)) := by decide +kernel
theorem witness_linkRises : linkUp (macAt (modMac 2 (fun x => { x with enabled := true, cfg := { mode := 6, role := 1, first := 0, width := 1, linkId := 5, maxFrame := 1600 }, lk := { x.lk with link := .adapt } }) (modLane 0 (fun l => { l with use := 1, mac := 2 }) wS)) 2) = false ∧ linkUp (macAt (modMac 2 (fun x => { x with lk := { x.lk with link := .up } }) (modMac 2 (fun x => { x with enabled := true, cfg := { mode := 6, role := 1, first := 0, width := 1, linkId := 5, maxFrame := 1600 }, lk := { x.lk with link := .adapt } }) (modLane 0 (fun l => { l with use := 1, mac := 2 }) wS))) 2) = true := by decide +kernel
theorem witness_frameShort : okFrameShort 2 [1, 2] false (modMac 2 (fun x => { x with enabled := true, cfg := { mode := 1, role := 0, first := 0, width := 1, maxFrame := 1600, defaultQ := 255 }, lk := { x.lk with link := .up } }) (modLane 0 (fun l => { l with use := 1, mac := 2 }) wS)) := by decide +kernel
theorem witness_frameBadFcs : okFrameBadFcs 2 (List.replicate 60 0) (modMac 2 (fun x => { x with enabled := true, cfg := { mode := 1, role := 0, first := 0, width := 1, maxFrame := 1600, defaultQ := 255 }, lk := { x.lk with link := .up } }) (modLane 0 (fun l => { l with use := 1, mac := 2 }) wS)) := by decide +kernel
theorem witness_frameLong : okFrameLong 2 (List.replicate 2000 0) (modMac 2 (fun x => { x with enabled := true, cfg := { mode := 6, role := 1, first := 0, width := 1, linkId := 5, maxFrame := 1600 }, filter := [(0, { valid := true, addr := [0, 1, 2, 3, 4, 5] })], lk := { x.lk with link := .up } }) (modLane 0 (fun l => { l with use := 1, mac := 2, rxLogical := 0, seq := 4, marker := true, groupOk := true }) wS)) := by decide +kernel
theorem witness_frameGood : okFrameGood 2 (List.replicate 60 0) (modMac 2 (fun x => { x with enabled := true, cfg := { mode := 1, role := 0, first := 0, width := 1, maxFrame := 1600, defaultQ := 255 }, lk := { x.lk with link := .up } }) (modLane 0 (fun l => { l with use := 1, mac := 2 }) wS)) := by decide +kernel
theorem witness_steerNone : isControl (List.replicate 60 0) = false ∧ (macAt (modMac 2 (fun x => { x with enabled := true, cfg := { mode := 1, role := 0, first := 0, width := 1, maxFrame := 1600, defaultQ := 255 }, lk := { x.lk with link := .up } }) (modLane 0 (fun l => { l with use := 1, mac := 2 }) wS)) 2).cfg.role = 0 ∧ steer (macAt (modMac 2 (fun x => { x with enabled := true, cfg := { mode := 1, role := 0, first := 0, width := 1, maxFrame := 1600, defaultQ := 255 }, lk := { x.lk with link := .up } }) (modLane 0 (fun l => { l with use := 1, mac := 2 }) wS)) 2) (List.replicate 60 0) = none := by decide +kernel
theorem witness_pauseFrame : isControl (List.replicate 12 0 ++ [0x88, 8, 0, 1, 0, 9]) = true ∧ be16 (List.replicate 12 0 ++ [0x88, 8, 0, 1, 0, 9]) 14 = 1 ∧ be16 (List.replicate 12 0 ++ [0x88, 8, 0, 1, 0, 9]) 16 = 9 := by decide +kernel
theorem witness_filterNone : isControl (List.replicate 60 0) = false ∧ (macAt (modMac 2 (fun x => { x with enabled := true, cfg := { mode := 6, role := 1, first := 0, width := 1, linkId := 5, maxFrame := 1600 }, filter := [(0, { valid := true, addr := [0, 1, 2, 3, 4, 5] })], lk := { x.lk with link := .up } }) (modLane 0 (fun l => { l with use := 1, mac := 2, rxLogical := 0, seq := 4, marker := true, groupOk := true }) wS)) 2).cfg.role ≠ 0 ∧ filterPass (macAt (modMac 2 (fun x => { x with enabled := true, cfg := { mode := 6, role := 1, first := 0, width := 1, linkId := 5, maxFrame := 1600 }, filter := [(0, { valid := true, addr := [0, 1, 2, 3, 4, 5] })], lk := { x.lk with link := .up } }) (modLane 0 (fun l => { l with use := 1, mac := 2, rxLogical := 0, seq := 4, marker := true, groupOk := true }) wS)) 2) (List.replicate 60 0) = false := by decide +kernel
theorem witness_otherControl : isControl (List.replicate 12 0 ++ [0x88, 8, 1, 1, 0, 9]) = true ∧ be16 (List.replicate 12 0 ++ [0x88, 8, 1, 1, 0, 9]) 14 ≠ 1 := by decide +kernel
theorem witness_txFrameStart : okTxFrameStart 2 1 { bytes := [1, 2, 3], queue := 1, owner := 0 } (modMac 2 (fun x => { x with tx := { x.tx with waiting := [{ bytes := [9], queue := 0 }, { bytes := [1, 2, 3], queue := 1, owner := 0 }] } }) (modMac 2 (fun x => { x with enabled := true, cfg := { mode := 1, role := 0, first := 0, width := 1, maxFrame := 1600, defaultQ := 255 }, lk := { x.lk with link := .up } }) (modLane 0 (fun l => { l with use := 1, mac := 2 }) wS))) := by decide +kernel
theorem witness_txFrameWaits : okTxFrameWaits 2 1 { bytes := List.replicate 3000 7, queue := 1 } (modMac 2 (fun x => { x with tx := { x.tx with waiting := [{ bytes := List.replicate 32000 9, queue := 0 }, { bytes := List.replicate 3000 7, queue := 1 }] } }) (modMac 2 (fun x => { x with enabled := true, cfg := { mode := 1, role := 0, first := 0, width := 1, maxFrame := 1600, defaultQ := 255 }, lk := { x.lk with link := .up } }) (modLane 0 (fun l => { l with use := 1, mac := 2 }) wS))) := by decide +kernel
theorem witness_txUnderrun : okTxUnderrun 2 77 { bytes := [1, 2, 3], queue := 1, owner := 0 } (modMac 2 (fun x => { x with tx := { x.tx with cur := some { bytes := [1, 2, 3], queue := 1, owner := 0 } } }) (modMac 2 (fun x => { x with enabled := true, cfg := { mode := 1, role := 0, first := 0, width := 1, maxFrame := 1600, defaultQ := 255 }, lk := { x.lk with link := .up } }) (modLane 0 (fun l => { l with use := 1, mac := 2 }) wS))) := by decide +kernel
theorem witness_txFrameEnd : okTxFrameEnd 2 { bytes := List.replicate 61 3, queue := 1, owner := 0 } (modMac 2 (fun x => { x with tx := { x.tx with cur := some { bytes := List.replicate 61 3, queue := 1, owner := 0 } } }) (modMac 2 (fun x => { x with enabled := true, cfg := { mode := 1, role := 0, first := 0, width := 1, maxFrame := 1600, defaultQ := 255 }, lk := { x.lk with link := .up } }) (modLane 0 (fun l => { l with use := 1, mac := 2 }) wS))) := by decide +kernel
theorem witness_onWire : isKml (macAt (modMac 2 (fun x => { x with enabled := true, cfg := { mode := 1, role := 0, first := 0, width := 1, maxFrame := 1600, defaultQ := 255 }, lk := { x.lk with link := .up } }) (modLane 0 (fun l => { l with use := 1, mac := 2 }) wS)) 2) = false := by decide +kernel
theorem witness_pauseTimerExpiry : okPauseTimerExpiry 2 (modMac 2 (fun x => { x with tx := { x.tx with paused := true, quanta := 8 } }) { wS with time := { wS.time with tb := { wS.time.tb with now := 65536000000000 } } }) := by decide +kernel
theorem witness_pauseAlarm : okPauseAlarm 2 (modMac 2 (fun x => { x with tx := { x.tx with paused := true }, cfg := { x.cfg with pauseAlarm := 3 } }) wS) := by decide +kernel
theorem witness_wakeDetect : okWakeDetect 2 (modMac 2 (fun x => { x with enabled := true, sleep := true, detect := 1 }) wS) := by decide +kernel
theorem witness_kpiFrameStart : okKpiFrameStart 2 ([0,1,2,3,4,5,6,7,8,9,10,11,0x88,0xB5] ++ [1,1,1,0,0,0,0,0, 0,0,0,0,0,0,0,9, 0,0,0,0,0,0,0,0, 0,0,0,0, 0,0x41, 7,0x80, 0,32, 0,0, 0,0,4,0]) 1 (modIn 1 (fun x => { x with enabled := true, cfg := { mac := 2, pool := 3, lowMark := 0 } }) (modPool 3 (fun _ => { used := true, base := 8388608, size := 65536, count := 2, keep := 1, lines := 32, format := 0x41, stride := 1024, first := 7 }) (wFilled (modMac 2 (fun x => { x with enabled := true, cfg := { mode := 6, role := 1, first := 0, width := 1, linkId := 5, maxFrame := 1600 }, filter := [(0, { valid := true, addr := [0, 1, 2, 3, 4, 5] })], lk := { x.lk with link := .up } }) (modLane 0 (fun l => { l with use := 1, mac := 2, rxLogical := 0, seq := 4, marker := true, groupOk := true }) wS))))) := by decide +kernel
set_option maxRecDepth 4000 in
theorem witness_frameStart : ∃ s : State, ∃ p : List Byte, ∃ b t, (inAt s 1).state = .idle ∧ (inAt s 1).seenMarker = false ∧ (s.time.cap.pending.getD s.time.cap.mode).drive = true ∧ (poolAt s (inAt s 1).cfg.pool).format = beAt p 28 2 ∧ (poolAt s (inAt s 1).cfg.pool).lines = beAt p 32 2 ∧ 0 < beAt p 36 4 ∧ beAt p 36 4 ≤ (poolAt s (inAt s 1).cfg.pool).stride ∧ ledgerAcquire (inAt s 1).cfg.pool (inToken s 1) (finishWait (.ingestStart 1) .ok 0 [] (modIn 1 (fun x => { x with lastFrame := beAt p 8 8, seenMarker := true, lastArrival := s.time.tb.now, srcAddr := some [], width := beAt p 30 2, ctr := { x.ctr with frameGap := wrap32 x.ctr.frameGap 0 } }) s)) = (some b, t) := ⟨{ (modIn 1 (fun x => { x with enabled := true, cfg := { mac := 2, pool := 3, lowMark := 0 } }) (modPool 3 (fun _ => { used := true, base := 8388608, size := 65536, count := 2, keep := 1, lines := 32, format := 0x41, stride := 1024, first := 7 }) (wFilled (modMac 2 (fun x => { x with enabled := true, cfg := { mode := 6, role := 1, first := 0, width := 1, linkId := 5, maxFrame := 1600 }, filter := [(0, { valid := true, addr := [0, 1, 2, 3, 4, 5] })], lk := { x.lk with link := .up } }) (modLane 0 (fun l => { l with use := 1, mac := 2, rxLogical := 0, seq := 4, marker := true, groupOk := true }) wS))))) with time := { wS.time with cap := { wS.time.cap with mode := { wS.time.cap.mode with drive := true } } } }, [1,1,1,0,0,0,0,0, 0,0,0,0,0,0,0,9, 0,0,0,0,0,0,0,0, 0,0,0,0, 0,0x41, 7,0x80, 0,32, 0,0, 0,0,4,0], 7, _, by decide +kernel, by decide +kernel, by decide +kernel, by decide +kernel, by decide +kernel, by decide +kernel, by decide +kernel, Prod.ext (by decide +kernel) rfl⟩
theorem witness_kpiLinePacket : okKpiLinePacket 2 ([0,1,2,3,4,5,6,7,8,9,10,11,0x88,0xB5] ++ [2,1,1,0,0,0,0,9, 0,3, 0,0, 0,0,0,0, 0,4, 0,0, 7,7,7,7, 0,0,0,0]) 1 (modIn 1 (fun x => { x with enabled := true, cfg := { mac := 2, pool := 3, lowMark := 0 }, state := .opened, pic := { frame := 9, buffer := 7, lines := 32, lineBytes := 1024, stride := 1024, base := 8388608 } }) (modPool 3 (fun _ => { used := true, base := 8388608, size := 65536, count := 2, keep := 1, lines := 32, format := 0x41, stride := 1024, first := 7 }) (wFilled (modMac 2 (fun x => { x with enabled := true, cfg := { mode := 6, role := 1, first := 0, width := 1, linkId := 5, maxFrame := 1600 }, filter := [(0, { valid := true, addr := [0, 1, 2, 3, 4, 5] })], lk := { x.lk with link := .up } }) (modLane 0 (fun l => { l with use := 1, mac := 2, rxLogical := 0, seq := 4, marker := true, groupOk := true }) wS))))) := by decide +kernel
theorem witness_segment : ∃ p : List Byte, beAt p 8 2 = 3 ∧ beAt p 12 4 = 0 ∧ beAt p 16 2 = 4 ∧ crc32c (p.take 24) = beAt p 24 4 ∧ 28 ≤ p.length ∧ lineValid wS 7 3 = false ∧ (({ lines := 32, lineBytes := 1024 } : OpenPicture).broken).testBit 3 = false ∧ 0 = tabGet (inAt wS 1).pic.expected 3 := ⟨[2,1,1,0,0,0,0,9, 0,3, 0,0, 0,0,0,0, 0,4, 0,0, 7,7,7,7] ++ beBytes 4 (crc32c [2,1,1,0,0,0,0,9, 0,3, 0,0, 0,0,0,0, 0,4, 0,0, 7,7,7,7]), by decide +kernel⟩
theorem witness_kpiFrameEnd : okKpiFrameEnd 2 ([0,1,2,3,4,5,6,7,8,9,10,11,0x88,0xB5] ++ [3,1,1,0,0,0,0,0, 0,0,0,0,0,0,0,9, 0,0,0,0, 1,2,3,4, 0,0,0,0]) 1 (modIn 1 (fun x => { x with enabled := true, cfg := { mac := 2, pool := 3, lowMark := 0 }, state := .opened, pic := { frame := 9, buffer := 7, lines := 32, lineBytes := 1024, stride := 1024, base := 8388608 } }) (modPool 3 (fun _ => { used := true, base := 8388608, size := 65536, count := 2, keep := 1, lines := 32, format := 0x41, stride := 1024, first := 7 }) (wFilled (modMac 2 (fun x => { x with enabled := true, cfg := { mode := 6, role := 1, first := 0, width := 1, linkId := 5, maxFrame := 1600 }, filter := [(0, { valid := true, addr := [0, 1, 2, 3, 4, 5] })], lk := { x.lk with link := .up } }) (modLane 0 (fun l => { l with use := 1, mac := 2, rxLogical := 0, seq := 4, marker := true, groupOk := true }) wS))))) := by decide +kernel
theorem witness_kpiEndTimeout : okKpiEndTimeout 1 (modIn 1 (fun x => { x with enabled := true, cfg := { mac := 2, pool := 3, lowMark := 0 }, state := .opened, pic := { frame := 9, buffer := 7, lines := 32, lineBytes := 1024, stride := 1024, base := 8388608 } }) (modPool 3 (fun _ => { used := true, base := 8388608, size := 65536, count := 2, keep := 1, lines := 32, format := 0x41, stride := 1024, first := 7 }) (wFilled (modMac 2 (fun x => { x with enabled := true, cfg := { mode := 6, role := 1, first := 0, width := 1, linkId := 5, maxFrame := 1600 }, filter := [(0, { valid := true, addr := [0, 1, 2, 3, 4, 5] })], lk := { x.lk with link := .up } }) (modLane 0 (fun l => { l with use := 1, mac := 2, rxLogical := 0, seq := 4, marker := true, groupOk := true }) wS))))) := by decide +kernel
theorem witness_kpiStatusSend : okKpiStatusSend 1 (modIn 1 (fun x => { x with enabled := true, cfg := { mac := 2, pool := 3, lowMark := 0 }, srcAddr := some [1, 2, 3, 4, 5, 6] }) (modPool 3 (fun _ => { used := true, base := 8388608, size := 65536, count := 2, keep := 1, lines := 32, format := 0x41, stride := 1024, first := 7 }) (wFilled (modMac 2 (fun x => { x with enabled := true, cfg := { mode := 6, role := 1, first := 0, width := 1, linkId := 5, maxFrame := 1600 }, filter := [(0, { valid := true, addr := [0, 1, 2, 3, 4, 5] })], lk := { x.lk with link := .up } }) (modLane 0 (fun l => { l with use := 1, mac := 2, rxLogical := 0, seq := 4, marker := true, groupOk := true }) wS))))) := by decide +kernel
theorem witness_fpGoTaken : okFpGoTaken 9 (modDom 27 (fun d => { d with level := .on }) (modLay 9 (fun l => { l with head := some 3, cfg := { l.cfg with env := { on := true, wMax := 64, hMax := 64, dxMax := 9, dyMax := 9 } }, fp := { l.fp with staging := { dx := 5 } } }) (modSyn 3 (fun y => { y with gated := false }) (modHd 3 (fun x => { x with enabled := true, cfg := { x.cfg with timing := { hact := 64, hfp := 8, hsync := 8, hbp := 8, vact := 4, vfp := 1, vsync := 1, vbp := 1, p := 1, q := 1 } } }) wS)))) := by decide +kernel
theorem witness_fpGoRejected : okFpGoRejected 9 (modDom 27 (fun d => { d with level := .on }) wS) := by decide +kernel
theorem witness_fastPathLatched : okFastPathLatched 9 3 { dx := 5, cw := 64, ch := 4 } (modLay 9 (fun l => { l with fp := { l.fp with pending := some { dx := 5, cw := 64, ch := 4 } } }) (modLay 9 (fun l => { l with head := some 3, cfg := { l.cfg with env := { on := true, wMax := 64, hMax := 64, dxMax := 9, dyMax := 9 } }, fp := { l.fp with staging := { dx := 5 } } }) (modSyn 3 (fun y => { y with gated := false }) (modHd 3 (fun x => { x with enabled := true, cfg := { x.cfg with timing := { hact := 64, hfp := 8, hsync := 8, hbp := 8, vact := 4, vfp := 1, vsync := 1, vbp := 1, p := 1, q := 1 } } }) wS)))) := by decide +kernel
theorem witness_fastPathRejected : okFastPathRejected 9 3 { dx := 5000 } (modLay 9 (fun l => { l with fp := { l.fp with pending := some { dx := 5000 } } }) (modLay 9 (fun l => { l with head := some 3, cfg := { l.cfg with env := { on := true, wMax := 64, hMax := 64, dxMax := 9, dyMax := 9 } }, fp := { l.fp with staging := { dx := 5 } } }) (modSyn 3 (fun y => { y with gated := false }) (modHd 3 (fun x => { x with enabled := true, cfg := { x.cfg with timing := { hact := 64, hfp := 8, hsync := 8, hbp := 8, vact := 4, vfp := 1, vsync := 1, vbp := 1, p := 1, q := 1 } } }) wS)))) := by decide +kernel
theorem witness_commitArmFails : okCommitArmFails { mb := 3, opcode := 0x0620, length := 8, params := (List.replicate 8 0#8), phase := .waiting .commitArm } .rejRange 0 [] ({ wS with ctl := { wS.ctl with inflight := [{ mb := 3, opcode := 0x0620, length := 8, params := (List.replicate 8 0#8), phase := .waiting .commitArm }] } }) { wS with ctl := { wS.ctl with inflight := [{ mb := 3, opcode := 0x0620, length := 8, params := (List.replicate 8 0#8), phase := .waiting .commitArm }] } } := by decide +kernel
theorem witness_commitArms : okCommitArms { mb := 3, opcode := 0x0620, length := 8, params := [4#8, 0#8, 0#8, 0#8, 0#8, 0#8, 0#8, 0#8], phase := .waiting .commitArm } (.commit (match tryArm { mb := 3, opcode := 0x0620, length := 8, params := [4#8, 0#8, 0#8, 0#8, 0#8, 0#8, 0#8, 0#8], phase := .waiting .commitArm } ({ (modShed (fun p => { p with resIngest := 0, resRecord := 0, resStream := 0, resBe := 0 }) (modHd 2 (fun x => { x with enabled := true, shadow := wHd, cfg := wHd }) (modPool 3 (fun _ => { used := true, base := 8388608, size := 8847360, count := 2, keep := 1, lines := 1080, format := 0x20, stride := 8192, first := 7 }) wS))) with ctl := { wS.ctl with inflight := [{ mb := 3, opcode := 0x0620, length := 8, params := [4#8, 0#8, 0#8, 0#8, 0#8, 0#8, 0#8, 0#8], phase := .waiting .commitArm }] } }) with | .wait (.commit n) _ => n | _ => 0)) (match tryArm { mb := 3, opcode := 0x0620, length := 8, params := [4#8, 0#8, 0#8, 0#8, 0#8, 0#8, 0#8, 0#8], phase := .waiting .commitArm } ({ (modShed (fun p => { p with resIngest := 0, resRecord := 0, resStream := 0, resBe := 0 }) (modHd 2 (fun x => { x with enabled := true, shadow := wHd, cfg := wHd }) (modPool 3 (fun _ => { used := true, base := 8388608, size := 8847360, count := 2, keep := 1, lines := 1080, format := 0x20, stride := 8192, first := 7 }) wS))) with ctl := { wS.ctl with inflight := [{ mb := 3, opcode := 0x0620, length := 8, params := [4#8, 0#8, 0#8, 0#8, 0#8, 0#8, 0#8, 0#8], phase := .waiting .commitArm }] } }) with | .wait _ u => u | _ => wS) { (modShed (fun p => { p with resIngest := 0, resRecord := 0, resStream := 0, resBe := 0 }) (modHd 2 (fun x => { x with enabled := true, shadow := wHd, cfg := wHd }) (modPool 3 (fun _ => { used := true, base := 8388608, size := 8847360, count := 2, keep := 1, lines := 1080, format := 0x20, stride := 8192, first := 7 }) wS))) with ctl := { wS.ctl with inflight := [{ mb := 3, opcode := 0x0620, length := 8, params := [4#8, 0#8, 0#8, 0#8, 0#8, 0#8, 0#8, 0#8], phase := .waiting .commitArm }] } } := by decide +kernel
theorem witness_fxFenceWrite : okFxFenceWrite 3 9 wS := by decide +kernel
theorem witness_commitTimeout : okCommitTimeout { id := 4, heads := [3], timeout := 2, blanks := 2, fences := [(1, 9)] } (modFx (fun x => { x with armed := [{ id := 4, heads := [3], timeout := 2, blanks := 2, fences := [(1, 9)] }] }) wS) := by decide +kernel
theorem witness_headFrameStart : okHeadFrameStart 3 (modSyn 3 (fun y => { y with gated := false }) (modHd 3 (fun x => { x with inBlank := true, frame := 6 }) (modSyn 3 (fun y => { y with gated := false }) (modHd 3 (fun x => { x with enabled := true, cfg := { x.cfg with timing := { hact := 64, hfp := 8, hsync := 8, hbp := 8, vact := 4, vfp := 1, vsync := 1, vbp := 1, p := 1, q := 1 } } }) wS)))) := by decide +kernel
theorem witness_headFrameHeld : okHeadFrameHeld 3 (modSyn 3 (fun y => { y with gated := true }) (modHd 3 (fun x => { x with inBlank := true, frame := 6 }) (modSyn 3 (fun y => { y with gated := false }) (modHd 3 (fun x => { x with enabled := true, cfg := { x.cfg with timing := { hact := 64, hfp := 8, hsync := 8, hbp := 8, vact := 4, vfp := 1, vsync := 1, vbp := 1, p := 1, q := 1 } } }) wS)))) := by decide +kernel
theorem witness_latchPoint : okLatchPoint 3 (modFx (fun x => { x with armed := [{ id := 4, heads := [3], ready := true }, { id := 5, heads := [2], ready := true }] }) (modSyn 3 (fun y => { y with gated := false }) (modHd 3 (fun x => { x with enabled := true, cfg := { x.cfg with timing := { hact := 64, hfp := 8, hsync := 8, hbp := 8, vact := 4, vfp := 1, vsync := 1, vbp := 1, p := 1, q := 1 } } }) wS))) := by decide +kernel
theorem witness_headBlankingPlain : okHeadBlankingPlain 3 (modSyn 3 (fun y => { y with gated := false }) (modHd 3 (fun x => { x with enabled := true, cfg := { x.cfg with timing := { hact := 64, hfp := 8, hsync := 8, hbp := 8, vact := 4, vfp := 1, vsync := 1, vbp := 1, p := 1, q := 1 } } }) wS)) := by decide +kernel
theorem witness_headEnableStart : okHeadEnableStart 3 { id := 4, heads := [3], enable := [3], ready := true } (modFx (fun x => { x with armed := [{ id := 4, heads := [3], enable := [3], ready := true }] }) (modSyn 3 (fun y => { y with gated := false, state := .locked }) (modDom 27 (fun d => { d with level := .on }) (modDom 18 (fun d => { d with level := .on }) wS)))) := by decide +kernel
theorem witness_writebackPublished : okWritebackPublished 3 8 5 9 (ledgerPublish 8 6336 5 0 0 (modHd 3 (fun x => { x with wb := { x.wb with done := none } }) (modHd 3 (fun x => { x with cfg := { x.cfg with wbMode := 1 }, wb := { x.wb with done := some (8, 5, 9) } }) (modBuf 8 (fun b => { b with state := .owned, owner := 6336 }) (modBuf 8 (fun b => { b with state := .published, frame := 3 }) (modPool 3 (fun _ => { used := true, base := 8388608, size := 65536, count := 2, keep := 1, lines := 32, format := 0x41, stride := 1024, first := 7 }) (wFilled wS))))))).2 (takeRefFor lastRef false 8 6336 (modHd 3 (fun x => { x with ctr := { x.ctr with wbPub := (x.ctr.wbPub + 1) % 2 ^ 32 } }) (ledgerPublish 8 6336 5 0 0 (modHd 3 (fun x => { x with wb := { x.wb with done := none } }) (modHd 3 (fun x => { x with cfg := { x.cfg with wbMode := 1 }, wb := { x.wb with done := some (8, 5, 9) } }) (modBuf 8 (fun b => { b with state := .owned, owner := 6336 }) (modBuf 8 (fun b => { b with state := .published, frame := 3 }) (modPool 3 (fun _ => { used := true, base := 8388608, size := 65536, count := 2, keep := 1, lines := 32, format := 0x41, stride := 1024, first := 7 }) (wFilled wS))))))).2)).2 (modHd 3 (fun x => { x with cfg := { x.cfg with wbMode := 1 }, wb := { x.wb with done := some (8, 5, 9) } }) (modBuf 8 (fun b => { b with state := .owned, owner := 6336 }) (modBuf 8 (fun b => { b with state := .published, frame := 3 }) (modPool 3 (fun _ => { used := true, base := 8388608, size := 65536, count := 2, keep := 1, lines := 32, format := 0x41, stride := 1024, first := 7 }) (wFilled wS))))) := by decide +kernel
theorem witness_writebackEarly : okWritebackEarly 3 8 (modHd 3 (fun x => { x with composed := 4, wb := { x.wb with buf := some 8 } }) (modSyn 3 (fun y => { y with gated := false }) (modHd 3 (fun x => { x with enabled := true, cfg := { x.cfg with timing := { hact := 64, hfp := 8, hsync := 8, hbp := 8, vact := 4, vfp := 1, vsync := 1, vbp := 1, p := 1, q := 1 } } }) (modBuf 8 (fun b => { b with state := .owned, owner := 4096 }) (modPool 3 (fun _ => { used := true, base := 8388608, size := 65536, count := 2, keep := 1, lines := 32, format := 0x41, stride := 1024, first := 7 }) (wFilled wS)))))) := by decide +kernel
theorem witness_fetchClassPlain : okFetchClassPlain 3 9000 (modSyn 3 (fun y => { y with gated := false }) (modHd 3 (fun x => { x with enabled := true, cfg := { x.cfg with timing := { hact := 64, hfp := 8, hsync := 8, hbp := 8, vact := 4, vfp := 1, vsync := 1, vbp := 1, p := 1, q := 1 } } }) wS)) := by decide +kernel
theorem witness_fetchClassCritical : okFetchClassCritical 3 1 (modHd 3 (fun x => { x with res := { x.res with critical := 5, low := 8 } }) (modSyn 3 (fun y => { y with gated := false }) (modHd 3 (fun x => { x with enabled := true, cfg := { x.cfg with timing := { hact := 64, hfp := 8, hsync := 8, hbp := 8, vact := 4, vfp := 1, vsync := 1, vbp := 1, p := 1, q := 1 } } }) wS))) := by decide +kernel
theorem witness_reservoirStarved : okReservoirStarved 3 7 (modSyn 3 (fun y => { y with gated := false }) (modHd 3 (fun x => { x with enabled := true, cfg := { x.cfg with timing := { hact := 64, hfp := 8, hsync := 8, hbp := 8, vact := 4, vfp := 1, vsync := 1, vbp := 1, p := 1, q := 1 } } }) wS)) := by decide +kernel
theorem witness_headLineCompose : okHeadLineCompose 3 (modHd 3 (fun x => { x with enabled := true, cfg := { x.cfg with timing := { hact := 4, hfp := 8, hsync := 8, hbp := 8, vact := 4, vfp := 1, vsync := 1, vbp := 1, p := 1, q := 1 } } }) wS) := by decide +kernel
theorem witness_signatureMatches : okSignatureMatches 3 5 1 (modHd 3 (fun x => { x with composed := 4, cfg := { x.cfg with sigs := [(5, { enable := true, x := 0, y := 0, w := 2, h := 2, limit := 1, valid := 2, expect := [0, 1, 2, 3] })] }, sig := [(5, { run := 0xFFFFFFFE })] }) (modSyn 3 (fun y => { y with gated := false }) (modHd 3 (fun x => { x with enabled := true, cfg := { x.cfg with timing := { hact := 64, hfp := 8, hsync := 8, hbp := 8, vact := 4, vfp := 1, vsync := 1, vbp := 1, p := 1, q := 1 } } }) wS))) := by decide +kernel
theorem witness_signatureFaults : okSignatureFaults 3 5 (modHd 3 (fun x => { x with composed := 4, cfg := { x.cfg with sigs := [(5, { enable := true, x := 0, y := 0, w := 2, h := 2, limit := 1, valid := 1, expect := [0, 1, 2, 3] })] }, sig := [(5, { run := 0xFFFFFFFE })] }) (modSyn 3 (fun y => { y with gated := false }) (modHd 3 (fun x => { x with enabled := true, cfg := { x.cfg with timing := { hact := 64, hfp := 8, hsync := 8, hbp := 8, vact := 4, vfp := 1, vsync := 1, vbp := 1, p := 1, q := 1 } } }) wS))) := by decide +kernel
theorem witness_sigClearFault : okSigClearFault 3 5 (modDom 18 (fun d => { d with level := .on }) (modHd 3 (fun x => { x with sig := [(5, { fault := true, miss := 3 })] }) wS)) := by decide +kernel
theorem witness_tallyForceWrite : okTallyForceWrite 2 wS := by decide +kernel
theorem witness_tally : tallyLevel { wS with pic := { wS.pic with tallyForce := true } } = true ∧ tallyLevel wS = false := by decide +kernel
theorem witness_shedEvaluation : okShedEvaluation (modShed (fun p => { p with evalDue := true }) { wS with fs := { wS.fs with up := true, brought := true } }) := by decide +kernel
theorem witness_restoreHoldExpiry : okRestoreHoldExpiry (modShed (fun p => { p with holding := true, holdMs := 5 }) { wS with fs := { wS.fs with up := true, brought := true } }) := by decide +kernel
theorem witness_shedTake : ∃ s : State, fsUsable s < shedLoad s s.pic.shed.taken ∧ s.pic.shed.next < s.pic.shed.plan.length ∧ shedLoad s (s.pic.shed.taken ++ [s.pic.shed.next]) < shedLoad s s.pic.shed.taken := ⟨modShed (fun p => { p with resStream := 900, plan := [{ kind := 3, unit := 2, saving := 50 }] }) wS, by decide +kernel⟩
theorem witness_sdiSlip : okSdiSlip 5 9 (modSdi 5 (fun x => { x with cfg := { x.cfg with enabled := true } }) wS) := by decide +kernel
theorem witness_sdiFill : okSdiFill 5 300 (modSdi 5 (fun x => { x with cfg := { x.cfg with enabled := true } }) wS) := by decide +kernel
theorem witness_panelVideoStart : okPanelVideoStart 2 (modPanel 2 (fun x => { x with state := .video, cfg := { x.cfg with head := 3 } }) (modSyn 3 (fun y => { y with gated := false }) (modHd 3 (fun x => { x with enabled := true, cfg := { x.cfg with timing := { hact := 64, hfp := 8, hsync := 8, hbp := 8, vact := 4, vfp := 1, vsync := 1, vbp := 1, p := 1, q := 1 } } }) wS))) := by decide +kernel
theorem witness_sdiLine : (([(1920, 64)] : List (Nat × Nat)).map (·.1)).sum = ({ fmt := 2, words := 2200, active := 1920 } : SdiGeo).active ∧ 1920 + 12 + ([1, 2] : List Nat).length ≤ 2200 := by decide
theorem witness_structLine : (719 < 720) ∧ structLine 1 719 = 745 ∧ (1079 < 1080) ∧ structLine 2 1079 = 1121 ∧ structLine 1 749 = 25 ∧ structLine 2 1124 = 41 := by decide
theorem witness_dsiLine : packetBytes (lineSync ({ mode := 1 } : PanelCfg) { hact := 8, hfp := 8, hsync := 8, hbp := 8 } 24 1 0 ++ fillPacket (sampleBytes 24 (1 * (8 + 8)) - 4) ++ [pixelPacket 0x3E [(1, 2, 3)]]) + 6 ≤ sampleBytes 24 (1 * hTotal { hact := 8, hfp := 8, hsync := 8, hbp := 8 }) := by decide +kernel
theorem witness_w5CommitWrite : okW5CommitWrite 1 { wS with pic := { wS.pic with win := { wS.pic.win with enabled := true } } } := by decide +kernel
theorem witness_w5CommitArmDrops : okW5CommitArmDrops { due := 1 } { wS with pic := { wS.pic with win := { wS.pic.win with enabled := true, pend0 := some { due := 1 } } } } := by decide +kernel
theorem witness_w5CommitArms : okW5CommitArms { due := 1 } { (modHd 0 (fun x => { x with enabled := true, cfg := { x.cfg with timing := { hact := 64, hfp := 8, hsync := 8, hbp := 8, vact := 4, vfp := 1, vsync := 1, vbp := 1, p := 1, q := 1 } } }) { wS with fs := { wS.fs with up := true, brought := true } }) with pic := { (modHd 0 (fun x => { x with enabled := true, cfg := { x.cfg with timing := { hact := 64, hfp := 8, hsync := 8, hbp := 8, vact := 4, vfp := 1, vsync := 1, vbp := 1, p := 1, q := 1 } } }) wS).pic with win := { enabled := true, pend0 := some { due := 1 } } } } := by decide +kernel
theorem witness_w5PalDataWrite : okW5PalDataWrite 0xF81F { wS with pic := { wS.pic with win := { wS.pic.win with enabled := true, palAddr := 33791 } } } := by decide +kernel
theorem witness_w5LBaseLoWrite : okW5LBaseLoWrite 3 9 { wS with pic := { wS.pic with win := { wS.pic.win with enabled := true } } } := by decide +kernel
theorem witness_w5LBaseHiWrite : okW5LBaseHiWrite 3 0xF001 9 { wS with pic := { wS.pic with win := { wS.pic.win with enabled := true, layers := [(3, { latch := some 9 })] } } } := by decide +kernel
theorem witness_kmpHello : okKmpHello 1 ([0,1,2,3,4,5,6,7,8,9,10,11,0x88,0xB6,1,1,0,0,0,0,0,0,0,0,0,0,0,0,0,0] ++ [0,0,0,0,0,0,0,5,0,0,0,1]) (modMag 1 (fun x => { x with state := .search, mac := 4 }) (modMac 4 (fun x => { x with enabled := true, cfg := { x.cfg with mode := 6, role := 3 }, filter := [(0, { valid := true, addr := [0, 1, 2, 3, 4, 5] })], lk := { x.lk with link := .up } }) wS)) := by decide +kernel
theorem witness_kmpCaps : okKmpCaps 1 ([0,1,2,3,4,5,6,7,8,9,10,11,0x88,0xB6,3,1,0,0,0,0,0,0,0,0,0,7,0,0,0,0] ++ [35,40,0,0,0,0,0,9,0,0,0,0,0,0,1,0,0,0,0,0,0,0,0,1]) (modMag 1 (fun x => { x with state := .caps, mac := 4, reqs := [{ type := 2, seq := 7 }, { type := 2, seq := 8 }] }) (modMac 4 (fun x => { x with enabled := true, cfg := { x.cfg with mode := 6, role := 3 }, filter := [(0, { valid := true, addr := [0, 1, 2, 3, 4, 5] })], lk := { x.lk with link := .up } }) wS)) := by decide +kernel
theorem witness_kmpStaleEpoch : okKmpStaleEpoch 1 ([0,1,2,3,4,5,6,7,8,9,10,11,0x88,0xB6,3,1,0,0,0,0,0,9,0,0,0,7,0,0,0,0] ++ []) (modMag 1 (fun x => { x with state := .ready, mac := 4 }) (modMac 4 (fun x => { x with enabled := true, cfg := { x.cfg with mode := 6, role := 3 }, filter := [(0, { valid := true, addr := [0, 1, 2, 3, 4, 5] })], lk := { x.lk with link := .up } }) wS)) := by decide +kernel
theorem witness_kmpCommitReceived : okKmpCommitReceived 1 ([0,1,2,3,4,5,6,7,8,9,10,11,0x88,0xB6,33,1,0,0,0,0,0,1,0,0,0,7,0,0,0,0] ++ [0,0,0,5,0,0,0,2,0,0,0,0,0,0,0,9]) { clip := 5, channel := 0, opened := true, next := 3, sent := 3, committed := 2 } (modMag 1 (fun x => { x with state := .recording, mac := 4, epoch := 1, copy := some { clip := 5, channel := 0, opened := true, next := 3, sent := 3, committed := 2 } }) (modMac 4 (fun x => { x with enabled := true, cfg := { x.cfg with mode := 6, role := 3 }, filter := [(0, { valid := true, addr := [0, 1, 2, 3, 4, 5] })], lk := { x.lk with link := .up } }) wS)) := by decide +kernel
theorem witness_kmpCommitBad : okKmpCommitBad 1 ([0,1,2,3,4,5,6,7,8,9,10,11,0x88,0xB6,33,1,0,0,0,0,0,1,0,0,0,7,0,0,0,0] ++ [0,0,0,5,0,0,0,2,1,0,0,0,0,0,0,9]) { clip := 5, channel := 0, opened := true, next := 3, sent := 3, committed := 2, bad := [2, 2] } (modMag 1 (fun x => { x with state := .recording, mac := 4, epoch := 1, copy := some { clip := 5, channel := 0, opened := true, next := 3, sent := 3, committed := 2, bad := [2, 2] } }) (modMac 4 (fun x => { x with enabled := true, cfg := { x.cfg with mode := 6, role := 3 }, filter := [(0, { valid := true, addr := [0, 1, 2, 3, 4, 5] })], lk := { x.lk with link := .up } }) wS)) := by decide +kernel
theorem witness_kmpResendGone : okKmpResendGone 1 ([0,1,2,3,4,5,6,7,8,9,10,11,0x88,0xB6,34,1,0,0,0,0,0,1,0,0,0,7,0,0,0,0] ++ [0,0,0,5,0,0,0,2,1,0,0,0,0,0,0,9]) { clip := 5, channel := 0, opened := true, next := 3, sent := 3, committed := 2 } (modMag 1 (fun x => { x with state := .recording, mac := 4, epoch := 1, copy := some { clip := 5, channel := 0, opened := true, next := 3, sent := 3, committed := 2 } }) (modMac 4 (fun x => { x with enabled := true, cfg := { x.cfg with mode := 6, role := 3 }, filter := [(0, { valid := true, addr := [0, 1, 2, 3, 4, 5] })], lk := { x.lk with link := .up } }) wS)) := by decide +kernel
theorem witness_kmpResendReceived : okKmpResendReceived 1 ([0,1,2,3,4,5,6,7,8,9,10,11,0x88,0xB6,34,1,0,0,0,0,0,1,0,0,0,7,0,0,0,0] ++ [0,0,0,5,0,0,0,2,0,0,0,0,0,0,0,9]) { clip := 5, channel := 0, opened := true, next := 3, sent := 3, committed := 2 } { idx := 2, buf := 8 } (modRec 0 (fun x => { x with state := .recording, backlog := [{ idx := 2, buf := 8 }] }) (modMag 1 (fun x => { x with state := .recording, mac := 4, epoch := 1, copy := some { clip := 5, channel := 0, opened := true, next := 3, sent := 3, committed := 2 } }) (modMac 4 (fun x => { x with enabled := true, cfg := { x.cfg with mode := 6, role := 3 }, filter := [(0, { valid := true, addr := [0, 1, 2, 3, 4, 5] })], lk := { x.lk with link := .up } }) wS))) := by decide +kernel
theorem witness_kmpNotice : okKmpNotice 1 ([0,1,2,3,4,5,6,7,8,9,10,11,0x88,0xB6,48,1,0,0,0,0,0,1,0,0,0,7,0,0,0,0] ++ [3,0,0,0]) (modMag 1 (fun x => { x with state := .recording, mac := 4, epoch := 1, copy := some { clip := 5, channel := 0, opened := true, next := 3, sent := 3, committed := 2 } }) (modMac 4 (fun x => { x with enabled := true, cfg := { x.cfg with mode := 6, role := 3 }, filter := [(0, { valid := true, addr := [0, 1, 2, 3, 4, 5] })], lk := { x.lk with link := .up } }) wS)) := by decide +kernel
theorem witness_kmpNoticeAgain : okKmpNoticeAgain 1 ([0,1,2,3,4,5,6,7,8,9,10,11,0x88,0xB6,48,1,0,0,0,0,0,1,0,0,0,7,0,0,0,0] ++ [2,0,0,0]) (modMag 1 (fun x => { x with noticeSeq := some 7 }) (modMag 1 (fun x => { x with state := .recording, mac := 4, epoch := 1, copy := some { clip := 5, channel := 0, opened := true, next := 3, sent := 3, committed := 2 } }) (modMac 4 (fun x => { x with enabled := true, cfg := { x.cfg with mode := 6, role := 3 }, filter := [(0, { valid := true, addr := [0, 1, 2, 3, 4, 5] })], lk := { x.lk with link := .up } }) wS))) := by decide +kernel
theorem witness_kmpRetry : okKmpRetry 1 { type := 4, seq := 7, retries := 2 } [] (modMag 1 (fun x => { x with state := .mounting, reqs := [{ type := 4, seq := 7, retries := 2 }] }) wS) := by decide +kernel
theorem witness_kmpGivesUp : okKmpGivesUp 1 { type := 4, seq := 7, retries := 3 } [] (modMag 1 (fun x => { x with state := .mounting, reqs := [{ type := 4, seq := 7, retries := 3 }] }) wS) := by decide +kernel
theorem witness_kmpHelloSend : okKmpHelloSend 1 (modMag 1 (fun x => { x with state := .recording, mac := 4, epoch := 1, copy := some { clip := 5, channel := 0, opened := true, next := 3, sent := 3, committed := 2 } }) (modMac 4 (fun x => { x with enabled := true, cfg := { x.cfg with mode := 6, role := 3 }, filter := [(0, { valid := true, addr := [0, 1, 2, 3, 4, 5] })], lk := { x.lk with link := .up } }) wS)) := by decide +kernel
theorem witness_kmpHelloTimeout : okKmpHelloTimeout 1 (modMag 1 (fun x => { x with state := .ready, noticeSeq := some 3 }) wS) := by decide +kernel
theorem witness_noPartnerTimeout : okNoPartnerTimeout 1 (modMag 1 (fun x => { x with state := .search }) wS) := by decide +kernel
theorem witness_formatStatusTimeout : okFormatStatusTimeout 1 { (modMag 1 (fun x => { x with state := .busy }) wS) with ctl := { wS.ctl with inflight := [{ mb := 3, opcode := 0x0A03, phase := .stepping (.magFormat 1 7) }] } } := by decide +kernel
theorem witness_mainStreamPictureBegin : okMainStreamPictureBegin 0 { idx := 3, buf := 8 } (modRec 0 (fun x => { x with state := .recording, main := 3, backlog := [{ idx := 3, buf := 8 }] }) (modMag 1 (fun x => { x with state := .recording, mac := 4, copy := some { clip := 5, channel := 0, opened := true, next := 3, sent := 3, committed := 2, credit := 9 } }) (modMac 4 (fun x => { x with enabled := true, cfg := { x.cfg with mode := 6, role := 3 }, filter := [(0, { valid := true, addr := [0, 1, 2, 3, 4, 5] })], lk := { x.lk with link := .up } }) wS))) := by decide +kernel
theorem witness_mainStreamWaits : okMainStreamWaits 0 { idx := 3, buf := 8 } (modRec 0 (fun x => { x with state := .recording, main := 3, backlog := [{ idx := 3, buf := 8 }] }) (modMag 1 (fun x => { x with state := .recording, mac := 4, copy := some { clip := 5, channel := 0, opened := true, next := 3, sent := 3, committed := 2, credit := 3 } }) (modMac 4 (fun x => { x with enabled := true, cfg := { x.cfg with mode := 6, role := 3 }, filter := [(0, { valid := true, addr := [0, 1, 2, 3, 4, 5] })], lk := { x.lk with link := .up } }) wS))) := by decide +kernel
theorem witness_magazineStreamPictureBegin : okMagazineStreamPictureBegin 1 { clip := 5, channel := 0, opened := true, next := 3, sent := 3, committed := 2, credit := 9, decoupled := true } { idx := 3, buf := 8 } (modRec 0 (fun x => { x with state := .recording, main := 9, backlog := [{ idx := 3, buf := 8 }] }) (modMag 1 (fun x => { x with state := .recording, mac := 4, copy := some { clip := 5, channel := 0, opened := true, next := 3, sent := 3, committed := 2, credit := 9, decoupled := true } }) (modMac 4 (fun x => { x with enabled := true, cfg := { x.cfg with mode := 6, role := 3 }, filter := [(0, { valid := true, addr := [0, 1, 2, 3, 4, 5] })], lk := { x.lk with link := .up } }) wS))) := by decide +kernel
theorem witness_holdMaxExpiry : okHoldMaxExpiry 0 1 7 (modRec 0 (fun x => { x with state := .recording, hold := some (1, 7) }) (modMag 1 (fun x => { x with state := .recording, mac := 4, epoch := 1, copy := some { clip := 5, channel := 0, opened := true, next := 3, sent := 3, committed := 2 } }) (modMac 4 (fun x => { x with enabled := true, cfg := { x.cfg with mode := 6, role := 3 }, filter := [(0, { valid := true, addr := [0, 1, 2, 3, 4, 5] })], lk := { x.lk with link := .up } }) wS))) := by decide +kernel
theorem witness_magazineRecouple : okMagazineRecouple 1 { clip := 5, channel := 0, opened := true, next := 3, sent := 3, committed := 2, credit := 9, decoupled := true } (modRec 0 (fun x => { x with state := .recording, main := 3 }) (modMag 0 (fun x => { x with state := .recording, mac := 4, copy := some { clip := 5, channel := 0, opened := true, next := 3, sent := 3, committed := 2 } }) (modMag 1 (fun x => { x with state := .recording, mac := 4, copy := some { clip := 5, channel := 0, opened := true, next := 3, sent := 3, committed := 2, credit := 9, decoupled := true } }) (modMac 4 (fun x => { x with enabled := true, cfg := { x.cfg with mode := 6, role := 3 }, filter := [(0, { valid := true, addr := [0, 1, 2, 3, 4, 5] })], lk := { x.lk with link := .up } }) wS)))) := by decide +kernel
theorem witness_copyClose : okCopyClose 1 { clip := 5, channel := 0, opened := true, next := 3, sent := 3, committed := 2 } (modRec 0 (fun x => { x with state := .draining, ended := true, count := 2 }) (modMag 1 (fun x => { x with state := .recording, mac := 4, epoch := 1, copy := some { clip := 5, channel := 0, opened := true, next := 3, sent := 3, committed := 2 } }) (modMac 4 (fun x => { x with enabled := true, cfg := { x.cfg with mode := 6, role := 3 }, filter := [(0, { valid := true, addr := [0, 1, 2, 3, 4, 5] })], lk := { x.lk with link := .up } }) wS))) := by decide +kernel
theorem witness_spanContinuation : okSpanContinuation 0 5 2 1 (modRec 0 (fun x => { x with spanDue := some (1, 5, 2) }) (modMag 1 (fun x => { x with state := .ready }) wS)) := by decide +kernel
theorem witness_stopBathTrigger : okStopBathTrigger { (modRec 0 (fun x => { x with cfg := { x.cfg with stopbath := true } }) (modMag 1 (fun x => { x with state := .recording, mac := 4, epoch := 1, copy := some { clip := 5, channel := 0, opened := true, next := 3, sent := 3, committed := 2 } }) (modMac 4 (fun x => { x with enabled := true, cfg := { x.cfg with mode := 6, role := 3 }, filter := [(0, { valid := true, addr := [0, 1, 2, 3, 4, 5] })], lk := { x.lk with link := .up } }) wS))) with sl := { wS.sl with cmps := [(1, { state := false })] }, mag := { (modRec 0 (fun x => { x with cfg := { x.cfg with stopbath := true } }) (modMag 1 (fun x => { x with state := .recording, mac := 4, epoch := 1, copy := some { clip := 5, channel := 0, opened := true, next := 3, sent := 3, committed := 2 } }) (modMac 4 (fun x => { x with enabled := true, cfg := { x.cfg with mode := 6, role := 3 }, filter := [(0, { valid := true, addr := [0, 1, 2, 3, 4, 5] })], lk := { x.lk with link := .up } }) wS))).mag with bath := { state := 0, closingSent := false } } } := by decide +kernel
theorem witness_stopBathNothingSending : okStopBathNothingSending { (modRec 0 (fun x => { x with cfg := { x.cfg with stopbath := true } }) (modMag 1 (fun x => { x with state := .recording, mac := 4, epoch := 1, copy := some { clip := 5, channel := 0, opened := true, next := 3, sent := 3, committed := 2 } }) (modMac 4 (fun x => { x with enabled := true, cfg := { x.cfg with mode := 6, role := 3 }, filter := [(0, { valid := true, addr := [0, 1, 2, 3, 4, 5] })], lk := { x.lk with link := .up } }) wS))) with sl := { wS.sl with cmps := [(1, { state := false })] }, mag := { (modRec 0 (fun x => { x with cfg := { x.cfg with stopbath := true } }) (modMag 1 (fun x => { x with state := .recording, mac := 4, epoch := 1, copy := some { clip := 5, channel := 0, opened := true, next := 3, sent := 3, committed := 2 } }) (modMac 4 (fun x => { x with enabled := true, cfg := { x.cfg with mode := 6, role := 3 }, filter := [(0, { valid := true, addr := [0, 1, 2, 3, 4, 5] })], lk := { x.lk with link := .up } }) wS))).mag with bath := { state := 1, closingSent := false } } } := by decide +kernel
theorem witness_stopBathAbandons : okStopBathAbandons 1 { (modRec 0 (fun x => { x with cfg := { x.cfg with stopbath := true } }) (modMag 1 (fun x => { x with state := .recording, mac := 4, copy := some { clip := 5, channel := 0, opened := true, next := 3, sent := 3, committed := 2, sending := some 3 } }) (modMac 4 (fun x => { x with enabled := true, cfg := { x.cfg with mode := 6, role := 3 }, filter := [(0, { valid := true, addr := [0, 1, 2, 3, 4, 5] })], lk := { x.lk with link := .up } }) wS))) with sl := { wS.sl with cmps := [(1, { state := false })] }, mag := { (modRec 0 (fun x => { x with cfg := { x.cfg with stopbath := true } }) (modMag 1 (fun x => { x with state := .recording, mac := 4, copy := some { clip := 5, channel := 0, opened := true, next := 3, sent := 3, committed := 2, sending := some 3 } }) (modMac 4 (fun x => { x with enabled := true, cfg := { x.cfg with mode := 6, role := 3 }, filter := [(0, { valid := true, addr := [0, 1, 2, 3, 4, 5] })], lk := { x.lk with link := .up } }) wS))).mag with bath := { state := 1, closingSent := false } } } := by decide +kernel
theorem witness_stopBathCommitDeadline : okStopBathCommitDeadline { (modRec 0 (fun x => { x with cfg := { x.cfg with stopbath := true } }) (modMag 1 (fun x => { x with state := .recording, mac := 4, epoch := 1, copy := some { clip := 5, channel := 0, opened := true, next := 3, sent := 3, committed := 2 } }) (modMac 4 (fun x => { x with enabled := true, cfg := { x.cfg with mode := 6, role := 3 }, filter := [(0, { valid := true, addr := [0, 1, 2, 3, 4, 5] })], lk := { x.lk with link := .up } }) wS))) with sl := { wS.sl with cmps := [(1, { state := false })] }, mag := { (modRec 0 (fun x => { x with cfg := { x.cfg with stopbath := true } }) (modMag 1 (fun x => { x with state := .recording, mac := 4, epoch := 1, copy := some { clip := 5, channel := 0, opened := true, next := 3, sent := 3, committed := 2 } }) (modMac 4 (fun x => { x with enabled := true, cfg := { x.cfg with mode := 6, role := 3 }, filter := [(0, { valid := true, addr := [0, 1, 2, 3, 4, 5] })], lk := { x.lk with link := .up } }) wS))).mag with bath := { state := 1, closingSent := false } } } := by decide +kernel
theorem witness_stopBathAckDeadline : okStopBathAckDeadline { wS with mag := { wS.mag with bath := { state := 1, closingSent := true } } } := by decide +kernel
theorem witness_packetFrameEnds : okPacketFrameEnds 9 { id := 2, buf := 8, width := 8, lines := 1, next := 500 } (modSub 9 (fun x => { x with enabled := true, started := true, cfg := { kind := 0, portA := 4, head := 3, sampling := 0, pgroups := 4, pt := 96, ttl := 1 }, cur := some { id := 2, buf := 8, width := 8, lines := 1, next := 500 }, holds := [{ id := 2, buf := some 8 }] }) (modBuf 8 (fun b => { b with state := .published, frame := 3 }) (modPool 3 (fun _ => { used := true, base := 8388608, size := 65536, count := 2, keep := 1, lines := 32, format := 0x41, stride := 1024, first := 7 }) (wFilled wS)))) := by decide +kernel
theorem witness_packetRelease : okPacketRelease 9 { id := 2, buf := 8, width := 16, lines := 3, next := 1 } (modSub 9 (fun x => { x with enabled := true, started := true, cfg := { kind := 0, portA := 4, head := 3, sampling := 0, pgroups := 4, pt := 96, ttl := 1 }, cur := some { id := 2, buf := 8, width := 16, lines := 3, next := 1 }, holds := [{ id := 2, buf := some 8 }] }) (modPool 3 (fun _ => { used := true, base := 8388608, size := 65536, count := 2, keep := 1, lines := 32, format := 0x20, stride := 1024, first := 7 }) (modMac 4 (fun x => { x with enabled := true, cfg := { x.cfg with mode := 1, role := 0, first := 4, width := 1, maxFrame := 1600 }, lk := { x.lk with link := .up } }) wS))) := by decide +kernel
theorem witness_slotEmpty : okSlotEmpty 9 (modSub 9 (fun x => { x with enabled := true, started := true, cfg := { kind := 2, ringFsa := 8388608, ringCount := 4, slotBytes := 128 } }) (wFilled wS)) := by decide +kernel
theorem witness_slotSent : okSlotSent 9 (fsRead 8388608 16 ({ (wFilled (modSub 9 (fun x => { x with enabled := true, started := true, cfg := { kind := 3, portA := 4, ringFsa := 8388608, ringCount := 4, slotBytes := 128, maxBytes := 100, ratePps := 1000, burst := 4 }, bucket := { level := 4 * secUnits } }) (modMac 4 (fun x => { x with enabled := true, cfg := { x.cfg with mode := 1, role := 0, first := 4, width := 1, maxFrame := 1600 }, lk := { x.lk with link := .up } }) wS))) with fs := { (wFilled (modMac 4 (fun x => { x with enabled := true, cfg := { x.cfg with mode := 1, role := 0, first := 4, width := 1, maxFrame := 1600 }, lk := { x.lk with link := .up } }) wS)).fs with mem := pokeBytes 8388608 ([1, 0, 60, 0] ++ List.replicate 12 0 ++ List.replicate 60 5) [] } })).1 (fsRead 8388624 60 ({ (wFilled (modSub 9 (fun x => { x with enabled := true, started := true, cfg := { kind := 3, portA := 4, ringFsa := 8388608, ringCount := 4, slotBytes := 128, maxBytes := 100, ratePps := 1000, burst := 4 }, bucket := { level := 4 * secUnits } }) (modMac 4 (fun x => { x with enabled := true, cfg := { x.cfg with mode := 1, role := 0, first := 4, width := 1, maxFrame := 1600 }, lk := { x.lk with link := .up } }) wS))) with fs := { (wFilled (modMac 4 (fun x => { x with enabled := true, cfg := { x.cfg with mode := 1, role := 0, first := 4, width := 1, maxFrame := 1600 }, lk := { x.lk with link := .up } }) wS)).fs with mem := pokeBytes 8388608 ([1, 0, 60, 0] ++ List.replicate 12 0 ++ List.replicate 60 5) [] } })).1 (fsRead 8388608 16 ({ (wFilled (modSub 9 (fun x => { x with enabled := true, started := true, cfg := { kind := 3, portA := 4, ringFsa := 8388608, ringCount := 4, slotBytes := 128, maxBytes := 100, ratePps := 1000, burst := 4 }, bucket := { level := 4 * secUnits } }) (modMac 4 (fun x => { x with enabled := true, cfg := { x.cfg with mode := 1, role := 0, first := 4, width := 1, maxFrame := 1600 }, lk := { x.lk with link := .up } }) wS))) with fs := { (wFilled (modMac 4 (fun x => { x with enabled := true, cfg := { x.cfg with mode := 1, role := 0, first := 4, width := 1, maxFrame := 1600 }, lk := { x.lk with link := .up } }) wS)).fs with mem := pokeBytes 8388608 ([1, 0, 60, 0] ++ List.replicate 12 0 ++ List.replicate 60 5) [] } })).2.2 (fsRead 8388624 60 ({ (wFilled (modSub 9 (fun x => { x with enabled := true, started := true, cfg := { kind := 3, portA := 4, ringFsa := 8388608, ringCount := 4, slotBytes := 128, maxBytes := 100, ratePps := 1000, burst := 4 }, bucket := { level := 4 * secUnits } }) (modMac 4 (fun x => { x with enabled := true, cfg := { x.cfg with mode := 1, role := 0, first := 4, width := 1, maxFrame := 1600 }, lk := { x.lk with link := .up } }) wS))) with fs := { (wFilled (modMac 4 (fun x => { x with enabled := true, cfg := { x.cfg with mode := 1, role := 0, first := 4, width := 1, maxFrame := 1600 }, lk := { x.lk with link := .up } }) wS)).fs with mem := pokeBytes 8388608 ([1, 0, 60, 0] ++ List.replicate 12 0 ++ List.replicate 60 5) [] } })).2.2 { level := 3 * secUnits } { (wFilled (modSub 9 (fun x => { x with enabled := true, started := true, cfg := { kind := 3, portA := 4, ringFsa := 8388608, ringCount := 4, slotBytes := 128, maxBytes := 100, ratePps := 1000, burst := 4 }, bucket := { level := 4 * secUnits } }) (modMac 4 (fun x => { x with enabled := true, cfg := { x.cfg with mode := 1, role := 0, first := 4, width := 1, maxFrame := 1600 }, lk := { x.lk with link := .up } }) wS))) with fs := { (wFilled (modMac 4 (fun x => { x with enabled := true, cfg := { x.cfg with mode := 1, role := 0, first := 4, width := 1, maxFrame := 1600 }, lk := { x.lk with link := .up } }) wS)).fs with mem := pokeBytes 8388608 ([1, 0, 60, 0] ++ List.replicate 12 0 ++ List.replicate 60 5) [] } } := by decide +kernel
theorem witness_portSchedule : okPortSchedule 4 3 { sub := 9, hold := 2, service := 3, eligible := 0, deadline := 7, paced := true, counts := true, bytes := [1, 2] } (modPort 4 (fun p => { p with queue := [{ sub := 9, hold := 2, service := 3, eligible := 0, deadline := 7, paced := true, counts := true, bytes := [1, 2] }] }) (modMac 4 (fun x => { x with enabled := true, cfg := { x.cfg with mode := 1, role := 0, first := 4, width := 1, maxFrame := 1600 }, lk := { x.lk with link := .up } }) wS)) := by decide +kernel
theorem witness_portPromotes : okPortPromotes 4 3 { sub := 9, hold := 2, service := 3, eligible := 0, deadline := 7, paced := true, counts := true, bytes := [1, 2] } (modPort 4 (fun p => { p with queue := [{ sub := 9, hold := 2, service := 3, eligible := 0, deadline := 7, paced := true, counts := true, bytes := [1, 2] }], age := [(3, 5)] }) { (modMac 4 (fun x => { x with enabled := true, cfg := { x.cfg with mode := 1, role := 0, first := 4, width := 1, maxFrame := 1600 }, lk := { x.lk with link := .up } }) wS) with time := { wS.time with tb := { wS.time.tb with now := 65536000000000 } } }) := by decide +kernel
theorem witness_pacedDeadlineExpiry : okPacedDeadlineExpiry 4 9 { sub := 9, hold := 2, service := 3, eligible := 0, deadline := 7, paced := true, counts := true, bytes := [1, 2] } (modPort 4 (fun p => { p with queue := [{ sub := 9, hold := 2, service := 3, eligible := 0, deadline := 7, paced := true, counts := true, bytes := [1, 2] }] }) { (modMac 4 (fun x => { x with enabled := true, cfg := { x.cfg with mode := 1, role := 0, first := 4, width := 1, maxFrame := 1600 }, lk := { x.lk with link := .up } }) wS) with time := { wS.time with tb := { wS.time.tb with now := 65536000000000 } } }) := by decide +kernel
theorem witness_mergeTimeout : okMergeTimeout 9 5 { seq := 8, mac := 4, bytes := [] } (modFlow 9 (fun x => { x with enabled := true, next := some 5, waiting := [{ seq := 8, mac := 4, bytes := [] }], cfg := { x.cfg with dest := 1, target := 3 } }) wS) := by decide +kernel
theorem witness_pathADown : okPathADown 9 65536000000000 (modFlow 9 (fun x => { x with enabled := true, lastB := some 65536000000000, cfg := { x.cfg with portB := some 3 } }) { wS with time := { wS.time with tb := { wS.time.tb with now := 65536000000000 } } }) := by decide +kernel
theorem witness_pathBDown : okPathBDown 9 65536000000000 5 (modFlow 9 (fun x => { x with enabled := true, lastA := some 65536000000000, lastB := some 5, cfg := { x.cfg with portB := some 3 } }) { wS with time := { wS.time with tb := { wS.time.tb with now := 65536000000000 } } }) := by decide +kernel
theorem witness_depackEndTimeout : okDepackEndTimeout 9 (modDp 9 (fun x => { x with enabled := true, state := .opened }) wS) := by decide +kernel
theorem witness_depackDropOver : okDepackDropOver 9 (modDp 9 (fun x => { x with enabled := true, state := .dropping }) wS) := by decide +kernel
theorem witness_ptpAnnounceIgnored : okPtpAnnounceIgnored 4 (udpFrame [1,2,3,4,5,6] [1,2,3,4,5,7] none 0 1 167772161 167772162 319 319 ([11, 2, 0, 64, 2] ++ List.replicate 59 0)) (modPtp 4 (fun p => { p with cfg := { p.cfg with enabled := true, domain := 2 } }) (modRig (fun r => { r with state := .leader, port := 4 }) (modMac 4 (fun x => { x with enabled := true, cfg := { x.cfg with mode := 1, role := 0, first := 4, width := 1, maxFrame := 1600, defaultQ := 0, dest := [1] }, lk := { x.lk with link := .up } }) wS))) := by decide +kernel
theorem witness_ptpSyncTwoStep : okPtpSyncTwoStep 4 (udpFrame [1,2,3,4,5,6] [1,2,3,4,5,7] none 0 1 167772161 167772162 319 319 ([0, 2, 0, 44, 2, 0, 2, 0] ++ List.replicate 36 0)) { source := 0 } (modPtp 4 (fun p => { p with cfg := { p.cfg with enabled := true, domain := 2 }, best := some { source := 0 } }) (modMac 4 (fun x => { x with enabled := true, cfg := { x.cfg with mode := 1, role := 0, first := 4, width := 1, maxFrame := 1600, defaultQ := 0, dest := [1] }, lk := { x.lk with link := .up } }) wS)) := by decide +kernel
theorem witness_ptpDelayResp : okPtpDelayResp 4 (udpFrame [1,2,3,4,5,6] [1,2,3,4,5,7] none 0 1 167772161 167772162 319 319 ([1, 2, 0, 44, 2, 0, 0, 0] ++ List.replicate 36 0)) (modPtp 4 (fun p => { p with cfg := { p.cfg with enabled := true, domain := 2 } }) (modRig (fun r => { r with state := .leader, port := 4 }) (modMac 4 (fun x => { x with enabled := true, cfg := { x.cfg with mode := 1, role := 0, first := 4, width := 1, maxFrame := 1600, defaultQ := 0, dest := [1] }, lk := { x.lk with link := .up } }) wS))) := by decide +kernel
theorem witness_ptpSyncSent : okPtpSyncSent 4 (modPtp 4 (fun p => { p with cfg := { p.cfg with enabled := true, domain := 2 }, txSync := 7 }) (modPtp 4 (fun p => { p with cfg := { p.cfg with logAnnounce := 1, logSync := 0 } }) (modRig (fun r => { r with state := .leader, port := 4 }) (modMac 4 (fun x => { x with enabled := true, cfg := { x.cfg with mode := 1, role := 0, first := 4, width := 1, maxFrame := 1600 }, lk := { x.lk with link := .up } }) wS)))) := by decide +kernel
theorem witness_ptpDelayReqSent : okPtpDelayReqSent 4 (modPtp 4 (fun p => { p with cfg := { p.cfg with enabled := true, domain := 2 }, best := some {} }) (modMac 4 (fun x => { x with enabled := true, cfg := { x.cfg with mode := 1, role := 0, first := 4, width := 1, maxFrame := 1600 }, lk := { x.lk with link := .up } }) wS)) := by decide +kernel
theorem witness_announceReceiptTimeout : okAnnounceReceiptTimeout 4 (modPtp 4 (fun p => { p with cfg := { p.cfg with enabled := true, domain := 2 }, best := some {} }) wS) := by decide +kernel
theorem witness_rigLeadHeard : okRigLeadHeard 4 ([1,2,3,4,5,6,1,2,3,4,5,7,0x88,0xB7,2,1,0,5,1,3,0,0,0,0,0,0,0,0,0,7,0,0,0,1]) (modRig (fun r => { r with port := 4, rigId := 5, priority := 9, nonce := 3, state := .waiting }) (modMac 4 (fun x => { x with enabled := true, cfg := { x.cfg with mode := 1, role := 0, first := 4, width := 1, maxFrame := 1600, defaultQ := 0, dest := [1] }, lk := { x.lk with link := .up } }) wS)) := by decide +kernel
theorem witness_rigPresentHeard : okRigPresentHeard 4 ([1,2,3,4,5,6,1,2,3,4,5,7,0x88,0xB7,3,1,0,5,1,3,0,0,0,0,0,0,0,0,0,7,0,0,0,1]) (modRig (fun r => { r with port := 4, rigId := 5, priority := 9, nonce := 3, state := .leader }) (modMac 4 (fun x => { x with enabled := true, cfg := { x.cfg with mode := 1, role := 0, first := 4, width := 1, maxFrame := 1600, defaultQ := 0, dest := [1] }, lk := { x.lk with link := .up } }) wS)) := by decide +kernel
theorem witness_rigDuplicateHeard : okRigDuplicateHeard 4 ([1,2,3,4,5,6,1,2,3,4,5,7,0x88,0xB7,1,1,0,5,9,0,0,0,0,0,0,0,0,0,0,0,0,0,0,1]) (modRig (fun r => { r with port := 4, rigId := 5, priority := 9, nonce := 3, state := .claiming }) (modMac 4 (fun x => { x with enabled := true, cfg := { x.cfg with mode := 1, role := 0, first := 4, width := 1, maxFrame := 1600, defaultQ := 0, dest := [1] }, lk := { x.lk with link := .up } }) wS)) := by decide +kernel
theorem witness_rigClaimAgain : okRigClaimAgain (modRig (fun r => { r with port := 4, rigId := 5, priority := 9, nonce := 3, state := .claiming, claims := 1 }) wS) := by decide +kernel
theorem witness_rigClaimWon : okRigClaimWon (modRig (fun r => { r with port := 4, rigId := 5, priority := 9, nonce := 3, state := .claiming, claims := 3 }) wS) := by decide +kernel
theorem witness_rigLeadTimeout : okRigLeadTimeout (modRig (fun r => { r with port := 4, rigId := 5, priority := 9, nonce := 3, state := .member }) wS) := by decide +kernel
theorem witness_rigLeadSent : okRigLeadSent (modRig (fun r => { r with port := 4, rigId := 5, priority := 9, nonce := 3, state := .leader }) (modMac 4 (fun x => { x with enabled := true, cfg := { x.cfg with mode := 1, role := 0, first := 4, width := 1, maxFrame := 1600 }, lk := { x.lk with link := .up } }) wS)) := by decide +kernel
theorem witness_rigPresentSent : okRigPresentSent (modRig (fun r => { r with port := 4, rigId := 5, priority := 9, nonce := 3, state := .member }) (modMac 4 (fun x => { x with enabled := true, cfg := { x.cfg with mode := 1, role := 0, first := 4, width := 1, maxFrame := 1600 }, lk := { x.lk with link := .up } }) wS)) := by decide +kernel
theorem witness_doorbellStarts : okDoorbellStarts 5 9 (modDom 2 (fun d => { d with level := .on }) (modDc 5 (fun x => { x with mode := 1, state := .idle, dbLo := 65 }) wS)) := by decide +kernel
theorem witness_doorbellQueues : okDoorbellQueues 5 9 (modDom 2 (fun d => { d with level := .on }) (modDc 5 (fun x => { x with mode := 1, state := .running, dbLo := 65 }) wS)) := by decide +kernel
theorem witness_doorbellIgnored : okDoorbellIgnored 5 9 (modDom 2 (fun d => { d with level := .on }) wS) := by decide +kernel
theorem witness_dcResume : okDcResume 5 { addr := 64 } [{ addr := 96 }] (modDom 2 (fun d => { d with level := .on }) (modDc 5 (fun x => { x with mode := 1, state := .halted, err := 3, queue := [{ addr := 64 }, { addr := 96 }] }) wS)) := by decide +kernel
theorem witness_dcResetIdle : okDcResetIdle 5 (modDom 2 (fun d => { d with level := .on }) (modDc 5 (fun x => { x with mode := 1, state := .idle, err := 3 }) wS)) := by decide +kernel
theorem witness_dcResetBurst : okDcResetBurst 5 true 8388672 (modDom 2 (fun d => { d with level := .on }) (modDc 5 (fun x => { x with mode := 1, state := .running, run := some { desc := { op := .fill, dst := { fsa := true, addr := 8388608 }, length := 256 }, moved := 64 } }) wS)) := by decide +kernel
theorem witness_dcResetComplete : okDcResetComplete 5 (modDom 2 (fun d => { d with level := .on }) (modDc 5 (fun x => { x with mode := 1, state := .resetting }) wS)) := by decide +kernel
theorem witness_descriptorFetch : okDescriptorFetch 5 { addr := 4096 } ([0,0,0,0,0,0,3,1+8, 0,0,0,0, 0,0, 0,0, 0,0,0x80,0,0,0, 0,0, 64,0,0,0, 0,0,0,0] : List Byte) (modDom 2 (fun d => { d with level := .on }) (hostPoke 4096 ([0,0,0,0,0,0,3,1+8, 0,0,0,0, 0,0, 0,0, 0,0,0x80,0,0,0, 0,0, 64,0,0,0, 0,0,0,0] : List Byte) (modDc 5 (fun x => { x with mode := 1, state := .running, next := some { addr := 4096 } }) { wS with host := { wS.host with linkUp := true, busMaster := true } }))) := by decide +kernel
theorem witness_descriptorOutOfRange : okDescriptorOutOfRange 5 { fsa := true, addr := 4096 } (modDom 2 (fun d => { d with level := .on }) (modDc 5 (fun x => { x with mode := 1, state := .running, next := some { fsa := true, addr := 4096 } }) wS)) := by decide +kernel
theorem witness_descBad : descParamBad (List.replicate 32 0) = true := by decide +kernel
theorem witness_descGood : descParamBad ([0,0,0,0,0,0,3,1+8, 0,0,0,0, 0,0, 0,0, 0,0,0x80,0,0,0, 0,0, 64,0,0,0, 0,0,0,0] : List Byte) = false ∧ sidesOverlap (descOf ([0,0,0,0,0,0,3,1+8, 0,0,0,0, 0,0, 0,0, 0,0,0x80,0,0,0, 0,0, 64,0,0,0, 0,0,0,0] : List Byte)) = false ∧ ∃ t, checkSides 5 (descOf ([0,0,0,0,0,0,3,1+8, 0,0,0,0, 0,0, 0,0, 0,0,0x80,0,0,0, 0,0, 64,0,0,0, 0,0,0,0] : List Byte)) (modDc 5 (fun x => { x with cur := {} }) (wFilled wS)) = .ok t := ⟨by decide +kernel, by decide +kernel, _, rfl⟩
theorem witness_dmaTurnFill : okDmaTurnFill 5 { desc := { op := .fill, dst := { fsa := true, addr := 8388608 }, length := 8192 } } (modDom 2 (fun d => { d with level := .on }) (modDc 5 (fun x => { x with mode := 1, state := .running, run := some { desc := { op := .fill, dst := { fsa := true, addr := 8388608 }, length := 8192 } } }) (wFilled wS))) := by decide +kernel
theorem witness_descriptorLast : okDescriptorLast 5 { desc := { isLast := true }, finished := true } (modDom 2 (fun d => { d with level := .on }) (modDc 5 (fun x => { x with mode := 1, state := .running, run := some { desc := { isLast := true }, finished := true }, queue := [{ addr := 64 }] }) wS)) := by decide +kernel
theorem witness_ringFrameWritten : okRingFrameWritten 5 { mac := 4, bytes := [1, 2] } [] (hostPoke 8192 (ringHeader { mac := 4, bytes := [1, 2] } 2 ++ [1, 2]) (modDom 2 (fun d => { d with level := .on }) (modDc 5 (fun x => { x with mode := 2, state := .ring, entries := 4, entryBytes := 128, ringAddr := 8192, inbox := [{ mac := 4, bytes := [1, 2] }] }) { wS with host := { wS.host with linkUp := true, busMaster := true } }))) (modDom 2 (fun d => { d with level := .on }) (modDc 5 (fun x => { x with mode := 2, state := .ring, entries := 4, entryBytes := 128, ringAddr := 8192, inbox := [{ mac := 4, bytes := [1, 2] }] }) { wS with host := { wS.host with linkUp := true, busMaster := true } })) := by decide +kernel
theorem witness_ringConsMoves : okRingConsMoves 5 9 (modDom 2 (fun d => { d with level := .on }) (modDc 5 (fun x => { x with mode := 2, state := .ring, prod := 9, cons := 7 }) wS)) := by decide +kernel
theorem witness_ringConsIgnored : okRingConsIgnored 5 10 (modDom 2 (fun d => { d with level := .on }) (modDc 5 (fun x => { x with mode := 2, state := .ring, prod := 9, cons := 7 }) wS)) := by decide +kernel
theorem witness_eventRaise : okEventRaise 868 wS := by decide +kernel
theorem witness_msiXSend : okMsiXSend 5 (modEv (fun e => { e with pend := [(5, 4#32)], en := [(5, 4#32)], armed := 0xFFFFFFFF#32, holdoff := [(5, 9)], table := [(5, { addr := 4096, data := 7, masked := false })] }) { wS with host := { wS.host with linkUp := true, busMaster := true, msixEnable := true } }) := by decide +kernel
theorem witness_evtRearmWrite : okEvtRearmWrite 9 (modDom 2 (fun d => { d with level := .on }) wS) := by decide +kernel
theorem witness_evtHoldoffWrite : okEvtHoldoffWrite 5 0x10009 (modDom 2 (fun d => { d with level := .on }) wS) := by decide +kernel
theorem witness_evcClaimRead : okEvcClaimRead 34 (modDom 2 (fun d => { d with level := .on }) (modEv (fun e => { e with evcPend := [(1, 0xC#32), (2, 1#32)], evcEn := [(1, 0xC#32)] }) wS)) := by decide +kernel
theorem witness_evcClaimSpurious : okEvcClaimSpurious (modDom 2 (fun d => { d with level := .on }) (modEv (fun e => { e with inService := some 8 }) wS)) := by decide +kernel
theorem witness_evcCompleteWrite : okEvcCompleteWrite 8 (modDom 2 (fun d => { d with level := .on }) (modEv (fun e => { e with inService := some 8 }) wS)) := by decide +kernel
theorem witness_evcCompleteWrong : okEvcCompleteWrong 9 (modDom 2 (fun d => { d with level := .on }) (modEv (fun e => { e with inService := some 8 }) wS)) := by decide +kernel
theorem witness_eviRises : okEviRises 5 98304000000000 (modEv (fun e => { e with pins := [(5, { edge := 3, invert := true, ball := true })] }) wS) := by decide +kernel
theorem witness_eviFalls : okEviFalls 5 7 (modEv (fun e => { e with pins := [(5, { edge := 1, level := true })] }) wS) := by decide +kernel
theorem witness_powerGranted : okPowerGranted 27 1200 1600 (modDom 27 (fun d => { d with level := .off }) (modPwr (fun p => { p with waking := false, leaving := false, budget := 44000 }) wS)) := by decide +kernel
theorem witness_powerDenied : okPowerDenied 30 1200 1600 (3, 0) (modDom 30 (fun d => { d with level := .on }) (modSl (fun l => { l with cmps := [(4, { state := true })] }) (modPwr (fun p => { p with waking := false }) wS))) := by decide +kernel
theorem witness_powerWaits : okPowerWaits 27 1200 1600 { wS with ctl := { wS.ctl with pair := .restarting } } := by decide +kernel
theorem witness_domainSwitchesOn : okDomainSwitchesOn { domain := 18, target := .on, step := 300 } [] (modPwr (fun p => { p with queue := [{ domain := 18, target := .on, step := 300 }] }) wS) := by decide +kernel
theorem witness_domainSwitchDelayed : okDomainSwitchDelayed { domain := 18, target := .on, step := 300000 } [] (modPwr (fun p => { p with queue := [{ domain := 18, target := .on, step := 300000 }] }) wS) := by decide +kernel
theorem witness_domainLoad : okDomainLoad 18 (modDom 18 (fun d => { d with level := .on, loading := true }) wS) := by decide +kernel
theorem witness_standbyWake : okStandbyWake (modSl (fun l => { l with cmps := [(1, { state := true })] }) (modPwr (fun p => { p with state := .standby, wakeDue := true }) wS)) := by decide +kernel
theorem witness_holdupExit : okHoldupExit (modSl (fun l => { l with cmps := [(1, { state := true })] }) (modPwr (fun p => { p with holdup := true }) wS)) := by decide +kernel
theorem witness_pwrWakeWrite : okPwrWakeWrite 1 (modDom 3 (fun d => { d with level := .on }) (modPwr (fun p => { p with state := .standby }) wS)) := by decide +kernel
theorem witness_comparatorPlain : okComparatorPlain 5 wS := by decide +kernel
theorem witness_comparatorHot : okComparatorHot 4 (modSl (fun l => { l with wakeEn := 16 }) wS) := by decide +kernel
theorem witness_vsafeToBattery : okVsafeToBattery wS := by decide +kernel
theorem witness_vsafeToSupply : okVsafeToSupply (modSl (fun l => { l with onBattery := true }) wS) := by decide +kernel
theorem witness_rtcCounts : okRtcCounts (modSl (fun l => { l with rtcSec := 7, alarm := 9, alarmEn := true }) wS) := by decide +kernel
theorem witness_rtcLoads : okRtcLoads (modTb (fun b => { b with todValid := true, state := .locked, now := 983040000000000 }) (modDom 4 (fun d => { d with level := .on }) wS)) := by decide +kernel
theorem witness_safelightWake : okSafelightWake 7 (modSl (fun l => { l with wakeEn := 128 }) wS) := by decide +kernel
theorem witness_safelightTcFrame : okSafelightTcFrame (modSl (fun l => { l with tcFf := 24, tcSs := 59 }) wS) := by decide +kernel
theorem witness_sramCorrected : okSramCorrected 13 2 0 wS := by decide +kernel
theorem witness_pornReset : okPornReset 1 20000 wS := by decide +kernel
theorem witness_pornIgnored : okPornIgnored 1 9999 wS := by decide +kernel
theorem witness_hrstnReset : okHrstnReset 1 500 wS := by decide +kernel
theorem witness_hrstnDeferred : okHrstnDeferred 1 500 { (modRec 1 (fun x => { x with state := .stopBath }) wS) with mag := { (modRec 1 (fun x => { x with state := .stopBath }) wS).mag with bath := { state := 1 } } } := by decide +kernel
theorem witness_bootWatchdogExpiry : okBootWatchdogExpiry 1 wS := by decide +kernel
theorem witness_bootPushFails : okBootPushFails 1 (List.replicate 20 0) (modBoot (fun b => { b with started := false, pushLen := 20 }) (modDom 3 (fun d => { d with level := .on }) { wS with host := { wS.host with linkUp := true, busMaster := true } })) := by decide +kernel
theorem witness_bootPushWaits : okBootPushWaits 1 (modBoot (fun b => { b with started := false, stage := 7 }) (modDom 3 (fun d => { d with level := .on }) wS)) := by decide +kernel
theorem witness_firmwareReady : okFirmwareReady (modSl (fun l => { l with slReset := false }) { State.reset with boot := { State.reset.boot with stage := 3 } }) := by decide +kernel
theorem witness_debugOff : okDebugOff 1 (modDom 3 (fun d => { d with level := .on }) wS) := by decide +kernel
theorem witness_fwUpdateLock : okFwUpdateLock 2 (modDom 3 (fun d => { d with level := .on }) wS) := by decide +kernel
theorem witness_upstreamPayload : okUpstreamPayload 3 { mb := 3, opcode := 0x0A11, flags := 1, length := 72 } { wS with ctl := { wS.ctl with inflight := [{ mb := 3, opcode := 0x0A11, flags := 1, length := 72 }] } } := by decide +kernel
theorem witness_upstreamPush : okUpstreamPush (modBoot (fun b => { b with stage := 1 }) wS) := by decide +kernel
theorem witness_pcieLinkUp : okPcieLinkUp (modDom 3 (fun d => { d with level := .on }) wS) := by decide +kernel
theorem witness_mgmtSpiRead : okMgmtSpiRead ([0x52, 0, 0xF0] ++ [crc8 [0x52, 0, 0xF0]]) wS := by decide +kernel
theorem witness_mgmtSpiReadBadCrc : okMgmtSpiReadBadCrc ([0x52, 0, 0xF0] ++ [1]) wS := by decide +kernel
theorem witness_mgmtSpiWrite : okMgmtSpiWrite ([0x57, 0, 0x64, 0, 0, 1, 0x0F] ++ [crc8 [0x57, 0, 0x64, 0, 0, 1, 0x0F]]) wS := by decide +kernel
theorem witness_mgmtSpiWake : okMgmtSpiWake ([0xA5, 0, 0] ++ [crc8 [0xA5, 0, 0]]) (modSl (fun l => { l with wakeEn := 128 }) wS) := by decide +kernel
theorem witness_mgmtSpiWakeRefused : okMgmtSpiWakeRefused ([0xA5, 0, 0] ++ [crc8 [0xA5, 0, 0]]) (modSl (fun l => { l with wakeEn := 0 }) wS) := by decide +kernel
theorem witness_mgmtSpiAbort : okMgmtSpiAbort [0x52, 0] wS := by decide +kernel
theorem witness_slSpiClear : okSlSpiClear 0x300 (modDom 3 (fun d => { d with level := .on }) (modSl (fun l => { l with spiAbort := true, spiCrcErrs := 9 }) wS)) := by decide +kernel
theorem witness_scratchWrite : okScratchWrite 9 (modDom 3 (fun d => { d with level := .on }) wS) := by decide +kernel
theorem witness_apertureWrite : okApertureWrite 0xFFF00009 (modDom 3 (fun d => { d with level := .on }) wS) := by decide +kernel
theorem witness_eventPendingClear : okEventPendingClear 5 9 (modDom 3 (fun d => { d with level := .on }) (modDom 2 (fun d => { d with level := .on }) (modEv (fun e => { e with pend := [(5, 0xB#32)] }) wS))) := by decide +kernel
theorem witness_bar0WriteIgnored : okBar0WriteIgnored 21 9 wS := by decide +kernel
theorem witness_commandRingWrite : okCommandRingWrite 3 17 9 (modDom 3 (fun d => { d with level := .on }) (modDom 1 (fun d => { d with level := .on }) wS)) := by decide +kernel
end Sys2Proof.Tests
end

section
/-! PROOFS. The host events (R14 to R17, R582, R552, R591 to R593): what the rows of the host interface answer once their
shared step is known, a MGMT_SPI request row by row, a BAR0 write by its region, and the statement about them. -/
namespace Sys2Proof.Machine
open Sys2Proof

/-! How a row answers. -/

/-- A row whose effect on `s` keeps the waiting commands answers with that effect. -/
theorem act_next {f : State → State} {s t : State} (h : f s = t) (hp : t.pending = s.pending) : act f s = .next t := by
  rw [act_eq, h, ← hp]

/-- A row that acts outside the Safelight domain answers with an effect that already leaves this domain alone. -/
theorem actOutside_next {f : State → State} {s t : State} (h : f s = t) (hsl : t.sl = s.sl) (hp : t.pending = s.pending) :
    actOutside f s = .next t := by
  rw [actOutside_eq, h, state_eta t s.sl s.pending hsl hp]

theorem outsideSafelight_of_sl {f : State → State} {s : State} (h : (f s).sl = s.sl) : outsideSafelight f s = f s := by
  unfold outsideSafelight
  rw [← h]

theorem heldIn_on {d : Nat} {f : State → State} {s : State} (h : domOn s d = true) : heldIn d f s = f s := if_pos h

/-! Blocked requests and the link. -/

theorem upstreamTimeout_payload {n : Fin 16} {c : Cmd} {s : State} (h : okUpstreamPayload n c s) :
    upstreamTimeout (.extPayload n) s = postFinal c .timeout 1 [] (dropCmd c s) := by
  obtain ⟨hblocked, hfetch, hfw⟩ := h
  simp [upstreamTimeout, hblocked, hfetch, hfw, fetchEnd]

theorem upstreamTimeout_push {s : State} (h : okUpstreamPush s) :
    upstreamTimeout .imagePush s = modBoot (fun b => { b with stage := 7, result := 8 }) s := by
  obtain ⟨hblocked, hstage⟩ := h
  simp [upstreamTimeout, hblocked, hstage]

/-- With no push waiting, nothing resumes. -/
theorem pushResume_of_not_waiting {s : State} (h : s.boot.stage ≠ 1) : pushResume s = s := by
  simp [pushResume, h]

theorem pcieLinkUp_up {s : State} (h : okPcieLinkUp s) : pcieLinkUp s = modHost (fun x => { x with linkUp := true }) s := by
  obtain ⟨hdom, hstage⟩ := h
  rw [pcieLinkUp, if_pos hdom, pushResume_of_not_waiting (by simpa using hstage)]

/-! MGMT_SPI. -/

theorem spiLength_of_head {f : List Byte} {c : Byte} (h : f.headD 0 = c) (hc : c ≠ 0) :
    spiLength f = if c = 0x57 then 8 else if c = 0x52 ∨ c = 0xA5 then 4 else max 2 f.length := by
  cases f with
  | nil => exact absurd h.symm hc
  | cons b t => subst h; rfl

/-- A frame holds its whole request, and the request's CRC is right (R591, R592). -/
def SpiWhole (f : List Byte) : Prop :=
  spiLength f = f.length ∧ crc8 (f.take (f.length - 1)) = f.getD (f.length - 1) 0

theorem spiRequest_badCrc {f : List Byte} (s : State) (hlen : f.length = spiLength f) (hread : f.headD 0 = 0x52)
    (hcrc : crc8 (f.take 3) ≠ f.getD 3 0) :
    spiRequest f s = spiAnswer 0x01 [0, 0, 0, 0] (modSl (fun l => { l with spiCrcErrs := satAdd 255 l.spiCrcErrs 1 }) s) := by
  have h4 : spiLength f = 4 := (spiLength_of_head hread (by decide)).trans rfl
  have hall : f.take 4 = f := List.take_of_length_le (by omega)
  have hshort : ¬ f.length < 4 := by omega
  simp only [spiRequest, h4, hall, hshort, if_false, if_pos hread]
  exact if_pos hcrc

/-- A read of a register other than `SL_RTC_SEC_HI`, which alone latches, answers with the register's value (R526, R592). -/
theorem spiRequest_read {f : List Byte} (s : State) (hw : SpiWhole f) (hread : f.headD 0 = 0x52)
    (hal : beNat ((f.drop 1).take 2) % 4 = 0) (hle : beNat ((f.drop 1).take 2) ≤ 0xFC)
    (hne : beNat ((f.drop 1).take 2) ≠ 4) :
    spiRequest f s = spiAnswer 0 (beBytes 4 (slRead true (beNat ((f.drop 1).take 2)) s)) s := by
  obtain ⟨hlen, hcrc⟩ := hw
  have hle' : ¬ 0xFC < beNat ((f.drop 1).take 2) := by omega
  simp only [spiRequest, hlen, List.take_length, hcrc, hread, hal, hle', hne]
  simp

theorem spiRequest_write {f : List Byte} (s : State) (hw : SpiWhole f) (hwrite : f.headD 0 = 0x57)
    (hal : beNat ((f.drop 1).take 2) % 4 = 0) (hle : beNat ((f.drop 1).take 2) ≤ 0xFC) :
    spiRequest f s = spiAnswer 0 [] (slWrite (beNat ((f.drop 1).take 2)) (beNat ((f.drop 3).take 4)) s) := by
  obtain ⟨hlen, hcrc⟩ := hw
  have hle' : ¬ 0xFC < beNat ((f.drop 1).take 2) := by omega
  simp only [spiRequest, hlen, List.take_length, hcrc, hwrite, hal, hle']
  simp

/-- A wake request sets off the wake source of MGMT_SPI where `SL_WAKE_EN` lets it, and is refused with 4 elsewhere (R592). -/
theorem spiRequest_wake {f : List Byte} (s : State) (hw : SpiWhole f) (hwake : f.headD 0 = 0xA5)
    (hzero : beNat ((f.drop 1).take 2) = 0) :
    spiRequest f s = if s.sl.wakeEn.testBit 7 then spiAnswer 0 [] (slWake 7 s) else spiAnswer 0x04 [] s := by
  obtain ⟨hlen, hcrc⟩ := hw
  simp only [spiRequest, hlen, List.take_length, hcrc, hwake, hzero]
  cases hen : s.sl.wakeEn.testBit 7 <;> simp

/-- A wake source that is enabled, in a state that is not one of sleep, only sets its cause (R530). -/
theorem slWake_awake {k : Nat} {s : State} (hen : s.sl.wakeEn.testBit k = true) (hk : k ≠ 8)
    (hsl : s.power.state ≠ .safelight) (hsb : s.power.state ≠ .standby) :
    slWake k s = modSl (fun l => { l with wakeCause := Nat.lor l.wakeCause (2 ^ k) }) s := by
  simp [slWake, hen, hk, hsl, hsb]

/-- A write of a Safelight register changes the Safelight domain only. -/
theorem slWrite_eq_modSl (o v : Nat) (s : State) : ∃ f, slWrite o v s = modSl f s := by
  unfold slWrite
  split
  case h_9 =>
    split
    · exact ⟨_, rfl⟩
    · exact ⟨id, rfl⟩
  all_goals exact ⟨_, rfl⟩

@[simp] theorem slWrite_power (o v : Nat) (s : State) : (slWrite o v s).power = s.power := by
  obtain ⟨f, hf⟩ := slWrite_eq_modSl o v s
  rw [hf, modSl_power]

@[simp] theorem slWrite_pending (o v : Nat) (s : State) : (slWrite o v s).pending = s.pending := by
  obtain ⟨f, hf⟩ := slWrite_eq_modSl o v s
  rw [hf, modSl_pending]

/-- No wake from SAFELIGHT is due, so none resets the device (R549). -/
def NoWakeDue (s : State) : Prop := s.power.state ≠ .safelight ∨ s.power.wakeDue = false

theorem wakeReset_of_noWakeDue {s : State} (h : NoWakeDue s) : wakeReset s = s := by
  rcases h with h | h <;> simp [wakeReset, h]

/-- A row of MGMT_SPI with no wake due answers with its request's effect, where that leaves power and the waiting commands
as they are. -/
theorem spiRow_next {f : State → State} {s t : State} (h : f s = t) (hdue : NoWakeDue s) (hpw : t.power = s.power)
    (hp : t.pending = s.pending) : act (fun x => outsideSafelight wakeReset (f x)) s = .next t := by
  have hreset : wakeReset t = t := wakeReset_of_noWakeDue (by rw [NoWakeDue, hpw]; exact hdue)
  refine act_next (t := t) ?_ hp
  rw [h, outsideSafelight_of_sl (by rw [hreset]), hreset]

theorem exec_mgmtSpiRead {f : List Byte} {s : State} (h : okMgmtSpiRead f s) :
    exec (.mgmtSpiRead f) s = .next (spiAnswer 0 (beBytes 4 (slRead true (beNat ((f.drop 1).take 2)) s)) s) := by
  obtain ⟨hlen, hcrc, hread, hal, hle, hne, hdue⟩ := h
  exact spiRow_next (spiRequest_read s ⟨hlen, hcrc⟩ hread hal hle hne) hdue rfl rfl

theorem exec_mgmtSpiRead_badCrc {f : List Byte} {s : State} (h : okMgmtSpiReadBadCrc f s) :
    exec (.mgmtSpiRead f) s =
      .next (spiAnswer 0x01 [0, 0, 0, 0] (modSl (fun l => { l with spiCrcErrs := satAdd 255 l.spiCrcErrs 1 }) s)) := by
  obtain ⟨hlen, hread, hcrc, hdue⟩ := h
  exact spiRow_next (spiRequest_badCrc s hlen hread hcrc) hdue rfl rfl

theorem exec_mgmtSpiWrite {f : List Byte} {s : State} (h : okMgmtSpiWrite f s) :
    exec (.mgmtSpiWrite f) s =
      .next (spiAnswer 0 [] (slWrite (beNat ((f.drop 1).take 2)) (beNat ((f.drop 3).take 4)) s)) := by
  obtain ⟨hlen, hcrc, hwrite, hal, hle, hdue⟩ := h
  exact spiRow_next (spiRequest_write s ⟨hlen, hcrc⟩ hwrite hal hle) hdue (slWrite_power _ _ s) (slWrite_pending _ _ s)

theorem exec_mgmtSpiWake {f : List Byte} {s : State} (h : okMgmtSpiWake f s) :
    exec (.mgmtSpiWake f) s = .next (spiAnswer 0 [] (modSl (fun l => { l with wakeCause := Nat.lor l.wakeCause 128 }) s)) := by
  obtain ⟨hlen, hcrc, hwake, hzero, hen, hsl, hsb⟩ := h
  refine spiRow_next ?_ (.inl hsl) rfl rfl
  have hcause : slWake 7 s = modSl (fun l => { l with wakeCause := Nat.lor l.wakeCause 128 }) s :=
    slWake_awake hen (by decide) hsl hsb
  rw [spiRequest_wake s ⟨hlen, hcrc⟩ hwake hzero, if_pos hen, hcause]

theorem exec_mgmtSpiWake_refused {f : List Byte} {s : State} (h : okMgmtSpiWakeRefused f s) :
    exec (.mgmtSpiWake f) s = .next (spiAnswer 0x04 [] s) := by
  obtain ⟨hlen, hcrc, hwake, hzero, hen, hdue⟩ := h
  refine spiRow_next ?_ hdue rfl rfl
  rw [spiRequest_wake s ⟨hlen, hcrc⟩ hwake hzero, hen, if_neg Bool.false_ne_true]

theorem exec_mgmtSpiAbort {f : List Byte} {s : State} (h : okMgmtSpiAbort f s) :
    exec (.mgmtSpiAbort f) s = .next (modSl (fun l => { l with spiAbort := true }) s) := by
  obtain ⟨hshort, hdue⟩ := h
  exact spiRow_next (f := mgmtSpiAbort f) (if_pos hshort) hdue rfl rfl

/-! Register writes by their field types. -/

theorem bit_toNat {w : Nat} (v : BitVec w) (k : Nat) : bit v.toNat k = v.getLsbD k := by
  simp [bit, bits, BitVec.getLsbD, Nat.testBit_eq_decide_div_mod_eq]

theorem exec_slSpiClear {v : BitVec 32} {s : State} (h : okSlSpiClear v s) :
    exec (.slSpiClear v) s = .next (modSl (fun l => { l with
      spiAbort := l.spiAbort && !v.getLsbD 8, spiCrcErrs := if v.getLsbD 9 then 0 else l.spiCrcErrs }) s) := by
  refine act_next (f := heldIn 3 (slSpiStatusWrite v.toNat)) ?_ rfl
  rw [heldIn_on h, slSpiStatusWrite, bit_toNat, bit_toNat]

/-- An aligned BAR0 write outside the Safelight page, `PWR_WAKE` and the doorbells goes to its region (R583 to R585). -/
theorem bar0Write_region {o : Nat} (v : Word) {s : State} (hal : o % 4 = 0) (hdom : domOn s 3 = true)
    (hpage : o < 0x380000) (hwake : o ≠ 0x4518) (hdb : o < 0x10000 ∨ 0x20000 ≤ o) :
    bar0Write o v s = outsideSafelight (bar0Region o v) s := by
  have hpage' : ¬ 0x380000 ≤ o := by omega
  have hdb' : ¬ (0x10000 ≤ o ∧ o < 0x20000 ∧ o % 0x1000 = 0x008) := by omega
  simp [bar0Write, hal, hdom, hpage', hwake, hdb']

/-- A BAR0 write whose region's effect keeps the Safelight domain and the waiting commands answers with this effect. -/
theorem exec_bar0Write_region {o : Nat} {v : Word} {s t : State} (h : bar0Region o v s = t) (hsl : t.sl = s.sl)
    (hp : t.pending = s.pending) (hal : o % 4 = 0) (hdom : domOn s 3 = true) (hpage : o < 0x380000) (hwake : o ≠ 0x4518)
    (hdb : o < 0x10000 ∨ 0x20000 ≤ o) : exec (.registerWrite .bar0 o v) s = .next t := by
  refine act_next (f := registerWrite .bar0 o v) ?_ hp
  rw [registerWrite, bar0Write_region v hal hdom hpage hwake hdb, outsideSafelight_of_sl (by rw [h, hsl]), h]

theorem bar0Region_global {o : Nat} (v : Word) (s : State) (h : o < 0x200) : bar0Region o v s = globalWrite o v s := if_pos h

/-- The host view of the pending word of an event group is cleared by the ones written (R487). -/
theorem bar0Region_eventPending (g : Fin 32) (v : Word) {s : State} (hdom : domOn s 2 = true) :
    bar0Region (0x100000 + 4 * g) v s = modEv (fun e => { e with pend := tabMod e.pend g (fun w => w &&& ~~~ v) }) s := by
  have hregion : bar0Region (0x100000 + 4 * g) v s = heldIn 2 (eventWrite (0x100000 + 4 * g) v) s := by
    unfold bar0Region
    repeat rw [if_neg (by omega)]
    rw [if_pos (by omega)]
  have hgroup : (0x100000 + 4 * g.val) % 0x80 / 4 = g.val := by omega
  rw [hregion, heldIn_on hdom, eventWrite, if_pos (by omega), hgroup]

/-- A write of the command ring of a mailbox sets its word (R30). -/
theorem bar0Region_commandRing (n : Fin 16) (k : Fin 1024) (v : Word) {s : State} (hdom : domOn s 1 = true) :
    bar0Region (0x40000 + 0x2000 * n + 4 * k) v s = modMb n (fun m => { m with cmdRing := tabSet m.cmdRing k v }) s := by
  have hregion : bar0Region (0x40000 + 0x2000 * n + 4 * k) v s = mailboxWrite (0x40000 + 0x2000 * n + 4 * k) v s := by
    unfold bar0Region
    repeat rw [if_neg (by omega)]
    rw [if_pos (by omega)]
  have hmb : (0x40000 + 0x2000 * n.val + 4 * k.val - 0x40000) / 0x2000 = n.val := by omega
  have hword : (0x40000 + 0x2000 * n.val + 4 * k.val) % 0x1000 / 4 = k.val := by omega
  rw [hregion, mailboxWrite, if_neg (by omega), if_pos (by omega), heldIn_on hdom, hmb, hword]

/-- A BAR0 write that is not aligned, or while the host interface is off, has no effect (R17, R585). -/
theorem bar0Write_ignored {o : Nat} {v : Word} {s : State} (h : okBar0WriteIgnored o v s) : bar0Write o v s = s :=
  if_pos (by simpa using h)

/-- Settles O60: each clause is the row's lemma above. -/
theorem hostEvents : Obligations.HostEvents := by
  unfold Obligations.HostEvents
  refine ⟨?badRead, ?badWrite, ?payload, ?push, ?linkUp, ?spiRead, ?spiBadCrc, ?spiWrite, ?spiWake, ?spiRefused, ?spiAbort,
    ?spiClear, ?scratch, ?aperture, ?pending, ?ignored, ?ring⟩
  case badRead => exact fun o k v s => actOutside_next (f := bar0BadAccess k false) rfl rfl rfl
  case badWrite => exact fun o k v s => actOutside_next (f := bar0BadAccess k true) rfl rfl rfl
  case payload =>
    exact fun n c s h => actOutside_next (upstreamTimeout_payload h) (postFinal_sl c _ _ _ _) (postFinal_pending c _ _ _ _)
  case push => exact fun s h => actOutside_next (upstreamTimeout_push h) rfl rfl
  case linkUp => exact fun s h => actOutside_next (pcieLinkUp_up h) rfl rfl
  case spiRead => exact fun f s h => exec_mgmtSpiRead h
  case spiBadCrc => exact fun f s h => exec_mgmtSpiRead_badCrc h
  case spiWrite => exact fun f s h => exec_mgmtSpiWrite h
  case spiWake => exact fun f s h => exec_mgmtSpiWake h
  case spiRefused => exact fun f s h => exec_mgmtSpiWake_refused h
  case spiAbort => exact fun f s h => exec_mgmtSpiAbort h
  case spiClear => exact fun v s h => exec_slSpiClear h
  case scratch =>
    exact fun v s h => exec_bar0Write_region (bar0Region_global v s (by decide)) rfl rfl rfl h (by decide) (by decide) (by decide)
  case aperture =>
    exact fun v s h => exec_bar0Write_region (bar0Region_global v s (by decide)) rfl rfl rfl h (by decide) (by decide) (by decide)
  case pending =>
    intro g v s ⟨hhost, hev⟩
    exact exec_bar0Write_region (bar0Region_eventPending g v hev) rfl rfl (by omega) hhost (by omega) (by omega) (by omega)
  case ignored => exact fun o v s h => act_next (f := registerWrite .bar0 o v) (bar0Write_ignored h) rfl
  case ring =>
    intro n k v s ⟨hhost, hmb⟩
    exact exec_bar0Write_region (bar0Region_commandRing n k v hmb) rfl rfl (by omega) hhost (by omega) (by omega) (by omega)

end Sys2Proof.Machine
end

section
/-! PROOFS. Doorbells (R37, R509), and the entries that a check of R34 refuses. -/
namespace Sys2Proof.Machine
open Sys2Proof

/-! Doorbells. -/

/-- A wake source at most sets its cause and marks the wake as due: it leaves the mailboxes and the event unit. -/
theorem slWake_ctl_ev (k : Nat) (s : State) : (slWake k s).ctl = s.ctl ∧ (slWake k s).ev = s.ev := by
  simp only [slWake]
  (repeat' split) <;> exact ⟨rfl, rfl⟩

@[simp] theorem slWake_pending (k : Nat) (s : State) : (slWake k s).pending = s.pending := by
  simp only [slWake]
  (repeat' split) <;> rfl

/-- A doorbell whose count lies in the ring moves the tail count (R37), and in STANDBY it wakes the device (R509). -/
theorem doorbell_accepted {n t : Nat} {s : State} (hen : (mbAt s n).enable = true) (hrdy : (mbAt s n).state = .ready)
    (hring : countDiff t (mbAt s n).cmdHead ≤ 64)
    (htail : countDiff (mbAt s n).cmdTail (mbAt s n).cmdHead ≤ countDiff t (mbAt s n).cmdHead) :
    doorbell n t s =
      if s.power.state = .standby then slWake 9 (modMb n (fun x => { x with cmdTail := t % 65536 }) s)
      else modMb n (fun x => { x with cmdTail := t % 65536 }) s := by
  simp [doorbell, hen, hrdy, hring, htail]

/-- Any other doorbell is ignored and reported (R37). -/
theorem doorbell_refused {n t : Nat} {s : State} (hen : (mbAt s n).enable = true) (hrdy : (mbAt s n).state = .ready)
    (hout : 64 < countDiff t (mbAt s n).cmdHead ∨
      countDiff t (mbAt s n).cmdHead < countDiff (mbAt s n).cmdTail (mbAt s n).cmdHead) :
    doorbell n t s = raise (929 + 2 * n) (modMb n (fun x => { x with dbErr := true }) s) := by
  have hbad : ¬ (countDiff t (mbAt s n).cmdHead ≤ 64 ∧
      countDiff (mbAt s n).cmdTail (mbAt s n).cmdHead ≤ countDiff t (mbAt s n).cmdHead) := by omega
  simp [doorbell, hen, hrdy, hbad]

/-- A write of `MB_DB` that the mailboxes take rings the doorbell with its low 16 bits (R37, R585). -/
theorem exec_mbDbWrite {mb : Fin 16} {value : BitVec 32} {s t : State} (hon : domOn s 1 = true ∨ s.power.state = .standby)
    (ht : doorbell mb (value.toNat % 65536) s = t) (hp : t.pending = s.pending) : exec (.mbDbWrite mb value) s = .next t :=
  act_next (f := doorbellWrite mb.val value) ((if_pos hon).trans ht) hp

theorem exec_mbDbWrite_refused {mb : Fin 16} {value : BitVec 32} {s : State} (h : okDoorbell mb s)
    (hout : 64 < countDiff (value.toNat % 65536) (mbAt s mb).cmdHead ∨
      countDiff (value.toNat % 65536) (mbAt s mb).cmdHead < countDiff (mbAt s mb).cmdTail (mbAt s mb).cmdHead) :
    exec (.mbDbWrite mb value) s = .next (raise (929 + 2 * mb) (modMb mb (fun x => { x with dbErr := true }) s)) := by
  obtain ⟨hon, hen, hrdy⟩ := h
  exact exec_mbDbWrite hon (doorbell_refused hen hrdy hout) (raise_pending _ _)

/-- Settles O7: a doorbell is one of the two above. -/
theorem doorbellRule : Obligations.DoorbellRule := by
  unfold Obligations.DoorbellRule
  intro mb value s h
  refine ⟨?accepted, exec_mbDbWrite_refused h⟩
  rintro ⟨hring, htail⟩
  obtain ⟨hon, hen, hrdy⟩ := h
  refine ⟨_, exec_mbDbWrite hon (doorbell_accepted hen hrdy hring htail) ?_, ?_⟩ <;> rw [Nat.mod_mod]
  · split
    · exact slWake_pending 9 _
    · rfl
  · split
    · exact slWake_ctl_ev 9 _
    · exact ⟨rfl, rfl⟩

/-! Entries that a check of R34 refuses. -/

/-- The ring's tail count after the entry's own doorbell (R36). -/
abbrev nextTail (e : CmdEntry) (s : State) : Nat := ((mbAt s e.mailbox).cmdTail + 1) % 65536

/-- The state when an entry stands in the ring and its doorbell has been rung, before it is taken (R36, R37). -/
abbrev rung (op : Nat) (e : CmdEntry) (s : State) : State :=
  modMb e.mailbox (fun x => { x with cmdTail := nextTail e s })
    (modMb e.mailbox (writeEntry ((mbAt s e.mailbox).cmdTail % 64) (entryWords op e)) s)

theorem mbAt_rung (op : Nat) (e : CmdEntry) (s : State) :
    mbAt (rung op e s) e.mailbox =
      { writeEntry ((mbAt s e.mailbox).cmdTail % 64) (entryWords op e) (mbAt s e.mailbox) with cmdTail := nextTail e s } := by
  simp

/-- The doorbell of an entry in turn moves the tail count past it (R37). -/
theorem doorbell_inTurn {op : Nat} {e : CmdEntry} {s : State} (h : InTurn op e s) :
    doorbell e.mailbox (nextTail e s) (modMb e.mailbox (writeEntry ((mbAt s e.mailbox).cmdTail % 64) (entryWords op e)) s) =
      rung op e s := by
  obtain ⟨hserv, hstby, hring, htail, -⟩ := h
  simp only [serving, Bool.and_eq_true, decide_eq_true_eq] at hserv
  obtain ⟨⟨-, hen⟩, hrdy⟩ := hserv
  refine doorbell_ok _ _ _ ?_ ?_ hstby ?_ ?_ (Nat.mod_lt _ (by decide)) <;> rw [mbAt_modMb_same]
  · exact hen
  · exact hrdy
  all_goals
    simp only [writeEntry, countDiff, nextTail, hring]
    omega

theorem readEntry_rung {op : Nat} {e : CmdEntry} {s : State} (hop : op < 65536) (h : InTurn op e s) :
    readEntry e.mailbox (mbAt (rung op e s) e.mailbox).cmdHead (mbAt (rung op e s) e.mailbox) = fetchOf op e s := by
  obtain ⟨-, -, hring, -, -, -, -, -, hpay⟩ := h
  have hread := readEntry_writeEntry e.mailbox (mbAt s e.mailbox).cmdHead op e (mbAt s e.mailbox) hop hpay
  rw [mbAt_rung, ← hring]
  exact hread

/-- An entry in turn is taken at once (R43, R44). -/
theorem entryReady_rung {op : Nat} {e : CmdEntry} {s : State} (hop : op < 65536) (h : InTurn op e s) :
    entryReady (rung op e s) e.mailbox = true := by
  have hread := readEntry_rung hop h
  obtain ⟨hserv, -, hring, htail, hhold, horder, hcut, hfree, -⟩ := h
  have hstep : isStepCut (fetchOf op e s) = decide (op ∈ stepCutOpcodes) := List.elem_eq_mem op stepCutOpcodes
  have hserv' : serving (rung op e s) e.mailbox = true := by
    simp only [serving, mbAt_rung]; exact hserv
  have hvisible : (mbAt (rung op e s) e.mailbox).cmdHead ≠ (mbAt (rung op e s) e.mailbox).cmdTail := by
    rw [mbAt_rung]; simp only [writeEntry, nextTail, hring]; omega
  have hspace : spaceNeed (rung op e s) e.mailbox ≤ freeEntries (rung op e s) e.mailbox := by
    have hsame : freeEntries (rung op e s) e.mailbox = freeEntries s e.mailbox := by
      simp only [freeEntries, mbAt_rung]; rfl
    simpa only [spaceNeed, hread, hstep, hsame, decide_eq_true_eq] using hfree
  have hturn : entryInTurn (rung op e s) e.mailbox = true := by
    simp only [entryInTurn, hread, hserv', hvisible, hstep, Bool.and_eq_true, Bool.not_eq_true', ne_eq, not_false_eq_true, decide_true, true_and]
    refine ⟨⟨hhold, ?_⟩, ?_⟩
    · rw [Bool.and_eq_false_imp]
      intro hbit
      show (!(mbCmds s e.mailbox).isEmpty) = false
      rw [horder hbit]; rfl
    · rw [Bool.and_eq_false_imp]
      intro hmem
      exact decide_eq_false (Nat.not_le.2 (hcut (of_decide_eq_true hmem)))
  rw [entryReady, hturn, Bool.true_and, decide_eq_true_eq]
  exact hspace

/-- The row of an entry in turn serves the entry, on the state with the entry taken (R38, R43). -/
theorem submit_inTurn {op : Nat} {e : CmdEntry} {s : State} (hop : op < 65536) (h : InTurn op e s) :
    submit op e s = outsideSafelight (fun _ => serveEntry (fetchOf op e s) (entered op e s)) (rung op e s) := by
  have hdb := doorbell_inTurn h
  have htake : takeEntry e.mailbox (rung op e s) = serveEntry (fetchOf op e s) (entered op e s) := by
    unfold takeEntry
    rw [if_pos (entryReady_rung hop h)]
    simp only [readEntry_rung hop h]
    rfl
  obtain ⟨-, -, hring, -⟩ := h
  unfold submit
  simp only [nextTail] at hdb
  simp only [hdb, hring, if_true]
  rw [outsideSafelight, htake]
  rfl

/-- The opcode of every row that is an entry is one the firmware knows (R5, R34). -/
theorem known_of_rowEntry {i : Instr} {op : Nat} {e : CmdEntry} (h : rowEntry i = some (op, e)) : knownOpcode op = true := by
  have hall : (rowEntry i).all (fun p => knownOpcode p.1) = true := by cases i <;> rfl
  rw [h] at hall
  exact hall

/-- The row of an entry in turn answers with what serving it gives, where that leaves the Safelight domain and the waiting
commands (R38, R43). -/
theorem exec_inTurn {i : Instr} {op : Nat} {e : CmdEntry} {s t : State} (hrow : rowEntry i = some (op, e)) (h : InTurn op e s)
    (ht : serveEntry (fetchOf op e s) (entered op e s) = t) (hsl : t.sl = s.sl) (hp : t.pending = s.pending) :
    exec i s = .next t := by
  rw [exec_entry i op e s hrow]
  refine act_next ?_ hp
  rw [submit_inTurn (known_lt (known_of_rowEntry hrow)) h, ht]
  exact state_eta t s.sl t.pending hsl rfl

/-- The row of an entry in turn that is served with a refusal changes nothing else (R20, R34). -/
theorem exec_refusedEntry {i : Instr} {op : Nat} {e : CmdEntry} {s : State} {st : Status} (hrow : rowEntry i = some (op, e))
    (h : InTurn op e s) (ht : serveEntry (fetchOf op e s) (entered op e s) = refusedEntry op e s st) :
    exec i s = .next (refusedEntry op e s st) :=
  exec_inTurn hrow h ht (postFinal_sl _ _ _ _ _) (postFinal_pending _ _ _ _ _)

/-- The first check of R34 that holds answers the entry; only the command's identity, not its parameters, is answered. -/
theorem serveEntry_refused {op : Nat} {e : CmdEntry} {s : State} {st : Status}
    (h : (entryChecks (fetchOf op e s)).find? (fun x => x.1) = some (true, st, unstated)) :
    serveEntry (fetchOf op e s) (entered op e s) = refusedEntry op e s st := by
  rw [serveEntry, h]
  rfl

/-- An entry in 56 bytes that passes the checks of R34 and is shorter than its command needs is refused (R34 order 7). -/
theorem serveEntry_tooShort {op : Nat} {e : CmdEntry} {s : State} (h : (entryChecks (fetchOf op e s)).find? (fun x => x.1) = none)
    (hext : bit e.flags.toNat 0 = false) (hshort : e.length.toNat < lengthNeed (cmdOf op e s)) :
    serveEntry (fetchOf op e s) (entered op e s) = refusedEntry op e s .rejRange := by
  have hplain : ¬ bit (fetchOf op e s).flags 0 = true := by simp [fetchOf, hext]
  have hrun : serveEntry (fetchOf op e s) (entered op e s) = runPayload (cmdOf op e s) (entered op e s) := by
    rw [serveEntry, h]
    exact if_neg hplain
  have hstop : (tooShort (cmdOf op e s) (lengthNeed (cmdOf op e s))).1 = true := decide_eq_true hshort
  have hchecks := fun k => checks_stop (entered op e s) [] k _ [] (by simp) hstop
  rw [hrun, runPayload]
  exact congrArg (settle (cmdOf op e s)) (hchecks _)

/-! Which check of R34 is the first to hold, by the fields of the entry. -/

@[simp] theorem fetchOf_opcode (op : Nat) (e : CmdEntry) (s : State) : (fetchOf op e s).opcode = op := rfl
@[simp] theorem fetchOf_flags (op : Nat) (e : CmdEntry) (s : State) : (fetchOf op e s).flags = e.flags.toNat := rfl
@[simp] theorem fetchOf_length (op : Nat) (e : CmdEntry) (s : State) : (fetchOf op e s).length = e.length.toNat := rfl
@[simp] theorem fetchOf_mb (op : Nat) (e : CmdEntry) (s : State) : (fetchOf op e s).mb = e.mailbox.val := rfl

/-- LENGTH and, with EXT, the address of the payload are as R34 orders 3 and 4 ask. -/
def PayloadOk (op : Nat) (e : CmdEntry) (s : State) : Prop :=
  bit e.flags.toNat 0 = false ∧ e.length.toNat ≤ 56 ∨
    bit e.flags.toNat 0 = true ∧ e.length ≠ 0 ∧ e.length.toNat ≤ 4096 ∧ (fetchOf op e s).u64 0 % 4 = 0

theorem entryChecks_payloadOk {op : Nat} {e : CmdEntry} {s : State} (hknown : knownOpcode op = true) (hflags : e.flags.toNat < 4)
    (hpay : PayloadOk op e s) :
    (entryChecks (fetchOf op e s)).find? (fun x => x.1) =
      if op / 256 = 15 ∧ e.mailbox ≠ 0 then some (true, .rejState, unstated) else none := by
  have hfour : ¬ 4 ≤ e.flags.toNat := by omega
  have hmb : e.mailbox.val = 0 ↔ e.mailbox = 0 := Fin.val_eq_zero_iff
  rcases hpay with ⟨hext, hlen⟩ | ⟨hext, hzero, hlen, haddr⟩
  · have h56 : ¬ 56 < e.length.toNat := by omega
    by_cases hr : op / 256 = 15 <;> by_cases hm : e.mailbox = 0 <;>
      simp [entryChecks, bad, stateIf, hknown, hfour, hext, h56, hr, hm]
  · have hnonzero : e.length.toNat ≠ 0 := fun h => hzero (BitVec.eq_of_toNat_eq h)
    have h4096 : ¬ 4096 < e.length.toNat := by omega
    by_cases hr : op / 256 = 15 <;> by_cases hm : e.mailbox = 0 <;>
      simp [entryChecks, bad, stateIf, hknown, hfour, hext, hnonzero, h4096, haddr, hr, hm]

/-- Settles O10: each clause names the first check of R34 that holds. -/
theorem entryRefused : Obligations.EntryRefused := by
  unfold Obligations.EntryRefused
  intro i op e s hrow h
  have hknown := known_of_rowEntry hrow
  refine ⟨?flags, ?length, ?ext, ?mailbox, ?short⟩
  case flags =>
    intro hflags
    refine exec_refusedEntry hrow h (serveEntry_refused ?_)
    simp [entryChecks, bad, hknown, hflags]
  case length =>
    intro _ hext hlong
    refine exec_refusedEntry hrow h (serveEntry_refused ?_)
    simp [entryChecks, bad, hknown, hext, hlong]
  case ext =>
    intro _ hext hbad
    refine exec_refusedEntry hrow h (serveEntry_refused ?_)
    rcases hbad with hzero | hlong | haddr
    · simp [entryChecks, bad, hknown, hext, hzero]
    · simp [entryChecks, bad, hknown, hext, hlong]
    · simp [entryChecks, bad, hknown, hext, haddr]
  case mailbox =>
    intro hflags hpay hrange hother
    refine exec_refusedEntry hrow h (serveEntry_refused ?_)
    rw [entryChecks_payloadOk hknown hflags hpay, if_pos ⟨hrange, hother⟩]
  case short =>
    intro hflags hext hlen hrange hshort
    refine exec_refusedEntry hrow h (serveEntry_tooShort ?_ hext hshort)
    rw [entryChecks_payloadOk hknown hflags (.inl ⟨hext, hlen⟩), if_neg]
    exact fun hbad => hbad.2 (hrange hbad.1)

end Sys2Proof.Machine
end

section
/-! PROOFS. The Reset values of BAR0: a closed fact about one state, which the kernel evaluates register by register. -/
namespace Sys2Proof.Machine
open Sys2Proof

theorem lowRows_atReset : ∀ r ∈ resetRowsLow, rowAtReset r := by decide +kernel

theorem highRows_atReset : ∀ r ∈ resetRowsHigh, rowAtReset r := by decide +kernel

/-- Settles O12, by evaluation of every place of every row. -/
theorem resetRegisters : Obligations.ResetRegisters := ⟨lowRows_atReset, highRows_atReset⟩

end Sys2Proof.Machine
end

section
/-! PROOFS. The part of a state that no unit outside the Safelight domain touches (R503), and the operations on states that
have steps within them: a fold, a list of checks, a command's result. In the sections after this one every operation that a
command or the firmware's return can reach has one lemma, by the lemmas of the operations it is built of; where it branches on
what an operation answers, its proof splits on the answer. -/
namespace Sys2Proof.Machine
open Sys2Proof

/-- What every operation outside the Safelight domain keeps: that domain, and the queue of waiting commands (R503). -/
def kept (s : State) : Safelight × List Instr := (s.sl, s.pending)

theorem kept_eq_iff {s t : State} : kept t = kept s ↔ t.sl = s.sl ∧ t.pending = s.pending := Prod.mk.injEq _ _ _ _ ▸ Iff.rfl

/-- An update of any other part of the state keeps them. -/
@[simp] theorem kept_update (s : State) (ctl : Control) (time : TimePart) (sched : SchedPart) (fs : FsPart) (ledger : LedgerPart)
    (mac : MacPart) (ingest : IngestPart) (pic : PicPart) (vid : VideoPart) (mag : RecPart) (st : StreamPart) (dma : DmaPart)
    (ev : EventPart) (power : PowerPart) (rel : RelPart) (boot : BootPart) (host : HostPart) (free : Nat) :
    kept ⟨ctl, time, sched, fs, ledger, mac, ingest, pic, vid, mag, st, dma, ev, power, s.sl, rel, boot, host, free, s.pending⟩ =
      kept s := rfl

@[simp] theorem kept_ite {c : Prop} [Decidable c] (a b : State) : kept (if c then a else b) = if c then kept a else kept b :=
  apply_ite kept c a b

/-- The second component of an operation's answer keeps what the operation keeps. -/
theorem kept_of_snd {α : Type} {x : α × State} {a : α} {s t : State} (h : x = (a, t)) (hx : kept x.2 = kept s) :
    kept t = kept s := by
  rw [← hx, h]

theorem foldl_kept {α : Type} {f : State → α → State} (h : ∀ t a, kept (f t a) = kept t) (l : List α) (s : State) :
    kept (l.foldl f s) = kept s :=
  foldl_keeps (fun t => kept t = kept s) f (fun t a ht => (h t a).trans ht) l s rfl

@[simp] theorem forEach_kept {α : Type} {f : α → State → State} (h : ∀ a t, kept (f a t) = kept t) (l : List α) (s : State) :
    kept (forEach l f s) = kept s := foldl_kept (fun t a => h a t) l s

@[simp] theorem forUpTo_kept {f : Nat → State → State} (h : ∀ a t, kept (f a t) = kept t) (n : Nat) (s : State) :
    kept (forUpTo n f s) = kept s := foldl_kept (fun t a => h a t) _ s

/-- The state that a command's first slice leaves, before its response (R42). -/
def CmdRes.state : CmdRes → State
  | .final _ _ _ s => s
  | .wait _ s => s
  | .accept _ _ s => s

@[simp] theorem state_final (st : Status) (d : Nat) (r : List Byte) (s : State) : (CmdRes.final st d r s).state = s := rfl
@[simp] theorem state_wait (w : WaitFor) (s : State) : (CmdRes.wait w s).state = s := rfl
@[simp] theorem state_accept (j : Job) (f : Option (Status × Nat × List Byte)) (s : State) : (CmdRes.accept j f s).state = s := rfl

@[simp] theorem state_ite {c : Prop} [Decidable c] (a b : CmdRes) : (if c then a else b).state = if c then a.state else b.state :=
  apply_ite CmdRes.state c a b

/-- A row that acts outside the Safelight domain answers with an effect that keeps it and the waiting commands. -/
theorem actOutside_kept {f : State → State} {s t : State} (h : f s = t) (hk : kept t = kept s) : actOutside f s = .next t :=
  actOutside_next h (kept_eq_iff.1 hk).1 (kept_eq_iff.1 hk).2

end Sys2Proof.Machine
end

section
/-! PROOFS. The Safelight domain and the waiting commands are kept by
the shared operations, the frame store, the ledger and the governor. -/
namespace Sys2Proof.Machine
open Sys2Proof

/-! The shared operations: events, responses, commands in flight, the fault log. -/

@[simp] theorem raise_kept (n : Nat) (s : State) : kept (raise n s) = kept s := by
  simp [raise]

@[simp] theorem modMb_kept (n : Nat) (f : Mailbox → Mailbox) (s : State) : kept (modMb n f s) = kept s := by
  simp [modMb]

@[simp] theorem postResp_kept (n : Nat) (r : Resp) (s : State) : kept (postResp n r s) = kept s := by
  simp [postResp]

@[simp] theorem bumpEpoch_kept (s : State) : kept (bumpEpoch s) = kept s := by
  simp [bumpEpoch]

@[simp] theorem postFinal_kept (c : Cmd) (st : Status) (detail : Nat) (result : List Byte) (s : State) :
    kept (postFinal c st detail result s) = kept s := by
  simp [postFinal]

@[simp] theorem dropCmd_kept (c : Cmd) (s : State) : kept (dropCmd c s) = kept s := by
  simp [dropCmd]

@[simp] theorem finishCmds_kept (p : Cmd → Bool) (st : Status) (detail : Nat) (result : List Byte) (s : State) :
    kept (finishCmds p st detail result s) = kept s := by
  simp [finishCmds]

@[simp] theorem finishWait_kept (w : WaitFor) (st : Status) (detail : Nat) (result : List Byte) (s : State) :
    kept (finishWait w st detail result s) = kept s := by
  simp [finishWait]

@[simp] theorem logFault_kept (kind unit detail : Nat) (s : State) : kept (logFault kind unit detail s) = kept s := by
  simp [logFault]

@[simp] theorem outputStops_kept (o : Nat) (s : State) : kept (outputStops o s) = kept s := by
  simp [outputStops]

@[simp] theorem countReload_kept (s : State) : kept (countReload s) = kept s := by
  simp [countReload]

@[simp] theorem tableReloaded_kept (code unit : Nat) (s : State) : kept (tableReloaded code unit s) = kept s := by
  simp [tableReloaded]

@[simp] theorem modHd_kept (h : Nat) (f : Head → Head) (s : State) : kept (modHd h f s) = kept s := by
  simp [modHd]

@[simp] theorem modLay_kept (l : Nat) (f : Layer → Layer) (s : State) : kept (modLay l f s) = kept s := by
  simp [modLay]

@[simp] theorem modLut_kept (u : Nat) (f : LutUnit → LutUnit) (s : State) : kept (modLut u f s) = kept s := by
  simp [modLut]

@[simp] theorem modSdi_kept (n : Nat) (f : SdiLane → SdiLane) (s : State) : kept (modSdi n f s) = kept s := by
  simp [modSdi]

@[simp] theorem hostPoke_kept (a : Nat) (b : List Byte) (s : State) : kept (hostPoke a b s) = kept s := by
  simp [hostPoke]

theorem hostWrite_kept {a : Nat} {b : List Byte} {s t : State} (h : hostWrite a b s = some t) : kept t = kept s := by
  simp only [hostWrite, Option.ite_none_right_eq_some, Option.some.injEq] at h
  obtain ⟨-, rfl⟩ := h
  exact hostPoke_kept a b s

/-! The checks of a command. -/

theorem checks_kept {s : State} {k : CmdRes} (l : List Check) (h : kept k.state = kept s) :
    kept (checks s l k).state = kept s := by
  unfold checks
  split
  · rfl
  · exact h

@[simp] theorem done_kept (s : State) : kept (done s).state = kept s := by
  simp [done]

@[simp] theorem doneWith_kept (r : List Byte) (s : State) : kept (doneWith r s).state = kept s := by
  simp [doneWith]

/-! The event unit. -/

@[simp] theorem modEv_kept (f : EventPart → EventPart) (s : State) : kept (modEv f s) = kept s := by
  simp [modEv]

@[simp] theorem cmdEviConfig_kept (c : Cmd) (s : State) : kept (cmdEviConfig c s).state = kept s :=
  checks_kept _ (by simp)

/-! The frame store. -/

@[simp] theorem modChan_kept (c : Nat) (f : Channel → Channel) (s : State) : kept (modChan c f s) = kept s := by
  simp [modChan]

@[simp] theorem wakeRank_kept (c loc : Nat) (s : State) : kept (wakeRank c loc s) = kept s := by
  simp [wakeRank]

@[simp] theorem fsUeFault_kept (line c : Nat) (s : State) : kept (fsUeFault line c s) = kept s := by
  simp [fsUeFault]

theorem withUsable_kept {f : State → State} {s : State} (h : kept (f s) = kept s) : kept (withUsable f s) = kept s := by
  simp [withUsable, h]

@[simp] theorem startRetire_kept (c : Nat) (s : State) : kept (startRetire c s) = kept s := by
  rw [startRetire, raise_kept]
  exact withUsable_kept (modChan_kept c _ _)

@[simp] theorem autoRetire_kept (c : Nat) (s : State) : kept (autoRetire c s) = kept s := by
  simp [autoRetire]

@[simp] theorem patrolLog_kept (line c : Nat) (rep : Bool) (s : State) : kept (patrolLog line c rep s) = kept s := by
  simp [patrolLog]

@[simp] theorem countCe_kept (c : Nat) (s : State) : kept (countCe c s) = kept s := by
  simp [countCe]

@[simp] theorem reportCe_kept (line : Nat) (s : State) : kept (reportCe line s) = kept s := by
  simp [reportCe]

@[simp] theorem countUe_kept (line c : Nat) (s : State) : kept (countUe line c s) = kept s := by
  simp [countUe]

@[simp] theorem reportUe_kept (line : Nat) (s : State) : kept (reportUe line s) = kept s := by
  simp [reportUe]

@[simp] theorem fsReadLine_kept (line : Nat) (s : State) : kept (fsReadLine line s).2.2 = kept s := by
  simp only [fsReadLine]
  (repeat' split) <;> simp

@[simp] theorem fsWriteLine_kept (line off : Nat) (b : List Byte) (s : State) : kept (fsWriteLine line off b s) = kept s := by
  simp [fsWriteLine]

@[simp] theorem fsRead_kept (fsa n : Nat) (s : State) : kept (fsRead fsa n s).2.2 = kept s := by
  simp only [fsRead]
  split
  · rfl
  · refine foldl_keeps (fun (acc : List Byte × Bool × State) => kept acc.2.2 = kept s) _ (fun acc i hacc => ?_) _ _ rfl
    exact (fsReadLine_kept _ _).trans hacc

@[simp] theorem fsWrite_kept (fsa : Nat) (b : List Byte) (s : State) : kept (fsWrite fsa b s) = kept s := by
  simp only [fsWrite]
  split
  · rfl
  · exact foldl_kept (fun t i => fsWriteLine_kept _ _ _ t) _ s

@[simp] theorem cmdFsInfo_kept (c : Cmd) (s : State) : kept (cmdFsInfo c s).state = kept s := by
  simp [cmdFsInfo]

@[simp] theorem cmdFsPolicySet_kept (c : Cmd) (s : State) : kept (cmdFsPolicySet c s).state = kept s :=
  checks_kept _ (by simp)

@[simp] theorem fillLines_kept (fsa n : Nat) (p : List Byte) (s : State) : kept (fillLines fsa n p s) = kept s :=
  foldl_kept (fun t i => fsWriteLine_kept (fsa / 64 + i) 0 _ t) _ s

@[simp] theorem cmdFsFill_kept (c : Cmd) (s : State) : kept (cmdFsFill c s).state = kept s :=
  checks_kept _ (by simp)

@[simp] theorem cmdFsPatrolReport_kept (c : Cmd) (s : State) : kept (cmdFsPatrolReport c s).state = kept s := by
  simp only [cmdFsPatrolReport]
  refine checks_kept _ ?_
  split
  · rfl
  · next h => simp [hostWrite_kept h]

@[simp] theorem cmdFsChannelRetire_kept (c : Cmd) (s : State) : kept (cmdFsChannelRetire c s).state = kept s :=
  checks_kept _ (by simp)

@[simp] theorem leaveBehind_kept (c loc : Nat) (b : List Byte) (e : LineEcc) (r : Option RawCheck) (s : State) :
    kept (leaveBehind c loc b e r s) = kept s := by
  simp [leaveBehind]

/-! The frame ledger. -/

@[simp] theorem modBuf_kept (b : Nat) (f : Buffer → Buffer) (s : State) : kept (modBuf b f s) = kept s := by
  simp [modBuf]

@[simp] theorem modPool_kept (p : Nat) (f : Pool → Pool) (s : State) : kept (modPool p f s) = kept s := by
  simp [modPool]

@[simp] theorem modIn_kept (k : Nat) (f : Ingest → Ingest) (s : State) : kept (modIn k f s) = kept s := by
  simp [modIn]

@[simp] theorem raiseIn_kept (k j : Nat) (s : State) : kept (raiseIn k j s) = kept s := by
  simp [raiseIn]

@[simp] theorem updateLow_kept (k : Nat) (s : State) : kept (updateLow k s) = kept s := by
  simp [updateLow]

@[simp] theorem lowCheck_kept (p : Nat) (s : State) : kept (lowCheck p s) = kept s := by
  simp [lowCheck]

@[simp] theorem lowCheckOf_kept (b : Nat) (s : State) : kept (lowCheckOf b s) = kept s := by
  simp only [lowCheckOf]
  split <;> simp

@[simp] theorem freeBuf_kept (b : Nat) (s : State) : kept (freeBuf b s) = kept s := by
  simp [freeBuf]

@[simp] theorem keepRule_kept (p : Nat) (s : State) : kept (keepRule p s) = kept s := by
  simp [keepRule]

@[simp] theorem afterRelease_kept (b : Nat) (s : State) : kept (afterRelease b s) = kept s := by
  simp only [afterRelease]
  split <;> simp

@[simp] theorem ledgerAcquire_kept (p tok : Nat) (s : State) : kept (ledgerAcquire p tok s).2 = kept s := by
  simp only [ledgerAcquire]
  (repeat' split) <;> simp

@[simp] theorem releaseError_kept (b tok : Nat) (rejected : Bool) (s : State) :
    kept (releaseError b tok rejected s) = kept s := by
  simp [releaseError]

@[simp] theorem underRelease_kept {f : State → State} {s : State} (hf : kept (f s) = kept s) (o : LgOut) (b tok : Nat) :
    kept (underRelease o b tok f s).2 = kept s := by
  cases o <;> simp [underRelease, hf]

@[simp] theorem ledgerTakeFor_kept (holder : Nat) (follow : Bool) (b tok : Nat) (s : State) :
    kept (ledgerTakeFor holder follow b tok s).2 = kept s := by
  simp only [ledgerTakeFor]
  split <;> simp

@[simp] theorem ledgerTake_kept (follow : Bool) (b tok : Nat) (s : State) : kept (ledgerTake follow b tok s).2 = kept s := by
  simp [ledgerTake]

@[simp] theorem takeRefFor_kept (holder : Nat) (follow : Bool) (b tok : Nat) (s : State) :
    kept (takeRefFor holder follow b tok s).2 = kept s := by
  simp [takeRefFor]

@[simp] theorem takeRef_kept (follow : Bool) (b tok : Nat) (s : State) : kept (takeRef follow b tok s).2 = kept s := by
  simp [takeRef]

@[simp] theorem modRec_kept (c : Nat) (f : RecChan → RecChan) (s : State) : kept (modRec c f s) = kept s := by
  simp [modRec]

@[simp] theorem raiseRec_kept (c k : Nat) (s : State) : kept (raiseRec c k s) = kept s := by
  simp [raiseRec]

@[simp] theorem recGap_kept (c n : Nat) (s : State) : kept (recGap c n s) = kept s := by
  simp [recGap]

@[simp] theorem recTake_kept (c b : Nat) (preroll : Bool) (s : State) : kept (recTake c b preroll s) = kept s := by
  simp [recTake]

@[simp] theorem recMatch0_kept (c b : Nat) (s : State) : kept (recMatch0 c b s) = kept s := by
  simp only [recMatch0]
  split <;> simp

@[simp] theorem recMatch1_kept (c b : Nat) (s : State) : kept (recMatch1 c b s) = kept s := by
  simp only [recMatch1]
  split <;> simp

@[simp] theorem recPublished_kept (p b : Nat) (s : State) : kept (recPublished p b s) = kept s := by
  simp [recPublished]

@[simp] theorem ledgerPublish_kept (b tok frame capSec capNs : Nat) (s : State) :
    kept (ledgerPublish b tok frame capSec capNs s).2 = kept s := by
  refine underRelease_kept ?_ _ b tok
  simp only
  split <;> simp

@[simp] theorem ledgerDiscard_kept (b tok : Nat) (s : State) : kept (ledgerDiscard b tok s).2 = kept s := by
  simp [ledgerDiscard]

@[simp] theorem ledgerRelease_kept (b tok : Nat) (s : State) : kept (ledgerRelease b tok s).2 = kept s := by
  simp [ledgerRelease]

@[simp] theorem ledgerReleaseFor_kept (holder b tok : Nat) (s : State) : kept (ledgerReleaseFor holder b tok s).2 = kept s := by
  simp [ledgerReleaseFor]

@[simp] theorem resetAgent_kept (cls inst : Nat) (s : State) : kept (resetAgent cls inst s) = kept s := by
  simp [resetAgent]

@[simp] theorem markLines_kept (b i n : Nat) (s : State) : kept (markLines b i n s) = kept s := by
  simp [markLines]

@[simp] theorem holeRead_kept (holder b tok : Nat) (s : State) : kept (holeRead holder b tok s) = kept s := by
  simp only [holeRead]
  (repeat' split) <;> simp

@[simp] theorem bufReadLine_kept (b n : Nat) (s : State) : kept (bufReadLine b n s).2.2 = kept s := by
  simp only [bufReadLine]
  split <;> simp

@[simp] theorem cmdLedgerPoolCreate_kept (c : Cmd) (s : State) : kept (cmdLedgerPoolCreate c s).state = kept s :=
  checks_kept _ (by simp)

@[simp] theorem cmdLedgerPoolDelete_kept (c : Cmd) (s : State) : kept (cmdLedgerPoolDelete c s).state = kept s :=
  checks_kept _ (by simp)

@[simp] theorem opAnswer_kept (b : Nat) (s : State) (r : LgOut × State) : kept (opAnswer b s r).state = kept r.2 := by
  unfold opAnswer
  split <;> simp

@[simp] theorem cmdLedgerOp_kept (c : Cmd) (s : State) : kept (cmdLedgerOp c s).state = kept s := by
  simp only [cmdLedgerOp]
  refine checks_kept _ ?_
  split
  · split
    · next h => simp [kept_of_snd h (ledgerAcquire_kept _ _ _)]
    · next h => simp [kept_of_snd h (ledgerAcquire_kept _ _ _)]
  · simp
  · simp
  · split
    · next h => simp [kept_of_snd h (ledgerTake_kept _ _ _ _)]
    · next h => simp [kept_of_snd h (ledgerTake_kept _ _ _ _)]
  · simp

@[simp] theorem cmdLedgerDescGet_kept (c : Cmd) (s : State) : kept (cmdLedgerDescGet c s).state = kept s :=
  checks_kept _ (by simp)

@[simp] theorem cutBurst_kept (b : Agent × Bool × Nat) (s : State) : kept (cutBurst b s) = kept s := by
  simp only [cutBurst]
  split <;> simp

/-! The power governor. -/

@[simp] theorem modDom_kept (d : Nat) (f : Domain → Domain) (s : State) : kept (modDom d f s) = kept s := by
  simp [modDom]

@[simp] theorem modPwr_kept (f : PowerPart → PowerPart) (s : State) : kept (modPwr f s) = kept s := by
  simp [modPwr]

@[simp] theorem updateOver_kept (s : State) : kept (updateOver s) = kept s := by
  simp [updateOver]

@[simp] theorem denyPower_kept (g : Grant) (r : Nat × Nat) (s : State) : kept (denyPower g r s) = kept s := by
  simp [denyPower]

@[simp] theorem givePower_kept (g : Grant) (s : State) : kept (givePower g s) = kept s := by
  simp [givePower]

@[simp] theorem askPower_kept {k : State → CmdRes} (hk : ∀ t, kept (k t).state = kept t) (g : Grant) (s : State) :
    kept (askPower g s k).state = kept s := by
  unfold askPower
  split
  · simp
  · simp [hk]

@[simp] theorem releaseCost_kept (d mw : Nat) (s : State) : kept (releaseCost d mw s) = kept s := by
  simp [releaseCost]

@[simp] theorem queueOff_kept (d : Nat) (s : State) : kept (queueOff d s) = kept s := by
  simp [queueOff]

end Sys2Proof.Machine
end

section
/-! PROOFS. The Safelight domain and the waiting commands are kept by
rasters, synthesizers, the timebase, and what is sent to magazines. -/
namespace Sys2Proof.Machine
open Sys2Proof

/-! Rasters and the event scheduler. -/

@[simp] theorem holdRasters_kept (s : State) : kept (holdRasters s) = kept s := by
  have hsyn (f : Nat → Syn → Syn) (t : State) :
      kept (forUpTo 12 (fun k t => { t with time.syns := tabMod t.time.syns k (f k) }) t) = kept t :=
    forUpTo_kept (fun _ _ => rfl) 12 t
  simp [holdRasters, hsyn]

@[simp] theorem modSlot_kept (n : Nat) (f : Slot → Slot) (s : State) : kept (modSlot n f s) = kept s := by
  simp [modSlot]

@[simp] theorem applyContent_kept (n : Nat) (c : SlotContent) (s : State) : kept (applyContent n c s) = kept s := by
  simp [applyContent]

@[simp] theorem applyPending_kept (n : Nat) (s : State) : kept (applyPending n s) = kept s := by
  simp [applyPending]

@[simp] theorem disarmed_kept (s : State) : kept (disarmed s) = kept s := by
  simp [disarmed]

@[simp] theorem withdraw_kept (p : Slot → Bool) (s : State) : kept (withdraw p s) = kept s := by
  simp [withdraw]

@[simp] theorem withdrawHeld_kept (s : State) : kept (withdrawHeld s) = kept s := by
  simp [withdrawHeld]

/-! MAC ports: counts and sending. -/

@[simp] theorem modMac_kept (m : Nat) (f : Mac → Mac) (s : State) : kept (modMac m f s) = kept s := by
  simp [modMac]

@[simp] theorem modLane_kept (n : Nat) (f : Lane → Lane) (s : State) : kept (modLane n f s) = kept s := by
  simp [modLane]

@[simp] theorem raiseMac_kept (m k : Nat) (s : State) : kept (raiseMac m k s) = kept s := by
  simp [raiseMac]

@[simp] theorem macCount_kept (m k n : Nat) (s : State) : kept (macCount m k n s) = kept s := by
  simp [macCount]

@[simp] theorem macSend_kept (m q owner : Nat) (b : List Byte) (s : State) : kept (macSend m q owner b s) = kept s := by
  simp [macSend]

/-! Recording: messages and writes to a magazine. -/

@[simp] theorem modMag_kept (i : Nat) (f : MagSlot → MagSlot) (s : State) : kept (modMag i f s) = kept s := by
  simp [modMag]

@[simp] theorem raiseMag_kept (i k : Nat) (s : State) : kept (raiseMag i k s) = kept s := by
  simp [raiseMag]

@[simp] theorem modCopy_kept (i : Nat) (f : Copy → Copy) (s : State) : kept (modCopy i f s) = kept s := by
  simp [modCopy]

@[simp] theorem kmpSend_kept (i type flags seq owner : Nat) (body : List Byte) (s : State) :
    kept (kmpSend i type flags seq owner body s) = kept s := by
  simp [kmpSend]

@[simp] theorem kmpRequest_kept (i type flags : Nat) (body : List Byte) (s : State) :
    kept (kmpRequest i type flags body s) = kept s := by
  simp [kmpRequest]

@[simp] theorem readWanted_kept (want : Nat → Bool) (b tok : Nat) (s : State) : kept (readWanted want b tok s).2.2 = kept s := by
  simp only [readWanted, holeRead_kept, implies_true, forEach_kept]
  refine foldl_keeps (fun (acc : Tab (List Byte) × Nat × State) => kept acc.2.2 = kept s) _ (fun acc j hacc => ?_) _ _ rfl
  exact (bufReadLine_kept _ _ _).trans hacc

@[simp] theorem kmpWrite_kept (i clip pic off owner : Nat) (isLast : Bool) (d : List Byte) (s : State) :
    kept (kmpWrite i clip pic off owner isLast d s) = kept s := by
  simp [kmpWrite]

@[simp] theorem kmpWrites_kept (i clip pic off : Nat) (d : List Byte) (s : State) :
    kept (kmpWrites i clip pic off d s) = kept s := by
  simp [kmpWrites]

@[simp] theorem nextWrite_kept (c i w : Nat) (s : State) : kept (nextWrite c i w s) = kept s := by
  simp only [nextWrite]
  (repeat' split) <;> simp

/-! Clock synthesis. -/

@[simp] theorem modSyn_kept (k : Nat) (f : Syn → Syn) (s : State) : kept (modSyn k f s) = kept s := by
  simp [modSyn]

@[simp] theorem dieMeasured_kept (s : State) : kept (dieMeasured s) = kept s := by
  simp [dieMeasured]

@[simp] theorem synUpdatePoint_kept (k : Nat) (s : State) : kept (synUpdatePoint k s) = kept s := by
  simp [synUpdatePoint]

@[simp] theorem setSynShadow_kept (k : Nat) (w : Option SynWords) (s : State) : kept (setSynShadow k w s) = kept s := by
  simp [setSynShadow]

@[simp] theorem cmdSynConfig_kept (c : Cmd) (s : State) : kept (cmdSynConfig c s).state = kept s :=
  checks_kept _ (by simp)

@[simp] theorem cacheSearch_kept (k mhz : Nat) (s : State) : kept (cacheSearch k mhz s) = kept s := by
  simp [cacheSearch]

@[simp] theorem cmdSynCacheFill_kept (c : Cmd) (s : State) : kept (cmdSynCacheFill c s).state = kept s :=
  checks_kept _ (by simp)

@[simp] theorem cmdCaptureRampLoad_kept (c : Cmd) (s : State) : kept (cmdCaptureRampLoad c s).state = kept s :=
  checks_kept _ (by simp)

@[simp] theorem endRamp_kept (rate : Nat × Nat) (s : State) : kept (endRamp rate s) = kept s := by
  simp [endRamp]

@[simp] theorem cmdCaptureRampStart_kept (c : Cmd) (s : State) : kept (cmdCaptureRampStart c s).state = kept s := by
  simp only [cmdCaptureRampStart]
  refine checks_kept _ ?_
  (repeat' split) <;> simp

/-! The timebase. -/

@[simp] theorem modTb_kept (f : Timebase → Timebase) (s : State) : kept (modTb f s) = kept s := by
  simp [modTb]

@[simp] theorem modCap_kept (f : Capture → Capture) (s : State) : kept (modCap f s) = kept s := by
  simp [modCap]

@[simp] theorem modTc_kept (f : TcGen → TcGen) (s : State) : kept (modTc f s) = kept s := by
  simp [modTc]

@[simp] theorem setTbState_kept (t : TbState) (s : State) : kept (setTbState t s) = kept s := by
  simp [setTbState]

@[simp] theorem dropStep_kept (s : State) : kept (dropStep s) = kept s := by
  simp [dropStep]

@[simp] theorem setFreq_kept (ppb : Int) (s : State) : kept (setFreq ppb s) = kept s := by
  simp [setFreq]

@[simp] theorem reevaluateMaster_kept (s : State) : kept (reevaluateMaster s) = kept s := by
  simp only [reevaluateMaster]
  split <;> simp

@[simp] theorem startSlew_kept (err : Int) (declined : Bool) (s : State) : kept (startSlew err declined s) = kept s := by
  simp [startSlew]

@[simp] theorem cmdTimeRefSelect_kept (c : Cmd) (s : State) : kept (cmdTimeRefSelect c s).state = kept s :=
  checks_kept _ (by simp)

@[simp] theorem cmdTimeCorrectionSet_kept (c : Cmd) (s : State) : kept (cmdTimeCorrectionSet c s).state = kept s :=
  checks_kept _ (by simp)

@[simp] theorem cmdTimeStepApprove_kept (c : Cmd) (s : State) : kept (cmdTimeStepApprove c s).state = kept s :=
  checks_kept _ (by simp)

@[simp] theorem cmdTimeSet_kept (c : Cmd) (s : State) : kept (cmdTimeSet c s).state = kept s :=
  checks_kept _ (by simp)

@[simp] theorem cmdRefRasterSet_kept (c : Cmd) (s : State) : kept (cmdRefRasterSet c s).state = kept s :=
  checks_kept _ (by simp)

@[simp] theorem cmdTcSet_kept (c : Cmd) (s : State) : kept (cmdTcSet c s).state = kept s :=
  checks_kept _ (by simp)

@[simp] theorem cmdHeadSlewSet_kept (c : Cmd) (s : State) : kept (cmdHeadSlewSet c s).state = kept s :=
  checks_kept _ (by simp)

@[simp] theorem cmdCaptureRasterSet_kept (c : Cmd) (s : State) : kept (cmdCaptureRasterSet c s).state = kept s :=
  checks_kept _ (by simp)

@[simp] theorem rampUnqualifies_kept (s : State) : kept (rampUnqualifies s) = kept s := by
  simp [rampUnqualifies]

/-! Clips and copies. -/

@[simp] theorem armSlot_kept (n action kind frame instant c : Nat) (s : State) :
    kept (armSlot n action kind frame instant c s) = kept s := by
  simp [armSlot]

@[simp] theorem disarmRec_kept (c : Nat) (s : State) : kept (disarmRec c s) = kept s := by
  simp [disarmRec]

@[simp] theorem dropPictures_kept (c : Nat) (l : List ClipPicture) (s : State) : kept (dropPictures c l s) = kept s := by
  simp [dropPictures]

@[simp] theorem recRelease_kept (c : Nat) (s : State) : kept (recRelease c s) = kept s := by
  simp [recRelease]

@[simp] theorem recEnd_kept (c : Nat) (s : State) : kept (recEnd c s) = kept s := by
  simp [recEnd]

@[simp] theorem endHold_kept (c : Nat) (s : State) : kept (endHold c s) = kept s := by
  simp only [endHold]
  split <;> simp

@[simp] theorem mainFeed_kept (c : Nat) (s : State) : kept (mainFeed c s) = kept s := by
  simp [mainFeed]

@[simp] theorem ownFeed_kept (i : Nat) (s : State) : kept (ownFeed i s) = kept s := by
  simp only [ownFeed]
  split <;> simp

@[simp] theorem fixMain_kept (c : Nat) (s : State) : kept (fixMain c s) = kept s := by
  simp only [fixMain]
  (repeat' split) <;> simp

@[simp] theorem slotFree_kept (i : Nat) (s : State) : kept (slotFree i s) = kept s := by
  simp [slotFree]

@[simp] theorem copyGone_kept (i : Nat) (s : State) : kept (copyGone i s) = kept s := by
  simp only [copyGone]
  split <;> simp

@[simp] theorem closeCopy_kept (i reason flags : Nat) (s : State) : kept (closeCopy i reason flags s) = kept s := by
  simp only [closeCopy]
  split <;> simp

@[simp] theorem decouple_kept (c i : Nat) (s : State) : kept (decouple c i s) = kept s := by
  simp [decouple]

@[simp] theorem recEval_kept (c : Nat) (s0 : State) : kept (recEval c s0) = kept s0 := by
  simp only [recEval]
  split <;> simp

@[simp] theorem countReread_kept (c n : Nat) (s : State) : kept (countReread c n s) = kept s := by
  simp [countReread]

@[simp] theorem recordSent_kept (i : Nat) (s : State) : kept (recordSent i s) = kept s := by
  simp only [recordSent]
  (repeat' split) <;> simp

@[simp] theorem recFeed_kept (i : Nat) (s : State) : kept (recFeed i s) = kept s := by
  simp only [recFeed]
  split <;> simp

@[simp] theorem recFeeds_kept (m : Nat) (s : State) : kept (recFeeds m s) = kept s := by
  simp [recFeeds]

@[simp] theorem openCopy_kept (c i spanOf first : Nat) (s : State) : kept (openCopy c i spanOf first s) = kept s := by
  simp [openCopy]

@[simp] theorem startFailed_kept (c status : Nat) (s : State) : kept (startFailed c status s) = kept s := by
  simp [startFailed]

@[simp] theorem armStart_kept (c : Nat) (s : State) : kept (armStart c s) = kept s := by
  simp only [armStart]
  split <;> simp

@[simp] theorem cancelClip_kept (c : Nat) (s : State) : kept (cancelClip c s) = kept s := by
  simp [cancelClip]

@[simp] theorem spanFailed_kept (c : Nat) (s : State) : kept (spanFailed c s) = kept s := by
  simp [spanFailed]

@[simp] theorem resetRec_kept (c : Nat) (s : State) : kept (resetRec c s) = kept s := by
  simp [resetRec]

@[simp] theorem modBath_kept (f : StopBath → StopBath) (s : State) : kept (modBath f s) = kept s := by
  simp [modBath]

@[simp] theorem bathComplete_kept (s : State) : kept (bathComplete s) = kept s := by
  simp [bathComplete]

/-! The magazine protocol. -/

@[simp] theorem kmpStale_kept (i : Nat) (s : State) : kept (kmpStale i s) = kept s := by
  simp [kmpStale]

@[simp] theorem bumpMount_kept (i : Nat) (s : State) : kept (bumpMount i s) = kept s := by
  simp [bumpMount]

@[simp] theorem ejectDone_kept (i : Nat) (s : State) : kept (ejectDone i s) = kept s := by
  simp [ejectDone]

@[simp] theorem endHoldOn_kept (i : Nat) (s : State) : kept (partnerLost.endHoldOn i s) = kept s := by
  simp [partnerLost.endHoldOn]

@[simp] theorem partnerLost_kept (i : Nat) (s : State) : kept (partnerLost i s) = kept s := by
  simp only [partnerLost]
  (repeat' split) <;> simp

@[simp] theorem slotReady_kept (i : Nat) (s : State) : kept (slotReady i s) = kept s := by
  simp [slotReady]

@[simp] theorem indexNext_kept (i : Nat) (s : State) : kept (indexNext i s) = kept s := by
  simp [indexNext]

@[simp] theorem mountSlot_kept (i : Nat) (s : State) : kept (mountSlot i s) = kept s := by
  simp [mountSlot]

@[simp] theorem rxHello_kept (i : Nat) (f : List Byte) (s : State) : kept (rxHello i f s) = kept s := by
  simp [rxHello]

@[simp] theorem rxCaps_kept (i : Nat) (f : List Byte) (s : State) : kept (rxCaps i f s) = kept s := by
  simp [rxCaps]

@[simp] theorem rxMountAck_kept (i : Nat) (f : List Byte) (s : State) : kept (rxMountAck i f s) = kept s := by
  simp [rxMountAck]

@[simp] theorem rxIndex_kept (i : Nat) (f : List Byte) (s : State) : kept (rxIndex i f s) = kept s := by
  simp [rxIndex]

@[simp] theorem giveCredit_kept (i v : Nat) (s : State) : kept (giveCredit i v s) = kept s := by
  simp [giveCredit]

@[simp] theorem rxOpenAck_kept (i : Nat) (f : List Byte) (s : State) : kept (rxOpenAck i f s) = kept s := by
  simp only [rxOpenAck]
  split <;> simp

@[simp] theorem rxCloseAck_kept (i : Nat) (f : List Byte) (s : State) : kept (rxCloseAck i f s) = kept s := by
  simp only [rxCloseAck]
  split <;> simp

@[simp] theorem rxFormatStatus_kept (i : Nat) (f : List Byte) (s : State) : kept (rxFormatStatus i f s) = kept s := by
  simp [rxFormatStatus]

@[simp] theorem kmpHold_kept (i : Nat) (f : List Byte) (s : State) : kept (kmpHold i f s) = kept s := by
  simp [kmpHold]

@[simp] theorem onReply_kept {k : State → State} (hk : ∀ t, kept (k t) = kept t) (i req : Nat) (fw : Bool) (f : List Byte)
    (s : State) : kept (onReply i req fw f k s) = kept s := by
  simp [onReply, hk]

@[simp] theorem resend_kept (i : Nat) (p : ClipPicture) (ranges : List (Nat × Nat)) (s : State) :
    kept (resend i p ranges s) = kept s := by
  simp [resend]

@[simp] theorem rxCommit_kept (i : Nat) (f : List Byte) (s : State) : kept (rxCommit i f s) = kept s := by
  simp only [rxCommit]
  (repeat' split) <;> simp

@[simp] theorem rxResend_kept (i : Nat) (f : List Byte) (s : State) : kept (rxResend i f s) = kept s := by
  simp only [rxResend]
  (repeat' split) <;> simp

@[simp] theorem rxCredit_kept (i : Nat) (f : List Byte) (s : State) : kept (rxCredit i f s) = kept s := by
  simp only [rxCredit]
  split <;> simp

@[simp] theorem closePending_kept (i reason : Nat) (k : Copy) (s : State) : kept (closePending i reason k s) = kept s := by
  simp [closePending]

@[simp] theorem noticeClose_kept (i reason : Nat) (s : State) : kept (noticeClose i reason s) = kept s := by
  simp only [noticeClose]
  split <;> simp

@[simp] theorem rxNotice_kept (i : Nat) (f : List Byte) (s : State) : kept (rxNotice i f s) = kept s := by
  simp [rxNotice]

@[simp] theorem kmpAct_kept (i : Nat) (f : List Byte) (s : State) : kept (kmpAct i f s) = kept s := by
  unfold kmpAct
  split <;> simp

@[simp] theorem kmpChecked_kept (i : Nat) (f : List Byte) (s : State) : kept (kmpChecked i f s) = kept s := by
  simp [kmpChecked]

@[simp] theorem kmpResume_kept (s : State) : kept (kmpResume s) = kept s := by
  simp [kmpResume]

@[simp] theorem cmdMagSlotSet_kept (c : Cmd) (s : State) : kept (cmdMagSlotSet c s).state = kept s :=
  checks_kept _ (by simp)

@[simp] theorem cmdMagIndexRead_kept (c : Cmd) (s : State) : kept (cmdMagIndexRead c s).state = kept s := by
  simp only [cmdMagIndexRead]
  refine checks_kept _ ?_
  split
  · rfl
  · next h => simp [hostWrite_kept h]

@[simp] theorem cmdMagFormat_kept (c : Cmd) (s : State) : kept (cmdMagFormat c s).state = kept s :=
  checks_kept _ (by simp)

@[simp] theorem cmdMagEject_kept (c : Cmd) (s : State) : kept (cmdMagEject c s).state = kept s :=
  checks_kept _ (by simp)

@[simp] theorem cmdRecChannelSet_kept (c : Cmd) (s : State) : kept (cmdRecChannelSet c s).state = kept s :=
  checks_kept _ (by simp)

@[simp] theorem cmdRecKeySet_kept (c : Cmd) (s : State) : kept (cmdRecKeySet c s).state = kept s :=
  checks_kept _ (by simp)

@[simp] theorem cmdRecStartAt_kept (c : Cmd) (s : State) : kept (cmdRecStartAt c s).state = kept s :=
  checks_kept _ (by simp)

@[simp] theorem cmdRecStopAt_kept (c : Cmd) (s : State) : kept (cmdRecStopAt c s).state = kept s := by
  simp only [cmdRecStopAt]
  refine checks_kept _ ?_
  (repeat' split) <;> simp

end Sys2Proof.Machine
end

section
/-! PROOFS. The Safelight domain and the waiting commands are kept by
ingest, DMA, and the picture from layers to commits. -/
namespace Sys2Proof.Machine
open Sys2Proof

/-! Ingest. -/

@[simp] theorem resetIngest_kept (k : Nat) (s : State) : kept (resetIngest k s) = kept s := by
  simp [resetIngest]

@[simp] theorem cmdIngestStreamSet_kept (c : Cmd) (s : State) : kept (cmdIngestStreamSet c s).state = kept s :=
  checks_kept _ (by simp)

@[simp] theorem cmdIngestStreamGet_kept (c : Cmd) (s : State) : kept (cmdIngestStreamGet c s).state = kept s :=
  checks_kept _ (by simp)

@[simp] theorem pictureFinished_kept (k : Nat) (s : State) : kept (closePicture.pictureFinished k s) = kept s :=
  updateLow_kept k s

@[simp] theorem closePicture_kept (k : Nat) (crc : Option Nat) (s : State) : kept (closePicture k crc s) = kept s := by
  simp [closePicture]

@[simp] theorem kpiEndTimeout_kept (k : Nat) (s : State) : kept (kpiEndTimeout k s) = kept s := by
  simp [kpiEndTimeout]

@[simp] theorem ingestLinkDown_kept (m : Nat) (s : State) : kept (ingestLinkDown m s) = kept s := by
  simp [ingestLinkDown]

/-! DMA. -/

@[simp] theorem modDc_kept (n : Nat) (f : DmaChan → DmaChan) (s : State) : kept (modDc n f s) = kept s := by
  simp [modDc]

@[simp] theorem cmdLedgerOpDma_kept (c : Cmd) (s : State) : kept (cmdLedgerOpDma c s).state = kept s := by
  unfold cmdLedgerOpDma
  split
  · split
    · rfl
    · exact cmdLedgerOp_kept c s
  · exact cmdLedgerOp_kept c s

@[simp] theorem releaseHeldOps_kept (s : State) : kept (releaseHeldOps s) = kept s := by
  refine forEach_kept (fun c t => ?_) _ s
  have hop := cmdLedgerOp_kept c (dropCmd c t)
  simp only
  split
  · next h =>
    rw [h] at hop
    simpa using hop
  · next h =>
    rw [h] at hop
    simpa using hop
  · next h =>
    rw [h] at hop
    simpa using hop

@[simp] theorem rulesDrained_kept (s : State) : kept (rulesDrained s) = kept s := by
  simp [rulesDrained]

@[simp] theorem dcStartReset_kept (n : Nat) (newMode : Option Nat) (s : State) : kept (dcStartReset n newMode s) = kept s := by
  simp [dcStartReset]

@[simp] theorem cmdDmaChannelSet_kept (c : Cmd) (s : State) : kept (cmdDmaChannelSet c s).state = kept s :=
  checks_kept _ (by simp)

@[simp] theorem dmaMailboxReset_kept (mb : Nat) (s : State) : kept (dmaMailboxReset mb s) = kept s := by
  simp [dmaMailboxReset]

theorem ringDeliver_kept {n : Nat} {f : RingFrame} {s t : State} (h : ringDeliver n f s = some t) : kept t = kept s := by
  simp only [ringDeliver, Option.ite_none_right_eq_some, Option.some.injEq] at h
  obtain ⟨-, rfl⟩ := h
  rfl

/-! Layers and the settings of heads. -/

@[simp] theorem modShadow_kept (l : Nat) (f : LayerCfg → LayerCfg) (s : State) : kept (modShadow l f s) = kept s := by
  simp [modShadow]

@[simp] theorem modHdShadow_kept (h : Nat) (f : HeadCfg → HeadCfg) (s : State) : kept (modHdShadow h f s) = kept s := by
  simp [modHdShadow]

@[simp] theorem cmdLayerAssign_kept (c : Cmd) (s : State) : kept (cmdLayerAssign c s).state = kept s := by
  simp only [cmdLayerAssign]
  refine checks_kept _ ?_
  (repeat' split) <;> simp

@[simp] theorem cmdLayerSourceSet_kept (c : Cmd) (s : State) : kept (cmdLayerSourceSet c s).state = kept s :=
  checks_kept _ (by simp)

@[simp] theorem cmdLayerGeometrySet_kept (c : Cmd) (s : State) : kept (cmdLayerGeometrySet c s).state = kept s :=
  checks_kept _ (by simp)

@[simp] theorem cmdLayerPaletteSet_kept (c : Cmd) (s : State) : kept (cmdLayerPaletteSet c s).state = kept s :=
  checks_kept _ (by simp)

@[simp] theorem cmdLayerEnvelopeSet_kept (c : Cmd) (s : State) : kept (cmdLayerEnvelopeSet c s).state = kept s :=
  checks_kept _ (by simp)

@[simp] theorem cmdHeadFetchSet_kept (c : Cmd) (s : State) : kept (cmdHeadFetchSet c s).state = kept s :=
  checks_kept _ (by simp)

@[simp] theorem cmdLayerBlendSet_kept (c : Cmd) (s : State) : kept (cmdLayerBlendSet c s).state = kept s :=
  checks_kept _ (by simp)

@[simp] theorem cmdHeadZorderSet_kept (c : Cmd) (s : State) : kept (cmdHeadZorderSet c s).state = kept s :=
  checks_kept _ (by simp)

@[simp] theorem cmdHeadBackgroundSet_kept (c : Cmd) (s : State) : kept (cmdHeadBackgroundSet c s).state = kept s :=
  checks_kept _ (by simp)

@[simp] theorem cmdContactSheetSet_kept (c : Cmd) (s : State) : kept (cmdContactSheetSet c s).state = kept s :=
  checks_kept _ (by simp)

@[simp] theorem cmdHeadTimingSet_kept (c : Cmd) (s : State) : kept (cmdHeadTimingSet c s).state = kept s :=
  checks_kept _ (by simp)

@[simp] theorem pairSyns_kept (k : Nat) (s : State) : kept (pairSyns k s) = kept s := by
  simp [pairSyns]

@[simp] theorem cmdHeadPairSet_kept (c : Cmd) (s : State) : kept (cmdHeadPairSet c s).state = kept s :=
  checks_kept _ (by simp)

@[simp] theorem cmdHeadWritebackSet_kept (c : Cmd) (s : State) : kept (cmdHeadWritebackSet c s).state = kept s :=
  checks_kept _ (by simp)

@[simp] theorem cmdLayerCadenceSet_kept (c : Cmd) (s : State) : kept (cmdLayerCadenceSet c s).state = kept s :=
  checks_kept _ (by simp)

@[simp] theorem cmdLayerShedSet_kept (c : Cmd) (s : State) : kept (cmdLayerShedSet c s).state = kept s :=
  checks_kept _ (by simp)

/-! Tables and colour. -/

@[simp] theorem tableBytes_kept (b off n : Nat) (s : State) : kept (tableBytes b off n s).2 = kept s := by
  simp only [tableBytes]
  split
  · next h => exact kept_of_snd h (takeRef_kept _ _ _ _)
  · next h => simp [kept_of_snd h (takeRef_kept _ _ _ _)]

@[simp] theorem poisonedRead_kept (s : State) : kept (poisonedRead s).state = kept s := by
  simp [poisonedRead]

@[simp] theorem cmdScalerCoefLoad_kept (c : Cmd) (s : State) : kept (cmdScalerCoefLoad c s).state = kept s := by
  simp only [cmdScalerCoefLoad]
  refine checks_kept _ ?_
  split
  · next h => simp [kept_of_snd h (tableBytes_kept _ _ _ _)]
  · next h => simp [kept_of_snd h (tableBytes_kept _ _ _ _)]
  · next h => split <;> simp [kept_of_snd h (tableBytes_kept _ _ _ _)]

@[simp] theorem cmdLayerScalerSet_kept (c : Cmd) (s : State) : kept (cmdLayerScalerSet c s).state = kept s :=
  checks_kept _ (by simp)

@[simp] theorem cmdLayerDecodeSet_kept (c : Cmd) (s : State) : kept (cmdLayerDecodeSet c s).state = kept s :=
  checks_kept _ (by simp)

@[simp] theorem cmdMatrixSet_kept (c : Cmd) (s : State) : kept (cmdMatrixSet c s).state = kept s :=
  checks_kept _ (by simp)

@[simp] theorem setLut1d_kept (target index : Nat) (t : Lut) (s : State) : kept (setLut1d target index t s) = kept s := by
  simp only [setLut1d]
  split <;> simp

@[simp] theorem cmdLut1dLoad_kept (c : Cmd) (s : State) : kept (cmdLut1dLoad c s).state = kept s := by
  simp only [cmdLut1dLoad]
  refine checks_kept _ ?_
  split
  · next h => simp [kept_of_snd h (tableBytes_kept _ _ _ _)]
  · next h => simp [kept_of_snd h (tableBytes_kept _ _ _ _)]
  · next h => split <;> simp [kept_of_snd h (tableBytes_kept _ _ _ _)]

@[simp] theorem cmdLut1dBuiltin_kept (c : Cmd) (s : State) : kept (cmdLut1dBuiltin c s).state = kept s :=
  checks_kept _ (by simp)

@[simp] theorem cmdLut1dRead_kept (c : Cmd) (s : State) : kept (cmdLut1dRead c s).state = kept s := by
  simp only [cmdLut1dRead]
  refine checks_kept _ ?_
  split
  · next h => simp [hostWrite_kept h]
  · rfl

@[simp] theorem cmdGraphicColourSet_kept (c : Cmd) (s : State) : kept (cmdGraphicColourSet c s).state = kept s :=
  checks_kept _ (by simp)

@[simp] theorem cmdHeadOutputSet_kept (c : Cmd) (s : State) : kept (cmdHeadOutputSet c s).state = kept s :=
  checks_kept _ (by simp)

@[simp] theorem releaseLut_kept (u : Nat) (s : State) : kept (releaseLut u s) = kept s := by
  simp [releaseLut]

@[simp] theorem cmdLut3dAssign_kept (c : Cmd) (s : State) : kept (cmdLut3dAssign c s).state = kept s := by
  simp only [cmdLut3dAssign]
  refine checks_kept _ ?_
  split
  · simp
  · split
    · simp
    · refine askPower_kept (fun t => ?_) _ s
      split <;> simp

@[simp] theorem stepLut3d_kept (u k b off total d : Nat) (s : State) : kept (stepLut3d u k b off total d s).2.2 = kept s := by
  simp [stepLut3d]

@[simp] theorem cmdLut3dLoad_kept (c : Cmd) (s : State) : kept (cmdLut3dLoad c s).state = kept s := by
  simp only [cmdLut3dLoad]
  refine checks_kept _ ?_
  split
  · next h => simp [kept_of_snd h (takeRef_kept _ _ _ _)]
  · next h => split <;> simp [kept_of_snd h (takeRef_kept _ _ _ _)]

/-! Admission and shedding. -/

@[simp] theorem modShed_kept (f : ShedPart → ShedPart) (s : State) : kept (modShed f s) = kept s := by
  simp [modShed]

@[simp] theorem countRejected_kept (s : State) : kept (countRejected s) = kept s := by
  simp [countRejected]

@[simp] theorem cmdAdmissionReserveSet_kept (c : Cmd) (s : State) : kept (cmdAdmissionReserveSet c s).state = kept s :=
  checks_kept _ (by simp)

@[simp] theorem cmdShedPlanSet_kept (c : Cmd) (s : State) : kept (cmdShedPlanSet c s).state = kept s :=
  checks_kept _ (by simp)

@[simp] theorem cmdShedPolicySet_kept (c : Cmd) (s : State) : kept (cmdShedPolicySet c s).state = kept s :=
  checks_kept _ (by simp)

@[simp] theorem cmdAdmissionReport_kept (c : Cmd) (s : State) : kept (cmdAdmissionReport c s).state = kept s := by
  simp [cmdAdmissionReport]

/-! Signatures. -/

@[simp] theorem cmdSigRegionSet_kept (c : Cmd) (s : State) : kept (cmdSigRegionSet c s).state = kept s :=
  checks_kept _ (by simp)

/-! Commits. -/

@[simp] theorem modFx_kept (f : Fixer → Fixer) (s : State) : kept (modFx f s) = kept s := by
  simp [modFx]

@[simp] theorem modArmed_kept (id : Nat) (f : Armed → Armed) (s : State) : kept (modArmed id f s) = kept s := by
  simp [modArmed]

@[simp] theorem takeRefs_kept (l : List (Nat × Nat × Nat)) (s : State) : kept (takeRefs l s).2 = kept s := by
  simp only [takeRefs, apply_ite Prod.snd, kept_ite, ledgerReleaseFor_kept, implies_true, forEach_kept, ite_self]
  refine foldl_keeps (fun (acc : Option Nat × List (Nat × Nat × Nat) × State) => kept acc.2.2 = kept s) _ (fun acc x hacc => ?_) _ _ rfl
  split
  · exact hacc
  · simp [apply_ite Prod.snd, hacc]

@[simp] theorem queueSwitches_kept (sw : List (Nat × Nat × Nat)) (s : State) : kept (queueSwitches sw s) = kept s := by
  simp [queueSwitches]

@[simp] theorem returnGrant_kept (a : Armed) (s : State) : kept (returnGrant a s) = kept s := by
  simp [returnGrant]

@[simp] theorem dropArmed_kept (a : Armed) (s : State) : kept (dropArmed a s) = kept s := by
  simp [dropArmed]

@[simp] theorem fxReady_kept (s : State) : kept (fxReady s) = kept s := by
  simp [fxReady]

@[simp] theorem armCommit_kept (a : CommitArgs) (refs : List (Nat × Nat × Nat)) (s : State) :
    kept (armCommit a refs s).2 = kept s := by
  have hluts (l : List Nat) (t : State) : kept (forEach l (fun h s => match lutOfHead s h with
      | some u => if (lutAt s u).mode = 2 then modLut u (fun x => { x with pending := (hdAt s h).shadow.out.bank }) s else s
      | none => s) t) = kept t := by
    refine forEach_kept (fun h t => ?_) l t
    split <;> simp
  simp only [armCommit, fxReady_kept, modShed_kept, modFx_kept]
  exact (hluts _ _).trans (by simp)

@[simp] theorem tryArm_kept (c : Cmd) (s : State) : kept (tryArm c s).state = kept s := by
  simp only [tryArm]
  refine checks_kept _ ?_
  split
  · next h => simp [kept_of_snd h (takeRefs_kept _ _)]
  · next h =>
    split
    · simp
    · split
      · simp
      · simp [kept_of_snd h (takeRefs_kept _ _)]

@[simp] theorem cmdCfgCommit_kept (c : Cmd) (s : State) : kept (cmdCfgCommit c s).state = kept s := by
  simp [cmdCfgCommit]

end Sys2Proof.Machine
end

section
/-! PROOFS. The Safelight domain and the waiting commands are kept by
outputs, streams, PTP and MAC ports. -/
namespace Sys2Proof.Machine
open Sys2Proof

/-! SDI lanes and panels. -/

@[simp] theorem modPanel_kept (p : Nat) (f : Panel → Panel) (s : State) : kept (modPanel p f s) = kept s := by
  simp [modPanel]

@[simp] theorem blackEnd_kept (n : Nat) (s : State) : kept (blackEnd n s) = kept s := by
  simp [blackEnd]

@[simp] theorem blackStart_kept (n : Nat) (s : State) : kept (blackStart n s) = kept s := by
  simp [blackStart]

@[simp] theorem sdiIdle_kept (n : Nat) (s : State) : kept (sdiIdle n s) = kept s := by
  simp [sdiIdle]

@[simp] theorem psfRelease_kept (n : Nat) (s : State) : kept (psfRelease n s) = kept s := by
  simp only [psfRelease]
  split <;> simp

@[simp] theorem sdiFlagged_kept (was is : Bool) (s : State) : kept (sdiFlagged was is s) = kept s := by
  simp [sdiFlagged]

@[simp] theorem sdiCheck_kept (n : Nat) (s : State) : kept (sdiCheck n s) = kept s := by
  simp [sdiCheck]

@[simp] theorem sdiApply_kept (n : Nat) (s : State) : kept (sdiApply n s) = kept s := by
  simp only [sdiApply]
  split <;> simp

@[simp] theorem cmdSdiLaneSet_kept (c : Cmd) (s : State) : kept (cmdSdiLaneSet c s).state = kept s :=
  checks_kept _ (by simp)

@[simp] theorem cmdSdiAncRingSet_kept (c : Cmd) (s : State) : kept (cmdSdiAncRingSet c s).state = kept s :=
  checks_kept _ (by simp)

@[simp] theorem panelFlag_kept (p : Nat) (s : State) : kept (panelFlag p s) = kept s := by
  simp [panelFlag]

@[simp] theorem panelGoOn_kept (p : Nat) (s : State) : kept (panelGoOn p s) = kept s := by
  simp [panelGoOn]

@[simp] theorem startList_kept (p : Nat) (s : State) : kept (startList p s) = kept s := by
  simp [startList]

@[simp] theorem endHs_kept (p : Nat) (s : State) : kept (endHs p s) = kept s := by
  simp [endHs]

@[simp] theorem leaveVideo_kept (p : Nat) (s : State) : kept (leaveVideo p s) = kept s := by
  simp [leaveVideo]

@[simp] theorem panelEnter_kept (p action : Nat) (s : State) : kept (panelEnter p action s) = kept s := by
  simp only [panelEnter]
  split <;> simp

@[simp] theorem panelApply_kept (p : Nat) (s : State) : kept (panelApply p s) = kept s := by
  simp only [panelApply]
  split <;> simp

@[simp] theorem cmdPanelPortSet_kept (c : Cmd) (s : State) : kept (cmdPanelPortSet c s).state = kept s :=
  checks_kept _ (by simp)

theorem dcsSend_kept {p : Nat} {k : DcsPacket} {s t : State} (h : dcsSend p k s = some t) : kept t = kept s := by
  simp only [dcsSend] at h
  (repeat' split at h) <;> cases h <;> rfl

theorem dcsStep_kept {p n d : Nat} {params : List Byte} {s t : State} (h : dcsStep p n d params s = some t) : kept t = kept s :=
  dcsSend_kept h

@[simp] theorem cmdPanelDcsSend_kept (c : Cmd) (s : State) : kept (cmdPanelDcsSend c s).state = kept s := by
  simp only [cmdPanelDcsSend]
  refine checks_kept _ ?_
  split
  · simp
  · split
    · rfl
    · split
      · next h => exact dcsStep_kept h
      · rfl

/-! Heads. -/

@[simp] theorem dropHeld_kept (l : Nat) (s : State) : kept (dropHeld l s) = kept s := by
  simp only [dropHeld]
  split <;> simp

@[simp] theorem layerLeave_kept (l : Nat) (s : State) : kept (layerLeave l s) = kept s := by
  simp [layerLeave]

@[simp] theorem headPowered_kept (h : Nat) (s : State) : kept (headPowered h s) = kept s := by
  simp only [headPowered]
  split <;> simp

/-! Streams sent. -/

@[simp] theorem modSub_kept (n : Nat) (f : Sub → Sub) (s : State) : kept (modSub n f s) = kept s := by
  simp [modSub]

@[simp] theorem modPort_kept (m : Nat) (f : StPort → StPort) (s : State) : kept (modPort m f s) = kept s := by
  simp [modPort]

@[simp] theorem holdDone_kept (n id : Nat) (s : State) : kept (holdDone n id s) = kept s := by
  simp only [holdDone]
  (repeat' split) <;> simp

@[simp] theorem subDisabled_kept (n : Nat) (s : State) : kept (subDisabled n s) = kept s := by
  simp only [subDisabled]
  (repeat' split) <;> simp

@[simp] theorem copyLeft_kept (n id : Nat) (s : State) : kept (copyLeft n id s) = kept s := by
  simp [copyLeft]

@[simp] theorem subStopped_kept (n : Nat) (s : State) : kept (subStopped n s) = kept s := by
  simp [subStopped]

@[simp] theorem dropNext_kept (n : Nat) (s : State) : kept (dropNext n s) = kept s := by
  simp only [dropNext]
  split <;> simp

@[simp] theorem stopSub_kept (n : Nat) (s : State) : kept (stopSub n s) = kept s := by
  simp [stopSub]

theorem startSubscriber_kept {n : Nat} {s t : State} (h : startSubscriber n s = some t) : kept t = kept s := by
  simp only [startSubscriber] at h
  (repeat' split at h) <;> cases h <;> simp

@[simp] theorem firmwareSend_kept (m service owner : Nat) (b : List Byte) (s : State) :
    kept (firmwareSend m service owner b s) = kept s := by
  simp [firmwareSend]

@[simp] theorem packetGone_kept (m n : Nat) (sent : Bool) (s : State) : kept (packetGone m n sent s) = kept s := by
  simp only [packetGone]
  split <;> simp

@[simp] theorem streamPortDown_kept (m : Nat) (s : State) : kept (streamPortDown m s) = kept s := by
  simp [streamPortDown]

@[simp] theorem cmdStreamSubSet_kept (c : Cmd) (s : State) : kept (cmdStreamSubSet c s).state = kept s :=
  checks_kept _ (by simp)

@[simp] theorem cmdStreamPortSet_kept (c : Cmd) (s : State) : kept (cmdStreamPortSet c s).state = kept s :=
  checks_kept _ (by simp)

@[simp] theorem cmdStreamSubCtrl_kept (c : Cmd) (s : State) : kept (cmdStreamSubCtrl c s).state = kept s := by
  simp only [cmdStreamSubCtrl]
  refine checks_kept _ ?_
  split
  · split
    · next h => simp [startSubscriber_kept h]
    · simp
  · simp

/-! Streams received. -/

@[simp] theorem modFlow_kept (f : Nat) (g : RxFlow → RxFlow) (s : State) : kept (modFlow f g s) = kept s := by
  simp [modFlow]

@[simp] theorem modDp_kept (d : Nat) (g : Depack → Depack) (s : State) : kept (modDp d g s) = kept s := by
  simp [modDp]

@[simp] theorem closeDepack_kept (d : Nat) (marker : Bool) (s : State) : kept (closeDepack d marker s) = kept s := by
  simp [closeDepack]

@[simp] theorem openDepack_kept (d stamp : Nat) (s : State) : kept (openDepack d stamp s) = kept s := by
  simp only [openDepack]
  split
  · next h => simp [kept_of_snd h (ledgerAcquire_kept _ _ _)]
  · next h => simp [kept_of_snd h (ledgerAcquire_kept _ _ _)]

@[simp] theorem placeSrd_kept (d line off : Nat) (fbit : Bool) (data : List Byte) (s : State) :
    kept (placeSrd d line off fbit data s) = kept s := by
  simp [placeSrd]

/-- The segments of a packet are placed one after another. -/
theorem placeSegments_kept (d : Nat) (l : List (Nat × Nat × Nat × Bool)) (data : List Byte) (s : State) :
    kept (l.foldl (fun (acc : List Byte × State) g =>
      (acc.1.drop g.1, placeSrd d g.2.1 g.2.2.1 g.2.2.2 (acc.1.take g.1) acc.2)) (data, s)).2 = kept s :=
  foldl_keeps (fun (acc : List Byte × State) => kept acc.2 = kept s) _
    (fun _ _ hacc => (placeSrd_kept _ _ _ _ _ _).trans hacc) l (data, s) rfl

@[simp] theorem depackPacket_kept (d : Nat) (b : List Byte) (s : State) : kept (depackPacket d b s) = kept s := by
  simp [depackPacket, placeSegments_kept]

@[simp] theorem flowDeliver_kept (f m : Nat) (b : List Byte) (s : State) : kept (flowDeliver f m b s) = kept s := by
  simp only [flowDeliver]
  split
  · simp
  · split
    · next h => simp [ringDeliver_kept h]
    · simp

@[simp] theorem mergeDrain_kept (n f : Nat) (s : State) : kept (mergeDrain n f s) = kept s := by
  induction n generalizing s with
  | zero => rfl
  | succ n ih =>
    simp only [mergeDrain]
    split
    · rfl
    · simp [ih]

@[simp] theorem drainFlow_kept (f : Nat) (s : State) : kept (drainFlow f s) = kept s := by
  simp [drainFlow]

@[simp] theorem mergeTimeout_kept (f : Nat) (s : State) : kept (mergeTimeout f s) = kept s := by
  simp only [mergeTimeout]
  (repeat' split) <;> simp

@[simp] theorem cmdStreamRxFlowSet_kept (c : Cmd) (s : State) : kept (cmdStreamRxFlowSet c s).state = kept s :=
  checks_kept _ (by simp)

@[simp] theorem resetDepack_kept (d : Nat) (s : State) : kept (resetDepack d s) = kept s := by
  simp [resetDepack]

@[simp] theorem dropOpen_kept (d : Nat) (s : State) : kept (dropOpen d s) = kept s := by
  simp [dropOpen]

@[simp] theorem cmdStreamDepackSet_kept (c : Cmd) (s : State) : kept (cmdStreamDepackSet c s).state = kept s :=
  checks_kept _ (by simp)

theorem stepStats_kept {isFlow shadow : Bool} {first count addr d n : Nat} {s t : State}
    (h : stepStats isFlow shadow first count addr d s = some (n, t)) : kept t = kept s := by
  simp only [stepStats, Option.map_eq_some_iff, Prod.mk.injEq] at h
  obtain ⟨_, hwrite, -, rfl⟩ := h
  exact hostWrite_kept hwrite

@[simp] theorem cmdStreamStatsRead_kept (c : Cmd) (s : State) : kept (cmdStreamStatsRead c s).state = kept s := by
  simp only [cmdStreamStatsRead]
  refine checks_kept _ ?_
  split
  · next h => exact stepStats_kept h
  · rfl

/-! PTP and the rig link. -/

@[simp] theorem modPtp_kept (m : Nat) (f : PtpPort → PtpPort) (s : State) : kept (modPtp m f s) = kept s := by
  simp [modPtp]

@[simp] theorem modRig_kept (f : Rig → Rig) (s : State) : kept (modRig f s) = kept s := by
  simp [modRig]

@[simp] theorem setPtpState_kept (m st : Nat) (s : State) : kept (setPtpState m st s) = kept s := by
  simp [setPtpState]

@[simp] theorem cmdPtpPortSet_kept (c : Cmd) (s : State) : kept (cmdPtpPortSet c s).state = kept s :=
  checks_kept _ (by simp)

@[simp] theorem rigSend_kept (ty : Nat) (s : State) : kept (rigSend ty s) = kept s := by
  simp [rigSend]

@[simp] theorem setCount_kept (n : Nat) (s : State) : kept (setCount n s) = kept s := by
  simp [setCount]

@[simp] theorem setLeader_kept (l : Option (Nat × Nat)) (s : State) : kept (setLeader l s) = kept s := by
  simp [setLeader]

@[simp] theorem leaveLeader_kept (s : State) : kept (leaveLeader s) = kept s := by
  simp [leaveLeader]

@[simp] theorem rigClaim_kept (s : State) : kept (rigClaim s) = kept s := by
  simp [rigClaim]

@[simp] theorem cmdRigSet_kept (c : Cmd) (s : State) : kept (cmdRigSet c s).state = kept s :=
  checks_kept _ (by simp)

/-! MAC ports: links, lanes and settings. -/

@[simp] theorem macWentDown_kept (m : Nat) (s : State) : kept (macWentDown m s) = kept s := by
  simp [macWentDown]

@[simp] theorem dropQuads_kept (qs : List Nat) (s : State) : kept (dropQuads qs s) = kept s := by
  simp [dropQuads]

@[simp] theorem setLink_kept (m : Nat) (l : Link) (s : State) : kept (setLink m l s) = kept s := by
  simp [setLink]

@[simp] theorem dropWaiting_kept (m : Nat) (s : State) : kept (dropWaiting m s) = kept s := by
  simp [dropWaiting]

@[simp] theorem endMoves_kept (m : Nat) (s : State) : kept (endMoves m s) = kept s := by
  simp [endMoves]

@[simp] theorem readapt_kept (m : Nat) (s : State) : kept (readapt m s) = kept s := by
  simp [readapt]

@[simp] theorem startLink_kept (m : Nat) (s : State) : kept (startLink m s) = kept s := by
  simp [startLink]

@[simp] theorem pauseEnd_kept (m : Nat) (s : State) : kept (pauseEnd m s) = kept s := by
  simp [pauseEnd]

@[simp] theorem releaseLanes_kept (m : Nat) (s : State) : kept (releaseLanes m s) = kept s := by
  simp [releaseLanes]

@[simp] theorem cmdMacConfig_kept (c : Cmd) (s : State) : kept (cmdMacConfig c s).state = kept s := by
  simp only [cmdMacConfig]
  refine checks_kept _ ?_
  (repeat' split) <;> simp

@[simp] theorem cmdMacSpareSet_kept (c : Cmd) (s : State) : kept (cmdMacSpareSet c s).state = kept s := by
  simp only [cmdMacSpareSet]
  refine checks_kept _ ?_
  (repeat' split) <;> simp

@[simp] theorem cmdMacTxqSet_kept (c : Cmd) (s : State) : kept (cmdMacTxqSet c s).state = kept s :=
  checks_kept _ (by simp)

@[simp] theorem cmdMacRuleSet_kept (c : Cmd) (s : State) : kept (cmdMacRuleSet c s).state = kept s :=
  checks_kept _ (by simp)

@[simp] theorem cmdMacFilterSet_kept (c : Cmd) (s : State) : kept (cmdMacFilterSet c s).state = kept s :=
  checks_kept _ (by simp)

@[simp] theorem cmdMacStatsGet_kept (c : Cmd) (s : State) : kept (cmdMacStatsGet c s).state = kept s :=
  checks_kept _ (by simp)

@[simp] theorem macToSleep_kept (m detect : Nat) (s : State) : kept (macToSleep m detect s) = kept s := by
  simp [macToSleep]

@[simp] theorem cmdMacSleep_kept (c : Cmd) (s : State) : kept (cmdMacSleep c s).state = kept s := by
  simp only [cmdMacSleep]
  refine checks_kept _ ?_
  (repeat' split) <;> simp

/-! The 5200 window. -/

@[simp] theorem modWin_kept (f : Window → Window) (s : State) : kept (modWin f s) = kept s := by
  simp [modWin]

@[simp] theorem setPend_kept (h : Nat) (p : Option WinPending) (s : State) : kept (setPend h p s) = kept s := by
  simp [setPend]

@[simp] theorem winDiscard_kept (h : Nat) (s : State) : kept (winDiscard h s) = kept s := by
  simp only [winDiscard]
  (repeat' split) <;> simp

@[simp] theorem winClosed_kept (s : State) : kept (winClosed s) = kept s := by
  simp [winClosed]

@[simp] theorem cmdCompat5200Set_kept (c : Cmd) (s : State) : kept (cmdCompat5200Set c s).state = kept s := by
  have hleave (l : List Nat) (t : State) : kept (forEach l (fun l s => match (layAt s l).head with
      | some h => if headEnabled s h then s else layerLeave l s
      | none => s) t) = kept t := by
    refine forEach_kept (fun l t => ?_) l t
    split <;> simp
  simp only [cmdCompat5200Set]
  refine checks_kept _ ?_
  split
  · simp
  · split
    · exact (winClosed_kept _).trans ((hleave _ _).trans (by simp))
    · exact (hleave _ _).trans (by simp)

end Sys2Proof.Machine
end

section
/-! PROOFS. The Safelight domain and the waiting commands are kept by
boot, power, reliability, and every command by its opcode. -/
namespace Sys2Proof.Machine
open Sys2Proof

/-! Units loaded again. -/

@[simp] theorem recoverSyn_kept (k : Nat) (s : State) : kept (recoverSyn k s) = kept s := by
  simp [recoverSyn]

@[simp] theorem powerHead_kept (h : Nat) (s : State) : kept (powerHead h s) = kept s := by
  simp [powerHead]

@[simp] theorem powerHeads_kept (s : State) : kept (powerHeads s) = kept s := by
  simp [powerHeads]

/-! Boot, firmware and fuses. -/

@[simp] theorem modBoot_kept (f : BootPart → BootPart) (s : State) : kept (modBoot f s) = kept s := by
  simp [modBoot]

@[simp] theorem flashWrite_kept (a : Nat) (l : List Byte) (s : State) : kept (flashWrite a l s) = kept s := by
  simp [flashWrite]

@[simp] theorem flashErase_kept (a : Nat) (s : State) : kept (flashErase a s) = kept s := by
  simp [flashErase]

@[simp] theorem writeRec_kept (r : BootRec) (s : State) : kept (writeRec r s) = kept s := by
  simp [writeRec]

@[simp] theorem cmdFwInfo_kept (c : Cmd) (s : State) : kept (cmdFwInfo c s).state = kept s := by
  simp [cmdFwInfo]

@[simp] theorem cmdFwUpdate_kept (c : Cmd) (s : State) : kept (cmdFwUpdate c s).state = kept s := by
  simp only [cmdFwUpdate]
  refine checks_kept _ ?_
  (repeat' split) <;> simp

@[simp] theorem cmdFwConfirm_kept (c : Cmd) (s : State) : kept (cmdFwConfirm c s).state = kept s :=
  checks_kept _ (by simp)

@[simp] theorem fuseBlown_kept (k : Nat) (w : List Nat) (s : State) : kept (cmdSecFuseProgram.fuseBlown k w s) = kept s := rfl

@[simp] theorem cmdSecFuseProgram_kept (c : Cmd) (s : State) : kept (cmdSecFuseProgram c s).state = kept s := by
  simp only [cmdSecFuseProgram]
  refine checks_kept _ ?_
  split <;> simp

/-! Power states and requests. -/

@[simp] theorem decideRequest_kept (d cost step : Nat) (s : State) : kept (decideRequest d cost step s) = kept s := by
  simp only [decideRequest]
  split <;> simp

@[simp] theorem waitingRequests_kept (s : State) : kept (waitingRequests s) = kept s := by
  simp [waitingRequests]

@[simp] theorem cmdPowerBudgetSet_kept (c : Cmd) (s : State) : kept (cmdPowerBudgetSet c s).state = kept s :=
  checks_kept _ (by simp)

@[simp] theorem cmdPowerStateSet_kept (c : Cmd) (s : State) : kept (cmdPowerStateSet c s).state = kept s :=
  checks_kept _ (by simp)

/-! Faults and diagnosis. -/

@[simp] theorem cmdFaultLogRead_kept (c : Cmd) (s : State) : kept (cmdFaultLogRead c s).state = kept s := by
  simp only [cmdFaultLogRead]
  refine checks_kept _ ?_
  split
  · rfl
  · next h => simp [hostWrite_kept h]

@[simp] theorem cmdFaultRecover_kept (c : Cmd) (s : State) : kept (cmdFaultRecover c s).state = kept s :=
  checks_kept _ (by simp)

@[simp] theorem coreFetches_kept (s : State) : kept (coreFetches s) = kept s := by
  simp [coreFetches]

@[simp] theorem cmdDiagCoreInfo_kept (c : Cmd) (s0 : State) : kept (cmdDiagCoreInfo c s0).state = kept s0 := by
  simp [cmdDiagCoreInfo]

@[simp] theorem rawLine_kept (line : Nat) (d : List Byte) (chk : Nat) (s : State) : kept (rawLine line d chk s) = kept s := by
  simp [rawLine]

@[simp] theorem rawStore_kept (chan b i : Nat) (d : List Byte) (chk : Nat) (s0 : State) :
    kept (rawStore chan b i d chk s0) = kept s0 := by
  simp only [rawStore]
  split <;> simp

@[simp] theorem cmdDiagFsRaw_kept (c : Cmd) (s : State) : kept (cmdDiagFsRaw c s).state = kept s := by
  simp only [cmdDiagFsRaw]
  refine checks_kept _ ?_
  split
  · split
    · simp
    · next h => simp [hostWrite_kept h]
  · split <;> simp

@[simp] theorem cmdAvailClear_kept (c : Cmd) (s : State) : kept (cmdAvailClear c s).state = kept s :=
  checks_kept _ (by simp)

/-! Reports. -/

@[simp] theorem cmdSysNop_kept (c : Cmd) (s : State) : kept (cmdSysNop c s).state = kept s :=
  checks_kept _ (by simp)

@[simp] theorem cmdHeadConfigReport_kept (c : Cmd) (s : State) : kept (cmdHeadConfigReport c s).state = kept s := by
  simp only [cmdHeadConfigReport]
  refine checks_kept _ ?_
  split
  · rfl
  · next h => simp [hostWrite_kept h]

/-! The event scheduler. -/

@[simp] theorem cmdEvtSlotSet_kept (c : Cmd) (s : State) : kept (cmdEvtSlotSet c s).state = kept s :=
  checks_kept _ (by simp)

@[simp] theorem cmdEvtSlotGet_kept (c : Cmd) (s : State) : kept (cmdEvtSlotGet c s).state = kept s :=
  checks_kept _ (by simp)

@[simp] theorem cmdEvoConfig_kept (c : Cmd) (s : State) : kept (cmdEvoConfig c s).state = kept s :=
  checks_kept _ (by simp)

/-! Commands by their opcode. -/

@[simp] theorem cmdCfgCommitPowered_kept (c : Cmd) (s : State) : kept (cmdCfgCommitPowered c s).state = kept s := by
  have hcommit := cmdCfgCommit_kept c s
  unfold cmdCfgCommitPowered
  split
  · next h =>
    rw [h] at hcommit
    simpa using hcommit
  · exact hcommit

@[simp] theorem runCmd_kept (c : Cmd) (s : State) : kept (runCmd c s).state = kept s := by
  unfold runCmd
  split <;> simp

end Sys2Proof.Machine
end

section
/-! PROOFS. The mailbox events (R33, R36 to R39, R42, R43, R49): what serving an entry keeps, and each row by its
condition. -/
namespace Sys2Proof.Machine
open Sys2Proof

/-! What serving an entry keeps. -/

theorem settle_kept (c : Cmd) (r : CmdRes) : kept (settle c r) = kept r.state := by
  cases r with
  | final st d b t => exact postFinal_kept c st d b t
  | wait w t => rfl
  | accept j fin t =>
    cases fin with
    | none =>
      simp only [settle]
      split <;> exact (kept_update _ _ _ _ _ _ _ _ _ _ _ _ _ _ _ _ _ _ _).trans (by simp)
    | some f => simp [settle]

theorem reducedAnswer_kept {s : State} {r : CmdRes} : kept (reducedAnswer s r).state = kept s := by
  unfold reducedAnswer
  split <;> rfl

theorem runPayload_kept (c : Cmd) (s : State) : kept (runPayload c s) = kept s := by
  rw [runPayload, settle_kept]
  refine checks_kept _ ?_
  split
  · exact reducedAnswer_kept
  · exact runCmd_kept c s

theorem serveEntry_kept (c : Cmd) (s : State) : kept (serveEntry c s) = kept s := by
  unfold serveEntry
  split
  · exact postFinal_kept _ _ _ _ s
  · split
    · rfl
    · exact runPayload_kept _ s

/-! Response heads, resets and entries taken. -/

theorem exec_mbRspHeadWrite_accepted {mb : Fin 16} {value : BitVec 32} {s : State} (h : okMbRspHeadAccepted mb value s) :
    exec (.mbRspHeadWrite mb value) s = .next (modMb mb (fun x => { x with rspHead := value.toNat % 65536 }) s) := by
  obtain ⟨hon, hring⟩ := h
  refine actOutside_kept (f := heldIn 1 (rspHeadWrite mb.val (value.toNat % 65536))) ?_ (modMb_kept _ _ _)
  rw [heldIn_on hon, rspHeadWrite, if_pos hring, Nat.mod_mod]

theorem exec_mbRspHeadWrite_refused {mb : Fin 16} {value : BitVec 32} {s : State} (h : okMbRspHeadRefused mb value s) :
    exec (.mbRspHeadWrite mb value) s = .next (raise (929 + 2 * mb) (modMb mb (fun x => { x with rspErr := true }) s)) := by
  obtain ⟨hon, hout⟩ := h
  refine actOutside_kept (f := heldIn 1 (rspHeadWrite mb.val (value.toNat % 65536))) ?_ (by simp)
  rw [heldIn_on hon, rspHeadWrite, if_neg (by omega)]

theorem exec_mailboxReset {mb : Fin 16} {s : State} (h : okMailboxReset mb s) :
    exec (.mailboxReset mb) s = .next (dmaMailboxReset mb (modMb mb (fun x => { x with state := .resetting, cmdHead := x.cmdTail })
      { s with ctl := { s.ctl with inflight := s.ctl.inflight.map (fun c => if c.mb = mb.val then { c with detached := true } else c) } })) := by
  obtain ⟨hon, hresetting, hdown⟩ := h
  refine actOutside_kept (f := heldIn 1 (mailboxReset mb.val)) ?_ (by simp)
  rw [heldIn_on hon, mailboxReset, if_neg (by simp [hresetting, hdown])]

theorem exec_mailboxResetComplete {mb : Fin 16} {s : State} (h : okMailboxResetComplete mb s) :
    exec (.mailboxResetComplete mb) s = .next (raise (929 + 2 * mb) (modMb mb (fun x => { x with
      state := if x.enable then .ready else .disabled, cmdTail := 0, cmdHead := 0, rspTail := 0, rspHead := 0 })
      (resetAgent clsMailbox mb s))) :=
  actOutside_kept (f := mailboxResetDone mb.val) (if_pos h) (by simp)

theorem exec_entryTake {mb : Fin 16} {s : State} (h : okEntryTake mb s) :
    exec (.entryTake mb) s = .next (serveEntry (readEntry mb (mbAt s mb).cmdHead (mbAt s mb))
      (modMb mb (fun x => { x with cmdHead := (x.cmdHead + 1) % 65536 }) { s with ctl := { s.ctl with rrNext := (mb.val + 1) % 16 } })) :=
  actOutside_kept (f := takeEntry mb.val) (if_pos h) ((serveEntry_kept _ _).trans (by simp))

theorem exec_extPayloadFetched_fails {mb : Fin 16} {c : Cmd} {s : State} (h : okExtPayloadFails mb c s) :
    exec (.extPayloadFetched mb false) s = .next (postFinal c .timeout 1 [] (dropCmd c s)) := by
  obtain ⟨hfetch, hrun, hhost⟩ := h
  refine actOutside_kept (f := extFetched mb.val false) ?_ (by simp)
  simp [extFetched, hfetch, hrun, hhost, fetchEnd]

/-! Steps of a DCS list (R42, R394). -/

/-- The command of mailbox `n` that steps next, with its job. -/
def steppingOf (s : State) (n : Nat) : Option (Cmd × Job) :=
  s.ctl.inflight.findSome? (fun x => match x.phase with | .stepping j => if x.mb = n then some (x, j) else none | _ => none)

/-- The state in which a slice for mailbox `n` runs: the round robin stands past the mailbox (R43). -/
abbrev turned (n : Nat) (s : State) : State := { s with ctl := { s.ctl with rrNext := (n + 1) % 16 } }

/-- What a slice makes of the step it has run: the final status, or the job as it goes on (R42, R45). -/
def sliceEnd (c : Cmd) : StepOut → State
  | .fin st d b s => postFinal c st d b (dropCmd c s)
  | .more j s => postProgress c j { s with ctl := { s.ctl with
      inflight := (dropCmd c s).ctl.inflight ++ [{ c with phase := .stepping j }] } }

/-- A slice runs the next step of the job (R42). -/
theorem stepCutStep_of_stepping {n : Nat} {c : Cmd} {j : Job} {s : State} (hrun : firmwareRunning s = true) (hon : domOn s 1 = true)
    (hjob : steppingOf s n = some (c, j)) : stepCutStep n s = sliceEnd c (runStep c j (turned n s)) := by
  unfold stepCutStep
  rw [if_neg (by simp [hrun, hon])]
  split
  · next hnone => exact absurd (hnone.symm.trans hjob) (by simp)
  · next hsome =>
    cases hsome.symm.trans hjob
    cases hstep : runStep c j (turned n s) <;> simp only [hstep] <;> rfl

/-- The packet that a DCS list sends in step `d`. -/
abbrev packetOf (c : Cmd) (n d : Nat) : DcsPacket := ((dcsEntries n (c.params.drop 4)).getD []).getD d {}

/-- The state when a packet has been sent outside VIDEO, in LP escape mode (R394). -/
abbrev packetSent (p : Nat) (k : DcsPacket) (s : State) : State :=
  modPanel p (fun x => { x with sent := [(false, dcsBytes k)], dcs := (x.dcs + 1) % 2 ^ 32, due := runTime s + k.delay * 1000000 * nsUnits }) s

/-- A packet without a delay leaves the port due at once. -/
theorem packetSent_of_noDelay {p : Nat} {k : DcsPacket} {s : State} (h : k.delay = 0) :
    packetSent p k s =
      modPanel p (fun x => { x with sent := [(false, dcsBytes k)], dcs := (x.dcs + 1) % 2 ^ 32, due := runTime s }) s := by
  have hdue : runTime s + k.delay * 1000000 * nsUnits = runTime s := by simp [h]
  rw [packetSent, hdue]

/-- A port that rests outside VIDEO, with nothing queued. -/
structure PortFree (p : Nat) (s : State) : Prop where
  notOff : (panelAt s p).state ≠ .off
  notVideo : (panelAt s p).state ≠ .video
  queue : (panelAt s p).queue = []
  due : (panelAt s p).due ≤ runTime s

theorem dcsStep_sends {p n d : Nat} {c : Cmd} {s : State} (h : PortFree p s) :
    dcsStep p n d c.params s = some (packetSent p (packetOf c n d) s) := by
  have hdue : ¬ runTime s < (panelAt s p).due := Nat.not_lt.2 h.due
  simp only [dcsStep, dcsSend]
  rw [if_neg (by simp [h.queue, hdue]), if_pos h.notVideo]

theorem dcsRested_packetSent (p : Nat) (k : DcsPacket) (s : State) : dcsRested (packetSent p k s) p = decide (k.delay = 0) := by
  have hdue : (panelAt (packetSent p k s) p).due = runTime s + k.delay * 1000000 * nsUnits := by simp [panelAt]
  have hnow : runTime (packetSent p k s) = runTime s := rfl
  have hunit : nsUnits = 65536 := rfl
  rw [dcsRested, hdue, hnow, hunit, decide_eq_decide]
  omega

/-- A step of a DCS list on a port that is free sends its packet, and ends the list with the last one once no delay follows. -/
theorem runStep_dcs_sends {c : Cmd} {p n d : Nat} {s : State} (h : PortFree p s) (hd : d < n) :
    runStep c (.dcs p n d) s =
      if n ≤ d + 1 ∧ (packetOf c n d).delay = 0 then .fin .ok 0 [] (packetSent p (packetOf c n d) s)
      else .more (.dcs p n (d + 1)) (packetSent p (packetOf c n d) s) := by
  have hmore : ¬ n ≤ d := Nat.not_le.2 hd
  simp only [runStep, if_neg h.notOff, if_neg hmore, dcsStep_sends h, dcsRested_packetSent, decide_eq_true_eq]

theorem runStep_dcs_rested {c : Cmd} {p n d : Nat} {s : State} (h : PortFree p s) (hd : n ≤ d) :
    runStep c (.dcs p n d) s = .fin .ok 0 [] s := by
  have hrest : dcsRested s p = true := decide_eq_true h.due
  simp only [runStep, if_neg h.notOff, if_pos hd, hrest, if_true]

/-- A port in VIDEO whose packet cannot go out holds the step. -/
theorem runStep_dcs_held {c : Cmd} {p n d : Nat} {s : State} (hvideo : (panelAt s p).state = .video) (hd : d < n)
    (hheld : dcsStep p n d c.params s = none) : runStep c (.dcs p n d) s = .more (.dcs p n d) s := by
  have hoff : (panelAt s p).state ≠ .off := by rw [hvideo]; decide
  simp only [runStep, if_neg hoff, if_neg (Nat.not_le.2 hd), hheld]

/-- PROGRESS is posted 1 ms after the last response, not before (R45). -/
theorem postProgress_early {c : Cmd} {j : Job} {s : State} (h : runTime s < c.lastRsp + 1000000 * nsUnits) : postProgress c j s = s := by
  have hearly : ¬ c.lastRsp + 1000000 * nsUnits ≤ runTime s := Nat.not_le.2 h
  simp [postProgress, hearly]

theorem modCmd_kept (c : Cmd) (f : Cmd → Cmd) (s : State) : kept (modCmd c f s) = kept s := rfl

theorem postProgress_kept (c : Cmd) (j : Job) (s : State) : kept (postProgress c j s) = kept s := by
  simp [postProgress, modCmd_kept]

theorem exec_stepCutStep_last {mb : Fin 16} {c : Cmd} {p n d : Nat} {s : State} (h : okStepCutLast mb c p n d s) :
    exec (.stepCutStep mb) s = .next (postFinal c .ok 0 [] (modPanel p (fun x => { x with
      sent := [(false, dcsBytes (packetOf c n d))], dcs := (x.dcs + 1) % 2 ^ 32, due := runTime s }) (dropCmd c (turned mb s)))) := by
  obtain ⟨hrun, hon, hjob, hoff, hvideo, hqueue, hdue, hlast, hdelay⟩ := h
  have hfree : PortFree p (turned mb s) := ⟨hoff, hvideo, hqueue, hdue⟩
  refine actOutside_kept (f := stepCutStep mb.val) ?_ (by simp)
  rw [stepCutStep_of_stepping hrun hon hjob, runStep_dcs_sends hfree (by omega), if_pos ⟨by omega, hdelay⟩]
  rw [sliceEnd, packetSent_of_noDelay hdelay]
  rfl

theorem exec_stepCutStep_more {mb : Fin 16} {c : Cmd} {p n d : Nat} {s : State} (h : okStepCutMore mb c p n d s) :
    exec (.stepCutStep mb) s = .next { packetSent p (packetOf c n d) s with ctl := { s.ctl with
      rrNext := (mb.val + 1) % 16,
      inflight := s.ctl.inflight.filter (fun x => decide (x.uid ≠ c.uid)) ++ [{ c with phase := .stepping (.dcs p n (d + 1)) }] } } := by
  obtain ⟨hrun, hon, hjob, hoff, hvideo, hqueue, hdue, hopen, hearly⟩ := h
  have hfree : PortFree p (turned mb s) := ⟨hoff, hvideo, hqueue, hdue⟩
  have hgoes : ¬ (n ≤ d + 1 ∧ (packetOf c n d).delay = 0) := by
    rintro ⟨hle, hzero⟩
    rcases hopen with hlt | ⟨-, hdelay⟩
    · omega
    · exact Nat.ne_of_gt hdelay hzero
  refine actOutside_kept (f := stepCutStep mb.val) ?_ rfl
  rw [stepCutStep_of_stepping hrun hon hjob, runStep_dcs_sends hfree (by omega), if_neg hgoes]
  exact postProgress_early hearly

theorem exec_stepCutStep_held {mb : Fin 16} {c : Cmd} {p n d : Nat} {s : State} (h : okStepCutHeld mb c p n d s) :
    exec (.stepCutStep mb) s = .next (postProgress c (.dcs p n d) { s with ctl := { s.ctl with
      rrNext := (mb.val + 1) % 16,
      inflight := s.ctl.inflight.filter (fun x => decide (x.uid ≠ c.uid)) ++ [{ c with phase := .stepping (.dcs p n d) }] } }) := by
  obtain ⟨hrun, hon, hjob, hd, hvideo, hheld⟩ := h
  refine actOutside_kept (f := stepCutStep mb.val) ?_ ((postProgress_kept _ _ _).trans rfl)
  rw [stepCutStep_of_stepping hrun hon hjob, runStep_dcs_held (s := turned mb s) hvideo hd hheld]
  rfl

theorem exec_stepCutStep_rested {mb : Fin 16} {c : Cmd} {p n d : Nat} {s : State} (h : okStepCutRested mb c p n d s) :
    exec (.stepCutStep mb) s = .next (postFinal c .ok 0 [] (dropCmd c (turned mb s))) := by
  obtain ⟨hrun, hon, hjob, hoff, hvideo, hqueue, hdue, hd⟩ := h
  have hfree : PortFree p (turned mb s) := ⟨hoff, hvideo, hqueue, hdue⟩
  refine actOutside_kept (f := stepCutStep mb.val) ?_ (by simp)
  rw [stepCutStep_of_stepping hrun hon hjob, runStep_dcs_rested hfree hd]
  rfl

/-- Settles O33: each clause is the row's lemma above. -/
theorem mailboxEvents : Obligations.MailboxEvents := by
  unfold Obligations.MailboxEvents
  refine ⟨?dbAccepted, ?dbRefused, ?headAccepted, ?headRefused, ?reset, ?resetDone, ?take, ?fetchFails, ?last, ?more, ?held, ?rested⟩
  case dbAccepted =>
    rintro mb value s ⟨hon, hstby, hen, hrdy, hring, htail⟩
    refine exec_mbDbWrite (.inl hon) ?_ rfl
    rw [doorbell_accepted hen hrdy hring htail, if_neg hstby, Nat.mod_mod]
  case dbRefused =>
    rintro mb value s ⟨hon, hen, hrdy, hout⟩
    exact exec_mbDbWrite_refused ⟨.inl hon, hen, hrdy⟩ (.inl hout)
  case headAccepted => exact fun mb value s h => exec_mbRspHeadWrite_accepted h
  case headRefused => exact fun mb value s h => exec_mbRspHeadWrite_refused h
  case reset => exact fun mb s h => exec_mailboxReset h
  case resetDone => exact fun mb s h => exec_mailboxResetComplete h
  case take => exact fun mb s h => exec_entryTake h
  case fetchFails => exact fun mb c s h => exec_extPayloadFetched_fails h
  case last => exact fun mb c p n d s h => exec_stepCutStep_last h
  case more => exact fun mb c p n d s h => exec_stepCutStep_more h
  case held => exact fun mb c p n d s h => exec_stepCutStep_held h
  case rested => exact fun mb c p n d s h => exec_stepCutStep_rested h

end Sys2Proof.Machine
end

section
/-! PROOFS. The events of the Onyx pair (R51 to R56, R500, R560). -/
namespace Sys2Proof.Machine
open Sys2Proof

/-- The counters of a mismatch found now: its instant joins those of the last second, and `counts` adds to the count (R51, R56). -/
abbrev mismatchNoted (counts : Nat) (s : State) : Control :=
  { s.ctl with
    mismatchTimes := s.ctl.mismatchTimes.filter (fun t => decide (runTime s ≤ t + secUnits)) ++ [runTime s]
    mismatches := (s.ctl.mismatches + counts) % 2 ^ 32 }

/-- The event unit takes its number back without touching anything else (R500). -/
theorem serviceReturned_ctl (s : State) : (serviceReturned s).ctl = s.ctl := by
  unfold serviceReturned
  split <;> rfl

@[simp] theorem serviceReturned_kept (s : State) : kept (serviceReturned s) = kept s := by
  unfold serviceReturned
  split
  · rfl
  · exact modEv_kept _ _

/-- Fewer than two mismatches in the last second: the pair restarts (R51, R500). -/
theorem pairRestart_restarts {counts : Bool} {s : State} (hrun : s.ctl.pair = .running)
    (hfew : (s.ctl.mismatchTimes.filter (fun t => decide (runTime s ≤ t + secUnits))).length < 2) :
    pairRestart counts s = { serviceReturned { s with ctl := mismatchNoted (b2n counts) s } with
      ctl := { mismatchNoted (b2n counts) s with pair := .restarting } } := by
  have hthird : ¬ 3 ≤ (s.ctl.mismatchTimes.filter (fun t => decide (runTime s ≤ t + secUnits)) ++ [runTime s]).length := by
    rw [List.length_append, List.length_singleton]; omega
  simp only [pairRestart]
  split
  · next hheld => exact absurd (hrun.symm.trans hheld) (by decide)
  · next hboot => exact absurd (hrun.symm.trans hboot) (by decide)
  · rw [if_neg hthird, serviceReturned_ctl]
  · next hagain => exact absurd (hrun.symm.trans hagain) (by decide)

@[simp] theorem controlFail_kept (s : State) : kept (controlFail s) = kept s := by
  simp [controlFail]

@[simp] theorem postEnded_kept (c : Cmd) (s : State) : kept (postEnded c s) = kept s := by
  unfold postEnded
  split <;> simp

@[simp] theorem serviceResume_kept (s : State) : kept (serviceResume s) = kept s := by
  simp [serviceResume]

@[simp] theorem serviceResumed_kept (s : State) : kept (serviceResumed s) = kept s := by
  simp [serviceResumed, byServo]

/-- Settles O34: a mismatch and the watchdog restart the pair, and the other two rows answer by their condition. -/
theorem pairEvents : Obligations.PairEvents := by
  unfold Obligations.PairEvents
  refine ⟨?mismatch, ?watchdog, ?failure, ?resume⟩
  case mismatch =>
    rintro s ⟨hon, hrun, hfew⟩
    refine actOutside_kept (f := lockstepMismatch) ?_ (serviceReturned_kept _)
    rw [lockstepMismatch, if_pos hon]
    exact pairRestart_restarts hrun hfew
  case watchdog =>
    rintro s ⟨hready, hon, hrun, hfew⟩
    refine actOutside_kept (f := runWatchdog) ?_ (serviceReturned_kept _)
    rw [runWatchdog, if_pos ⟨hready, decide_eq_true hrun, hon⟩]
    exact pairRestart_restarts hrun hfew
  case failure => exact fun s h => actOutside_kept (f := controlFailure) (if_pos h) (controlFail_kept s)
  case resume =>
    intro s h l
    have hresume : serviceResume s = forEach l postEnded (raise 6 (logFault 5 255 0
        (forEach (l.filter (fun c => !c.detached)) (fun c => modMb c.mb (fun m => { m with restarted := true }))
          { s with ctl := { s.ctl with inflight := l, pair := .running, restarts := (s.ctl.restarts + 1) % 2 ^ 32 } }))) := if_pos h
    have hresumed := serviceResumed_kept s
    rw [serviceResumed, hresume] at hresumed
    refine actOutside_kept (f := serviceResumed) ?_ hresumed
    rw [serviceResumed, hresume]

end Sys2Proof.Machine
end

section
/-! PROOFS. The queue at a step (R62), and the two statements of the timebase that do not hold: in each a clause leaves out
something that the row does besides, and a state shows it. -/
namespace Sys2Proof.Machine
open Sys2Proof

/-- Settles O1: a step splits on the queue. -/
theorem stepRunsFront : Obligations.StepRunsFront := by
  unfold Obligations.StepRunsFront
  constructor
  · intro c rest s h
    simp only [step, h]
  · intro s h
    simp only [step, h]

/-- The state that a row answers with. -/
def answerState : Host.Outcome State Fault Refusal → Option State
  | .next s => some s
  | .fault _ => none
  | .refused _ => none

/-- Refutes O14: its clause of a declined step fails. A step that another command has approved waits for its frame start with
STATE still STEP_PENDING; declining it then ends the command that waits too (R76, log entry 208), where the clause leaves that
command in flight. -/
theorem not_timebaseCommands : ¬ Obligations.TimebaseCommands := by
  unfold Obligations.TimebaseCommands
  rintro ⟨-, -, -, -, hdecline, -⟩
  have hclause := hdecline { ticket := 7, length := 4, payload := [1, 0, 0, 0] }
    { ctl := { pair := .running, inflight := [{ mb := 1, opcode := 0x0203, phase := .waiting .stepApplied }] },
      time := { tb := { state := .stepPending, errFull := -5000000, stepDue := some (-5000000) } } }
    (by decide +kernel) (by decide +kernel)
  have hinflight := congrArg (fun o => (answerState o).map (·.ctl.inflight.length)) hclause
  exact absurd hinflight (by decide +kernel)

/-- Refutes O35: its clause of the end of a slew fails. The rate of the timebase changes there, so every raster that runs goes on
from its position of that instant, which the row holds with the instant (R62, R74); the clause leaves the position of an enabled
head at its old instant. -/
theorem not_timebaseEvents : ¬ Obligations.TimebaseEvents := by
  unfold Obligations.TimebaseEvents
  rintro ⟨-, -, -, -, -, -, -, -, -, -, hslew, -⟩
  have hclause := hslew
    { ctl := { pair := .running }, pic := { heads := [(0, { enabled := true })] },
      time := { tb := { now := 1, state := .acquire, errNs := 40, errFull := 40, slew := some 50000, freqPpb := 50000 } } }
    (by decide +kernel)
  have hposAt := congrArg (fun o => (answerState o).map (fun t => (hdAt t 0).posAt)) hclause
  exact absurd hposAt (by decide +kernel)

end Sys2Proof.Machine
end

section
/-! PROOFS. Raster events (R82, R84, R85, R109): the parts of the state that the ends of waiting commands, the slots and an
update point leave alone, the frame starts of the reference and the capture raster, and the statement about them. -/
namespace Sys2Proof.Machine
open Sys2Proof

theorem forUpTo_eq_forEach {σ : Type} (n : Nat) (f : Nat → σ → σ) (s : σ) : forUpTo n f s = forEach (List.range n) f s := rfl

/-! The time part and the video outputs under answers, slots and heads. -/

/-- The time part and the video outputs. -/
def timeVideo (s : State) : TimePart × VideoPart := (s.time, s.vid)

theorem timeVideo_eq_iff {s t : State} : timeVideo t = timeVideo s ↔ t.time = s.time ∧ t.vid = s.vid :=
  Prod.mk.injEq _ _ _ _ ▸ Iff.rfl

@[simp] theorem timeVideo_ite {c : Prop} [Decidable c] (a b : State) :
    timeVideo (if c then a else b) = if c then timeVideo a else timeVideo b := apply_ite timeVideo c a b

@[simp] theorem forEach_timeVideo {α : Type} {f : α → State → State} (h : ∀ a t, timeVideo (f a t) = timeVideo t) (l : List α)
    (s : State) : timeVideo (forEach l f s) = timeVideo s :=
  foldl_keeps (fun t => timeVideo t = timeVideo s) _ (fun t a ht => (h a t).trans ht) l s rfl

@[simp] theorem raise_timeVideo (n : Nat) (s : State) : timeVideo (raise n s) = timeVideo s := by
  simp [timeVideo]

@[simp] theorem postFinal_timeVideo (c : Cmd) (st : Status) (d : Nat) (r : List Byte) (s : State) :
    timeVideo (postFinal c st d r s) = timeVideo s := by
  unfold postFinal
  split <;> split <;> simp [timeVideo, bumpEpoch]

@[simp] theorem finishWait_timeVideo (w : WaitFor) (st : Status) (d : Nat) (r : List Byte) (s : State) :
    timeVideo (finishWait w st d r s) = timeVideo s := by
  simp only [finishWait, finishCmds]
  split
  · rfl
  · split
    · exact forEach_timeVideo (postFinal_timeVideo · st d r ·) _ _
    · rfl

@[simp] theorem modSlot_timeVideo (n : Nat) (f : Slot → Slot) (s : State) : timeVideo (modSlot n f s) = timeVideo s := rfl

@[simp] theorem modHd_timeVideo (h : Nat) (f : Head → Head) (s : State) : timeVideo (modHd h f s) = timeVideo s := rfl

@[simp] theorem applyPending_timeVideo (n : Nat) (s : State) : timeVideo (applyPending n s) = timeVideo s := by
  simp [applyPending, applyContent]

@[simp] theorem disarmed_timeVideo (s : State) : timeVideo (disarmed s) = timeVideo s :=
  (forEach_timeVideo (fun (e : Nat × Slot) t => applyPending_timeVideo e.1 t) _ _).trans rfl

@[simp] theorem slotsInRaster_timeVideo (renum : Nat → Nat → Bool) (s : State) :
    timeVideo (slotsInRaster renum s) = timeVideo s := by
  rw [slotsInRaster, disarmed_timeVideo, forEach_timeVideo (fun _ t => raise_timeVideo 989 t)]
  rfl

@[simp] theorem withdrawHeld_timeVideo (s : State) : timeVideo (withdrawHeld s) = timeVideo s := by
  unfold withdrawHeld withdraw
  split
  · exact disarmed_timeVideo _
  · rfl

@[simp] theorem headsSeekLock_timeVideo (moved : Bool) (s : State) : timeVideo (headsSeekLock moved s) = timeVideo s := by
  simp [headsSeekLock, forUpTo_eq_forEach]

@[simp] theorem slotsInRaster_kept (renum : Nat → Nat → Bool) (s : State) : kept (slotsInRaster renum s) = kept s := by
  simp [slotsInRaster]

@[simp] theorem headsSeekLock_kept (moved : Bool) (s : State) : kept (headsSeekLock moved s) = kept s := by
  simp [headsSeekLock]

/-! The number of the capture frame and the ramp under an update point. -/

/-- The number of the capture frame and the ramp generator. -/
def captureRamp (s : State) : Nat × Ramp := (s.time.cap.frame, s.time.ramp)

theorem captureRamp_of_timeVideo {s t : State} (h : timeVideo t = timeVideo s) : captureRamp t = captureRamp s := by
  obtain ⟨htime, -⟩ := timeVideo_eq_iff.1 h
  rw [captureRamp, htime, captureRamp]

theorem forEach_captureRamp {α : Type} {f : α → State → State} (h : ∀ a t, captureRamp (f a t) = captureRamp t) (l : List α)
    (s : State) : captureRamp (forEach l f s) = captureRamp s :=
  foldl_keeps (fun t => captureRamp t = captureRamp s) _ (fun t a ht => (h a t).trans ht) l s rfl

theorem modSyn_captureRamp (k : Nat) (f : Syn → Syn) (s : State) : captureRamp (modSyn k f s) = captureRamp s := rfl

theorem holdRasters_captureRamp (s : State) : captureRamp (holdRasters s) = captureRamp s := by
  have hsyns (f : Nat → Syn → Syn) (t : State) :
      captureRamp (forUpTo 12 (fun k t => { t with time.syns := tabMod t.time.syns k (f k) }) t) = captureRamp t :=
    forEach_captureRamp (fun k t => modSyn_captureRamp k (f k) t) (List.range 12) t
  have hheads (f : Nat → Head → Head) (t : State) :
      captureRamp (forUpTo 8 (fun h t => if headEnabled s h then modHd h (f h) t else t) t) = captureRamp t := by
    rw [forUpTo_eq_forEach]
    exact captureRamp_of_timeVideo (forEach_timeVideo (fun h u => by simp) _ t)
  have hcap (p q : Nat) (t : State) :
      captureRamp { t with time.cap := { t.time.cap with posBase := p, posAt := q } } = captureRamp t := rfl
  simp only [holdRasters]
  split
  · rw [hcap, hheads, hsyns]
  · rw [hheads, hsyns]

theorem synUpdatePoint_captureRamp (k : Nat) (s : State) : captureRamp (synUpdatePoint k s) = captureRamp s := by
  simp only [synUpdatePoint]
  calc captureRamp _
    _ = captureRamp (forEach (synPairOf s k) (fun j t => modSyn j (synUpdated j t.time.tb.now t.time.dieTemp) t)
          (dieMeasured (holdRasters s))) := captureRamp_of_timeVideo (by simp)
    _ = captureRamp (dieMeasured (holdRasters s)) := forEach_captureRamp (fun j t => modSyn_captureRamp j _ t) _ _
    _ = captureRamp s := holdRasters_captureRamp s

/-! A reference frame start (R82, R85). -/

/-- The state in which the frame that starts at this instant is counted and has its timecode (R82, R85). -/
def frameLabelled (s : State) : State :=
  let n := refFrameAt s.time.ref s.time.tb.now
  let label := tcAt { s with time := { s.time with refFrame := n } } n
  { s with time := { s.time with refFrame := n, tc := { s.time.tc with current := label.1, sub := label.2, frame := n } } }

@[simp] theorem frameLabelled_vid (s : State) : (frameLabelled s).vid = s.vid := rfl
@[simp] theorem frameLabelled_pending (s : State) : (frameLabelled s).pending = s.pending := rfl
@[simp] theorem frameLabelled_running (s : State) : (frameLabelled s).time.tc.running = s.time.tc.running := rfl

/-- The state in which a raster setting that waited has come into force (R82). -/
def rasterTaken (r : RefRaster) (s : State) : State :=
  finishWait .refRaster .ok 0 [] (slotsInRaster (refRenum s.time.ref r)
    (headsSeekLock (decide (r.offsetNs ≠ s.time.ref.offsetNs)) { s with time := { s.time with ref := r, refPending := none } }))

theorem rasterTaken_timeVideo (r : RefRaster) (s : State) :
    timeVideo (rasterTaken r s) = ({ s.time with ref := r, refPending := none }, s.vid) := by
  rw [rasterTaken, finishWait_timeVideo, slotsInRaster_timeVideo, headsSeekLock_timeVideo]
  rfl

theorem rasterTaken_kept (r : RefRaster) (s : State) : kept (rasterTaken r s) = kept s := by
  simp [rasterTaken]

/-- With no settings that wait and no LTC output, a frame start only labels its frame (R85). -/
theorem refFrameStart_labels {s : State} (href : s.time.refPending = none) (htc : s.time.tc.pending = none)
    (hltc : s.time.tc.mode.ltcOut = false) : refFrameStart s = safelightTcLoad (frameLabelled s) := by
  simp [refFrameStart, href, htc, hltc, frameLabelled, modTc]

/-- A raster setting that waits comes into force first, and the frame is labelled by it (R82). -/
theorem refFrameStart_takes {r : RefRaster} {s : State} (href : s.time.refPending = some r) (htc : s.time.tc.pending = none)
    (hltc : s.time.tc.mode.ltcOut = false) : refFrameStart s = safelightTcLoad (frameLabelled (rasterTaken r s)) := by
  obtain ⟨htime, -⟩ := Prod.mk.inj (rasterTaken_timeVideo r s)
  obtain ⟨hsl, -⟩ := kept_eq_iff.1 (rasterTaken_kept r s)
  have hlabel := refFrameStart_labels (s := rasterTaken r s) (by rw [htime]) (by rw [htime]; exact htc) (by rw [htime]; exact hltc)
  rw [← hlabel, refFrameStart]
  simp only [href]
  rw [← rasterTaken]
  simp only [refFrameStart, htime, hsl]

theorem safelightTcLoad_idle {s : State} (h : s.time.tc.running = false) : safelightTcLoad s = s := by
  simp [safelightTcLoad, h]

theorem safelightTcLoad_running {s : State} (h : s.time.tc.running = true) :
    safelightTcLoad s = { s with sl := { s.sl with
      tcHh := s.time.tc.current.hh, tcMm := s.time.tc.current.mm, tcSs := s.time.tc.current.ss, tcFf := s.time.tc.current.ff,
      tcBase := s.time.tc.mode.base, tcDrop := s.time.tc.mode.drop, tcValid := true } } := if_pos h

/-- No panel port leaves a state, and none has an entry that waits. -/
def PanelsQuiet (s : State) : Prop := ∀ p, p < 4 → (panelAt s p).leaving = false ∧ (panelAt s p).queue = []

theorem panelsGoOn_of_quiet {s : State} (h : PanelsQuiet s) : panelsGoOn s = s := by
  have hfixed (p : Nat) (hp : p < 4) :
      (if (panelAt s p).leaving ∨ (panelAt s p).queue ≠ [] then panelGoOn p s else s) = s := by
    obtain ⟨hleaving, hqueue⟩ := h p hp
    simp [hleaving, hqueue]
  simp [panelsGoOn, forUpTo, List.range_succ, hfixed]

@[simp] theorem refFrameMark_vid (s : State) : (refFrameMark s).vid = s.vid := by simp only [refFrameMark]
@[simp] theorem refFrameMark_pending (s : State) : (refFrameMark s).pending = s.pending := by simp only [refFrameMark]

theorem outsideSafelight_congr {f g : State → State} {s : State} (h : f s = g s) :
    outsideSafelight f s = outsideSafelight g s := by
  rw [outsideSafelight, h, outsideSafelight]

/-- With no preset and every panel port quiet, the row marks the frame that its start leaves (R82, R407). -/
theorem exec_referenceFrameStart {s t : State} (h : refFrameStart s = t) (hpreset : s.boot.tcPreset = false) (hvid : t.vid = s.vid)
    (hquiet : PanelsQuiet s) (hp : t.pending = s.pending) :
    exec .referenceFrameStart s = .next (outsideSafelight refFrameMark t) := by
  have hnopreset : outsideSafelight presetTc s = s := by simp [outsideSafelight, presetTc, hpreset]
  have hgoOn : panelsGoOn (refFrameMark t) = refFrameMark t := by
    refine panelsGoOn_of_quiet fun p hlt => ?_
    rw [panelAt, refFrameMark_vid, hvid]
    exact hquiet p hlt
  refine act_next (f := fun u => outsideSafelight (fun v => panelsGoOn (refFrameMark v))
    (refFrameStart (outsideSafelight presetTc u))) ?_ (by rw [outsideSafelight_pending, refFrameMark_pending, hp])
  rw [hnopreset, h]
  exact outsideSafelight_congr hgoOn

/-! LTC words (R85). -/

theorem ltcWord_gone (tc : Timecode) (s : State) : ltcWord false tc s = modTc (fun g => { g with ltcValid := false }) s := rfl

/-- An LTC word is noted with the frame it labels. -/
def ltcNoted (tc : Timecode) (s : State) : State :=
  modTc (fun g => { g with ltcValid := true, ltcIn := tc, ltcFrame := s.time.refFrame }) s

theorem ltcWord_armed {tc : Timecode} {s : State} (hpend : s.time.tc.pending = none) (hrun : s.time.tc.running = true)
    (hmode : s.time.tc.mode.mode = 1) (harmed : s.time.tc.armed = true) :
    ltcWord true tc s =
      modTc (fun g => { g with armed := false, mode := { g.mode with tc0 := tc, n0 := s.time.refFrame } }) (ltcNoted tc s) := by
  simp [ltcWord, hpend, hrun, hmode, harmed, ltcNoted]

theorem ltcWord_noted {tc : Timecode} {s : State} (hpend : s.time.tc.pending = none)
    (hfree : s.time.tc.running = false ∨ s.time.tc.mode.mode = 0 ∨ s.time.tc.mode.mode = 3) :
    ltcWord true tc s = ltcNoted tc s := by
  rcases hfree with hrun | hmode | hmode
  · simp [ltcWord, hpend, hrun, ltcNoted]
  · simp [ltcWord, hpend, hmode, ltcNoted]
  · simp [ltcWord, hpend, hmode, ltcNoted]

/-! Capture frames (R84). -/

@[simp] theorem armAfterOne_kept (c frame : Nat) (s : State) : kept (armAfterOne c frame s) = kept s := by
  simp [armAfterOne]

@[simp] theorem dropBeyond_kept (c : Nat) (s : State) : kept (dropBeyond c s) = kept s := by
  simp [dropBeyond]

@[simp] theorem resolveStop_kept (c x : Nat) (s : State) : kept (resolveStop c x s) = kept s := by
  simp only [resolveStop]
  (repeat' split) <;> simp

@[simp] theorem recFrame_kept (c frame boundary : Nat) (s : State) : kept (recFrame c frame boundary s) = kept s := by
  simp [recFrame]

theorem recFrameBegin_kept (s : State) : kept (recFrameBegin s) = kept s := by
  simp [recFrameBegin]

/-- A capture frame has begun at an instant, with its number and the boundary before it kept (R84). -/
def captureBegun (b : Nat) (s : State) : State :=
  { s with time := { s.time with cap := { s.time.cap with
    frame := s.time.cap.frame + 1, boundary := b, hasBoundary := true, posBase := 0, posAt := b,
    past := keepPast b ((s.time.cap.frame, if s.time.cap.hasBoundary then s.time.cap.boundary else 0) :: s.time.cap.past),
    period := if s.time.cap.hasBoundary then b - s.time.cap.boundary else s.time.cap.period } } }

/-- No capture raster setting and no ramp waits for the frame to come. -/
def CapturePlain (s : State) : Prop :=
  s.time.cap.pending = none ∧ s.time.ramp.startFrame ≠ some (s.time.cap.frame + 1)

/-- In DRIVE mode a frame starts with an update point of SYN8 (R104). -/
theorem capFrameBegin_plain (b : Nat) {s : State} (h : CapturePlain s) :
    capFrameBegin b s = if s.time.cap.mode.drive then synUpdatePoint 8 (captureBegun b s) else captureBegun b s := by
  obtain ⟨hpend, hramp⟩ := h
  have hbegun : captureRamp (if s.time.cap.mode.drive then synUpdatePoint 8 (captureBegun b s) else captureBegun b s) =
      (s.time.cap.frame + 1, s.time.ramp) := by
    split
    · exact synUpdatePoint_captureRamp 8 _
    · rfl
  obtain ⟨hframe, hsameRamp⟩ := Prod.mk.inj hbegun
  have hmod : modCap (fun x => { x with
      mode := s.time.cap.mode, pending := none, frame := x.frame + 1, boundary := b, hasBoundary := true, posBase := 0, posAt := b,
      past := keepPast b ((x.frame, if x.hasBoundary then x.boundary else 0) :: x.past),
      period := if x.hasBoundary then b - x.boundary else x.period }) s = captureBegun b s := by
    simp only [modCap, captureBegun, hpend]
  simp only [capFrameBegin, hpend, Option.getD_none, Option.isSome_none, slotsIf, hmod, Bool.false_eq_true, if_false]
  rw [hframe, hsameRamp, if_neg hramp]

theorem capturing_begins {f : State → State} {s t : State} (h : f s = t) (hframe : t.time.cap.frame = s.time.cap.frame + 1) :
    capturing f s = recFrameBegin t := by
  have hnew : ¬ t.time.cap.frame = s.time.cap.frame := by omega
  simp only [capturing, h, if_neg hnew]

theorem capturing_same {f : State → State} {s t : State} (h : f s = t) (hframe : t.time.cap.frame = s.time.cap.frame) :
    capturing f s = t := by
  simp only [capturing, h, if_pos hframe]

/-! The capture ramp (R109). -/

theorem rampUpdate_advances {r : RampRun} {g : RampSeg} {rest : List RampSeg} {s : State} (h : okRampUpdate r g rest s) :
    rampUpdate s =
      let t := setDivider (rampDivider (rampRate { r with tUs := r.tUs + 1 }) s.time.cap.mode.lines) s
      { t with time := { t.time with ramp := { t.time.ramp with run := some { r with tUs := r.tUs + 1 } } } } := by
  obtain ⟨hrun, hgate, hsegs, hinside⟩ := h
  have hmin : min (r.tUs + 1) g.duration = r.tUs + 1 := by omega
  have hnotEnd : ¬ (r.tUs + 1 = g.duration ∧ rest ≠ []) := by omega
  simp only [rampUpdate, hrun, hgate, hsegs, hmin, hnotEnd, Bool.false_eq_true, if_false]

theorem rampEnd_ends {r : RampRun} {g : RampSeg} {s : State} (h : okRampEnd r g s) : rampEnd s = endRamp (g.endRate, 1) s := by
  obtain ⟨hrun, hsegs, hdone⟩ := h
  simp only [rampEnd, hrun, hsegs, hdone, if_true]

theorem setDivider_captureRamp (d : Nat) (s : State) : captureRamp (setDivider d s) = captureRamp s :=
  (modSyn_captureRamp 8 _ _).trans (holdRasters_captureRamp s)

@[simp] theorem setDivider_kept (d : Nat) (s : State) : kept (setDivider d s) = kept s := by
  simp [setDivider]

/-! The rows. -/

theorem exec_referenceFrameStart_plain {s : State} (h : okReferenceFramePlain s) :
    exec .referenceFrameStart s = .next (outsideSafelight refFrameMark (frameLabelled s)) := by
  obtain ⟨hquiet, href, htc, hpreset, hrun, hltc⟩ := h
  refine exec_referenceFrameStart ?_ hpreset rfl hquiet rfl
  rw [refFrameStart_labels href htc hltc]
  exact safelightTcLoad_idle hrun

theorem exec_referenceFrameStart_labelled {s : State} (h : okReferenceFrameLabelled s) :
    let f := frameLabelled s
    exec .referenceFrameStart s = .next (outsideSafelight refFrameMark { f with sl := { s.sl with
      tcHh := f.time.tc.current.hh, tcMm := f.time.tc.current.mm, tcSs := f.time.tc.current.ss, tcFf := f.time.tc.current.ff,
      tcBase := s.time.tc.mode.base, tcDrop := s.time.tc.mode.drop, tcValid := true } }) := by
  obtain ⟨hquiet, href, htc, hpreset, hrun, hltc⟩ := h
  refine exec_referenceFrameStart ?_ hpreset rfl hquiet rfl
  rw [refFrameStart_labels href htc hltc]
  exact safelightTcLoad_running hrun

theorem exec_referenceFrameStart_raster {r : RefRaster} {s : State} (h : okReferenceFrameRaster r s) :
    exec .referenceFrameStart s = .next (outsideSafelight refFrameMark (frameLabelled (rasterTaken r s))) := by
  obtain ⟨hquiet, href, htc, hpreset, hrun, hltc⟩ := h
  obtain ⟨htime, hvid⟩ := Prod.mk.inj (rasterTaken_timeVideo r s)
  obtain ⟨-, hpending⟩ := kept_eq_iff.1 (rasterTaken_kept r s)
  refine exec_referenceFrameStart ?_ hpreset (by rw [frameLabelled_vid, hvid]) hquiet (by rw [frameLabelled_pending, hpending])
  rw [refFrameStart_takes href htc hltc]
  exact safelightTcLoad_idle (by rw [frameLabelled_running, htime, hrun])

theorem exec_captureFrameBoundary_marker {k : Fin 4} {s : State} (h : okCaptureMarker k s) :
    let a := s.time.cap.markers.headD s.time.tb.now - s.time.cap.mode.latencyNs * nsUnits
    let b := if s.time.cap.hasBoundary = true ∧ a ≤ s.time.cap.boundary then s.time.cap.boundary + nsUnits else a
    exec (.captureFrameBoundary (some k)) s = .next (recFrameBegin
      (modCap (fun x => { x with gapRaised := false, continuing := false, markers := x.markers.drop 1 }) (captureBegun b s))) := by
  obtain ⟨hpend, hramp, hfollow, hstream⟩ := h
  intro a b
  refine actOutside_kept (f := capturing (captureBoundary (some k.val))) ?_ (recFrameBegin_kept _)
  refine capturing_begins ?_ rfl
  have hbegin : capFrameBegin b s = captureBegun b s := by
    rw [capFrameBegin_plain b ⟨hpend, hramp⟩, hfollow, if_neg Bool.false_ne_true]
  simp only [captureBoundary, hpend, Option.getD_none, hfollow, hstream, Bool.not_false, and_self, if_true]
  rw [← hbegin]

theorem exec_captureFrameBoundary_driven {s : State} (h : okCaptureDriven s) :
    let e := max s.time.cap.posAt
      (ceilInstant (reachAt s.time.cap.posBase s.time.cap.posAt (capRate s) (16 * s.time.cap.mode.lines * posUnit : Nat)))
    let b := max (if s.time.cap.hasBoundary = true then e else s.time.tb.now) (s.time.cap.boundary + 1)
    exec (.captureFrameBoundary none) s = .next (recFrameBegin (synUpdatePoint 8 (captureBegun b s))) := by
  obtain ⟨hpend, hramp, hdrive, hgate⟩ := h
  intro e b
  obtain ⟨hframe, -⟩ := Prod.mk.inj (synUpdatePoint_captureRamp 8 (captureBegun b s))
  have hkept : kept (synUpdatePoint 8 (captureBegun b s)) = kept s := synUpdatePoint_kept 8 _
  refine actOutside_kept (f := capturing (captureBoundary none)) ?_ ((recFrameBegin_kept _).trans hkept)
  refine capturing_begins ?_ hframe
  have hbegin : capFrameBegin b s = synUpdatePoint 8 (captureBegun b s) := by
    rw [capFrameBegin_plain b ⟨hpend, hramp⟩, if_pos hdrive]
  simp only [captureBoundary, hpend, Option.getD_none, hdrive, hgate, Bool.false_eq_true, not_false_eq_true, and_self, if_true,
    true_and]
  exact hbegin

theorem exec_captureMarkerTimeout {s : State} (h : okCaptureMarkerTimeout s) :
    exec .captureMarkerTimeout s = .next (raise 47 (modCap (fun x => { x with gapRaised := true, continuing := true }) s)) := by
  obtain ⟨hfollow, hgap, hbound, hperiod, hmarkers, hlate⟩ := h
  refine actOutside_kept (f := capturing captureTimeout) (capturing_same ?_ (by simp)) (by simp)
  simp [captureTimeout, hfollow, hgap, hbound, hperiod, hmarkers, hlate]

/-- A frame of a gap keeps the period that it is begun at. -/
theorem exec_captureContinuationFrame {s : State} (h : okCaptureContinuationFrame s) :
    exec .captureContinuationFrame s = .next (recFrameBegin
      (modCap (fun x => { x with period := s.time.cap.period }) (captureBegun (s.time.cap.boundary + s.time.cap.period) s))) := by
  obtain ⟨hpend, hramp, hfollow, hgap⟩ := h
  refine actOutside_kept (f := capturing captureContinue) (capturing_begins ?_ rfl) (recFrameBegin_kept _)
  simp [captureContinue, hfollow, hgap, capFrameBegin_plain _ ⟨hpend, hramp⟩]

/-- Settles O36: each clause by the lemma of its row or of the row's effect. -/
theorem rasterEvents : Obligations.RasterEvents := by
  unfold Obligations.RasterEvents
  refine ⟨?plain, ?labelled, ?raster, ?ltcGone, ?ltcArmed, ?ltcKept, ?marker, ?driven, ?timeout, ?continuation, ?ramp, ?rampEnd⟩
  case plain => exact fun s h => exec_referenceFrameStart_plain h
  case labelled => exact fun s h => exec_referenceFrameStart_labelled h
  case raster => exact fun r s h => exec_referenceFrameStart_raster h
  case ltcGone =>
    rintro _ hh mm ss ff s rfl
    exact actOutside_kept (ltcWord_gone _ s) rfl
  case ltcArmed =>
    rintro _ hh mm ss ff s ⟨rfl, hpend, hrun, hmode, harmed⟩
    exact actOutside_kept (ltcWord_armed hpend hrun hmode harmed) rfl
  case ltcKept =>
    rintro _ hh mm ss ff s ⟨rfl, hpend, hfree⟩
    exact actOutside_kept (ltcWord_noted hpend hfree) rfl
  case marker => exact fun k s h => exec_captureFrameBoundary_marker h
  case driven => exact fun s h => exec_captureFrameBoundary_driven h
  case timeout => exact fun s h => exec_captureMarkerTimeout h
  case continuation => exact fun s h => exec_captureContinuationFrame h
  case ramp =>
    intro r g rest s h
    refine actOutside_kept (f := rampUpdate) ((rampUpdate_advances h).trans ?_) (by simp)
    obtain ⟨-, hramp⟩ := Prod.mk.inj
      (setDivider_captureRamp (rampDivider (rampRate { r with tUs := r.tUs + 1 }) s.time.cap.mode.lines) s)
    simp only [hramp]
  case rampEnd => exact fun r g s h => actOutside_kept (f := rampEnd) (rampEnd_ends h) (endRamp_kept (g.endRate, 1) s)

end Sys2Proof.Machine
end

section
/-! PROOFS. The commands of clock synthesis (R93, R98, R104, R106, R108, R109): a served row by what its command answers, each
command once its checks pass, and the statement about them. -/
namespace Sys2Proof.Machine
open Sys2Proof

/-! A served row by its command's answer. No command touches the Safelight domain or the waiting commands, so that the effect
is the answer's alone. -/

theorem runCmd_served_kept {op : Nat} {e : CmdEntry} {s : State} {r : CmdRes} (h : runCmd (cmdOf op e s) (entered op e s) = r) :
    r.state.sl = s.sl ∧ r.state.pending = s.pending := by
  have hkept := runCmd_kept (cmdOf op e s) (entered op e s)
  rw [h] at hkept
  exact kept_eq_iff.1 hkept

theorem exec_done {i : Instr} {op : Nat} {e : CmdEntry} {s t : State} (hrow : rowEntry i = some (op, e)) (hserved : Served op e s)
    (h : runCmd (cmdOf op e s) (entered op e s) = done t) : exec i s = .next (answered op e s [] t) := by
  obtain ⟨hsl, hp⟩ := runCmd_served_kept h
  rw [exec_entry i op e s hrow]
  exact act_final op e s [] t hserved h hsl hp

theorem exec_wait {i : Instr} {op : Nat} {e : CmdEntry} {s t : State} {w : WaitFor} (hrow : rowEntry i = some (op, e))
    (hserved : Served op e s) (h : runCmd (cmdOf op e s) (entered op e s) = .wait w t) :
    exec i s = .next (waiting op e s w t) := by
  obtain ⟨hsl, hp⟩ := runCmd_served_kept h
  rw [exec_entry i op e s hrow]
  exact act_wait op e s w t hserved h hsl hp

theorem exec_accept {i : Instr} {op : Nat} {e : CmdEntry} {s t : State} {j : Job} (hrow : rowEntry i = some (op, e))
    (hserved : Served op e s) (h : runCmd (cmdOf op e s) (entered op e s) = .accept j none t) :
    exec i s = .next (accepted op e s j t) := by
  obtain ⟨hsl, hp⟩ := runCmd_served_kept h
  rw [exec_entry i op e s hrow]
  exact act_accept op e s j t hserved h hsl hp

theorem exec_acceptEnd {i : Instr} {op : Nat} {e : CmdEntry} {s t : State} {j : Job} {st : Status} {d : Nat} {r : List Byte}
    (hrow : rowEntry i = some (op, e)) (hserved : Served op e s)
    (h : runCmd (cmdOf op e s) (entered op e s) = .accept j (some (st, d, r)) t) :
    exec i s = .next (acceptedAndEnded op e s st d r t) := by
  obtain ⟨hsl, hp⟩ := runCmd_served_kept h
  rw [exec_entry i op e s hrow]
  exact act_accept_end op e s j st d r t hserved h hsl hp

/-- The LENGTH of an entry that is served holds all that its command needs (R34 order 7). -/
theorem served_length {op : Nat} {e : CmdEntry} {s : State} (h : Served op e s) :
    lengthNeed (cmdOf op e s) ≤ (cmdOf op e s).length := by
  obtain ⟨-, -, -, -, -, -, -, -, -, -, -, -, -, hneed⟩ := h
  exact hneed

/-! Updates of synthesizers leave the pairs of the heads. -/

@[simp] theorem forEach_modSyn_pic (l : List Nat) (f : Nat → Syn → Syn) (s : State) :
    (forEach l (fun j => modSyn j (f j)) s).pic = s.pic :=
  foldl_keeps (fun t : State => t.pic = s.pic) (fun t j => modSyn j (f j) t) (fun _ _ ht => ht) l s rfl

theorem synPairOf_of_pic {s t : State} (h : t.pic = s.pic) (k : Nat) : synPairOf t k = synPairOf s k := by
  have hlocked : pairLocked t k = pairLocked s k := by simp only [pairLocked, hdAt, h]
  simp only [synPairOf, pairOf, hlocked]

/-! SYN_CONFIG. -/

/-- The settings that a SYN_CONFIG spells, at a REF_MODE (R93). -/
def synCfgOf (c : Cmd) (rm : Nat) : SynCfg :=
  { refMode := rm, dither := bit (c.u8 2) 0, lockWin := c.u8 3, lockCnt := c.u16 4, seed := c.un 8 3,
    sdiLead := if (c.u8 0 = 10 ∨ c.u8 0 = 11) ∧ c.u8 12 ≤ 7 then some (c.u8 12) else none }

/-- The shadow words of a synthesizer that is to run at a REF_MODE (R91). -/
def shadowAtRefMode (y : Syn) (rm : Nat) : Option SynWords :=
  if rm ≠ (y.shadow.getD y.words).refMode then some (wordsAtRefMode (y.shadow.getD y.words) rm) else y.shadow

/-- The shadows of a synthesizer and its pair as a SYN_CONFIG writes them (R93, R98). -/
def synShadowed (c : Cmd) (rm : Nat) (s : State) : State :=
  forEach (synPairOf s (c.u8 0)) (fun j => modSyn j (fun z =>
    { z with cfgShadow := some (synCfgOf c rm), shadow := shadowAtRefMode (synAt s (c.u8 0)) rm })) s

@[simp] theorem synShadowed_pic (c : Cmd) (rm : Nat) (s : State) : (synShadowed c rm s).pic = s.pic :=
  forEach_modSyn_pic _ _ s

/-- The shadows of SYN8 as a SYN_CONFIG writes them: its REF_MODE is fixed, and it has no lead (R90, R93). -/
def captureShadowed (c : Cmd) (s : State) : State :=
  modSyn 8 (fun z => { z with
    cfgShadow := some { refMode := 0, dither := bit (c.u8 2) 0, lockWin := c.u8 3, lockCnt := c.u16 4, seed := c.un 8 3,
                        sdiLead := none },
    shadow := shadowAtRefMode (synAt s 8) 0 }) s

theorem synShadowed_capture {c : Cmd} {s : State} (hk : c.u8 0 = 8) : synShadowed c 0 s = captureShadowed c s := by
  simp [synShadowed, captureShadowed, synCfgOf, hk, synPairOf, forEach]

/-- No check refuses a SYN_CONFIG. -/
structure SynConfigPasses (c : Cmd) (s : State) : Prop where
  length : 16 ≤ c.length
  dither : c.u8 2 ≤ 1
  zero6 : Zero c 6 2
  zero11 : Zero c 11 1
  zero13 : Zero c 13 3
  number : c.u8 0 ≤ 11
  refMode : c.u8 0 ≠ 8 → c.u8 1 ≤ 2
  lockWin : 1 ≤ c.u8 3
  lockCnt : 16 ≤ c.u16 4
  seed : 1 ≤ c.un 8 3
  lead : c.u8 0 = 10 ∨ c.u8 0 = 11 → c.u8 12 ≤ 7 ∨ c.u8 12 = 255
  lower : c.u8 0 < 8 → isUpperOfPair s (c.u8 0) = false
  system : c.u8 0 = 9 → c.u8 1 = (synAt s (c.u8 0)).words.refMode
  sdi : c.u8 0 = 10 ∨ c.u8 0 = 11 → c.u8 1 = (synAt s (c.u8 0)).words.refMode ∨ synInUse s (c.u8 0) = false
  free : synHeld s (c.u8 0) = false

/-- For SYN8 the checks on REF_MODE, leads and pairs have nothing to refuse (R90, R98). -/
theorem synConfigPasses_capture {c : Cmd} {s : State} (hlen : 16 ≤ c.length) (hk : c.u8 0 = 8) (hdither : c.u8 2 ≤ 1)
    (hzero : Zero c 6 2 ∧ Zero c 11 1 ∧ Zero c 13 3) (hloop : 1 ≤ c.u8 3 ∧ 16 ≤ c.u16 4 ∧ 1 ≤ c.un 8 3)
    (hfree : synHeld s 8 = false) : SynConfigPasses c s := by
  obtain ⟨h6, h11, h13⟩ := hzero
  obtain ⟨hwin, hcnt, hseed⟩ := hloop
  exact ⟨hlen, hdither, h6, h11, h13, by omega, fun h8 => absurd hk h8, hwin, hcnt, hseed, by omega, by omega, by omega, by omega,
    hk ▸ hfree⟩

/-- A SYN_CONFIG that no check refuses writes the shadows; they wait for the update point of an output that runs, apply at once,
or are kept by a synthesizer that is off (R93, R98, R104). -/
theorem cmdSynConfig_passes {c : Cmd} {s : State} {k rm : Nat} (hk : c.u8 0 = k) (hrm : (if k = 8 then 0 else c.u8 1) = rm)
    (h : SynConfigPasses c s) :
    cmdSynConfig c s =
      if synInUse s k ∧ k ≠ 8 then .wait (.synUpdate k) (synShadowed c rm s)
      else if k = 8 ∧ s.time.cap.mode.drive then .wait (.synUpdate k) (synShadowed c rm s)
      else done (if (synAt s k).state = .off then forEach (synPairOf s k) (fun j => modSyn j synStored) (synShadowed c rm s)
        else synUpdatePoint k (synShadowed c rm s)) := by
  subst hk hrm
  obtain ⟨hlen, hdither, h6, h11, h13, hnum, href, hwin, hcnt, hseed, hlead, hlower, hsystem, hsdi, hfree⟩ := h
  unfold cmdSynConfig
  rw [checks_pass]
  · simp only [synShadowed, synCfgOf, shadowAtRefMode, Bool.or_eq_true, decide_eq_true_eq]
  simp only [List.forall_mem_cons, tooShort, rsvIf, bad, stateIf, busyIf, rsv_pass c 6 2 h6, rsv_pass c 11 1 h11,
    rsv_pass c 13 3 h13, hfree, List.not_mem_nil, false_implies, implies_true, and_true, true_and]
  simp only [Bool.and_eq_false_imp, Bool.and_eq_true, Bool.or_eq_true, decide_eq_true_eq, decide_eq_false_iff_not, ne_eq,
    Decidable.not_not]
  refine ⟨by omega, by omega, by omega, fun hk => by have := href hk; omega, by omega, by omega, by omega, ?_, hlower, ?_, ?_⟩
  · rintro ⟨hk, hbig⟩
    rcases hlead hk with hle | hauto
    · omega
    · exact hauto
  · intro hk
    rw [if_neg (by omega)]
    exact hsystem hk
  · rintro ⟨hk, hchanged⟩
    rw [if_neg (by omega)] at hchanged
    exact (hsdi hk).resolve_left hchanged

theorem lengthNeed_synConfig (e : CmdEntry) (s : State) : lengthNeed (cmdOf 0x0209 e s) = 16 := by
  simp [lengthNeed, opcodeLengths, cmdOf]

section
variable {e : CmdEntry} {s : State} (hserved : Served 0x0209 e s)
include hserved

theorem synConfig_length : 16 ≤ (cmdOf 0x0209 e s).length := lengthNeed_synConfig e s ▸ served_length hserved

theorem exec_synConfig_running (h : okSynConfigRunning (cmdOf 0x0209 e s) (entered 0x0209 e s)) :
    exec (.synConfig e) s = .next (waiting 0x0209 e s (.synUpdate ((cmdOf 0x0209 e s).u8 0))
      (synShadowed (cmdOf 0x0209 e s) ((cmdOf 0x0209 e s).u8 1) (entered 0x0209 e s))) := by
  obtain ⟨hdither, h6, h11, h13, hnum, hk, href, hwin, hcnt, hseed, hlead, hlower, hsystem, hfree, hsdi, huse⟩ := h
  refine exec_wait rfl hserved ((cmdSynConfig_passes rfl (if_neg hk) ?_).trans (if_pos ⟨huse, hk⟩))
  exact ⟨synConfig_length hserved, hdither, h6, h11, h13, hnum, fun _ => href, hwin, hcnt, hseed, hlead, hlower, hsystem,
    fun hk => .inl (hsdi hk), hfree⟩

theorem exec_synConfig_idle (h : okSynConfigIdle (cmdOf 0x0209 e s) (entered 0x0209 e s)) :
    exec (.synConfig e) s = .next (answered 0x0209 e s [] (synUpdatePoint ((cmdOf 0x0209 e s).u8 0)
      (synShadowed (cmdOf 0x0209 e s) ((cmdOf 0x0209 e s).u8 1) (entered 0x0209 e s)))) := by
  obtain ⟨hdither, h6, h11, h13, hnum, hk, href, hwin, hcnt, hseed, hlead, hlower, hsystem, hfree, hidle, hon⟩ := h
  refine exec_done rfl hserved ((cmdSynConfig_passes rfl (if_neg hk) ?_).trans ?_)
  · exact ⟨synConfig_length hserved, hdither, h6, h11, h13, hnum, fun _ => href, hwin, hcnt, hseed, hlead, hlower, hsystem,
      fun _ => .inr hidle, hfree⟩
  · rw [hidle, if_neg (by simp), if_neg (by simp [hk]), if_neg hon]

theorem exec_synConfig_off (h : okSynConfigOff (cmdOf 0x0209 e s) (entered 0x0209 e s)) :
    let k := (cmdOf 0x0209 e s).u8 0
    let t := synShadowed (cmdOf 0x0209 e s) ((cmdOf 0x0209 e s).u8 1) (entered 0x0209 e s)
    exec (.synConfig e) s = .next (answered 0x0209 e s [] (forEach (synPairOf t k) (fun j => modSyn j synStored) t)) := by
  obtain ⟨hdither, h6, h11, h13, hnum, hk, href, hwin, hcnt, hseed, hlead, hlower, hsystem, hfree, hidle, hoff⟩ := h
  refine exec_done rfl hserved ((cmdSynConfig_passes rfl (if_neg hk) ?_).trans ?_)
  · exact ⟨synConfig_length hserved, hdither, h6, h11, h13, hnum, fun _ => href, hwin, hcnt, hseed, hlead, hlower, hsystem,
      fun _ => .inr hidle, hfree⟩
  · rw [hidle, if_neg (by simp), if_neg (by simp [hk]), if_pos hoff]
    rw [synPairOf_of_pic (synShadowed_pic _ _ _)]

/-- In DRIVE mode the output of SYN8 runs (R89). -/
theorem exec_synConfig_drive (h : okSynConfigDrive (cmdOf 0x0209 e s) (entered 0x0209 e s)) :
    exec (.synConfig e) s = .next (waiting 0x0209 e s (.synUpdate 8)
      (captureShadowed (cmdOf 0x0209 e s) (entered 0x0209 e s))) := by
  obtain ⟨hdither, h6, h11, h13, hk, hwin, hcnt, hseed, hfree, hdrive⟩ := h
  have hpasses := synConfigPasses_capture (synConfig_length hserved) hk hdither ⟨h6, h11, h13⟩ ⟨hwin, hcnt, hseed⟩ hfree
  refine exec_wait rfl hserved ((cmdSynConfig_passes hk (if_pos rfl) hpasses).trans ?_)
  rw [if_neg (by simp), if_pos ⟨rfl, hdrive⟩, synShadowed_capture hk]

theorem exec_synConfig_follow (h : okSynConfigFollow (cmdOf 0x0209 e s) (entered 0x0209 e s)) :
    exec (.synConfig e) s = .next (answered 0x0209 e s [] (synUpdatePoint 8
      (captureShadowed (cmdOf 0x0209 e s) (entered 0x0209 e s)))) := by
  obtain ⟨hdither, h6, h11, h13, hk, hwin, hcnt, hseed, hfree, hfollow, hon⟩ := h
  have hpasses := synConfigPasses_capture (synConfig_length hserved) hk hdither ⟨h6, h11, h13⟩ ⟨hwin, hcnt, hseed⟩ hfree
  refine exec_done rfl hserved ((cmdSynConfig_passes hk (if_pos rfl) hpasses).trans ?_)
  rw [if_neg (by simp), if_neg (by simp [hfollow]), if_neg hon, synShadowed_capture hk]

end

/-! SYN_CACHE_FILL. -/

/-- No check refuses a SYN_CACHE_FILL. -/
structure CacheFillPasses (c : Cmd) (s : State) : Prop where
  length : 4 + 4 * c.u8 1 ≤ c.length
  positive : 1 ≤ c.u8 1
  count : c.u8 1 ≤ 16
  zero2 : Zero c 2 2
  number : c.u8 0 ≤ 11
  not_capture : c.u8 0 ≠ 8
  not_system : c.u8 0 ≠ 9
  targets : ∀ i < c.u8 1, 5000 ≤ c.u32 (4 + 4 * i) ∧ c.u32 (4 + 4 * i) ≤ 10000
  idle : synInUse s (c.u8 0) = false
  free : synHeld s (c.u8 0) = false

/-- A SYN_CACHE_FILL that no check refuses runs the search of its first target in the slice that takes it (R106). -/
theorem cmdSynCacheFill_passes {c : Cmd} {s : State} (h : CacheFillPasses c s) :
    cmdSynCacheFill c s =
      .accept (.cacheFill (c.u8 0) ((List.range (c.u8 1)).map (fun i => c.u32 (4 + 4 * i))) 1)
        (if c.u8 1 = 1 then some (.ok, 0, []) else none) (cacheSearch (c.u8 0) (c.u32 4) s) := by
  obtain ⟨hlen, hpos, hcount, h2, hnum, h8, h9, htargets, hidle, hfree⟩ := h
  have hfirst : ((List.range (c.u8 1)).map (fun i => c.u32 (4 + 4 * i))).getD 0 0 = c.u32 4 := by
    simp [List.getD_eq_getElem?_getD, List.getElem?_range hpos]
  unfold cmdSynCacheFill
  rw [checks_pass]
  · rw [hfirst]
  simp only [List.forall_mem_cons, tooShort, bad, stateIf, busyIf, rsv_pass c 2 2 h2, hidle, hfree, List.not_mem_nil, false_implies,
    implies_true, and_true, true_and, List.any_map, List.any_eq_false, List.mem_range, Function.comp_apply, Bool.or_eq_true,
    Bool.or_eq_false_iff, decide_eq_true_eq, decide_eq_false_iff_not]
  exact ⟨by omega, by omega, by omega, by omega, fun i hi => by have := htargets i hi; omega⟩

theorem lengthNeed_synCacheFill (e : CmdEntry) (s : State) :
    lengthNeed (cmdOf 0x020A e s) = 4 + 4 * (cmdOf 0x020A e s).u8 1 := by
  simp [lengthNeed, opcodeLengths, cmdOf]

theorem exec_synCacheFill_goesOn {e : CmdEntry} {s : State} (hserved : Served 0x020A e s)
    (h : okSynCacheFill (cmdOf 0x020A e s) (entered 0x020A e s)) :
    exec (.synCacheFill e) s = .next (accepted 0x020A e s (.cacheFill ((cmdOf 0x020A e s).u8 0)
      ((List.range ((cmdOf 0x020A e s).u8 1)).map (fun i => (cmdOf 0x020A e s).u32 (4 + 4 * i))) 1)
      (cacheSearch ((cmdOf 0x020A e s).u8 0) ((cmdOf 0x020A e s).u32 4) (entered 0x020A e s))) := by
  obtain ⟨hmany, hcount, h2, hnum, h8, h9, htargets, hidle, hfree⟩ := h
  have hlen := lengthNeed_synCacheFill e s ▸ served_length hserved
  refine exec_accept rfl hserved ((cmdSynCacheFill_passes ?_).trans ?_)
  · exact ⟨hlen, by omega, by omega, h2, hnum, h8, h9, htargets, hidle, hfree⟩
  · rw [if_neg (by omega)]

theorem exec_synCacheFill_ends {e : CmdEntry} {s : State} (hserved : Served 0x020A e s)
    (h : okSynCacheFillOne (cmdOf 0x020A e s) (entered 0x020A e s)) :
    exec (.synCacheFill e) s = .next (acceptedAndEnded 0x020A e s .ok 0 []
      (cacheSearch ((cmdOf 0x020A e s).u8 0) ((cmdOf 0x020A e s).u32 4) (entered 0x020A e s))) := by
  obtain ⟨hone, h2, hnum, h8, h9, hlow, hhigh, hidle, hfree⟩ := h
  have hlen := lengthNeed_synCacheFill e s ▸ served_length hserved
  have htargets : ∀ i < (cmdOf 0x020A e s).u8 1,
      5000 ≤ (cmdOf 0x020A e s).u32 (4 + 4 * i) ∧ (cmdOf 0x020A e s).u32 (4 + 4 * i) ≤ 10000 := by
    intro i hi
    obtain rfl : i = 0 := by omega
    exact ⟨hlow, hhigh⟩
  have hrun := cmdSynCacheFill_passes ⟨hlen, by omega, by omega, h2, hnum, h8, h9, htargets, hidle, hfree⟩
  rw [if_pos hone] at hrun
  exact exec_acceptEnd rfl hserved hrun

/-! The capture ramp. -/

theorem lengthNeed_captureRampLoad (e : CmdEntry) (s : State) :
    lengthNeed (cmdOf 0x020B e s) = 4 + 8 * (cmdOf 0x020B e s).u8 0 := by
  simp [lengthNeed, opcodeLengths, cmdOf]

theorem lengthNeed_captureRampStart (e : CmdEntry) (s : State) : lengthNeed (cmdOf 0x020C e s) = 16 := by
  simp [lengthNeed, opcodeLengths, cmdOf]

/-- The profile that a CAPTURE_RAMP_LOAD spells (R108). -/
def rampProfileOf (c : Cmd) : List RampSeg :=
  (List.range (c.u8 0)).map (fun i => { endRate := c.u32 (4 + 8 * i), duration := c.u32 (8 + 8 * i) })

theorem cmdCaptureRampLoad_stores {c : Cmd} {s : State} (hlen : 4 + 8 * c.u8 0 ≤ c.length) (h : okCaptureRampLoad c s) :
    cmdCaptureRampLoad c s = done { s with time := { s.time with ramp := { s.time.ramp with profile := rampProfileOf c } } } := by
  obtain ⟨hpos, hcount, h1, hsegs, hrun⟩ := h
  unfold cmdCaptureRampLoad
  rw [checks_pass]
  · rfl
  simp only [List.forall_mem_cons, tooShort, bad, stateIf, rsv_pass c 1 3 h1, hrun, Option.isSome_none, List.not_mem_nil,
    false_implies, implies_true, and_true, true_and, List.any_map, List.any_eq_false, List.mem_range, Function.comp_apply,
    Bool.or_eq_true, Bool.or_eq_false_iff, decide_eq_true_eq, decide_eq_false_iff_not]
  exact ⟨by omega, by omega, by omega, fun i hi => by have := hsegs i hi; omega⟩

theorem cmdCaptureRampStart_waits {c : Cmd} {s : State} (hlen : 16 ≤ c.length) (h : okCaptureRampStart c s) :
    cmdCaptureRampStart c s = .wait .rampStart { s with time := { s.time with ramp := { s.time.ramp with
      startFrame := some (if c.u64 8 = 0 then s.time.cap.frame + 1 else c.u64 8) } } } := by
  obtain ⟨h1, hstart, hframe, hdrive, hprofile, hends, hrun, hnone⟩ := h
  unfold cmdCaptureRampStart
  rw [checks_pass]
  · rw [if_pos hstart]
  have hfuture : c.u64 8 ≠ 0 → ¬ c.u64 8 ≤ s.time.cap.frame := by omega
  simpa [tooShort, bad, stateIf, rsv_pass c 1 7 h1, hstart, hdrive, hends, hrun, hnone, hprofile, hlen] using hfuture

theorem cmdCaptureRampStart_freezes {c : Cmd} {s : State} {r : RampRun} (hlen : 16 ≤ c.length) (h : okCaptureRampFreeze c s r) :
    cmdCaptureRampStart c s = done (endRamp (rampRate r) s) := by
  obtain ⟨h1, hfreeze, hrun⟩ := h
  unfold cmdCaptureRampStart
  rw [checks_pass]
  · simp [hfreeze, hrun]
  simp [tooShort, bad, stateIf, rsv_pass c 1 7 h1, hfreeze, hrun, hlen]

/-- Settles O15: each clause by the lemma of its form. -/
theorem synthCommands : Obligations.SynthCommands := by
  unfold Obligations.SynthCommands
  refine ⟨?running, ?idle, ?off, ?drive, ?follow, ?fill, ?fillOne, ?load, ?start, ?freeze⟩
  case running => exact fun e s hserved h => exec_synConfig_running hserved h
  case idle => exact fun e s hserved h => exec_synConfig_idle hserved h
  case off => exact fun e s hserved h => exec_synConfig_off hserved h
  case drive => exact fun e s hserved h => exec_synConfig_drive hserved h
  case follow => exact fun e s hserved h => exec_synConfig_follow hserved h
  case fill => exact fun e s hserved h => exec_synCacheFill_goesOn hserved h
  case fillOne => exact fun e s hserved h => exec_synCacheFill_ends hserved h
  case load =>
    intro e s hserved c t h
    have hlen := lengthNeed_captureRampLoad e s ▸ served_length hserved
    exact exec_done rfl hserved (cmdCaptureRampLoad_stores hlen h)
  case start =>
    intro e s hserved c t h
    have hlen := lengthNeed_captureRampStart e s ▸ served_length hserved
    exact exec_wait rfl hserved (cmdCaptureRampStart_waits hlen h)
  case freeze =>
    intro e s r hserved c t h
    have hlen := lengthNeed_captureRampStart e s ▸ served_length hserved
    exact exec_done rfl hserved (cmdCaptureRampStart_freezes hlen h)

end Sys2Proof.Machine
end

section
/-! PROOFS. The events of the synthesizers (R93 to R107): what they keep, and each row by its condition. -/
namespace Sys2Proof.Machine
open Sys2Proof

/-! The Safelight domain and the waiting commands are kept. -/

@[simp] theorem chargeFrame_kept (o kind : Nat) (s : State) : kept (chargeFrame o kind s) = kept s := by
  simp [chargeFrame]

@[simp] theorem synLossFault_kept (k : Nat) (s : State) : kept (synLossFault k s) = kept s := by
  simp [synLossFault]

@[simp] theorem synFailedFault_kept (k : Nat) (s : State) : kept (synFailedFault k s) = kept s := by
  simp [synFailedFault]

@[simp] theorem refFaultRecord_kept (s : State) : kept (refFaultRecord s) = kept s := by
  simp [refFaultRecord]

@[simp] theorem synLoseLock_kept (k : Nat) (s : State) : kept (synLoseLock k s) = kept s := by
  simp [synLoseLock]

@[simp] theorem openGates_kept (k : Nat) (s : State) : kept (openGates k s) = kept s := by
  simp [openGates]

@[simp] theorem referenceFault_kept (s : State) : kept (referenceFault s) = kept s := by
  simp [referenceFault]

@[simp] theorem sdiClock_kept (n : Nat) (s : State) : kept (sdiClock n s) = kept s := by
  simp [sdiClock]

theorem lanesFollow_kept {f : State → State} {s : State} (h : kept (f s) = kept s) : kept (lanesFollow f s) = kept s := by
  simp [lanesFollow, h]

@[simp] theorem setOffset_kept (k : Nat) (uppb : Int) (s : State) : kept (setOffset k uppb s) = kept s := by
  simp [setOffset]

@[simp] theorem panelFollow_kept (h : Nat) (s : State) : kept (panelFollow h s) = kept s := by
  simp [panelFollow]

/-- A row that the SDI lanes follow answers with its effect and what the lanes make of it (R96, R387). -/
theorem lanesFollow_next {f : State → State} {s t : State} (h : f s = t) (hk : kept t = kept s) :
    actOutside (lanesFollow f) s = .next (lanesFollow (fun _ => t) s) := by
  have hfollow : lanesFollow f s = lanesFollow (fun _ => t) s := by simp only [lanesFollow, h]
  exact actOutside_kept hfollow (lanesFollow_kept hk)

/-! A synthesizer after a change. -/

@[simp] theorem synAt_modSyn_same (k : Nat) (f : Syn → Syn) (s : State) : synAt (modSyn k f s) k = f (synAt s k) :=
  tabGet_tabMod_same _ k f

theorem synAt_modSyn_other {j k : Nat} (f : Syn → Syn) (s : State) (h : j ≠ k) : synAt (modSyn k f s) j = synAt s j :=
  tabGet_tabMod_other _ f h

theorem modSyn_congr {k : Nat} {f g : Syn → Syn} {s : State} (h : f (synAt s k) = g (synAt s k)) : modSyn k f s = modSyn k g s := by
  have htab : tabMod s.time.syns k f = tabMod s.time.syns k g := congrArg (tabSet s.time.syns k) h
  simp only [modSyn, htab]

theorem self_mem_synPairOf (s : State) (k : Nat) : k ∈ synPairOf s k := by
  unfold synPairOf pairOf
  split
  · split
    · have hhalf : k = k / 2 * 2 ∨ k = k / 2 * 2 + 1 := by omega
      simpa using hhalf
    · simp
  · simp

/-! What holding the rasters leaves (R9). -/

/-- Holding the rasters changes places of heads, of the capture raster and of dither LFSRs only. -/
theorem holdRasters_keeps {α : Type} {p : State → α} (s : State)
    (hsyn : ∀ k f t, (∀ y, (f y).cfg = y.cfg) → p (modSyn k f t) = p t) (hhead : ∀ h f t, p (modHd h f t) = p t)
    (hcap : ∀ f t, p (modCap f t) = p t) : p (holdRasters s) = p s := by
  have hsyns (c : Nat → Nat) (n : Nat) (t : State) : p (forUpTo 12 (fun k t => modSyn k (fun y =>
      if y.cfg.dither then { y with cycles := c k, seedAt := n } else y) t) t) = p t :=
    foldl_keeps (fun u => p u = p t) _ (fun u k hu => (hsyn k _ u (fun y => by split <;> rfl)).trans hu) _ t rfl
  have hheads (f : Nat → Head → Head) (t : State) :
      p (forUpTo 8 (fun h t => if headEnabled s h then modHd h (f h) t else t) t) = p t := by
    refine foldl_keeps (fun u => p u = p t) _ (fun u h hu => ?_) _ t rfl
    show p (if headEnabled s h then modHd h (f h) u else u) = p t
    split
    · exact (hhead h _ u).trans hu
    · exact hu
  have hrun := (hheads (fun h x => { x with posBase := headPos s h, posAt := s.time.tb.now }) _).trans
    (hsyns (synCycles s) s.time.tb.now s)
  unfold holdRasters
  split
  · exact (hcap (fun c => { c with posBase := capPos s, posAt := s.time.tb.now }) _).trans hrun
  · exact hrun

@[simp] theorem holdRasters_tb (s : State) : (holdRasters s).time.tb = s.time.tb :=
  holdRasters_keeps (p := fun t => t.time.tb) s (fun _ _ _ _ => rfl) (fun _ _ _ => rfl) (fun _ _ => rfl)

@[simp] theorem holdRasters_free (s : State) : (holdRasters s).free = s.free :=
  holdRasters_keeps (p := State.free) s (fun _ _ _ _ => rfl) (fun _ _ _ => rfl) (fun _ _ => rfl)

/-- The settings of each synthesizer. -/
def synCfgs (s : State) (k : Nat) : SynCfg := (synAt s k).cfg

theorem synCfgs_modSyn {k : Nat} {f : Syn → Syn} (h : ∀ y, (f y).cfg = y.cfg) (s : State) :
    synCfgs (modSyn k f s) = synCfgs s := by
  funext j
  by_cases hj : j = k
  · subst hj
    simp [synCfgs, h]
  · simp [synCfgs, synAt_modSyn_other f s hj]

theorem synCfgs_holdRasters (s : State) : synCfgs (holdRasters s) = synCfgs s :=
  holdRasters_keeps s (fun _ _ t h => synCfgs_modSyn h t) (fun _ _ _ => rfl) (fun _ _ => rfl)

theorem synCfgs_setOffset (k : Nat) (uppb : Int) (s : State) : synCfgs (setOffset k uppb s) = synCfgs s := by
  refine synCfgs_modSyn ?_ s
  exact fun _ => rfl

/-! Loss of lock and failed attempts (R97, R105, R107). -/

theorem exec_synLossOfLock {syn : Fin 12} {s : State} (h : okSynLossOfLock syn s) :
    exec (.synLossOfLock syn) s = .next (lanesFollow (fun _ => synLoseLock syn s) s) :=
  lanesFollow_next (f := synLossOfLock syn.val) (if_pos h) (synLoseLock_kept _ s)

theorem exec_synLockTimeout {syn : Fin 12} {s : State} (h : okSynLockTimeout syn s) :
    exec (.synLockTimeout syn) s = .next (lanesFollow (fun _ => synLoseLock syn s) s) :=
  lanesFollow_next (f := synLockTimeout syn.val) (if_pos h) (synLoseLock_kept _ s)

theorem exec_synRelockAttemptEnd_again {syn : Fin 12} {s : State} (h : okSynRelockAgain syn s) :
    exec (.synRelockAttemptEnd syn) s = .next (modSyn syn (fun y => { y with attempts := y.attempts + 1 }) s) := by
  obtain ⟨hacq, hpos, hfew⟩ := h
  refine actOutside_kept (f := synRelockAttemptEnd syn.val) ?_ (modSyn_kept _ _ s)
  simp [synRelockAttemptEnd, hacq, hpos, hfew]

theorem exec_synRelockAttemptEnd_failed {syn : Fin 12} {s : State} (h : okSynRelockFailed syn s) :
    exec (.synRelockAttemptEnd syn) s =
      .next (synFailedFault syn (modSyn syn (fun y => { y with state := .failed, attempts := 0, searching := false }) s)) := by
  obtain ⟨hacq, hlast⟩ := h
  refine actOutside_kept (f := synRelockAttemptEnd syn.val) ?_ (by simp)
  have hpos : 0 < (synAt s syn).attempts := by omega
  have hnone : ¬ (synAt s syn).attempts < 3 := by omega
  simp [synRelockAttemptEnd, hacq, hpos, hnone]

theorem exec_cachedBandTimeout {syn : Fin 12} {s : State} (h : okCachedBandTimeout syn s) :
    exec (.cachedBandTimeout syn) s = .next (modSyn syn (fun y => { y with
      cacheHit := false, searching := true,
      cache := y.cache.filter (fun e => !(decide (e.refMode = (synAt s syn).words.refMode) &&
        decide (e.vcoMhz = vcoMhz syn (synAt s syn).words))) }) s) := by
  obtain ⟨hacq, hhit, hsearch⟩ := h
  refine actOutside_kept (f := cachedBandTimeout syn.val) ?_ (modSyn_kept _ _ s)
  have hdue : (synAt s syn).state = .acquiring ∧ (synAt s syn).cacheHit ∧ !(synAt s syn).searching :=
    ⟨hacq, hhit, by simp [hsearch]⟩
  exact (if_pos hdue).trans (modSyn_congr rfl)

/-! Lock (R94 to R98, R105). -/

/-- Every synthesizer that moves with `k` has declared lock, and none has a reference fault (R95, R98, R100). -/
def GatesMayOpen (k : Nat) (s : State) : Prop := ∀ j ∈ synPairOf s k, (synAt s j).state = .locked ∧ (synAt s j).refFault = false

/-- The outputs of synthesizer `k` and its pair go on; with SYN9 the timebase leaves the fabric clock (R95, R105). -/
def gatesOpened (k : Nat) (s : State) : State :=
  let t := forEach (synPairOf s k) (fun j => modSyn j (fun y => { y with gated := false })) (holdRasters s)
  if k = 9 then { t with time := { t.time with tb := { t.time.tb with onFabric := false } } } else t

theorem gatesMayOpen_iff (k : Nat) (s : State) :
    GatesMayOpen k s ↔ (synPairOf s k).all (fun j => decide ((synAt s j).state = .locked) && !(synAt s j).refFault) = true := by
  simp [GatesMayOpen]

theorem openGates_opens {k : Nat} {s : State} (h : GatesMayOpen k s) : openGates k s = gatesOpened k s :=
  if_pos ((gatesMayOpen_iff k s).1 h)

theorem openGates_waits {k : Nat} {s : State} (h : ¬ GatesMayOpen k s) : openGates k s = s :=
  if_neg (mt (gatesMayOpen_iff k s).2 h)

/-- Synthesizer `k` has declared lock with what its search found, at the temperature measured then (R94, R106). -/
def lockDeclared (k band fine us : Nat) (s : State) : State :=
  modSyn k (synLockedOf k s.time.tb.now (Config.freeTemp s.free).toInt band fine us) (dieMeasured s)

theorem synLockedOf_state (k now : Nat) (temp : Int) (band fine us : Nat) (y : Syn) :
    (synLockedOf k now temp band fine us y).state = .locked := rfl

theorem synLockedOf_refFault (k now : Nat) (temp : Int) (band fine us : Nat) (y : Syn) :
    (synLockedOf k now temp band fine us y).refFault = y.refFault := by
  simp only [synLockedOf]
  split <;> rfl

/-- The gates may open once the synthesizer has no reference fault and its partner is as ready as it (R98). -/
theorem gatesMayOpen_lockDeclared (k band fine us : Nat) (s : State) :
    GatesMayOpen k (lockDeclared k band fine us s) ↔ (synAt s k).refFault = false ∧
      ∀ j ∈ synPairOf s k, j ≠ k → (synAt s j).state = .locked ∧ (synAt s j).refFault = false := by
  have hpair : synPairOf (lockDeclared k band fine us s) k = synPairOf s k := synPairOf_of_pic rfl k
  have hself : synAt (lockDeclared k band fine us s) k =
      synLockedOf k s.time.tb.now (Config.freeTemp s.free).toInt band fine us (synAt s k) :=
    synAt_modSyn_same k _ _
  have hother (j : Nat) (hj : j ≠ k) : synAt (lockDeclared k band fine us s) j = synAt s j := synAt_modSyn_other _ _ hj
  rw [GatesMayOpen, hpair]
  constructor
  · intro h
    have hk := (h k (self_mem_synPairOf s k)).2
    rw [hself, synLockedOf_refFault] at hk
    exact ⟨hk, fun j hj hne => hother j hne ▸ h j hj⟩
  · rintro ⟨hfault, hpartner⟩ j hj
    by_cases hne : j = k
    · subst hne
      rw [hself, synLockedOf_refFault]
      exact ⟨synLockedOf_state _ _ _ _ _ _ _, hfault⟩
    · rw [hother j hne]
      exact hpartner j hj hne

theorem exec_synLockDeclared {syn : Fin 12} {band : Fin 64} {fine us : Nat} {s : State} (h : (synAt s syn).state = .acquiring) :
    exec (.synLockDeclared syn band fine us) s = .next (lanesFollow (fun _ =>
      finishWait (.faultRecover syn) .ok 0 [] (openGates syn (lockDeclared syn band fine us s))) s) :=
  lanesFollow_next (f := synLockDeclared syn.val band.val fine us) (if_pos h) (by simp [lockDeclared])

theorem exec_synLockDeclared_opens {syn : Fin 12} {band : Fin 64} {fine us : Nat} {s : State}
    (h : okSynLockDeclared syn band fine us s) :
    exec (.synLockDeclared syn band fine us) s = .next (lanesFollow (fun _ =>
      finishWait (.faultRecover syn) .ok 0 [] (gatesOpened syn (lockDeclared syn band fine us s))) s) := by
  obtain ⟨hacq, hready⟩ := h
  rw [exec_synLockDeclared hacq, openGates_opens ((gatesMayOpen_lockDeclared _ _ _ _ s).2 hready)]

theorem exec_synLockDeclared_waits {syn : Fin 12} {band : Fin 64} {fine us : Nat} {s : State}
    (h : okSynLockWaits syn band fine us s) :
    exec (.synLockDeclared syn band fine us) s = .next (lanesFollow (fun _ =>
      finishWait (.faultRecover syn) .ok 0 [] (lockDeclared syn band fine us s)) s) := by
  obtain ⟨hacq, hwait⟩ := h
  rw [exec_synLockDeclared hacq, openGates_waits]
  rw [gatesMayOpen_lockDeclared]
  rintro ⟨hfault, hpartner⟩
  rcases hwait with hf | hp
  · simp [hf] at hfault
  · exact hp hpartner

/-! Update points (R93, R98, R104). -/

/-- The state in which the synthesizers of an update point take their shadows: the rasters held, the die's temperature measured. -/
def updateBegun (s : State) : State :=
  { holdRasters s with
    time := { (holdRasters s).time with dieTemp := (Config.freeTemp s.free).toInt }, free := s.free + 1 }

theorem dieMeasured_holdRasters (s : State) : dieMeasured (holdRasters s) = updateBegun s := by
  simp only [dieMeasured, holdRasters_free, updateBegun]

@[simp] theorem updateBegun_now (s : State) : (updateBegun s).time.tb.now = s.time.tb.now :=
  congrArg Timebase.now (holdRasters_tb s)

@[simp] theorem updateBegun_dieTemp (s : State) : (updateBegun s).time.dieTemp = (Config.freeTemp s.free).toInt := rfl

/-- Synthesizer `k` takes its shadows at the instant and the temperature of an update point of `s`. -/
def shadowsTaken (k : Nat) (s : State) : State → State := modSyn k (synUpdated k s.time.tb.now (Config.freeTemp s.free).toInt)

theorem synUpdatePoint_alone {k : Nat} {s : State} (h : synPairOf s k = [k]) :
    synUpdatePoint k s = finishWait (.synUpdate k) .ok 0 [] (withdrawHeld (shadowsTaken k s (updateBegun s))) := by
  simp only [synUpdatePoint, h, forEach, List.foldl_cons, List.foldl_nil, dieMeasured_holdRasters, updateBegun_now,
    updateBegun_dieTemp, shadowsTaken]

theorem synUpdatePoint_pair {k i j : Nat} {s : State} (h : synPairOf s k = [i, j]) :
    synUpdatePoint k s = finishWait (.synUpdate j) .ok 0 [] (finishWait (.synUpdate i) .ok 0 []
      (withdrawHeld (shadowsTaken j s (shadowsTaken i s (updateBegun s))))) := by
  have hnow (f : Syn → Syn) (t : State) : (modSyn i f t).time.tb.now = t.time.tb.now := rfl
  have htemp (f : Syn → Syn) (t : State) : (modSyn i f t).time.dieTemp = t.time.dieTemp := rfl
  simp only [synUpdatePoint, h, forEach, List.foldl_cons, List.foldl_nil, dieMeasured_holdRasters, hnow, htemp, updateBegun_now,
    updateBegun_dieTemp, shadowsTaken]

theorem exec_synUpdatePoint {syn : Fin 12} {s t : State} (h : synUpdatePoint syn s = t) :
    exec (.synUpdatePoint syn) s = .next (lanesFollow (fun _ => t) s) :=
  lanesFollow_next (f := synUpdatePoint syn.val) h (h ▸ synUpdatePoint_kept syn.val s)

/-! The tracking loop (R77, R101). -/

/-- The rasters are held, and the tracking loop of a head has taken its phase error and its new offset (R77, R101). -/
def headTracked (h : Nat) (e off : Int) (s : State) : State :=
  { holdRasters s with
    free := s.free + 1,
    time := { (holdRasters s).time with tb := { (holdRasters s).time.tb with
      heads := tabMod s.time.tb.heads h (fun x => { x with phaseErrNs := e, offsetUppb := off }) } } }

theorem synCfgs_headTracked (h : Nat) (e off : Int) (s : State) : synCfgs (headTracked h e off s) = synCfgs s := synCfgs_holdRasters s

@[simp] theorem headTracked_kept (h : Nat) (e off : Int) (s : State) : kept (headTracked h e off s) = kept s :=
  holdRasters_kept s

/-- The offset of SYN10 or SYN11: that of the head which leads it, or the timebase's own rate (R101). -/
def sdiOffset (k : Nat) (uppb : Int) (s : State) : Int :=
  match (synAt s k).cfg.sdiLead with
  | some l => (tabGet s.time.tb.heads l).offsetUppb
  | none => uppb

theorem sdiOffset_of_no_lead {k : Nat} {uppb : Int} {s : State} (h : (synCfgs s k).sdiLead = none) : sdiOffset k uppb s = uppb := by
  unfold sdiOffset
  rw [show (synAt s k).cfg.sdiLead = none from h]

theorem sdiOffsets_of_no_lead {uppb : Int} {s : State} (h10 : (synCfgs s 10).sdiLead = none) (h11 : (synCfgs s 11).sdiLead = none) :
    forEach [10, 11] (fun k t => setOffset k (sdiOffset k uppb t) t) s = setOffset 11 uppb (setOffset 10 uppb s) := by
  have h11' : (synCfgs (setOffset 10 uppb s) 11).sdiLead = none := by rw [synCfgs_setOffset, h11]
  simp only [forEach, List.foldl_cons, List.foldl_nil, sdiOffset_of_no_lead h10, sdiOffset_of_no_lead h11']

/-- The loop of a head that is in no locked pair sets its own offset; the SDI references without a lead follow the timebase. -/
theorem trackingUpdate_single {h : Fin 8} {err : Int} {s : State} (hok : okTrackingLoopUpdate h err s) :
    let e := headError s h err
    let off := trackedOffset (tabGet s.time.tb.heads h).offsetUppb
      ((s.time.tb.freqPpb + e.sign * (Config.freeTracking e s.free).natAbs) * 1000000) (slewLimits s h).1 (slewLimits s h).2
    trackingUpdate h err s = setOffset 11 (s.time.tb.freqPpb * 1000000) (setOffset 10 (s.time.tb.freqPpb * 1000000)
      (setOffset 8 (if s.time.cap.mode.drive = true then s.time.tb.freqPpb * 1000000 else 0)
        (setOffset h off (headTracked h e off s)))) := by
  obtain ⟨hsingle, hlead10, hlead11⟩ := hok
  intro e off
  have hpair : pairOf s h = [h.val] := by simp [pairOf, hsingle]
  have hsyn : synPairOf s h = [h.val] := by simp [synPairOf, hpair]
  have hlead {k : Nat} (hk : (synAt s k).cfg.sdiLead = none) :
      (synCfgs (setOffset 8 (if s.time.cap.mode.drive = true then s.time.tb.freqPpb * 1000000 else 0)
        (setOffset h off (headTracked h e off s))) k).sdiLead = none := by
    rw [synCfgs_setOffset, synCfgs_setOffset, synCfgs_headTracked]
    exact hk
  simp only [trackingUpdate, hpair, hsyn]
  exact sdiOffsets_of_no_lead (hlead hlead10) (hlead hlead11)

theorem exec_trackingLoopUpdate {h : Fin 8} {err : Int} {s t : State} (ht : trackingUpdate h err s = t) (hk : kept t = kept s) :
    exec (.trackingLoopUpdate h err) s = .next (panelFollow h t) :=
  actOutside_kept (f := fun u => panelFollow h (trackingUpdate h err u)) (congrArg (panelFollow h) ht)
    ((panelFollow_kept _ t).trans hk)

end Sys2Proof.Machine
end

section
/-! PROOFS. The events of the event scheduler (R118 to R134), and the statement about them and the synthesizers. -/
namespace Sys2Proof.Machine
open Sys2Proof

/-! Tables written twice under one number. -/

theorem tabDrop_tabDrop {α : Type} (t : Tab α) (k : Nat) : tabDrop (tabDrop t k) k = tabDrop t k := by
  induction t with
  | nil => rfl
  | cons e t ih =>
    by_cases h : e.1 = k
    · simp [tabDrop, h, ih]
    · simp [tabDrop, h, ih]

theorem tabDrop_tabInsert {α : Type} (t : Tab α) (k : Nat) (v : α) : tabDrop (tabInsert k v t) k = tabDrop t k := by
  induction t with
  | nil => simp [tabInsert, tabDrop]
  | cons e t ih =>
    simp only [tabInsert]
    split
    · simp [tabDrop]
    · simp [tabDrop, ih]

/-- Of two writes under one number the later stands. -/
theorem tabSet_tabSet {α : Type} [Inhabited α] [DecidableEq α] (t : Tab α) (k : Nat) (v w : α) :
    tabSet (tabSet t k v) k w = tabSet t k w := by
  have hdrop : tabDrop (tabSet t k v) k = tabDrop t k := by
    unfold tabSet
    split
    · exact tabDrop_tabDrop t k
    · rw [tabDrop_tabInsert, tabDrop_tabDrop]
  rw [tabSet, hdrop, tabSet]

/-- A change that finds nothing to change leaves the table as the change before it did. -/
theorem tabMod_tabMod_fixed {α : Type} [Inhabited α] [DecidableEq α] {t : Tab α} {k : Nat} {f g : α → α}
    (h : g (f (tabGet t k)) = f (tabGet t k)) : tabMod (tabMod t k f) k g = tabMod t k f := by
  rw [tabMod, tabGet_tabMod_same, h, tabMod, tabSet_tabSet]

/-! The Safelight domain and the waiting commands are kept. -/

@[simp] theorem suppress_kept (n : Nat) (s : State) : kept (suppress n s) = kept s := by
  simp [suppress]

@[simp] theorem driveEdge_kept (n pin : Nat) (op : EdgeOp) (at_ : Nat) (s : State) : kept (driveEdge n pin op at_ s) = kept s := by
  simp [driveEdge]

/-! Arming (R118, R126 to R128, R134). -/

/-- The next occurrence of slot `n`, armed for the instant `t` (R126, R128). -/
def armedFor (s : State) (n t : Nat) (x : Slot) : ArmedOcc :=
  let k := (slotAt s n).content
  { frame := x.occFrame, instant := t,
    stop := (if bit k.flags 2 then posInstant s k (slotAt s n).occFrame (posLine k.stop) k.stop else none).getD 0,
    late := decide (t < s.time.tb.now + (if x.rearm then 0 else armLead)), trim := (tabGet s.sched.pins k.pin).trim }

theorem occurrenceArm_arms {slot : Fin 4096} {t : Nat} {s : State} (h : okOccurrenceArm slot t s) :
    let u := modSlot slot (fun x => { x with rearm := false, armed := some (armedFor s slot t x) }) s
    occurrenceArm slot (slotAt s slot).occFrame (slotAt s slot).occLine s = { u with sched := { u.sched with
      armTimes := s.sched.armTimes.filter (fun x => decide (s.time.tb.now < x + 1000 * nsUnits)) ++ [s.time.tb.now],
      snap := if (slotAt s slot).content.action = 6 then { s.sched.snap with pend := true } else s.sched.snap } } := by
  obtain ⟨harmable, hfree, hinst⟩ := h
  intro u
  have hnext : ¬ (!armable s (slotAt s slot) ∨ !armFree s slot ∨ (slotAt s slot).occFrame ≠ (slotAt s slot).occFrame ∨
      (slotAt s slot).occLine ≠ (slotAt s slot).occLine) := by simp [harmable, hfree]
  simp only [occurrenceArm, hinst]
  rw [if_neg hnext]
  split <;> rfl

/-! Firing (R119, R120, R125, R129). -/

/-- An occurrence whose raster is held is withdrawn with all that are (R119). -/
theorem occurrenceFire_withdraws {slot : Fin 4096} {a : ArmedOcc} {s : State} (h : okOccurrenceWithdrawn slot a s) :
    occurrenceFire slot s = withdrawHeld s := by
  obtain ⟨harmed, hheld⟩ := h
  simp only [occurrenceFire, harmed, hheld, if_true]

theorem occurrenceFire_fires {n : Nat} {a : ArmedOcc} {s : State} (harmed : (slotAt s n).armed = some a)
    (hturn : firesAfter s n a = false) (hrun : rasterHeld s (slotAt s n).content.kind (slotAt s n).content.unit = false) :
    occurrenceFire n s = fireSlot n a s := by
  simp only [occurrenceFire, harmed, hrun, hturn, Bool.false_eq_true, if_false]

/-- A pin that is low, with no edges yet, takes a rising edge (R125). -/
theorem pinEdge_rises {p : EvoPin} (n t : Nat) (hlevel : p.level = false) (hbase : p.base = false) (hedges : p.edges = []) :
    pinEdge { at_ := t, slot := n, op := .high } p =
      ({ p with level := true, edges := [{ at_ := t, slot := n, op := .high }] }, 0) := by
  obtain ⟨en, inv, trim, level, base, edges⟩ := p
  subst hlevel hbase hedges
  rfl

theorem driveEdge_rises {n pin t : Nat} {s : State} (hen : (tabGet s.sched.pins pin).outputEn = true)
    (hlevel : (tabGet s.sched.pins pin).level = false) (hbase : (tabGet s.sched.pins pin).base = false)
    (hedges : (tabGet s.sched.pins pin).edges = []) :
    driveEdge n pin .high t s = { s with sched := { s.sched with pins := tabSet s.sched.pins pin { tabGet s.sched.pins pin with
      level := true, edges := [{ at_ := t, slot := n, op := .high }] } } } := by
  simp [driveEdge, hen, pinEdge_rises n t hlevel hbase hedges]

/-- A slot that was changed and has no content waiting stays as it is (R130). -/
theorem applyPending_none {n : Nat} {f : Slot → Slot} {t : Tab Slot} {s : State} (hslots : s.sched.slots = tabMod t n f)
    (h : (f (tabGet t n)).pending = []) : applyPending n s = s := by
  have hempty : (slotAt s n).pending = [] := by rw [slotAt, hslots, tabGet_tabMod_same, h]
  have hsame : ({ f (tabGet t n) with pending := [] } : Slot) = f (tabGet t n) := by rw [← h]
  have hclear : tabMod s.sched.slots n (fun x => { x with pending := [] }) = s.sched.slots := by
    rw [hslots]
    exact tabMod_tabMod_fixed hsame
  simp only [applyPending, hempty, forEach, List.foldl_nil, modSlot, hclear]

/-- An occurrence that is not late and raises a pin which is low fires at its instant, and its slot counts it (R117, R120). -/
theorem fireSlot_rises {slot : Fin 4096} {a : ArmedOcc} {s : State} (h : okOccurrenceRises slot a s) :
    let p := (slotAt s slot).content.pin
    let u := modSlot slot (slotFired (a.instant / secUnits % 2 ^ 48) false 0) s
    fireSlot slot a s = { u with sched := { u.sched with pins := tabSet s.sched.pins p { tabGet s.sched.pins p with
      level := true, edges := [{ at_ := ((a.instant : Int) - a.trim * 32768).toNat, slot := slot, op := .high }] } } } := by
  obtain ⟨-, hlate, -, -, hkind, hpend, haction, hen, hlevel, hbase, hedges⟩ := h
  intro p u
  have hedge := driveEdge_rises (n := slot) (t := ((a.instant : Int) - a.trim * 32768).toNat) (s := u) hen hlevel hbase hedges
  have hfired : fireSlot slot a s = applyPending slot (driveEdge slot p .high ((a.instant : Int) - a.trim * 32768).toNat u) := by
    simp only [fireSlot, hlate, hkind, slotAction, haction, if_true, Bool.false_eq_true, if_false]
    rfl
  rw [hfired, hedge]
  exact applyPending_none rfl hpend

theorem exec_occurrenceFire_rises {slot : Fin 4096} {a : ArmedOcc} {s : State} (h : okOccurrenceRises slot a s) :
    let p := (slotAt s slot).content.pin
    let u := modSlot slot (slotFired (a.instant / secUnits % 2 ^ 48) false 0) s
    exec (.occurrenceFire slot) s = .next { u with sched := { u.sched with pins := tabSet s.sched.pins p { tabGet s.sched.pins p with
      level := true, edges := [{ at_ := ((a.instant : Int) - a.trim * 32768).toNat, slot := slot, op := .high }] } } } := by
  have hrise := fireSlot_rises h
  obtain ⟨harmed, -, hturn, hrun, -⟩ := h
  exact actOutside_kept (f := occurrenceFire slot.val) ((occurrenceFire_fires harmed hturn hrun).trans hrise) rfl

/-! Pulses and snapshots (R123, R134). -/

theorem exec_pulseStop {slot : Fin 4096} {p : PulseRun} {s : State} (h : okPulseStop slot p s) :
    exec (.pulseStop slot) s = .next (driveEdge slot p.pin .low ((pulseEnd s p : Int) - p.trim * 32768).toNat
      { s with sched := { s.sched with pulses := s.sched.pulses.erase p } }) := by
  refine actOutside_kept (f := pulseStop slot.val) ?_ (driveEdge_kept _ _ _ _ _)
  simp only [pulseStop, h]

theorem exec_snapshotComplete {t tag : Nat} {s : State} (h : okSnapshotComplete t tag s) :
    exec .snapshotComplete s = .next (raise 986 { s with sched := { s.sched with snap := { s.sched.snap with
      running := none, instant := t, tag := tag, seq := (s.sched.snap.seq + 1) % 2 ^ 31, pend := snapArmed s } } }) := by
  refine actOutside_kept (f := snapshotComplete) ?_ (raise_kept _ _)
  simp only [snapshotComplete, h]

/-- Settles O37: each clause by the lemma of its row or of the row's effect. -/
theorem synthSchedulerEvents : Obligations.SynthSchedulerEvents := by
  unfold Obligations.SynthSchedulerEvents
  refine ⟨?loss, ?timeout, ?declared, ?waits, ?again, ?failed, ?cached, ?update, ?updatePair, ?refFault, ?tracking, ?arm,
    ?withdrawn, ?rises, ?pulse, ?snapshot⟩
  case loss => exact fun syn s h => exec_synLossOfLock h
  case timeout => exact fun syn s h => exec_synLockTimeout h
  case declared => exact fun syn band fine us s h => exec_synLockDeclared_opens h
  case waits => exact fun syn band fine us s h => exec_synLockDeclared_waits h
  case again => exact fun syn s h => exec_synRelockAttemptEnd_again h
  case failed => exact fun syn s h => exec_synRelockAttemptEnd_failed h
  case cached => exact fun syn s h => exec_cachedBandTimeout h
  case update => exact fun syn s h => exec_synUpdatePoint (synUpdatePoint_alone h)
  case updatePair => exact fun syn s h => exec_synUpdatePoint (synUpdatePoint_pair h)
  case refFault => exact fun s => lanesFollow_next (f := referenceFault) rfl (referenceFault_kept s)
  case tracking => exact fun head err s h => exec_trackingLoopUpdate (trackingUpdate_single h) (by simp)
  case arm => exact fun slot t s h => actOutside_kept (occurrenceArm_arms h) rfl
  case withdrawn =>
    exact fun slot a s h => actOutside_kept (f := occurrenceFire slot.val) (occurrenceFire_withdraws h) (withdrawHeld_kept s)
  case rises => exact fun slot a s h => exec_occurrenceFire_rises h
  case pulse => exact fun slot p s h => exec_pulseStop h
  case snapshot => exact fun t tag s h => exec_snapshotComplete h

end Sys2Proof.Machine
end

section
/-! PROOFS. The commands of the event scheduler (R115, R117, R125, R130) and of the EVI pins (R491, R493): each command once
its checks pass, and the statement about them. -/
namespace Sys2Proof.Machine
open Sys2Proof

/-- A served row whose command is done with a RESULT. -/
theorem exec_doneWith {i : Instr} {op : Nat} {e : CmdEntry} {s t : State} {r : List Byte} (hrow : rowEntry i = some (op, e))
    (hserved : Served op e s) (h : runCmd (cmdOf op e s) (entered op e s) = doneWith r t) :
    exec i s = .next (answered op e s r t) := by
  obtain ⟨hsl, hp⟩ := runCmd_served_kept h
  rw [exec_entry i op e s hrow]
  exact act_final op e s r t hserved h hsl hp

/-! EVT_SLOT_SET and EVT_SLOT_GET (R115, R117, R130). -/

theorem lengthNeed_evtSlotSet (e : CmdEntry) (s : State) : lengthNeed (cmdOf 0x0301 e s) = 32 := by
  simp [lengthNeed, opcodeLengths, cmdOf]

theorem lengthNeed_evtSlotGet (e : CmdEntry) (s : State) : lengthNeed (cmdOf 0x0302 e s) = 2 := by
  simp [lengthNeed, opcodeLengths, cmdOf]

/-- The content that an EVT_SLOT_SET spells (R115). -/
def slotContentOf (c : Cmd) : SlotContent :=
  { action := c.u8 2, kind := c.u8 3, unit := c.u8 4, repeats := c.u8 5, flags := c.u8 6, pin := c.u8 7, frame := c.u64 8,
    pos := c.u32 16, arg := c.u16 20, stop := c.u32 24, count := c.u32 28 }

/-- A content that joins those which wait for the armed occurrence of their slot (R130). -/
def slotWritten (k : SlotContent) (x : Slot) : Slot :=
  { x with pending := x.pending ++ [(x.writes, k)], writes := x.writes + 1 }

/-- An EVT_SLOT_SET that no check refuses waits for an armed occurrence; else its content applies, unless its first occurrence
would come too soon (R117, R130). -/
theorem cmdEvtSlotSet_passes {c : Cmd} {s : State} (hlen : 32 ≤ c.length) (h22 : Zero c 22 2) (hslot : c.u16 0 ≤ 4031)
    (hcontent : ∀ x ∈ slotChecks s (slotContentOf c), x.1 = false) :
    cmdEvtSlotSet c s =
      if (slotAt s (c.u16 0)).armed.isSome then
        .wait (.slotApply (c.u16 0) (slotAt s (c.u16 0)).writes) (modSlot (c.u16 0) (slotWritten (slotContentOf c)) s)
      else if tooSoon s (slotContentOf c) then .final .rejRange 1 [] s
      else done (applyContent (c.u16 0) (slotContentOf c) s) := by
  unfold cmdEvtSlotSet
  rw [checks_pass]
  · rfl
  simp only [List.forall_mem_append, List.forall_mem_cons, tooShort, bad, rsv_pass c 22 2 h22, List.not_mem_nil, false_implies,
    implies_true, and_true, true_and, decide_eq_false_iff_not]
  exact ⟨⟨by omega, by omega⟩, hcontent⟩

theorem cmdEvtSlotSet_applies {c : Cmd} {s : State} (hlen : 32 ≤ c.length) (h : okEvtSlotSetNow c s) :
    cmdEvtSlotSet c s = done (applyContent (c.u16 0) (slotContentOf c) s) := by
  obtain ⟨h22, hslot, hcontent, hunarmed, hsoon⟩ := h
  have hsoon' : tooSoon s (slotContentOf c) = false := hsoon
  rw [cmdEvtSlotSet_passes hlen h22 hslot hcontent, hunarmed, hsoon', if_neg (by simp), if_neg (by simp)]

theorem cmdEvtSlotSet_waits {c : Cmd} {s : State} (hlen : 32 ≤ c.length) (h : okEvtSlotSetArmed c s) :
    cmdEvtSlotSet c s =
      .wait (.slotApply (c.u16 0) (slotAt s (c.u16 0)).writes) (modSlot (c.u16 0) (slotWritten (slotContentOf c)) s) := by
  obtain ⟨h22, hslot, hcontent, harmed⟩ := h
  rw [cmdEvtSlotSet_passes hlen h22 hslot hcontent, if_pos harmed]

/-- The RESULT of EVT_SLOT_GET for a slot: its content as written, its status, its count and its last second (R115). -/
def slotReport (n : Nat) (x : Slot) : List Byte :=
  slotBytes n x.content ++ leBytes 1 (slotStatus x) ++ leBytes 3 0 ++ leBytes 4 x.fired ++ leBytes 6 x.lastSec ++ leBytes 2 0

theorem cmdEvtSlotGet_reports {c : Cmd} {s : State} (hlen : 2 ≤ c.length) (h : okEvtSlotGet c s) :
    cmdEvtSlotGet c s = doneWith (slotReport (c.u16 0) (slotAt s (c.u16 0))) s := by
  have hslot : c.u16 0 ≤ 4095 := h
  unfold cmdEvtSlotGet
  rw [checks_pass]
  · rfl
  simp only [List.forall_mem_cons, tooShort, bad, List.not_mem_nil, false_implies, implies_true, and_true,
    decide_eq_false_iff_not]
  omega

/-! EVO_CONFIG and EVI_CONFIG (R125, R491, R493). -/

theorem lengthNeed_evoConfig (e : CmdEntry) (s : State) : lengthNeed (cmdOf 0x0303 e s) = 4 := by
  simp [lengthNeed, opcodeLengths, cmdOf]

theorem lengthNeed_eviConfig (e : CmdEntry) (s : State) : lengthNeed (cmdOf 0x0304 e s) = 4 := by
  simp [lengthNeed, opcodeLengths, cmdOf]

/-- An EVO pin under the settings of an EVO_CONFIG (R125). -/
def evoPinSet (c : Cmd) (p : EvoPin) : EvoPin :=
  { p with outputEn := bit (c.u8 1) 0, invert := bit (c.u8 1) 1, trim := signedOf 8 (c.u8 2) }

/-- An EVI pin under the settings of an EVI_CONFIG, at the level that its ball has under them (R491, R493). -/
def eviPinSet (c : Cmd) (p : EviPin) : EviPin :=
  { p with edge := c.u8 1, filt := c.u8 2, invert := bit (c.u8 3) 0, level := Bool.xor p.ball (bit (c.u8 3) 0) }

theorem cmdEvoConfig_sets {c : Cmd} {s : State} (hlen : 4 ≤ c.length) (h : okEvoConfig c s) :
    cmdEvoConfig c s = done { s with sched := { s.sched with pins := tabMod s.sched.pins (c.u8 0) (evoPinSet c) } } := by
  obtain ⟨hflags, h3, hpin⟩ := h
  unfold cmdEvoConfig
  rw [checks_pass]
  · rfl
  simp [tooShort, rsvIf, bad, rsv_pass c 3 1 h3, hlen, hflags, hpin]

theorem cmdEviConfig_sets {c : Cmd} {s : State} (hlen : 4 ≤ c.length) (h : okEviConfig c s) :
    cmdEviConfig c s = done { s with ev := { s.ev with pins := tabMod s.ev.pins (c.u8 0) (eviPinSet c) } } := by
  obtain ⟨hflags, hpin, hedge, hfilt⟩ := h
  have hfilter : c.u8 2 ≠ 0 := by omega
  unfold cmdEviConfig
  rw [checks_pass]
  · rfl
  simp [tooShort, rsvIf, bad, hlen, hflags, hpin, hedge, hfilter]

/-- Settles O16: each clause by the lemma of its form. -/
theorem schedulerCommands : Obligations.SchedulerCommands := by
  unfold Obligations.SchedulerCommands
  refine ⟨?setNow, ?setArmed, ?get, ?evo, ?evi⟩
  case setNow =>
    intro e s hserved c t k h
    have hlen := lengthNeed_evtSlotSet e s ▸ served_length hserved
    exact exec_done rfl hserved (cmdEvtSlotSet_applies hlen h)
  case setArmed =>
    intro e s hserved c t k h
    have hlen := lengthNeed_evtSlotSet e s ▸ served_length hserved
    exact exec_wait rfl hserved (cmdEvtSlotSet_waits hlen h)
  case get =>
    intro e s hserved c t x h
    have hlen := lengthNeed_evtSlotGet e s ▸ served_length hserved
    exact exec_doneWith rfl hserved (cmdEvtSlotGet_reports hlen h)
  case evo =>
    intro e s hserved c t h
    have hlen := lengthNeed_evoConfig e s ▸ served_length hserved
    exact exec_done rfl hserved (cmdEvoConfig_sets hlen h)
  case evi =>
    intro e s hserved c t h
    have hlen := lengthNeed_eviConfig e s ▸ served_length hserved
    exact exec_done rfl hserved (cmdEviConfig_sets hlen h)

end Sys2Proof.Machine
end

section
/-! PROOFS. The rules of the frame store's operations: which states an access to a line meets alike, what a read and a write of
a line do where they reach it (R141 to R149, R156), and the statement about the bytes of the store and of host memory. -/
namespace Sys2Proof.Machine
open Sys2Proof

/-! Where a line lies, and whether an access reaches it. -/

/-- What decides where a line lies and whether an access reaches it is the same in both states (R140 to R142, R149, R162 to
R164). -/
structure ReachedAlike (s t : State) : Prop where
  cfg : t.fs.cfg = s.fs.cfg
  up : t.fs.up = s.fs.up
  fillDone : t.fs.fillDone = s.fs.fillDone
  fillPtr : t.fs.fillPtr = s.fs.fillPtr
  migrateNext : t.fs.migrateNext = s.fs.migrateNext
  state : ∀ c, (chanAt t c).state = (chanAt s c).state
  dead : ∀ c, (chanAt t c).dead = (chanAt s c).dead

theorem ReachedAlike.refl (s : State) : ReachedAlike s s := ⟨rfl, rfl, rfl, rfl, rfl, fun _ => rfl, fun _ => rfl⟩

theorem ReachedAlike.capacity_eq {s t : State} (h : ReachedAlike s t) : capacity t = capacity s := by
  unfold capacity
  rw [h.cfg]

theorem ReachedAlike.placeOf_eq {s t : State} (h : ReachedAlike s t) (fsa : Nat) : placeOf t fsa = placeOf s fsa := by
  have hmoved : ∀ c k, granuleMoved t c k = granuleMoved s c k := fun c k => by
    unfold granuleMoved
    rw [h.state, h.migrateNext]
  simp only [placeOf, hmoved, normalSpace, h.capacity_eq]

theorem ReachedAlike.lineTakes_eq {s t : State} (h : ReachedAlike s t) (line : Nat) : lineTakes t line = lineTakes s line := by
  have hdead : ∀ c, chanDead t c = chanDead s c := fun c => by
    unfold chanDead
    rw [h.state, h.dead]
  simp only [lineTakes, beyond, aboveFill, h.capacity_eq, h.placeOf_eq, h.up, h.fillDone, h.fillPtr, hdead]

/-- Waking a rank leaves where lines lie (R156). -/
theorem reachedAlike_wakeRank (c loc : Nat) (s : State) : ReachedAlike s (wakeRank c loc s) := by
  simp only [wakeRank]
  split
  · have hchan : ∀ k f, chanAt (modChan c f s) k = if k = c then f (chanAt s c) else chanAt s k := fun k f =>
      tabGet_tabSet s.fs.chans c k _
    refine ⟨rfl, rfl, rfl, rfl, rfl, fun k => ?_, fun k => ?_⟩
    all_goals
      rw [hchan]
      split
      · next hk => rw [hk]
      · rfl
  · exact .refl s

/-- An access to a line reaches it in a store brought up, below the capacity and the fill boundary, on a channel that works. -/
theorem lineTakes_iff {line : Nat} {s : State} : lineTakes s line = true ↔ s.fs.up = true ∧ beyond s (64 * line) = false ∧
    aboveFill s (64 * line) = false ∧ chanDead s (placeOf s (64 * line)).1 = false := by
  simp only [lineTakes, Bool.and_eq_true, Bool.not_eq_true']
  exact ⟨fun ⟨⟨⟨hbeyond, hfill⟩, hup⟩, hdead⟩ => ⟨hup, hbeyond, hfill, hdead⟩,
    fun ⟨hup, hbeyond, hfill, hdead⟩ => ⟨⟨⟨hbeyond, hfill⟩, hup⟩, hdead⟩⟩

theorem lineTakes_of {line : Nat} {s : State} (hup : s.fs.up = true) (hbeyond : beyond s (64 * line) = false)
    (hfill : aboveFill s (64 * line) = false) (hdead : chanDead s (placeOf s (64 * line)).1 = false) :
    lineTakes s line = true := lineTakes_iff.2 ⟨hup, hbeyond, hfill, hdead⟩

/-- The state in which the rank that a line names is awake (R156). -/
def wakeLine (line : Nat) (s : State) : State := wakeRank (placeOf s (64 * line)).1 (placeOf s (64 * line)).2 s

theorem wakeRank_ledger (c loc : Nat) (s : State) : (wakeRank c loc s).ledger = s.ledger := by
  simp only [wakeRank]
  split
  · rfl
  · rfl

theorem wakeLine_mem (line : Nat) (s : State) : (wakeLine line s).fs.mem = s.fs.mem := wakeRank_mem _ _ s

theorem wakeLine_ledger (line : Nat) (s : State) : (wakeLine line s).ledger = s.ledger := wakeRank_ledger _ _ s

@[simp] theorem wakeLine_kept (line : Nat) (s : State) : kept (wakeLine line s) = kept s := wakeRank_kept _ _ s

/-! Reading a line. -/

section
variable {line : Nat} {s : State}

theorem fsReadLine_beyond (h : capacity s ≤ 64 * line) :
    fsReadLine line s = (List.replicate 64 0, false, raise 875 { s with fs := { s.fs with oor := true } }) := by
  simp [fsReadLine, beyond, h]

theorem fsReadLine_unfilled (hcap : 64 * line < capacity s) (hdone : s.fs.fillDone = false) (hptr : s.fs.fillPtr * 65536 ≤ 64 * line) :
    fsReadLine line s = (List.replicate 64 0, false, raise 866 { s with fs := { s.fs with unfilled := true } }) := by
  simp [fsReadLine, beyond, aboveFill, Nat.not_le.2 hcap, hdone, hptr]

/-- A read that reaches its line answers as the wrong symbols of the line say (R143 to R145). -/
theorem fsReadLine_takes (h : lineTakes s line = true) :
    fsReadLine line s =
      let e := tabGet s.fs.ecc line
      let t := wakeLine line s
      if e.poison ∨ e.symbols = 2 then (List.replicate 64 0, true, reportUe line t)
      else if e.symbols = 0 then (lineBytes t line, false, t)
      else if e.symbols = 1 then
        (correctedLine t line, false, reportCe line { t with fs := { t.fs with
          mem := pokeBytes (64 * line) (correctedLine t line) t.fs.mem, raw := tabSet t.fs.raw line none } })
      else if miscorrects e t then
        let b := (List.range 64).map (fun i => Config.freeLineByte (t.free + i))
        (b, false, reportCe line { t with
          fs := { t.fs with mem := pokeBytes (64 * line) b t.fs.mem, raw := tabSet t.fs.raw line none }, free := t.free + 64 })
      else (List.replicate 64 0, true, reportUe line { t with free := t.free + 1 }) := by
  obtain ⟨hup, hbeyond, hfill, hdead⟩ := lineTakes_iff.1 h
  simp only [fsReadLine, hbeyond, hfill, hup, hdead, Bool.not_true, Bool.false_eq_true, if_false]
  rfl

theorem fsReadLine_clean (h : lineTakes s line = true) (hsymbols : (tabGet s.fs.ecc line).symbols = 0)
    (hpoison : (tabGet s.fs.ecc line).poison = false) :
    fsReadLine line s = (lineBytes (wakeLine line s) line, false, wakeLine line s) := by
  simp [fsReadLine_takes h, hsymbols, hpoison]

theorem fsReadLine_corrected (h : lineTakes s line = true) (hsymbols : (tabGet s.fs.ecc line).symbols = 1)
    (hpoison : (tabGet s.fs.ecc line).poison = false) :
    let t := wakeLine line s
    fsReadLine line s = (correctedLine t line, false, reportCe line { t with fs := { t.fs with
      mem := pokeBytes (64 * line) (correctedLine t line) t.fs.mem, raw := tabSet t.fs.raw line none } }) := by
  simp [fsReadLine_takes h, hsymbols, hpoison]

theorem fsReadLine_uncorrectable (h : lineTakes s line = true)
    (hwrong : (tabGet s.fs.ecc line).symbols = 2 ∨ (tabGet s.fs.ecc line).poison = true) :
    fsReadLine line s = (List.replicate 64 0, true, reportUe line (wakeLine line s)) := by
  rw [fsReadLine_takes h]
  exact if_pos hwrong.symm

/-! Writing within a line. -/

/-- A line written whole, with its check word (R146). -/
def lineWritten (line : Nat) (b : List Byte) (s : State) : State :=
  let t := wakeLine line s
  { t with fs := { t.fs with mem := pokeBytes (64 * line) b t.fs.mem, ecc := tabSet t.fs.ecc line {}, raw := tabSet t.fs.raw line none } }

theorem fsWriteLine_whole {b : List Byte} (h : lineTakes s line = true) (hlen : b.length = 64) :
    fsWriteLine line 0 b s = lineWritten line b s := by
  obtain ⟨hup, hbeyond, hfill, hdead⟩ := lineTakes_iff.1 h
  simp only [fsWriteLine, hbeyond, hfill, hup, hdead, hlen, Bool.not_true, Bool.false_eq_true, if_false, and_self, if_true]
  rfl

/-- A part of a line makes one read of the line, and stands in what that leaves (R146). -/
theorem fsWriteLine_part {off : Nat} {b : List Byte} (h : lineTakes s line = true) (hlen : b.length < 64) :
    fsWriteLine line off b s =
      let r := fsReadLine line s
      let t := r.2.2
      if r.2.1 then { t with fs := { t.fs with
        mem := pokeBytes (64 * line + off) b (pokeBytes (64 * line) (List.replicate 64 0) t.fs.mem),
        ecc := tabSet t.fs.ecc line { poison := true }, raw := tabSet t.fs.raw line none } }
      else { t with fs := { t.fs with mem := pokeBytes (64 * line + off) b t.fs.mem } } := by
  have hpart : ¬ (off = 0 ∧ b.length = 64) := by omega
  obtain ⟨hup, hbeyond, hfill, hdead⟩ := lineTakes_iff.1 h
  simp only [fsWriteLine, hbeyond, hfill, hup, hdead, hpart, Bool.not_true, Bool.false_eq_true, if_false]

/-- A part written over a line that reads as poisoned leaves the line poisoned, with zeros around the part (R146). -/
theorem fsWriteLine_poisons {off : Nat} {b old : List Byte} {t : State} (h : lineTakes s line = true) (hlen : b.length < 64)
    (hread : fsReadLine line s = (old, true, t)) :
    fsWriteLine line off b s = { t with fs := { t.fs with
      mem := pokeBytes (64 * line + off) b (pokeBytes (64 * line) (List.replicate 64 0) t.fs.mem),
      ecc := tabSet t.fs.ecc line { poison := true }, raw := tabSet t.fs.raw line none } } := by
  simp only [fsWriteLine_part h hlen, hread, if_true]

/-- A part written over a good line is merged into it (R146). -/
theorem fsWriteLine_merges {off : Nat} {b old : List Byte} {t : State} (h : lineTakes s line = true) (hlen : b.length < 64)
    (hread : fsReadLine line s = (old, false, t)) :
    fsWriteLine line off b s = { t with fs := { t.fs with mem := pokeBytes (64 * line + off) b t.fs.mem } } := by
  simp only [fsWriteLine_part h hlen, hread, Bool.false_eq_true, if_false]

/-- A channel that has failed takes no write (R164). -/
theorem fsWriteLine_dead {off : Nat} {b : List Byte} (hup : s.fs.up = true) (hbeyond : beyond s (64 * line) = false)
    (hfill : aboveFill s (64 * line) = false) (hdead : chanDead s (placeOf s (64 * line)).1 = true) :
    fsWriteLine line off b s = s := by
  simp [fsWriteLine, hbeyond, hfill, hup, hdead]

end

/-- A write that lies within one line. -/
theorem fsWrite_withinLine {fsa : Nat} {b : List Byte} (s : State) (hpos : 0 < b.length) (hfits : fsa % 64 + b.length ≤ 64) :
    fsWrite fsa b s = fsWriteLine (fsa / 64) (fsa % 64) b s := by
  have hne : b.isEmpty = false := by
    cases b with
    | nil => simp at hpos
    | cons x b => rfl
  have hlines : (fsa + b.length - 1) / 64 - fsa / 64 + 1 = 1 := by omega
  have hlo : max fsa (64 * (fsa / 64)) = fsa := by omega
  have hhi : min (fsa + b.length) (64 * (fsa / 64) + 64) - fsa = b.length := by omega
  have hoff : fsa - 64 * (fsa / 64) = fsa % 64 := by omega
  simp only [fsWrite, hne, hlines, Bool.false_eq_true, if_false, List.range_one, List.foldl_cons, List.foldl_nil, Nat.add_zero, hlo,
    hhi, hoff, Nat.sub_self, List.drop_zero, List.take_length]

/-! The bytes of a line that was written. -/

theorem lineWritten_mem (line : Nat) (b : List Byte) (s : State) :
    (lineWritten line b s).fs.mem = pokeBytes (64 * line) b s.fs.mem := by
  rw [← wakeLine_mem line s]
  rfl

theorem lineWritten_ledger (line : Nat) (b : List Byte) (s : State) : (lineWritten line b s).ledger = s.ledger :=
  wakeLine_ledger line s

theorem reachedAlike_lineWritten (line : Nat) (b : List Byte) (s : State) : ReachedAlike s (lineWritten line b s) := by
  obtain ⟨hcfg, hup, hdone, hptr, hnext, hstate, hdead⟩ :=
    reachedAlike_wakeRank (placeOf s (64 * line)).1 (placeOf s (64 * line)).2 s
  exact ⟨hcfg, hup, hdone, hptr, hnext, hstate, hdead⟩

theorem storedByte_congr {s t : State} (hledger : t.ledger = s.ledger) {a : Nat} (hmem : tabGet t.fs.mem a = tabGet s.fs.mem a) :
    storedByte t a = storedByte s a := by
  simp only [storedByte, hledger, hmem]

theorem lineBytes_wakeLine (line k : Nat) (s : State) : lineBytes (wakeLine line s) k = lineBytes s k :=
  List.map_congr_left fun _ _ => storedByte_congr (wakeLine_ledger line s) (congrArg (tabGet · _) (wakeLine_mem line s))

/-- Above the valid-line maps, a line written whole holds what was written (R146, R172). -/
theorem lineBytes_lineWritten {line : Nat} {b : List Byte} (s : State) (hlen : b.length = 64) (hmaps : 131072 ≤ line) :
    lineBytes (lineWritten line b s) line = b := by
  refine List.ext_getElem (by simp [lineBytes, hlen]) fun i hi hib => ?_
  have habove : ¬ 64 * line + i < 8388608 := by omega
  simp only [lineBytes, List.getElem_map, List.getElem_range, storedByte, if_neg habove, lineWritten_mem]
  exact tabGet_pokeBytes_in (64 * line) b s.fs.mem i hib

theorem storedByte_lineWritten_other {line a : Nat} {b : List Byte} (s : State) (hlen : b.length = 64)
    (ha : a < 64 * line ∨ 64 * line + 64 ≤ a) : storedByte (lineWritten line b s) a = storedByte s a := by
  refine storedByte_congr (lineWritten_ledger line b s) ?_
  rw [lineWritten_mem]
  exact tabGet_pokeBytes_other _ _ _ _ (by omega)

/-- A line written whole reads back without an error (R146). -/
theorem fsReadLine_lineWritten {line : Nat} {b : List Byte} {s : State} (h : lineTakes s line = true) (hlen : b.length = 64)
    (hmaps : 131072 ≤ line) :
    fsReadLine line (lineWritten line b s) = (b, false, wakeLine line (lineWritten line b s)) := by
  have hecc : tabGet (lineWritten line b s).fs.ecc line = {} := tabGet_tabSet_same (wakeLine line s).fs.ecc line {}
  have htakes : lineTakes (lineWritten line b s) line = true := by
    rw [(reachedAlike_lineWritten line b s).lineTakes_eq, h]
  rw [fsReadLine_clean htakes (by rw [hecc]) (by rw [hecc]), lineBytes_wakeLine, lineBytes_lineWritten s hlen hmaps]

/-! The bytes of host memory. -/

theorem hostPoke_mem (a : Nat) (b : List Byte) (s : State) : (hostPoke a b s).host.mem = pokeBytes a b s.host.mem := by
  have hrow : ∀ a m, (b.foldl (fun (acc : Nat × Tab Byte) x => (acc.1 + 1, tabSet acc.2 acc.1 x)) ((a, m) : Nat × Tab Byte)).2 =
      pokeBytes a b m := by
    induction b with
    | nil => exact fun _ _ => rfl
    | cons x b ih => exact fun a m => ih (a + 1) (tabSet m a x)
  exact hrow a s.host.mem

theorem hostRead_hostPoke (a : Nat) (b : List Byte) {s : State} (h : hostReachable s = true) :
    hostRead a b.length (hostPoke a b s) = some b := by
  have hreach : hostReachable (hostPoke a b s) = true := h
  rw [hostRead, if_pos hreach, Option.some_inj]
  refine List.ext_getElem (by simp) fun i hi hib => ?_
  simp only [List.getElem_map, List.getElem_range, hostPoke_mem]
  exact tabGet_pokeBytes_in a b s.host.mem i hib

/-- Settles O11: a whole line by its read-back and its frame, host memory likewise, and the canonical form by the laws of
memory. -/
theorem memoryBytes : Obligations.MemoryBytes := by
  unfold Obligations.MemoryBytes
  refine ⟨?line, ?host, ?canonical⟩
  case line =>
    rintro line b s ⟨hlen, hmaps, hbeyond, hup, hfill, hdead⟩
    have htakes := lineTakes_of hup hbeyond hfill hdead
    simp only [fsWriteLine_whole htakes hlen, fsReadLine_lineWritten htakes hlen hmaps, true_and]
    exact fun a ha => storedByte_lineWritten_other s hlen ha
  case host =>
    refine fun a b s h => ⟨hostRead_hostPoke a b h, fun k hk => ?_⟩
    rw [hostPoke_mem]
    exact tabGet_pokeBytes_other a b s.host.mem k hk
  case canonical => exact fun fsa b s h => ⟨fsWrite_wf fsa b s h, fsRead_wf fsa b.length s h⟩

end Sys2Proof.Machine
end

section
/-! PROOFS. The rows that read, write and scrub the frame store (R141 to R149, R164), and the statement about them. -/
namespace Sys2Proof.Machine
open Sys2Proof

/-! Reads. -/

/-- A read request without new upsets leaves what reading its line leaves. -/
theorem exec_fsReadRequest {fsa : Nat} {s t : State} {b : List Byte} {p : Bool} (h : fsReadLine (fsa / 64) s = (b, p, t)) :
    exec (.fsReadRequest fsa 0) s = .next t := by
  have hkept := fsReadLine_kept (fsa / 64) s
  rw [h] at hkept
  refine actOutside_kept (f := fsReadRequest fsa 0) ?_ hkept
  simp only [fsReadRequest, if_true, h]

/-- With no check word of its own, a line with one wrong symbol stands for the bytes that were stored (R143, R144). -/
theorem correctedLine_of_no_raw {line : Nat} {s : State} (h : tabGet s.fs.raw line = none) :
    correctedLine s line = lineBytes s line := by
  simp only [correctedLine, corrected, h]

/-! Writes. -/

theorem exec_fsWriteRequest {fsa : Nat} {data : List Byte} {s t : State} (h : fsWrite fsa data s = t) :
    exec (.fsWriteRequest fsa data) s = .next t :=
  actOutside_kept (f := fsWriteRequest fsa data) h (h ▸ fsWrite_kept fsa data s)

/-- A write of 64 bytes at a line is one write of that line. -/
theorem fsWrite_wholeLine (line : Nat) {data : List Byte} (s : State) (hlen : data.length = 64) :
    fsWrite (64 * line) data s = fsWriteLine line 0 data s := by
  rw [fsWrite_withinLine s (by omega) (by omega), show 64 * line / 64 = line by omega, show 64 * line % 64 = 0 by omega]

theorem fsWrite_poisons {fsa : Nat} {data : List Byte} {s : State} (h : okFsWritePoisons fsa data s) :
    let t := reportUe (fsa / 64) (wakeLine (fsa / 64) s)
    fsWrite fsa data s = { t with fs := { t.fs with
      mem := pokeBytes (64 * (fsa / 64) + fsa % 64) data (pokeBytes (64 * (fsa / 64)) (List.replicate 64 0) t.fs.mem),
      ecc := tabSet t.fs.ecc (fsa / 64) { poison := true }, raw := tabSet t.fs.raw (fsa / 64) none } } := by
  obtain ⟨hpos, hfits, hpart, hup, hbeyond, hfill, hdead, hwrong⟩ := h
  have htakes := lineTakes_of hup hbeyond hfill hdead
  rw [fsWrite_withinLine s hpos hfits, fsWriteLine_poisons htakes hpart (fsReadLine_uncorrectable htakes hwrong)]

theorem fsWrite_merges {fsa : Nat} {data : List Byte} {s : State} (h : okFsWriteMerged fsa data s) :
    let t := wakeLine (fsa / 64) s
    fsWrite fsa data s = { t with fs := { t.fs with mem := pokeBytes (64 * (fsa / 64) + fsa % 64) data t.fs.mem } } := by
  obtain ⟨hpos, hfits, hpart, hup, hbeyond, hfill, hdead, hsymbols, hpoison⟩ := h
  have htakes := lineTakes_of hup hbeyond hfill hdead
  rw [fsWrite_withinLine s hpos hfits, fsWriteLine_merges htakes hpart (fsReadLine_clean htakes hsymbols hpoison)]

/-! The patrol (R147). -/

/-- A channel that is active works. -/
theorem chanDead_of_active {s : State} {c : Nat} (h : (chanAt s c).state = .active) : chanDead s c = false := by
  simp [chanDead, h]

/-- Scrubbing a line without wrong symbols on an active channel only reads it. -/
theorem scrubLine_clean {line : Nat} {s : State} (htakes : lineTakes s line = true) (hecc : tabGet s.fs.ecc line = {})
    (hactive : (chanAt s (placeOf s (64 * line)).1).state = .active) :
    scrubLine line 0 s = (false, wakeLine line { s with fs := { s.fs with ecc := tabSet s.fs.ecc line {} } }) := by
  let u : State := { s with fs := { s.fs with ecc := tabSet s.fs.ecc line {} } }
  have hu : tabGet u.fs.ecc line = {} := tabGet_tabSet_same s.fs.ecc line {}
  have hread : fsReadLine line u = (lineBytes (wakeLine line u) line, false, wakeLine line u) :=
    fsReadLine_clean htakes (by rw [hu]) (by rw [hu])
  simp only [scrubLine, hecc, hactive, ne_eq, not_true_eq_false, if_false, Nat.add_zero, decide_false, Bool.and_false]
  exact congrArg (fun r => (false, r.2.2)) hread

theorem patrolRead_clean {s : State} (h : okPatrolClean s) :
    let t := wakeLine s.fs.patrol.line { s with fs := { s.fs with ecc := tabSet s.fs.ecc s.fs.patrol.line {} } }
    patrolRead 0 s = { t with fs := { t.fs with patrol := { t.fs.patrol with line := s.fs.patrol.line + 1 } } } := by
  obtain ⟨hdone, hup, hline, hnext, hactive, hecc⟩ := h
  have hbeyond : beyond s (64 * s.fs.patrol.line) = false := by
    simp only [beyond, decide_eq_false_iff_not]
    omega
  have htakes := lineTakes_of hup hbeyond (by simp [aboveFill, hdone]) (chanDead_of_active hactive)
  simp [patrolRead, hdone, hup, hline, hnext, scrubLine_clean htakes hecc hactive]

/-- The patrol skips a place of the reserve whose channel is retired. -/
theorem scrubReserve_retired {line upset : Nat} {s : State}
    (h : (chanAt s ((line - capacity s / 64) % 16)).state = .retired) : scrubReserve line upset s = (false, s) := by
  simp [scrubReserve, h]

theorem patrolRead_passEnds {s : State} (h : okPatrolPassEnds s) :
    patrolRead 0 s = raise 874 { s with fs := { s.fs with patrol := { s.fs.patrol with
      line := 0, pass := s.fs.patrol.pass + 1, correctedBefore := s.fs.patrol.corrected, corrected := [] } } } := by
  obtain ⟨hdone, hup, hreserve, hlast, hretired⟩ := h
  simp [patrolRead, hdone, hup, Nat.not_lt.2 hreserve, Nat.not_lt.2 hlast, scrubReserve_retired hretired]

/-- Settles O38: each clause by what reading, writing or scrubbing its line does. -/
theorem storeReads : Obligations.StoreReads := by
  unfold Obligations.StoreReads
  refine ⟨?clean, ?corrected, ?uncorrectable, ?beyond, ?unfilled, ?noRaw, ?whole, ?poisons, ?merged, ?dead, ?patrol, ?passEnds⟩
  case clean =>
    rintro fsa s ⟨hup, hbeyond, hfill, hdead, hsymbols, hpoison⟩
    exact exec_fsReadRequest (fsReadLine_clean (lineTakes_of hup hbeyond hfill hdead) hsymbols hpoison)
  case corrected =>
    rintro fsa s ⟨hup, hbeyond, hfill, hdead, hsymbols, hpoison⟩
    exact exec_fsReadRequest (fsReadLine_corrected (lineTakes_of hup hbeyond hfill hdead) hsymbols hpoison)
  case uncorrectable =>
    rintro fsa s ⟨hup, hbeyond, hfill, hdead, hwrong⟩
    exact exec_fsReadRequest (fsReadLine_uncorrectable (lineTakes_of hup hbeyond hfill hdead) hwrong)
  case beyond => exact fun fsa s h => exec_fsReadRequest (fsReadLine_beyond h)
  case unfilled =>
    rintro fsa s ⟨-, hcap, hdone, hptr⟩
    exact exec_fsReadRequest (fsReadLine_unfilled hcap hdone hptr)
  case noRaw => exact fun line s _ h => correctedLine_of_no_raw h
  case whole =>
    rintro line data s ⟨hlen, hup, hbeyond, hfill, hdead⟩
    exact exec_fsWriteRequest ((fsWrite_wholeLine line s hlen).trans
      (fsWriteLine_whole (lineTakes_of hup hbeyond hfill hdead) hlen))
  case poisons => exact fun fsa data s h => by simpa only [wakeLine] using exec_fsWriteRequest (fsWrite_poisons h)
  case merged => exact fun fsa data s h => exec_fsWriteRequest (fsWrite_merges h)
  case dead =>
    rintro line data s ⟨hlen, hup, hbeyond, hfill, hdead⟩
    exact exec_fsWriteRequest ((fsWrite_wholeLine line s hlen).trans (fsWriteLine_dead hup hbeyond hfill hdead))
  case patrol =>
    exact fun s h => actOutside_kept (f := patrolRead 0) (patrolRead_clean h) (wakeRank_kept _ _ _)
  case passEnds => exact fun s h => actOutside_kept (f := patrolRead 0) (patrolRead_passEnds h) (raise_kept _ _)

end Sys2Proof.Machine
end

section
/-! PROOFS. The commands of the frame store (R137, R147, R148, R156, R158, R161, R163): each command once its checks pass, and
the statement about them. -/
namespace Sys2Proof.Machine
open Sys2Proof

theorem lengthNeed_fsPolicySet (e : CmdEntry) (s : State) : lengthNeed (cmdOf 0x0402 e s) = 8 := by
  simp [lengthNeed, opcodeLengths, cmdOf]

theorem lengthNeed_fsFill (e : CmdEntry) (s : State) : lengthNeed (cmdOf 0x0403 e s) = 24 := by
  simp [lengthNeed, opcodeLengths, cmdOf]

theorem lengthNeed_fsPatrolReport (e : CmdEntry) (s : State) : lengthNeed (cmdOf 0x0404 e s) = 16 := by
  simp [lengthNeed, opcodeLengths, cmdOf]

theorem lengthNeed_fsChannelRetire (e : CmdEntry) (s : State) : lengthNeed (cmdOf 0x0405 e s) = 4 := by
  simp [lengthNeed, opcodeLengths, cmdOf]

/-! FS_POLICY_SET (R147, R156, R161, R163). -/

/-- The frame store under the five settings of an FS_POLICY_SET. -/
def fsPolicySet (c : Cmd) (f : FsPart) : FsPart :=
  { f with pdIdle := c.u16 0, agingUs := c.u16 2, scrubH := c.u8 4, autoRetire := decide (c.u8 5 = 1), autoLimit := c.u16 6 }

theorem cmdFsPolicySet_sets {c : Cmd} {s : State} (hlen : 8 ≤ c.length) (h : okFsPolicySet c s) :
    cmdFsPolicySet c s = done { s with fs := fsPolicySet c s.fs } := by
  obtain ⟨hidle, haging, hagingMax, hscrub, hscrubMax, hauto, hlimit⟩ := h
  unfold cmdFsPolicySet
  rw [checks_pass]
  · rfl
  simp only [List.forall_mem_cons, tooShort, bad, Bool.or_eq_false_iff, decide_eq_false_iff_not, List.not_mem_nil, false_implies,
    implies_true, and_true]
  omega

/-! FS_FILL (R148). -/

/-- No check refuses an FS_FILL. -/
structure FsFillPasses (c : Cmd) (s : State) : Prop where
  length : 24 ≤ c.length
  zero : Zero c 20 4
  aligned : c.u64 0 % 65536 = 0
  nonempty : 1 ≤ c.u64 8
  whole : c.u64 8 % 65536 = 0
  fits : c.u64 0 + c.u64 8 ≤ capacity s
  unowned : ledgerOverlap s (c.u64 0) (c.u64 8) = false
  filled : s.fs.fillDone = true
  free : fillHeld s (c.u64 0) (c.u64 8) = false
  settled : retireHeld s = false

/-- An FS_FILL that no check refuses fills its first step of at most 1 GiB, and ends with it where that is all (R42, R148). -/
theorem cmdFsFill_passes {c : Cmd} {s : State} (h : FsFillPasses c s) :
    cmdFsFill c s = .accept (.fsFill (c.u64 0) (c.u64 8) (c.bytes 16 4) (min gib (c.u64 8)))
      (if c.u64 8 ≤ gib then some (.ok, 0, []) else none) (fillLines (c.u64 0) (min gib (c.u64 8)) (c.bytes 16 4) s) := by
  obtain ⟨hlen, hzero, haligned, hnonempty, hwhole, hfits, hunowned, hfilled, hfree, hsettled⟩ := h
  unfold cmdFsFill
  rw [checks_pass]
  simp only [List.forall_mem_cons, tooShort, bad, ownerIf, busyIf, rsv_pass c 20 4 hzero, haligned, hwhole, hunowned, hfilled, hfree,
    hsettled, Bool.or_eq_false_iff, decide_eq_false_iff_not, List.not_mem_nil, false_implies, implies_true, and_true, true_and,
    ne_eq, not_true_eq_false, not_false_eq_true, Bool.not_true, Nat.not_lt]
  exact ⟨hlen, Nat.ne_of_gt hnonempty, hfits⟩

theorem cmdFsFill_long {c : Cmd} {s : State} (hlen : 24 ≤ c.length) (h : okFsFillLong c s) :
    cmdFsFill c s = .accept (.fsFill (c.u64 0) (c.u64 8) (c.bytes 16 4) gib) none (fillLines (c.u64 0) gib (c.bytes 16 4) s) := by
  obtain ⟨hzero, haligned, hnonempty, hwhole, hfits, hunowned, hfilled, hfree, hsettled, hlong⟩ := h
  rw [cmdFsFill_passes ⟨hlen, hzero, haligned, hnonempty, hwhole, hfits, hunowned, hfilled, hfree, hsettled⟩,
    Nat.min_eq_left (Nat.le_of_lt hlong), if_neg (Nat.not_le.2 hlong)]

theorem cmdFsFill_short {c : Cmd} {s : State} (hlen : 24 ≤ c.length) (h : okFsFillShort c s) :
    cmdFsFill c s = .accept (.fsFill (c.u64 0) (c.u64 8) (c.bytes 16 4) (c.u64 8)) (some (.ok, 0, []))
      (fillLines (c.u64 0) (c.u64 8) (c.bytes 16 4) s) := by
  obtain ⟨hzero, haligned, hnonempty, hwhole, hfits, hunowned, hfilled, hfree, hsettled, hshort⟩ := h
  rw [cmdFsFill_passes ⟨hlen, hzero, haligned, hnonempty, hwhole, hfits, hunowned, hfilled, hfree, hsettled⟩,
    Nat.min_eq_right hshort, if_pos hshort]

/-! FS_PATROL_REPORT (R147) and FS_CHANNEL_RETIRE (R163). -/

/-- The patrol log without its `k` oldest records, which a report has written, and without its count of lost ones. -/
def patrolReported (k : Nat) (p : Patrol) : Patrol := { p with log := p.log.drop k, lost := 0 }

theorem cmdFsPatrolReport_reports {c : Cmd} {s : State} (hlen : 16 ≤ c.length) (h : okFsPatrolReport c s) :
    let k := min (c.u32 8 / 16) s.fs.patrol.log.length
    cmdFsPatrolReport c s = .accept (.patrolReport (c.u64 0) (c.u32 8) k)
      (some (.ok, 0, leBytes 4 k ++ leBytes 4 s.fs.patrol.lost))
      { hostPoke (c.u64 0) ((s.fs.patrol.log.take k).map patrolBytes).flatten s with
        fs := { s.fs with patrol := patrolReported k s.fs.patrol } } := by
  obtain ⟨hzero, haligned, hmin, hmax, hreach⟩ := h
  intro k
  unfold cmdFsPatrolReport
  rw [checks_pass]
  · simp only [hostWrite, hreach, if_true]
    rfl
  simp only [List.forall_mem_cons, tooShort, bad, rsv_pass c 12 4 hzero, Bool.or_eq_false_iff, decide_eq_false_iff_not,
    List.not_mem_nil, false_implies, implies_true, and_true, true_and]
  omega

theorem cmdFsChannelRetire_starts {c : Cmd} {s : State} (hlen : 4 ≤ c.length) (h : okFsChannelRetire c s) :
    cmdFsChannelRetire c s = .accept (.retire (c.u8 0) 0 (chanGranules s)) none (startRetire (c.u8 0) s) := by
  obtain ⟨hzero, hchan, hreserve, hnone, hfilled, hretire, hfill⟩ := h
  unfold cmdFsChannelRetire
  rw [checks_pass]
  simp [tooShort, bad, stateIf, busyIf, rsv_pass c 1 3 hzero, hlen, hchan, hreserve, hnone, hfilled, hretire, hfill]

/-- Settles O17: each clause by the lemma of its command. -/
theorem storeCommands : Obligations.StoreCommands := by
  unfold Obligations.StoreCommands
  refine ⟨?info, ?policy, ?fillLong, ?fillShort, ?patrol, ?retire⟩
  case info => exact fun e s hserved => exec_doneWith rfl hserved rfl
  case policy =>
    intro e s hserved c t h
    have hlen := lengthNeed_fsPolicySet e s ▸ served_length hserved
    exact exec_done rfl hserved (cmdFsPolicySet_sets hlen h)
  case fillLong =>
    intro e s hserved c t h
    have hlen := lengthNeed_fsFill e s ▸ served_length hserved
    exact exec_accept rfl hserved (cmdFsFill_long hlen h)
  case fillShort =>
    intro e s hserved c t h
    have hlen := lengthNeed_fsFill e s ▸ served_length hserved
    exact exec_acceptEnd rfl hserved (cmdFsFill_short hlen h)
  case patrol =>
    intro e s hserved c t k h
    have hlen := lengthNeed_fsPatrolReport e s ▸ served_length hserved
    exact exec_acceptEnd rfl hserved (cmdFsPatrolReport_reports hlen h)
  case retire =>
    intro e s hserved c t h
    have hlen := lengthNeed_fsChannelRetire e s ▸ served_length hserved
    exact exec_accept rfl hserved (cmdFsChannelRetire_starts hlen h)

end Sys2Proof.Machine
end

section
/-! PROOFS. The statement about the store's upkeep, which does not hold: its clause of MR4_POLL polls channels whose controllers
are off. -/
namespace Sys2Proof.Machine
open Sys2Proof

/-- Refutes O39: its clause of MR4_POLL fails. A controller whose domain is off polls no rank (R157, R503), so the multiplier of
its channel stays at 0, where the clause raises it to 1 by the band that the row brings. -/
theorem not_storeUpkeep : ¬ Obligations.StoreUpkeep := by
  unfold Obligations.StoreUpkeep
  rintro ⟨-, -, -, -, -, -, -, -, -, -, -, -, hpoll, -⟩
  have hclause := hpoll [1] [1] { fs := { cfg := { ranks := 1 }, chans := [(0, { trained := true })] }, power := { doms := [] } }
  have hmult := congrArg (fun o => (answerState o).map (fun t => (chanAt t 0).mult)) hclause
  exact absurd hmult (by decide +kernel)

end Sys2Proof.Machine
end

section
/-! PROOFS. The statement about the ledger's commands, which does not hold: its clause of LEDGER_POOL_CREATE leaves out the range
that an open FS_FILL holds. -/
namespace Sys2Proof.Machine
open Sys2Proof

/-- Refutes O18: its clause of LEDGER_POOL_CREATE fails. An FS_FILL that is open holds its range (R46, R148), so the pool that
mailbox 0 asks for in the middle of the 2 GiB it is filling is answered BUSY and not created, where the clause puts it under
number 0. -/
theorem not_ledgerCommands : ¬ Obligations.LedgerCommands := by
  unfold Obligations.LedgerCommands
  rintro ⟨hcreate, -⟩
  have hclause := hcreate
    { ticket := 7, length := 24, payload := [0, 0, 128, 0, 0, 0, 0, 0, 0, 16, 0, 0, 2, 0, 0, 1, 1, 0, 65, 0, 0, 1, 0, 0] }
    { ctl := { pair := .running,
               inflight := [{ opcode := 0x0403, phase := .stepping (.fsFill 8388608 (2 * gib) [0, 0, 0, 0] gib) }] },
      fs := { fillDone := true } } 0 0
    (by decide +kernel) (by decide +kernel)
  have hused := congrArg (fun o => (answerState o).map (fun t => (poolAt t 0).used)) hclause
  exact absurd hused (by decide +kernel)

end Sys2Proof.Machine
end

section
/-! PROOFS. The operations of the ledger (R168, R171, R173 to R175): which row of R174 a release meets, what each operation does
where it takes effect, and the statement about their rows. -/
namespace Sys2Proof.Machine
open Sys2Proof

/-! The rows of R174. -/

theorem writerCase_stale {s : State} {b tok : Nat} (h : tokStale s tok = true) : writerCase s b tok = .stale := if_pos h

theorem releaseCase_stale {s : State} {b tok : Nat} (h : tokStale s tok = true) : releaseCase s b tok = .stale := if_pos h

theorem writerCase_free {s : State} {b tok : Nat} (hcur : tokStale s tok = false) (hfree : (bufAt s b).state = .free) :
    writerCase s b tok = .ignored := by
  simp [writerCase, hcur, hfree]

/-- A PUBLISHED buffer has no owner that could publish or discard it. -/
theorem writerCase_published {s : State} {b tok : Nat} (hcur : tokStale s tok = false) (hpub : (bufAt s b).state = .published) :
    writerCase s b tok = .rejected := by
  simp [writerCase, hcur, hpub]

theorem writerCase_owner {s : State} {b tok : Nat} (hcur : tokStale s tok = false) (howned : (bufAt s b).state = .owned)
    (howner : (bufAt s b).owner = tok) : writerCase s b tok = .ok := by
  simp [writerCase, hcur, howned, howner]

theorem releaseCase_holder {s : State} {b tok : Nat} (hcur : tokStale s tok = false) (hheld : holdsRef s b tok = true) :
    releaseCase s b tok = .ok := by
  simp [releaseCase, hcur, hheld]

/-! Acquire (R168, R171). -/

/-- A pool that has given out a buffer, by a reclaim where `rc`. -/
def acquireCounted (rc : Bool) (q : Pool) : Pool :=
  { q with ctr := { q.ctr with
      acq := satAdd 0xFFFFFFFF q.ctr.acq 1, reclaim := if rc then satAdd 0xFFFFFFFF q.ctr.reclaim 1 else q.ctr.reclaim } }

/-- A buffer as its new owner finds it. -/
def acquiredBy (tok : Nat) (x : Buffer) : Buffer := { x with state := .owned, owner := tok, valid := 0, holeReads := 0 }

theorem ledgerAcquire_takes {p tok b : Nat} {rc : Bool} {s : State} (hused : (poolAt s p).used = true)
    (hpick : acquirePick s (poolAt s p) = some (b, rc)) :
    ledgerAcquire p tok s = (some b, lowCheck p (modPool p (acquireCounted rc) (modBuf b (acquiredBy tok) s))) := by
  simp only [ledgerAcquire, hused, hpick, Bool.not_true, Bool.false_eq_true, if_false]
  rfl

/-- A pool that had nothing to give. -/
def emptyCounted (q : Pool) : Pool := { q with ctr := { q.ctr with empty := satAdd 0xFFFFFFFF q.ctr.empty 1 } }

theorem ledgerAcquire_empty {p tok : Nat} {s : State} (hused : (poolAt s p).used = true)
    (hpick : acquirePick s (poolAt s p) = none) : ledgerAcquire p tok s = (none, raise 899 (modPool p emptyCounted s)) := by
  simp only [ledgerAcquire, hused, hpick, Bool.not_true, Bool.false_eq_true, if_false]
  rfl

/-! Publish and discard by the owner (R168, R171, R411). -/

/-- A buffer with the frame number and the capture instant of its publication, the `seq`-th. -/
def publishedAs (frame capSec capNs seq : Nat) (x : Buffer) : Buffer :=
  { x with state := .published, owner := 0, frame := frame, capSec := capSec, capNs := capNs, pubSeq := seq }

/-- The pool of a buffer is that of its number, whatever an operation does to the buffers (R170). -/
theorem poolOf_of_pools {s t : State} (h : t.ledger.pools = s.ledger.pools) (b : Nat) : poolOf t b = poolOf s b := by
  unfold poolOf poolAt
  rw [h]

theorem ledgerPublish_owner {b tok frame capSec capNs p : Nat} {s : State} (hcase : writerCase s b tok = .ok)
    (hpool : poolOf s b = some p) :
    ledgerPublish b tok frame capSec capNs s = (.ok, lowCheck p (keepRule p (recPublished p b (modBuf b
      (publishedAs frame capSec capNs s.ledger.seq) { s with ledger := { s.ledger with seq := s.ledger.seq + 1 } })))) := by
  simp only [ledgerPublish, hcase, underRelease]
  split
  · next q hq =>
    obtain rfl : q = p := Option.some.inj (hq.symm.trans ((poolOf_of_pools rfl b).trans hpool))
    rfl
  · next hq => exact absurd (hq.symm.trans ((poolOf_of_pools rfl b).trans hpool)) nofun

theorem ledgerPublish_rejected {b tok frame capSec capNs : Nat} {s : State} (hcase : writerCase s b tok = .rejected) :
    ledgerPublish b tok frame capSec capNs s = (.rejected, releaseError b tok true s) := by
  rw [ledgerPublish, hcase, underRelease]

theorem ledgerDiscard_owner {b tok : Nat} {s : State} (hcase : writerCase s b tok = .ok) (hrefs : refCount s b = 0) :
    ledgerDiscard b tok s = (.ok, lowCheckOf b (freeBuf b s)) := by
  rw [ledgerDiscard, hcase, underRelease, if_pos hrefs]

theorem ledgerDiscard_ignored {b tok : Nat} {s : State} (hcase : writerCase s b tok = .ignored) :
    ledgerDiscard b tok s = (.ignored, releaseError b tok false s) := by
  rw [ledgerDiscard, hcase, underRelease]

/-! References (R173, R174). -/

theorem ledgerTake_takes {follow : Bool} {b tok : Nat} {s : State} (h : takeRefusal follow b tok s = none) :
    ledgerTake follow b tok s =
      (none, lowCheckOf b { s with ledger := { s.ledger with refs := s.ledger.refs ++ [{ buf := b, token := tok }] } }) := by
  simp only [ledgerTake, ledgerTakeFor, h]

/-- A take that REFS or the table refuses raises event 901 and takes nothing. -/
theorem ledgerTake_full {follow : Bool} {b tok d : Nat} {s : State} (h : takeRefusal follow b tok s = some d) (hd : d ≠ 2) :
    ledgerTake follow b tok s = (some d, raise 901 s) := by
  simp only [ledgerTake, ledgerTakeFor, h, if_neg hd]

theorem ledgerRelease_holder {b tok : Nat} {s : State} (hcase : releaseCase s b tok = .ok) :
    ledgerRelease b tok s =
      (.ok, afterRelease b { s with ledger := { s.ledger with refs := dropRef b tok s.ledger.refs } }) := by
  rw [ledgerRelease, hcase, underRelease]

/-! An agent's reset (R175). -/

@[simp] theorem reclaimToken_kept (tok : Nat) (s : State) : kept (reclaimToken tok s) = kept s := by
  simp [reclaimToken]

theorem agentReclaim_only {cls inst tok : Nat} {s : State} (hdrains : s.ledger.drains = [tok])
    (htok : tokAgent tok = 32 * cls + inst) :
    agentReclaim cls inst s = reclaimToken tok { s with ledger := { s.ledger with drains := [] } } := by
  simp [agentReclaim, hdrains, htok, forEach]

/-- The reset of an agent for which no command waits is the reclaim of its tokens. -/
theorem agentReset_reclaims {cls inst : Nat} (hingest : cls ≠ clsIngest) (hrec : cls ≠ clsRecord) (hdepack : cls ≠ clsDepack)
    (s : State) : agentReset cls inst s = agentReclaim cls inst s := by
  simp only [agentReset, if_neg hingest, if_neg hrec, if_neg hdepack]

/-! The rows. -/

theorem exec_ledgerAcquire {cls : Fin 16} {inst : Fin 32} {pool : Fin 64} {s t : State} {r : Option Nat}
    (h : ledgerAcquire pool (agentToken s cls inst) s = (r, t)) : exec (.ledgerAcquire cls inst pool) s = .next t :=
  actOutside_kept (f := fun s => (ledgerAcquire pool (agentToken s cls inst) s).2) (congrArg Prod.snd h)
    (kept_of_snd h (ledgerAcquire_kept _ _ s))

theorem exec_ledgerPublish {cls : Fin 16} {inst : Fin 32} {buf : Fin 4096} {frame capSec capNs : Nat} {s t : State} {o : LgOut}
    (h : ledgerPublish buf (agentToken s cls inst) frame capSec capNs s = (o, t)) :
    exec (.ledgerPublish cls inst buf frame capSec capNs) s = .next t :=
  actOutside_kept (f := fun s => (ledgerPublish buf (agentToken s cls inst) frame capSec capNs s).2) (congrArg Prod.snd h)
    (kept_of_snd h (ledgerPublish_kept _ _ _ _ _ s))

theorem exec_ledgerDiscard {cls : Fin 16} {inst : Fin 32} {buf : Fin 4096} {s t : State} {o : LgOut}
    (h : ledgerDiscard buf (agentToken s cls inst) s = (o, t)) : exec (.ledgerDiscard cls inst buf) s = .next t :=
  actOutside_kept (f := fun s => (ledgerDiscard buf (agentToken s cls inst) s).2) (congrArg Prod.snd h)
    (kept_of_snd h (ledgerDiscard_kept _ _ s))

theorem exec_ledgerRefTake {cls : Fin 16} {inst : Fin 32} {buf : Fin 4096} {follow : Bool} {s t : State} {r : Option Nat}
    (h : ledgerTake follow buf (agentToken s cls inst) s = (r, t)) : exec (.ledgerRefTake cls inst buf follow) s = .next t :=
  actOutside_kept (f := fun s => (ledgerTake follow buf (agentToken s cls inst) s).2) (congrArg Prod.snd h)
    (kept_of_snd h (ledgerTake_kept _ _ _ s))

theorem exec_ledgerRefRelease {cls : Fin 16} {inst : Fin 32} {buf : Fin 4096} {s t : State} {o : LgOut}
    (h : ledgerRelease buf (agentToken s cls inst) s = (o, t)) : exec (.ledgerRefRelease cls inst buf) s = .next t :=
  actOutside_kept (f := fun s => (ledgerRelease buf (agentToken s cls inst) s).2) (congrArg Prod.snd h)
    (kept_of_snd h (ledgerRelease_kept _ _ s))

/-- Settles O40: each clause by the lemma of its operation. -/
theorem ledgerEvents : Obligations.LedgerEvents := by
  unfold Obligations.LedgerEvents
  refine ⟨?acquired, ?empty, ?publish, ?rejected, ?discard, ?ignored, ?take, ?full, ?release, ?stale, ?reclaim⟩
  case acquired =>
    rintro cls inst pool b rc s ⟨hused, hpick⟩
    exact exec_ledgerAcquire (ledgerAcquire_takes hused hpick)
  case empty =>
    rintro cls inst pool s ⟨hused, hpick⟩
    exact exec_ledgerAcquire (ledgerAcquire_empty hused hpick)
  case publish =>
    rintro cls inst buf frame capSec capNs p s ⟨hcur, howned, howner, hpool⟩
    exact exec_ledgerPublish (ledgerPublish_owner (writerCase_owner hcur howned howner) hpool)
  case rejected =>
    rintro cls inst buf frame capSec capNs s ⟨hcur, hpub⟩
    exact exec_ledgerPublish (ledgerPublish_rejected (writerCase_published hcur hpub))
  case discard =>
    rintro cls inst buf s ⟨hcur, howned, howner, hrefs⟩
    exact exec_ledgerDiscard (ledgerDiscard_owner (writerCase_owner hcur howned howner) hrefs)
  case ignored =>
    rintro cls inst buf s ⟨hcur, hfree⟩
    exact exec_ledgerDiscard (ledgerDiscard_ignored (writerCase_free hcur hfree))
  case take => exact fun cls inst buf follow s h => exec_ledgerRefTake (ledgerTake_takes h)
  case full =>
    rintro cls inst buf follow d s ⟨hrefusal, hd⟩
    exact exec_ledgerRefTake (ledgerTake_full hrefusal (by omega))
  case release =>
    rintro cls inst buf s ⟨hcur, hheld⟩
    exact exec_ledgerRefRelease (ledgerRelease_holder (releaseCase_holder hcur hheld))
  case stale =>
    intro b tok s f h
    rw [writerCase_stale h, releaseCase_stale h]
    exact ⟨rfl, rfl⟩
  case reclaim =>
    rintro cls inst tok s ⟨hdrains, htok, hingest, hrec, hdepack⟩
    exact actOutside_kept (f := agentReset cls inst)
      ((agentReset_reclaims hingest hrec hdepack s).trans (agentReclaim_only hdrains htok)) (reclaimToken_kept _ _)

end Sys2Proof.Machine
end

section
/-! PROOFS. The rules of the MACs' and the lanes' state: what an update of one leaves and gives, alone, after another, and for
every lane of a list. -/
namespace Sys2Proof.Machine
open Sys2Proof

theorem macAt_modMac_same (m : Nat) (f : Mac → Mac) (s : State) : macAt (modMac m f s) m = f (macAt s m) :=
  tabGet_tabMod_same _ m f

theorem macAt_modMac_other {j m : Nat} (f : Mac → Mac) (s : State) (h : j ≠ m) : macAt (modMac m f s) j = macAt s j :=
  tabGet_tabMod_other _ f h

/-- What an update of a MAC leaves of it, it leaves of all. -/
theorem macAt_modMac_keeps {α : Type} (p : Mac → α) {m : Nat} {f : Mac → Mac} (h : ∀ x, p (f x) = p x) (s : State) (j : Nat) :
    p (macAt (modMac m f s) j) = p (macAt s j) := by
  by_cases hj : j = m
  · rw [hj, macAt_modMac_same, h]
  · rw [macAt_modMac_other f s hj]

theorem modMac_congr {m : Nat} {f g : Mac → Mac} {s : State} (h : f (macAt s m) = g (macAt s m)) : modMac m f s = modMac m g s := by
  simp only [modMac, tabMod]
  rw [show f (tabGet s.mac.macs m) = g (tabGet s.mac.macs m) from h]

/-- A second update of one MAC works on what the first has left. -/
theorem modMac_modMac (m : Nat) (f g : Mac → Mac) (s : State) : modMac m g (modMac m f s) = modMac m (g ∘ f) s := by
  simp only [modMac, tabMod, tabGet_tabSet_same, tabSet_tabSet, Function.comp_apply]

theorem laneAt_modMac (m n : Nat) (f : Mac → Mac) (s : State) : laneAt (modMac m f s) n = laneAt s n := rfl

theorem macAt_modLane (m n : Nat) (f : Lane → Lane) (s : State) : macAt (modLane n f s) m = macAt s m := rfl

theorem laneAt_modLane_same (n : Nat) (f : Lane → Lane) (s : State) : laneAt (modLane n f s) n = f (laneAt s n) :=
  tabGet_tabMod_same _ n f

theorem laneAt_modLane_other {j n : Nat} (f : Lane → Lane) (s : State) (h : j ≠ n) : laneAt (modLane n f s) j = laneAt s j :=
  tabGet_tabMod_other _ f h

theorem macAt_raise (n m : Nat) (s : State) : macAt (raise n s) m = macAt s m := by simp [macAt]

theorem laneAt_raise (n k : Nat) (s : State) : laneAt (raise n s) k = laneAt s k := by simp [laneAt]

theorem macAt_raiseMac (m k j : Nat) (s : State) : macAt (raiseMac m k s) j = macAt s j := macAt_raise _ _ s

theorem laneAt_raiseMac (m k n : Nat) (s : State) : laneAt (raiseMac m k s) n = laneAt s n := laneAt_raise _ _ s

/-! Updates of every lane of a list. -/

theorem macAt_forEach_modLane (l : List Nat) (f : Nat → Lane → Lane) (s : State) (m : Nat) :
    macAt (forEach l (fun j t => modLane j (f j) t) s) m = macAt s m :=
  foldl_keeps (fun t => macAt t m = macAt s m) (fun t j => modLane j (f j) t) (fun _ _ ht => ht) l s rfl

theorem laneAt_forEach_modLane_other {l : List Nat} {n : Nat} (f : Nat → Lane → Lane) (s : State) (h : n ∉ l) :
    laneAt (forEach l (fun j t => modLane j (f j) t) s) n = laneAt s n := by
  induction l generalizing s with
  | nil => rfl
  | cons j l ih =>
    rw [List.mem_cons, not_or] at h
    exact (ih (modLane j (f j) s) h.2).trans (laneAt_modLane_other (f j) s h.1)

/-- A lane that a list names once is updated once. -/
theorem laneAt_forEach_modLane {l : List Nat} {n : Nat} (f : Nat → Lane → Lane) (s : State) (hmem : n ∈ l) (hnodup : l.Nodup) :
    laneAt (forEach l (fun j t => modLane j (f j) t) s) n = f n (laneAt s n) := by
  induction l generalizing s with
  | nil => exact absurd hmem List.not_mem_nil
  | cons j l ih =>
    obtain ⟨hout, hrest⟩ := List.nodup_cons.1 hnodup
    by_cases hj : n = j
    · subst hj
      exact (laneAt_forEach_modLane_other f (modLane n (f n) s) hout).trans (laneAt_modLane_same n (f n) s)
    · refine (ih (modLane j (f j) s) ((List.mem_cons.1 hmem).resolve_left hj) hrest).trans ?_
      rw [laneAt_modLane_other (f j) s hj]

end Sys2Proof.Machine
end

section
/-! PROOFS. The commands of the MAC ports (R181 to R183, R191, R196, R205, R208, R210, R211): each command once its checks pass,
and the statement about them. -/
namespace Sys2Proof.Machine
open Sys2Proof

theorem lengthNeed_macConfig (e : CmdEntry) (s : State) : lengthNeed (cmdOf 0x0B01 e s) = 24 := by
  simp [lengthNeed, opcodeLengths, cmdOf]

theorem lengthNeed_macSpareSet (e : CmdEntry) (s : State) : lengthNeed (cmdOf 0x0B02 e s) = 8 := by
  simp [lengthNeed, opcodeLengths, cmdOf]

theorem lengthNeed_macTxqSet (e : CmdEntry) (s : State) : lengthNeed (cmdOf 0x0B03 e s) = 4 := by
  simp [lengthNeed, opcodeLengths, cmdOf]

theorem lengthNeed_macRuleSet (e : CmdEntry) (s : State) : lengthNeed (cmdOf 0x0B04 e s) = 16 := by
  simp [lengthNeed, opcodeLengths, cmdOf]

theorem lengthNeed_macFilterSet (e : CmdEntry) (s : State) : lengthNeed (cmdOf 0x0B05 e s) = 32 := by
  simp [lengthNeed, opcodeLengths, cmdOf]

theorem lengthNeed_macStatsGet (e : CmdEntry) (s : State) : lengthNeed (cmdOf 0x0B06 e s) = 4 := by
  simp [lengthNeed, opcodeLengths, cmdOf]

theorem lengthNeed_macSleep (e : CmdEntry) (s : State) : lengthNeed (cmdOf 0x0B07 e s) = 4 := by
  simp [lengthNeed, opcodeLengths, cmdOf]

theorem anyUpTo_false {n : Nat} {p : Nat → Bool} (h : ∀ i, i < n → p i = false) : anyUpTo n p = false := by
  simpa [anyUpTo] using h

theorem askPower_granted {g : Grant} {s : State} {k : State → CmdRes} (h : refusal s g = none) : askPower g s k = k (givePower g s) := by
  rw [askPower, h]

/-! MAC_CONFIG (R181 to R184). -/

/-- A MAC_CONFIG with ENABLE 0 of a port that nothing names (R182). -/
structure MacDisablePasses (c : Cmd) (s : State) : Prop where
  length : 24 ≤ c.length
  flags : c.u8 10 ≤ 3
  dest : ∀ i, i < 8 → bit (c.u8 (12 + i)) 7 = false
  zero : Zero c 22 2
  mac : c.u8 0 ≤ 15
  enable : c.u8 1 = 0
  unnamed : macNamed s (c.u8 0) = false

/-- The port is released, unless it is off or still sends a frame. -/
theorem cmdMacConfig_disables {c : Cmd} {s : State} (h : MacDisablePasses c s) :
    cmdMacConfig c s =
      if !(macAt s (c.u8 0)).enabled then done s
      else if (macAt s (c.u8 0)).tx.cur.isSome then
        .wait (.macDown (c.u8 0)) (modMac (c.u8 0) (fun x => { x with stopping := true, toSleep := false }) s)
      else done (releaseLanes (c.u8 0) s) := by
  obtain ⟨hlen, hflags, hdest, hzero, hmac, henable, hnamed⟩ := h
  unfold cmdMacConfig
  rw [checks_pass]
  · simp [henable]
  simp [tooShort, rsvIf, bad, stateIf, rsv_pass c 22 2 hzero, anyUpTo_false hdest, hlen, hflags, hmac, henable, hnamed]

/-- The leave that a MAC_CONFIG asks for: the quads of its lanes (R181, R503). -/
abbrev configGrant (c : Cmd) : Grant := quadGrant (quadsOf (groupLanes (c.u8 4) (c.u8 5))) (modeBaud (c.u8 2) (c.u8 5))

/-- A MAC under the settings of a MAC_CONFIG: its link and its transmit side begin anew but for what outlives a configuration. -/
def macConfigured (c : Cmd) (x : Mac) : Mac :=
  { x with
    enabled := true, cfg := macCfgOf c,
    lk := { retries := x.lk.retries, downs := x.lk.downs, markerSeq := x.lk.markerSeq, scr := x.lk.scr },
    tx := { queues := x.tx.queues, underQueue := x.tx.underQueue, underBytes := x.tx.underBytes, underValid := x.tx.underValid,
            freeAt := x.tx.freeAt, alarmed := x.tx.alarmed },
    sleep := false, woke := false, starting := true, rules := [], filter := [] }

/-- The state that a granted MAC_CONFIG leaves before its link starts. -/
def macAssigned (c : Cmd) (s : State) : State :=
  modMac (c.u8 0) (macConfigured c)
    (forEach (List.range (c.u8 5)) (fun i u => modLane (c.u8 4 + i)
      (fun l => { l with use := 1, mac := c.u8 0, baud := modeBaud (c.u8 2) (c.u8 5), txLogical := i }) u) (givePower (configGrant c) s))

/-- A MAC_CONFIG with ENABLE 1 that no check and no governor refuses. -/
structure MacEnablePasses (c : Cmd) (s : State) : Prop where
  length : 24 ≤ c.length
  flags : c.u8 10 ≤ 3
  dest : ∀ i, i < 8 → bit (c.u8 (12 + i)) 7 = false ∧ c.u8 (12 + i) % 4 ≠ 3 ∧ (c.u8 (12 + i) % 4 = 2 → c.u8 (12 + i) / 4 % 32 ≤ 27)
  zero : Zero c 22 2
  mac : c.u8 0 ≤ 15
  enable : c.u8 1 = 1
  baud : modeBaud (c.u8 2) (c.u8 5) ≠ 0
  role : roleModeOk (c.u8 3) (c.u8 2) (c.u8 5) = true
  group : groupOk (c.u8 4) (c.u8 5) = true
  fec : if c.u8 2 = 1 then c.u8 6 ≤ 2 else c.u8 6 = 0
  minFrame : 64 ≤ c.u16 8
  maxFrame : c.u16 8 ≤ 16384
  precode : bit (c.u8 10) 1 = true → 2 ≤ modeBaud (c.u8 2) (c.u8 5)
  queue : if c.u8 3 = 0 then c.u8 11 ≤ 7 ∨ c.u8 11 = 255 else c.u8 11 = 0
  alarm : c.u16 20 ≤ 10000
  lanes : ∀ n ∈ groupLanes (c.u8 4) (c.u8 5), (laneAt s n).use = 0 ∧ baudConflict s n (modeBaud (c.u8 2) (c.u8 5)) = false
  room : roleFull s (c.u8 3) (c.u8 5) = false
  off : (macAt s (c.u8 0)).enabled = false
  leave : refusal s (configGrant c) = none

/-- The lanes are assigned; the command waits for the last quad that must come on, or the link starts (R181, R188). -/
theorem cmdMacConfig_enables {c : Cmd} {s : State} (h : MacEnablePasses c s) :
    cmdMacConfig c s = (lastSwitch s (configGrant c)).elim (done (startLink (c.u8 0) (macAssigned c s)))
      (fun d => .wait (.grant d) (macAssigned c s)) := by
  obtain ⟨hlen, hflags, hdest, hzero, hmac, henable, hbaud, hrole, hgroup, hfec, hmin, hmax, hprecode, hqueue, halarm, hlanes, hroom,
    hoff, hleave⟩ := h
  have hdest7 : anyUpTo 8 (fun i => bit (c.u8 (12 + i)) 7) = false := anyUpTo_false (fun i hi => (hdest i hi).1)
  have hkind : anyUpTo 8 (fun i => decide (c.u8 (12 + i) % 4 = 3) ||
      (decide (c.u8 (12 + i) % 4 = 2) && decide (27 < c.u8 (12 + i) / 4 % 32))) = false := by
    refine anyUpTo_false (fun i hi => ?_)
    obtain ⟨-, hthree, htwo⟩ := hdest i hi
    simpa [hthree] using htwo
  have hfec' : (if c.u8 2 = 1 then decide (2 < c.u8 6) else decide (c.u8 6 ≠ 0)) = false := by
    split at hfec <;> simp_all
  have hqueue' : (if decide (c.u8 3 = 0) then decide (7 < c.u8 11) && decide (c.u8 11 ≠ 255) else decide (c.u8 11 ≠ 0)) = false := by
    split at hqueue <;> simp_all
    omega
  have hprecode' : (bit (c.u8 10) 1 && !decide (2 ≤ modeBaud (c.u8 2) (c.u8 5))) = false := by simpa using hprecode
  have hused : (groupLanes (c.u8 4) (c.u8 5)).any (fun n => decide ((laneAt s n).use ≠ 0)) = false := by
    simpa using fun n hn => (hlanes n hn).1
  have hconflict : (groupLanes (c.u8 4) (c.u8 5)).any (fun n => baudConflict s n (modeBaud (c.u8 2) (c.u8 5))) = false := by
    simpa using fun n hn => (hlanes n hn).2
  unfold cmdMacConfig
  rw [checks_pass]
  · simp only [henable, decide_true, if_true, askPower_granted hleave]
    cases lastSwitch s (configGrant c) <;> rfl
  simp only [henable, decide_true, if_true, List.forall_mem_append, List.forall_mem_cons, tooShort, rsvIf, bad, stateIf,
    rsv_pass c 22 2 hzero, hdest7, hkind, hfec', hqueue', hprecode', hused, hconflict, hrole, hgroup, hroom, hoff, hbaud,
    decide_eq_false_iff_not, Bool.or_eq_false_iff, Bool.not_true, List.not_mem_nil, false_implies, implies_true, and_true, true_and,
    not_false_eq_true]
  omega

/-! MAC_SPARE_SET (R191, R193). -/

/-- The port that a MAC_SPARE_SET names takes spares, and the one it names is one of its own (R191). -/
structure SparePortPasses (c : Cmd) (s : State) : Prop where
  length : 8 ≤ c.length
  zero : Zero c 5 3
  mac : c.u8 0 ≤ 15
  index : c.u8 2 ≤ 1
  enabled : (macAt s (c.u8 0)).enabled = true
  kml : isKml (macAt s (c.u8 0)) = true
  roleMin : 1 ≤ (macAt s (c.u8 0)).cfg.role
  roleMax : (macAt s (c.u8 0)).cfg.role ≤ 3
  width : c.u8 2 < (macAt s (c.u8 0)).cfg.width / 4

/-- An assigned spare lane joins its port. -/
def spareAssigned (c : Cmd) (s : State) : State :=
  modMac (c.u8 0) (fun x => { x with lk := { x.lk with spares := tabSet x.lk.spares (c.u8 2) { valid := true, lane := c.u8 3 } } })
    (modLane (c.u8 3) (fun l => { l with use := 2, mac := c.u8 0, baud := 3 }) (givePower (spareGrant c s) s))

theorem cmdMacSpareSet_assigns {c : Cmd} {s : State} (hport : SparePortPasses c s) (h : okMacSpareSet c s) :
    cmdMacSpareSet c s = done (spareAssigned c s) := by
  obtain ⟨-, -, hact, -, hlane, -, -, -, -, -, hfree, hconflict, hnone, hleave, hswitch⟩ := h
  obtain ⟨hlen, hzero, hmac, hindex, henabled, hkml, hmin, hmax, hwidth⟩ := hport
  have hgrant : (if (macAt s (c.u8 0)).sleep then ({} : Grant) else quadGrant [c.u8 3 / 4] 3) = spareGrant c s := rfl
  unfold cmdMacSpareSet
  rw [checks_pass]
  · simp only [hact, if_true, hgrant, askPower_granted hleave, hswitch]
    rfl
  simp [tooShort, bad, stateIf, rsv_pass c 5 3 hzero, hlen, hmac, hact, hindex, hlane, henabled, hkml, hmin, hmax, hwidth, hfree,
    hconflict, hnone]

/-- A released spare lane is free, and its quad goes off where nothing else holds it on (R181). -/
def spareFreed (c : Cmd) (s : State) : State :=
  let n := (tabGet (macAt s (c.u8 0)).lk.spares (c.u8 2)).lane
  dropQuads [n / 4] (modMac (c.u8 0) (fun x => { x with lk := { x.lk with spares := tabSet x.lk.spares (c.u8 2) {} } })
    (modLane n (fun l => { ({} : Lane) with signal := l.signal, cdr := l.cdr }) s))

theorem cmdMacSpareSet_frees {c : Cmd} {s : State} (hport : SparePortPasses c s) (h : okMacSpareFree c s) :
    cmdMacSpareSet c s = done (spareFreed c s) := by
  obtain ⟨-, -, hact, -, -, -, -, -, -, hvalid, htx, hrx⟩ := h
  obtain ⟨hlen, hzero, hmac, hindex, henabled, hkml, hmin, hmax, hwidth⟩ := hport
  unfold cmdMacSpareSet
  rw [checks_pass]
  · simp only [hact]
    rfl
  simp [tooShort, bad, stateIf, rsv_pass c 5 3 hzero, hlen, hmac, hact, hindex, henabled, hkml, hmin, hmax, hwidth, hvalid, htx, hrx]

/-! Queues, rules, filters and counters (R196, R205, R208, R210). -/

/-- A transmit queue under the threshold that a MAC_TXQ_SET gives it (R196). -/
def txqSet (c : Cmd) (x : Mac) : Mac :=
  { x with tx := { x.tx with queues := tabSet x.tx.queues (c.u8 1) { base := c.u16 2, thr := c.u16 2, clean := 0 } } }

theorem cmdMacTxqSet_sets {c : Cmd} {s : State} (hlen : 4 ≤ c.length) (h : okMacTxqSet c s) :
    cmdMacTxqSet c s = done (modMac (c.u8 0) (txqSet c) s) := by
  obtain ⟨hmac, hqueue, hunit, hmin, hmax⟩ := h
  unfold cmdMacTxqSet
  rw [checks_pass]
  · rfl
  simp [tooShort, bad, hlen, hmac, hqueue, hunit, hmin, hmax]

/-- The steering rule that a MAC_RULE_SET spells (R206). -/
def ruleOf (c : Cmd) : Rule :=
  { queue := c.u8 2, vlanMode := c.u8 3, tci := c.u16 4, tciMask := c.u16 6, etype := c.u16 8, etypeMask := c.u16 10,
    dscp := c.u8 12, dscpMask := c.u8 13, l4 := c.u8 14 }

/-- With no frame on its way to a host ring the rule counts at once (R208). -/
theorem cmdMacRuleSet_sets {c : Cmd} {s : State} (hlen : 16 ≤ c.length) (h : okMacRuleSet c s) :
    cmdMacRuleSet c s =
      doneWith (leBytes 4 0) (modMac (c.u8 0) (fun x => { x with rules := tabSet x.rules (c.u8 1) (ruleOf c) }) s) := by
  obtain ⟨hzero, hdscp, hmask, hmac, hrule, hqueue, hvlan, hl4, henabled, hrole, hdrained⟩ := h
  have hqueue' : (decide (7 < c.u8 2) && decide (c.u8 2 < 254)) = false := by
    simp only [Bool.and_eq_false_iff, decide_eq_false_iff_not]
    omega
  unfold cmdMacRuleSet
  rw [checks_pass]
  · simp only [hdrained, if_true]
    rfl
  simp [tooShort, rsvIf, bad, stateIf, rsv_pass c 15 1 hzero, hqueue', hlen, hdscp, hmask, hmac, hrule, hvlan, hl4, henabled, hrole]

/-- The address filter that a MAC_FILTER_SET spells (R205). -/
def filterOf (c : Cmd) : Tab FilterEntry :=
  (List.range 4).map (fun i => (i, { valid := bit (c.u8 1) i, addr := c.bytes (8 + 6 * i) 6 }))

theorem cmdMacFilterSet_sets {c : Cmd} {s : State} (hlen : 32 ≤ c.length) (h : okMacFilterSet c s) :
    cmdMacFilterSet c s = done (modMac (c.u8 0) (fun x => { x with filter := filterOf c }) s) := by
  obtain ⟨hflags, hzero, hmac, henabled, hrole⟩ := h
  unfold cmdMacFilterSet
  rw [checks_pass]
  · rfl
  simp [tooShort, rsvIf, bad, stateIf, rsv_pass c 2 6 hzero, hlen, hflags, hmac, henabled, hrole]

theorem cmdMacStatsGet_reports {c : Cmd} {s : State} (hlen : 4 ≤ c.length) (h : okMacStatsGet c s) :
    cmdMacStatsGet c s =
      doneWith ((List.range 8).map (fun i => leBytes 6 (macLive s (macAt s (c.u8 0)) (c.u8 1 + i)))).flatten s := by
  obtain ⟨hzero, hmac, hgroup, hmax⟩ := h
  unfold cmdMacStatsGet
  rw [checks_pass]
  simp [tooShort, bad, rsv_pass c 2 2 hzero, hlen, hmac, hgroup, hmax]

/-! MAC_SLEEP (R211). -/

theorem cmdMacSleep_sleeps {c : Cmd} {s : State} (hlen : 4 ≤ c.length) (h : okMacSleepNow c s) :
    cmdMacSleep c s = done (macToSleep (c.u8 0) (c.u8 2) s) := by
  obtain ⟨hzero, hmac, hact, hdetect, henabled, hawake, hidle, hcur⟩ := h
  unfold cmdMacSleep
  rw [checks_pass]
  · simp [hact, hcur]
  simp [tooShort, bad, stateIf, rsv_pass c 3 1 hzero, hlen, hmac, hact, hdetect, henabled, hawake, hidle]

/-- A sleeping port that its governor lets wake (R211). -/
structure MacWakePasses (c : Cmd) (s : State) : Prop where
  length : 4 ≤ c.length
  zero : Zero c 3 1
  mac : c.u8 0 ≤ 15
  act : c.u8 1 = 1
  detect : c.u8 2 ≤ 2
  enabled : (macAt s (c.u8 0)).enabled = true
  asleep : (macAt s (c.u8 0)).sleep = true
  leave : refusal s (macGrant s (c.u8 0)) = none

/-- The state that a granted wake leaves before the link starts. -/
def macWoken (m : Nat) (s : State) : State :=
  modMac m (fun x => { x with sleep := false, starting := true }) (givePower (macGrant s m) s)

/-- The wake waits for the last quad that must come on, or the link starts (R188, R211). -/
theorem cmdMacSleep_wakes {c : Cmd} {s : State} (h : MacWakePasses c s) :
    cmdMacSleep c s = (lastSwitch s (macGrant s (c.u8 0))).elim (done (startLink (c.u8 0) (macWoken (c.u8 0) s)))
      (fun d => .wait (.grant d) (macWoken (c.u8 0) s)) := by
  obtain ⟨hlen, hzero, hmac, hact, hdetect, henabled, hasleep, hleave⟩ := h
  have hgrant : quadGrant (quadsOf (macLanes (macAt s (c.u8 0)) ++ spareLanes (macAt s (c.u8 0))))
      (modeBaud (macAt s (c.u8 0)).cfg.mode (macAt s (c.u8 0)).cfg.width) = macGrant s (c.u8 0) := rfl
  unfold cmdMacSleep
  rw [checks_pass]
  · simp only [hgrant, hact, decide_true, if_true, askPower_granted hleave]
    cases lastSwitch s (macGrant s (c.u8 0)) <;> rfl
  simp [tooShort, bad, stateIf, rsv_pass c 3 1 hzero, hlen, hmac, hact, hdetect, henabled, hasleep]

/-- Settles O28: each clause by the lemma of its command's form. -/
theorem macCommands : Obligations.MacCommands := by
  unfold Obligations.MacCommands
  refine ⟨?off, ?none, ?on, ?now, ?spareSet, ?spareFree, ?txq, ?rule, ?filter, ?stats, ?sleep, ?wake, ?wakeNow⟩
  case off =>
    rintro e s hserved c t ⟨hflags, hdest, hzero, hmac, henable, hnamed, hon, hcur⟩
    have hlen := lengthNeed_macConfig e s ▸ served_length hserved
    refine exec_done rfl hserved ((cmdMacConfig_disables ⟨hlen, hflags, hdest, hzero, hmac, henable, hnamed⟩).trans ?_)
    rw [hon, hcur]
    rfl
  case none =>
    rintro e s hserved c t ⟨hflags, hdest, hzero, hmac, henable, hnamed, hoff⟩
    have hlen := lengthNeed_macConfig e s ▸ served_length hserved
    refine exec_done rfl hserved ((cmdMacConfig_disables ⟨hlen, hflags, hdest, hzero, hmac, henable, hnamed⟩).trans ?_)
    rw [hoff]
    rfl
  case on =>
    rintro e s d hserved c t ⟨hflags, hdest, hzero, hmac, henable, hbaud, hrole, hgroup, hfec, hmin, hmax, hprecode, hqueue, halarm,
      hlanes, hroom, hoff, hleave, hswitch⟩
    have hlen := lengthNeed_macConfig e s ▸ served_length hserved
    refine exec_wait rfl hserved ((cmdMacConfig_enables ⟨hlen, hflags, hdest, hzero, hmac, henable, hbaud, hrole, hgroup, hfec, hmin,
      hmax, hprecode, hqueue, halarm, hlanes, hroom, hoff, hleave⟩).trans ?_)
    rw [hswitch]
    rfl
  case now =>
    rintro e s hserved c t ⟨hflags, hdest, hzero, hmac, henable, hbaud, hrole, hgroup, hfec, hmin, hmax, hprecode, hqueue, halarm,
      hlanes, hroom, hoff, hleave, hswitch⟩
    have hlen := lengthNeed_macConfig e s ▸ served_length hserved
    refine exec_done rfl hserved ((cmdMacConfig_enables ⟨hlen, hflags, hdest, hzero, hmac, henable, hbaud, hrole, hgroup, hfec, hmin,
      hmax, hprecode, hqueue, halarm, hlanes, hroom, hoff, hleave⟩).trans ?_)
    rw [hswitch]
    rfl
  case spareSet =>
    intro e s hserved c t h
    have hlen := lengthNeed_macSpareSet e s ▸ served_length hserved
    obtain ⟨hzero, hmac, -, hindex, -, hon, hkml, hmin, hmax, hwidth, -⟩ := id h
    exact exec_done rfl hserved (cmdMacSpareSet_assigns ⟨hlen, hzero, hmac, hindex, hon, hkml, hmin, hmax, hwidth⟩ h)
  case spareFree =>
    intro e s hserved c t n h
    have hlen := lengthNeed_macSpareSet e s ▸ served_length hserved
    obtain ⟨hzero, hmac, -, hindex, hon, hkml, hmin, hmax, hwidth, -⟩ := id h
    exact exec_done rfl hserved (cmdMacSpareSet_frees ⟨hlen, hzero, hmac, hindex, hon, hkml, hmin, hmax, hwidth⟩ h)
  case txq =>
    intro e s hserved c t h
    have hlen := lengthNeed_macTxqSet e s ▸ served_length hserved
    exact exec_done rfl hserved (cmdMacTxqSet_sets hlen h)
  case rule =>
    intro e s hserved c t h
    have hlen := lengthNeed_macRuleSet e s ▸ served_length hserved
    exact exec_doneWith rfl hserved (cmdMacRuleSet_sets hlen h)
  case filter =>
    intro e s hserved c t h
    have hlen := lengthNeed_macFilterSet e s ▸ served_length hserved
    exact exec_done rfl hserved (cmdMacFilterSet_sets hlen h)
  case stats =>
    intro e s hserved c t h
    have hlen := lengthNeed_macStatsGet e s ▸ served_length hserved
    exact exec_doneWith rfl hserved (cmdMacStatsGet_reports hlen h)
  case sleep =>
    intro e s hserved c t h
    have hlen := lengthNeed_macSleep e s ▸ served_length hserved
    exact exec_done rfl hserved (cmdMacSleep_sleeps hlen h)
  case wake =>
    rintro e s d hserved c t ⟨hzero, hmac, hact, hdetect, hon, hasleep, hleave, hswitch⟩
    have hlen := lengthNeed_macSleep e s ▸ served_length hserved
    refine exec_wait rfl hserved ((cmdMacSleep_wakes ⟨hlen, hzero, hmac, hact, hdetect, hon, hasleep, hleave⟩).trans ?_)
    rw [hswitch]
    rfl
  case wakeNow =>
    rintro e s hserved c t ⟨hzero, hmac, hact, hdetect, hon, hasleep, hleave, hswitch⟩
    have hlen := lengthNeed_macSleep e s ▸ served_length hserved
    refine exec_done rfl hserved ((cmdMacSleep_wakes ⟨hlen, hzero, hmac, hact, hdetect, hon, hasleep, hleave⟩).trans ?_)
    rw [hswitch]
    rfl

end Sys2Proof.Machine
end

section
/-! PROOFS. The links of the MACs (R185 to R193): what counting, markers and the transmitter leave of a MAC and of its lanes, each
row by its condition, and the statement about them. -/
namespace Sys2Proof.Machine
open Sys2Proof

/-! The Safelight domain and the waiting commands are kept. -/

@[simp] theorem linkDown_kept (m : Nat) (s : State) : kept (linkDown m s) = kept s := by
  simp only [linkDown, dropCurrent]
  split <;> simp [afterFrame]

@[simp] theorem linkLost_kept (m : Nat) (s : State) : kept (linkLost m s) = kept s := by
  simp [linkLost]

@[simp] theorem countFec_kept (m : Nat) (f : FecCounts) (s : State) : kept (countFec m f s) = kept s := by
  simp [countFec]

@[simp] theorem recordMarker_kept (m n group seq : Nat) (s : State) : kept (recordMarker m n group seq s) = kept s := by
  simp [recordMarker]

@[simp] theorem dealBlock_kept (m v : Nat) (s : State) : kept (dealBlock m v s) = kept s := by
  simp only [dealBlock]
  split <;> simp

@[simp] theorem sendBlock_kept (m : Nat) (b : Bool × Nat) (s : State) : kept (sendBlock m b s) = kept s := by
  simp [sendBlock]

@[simp] theorem fillPeriod_kept (m : Nat) (s : State) : kept (fillPeriod m s) = kept s := by
  simp [fillPeriod, idleLanes]

@[simp] theorem sendMarkers_kept (m : Nat) (s : State) : kept (sendMarkers m s) = kept s := by
  simp [sendMarkers]

/-! What counting leaves of the MACs and the lanes. -/

/-- A MAC but for what counting changes of it. -/
def uncounted (x : Mac) : Mac := { x with ctr := [], half := 0 }

theorem macCount_uncounted (m k n j : Nat) (s : State) : uncounted (macAt (macCount m k n s) j) = uncounted (macAt s j) := by
  simp only [macCount]
  split
  · rw [macAt_raiseMac, macAt_modMac_keeps uncounted, macAt_modMac_keeps uncounted] <;> exact fun _ => rfl
  · rw [macAt_modMac_keeps uncounted]
    exact fun _ => rfl

theorem laneAt_macCount (m k n j : Nat) (s : State) : laneAt (macCount m k n s) j = laneAt s j := by
  simp only [macCount]
  split <;> simp only [laneAt_raiseMac, laneAt_modMac]

theorem countFec_uncounted (m : Nat) (f : FecCounts) (s : State) (j : Nat) :
    uncounted (macAt (countFec m f s) j) = uncounted (macAt s j) := by
  have hadd : ∀ (k n : Nat) (t : State),
      uncounted (macAt (if n = 0 then t else macCount m k n t) j) = uncounted (macAt t j) := by
    intro k n t
    split
    · rfl
    · exact macCount_uncounted m k n j t
  simp only [countFec, hadd]

theorem laneAt_countFec (m : Nat) (f : FecCounts) (s : State) (j : Nat) : laneAt (countFec m f s) j = laneAt s j := by
  have hadd : ∀ (k n : Nat) (t : State), laneAt (if n = 0 then t else macCount m k n t) j = laneAt t j := by
    intro k n t
    split
    · rfl
    · exact laneAt_macCount m k n j t
  simp only [countFec, hadd]

theorem linkUp_of_uncounted {x y : Mac} (h : uncounted x = uncounted y) : linkUp x = linkUp y :=
  (congrArg linkUp h :)

/-! What a marker records (R187, R190). -/

theorem laneAt_recordMarker_same (m n group seq : Nat) (s : State) :
    laneAt (recordMarker m n group seq s) n =
      { laneAt s n with signal := true, cdr := true, marker := true, fault := false, seq := seq % 65536, seqAt := runTime s,
                        groupOk := decide (group = (macAt s m).cfg.linkId) } := by
  simp only [recordMarker, laneAt_modMac, laneAt_modLane_same]

theorem groupDiffers_modMac (m : Nat) (f : Mac → Mac) (s : State) (x : Mac) : groupDiffers (modMac m f s) x = groupDiffers s x := rfl

/-- A marker changes nothing of its MAC but whether some lane's group differs. -/
theorem macAt_recordMarker (m n group seq : Nat) (s : State) :
    macAt (recordMarker m n group seq s) m =
      { macAt s m with lk := { (macAt s m).lk with idMismatch := groupDiffers (recordMarker m n group seq s) (macAt s m) } } := by
  simp only [recordMarker, macAt_modMac_same, macAt_modLane]
  rfl

/-! Link states that an event leaves alone (R188, R192). -/

theorem advanceLink_up {m peerUp : Nat} {s : State} (h : (macAt s m).lk.link = .up) : advanceLink m peerUp s = s := by
  simp [advanceLink, h]

theorem sparingDone_of_not_sparing {m : Nat} {s : State} (h : (macAt s m).lk.link ≠ .sparing) : sparingDone m s = s := by
  simp [sparingDone, h]

/-- A lane that already carries what its marker names stays. -/
theorem followLane_in_place {m n lane seq : Nat} {ok : Bool} {s : State} (hlane : lane < (macAt s m).cfg.width)
    (hplace : (laneAt s n).rxLogical = lane) : followLane m n lane ok seq s = s := by
  simp [followLane, hlane, hplace]

/-- A peer that asks for no spare. -/
theorem takePeerRlf_none {m : Nat} {s : State} (h : linkUp (macAt s m) = true) :
    takePeerRlf m 0 s = modMac m (fun x => { x with lk := { x.lk with peerRlf := 0 } }) s := by
  have hbits : rlfBits 0 = [] := by decide
  rw [takePeerRlf, if_pos h, hbits]
  rfl

/-! What the transmitter leaves of the MACs (R185, R186). -/

/-- A MAC but for what its KML-56 transmitter moves on. -/
def unsent (x : Mac) : Mac := { x with lk := { x.lk with scr := 0, blks := [], dealt := 0 } }

theorem forEach_macs {α β : Type} {p : Mac → β} {j : Nat} {f : α → State → State} (h : ∀ a t, p (macAt (f a t) j) = p (macAt t j))
    (l : List α) (s : State) : p (macAt (forEach l f s) j) = p (macAt s j) :=
  foldl_keeps (fun t => p (macAt t j) = p (macAt s j)) (fun t a => f a t) (fun t a ht => (h a t).trans ht) l s rfl

theorem dealBlock_unsent (m v : Nat) (s : State) (j : Nat) : unsent (macAt (dealBlock m v s) j) = unsent (macAt s j) := by
  simp only [dealBlock]
  split
  · rw [macAt_modLane, macAt_modMac_keeps unsent]
    exact fun _ => rfl
  · rw [macAt_modMac_keeps unsent]
    exact fun _ => rfl

theorem sendBlock_unsent (m : Nat) (b : Bool × Nat) (s : State) (j : Nat) :
    unsent (macAt (sendBlock m b s) j) = unsent (macAt s j) := by
  simp only [sendBlock]
  split
  · rw [macAt_modMac_keeps unsent]
    exact fun _ => rfl
  · rw [dealBlock_unsent, macAt_modMac_keeps unsent]
    exact fun _ => rfl

theorem fillPeriod_unsent (m : Nat) (s : State) (j : Nat) : unsent (macAt (fillPeriod m s) j) = unsent (macAt s j) := by
  simp only [fillPeriod, idleLanes, forUpTo_eq_forEach]
  rw [forEach_macs (fun n t => congrArg unsent (macAt_modLane j n _ t)),
    forEach_macs (fun _ t => sendBlock_unsent m idleBlock t j)]

theorem link_of_unsent {x y : Mac} (h : unsent x = unsent y) :
    x.lk.link = y.lk.link ∧ x.lk.markerSeq = y.lk.markerSeq ∧ x.lk.moves = y.lk.moves :=
  ⟨(congrArg (fun z => z.lk.link) h :), (congrArg (fun z => z.lk.markerSeq) h :), (congrArg (fun z => z.lk.moves) h :)⟩

/-! Markers received (R187, R188). -/

/-- What follows the record of a marker on a lane in step with an UP link, whose peer asks for no spare: nothing but that. -/
theorem markerInStep_settles {m n lane seq : Nat} {ok : Bool} {s : State} (hlink : (macAt s m).lk.link = .up)
    (hup : linkUp (macAt s m) = true) (hlane : lane < (macAt s m).cfg.width) (hplace : (laneAt s n).rxLogical = lane) :
    sparingDone m (takePeerRlf m 0 (advanceLink m 1 (followLane m n lane ok seq s))) =
      modMac m (fun x => { x with lk := { x.lk with peerRlf := 0 } }) s := by
  rw [followLane_in_place hlane hplace, advanceLink_up hlink, takePeerRlf_none hup, sparingDone_of_not_sparing]
  simp [macAt_modMac_same, hlink]

/-- A MAC whose peer is up and asks for no spare (R188, R191). -/
def peerWell (x : Mac) : Mac := { x with lk := { x.lk with peerDown := 0, peerRlf := 0 } }

theorem kmlMarker_inStep {lane : Fin 24} {m logical group seq linkState : Nat} {fec : FecCounts} {s : State}
    (h : okKmlMarkerReceived lane m logical group seq linkState fec s) :
    kmlMarker lane logical group 0 seq linkState fec s =
      modMac m peerWell (recordMarker m lane group seq
        (countFec m { fec with codewords := markerCodewords (laneAt s lane) seq fec.codewords } s)) := by
  obtain ⟨hmac, huse, hon, hkml, hawake, hstarted, hlink, hplace, hlane, -, hpeer⟩ := h
  generalize hfec : ({ fec with codewords := markerCodewords (laneAt s lane) seq fec.codewords } : FecCounts) = counts
  generalize hr : recordMarker m lane group seq (countFec m counts s) = r
  have hcounted : uncounted (macAt (countFec m counts s) m) = uncounted (macAt s m) := countFec_uncounted m counts s m
  have hrecorded := macAt_recordMarker m lane group seq (countFec m counts s)
  rw [hr] at hrecorded
  have hrlink : (macAt r m).lk.link = .up := by
    rw [hrecorded]
    exact (congrArg (fun x => x.lk.link) hcounted :).trans hlink
  have hrup : linkUp (macAt r m) = true := by
    rw [hrecorded]
    refine (linkUp_of_uncounted hcounted :).trans ?_
    simp [linkUp, hon, hawake, hlink]
  have hrwidth : (macAt r m).cfg.width = (macAt s m).cfg.width := by
    rw [hrecorded]
    exact congrArg (fun x => x.cfg.width) hcounted
  have hrplace : (laneAt r lane).rxLogical = logical := by
    rw [← hr, laneAt_recordMarker_same, laneAt_countFec]
    exact hplace
  simp only [kmlMarker, hmac, huse, hon, hkml, hawake, hstarted, hfec, hr, hpeer, if_true]
  rw [markerInStep_settles] <;> simp only [macAt_modMac_same, laneAt_modMac]
  · rw [if_neg (by decide), if_neg (fun hlate => absurd hlate.2 (by decide)), modMac_modMac]
    rfl
  · exact hrlink
  · exact hrup
  · rw [hrwidth]
    exact hlane
  · exact hrplace

/-! Lanes that a marker places (R187). -/

theorem laneAt_placeLane {m n k j : Nat} {s : State} (hmem : j ∈ macLanes (macAt s m))
    (hnodup : (macLanes (macAt s m) ++ spareLanes (macAt s m)).Nodup) :
    (laneAt (placeLane m n k s) j).rxLogical =
      if j = n then k else if (laneAt s j).rxLogical = k ∧ k ≠ 15 then 15 else (laneAt s j).rxLogical := by
  simp only [placeLane, laneAt_modMac]
  rw [laneAt_forEach_modLane (fun j l => if j = n then { l with rxLogical := k }
    else if l.rxLogical = k ∧ k ≠ 15 then { l with rxLogical := 15 } else l) s (List.mem_append_left _ hmem) hnodup]
  simp only [apply_ite Lane.rxLogical]

/-! Links that do not come up (R188), and lane faults (R190, R191). -/

theorem adaptTimeout_again {mac : Fin 16} {s : State} (h : okAdaptTimeout mac s) :
    adaptTimeout mac s = readapt mac (modMac mac (fun x => { x with lk := { x.lk with retries := satAdd 65535 x.lk.retries 1 } }) s) :=
  if_pos h

/-- A fault shown on a lane, with event 3 of its MAC (R190). -/
def laneFaulted (m n cause : Nat) (s : State) : State := raiseMac m 3 (modLane n (faultedLane cause) s)

/-- A MAC notes whether the groups of its lanes differ (R188). -/
def groupsCompared (m : Nat) (s : State) : State :=
  modMac m (fun x => { x with lk := { x.lk with idMismatch := groupDiffers s (macAt s m) } }) s

/-- A new fault on a lane of an awake MAC is shown; of a KML-56 link it bears on the groups, and one that is UP seeks a spare. -/
theorem laneFault_new {n m cause : Nat} {s : State} (hmac : (laneAt s n).mac = m) (huse : (laneAt s n).use ≠ 0)
    (hon : (macAt s m).enabled = true) (hawake : (macAt s m).sleep = false) (hnew : (laneAt s n).fault = false)
    (hcause : isKml (macAt s m) = false → cause < 2) :
    laneFault n cause s =
      if !isKml (macAt s m) then laneFaulted m n cause s
      else if linkUp (macAt s m) then seekSpare m n (laneAt s n).rxLogical (groupsCompared m (laneFaulted m n cause s))
      else groupsCompared m (laneFaulted m n cause s) := by
  have hchanged : faultedLane cause (laneAt s n) ≠ laneAt s n := by
    intro heq
    have hfault : true = (laneAt s n).fault := congrArg Lane.fault heq
    rw [hnew] at hfault
    exact absurd hfault (by decide)
  have hshown : ¬ (2 ≤ cause ∧ (!isKml (macAt s m)) = true) := by
    rintro ⟨htwo, hkml⟩
    have := hcause (by simpa using hkml)
    omega
  have hgroups : modMac m (fun x => { x with lk := { x.lk with
      idMismatch := groupDiffers (raiseMac m 3 (modLane n (faultedLane cause) s)) x } })
      (raiseMac m 3 (modLane n (faultedLane cause) s)) = groupsCompared m (laneFaulted m n cause s) := modMac_congr rfl
  simp only [laneFault, hmac]
  rw [if_neg (by simp [huse, hon, hawake, hchanged] ; simpa using hshown)]
  simp only [hgroups]
  rfl

theorem laneAt_laneFaulted (m n cause : Nat) (s : State) : laneAt (laneFaulted m n cause s) n = faultedLane cause (laneAt s n) :=
  (laneAt_raiseMac m 3 n _).trans (laneAt_modLane_same n _ s)

theorem macAt_laneFaulted (m n cause j : Nat) (s : State) : macAt (laneFaulted m n cause s) j = macAt s j := macAt_raiseMac m 3 j _

theorem freeRxSpares_none {s : State} {x : Mac} (h0 : (tabGet x.lk.spares 0).valid = false)
    (h1 : (tabGet x.lk.spares 1).valid = false) : freeRxSpares s x = 0 := by
  simp [freeRxSpares, h0, h1]

/-- Logical lane `k` of a MAC asks its peer for a spare (R191). -/
def spareAsked (m k : Nat) : State → State := modMac m (fun x => { x with lk := { x.lk with rlf := Nat.lor x.lk.rlf (2 ^ k) } })

/-- A faulted data lane that carries a logical lane. -/
theorem seekSpare_data {m n k : Nat} {s : State} (huse : (laneAt s n).use ≠ 2) (hk : k ≠ 15) :
    seekSpare m n k s =
      if freeRxSpares (spareAsked m k s) (macAt (spareAsked m k s) m) < (rlfBits (macAt (spareAsked m k s) m).lk.rlf).length then
        linkLost m (spareAsked m k s)
      else setLink m .sparing (spareAsked m k s) := by
  simp only [seekSpare, if_neg huse, if_neg hk]
  rfl

/-- With no spare assigned, a faulted lane that carries logical lane 0 takes the link down (R191). -/
theorem seekSpare_none {m n : Nat} {s : State} (huse : (laneAt s n).use = 1) (hrlf : (macAt s m).lk.rlf = 0)
    (hnone0 : (tabGet (macAt s m).lk.spares 0).valid = false) (hnone1 : (tabGet (macAt s m).lk.spares 1).valid = false) :
    seekSpare m n 0 s = linkLost m (spareAsked m 0 s) := by
  have hasked : (macAt (spareAsked m 0 s) m).lk.rlf = 1 := by
    rw [spareAsked, macAt_modMac_same]
    show Nat.lor (macAt s m).lk.rlf 1 = 1
    rw [hrlf]
    rfl
  have hnone : freeRxSpares (spareAsked m 0 s) (macAt (spareAsked m 0 s) m) = 0 := by
    refine freeRxSpares_none ?_ ?_ <;> rw [spareAsked, macAt_modMac_same]
    · exact hnone0
    · exact hnone1
  rw [seekSpare_data (by rw [huse]; decide) (by decide), if_pos]
  rw [hnone, hasked]
  decide

theorem spareAsked_groupsCompared {m : Nat} {s : State} (h : (macAt s m).lk.rlf = 0) :
    spareAsked m 0 (groupsCompared m s) =
      modMac m (fun x => { x with lk := { x.lk with idMismatch := groupDiffers s (macAt s m), rlf := 1 } }) s := by
  rw [spareAsked, groupsCompared, modMac_modMac]
  refine modMac_congr ?_
  simp only [Function.comp_apply, h]
  rfl

/-! The link state (R188, R189). -/

theorem setLink_rises {m : Nat} {l : Link} {s : State} (hwas : linkUp (macAt s m) = false)
    (his : linkUp (macAt (modMac m (fun x => { x with lk := { x.lk with link := l } }) s) m) = true) :
    setLink m l s = recFeeds m (raiseMac m 0 (modMac m (fun x => { x with lk := { x.lk with link := l } }) s)) := by
  simp only [setLink, hwas, his]
  rfl

/-- What an Ethernet MAC takes from a report of its PCS before its link follows it (R189, R210). -/
def pcsReported (m : Nat) (lock localF remoteF : Bool) (fec : FecCounts) (s : State) : State :=
  modMac m (fun x => { x with lk := { x.lk with localFault := localF, remoteFault := remoteF, sendsRf := !lock || localF } })
    (countFec m (if (macAt s m).cfg.mode = 1 ∧ (macAt s m).cfg.fec = 0 then { pcsErrors := fec.pcsErrors } else fec) s)

theorem ethLinkChange_follows {mac : Fin 16} {lock localF remoteF : Bool} {fec : FecCounts} {s : State} (h : okEthLinkUp mac fec s) :
    ethLinkChange mac lock localF remoteF fec s =
      if lock ∧ !localF ∧ !remoteF then setLink mac .up (pcsReported mac lock localF remoteF fec s)
      else if linkUp (macAt s mac) then linkDown mac (pcsReported mac lock localF remoteF fec s)
      else modMac mac (fun x => { x with lk := { x.lk with link := .down } }) (pcsReported mac lock localF remoteF fec s) := by
  obtain ⟨hon, hkml, hawake, hstarted⟩ := h
  simp only [ethLinkChange, pcsReported, Bool.and_eq_true, decide_eq_true_eq]
  rw [if_neg (by simp [hon, hkml, hawake, hstarted])]

/-! Marker points (R186, R191, R192). -/

/-- A MAC at a marker point with no move that waits. -/
def markerPassed (seq : Nat) (x : Mac) : Mac := { x with lk := ageSwitches { x.lk with markerSeq := (seq + 1) % 65536 } }

theorem macAt_sendMarkers (m : Nat) (s : State) :
    macAt (sendMarkers m s) m = { macAt s m with lk := { (macAt s m).lk with dealt := (macAt s m).cfg.width } } := by
  simp only [sendMarkers, macAt_modMac_same, macAt_forEach_modLane]

theorem macAt_sendMarkers_link (m : Nat) (s : State) : (macAt (sendMarkers m s) m).lk.link = (macAt s m).lk.link := by
  rw [macAt_sendMarkers]

theorem markerPassed_link (seq : Nat) (x : Mac) : (markerPassed seq x).lk.link = x.lk.link := rfl

theorem modMac_markerPassed {m seq now : Nat} {t : State} (hseq : (macAt t m).lk.markerSeq = seq)
    (hmoves : (macAt t m).lk.moves = []) :
    modMac m (fun x => { x with lk := ageSwitches { x.lk with
      markerSeq := (x.lk.markerSeq + 1) % 65536, moves := x.lk.moves.filter (fun v => !decide (v.notBefore ≤ now)) } }) t =
      modMac m (markerPassed seq) t := by
  refine modMac_congr ?_
  simp only [markerPassed, hmoves, hseq, List.filter_nil]

theorem linkUp_of_adapt {x : Mac} (h : x.lk.link = .adapt) : linkUp x = false := by
  simp [linkUp, h]

theorem txMarkerPoint_adapting {mac : Fin 16} {s : State} (h : okTxMarkerPoint mac s) :
    txMarkerPoint mac s = sendMarkers mac (modMac mac (markerPassed (macAt s mac).lk.markerSeq) (fillPeriod mac s)) := by
  obtain ⟨hon, hkml, hawake, hlink, hmoves⟩ := h
  obtain ⟨hflink, hfseq, hfmoves⟩ := link_of_unsent (fillPeriod_unsent mac s mac)
  have hsent : (macAt (sendMarkers mac (modMac mac (markerPassed (macAt s mac).lk.markerSeq) (fillPeriod mac s))) mac).lk.link =
      .adapt := by
    rw [macAt_sendMarkers_link, macAt_modMac_same, markerPassed_link, hflink, hlink]
  have hnone : ∀ t, forEach [] (applyMove mac) t = t := fun _ => rfl
  simp only [txMarkerPoint, hmoves, List.filter_nil, List.isEmpty_nil, if_true, hnone,
    modMac_markerPassed hfseq (hfmoves.trans hmoves)]
  rw [if_neg (by simp [hon, hkml, hawake, hlink]), sparingDone_of_not_sparing (by rw [hsent]; decide),
    linkUp_of_adapt hsent, if_neg (fun hlate => Bool.false_ne_true hlate.1)]

/-- Every lane and spare sends its marker, as the first block of a codeword (R186). -/
theorem laneAt_sendMarkers {m n : Nat} {s : State} (hmem : n ∈ macLanes (macAt s m) ++ spareLanes (macAt s m))
    (hnodup : (macLanes (macAt s m) ++ spareLanes (macAt s m)).Nodup) :
    laneAt (sendMarkers m s) n =
      { laneAt s n with markerOut := markerBytes (macAt s m) (laneAt s n), bip := 0,
                        blocks := [2 * leNat (markerBytes (macAt s m) (laneAt s n))] } := by
  simp only [sendMarkers, laneAt_modMac]
  exact laneAt_forEach_modLane (fun _ l =>
    { l with markerOut := markerBytes (macAt s m) l, bip := 0, blocks := [2 * leNat (markerBytes (macAt s m) l)] }) s hmem hnodup

/-! Codewords (R185). -/

theorem rsGenerator_length : rsGenerator.length = 30 := by decide +kernel

/-- A message has 30 parity symbols, of a generator of 30 terms. -/
theorem rsParity_length {g : List Nat} (hg : g.length = 30) (msg : List Nat) : (rsParity g msg).length = 30 := by
  unfold rsParity
  exact foldl_keeps (fun r : List Nat => r.length = 30) _ (fun r m hr => by simp [hr, hg]) msg _ List.length_replicate

theorem codeword_length (b : List Nat) : (codeword b).length = 544 := by
  rw [codeword, List.length_append, rsParity_length rsGenerator_length, List.length_map, List.length_range]

theorem codeword_take (b : List Nat) :
    (codeword b).take 514 = (List.range 514).map (fun j => b.foldr (fun b a => b + 2 ^ 257 * a) 0 / 2 ^ (10 * j) % 1024) :=
  List.take_left' (by rw [List.length_map, List.length_range])

/-- Settles O42: each clause by the lemma of its event. -/
theorem linkEvents : Obligations.LinkEvents := by
  unfold Obligations.LinkEvents
  refine ⟨?marker, ?record, ?place, ?adapt, ?faultPlain, ?faultNotUp, ?faultNoSpare, ?cdr, ?point, ?send, ?bytes, ?codeword, ?ethUp,
    ?ethDown, ?rises⟩
  case marker =>
    intro lane m logical group seq linkState fec s h
    exact actOutside_kept (kmlMarker_inStep h) (by simp)
  case record =>
    intro m n group seq s _
    refine ⟨laneAt_recordMarker_same m n group seq s, ?_⟩
    rw [macAt_recordMarker]
  case place =>
    intro m n k s hmem hnodup
    refine ⟨?_, fun j hj hne hk => ?_⟩
    · rw [laneAt_placeLane hmem hnodup, if_pos rfl]
    · rw [laneAt_placeLane hj hnodup, if_neg hne]
      split
      · exact hk.symm
      · next hother => exact fun heq => hother ⟨heq, hk⟩
  case adapt => exact fun mac s h => actOutside_kept (adaptTimeout_again h) (by simp)
  case faultPlain =>
    rintro lane m cause s ⟨hmac, huse, hon, hawake, hnew, hkml, hcause⟩
    refine actOutside_kept ((laneFault_new hmac huse hon hawake hnew (fun _ => hcause)).trans ?_) (by simp)
    rw [hkml]
    rfl
  case faultNotUp =>
    rintro lane m cause s ⟨hmac, huse, hon, hawake, hnew, hkml, hdown⟩ u
    refine actOutside_kept ((laneFault_new hmac huse hon hawake hnew (by simp [hkml])).trans ?_) (by simp [u])
    rw [hkml, hdown]
    rfl
  case faultNoSpare =>
    rintro lane m cause s ⟨hmac, -, hon, hawake, hnew, hkml, hup, huse, hplace, hrlf, hnone0, hnone1⟩ u
    refine actOutside_kept ((laneFault_new hmac (by simp [huse]) hon hawake hnew (by simp [hkml])).trans ?_) (by simp [u])
    have hshown : (laneAt (groupsCompared m (laneFaulted m lane cause s)) lane).use = 1 := by
      rw [groupsCompared, laneAt_modMac, laneAt_laneFaulted]
      exact huse
    rw [hkml, hup, hplace]
    refine (seekSpare_none hshown ?_ ?_ ?_).trans (congrArg (linkLost m) (spareAsked_groupsCompared ?_))
    all_goals simpa only [groupsCompared, macAt_modMac_same, macAt_laneFaulted]
  case cdr => exact fun lane s => actOutside_kept rfl (by simp)
  case point => exact fun mac s h => actOutside_kept (txMarkerPoint_adapting h) (by simp)
  case send =>
    intro m n s hmem hnodup
    rw [laneAt_sendMarkers hmem hnodup, macAt_sendMarkers]
    exact ⟨rfl, rfl, rfl⟩
  case bytes => exact fun x l => ⟨rfl, rfl, rfl, rfl, rfl, rfl⟩
  case codeword => exact fun b _ => ⟨codeword_length b, codeword_take b⟩
  case ethUp =>
    intro mac fec s h
    exact actOutside_kept (ethLinkChange_follows h) (by simp)
  case ethDown =>
    rintro mac lock localF remoteF fec s ⟨hon, hkml, hawake, hstarted, hfault, hup⟩
    refine actOutside_kept ((ethLinkChange_follows ⟨hon, hkml, hawake, hstarted⟩).trans ?_) (by simp)
    rw [if_neg (by rcases hfault with h | h | h <;> simp [h]), if_pos hup]
    rfl
  case rises => exact fun m l s => setLink_rises

end Sys2Proof.Machine
end

section
/-! PROOFS. What the engines leave of the MACs when a frame of theirs has left or has failed (R197, R209, R419, R430): the frame
store, the ledger and the streams' records leave the MAC part alone, and what an engine sends next only joins the frames that wait. -/
namespace Sys2Proof.Machine
open Sys2Proof

@[simp] theorem mac_ite {c : Prop} [Decidable c] (a b : State) : (if c then a else b).mac = if c then a.mac else b.mac :=
  apply_ite State.mac c a b

theorem foldl_mac {α : Type} {f : State → α → State} (h : ∀ t a, (f t a).mac = t.mac) (l : List α) (s : State) :
    (l.foldl f s).mac = s.mac :=
  foldl_keeps (fun t => t.mac = s.mac) f (fun t a ht => (h t a).trans ht) l s rfl

@[simp] theorem forEach_mac {α : Type} {f : α → State → State} (h : ∀ a t, (f a t).mac = t.mac) (l : List α) (s : State) :
    (forEach l f s).mac = s.mac := foldl_mac (fun t a => h a t) l s

@[simp] theorem forUpTo_mac {f : Nat → State → State} (h : ∀ a t, (f a t).mac = t.mac) (n : Nat) (s : State) :
    (forUpTo n f s).mac = s.mac := foldl_mac (fun t a => h a t) _ s

/-! The MAC part is left alone by answers, the fault log, the frame store and the ledger. -/

@[simp] theorem postFinal_mac (c : Cmd) (st : Status) (d : Nat) (r : List Byte) (s : State) : (postFinal c st d r s).mac = s.mac := by
  simp [postFinal, bumpEpoch]

@[simp] theorem finishCmds_mac (p : Cmd → Bool) (st : Status) (d : Nat) (r : List Byte) (s : State) :
    (finishCmds p st d r s).mac = s.mac := by
  simp [finishCmds]

@[simp] theorem finishWait_mac (w : WaitFor) (st : Status) (d : Nat) (r : List Byte) (s : State) :
    (finishWait w st d r s).mac = s.mac := finishCmds_mac _ st d r s

@[simp] theorem logFault_mac (kind unit detail : Nat) (s : State) : (logFault kind unit detail s).mac = s.mac := by
  simp [logFault]

@[simp] theorem wakeRank_mac (c loc : Nat) (s : State) : (wakeRank c loc s).mac = s.mac := by
  simp [wakeRank]

theorem withUsable_mac {f : State → State} {s : State} (h : (f s).mac = s.mac) : (withUsable f s).mac = s.mac := by
  simp [withUsable, h]

@[simp] theorem startRetire_mac (c : Nat) (s : State) : (startRetire c s).mac = s.mac := by
  rw [startRetire, raise_mac]
  exact withUsable_mac rfl

@[simp] theorem autoRetire_mac (c : Nat) (s : State) : (autoRetire c s).mac = s.mac := by
  simp [autoRetire]

@[simp] theorem reportCe_mac (line : Nat) (s : State) : (reportCe line s).mac = s.mac := by
  simp [reportCe, countCe]

@[simp] theorem reportUe_mac (line : Nat) (s : State) : (reportUe line s).mac = s.mac := by
  simp [reportUe, countUe, patrolLog, fsUeFault]

@[simp] theorem fsReadLine_mac (line : Nat) (s : State) : (fsReadLine line s).2.2.mac = s.mac := by
  simp only [fsReadLine]
  (repeat' split) <;> simp

@[simp] theorem fsWriteLine_mac (line off : Nat) (b : List Byte) (s : State) : (fsWriteLine line off b s).mac = s.mac := by
  simp [fsWriteLine]

@[simp] theorem fsWrite_mac (fsa : Nat) (b : List Byte) (s : State) : (fsWrite fsa b s).mac = s.mac := by
  simp only [fsWrite]
  split
  · rfl
  · exact foldl_mac (fun t i => fsWriteLine_mac _ _ _ t) _ s

@[simp] theorem lowCheck_mac (p : Nat) (s : State) : (lowCheck p s).mac = s.mac := by
  simp [lowCheck, updateLow, raiseIn]

@[simp] theorem freeBuf_mac (b : Nat) (s : State) : (freeBuf b s).mac = s.mac := by
  simp [freeBuf]

@[simp] theorem keepRule_mac (p : Nat) (s : State) : (keepRule p s).mac = s.mac := by
  simp [keepRule]

@[simp] theorem afterRelease_mac (b : Nat) (s : State) : (afterRelease b s).mac = s.mac := by
  simp only [afterRelease]
  split <;> simp

theorem underRelease_mac {f : State → State} {s : State} (hf : (f s).mac = s.mac) (o : LgOut) (b tok : Nat) :
    (underRelease o b tok f s).2.mac = s.mac := by
  cases o <;> simp [underRelease, releaseError, hf]

@[simp] theorem ledgerRelease_mac (b tok : Nat) (s : State) : (ledgerRelease b tok s).2.mac = s.mac :=
  underRelease_mac (f := fun s => afterRelease b { s with ledger.refs := dropRef b tok s.ledger.refs }) (afterRelease_mac b _) _ b tok

@[simp] theorem ledgerReleaseFor_mac (holder b tok : Nat) (s : State) : (ledgerReleaseFor holder b tok s).2.mac = s.mac :=
  ledgerRelease_mac b tok _

/-! The MAC part is left alone by what a clip lets go and by the end of a packet. -/

@[simp] theorem modCopy_mac (i : Nat) (f : Copy → Copy) (s : State) : (modCopy i f s).mac = s.mac := by
  simp [modCopy]

@[simp] theorem raiseRec_mac (c k : Nat) (s : State) : (raiseRec c k s).mac = s.mac := by
  simp [raiseRec]

@[simp] theorem raiseMag_mac (i k : Nat) (s : State) : (raiseMag i k s).mac = s.mac := by
  simp [raiseMag]

@[simp] theorem dropPictures_mac (c : Nat) (l : List ClipPicture) (s : State) : (dropPictures c l s).mac = s.mac := by
  simp [dropPictures]

@[simp] theorem recRelease_mac (c : Nat) (s : State) : (recRelease c s).mac = s.mac := by
  simp [recRelease]

@[simp] theorem recEnd_mac (c : Nat) (s : State) : (recEnd c s).mac = s.mac := by
  simp [recEnd, disarmRec, outputStops, releaseCost, updateOver]

@[simp] theorem endHold_mac (c : Nat) (s : State) : (endHold c s).mac = s.mac := by
  simp only [endHold]
  split <;> simp

@[simp] theorem slotFree_mac (i : Nat) (s : State) : (slotFree i s).mac = s.mac := by
  simp [slotFree]

@[simp] theorem holdDone_mac (n id : Nat) (s : State) : (holdDone n id s).mac = s.mac := by
  simp only [holdDone]
  (repeat' split) <;> simp

@[simp] theorem subDisabled_mac (n : Nat) (s : State) : (subDisabled n s).mac = s.mac := by
  simp only [subDisabled]
  (repeat' split) <;> simp

@[simp] theorem packetGone_mac (m n : Nat) (sent : Bool) (s : State) : (packetGone m n sent s).mac = s.mac := by
  simp only [packetGone]
  split <;> simp [copyLeft]

/-! What is sent next joins the frames that wait at a MAC, or is counted there. -/

/-- A MAC but for its link, its frames and its counters. -/
def settings (x : Mac) : Mac := { x with lk := {}, tx := {}, ctr := [], half := 0 }

/-- The settings of every MAC. -/
def allSettings (p : MacPart) (m : Nat) : Mac := settings (tabGet p.macs m)

@[simp] theorem allSettings_ite {c : Prop} [Decidable c] (a b : MacPart) :
    allSettings (if c then a else b) = if c then allSettings a else allSettings b := apply_ite allSettings c a b

@[simp] theorem forEach_settings {α : Type} {f : α → State → State} (h : ∀ a t, allSettings (f a t).mac = allSettings t.mac)
    (l : List α) (s : State) : allSettings (forEach l f s).mac = allSettings s.mac :=
  foldl_keeps (fun t => allSettings t.mac = allSettings s.mac) _ (fun t a ht => (h a t).trans ht) l s rfl

theorem modMac_settings {m : Nat} {f : Mac → Mac} (h : ∀ x, settings (f x) = settings x) (s : State) :
    allSettings (modMac m f s).mac = allSettings s.mac :=
  funext (fun j => macAt_modMac_keeps settings h s j)

@[simp] theorem macCount_settings (m k n : Nat) (s : State) : allSettings (macCount m k n s).mac = allSettings s.mac := by
  funext j
  exact (congrArg settings (macCount_uncounted m k n j s) :)

@[simp] theorem macSend_settings (m q owner : Nat) (b : List Byte) (s : State) :
    allSettings (macSend m q owner b s).mac = allSettings s.mac := by
  simp only [macSend]
  split
  · rw [modMac_settings]
    exact fun _ => rfl
  · exact macCount_settings m 51 1 s

@[simp] theorem kmpSend_settings (i type flags seq owner : Nat) (body : List Byte) (s : State) :
    allSettings (kmpSend i type flags seq owner body s).mac = allSettings s.mac := macSend_settings _ _ _ _ s

@[simp] theorem kmpRequest_settings (i type flags : Nat) (body : List Byte) (s : State) :
    allSettings (kmpRequest i type flags body s).mac = allSettings s.mac := by
  simp [kmpRequest]

@[simp] theorem nextWrite_settings (c i w : Nat) (s : State) : allSettings (nextWrite c i w s).mac = allSettings s.mac := by
  simp only [nextWrite]
  (repeat' split) <;> simp [kmpWrite]

@[simp] theorem mainFeed_settings (c : Nat) (s : State) : allSettings (mainFeed c s).mac = allSettings s.mac := by
  simp [mainFeed]

@[simp] theorem fixMain_settings (c : Nat) (s : State) : allSettings (fixMain c s).mac = allSettings s.mac := by
  simp only [fixMain]
  (repeat' split) <;> simp

@[simp] theorem copyGone_settings (i : Nat) (s : State) : allSettings (copyGone i s).mac = allSettings s.mac := by
  simp only [copyGone]
  split <;> simp

@[simp] theorem closeCopy_settings (i reason flags : Nat) (s : State) :
    allSettings (closeCopy i reason flags s).mac = allSettings s.mac := by
  simp only [closeCopy]
  split <;> simp

@[simp] theorem decouple_settings (c i : Nat) (s : State) : allSettings (decouple c i s).mac = allSettings s.mac := by
  simp [decouple]

@[simp] theorem recEval_settings (c : Nat) (s : State) : allSettings (recEval c s).mac = allSettings s.mac := by
  simp only [recEval]
  split <;> simp

@[simp] theorem recordSent_settings (i : Nat) (s : State) : allSettings (recordSent i s).mac = allSettings s.mac := by
  simp only [recordSent]
  (repeat' split) <;> simp

@[simp] theorem resendSent_settings (i : Nat) (s : State) : allSettings (resendSent i s).mac = allSettings s.mac := by
  simp only [resendSent]
  split <;> simp

@[simp] theorem firmwareSend_settings (m service owner : Nat) (b : List Byte) (s : State) :
    allSettings (firmwareSend m service owner b s).mac = allSettings s.mac := by
  simp [firmwareSend]

@[simp] theorem ptpSent_settings (m owner : Nat) (s : State) : allSettings (ptpSent m owner s).mac = allSettings s.mac := by
  simp [ptpSent, sendFollowUp, ptpSend]

theorem frameSent_settings (m : Nat) (f : TxFrame) (s : State) : allSettings (frameSent m f s).mac = allSettings s.mac := by
  simp [frameSent]

theorem frameFailed_settings (m : Nat) (f : TxFrame) (s : State) : allSettings (frameFailed m f s).mac = allSettings s.mac := by
  simp [frameFailed]

end Sys2Proof.Machine
end

section
/-! PROOFS. What the protocol engines and the firmware do with a frame that a MAC hands them, and with the end of one that they sent
(R197, R207): none of it reaches the Safelight domain or the waiting commands. -/
namespace Sys2Proof.Machine
open Sys2Proof

/-! The timebase, which a PTP message may correct (R66 to R78). -/

theorem byServo_kept {f : State → State} {s : State} (h : kept (f s) = kept s) : kept (byServo f s) = kept s := by
  simp [byServo, h]

@[simp] theorem takeTod_kept (s : State) : kept (takeTod s) = kept s := by
  simp [takeTod]

@[simp] theorem setCandState_kept (i : Nat) (st : CandState) (s : State) : kept (setCandState i st s) = kept s := by
  simp [setCandState]

@[simp] theorem steerSlew_kept (err off : Int) (s : State) : kept (steerSlew err off s) = kept s := by
  simp [steerSlew]

@[simp] theorem correctMaster_kept (err : Int) (s : State) : kept (correctMaster err s) = kept s := by
  simp only [correctMaster]
  split <;> simp

@[simp] theorem refLost_kept (i : Nat) (s : State) : kept (refLost i s) = kept s :=
  byServo_kept (by simp)

@[simp] theorem refErrorMeasure_kept (i : Nat) (err ppb : Int) (s : State) : kept (refErrorMeasure i err ppb s) = kept s :=
  byServo_kept (by simp)

/-! PTP (R456 to R458). -/

@[simp] theorem ptpSend_kept (m owner udp : Nat) (unicast : Option Nat) (b : List Byte) (s : State) :
    kept (ptpSend m owner udp unicast b s) = kept s := by
  simp [ptpSend]

@[simp] theorem sendFollowUp_kept (m : Nat) (s : State) : kept (sendFollowUp m s) = kept s := by
  simp [sendFollowUp]

@[simp] theorem ptpSent_kept (m owner : Nat) (s : State) : kept (ptpSent m owner s) = kept s := by
  simp [ptpSent]

@[simp] theorem masterChanged_kept (m : Nat) (a : Announce) (s : State) : kept (masterChanged m a s) = kept s := by
  simp only [masterChanged]
  split <;> simp

@[simp] theorem ptpAnnounce_kept (m : Nat) (u srcMac : List Byte) (srcIp : Nat) (s : State) :
    kept (ptpAnnounce m u srcMac srcIp s) = kept s := by
  cases hbest : (ptpAt s m).best <;> simp [ptpAnnounce, hbest]

@[simp] theorem ptpOffset_kept (m t1 t2 : Nat) (corr : Int) (s : State) : kept (ptpOffset m t1 t2 corr s) = kept s := by
  simp only [ptpOffset]
  (repeat' split) <;> simp

@[simp] theorem ptpReceived_kept (m : Nat) (b : List Byte) (s : State) : kept (ptpReceived m b s) = kept s := by
  simp only [ptpReceived]
  (repeat' split) <;> simp

/-! The rig link (R459 to R461). -/

@[simp] theorem rigBackoff_kept (s : State) : kept (rigBackoff s) = kept s := by
  simp [rigBackoff]

@[simp] theorem joinLead_kept (l : Nat × Nat) (members : Nat) (s : State) : kept (joinLead l members s) = kept s := by
  simp [joinLead]

@[simp] theorem rigDuplicate_kept (ty : Nat) (s : State) : kept (rigDuplicate ty s) = kept s := by
  simp only [rigDuplicate]
  split <;> simp

@[simp] theorem leadOfTwin_kept (members : Nat) (s : State) : kept (leadOfTwin members s) = kept s := by
  simp only [leadOfTwin]
  split <;> simp

@[simp] theorem memberLeft_kept (p : Nat × Nat) (s : State) : kept (memberLeft p s) = kept s := by
  simp [memberLeft]

@[simp] theorem rigReceived_kept (m : Nat) (b : List Byte) (s : State) : kept (rigReceived m b s) = kept s := by
  simp only [rigReceived]
  (repeat' split) <;> simp

/-! Magazine messages and resent ranges (R399, R419). -/

@[simp] theorem kmpReceive_kept (only : Nat → Bool) (i : Nat) (f : List Byte) (s : State) : kept (kmpReceive only i f s) = kept s := by
  simp [kmpReceive]

@[simp] theorem kmpMessage_kept (i : Nat) (f : List Byte) (s : State) : kept (kmpMessage i f s) = kept s :=
  kmpReceive_kept _ i f s

@[simp] theorem resendSent_kept (i : Nat) (s : State) : kept (resendSent i s) = kept s := by
  simp only [resendSent]
  split <;> simp

/-! Ingest (R214 to R227). -/

@[simp] theorem countUnbound_kept (withEvent : Bool) (s : State) : kept (countUnbound withEvent s) = kept s := by
  simp [countUnbound]

theorem kpiPacket_kept {k : Nat → List Byte → State → State} (h : ∀ i p t, kept (k i p t) = kept t) (m ty : Nat) (f : List Byte)
    (s : State) : kept (kpiPacket m ty f k s) = kept s := by
  simp [kpiPacket, h]

@[simp] theorem dropPicture_kept (k frame : Nat) (nobuf : Bool) (s : State) : kept (dropPicture k frame nobuf s) = kept s := by
  simp [dropPicture]

@[simp] theorem modCapMarker_kept (a : Nat) (s : State) : kept (frameStart.modCapMarker a s) = kept s := by
  simp [frameStart.modCapMarker]

@[simp] theorem frameStart_kept (f : List Byte) (k : Nat) (p : List Byte) (s : State) : kept (frameStart f k p s) = kept s := by
  unfold frameStart
  extract_lets s0 a x frame cap gap c m s1 s2 s3 q s4
  have hmarked : kept s4 = kept s := by simp [s4, s3, s2, s1, s0]
  split
  · rw [dropPicture_kept, hmarked]
  · split
    · next h => rw [dropPicture_kept, kept_of_snd h (ledgerAcquire_kept _ _ _), hmarked]
    · next h => rw [updateLow_kept, modIn_kept, kept_of_snd h (ledgerAcquire_kept _ _ _), hmarked]

@[simp] theorem orphan_kept (k : Nat) (s : State) : kept (orphan k s) = kept s := by
  simp [orphan]

@[simp] theorem placeSegment_kept (k : Nat) (p : List Byte) (s : State) : kept (placeSegment k p s) = kept s := by
  simp [placeSegment]

@[simp] theorem linePacket_kept (k : Nat) (p : List Byte) (s : State) : kept (linePacket k p s) = kept s := by
  simp only [linePacket]
  split <;> simp

@[simp] theorem frameEnd_kept (k : Nat) (p : List Byte) (s : State) : kept (frameEnd k p s) = kept s := by
  simp only [frameEnd]
  split <;> simp

@[simp] theorem kpiArrived_kept (m : Nat) (b : List Byte) (s : State) : kept (kpiArrived m b s) = kept s := by
  simp only [kpiArrived]
  split
  · exact kpiPacket_kept (frameStart_kept b) m 1 b s
  · exact kpiPacket_kept linePacket_kept m 2 b s
  · exact kpiPacket_kept frameEnd_kept m 3 b s

/-! Stream packets (R449 to R452). -/

@[simp] theorem noFlow_kept (m : Nat) (s : State) : kept (noFlow m s) = kept s := by
  simp [noFlow]

@[simp] theorem noFlowEvent_kept (s : State) : kept (noFlowEvent s) = kept s := by
  simp [noFlowEvent]

@[simp] theorem mergePacket_kept (f m : Nat) (b : List Byte) (s : State) : kept (mergePacket f m b s) = kept s := by
  simp [mergePacket]

@[simp] theorem policed_kept (f : Nat) (s : State) : kept (policed f s) = kept s := by
  unfold policed
  extract_lets s1 st s2 st'
  have hcounted : kept s2 = kept s := by simp [s2, s1]
  split
  · rw [raise_kept, kept_update, hcounted]
  · exact hcounted

theorem kept_of_ite {c : Prop} [Decidable c] {a b s : State} (ha : kept a = kept s) (hb : kept b = kept s) :
    kept (if c then a else b) = kept s := by
  split
  · exact ha
  · exact hb

/-- The bucket's answer is taken as any function's (`tokenOf`): worked out in the kernel, its level would be counted down in unary from
`secUnits`. -/
@[simp] theorem rxFlowPacket_kept (m : Nat) (b : List Byte) (s : State) : kept (rxFlowPacket m b s) = kept s := by
  unfold rxFlowPacket
  obtain ⟨tokenOf, htoken⟩ : ∃ f, f = takeToken := ⟨takeToken, rfl⟩
  rw [← htoken]
  refine kept_of_ite (by simp) (kept_of_ite (by simp) ?_)
  split
  · simp
  · next f pathB _ =>
    extract_lets x now bk
    split
    · exact (policed_kept f _).trans (modFlow_kept f _ s)
    · next t _ =>
      extract_lets s1
      have htaken : kept s1 = kept s := modFlow_kept f _ s
      exact kept_of_ite ((mergePacket_kept f m b s1).trans htaken) ((flowDeliver_kept f m b s1).trans htaken)

end Sys2Proof.Machine
end

section
/-! PROOFS. Frames received and sent (R194 to R211): what delivery and the wire leave of the state, each row by its condition, and
the statement about them. -/
namespace Sys2Proof.Machine
open Sys2Proof

/-! The Safelight domain and the waiting commands are kept. -/

@[simp] theorem engineTakes_kept {drop : State → State} (hdrop : ∀ t, kept (drop t) = kept t) (m : Nat) (b : List Byte) (s : State) :
    kept (engineTakes m b drop s) = kept s := by
  simp only [engineTakes]
  split <;> simp [hdrop]

@[simp] theorem firmwareTakes_kept (m : Nat) (b : List Byte) (s : State) : kept (firmwareTakes m b s) = kept s := by
  simp [firmwareTakes]

@[simp] theorem deliverFrame_kept (m q : Nat) (trunc : Bool) (b : List Byte) (s : State) :
    kept (deliverFrame m q trunc b s) = kept s := by
  simp only [deliverFrame]
  split
  · simp
  · simp
  · split
    · next h => simp [ringDeliver_kept h]
    · simp
  · rfl

@[simp] theorem rxPause_kept (m q : Nat) (s : State) : kept (rxPause m q s) = kept s := by
  simp [rxPause]

@[simp] theorem goodFrame_kept (m : Nat) (b : List Byte) (s : State) : kept (goodFrame m b s) = kept s := by
  simp only [goodFrame]
  (repeat' split) <;> simp

@[simp] theorem kmlEncode_kept (m : Nat) (b : List Byte) (s : State) : kept (kmlEncode m b s) = kept s := by
  simp [kmlEncode]

@[simp] theorem onWire_kept (m : Nat) (b : List Byte) (s : State) : kept (onWire m b s) = kept s := by
  simp [onWire]

@[simp] theorem frameSent_kept (m : Nat) (f : TxFrame) (s : State) : kept (frameSent m f s) = kept s := by
  simp [frameSent]

@[simp] theorem frameFailed_kept (m : Nat) (f : TxFrame) (s : State) : kept (frameFailed m f s) = kept s := by
  simp [frameFailed]

/-! What the wire and the end of a frame leave of the MACs' settings. -/

@[simp] theorem dealBlock_settings (m v : Nat) (s : State) : allSettings (dealBlock m v s).mac = allSettings s.mac := by
  funext j
  exact (congrArg settings (dealBlock_unsent m v s j) :)

@[simp] theorem sendBlock_settings (m : Nat) (b : Bool × Nat) (s : State) : allSettings (sendBlock m b s).mac = allSettings s.mac := by
  funext j
  exact (congrArg settings (sendBlock_unsent m b s j) :)

@[simp] theorem kmlEncode_settings (m : Nat) (b : List Byte) (s : State) : allSettings (kmlEncode m b s).mac = allSettings s.mac := by
  simp [kmlEncode]

@[simp] theorem onWire_settings (m : Nat) (b : List Byte) (s : State) : allSettings (onWire m b s).mac = allSettings s.mac := by
  have hlast : allSettings (modMac m (fun x => { x with tx := { x.tx with last := b } }) s).mac = allSettings s.mac := by
    rw [modMac_settings]
    exact fun _ => rfl
  simp [onWire, hlast]

theorem stopping_of_settings {s t : State} (h : allSettings t.mac = allSettings s.mac) (m : Nat) :
    (macAt t m).stopping = (macAt s m).stopping :=
  (congrArg Mac.stopping (congrFun h m) :)

/-- A MAC that is not stopping goes on after a frame. -/
theorem afterFrame_running {m : Nat} {s t : State} (h : allSettings t.mac = allSettings s.mac) (hrun : (macAt s m).stopping = false) :
    afterFrame m t = t := by
  simp [afterFrame, stopping_of_settings h, hrun]

/-! Frames received (R200 to R206). -/

theorem macFrameReceived_short {m : Nat} {b : List Byte} {fcsOk : Bool} {s : State} (hup : linkUp (macAt s m) = true)
    (hshort : b.length < 60) : macFrameReceived m b fcsOk s = macCount m (if fcsOk then 19 else 20) 1 s := by
  simp only [macFrameReceived, hup]
  rw [if_neg (by decide), if_pos (by omega)]

theorem macFrameReceived_long {m : Nat} {b : List Byte} {fcsOk : Bool} {s : State} (hup : linkUp (macAt s m) = true)
    (hlen : 60 ≤ b.length) (hlong : (macAt s m).cfg.maxFrame < b.length + 4) (hrole : (macAt s m).cfg.role ≠ 0) :
    macFrameReceived m b fcsOk s = macCount m 21 1 s := by
  simp only [macFrameReceived, hup]
  rw [if_neg (by decide), if_neg (by omega), if_pos hlong, if_neg (fun h => hrole h.1)]

/-- A frame of a good length is counted as an FCS error or goes on by its address and its tag (R203, R210). -/
theorem macFrameReceived_fits {m : Nat} {b : List Byte} {fcsOk : Bool} {s : State} (hup : linkUp (macAt s m) = true)
    (hlen : 60 ≤ b.length) (hfits : b.length + 4 ≤ (macAt s m).cfg.maxFrame) :
    macFrameReceived m b fcsOk s =
      if !fcsOk then macCount m 18 1 s
      else
        let t := macCount m (2 + addrType b) 1 (macCount m 0 (b.length + 4) (macCount m 1 1 (macCount m (7 + sizeBin (b.length + 4)) 1 s)))
        goodFrame m b (if tagged b then macCount m 6 1 t else t) := by
  simp only [macFrameReceived, hup]
  rw [if_neg (by decide), if_neg (by omega), if_neg (by omega)]

theorem goodFrame_control {m : Nat} {b : List Byte} {s : State} (hcontrol : isControl b = true) :
    goodFrame m b s = if be16 b 14 = 1 then rxPause m (be16 b 16) (macCount m 5 1 s) else macCount m 24 1 s :=
  if_pos hcontrol

theorem goodFrame_notSteered {m : Nat} {b : List Byte} {s : State} (hdata : isControl b = false) (hrole : (macAt s m).cfg.role = 0)
    (hsteer : steer (macAt s m) b = none) : goodFrame m b s = macCount m 22 1 s := by
  simp [goodFrame, hdata, hrole, hsteer]

theorem goodFrame_filtered {m : Nat} {b : List Byte} {s : State} (hdata : isControl b = false) (hrole : (macAt s m).cfg.role ≠ 0)
    (hpass : filterPass (macAt s m) b = false) : goodFrame m b s = macCount m 22 1 s := by
  simp [goodFrame, hdata, hrole, hpass]

/-! Frames sent (R194 to R198). -/

theorem txFrameStart_starts {mac : Fin 16} {queue : Fin 8} {f : TxFrame} {s : State} (h : okTxFrameStart mac queue f s) :
    txFrameStart mac queue s =
      modMac mac (fun x => { x with tx := { x.tx with cur := some f, waiting := x.tx.waiting.erase f, sfdAt := s.time.tb.now } }) s := by
  obtain ⟨hup, hcur, hpaused, hrun, hfirst, hbuffered, howner⟩ := h
  simp only [txFrameStart, hup, hcur, hpaused, hrun, hfirst, if_neg howner]
  rw [if_neg (by decide), if_neg (by omega)]

theorem txFrameStart_waits {mac : Fin 16} {queue : Fin 8} {f : TxFrame} {s : State} (h : okTxFrameWaits mac queue f s) :
    txFrameStart mac queue s = s := by
  obtain ⟨hfirst, hshort⟩ := h
  simp only [txFrameStart, hfirst, if_pos hshort, ite_self]

theorem padded_of_length {b : List Byte} (h : 60 ≤ b.length) : padded b = b := by
  simp [padded, Nat.sub_eq_zero_of_le h]

theorem txUnderrun_running {m bytes : Nat} {f : TxFrame} {s : State} (hcur : (macAt s m).tx.cur = some f)
    (hrun : (macAt s m).stopping = false) :
    txUnderrun m bytes s = frameFailed m f (raiseMac m 2 (macCount m 50 1
      (onWire m (((padded f.bytes).take bytes) ++ badFcs ((padded f.bytes).take bytes))
      (modMac m (fun x => { x with tx := { x.tx with
        cur := none, underQueue := f.queue, underBytes := bytes % 32768, underValid := true,
        queues := tabMod x.tx.queues f.queue (fun q => { q with thr := min 16384 (q.thr + 256), clean := 0 }) } }) s)))) := by
  simp only [txUnderrun, hcur]
  refine afterFrame_running ?_ hrun
  rw [frameFailed_settings, raiseMac, raise_mac, macCount_settings, onWire_settings, modMac_settings]
  exact fun _ => rfl

theorem txFrameEnd_running {m : Nat} {f : TxFrame} {s : State} (hcur : (macAt s m).tx.cur = some f)
    (hrun : (macAt s m).stopping = false) (hlen : 60 ≤ f.bytes.length) (hplain : tagged f.bytes = false) :
    txFrameEnd m s = frameSent m f (macCount m 32 (f.bytes.length + 4) (macCount m 33 1 (macCount m (39 + sizeBin (f.bytes.length + 4)) 1
      (macCount m (34 + addrType f.bytes) 1 (onWire m (f.bytes ++ fcsOf f.bytes)
        (modMac m (fun x => { x with tx := { x.tx with cur := none, queues := tabMod x.tx.queues f.queue cleanFrame } }) s)))))) := by
  simp only [txFrameEnd, hcur, padded_of_length hlen, hplain, if_neg (Nat.not_lt.2 hlen), Bool.false_eq_true, if_false]
  refine afterFrame_running ?_ hrun
  rw [frameSent_settings, macCount_settings, macCount_settings, macCount_settings, macCount_settings, onWire_settings, modMac_settings]
  exact fun _ => rfl

theorem onWire_plain {m : Nat} {b : List Byte} {s : State} (hplain : isKml (macAt s m) = false) :
    onWire m b s = modMac m (fun x => { x with tx := { x.tx with last := b } }) s := by
  simp [onWire, hplain]

/-- The published check value of CRC-32 (R195), its four bytes in the order of the wire. -/
theorem fcsOf_checkValue :
    fcsOf [0x31, 0x32, 0x33, 0x34, 0x35, 0x36, 0x37, 0x38, 0x39] = [0x26, 0x39, 0xF4, 0xCB] := by
  decide +kernel

/-! PAUSE and wake (R200, R202, R211). -/

theorem wakeDetect_pending (m : Nat) (s : State) : (wakeDetect m s).pending = s.pending := by
  simp only [wakeDetect]
  split
  · simp [raiseMac, modMac]
  · rfl

/-- Settles O43: each clause by the lemma of its event; the rows leave the Safelight domain and the waiting commands alone. -/
theorem frameEvents : Obligations.FrameEvents := by
  unfold Obligations.FrameEvents
  refine ⟨?short, ?badFcs, ?long, ?good, ?notSteered, ?pause, ?filtered, ?control, ?starts, ?waits, ?underrun, ?ends, ?wire, ?check,
    ?pauseEnds, ?alarm, ?wakes⟩
  case short =>
    rintro mac b fcsOk s ⟨hup, hshort⟩
    exact actOutside_kept (congrArg (recFeeds mac) (macFrameReceived_short hup hshort)) (by simp)
  case badFcs =>
    rintro mac b s ⟨hup, hlen, hfits⟩
    exact actOutside_kept (congrArg (recFeeds mac) (macFrameReceived_fits hup hlen hfits)) (by simp)
  case long =>
    rintro mac b s ⟨hup, hlen, hlong, hrole⟩
    exact actOutside_kept (congrArg (recFeeds mac) (macFrameReceived_long hup hlen hlong hrole)) (by simp)
  case good =>
    rintro mac b s ⟨hup, hlen, hfits, hplain⟩
    refine actOutside_kept (congrArg (recFeeds mac) ((macFrameReceived_fits hup hlen hfits).trans ?_)) (by simp)
    simp [hplain]
  case notSteered => exact fun m b s => goodFrame_notSteered
  case pause =>
    intro m q b s hcontrol hopcode hquanta
    rw [goodFrame_control hcontrol, if_pos hopcode, hquanta]
  case filtered => exact fun m b s => goodFrame_filtered
  case control =>
    intro m b s hcontrol hopcode
    rw [goodFrame_control hcontrol, if_neg hopcode]
  case starts =>
    exact fun mac queue f s h => actOutside_kept (congrArg (recFeeds mac) (txFrameStart_starts h)) (by simp)
  case waits =>
    exact fun mac queue f s h => actOutside_kept (congrArg (recFeeds mac) (txFrameStart_waits h)) (by simp)
  case underrun =>
    rintro mac bytes f s ⟨hcur, hrun⟩
    exact actOutside_kept (congrArg (recFeeds mac) (txUnderrun_running hcur hrun)) (by simp)
  case ends =>
    rintro mac f s ⟨hcur, hrun, hlen, hplain⟩ n
    exact actOutside_kept (congrArg (recFeeds mac) (txFrameEnd_running hcur hrun hlen hplain)) (by simp)
  case wire => exact fun m b s => onWire_plain
  case check => exact fcsOf_checkValue
  case pauseEnds =>
    exact fun mac s hpaused => actOutside_kept (congrArg (recFeeds mac) (if_pos hpaused)) (by simp)
  case alarm =>
    rintro mac s ⟨hpaused, hnew, hset⟩
    exact actOutside_kept (if_pos ⟨hpaused, by simp [hnew], hset⟩) (by simp)
  case wakes =>
    rintro mac s ⟨hon, hasleep, hdetect, hnew⟩
    have hwakes : wakeDetect mac s = slWake 8 (raiseMac mac 5 (modMac mac (fun x => { x with woke := true }) s)) :=
      if_pos ⟨hon, hasleep, hdetect, by simp [hnew]⟩
    exact act_next hwakes (hwakes ▸ wakeDetect_pending mac s)

end Sys2Proof.Machine
end

section
/-! PROOFS. The commands of picture ingest (R213, R230): each command once its checks pass, and the statement about them. -/
namespace Sys2Proof.Machine
open Sys2Proof

theorem lengthNeed_ingestStreamSet (e : CmdEntry) (s : State) : lengthNeed (cmdOf 0x0501 e s) = 16 := by
  simp [lengthNeed, opcodeLengths, cmdOf]

theorem lengthNeed_ingestStreamGet (e : CmdEntry) (s : State) : lengthNeed (cmdOf 0x0502 e s) = 4 := by
  simp [lengthNeed, opcodeLengths, cmdOf]

/-! INGEST_STREAM_SET (R213, R230). -/

/-- A context that an INGEST_STREAM_SET has enabled: it begins anew under the settings, but for its counters and their shadow. -/
def ingestEnabled (c : Cmd) (x : Ingest) : Ingest :=
  { enabled := true,
    cfg := { mac := c.u8 2, pool := c.u8 3, lowMark := c.u16 4, latencyNs := c.u32 8, endTimeoutUs := c.u32 12 },
    ctr := x.ctr, shadow := x.shadow }

theorem cmdIngestStreamSet_enables {c : Cmd} {s : State} (hlen : 16 ≤ c.length) (h : okIngestStreamEnable c s) :
    cmdIngestStreamSet c s =
      .wait (.ingestStart (c.u8 0)) (updateLow (c.u8 0) (raiseIn (c.u8 0) 7 (modIn (c.u8 0) (ingestEnabled c) s))) := by
  obtain ⟨hctx, henable, hzero, hmac, hpool, hused, hlow, hlatency, hmin, hmax, hoff, hlinear, hon, hrole⟩ := h
  unfold cmdIngestStreamSet
  rw [checks_pass]
  · simp only [henable, decide_true, if_true]
    rfl
  simp [tooShort, bad, stateIf, rsv_pass c 6 2 hzero, hlen, hctx, henable, hmac, hpool, hused, hlow, hlatency, hmin, hmax, hoff,
    hlinear, hon, hrole]

/-- ENABLE 0 resets the context, with its event where the context was enabled. -/
theorem cmdIngestStreamSet_resets {c : Cmd} {s : State} (hlen : 16 ≤ c.length) (hctx : c.u8 0 ≤ 3) (henable : c.u8 1 = 0) :
    cmdIngestStreamSet c s = .wait (.ingestReset (c.u8 0))
      (if (inAt s (c.u8 0)).enabled then raiseIn (c.u8 0) 7 (resetIngest (c.u8 0) s) else resetIngest (c.u8 0) s) := by
  unfold cmdIngestStreamSet
  rw [checks_pass]
  · simp [henable]
  simp [tooShort, bad, hlen, hctx, henable]

/-! INGEST_STREAM_GET (R213). -/

/-- What INGEST_STREAM_GET says of context `k`. -/
def ingestSettings (k : Nat) (x : Ingest) : List Byte :=
  leBytes 1 k ++ leBytes 1 (b2n x.enabled) ++ leBytes 1 x.cfg.mac ++ leBytes 1 x.cfg.pool ++ leBytes 2 x.cfg.lowMark ++ leBytes 2 0 ++
    leBytes 4 x.cfg.latencyNs ++ leBytes 4 x.cfg.endTimeoutUs ++ leBytes 2 x.width

theorem cmdIngestStreamGet_reads {c : Cmd} {s : State} (hlen : 4 ≤ c.length) (h : okIngestStreamGet c s) :
    cmdIngestStreamGet c s = doneWith (ingestSettings (c.u8 0) (inAt s (c.u8 0))) s := by
  obtain ⟨hzero, hctx⟩ := h
  unfold cmdIngestStreamGet
  rw [checks_pass]
  · rfl
  simp [tooShort, bad, rsv_pass c 1 3 hzero, hlen, hctx]

/-- Settles O19: each clause by the lemma of its command's form. -/
theorem ingestCommands : Obligations.IngestCommands := by
  unfold Obligations.IngestCommands
  refine ⟨?enable, ?disable, ?again, ?get⟩
  case enable =>
    intro e s hserved c t h
    have hlen := lengthNeed_ingestStreamSet e s ▸ served_length hserved
    exact exec_wait rfl hserved (cmdIngestStreamSet_enables hlen h)
  case disable =>
    rintro e s hserved c t ⟨hctx, henable, hon⟩
    have hlen := lengthNeed_ingestStreamSet e s ▸ served_length hserved
    exact exec_wait rfl hserved ((cmdIngestStreamSet_resets hlen hctx henable).trans (by rw [if_pos hon]))
  case again =>
    rintro e s hserved c t ⟨hctx, henable, hoff⟩
    have hlen := lengthNeed_ingestStreamSet e s ▸ served_length hserved
    exact exec_wait rfl hserved ((cmdIngestStreamSet_resets hlen hctx henable).trans (by rw [hoff]; rfl))
  case get =>
    intro e s hserved c t x h
    have hlen := lengthNeed_ingestStreamGet e s ▸ served_length hserved
    exact exec_doneWith rfl hserved (cmdIngestStreamGet_reads hlen h)

end Sys2Proof.Machine
end

section
/-! PROOFS. The statement about the commands of the layer shadows, which does not hold: its clause of LAYER_PALETTE_SET leaves out
the record of a palette that is to be loaded again. -/
namespace Sys2Proof.Machine
open Sys2Proof

/-- Refutes O22: its clause of LAYER_PALETTE_SET fails. A palette with a parity error is charged to the frames that read it until
the host reloads it (R536 kind 11), so the command ends that charge for the palette of G0, which it loads; the clause keeps it. -/
theorem not_layerCommands : ¬ Obligations.LayerCommands := by
  unfold Obligations.LayerCommands
  rintro ⟨-, -, -, -, hpalette, -⟩
  have hclause := hpalette { ticket := 7, length := 8, payload := [16, 0, 1, 0, 255, 255, 255, 255] }
    { ctl := { pair := .running }, rel := { badTables := [(3, 16)] } } (by decide +kernel) (by decide +kernel)
  have hbad := congrArg (fun o => (answerState o).map (·.rel.badTables)) hclause
  exact absurd hbad (by decide +kernel)

end Sys2Proof.Machine
end

section
/-! PROOFS. The fast path (R259 to R261) and the Fixer (R325 to R327): each event by its condition, and the statement about
them. -/
namespace Sys2Proof.Machine
open Sys2Proof

/-! The fast path (R259 to R261). -/

theorem layAt_modLay_same (l : Nat) (f : Layer → Layer) (s : State) : layAt (modLay l f s) l = f (layAt s l) :=
  tabGet_tabMod_same _ l f

/-- A second update of one layer works on what the first has left. -/
theorem modLay_modLay (l : Nat) (f g : Layer → Layer) (s : State) : modLay l g (modLay l f s) = modLay l (g ∘ f) s := by
  simp only [modLay, tabMod, tabGet_tabSet_same, tabSet_tabSet, Function.comp_apply]

theorem fpGo_takes {l : Nat} {s : State} (henv : (layAt s l).cfg.env.on = true) (hhead : (layAt s l).head.isSome = true) :
    fpGo l s = modLay l (fun x => { x with fp := { x.fp with pending := some x.fp.staging } }) s :=
  if_neg (by simp [henv, Option.isSome_iff_ne_none.1 hhead])

theorem fpGo_rejects {l : Nat} {s : State} (h : (layAt s l).cfg.env.on = false ∨ (layAt s l).head = none) :
    fpGo l s = fpReject l s :=
  if_pos (by simpa using h)

/-- A layer with no fast-path set pending. -/
def fpTaken (x : Layer) : Layer := { x with fp := { x.fp with pending := none } }

/-- Whether a set passes its checks depends on the layer's settings in force, and not on what is pending (R260). -/
theorem fpOk_fpTaken (l : Nat) (f : FastSet) (s : State) : fpOk (modLay l fpTaken s) l f = fpOk s l f := by
  have hcfg : (layAt (modLay l fpTaken s) l).cfg = (layAt s l).cfg := by
    rw [layAt_modLay_same]
    rfl
  unfold fpOk
  rw [hcfg]
  rfl

/-- A set that is pending at its latch point is latched where it passes its checks, and rejected where not (R260). -/
theorem fastPathLatch_pending {l h : Nat} {f : FastSet} {s : State} (hhead : (layAt s l).head = some h)
    (hon : headEnabled s h = true) (hshown : (hdAt s (lowerOf s h)).inBlank = false) (hpending : (layAt s l).fp.pending = some f) :
    fastPathLatch l s =
      if fpOk (modLay l fpTaken s) l f then
        modLay l (fun x => { x with fp := { x.fp with latched := some f } }) (modLay l fpTaken s)
      else fpReject l (modLay l fpTaken s) := by
  have hlatch : fastPathLatch l s = fpLatch l s := by simp [fastPathLatch, hhead, hon, hshown]
  rw [hlatch, fpLatch, hpending, fpOk_fpTaken]
  rfl

/-! The Fixer (R325 to R327). -/

/-- The commit in turn that fails a check ends with its answer (R325). -/
theorem commitArm_fails {c : Cmd} {st : Status} {d : Nat} {r : List Byte} {u s : State} (h : okCommitArmFails c st d r u s) :
    commitArm s = postFinal c st d r (dropCmd c u) := by
  simp only [okCommitArmFails, Bool.decide_and, Bool.decide_eq_true] at h
  obtain ⟨hrun, hfirst, hfinal⟩ := h
  simp [commitArm, hrun, hfirst, hfinal]

/-- The commit in turn that passes its checks waits on in the Fixer (R325). -/
theorem commitArm_arms {c : Cmd} {k : WaitFor} {u s : State} (h : okCommitArms c k u s) :
    commitArm s = modCmd c (fun x => { x with phase := .waiting k }) u := by
  simp only [okCommitArms, Bool.decide_and, Bool.decide_eq_true] at h
  obtain ⟨hrun, hfirst, hwait⟩ := h
  simp [commitArm, hrun, hfirst, hwait]

theorem commitTimeout_first {a : Armed} {s : State} (h : okCommitTimeout a s) :
    commitTimeout s = forEach a.heads (fun h s => raise (96 + 16 * h + 1) s)
      (finishWait (.commit a.id) .timeout (unmetMask s a) [] (dropArmed a s)) := by
  simp only [okCommitTimeout, Bool.decide_and, Bool.decide_eq_true, ← Bool.and_assoc] at h
  simp only [commitTimeout, h]

/-- Settles O45: each clause by the lemma of its event; the rows leave the Safelight domain and the waiting commands alone. -/
theorem fastPathAndFixerEvents : Obligations.FastPathAndFixerEvents := by
  unfold Obligations.FastPathAndFixerEvents
  refine ⟨?taken, ?rejected, ?latched, ?refused, ?fails, ?arms, ?fence, ?timeout⟩
  case taken =>
    rintro layer s ⟨hon, henv, hhead⟩
    exact actOutside_kept ((heldIn_on hon).trans (fpGo_takes henv hhead)) (modLay_kept _ _ _)
  case rejected =>
    rintro layer s ⟨hon, h⟩
    exact actOutside_kept ((heldIn_on hon).trans (fpGo_rejects h)) (by simp)
  case latched =>
    rintro layer h f s ⟨hhead, hon, hshown, hpending, hok⟩
    refine actOutside_kept ((fastPathLatch_pending hhead hon hshown hpending).trans ?_) (modLay_kept _ _ _)
    exact (if_pos hok).trans (modLay_modLay _ _ _ s)
  case refused =>
    rintro layer h f s ⟨hhead, hon, hshown, hpending, hok⟩
    refine actOutside_kept ((fastPathLatch_pending hhead hon hshown hpending).trans ?_) (by simp)
    exact (if_neg (ne_true_of_eq_false hok)).trans (congrArg _ (modLay_modLay _ _ _ s))
  case fails =>
    intro c st d r u s h
    have ⟨_, _, hfinal⟩ := h
    have hkept : kept u = kept s := by simpa [hfinal] using tryArm_kept c s
    exact actOutside_kept (congrArg powerHeads (commitArm_fails h)) (by simp [hkept])
  case arms =>
    intro c k u s h
    have ⟨_, _, hwait⟩ := h
    have hkept : kept u = kept s := by simpa [hwait] using tryArm_kept c s
    exact actOutside_kept (congrArg powerHeads (commitArm_arms h)) (by simp [hkept, modCmd_kept])
  case fence => exact fun fence value s hon => actOutside_kept (heldIn_on hon) (by simp)
  case timeout => exact fun a s h => actOutside_kept (commitTimeout_first h) (by simp)

end Sys2Proof.Machine
end

section
/-! PROOFS. The statement about the commands of the head shadows, which does not hold: its clause of HEAD_PAIR_SET leaves out what
locking a pair does to the upper synthesizer. -/
namespace Sys2Proof.Machine
open Sys2Proof

/-- Refutes O23: its clause of HEAD_PAIR_SET fails. The synthesizers of a locked pair share words, seed and gate (R98), so locking
heads 0 and 1 gives synthesizer 1 the words of synthesizer 0; the clause keeps its own. -/
theorem not_headCommands : ¬ Obligations.HeadCommands := by
  unfold Obligations.HeadCommands
  rintro ⟨-, -, -, -, -, -, hpair, -⟩
  have hclause := hpair { ticket := 7, length := 4, payload := [0, 1, 0, 0] }
    { ctl := { pair := .running }, time := { syns := [(0, { words := { int := 26 } })] } } (by decide +kernel) (by decide +kernel)
  have hwords := congrArg (fun o => (answerState o).map (fun t => (synAt t 1).words.int)) hclause
  exact absurd hwords (by decide +kernel)

end Sys2Proof.Machine
end

section
/-! PROOFS. The statement about the table commands, which does not hold: its clause of SCALER_COEF_LOAD leaves out the record of a
coefficient set that is to be loaded again. -/
namespace Sys2Proof.Machine
open Sys2Proof

/-- A coefficient table in which each phase, of CH and then of CV, has one tap, of 4096 (R276). -/
def unitTaps : List Byte :=
  (List.range 64).flatMap (fun _ => [0, 16] ++ List.replicate 14 0) ++ (List.range 64).flatMap (fun _ => [0, 16] ++ List.replicate 10 0)

/-- Buffer 0 is PUBLISHED and begins with that table, of which the bytes that are not 0 are written; a parity error has been
found in coefficient set 15 (R536 kind 11). -/
def badCoefSet : State :=
  { ctl := { pair := .running },
    fs := { up := true, fillDone := true,
            mem := (List.range 64).map (fun p => (8388609 + 16 * p, 16)) ++ (List.range 64).map (fun p => (8389633 + 12 * p, 16)) },
    ledger := { pools := [(0, { used := true, base := 8388608, size := 65536, count := 1, keep := 1, lines := 32, format := 0x41, stride := 1024 })],
                bufs := [(0, { state := .published })] },
    rel := { badTables := [(0, 15)] } }

/-- SCALER_COEF_LOAD of set 15 from the start of buffer 0. -/
def loadCoefSet : CmdEntry := { ticket := 7, length := 12, payload := [15, 0, 0, 0, 0, 0, 0, 0, 0, 0, 0, 0] }

theorem loadCoefSet_ok : Served 0x0701 loadCoefSet badCoefSet ∧
    okScalerCoefLoad (cmdOf 0x0701 loadCoefSet badCoefSet) (entered 0x0701 loadCoefSet badCoefSet) unitTaps := by
  decide +kernel

/-- The command takes set 15 off the record of the tables that are to be loaded again. -/
theorem loadCoefSet_badTables :
    (answerState (exec (.scalerCoefLoad loadCoefSet) badCoefSet)).map (·.rel.badTables) = some [] := by
  decide +kernel

/-- Refutes O24: its clause of SCALER_COEF_LOAD fails. A coefficient set with a parity error is charged to the frames that read it
until the host reloads it (R536 kind 11), so the command ends that charge for set 15, which it loads; the clause keeps it. -/
theorem not_tableCommands : ¬ Obligations.TableCommands := by
  unfold Obligations.TableCommands
  rintro ⟨hload, -⟩
  obtain ⟨hserved, hok⟩ := loadCoefSet_ok
  have hbad := loadCoefSet_badTables
  rw [hload loadCoefSet badCoefSet unitTaps hserved hok] at hbad
  exact absurd hbad (by decide +kernel)

end Sys2Proof.Machine
end

section
/-! PROOFS. What every row and every step leave of the Safelight domain: a row that reaches it keeps its registers in their ranges, and
a row that does not leaves it as it is. -/
namespace Sys2Proof.Machine
open Sys2Proof

/-! What a wake does to the Safelight domain. -/

/-- A wake sets the cause bit of its source, or nothing; only a source other than the host may also request power (R509, R530). -/
theorem slWake_sl_cases (k : Nat) (s : State) :
    (slWake k s).sl = s.sl ∨ (slWake k s).sl = { s.sl with wakeCause := Nat.lor s.sl.wakeCause (2 ^ k) } ∨
      (k ≠ 9 ∧ (slWake k s).sl = { s.sl with wakeCause := Nat.lor s.sl.wakeCause (2 ^ k), pwrReq := true }) := by
  simp only [slWake]
  split
  · exact .inl rfl
  · split
    · exact .inr (.inl rfl)
    · split
      case isTrue h => exact .inr (.inr ⟨h.2, rfl⟩)
      case isFalse => exact .inr (.inl rfl)

/-- The host's wake sets its own cause bit at most (R509). -/
theorem slWake_host_sl (s : State) :
    (slWake 9 s).sl = s.sl ∨ (slWake 9 s).sl = { s.sl with wakeCause := Nat.lor s.sl.wakeCause 512 } := by
  obtain h | h | ⟨h, -⟩ := slWake_sl_cases 9 s
  · exact .inl h
  · exact .inr h
  · exact absurd rfl h

theorem doorbell_sl (n t : Nat) (s : State) :
    (doorbell n t s).sl = s.sl ∨ (doorbell n t s).sl = { s.sl with wakeCause := Nat.lor s.sl.wakeCause 512 } := by
  unfold doorbell
  simp only
  split
  · exact .inl rfl
  · split
    · split
      · exact slWake_host_sl _
      · exact .inl rfl
    · exact .inl (by simp)

theorem submit_sl (op : Nat) (e : CmdEntry) (s : State) :
    (submit op e s).sl = s.sl ∨ (submit op e s).sl = { s.sl with wakeCause := Nat.lor s.sl.wakeCause 512 } := by
  unfold submit
  simp only
  split
  · exact doorbell_sl _ _ _
  · exact doorbell_sl _ _ _

/-- A row that does not reach the Safelight domain leaves it and the queue as they are (R503). -/
theorem exec_outside_next (i : Instr) (s : State) (h : reachesSafelight i = false) :
    ∃ t, exec i s = .next t ∧ t.pending = s.pending ∧ t.sl = s.sl := by
  obtain ⟨f, hf⟩ := exec_outside i s h
  exact ⟨_, hf, rfl, rfl⟩

/-- A row has a next state, and leaves the queue as it is (log entry 1). -/
theorem exec_next (i : Instr) (s : State) : ∃ t, exec i s = .next t ∧ t.pending = s.pending := by
  cases i <;> exact ⟨_, rfl, rfl⟩

/-- Settles O2: every row acts, one that does not reach the Safelight domain acts outside it, and an entry reaches it through its
doorbell alone. -/
theorem everyRowCompletes : Obligations.EveryRowCompletes := by
  unfold Obligations.EveryRowCompletes
  constructor
  · intro i s
    cases h : reachesSafelight i with
    | false =>
      obtain ⟨t, ht, hpending, hsl⟩ := exec_outside_next i s h
      exact ⟨t, ht, hpending, fun _ => hsl⟩
    | true =>
      obtain ⟨t, ht, hpending⟩ := exec_next i s
      exact ⟨t, ht, hpending, fun hc => by cases hc⟩
  · intro i op e s h
    exact ⟨_, exec_entry i op e s h, submit_sl op e s⟩

/-! The ranges of the Safelight registers, operation by operation. -/

/-- A cause bit within the register keeps its word within its bits (R530). -/
theorem wakeCause_lor_lt {w k : Nat} (hw : w < 1024) (hk : k < 10) : Nat.lor w (2 ^ k) < 1024 :=
  Nat.or_lt_two_pow (n := 10) hw (Nat.pow_lt_pow_right (by decide) hk)

theorem wakeCause_ranges (l : Safelight) (w : Nat) (h : SafelightRanges l) (hw : w < 1024) : SafelightRanges { l with wakeCause := w } := by
  obtain ⟨hsw, hcrc, hen, -, hrest⟩ := h
  exact ⟨hsw, hcrc, hen, hw, hrest⟩

theorem SafelightRanges.wakeCause {l : Safelight} (h : SafelightRanges l) : l.wakeCause < 1024 := by
  obtain ⟨-, -, -, hcause, -⟩ := h
  exact hcause

theorem slWake_ranges {k : Nat} (hk : k < 10) (s : State) (h : SafelightRanges s.sl) : SafelightRanges (slWake k s).sl := by
  have hcause := wakeCause_ranges s.sl _ h (wakeCause_lor_lt h.wakeCause hk)
  obtain hsl | hsl | ⟨-, hsl⟩ := slWake_sl_cases k s <;> rw [hsl]
  · exact h
  · exact hcause
  · exact hcause

/-- A comparator's settings lie in the ranges of their fields (R528). -/
def CmpRanges (c : Comparator) : Prop := c.thresh < 256 ∧ c.hyst < 16 ∧ 1 ≤ c.filt ∧ c.filt ≤ 255

/-- The table of comparators is canonical, and each of the six lies in its ranges. -/
def CmpsRanges (t : Tab Comparator) : Prop := tabWf t = true ∧ ∀ k < 6, CmpRanges (tabGet t k)

theorem tabSet_cmpsRanges (t : Tab Comparator) (j : Nat) (c : Comparator) (h : CmpsRanges t) (hc : CmpRanges c) :
    CmpsRanges (tabSet t j c) := by
  refine ⟨tabSet_wf t j _ h.1, fun k hk => ?_⟩
  rw [tabGet_tabSet]
  split
  · exact hc
  · exact h.2 k hk

/-- A change of one comparator that keeps its ranges keeps those of the table. -/
theorem tabMod_cmpsRanges (t : Tab Comparator) (j : Nat) (f : Comparator → Comparator) (h : CmpsRanges t)
    (hf : j < 6 → CmpRanges (tabGet t j) → CmpRanges (f (tabGet t j))) : CmpsRanges (tabMod t j f) := by
  refine ⟨tabMod_wf t j f h.1, fun k hk => ?_⟩
  by_cases hkj : k = j
  · subst hkj
    rw [tabGet_tabMod_same]
    exact hf hk (h.2 k hk)
  · rw [tabGet_tabMod_other t f hkj]
    exact h.2 k hk

theorem modSl_cmps_ranges {l : Safelight} {t : Tab Comparator} (h : SafelightRanges l) (ht : CmpsRanges t) :
    SafelightRanges { l with cmps := t } := by
  obtain ⟨hsw, hcrc, hen, hcause, hsec, halarm, hlo, hhi, hb1, hb2, hs1, hs2, -⟩ := h
  exact ⟨hsw, hcrc, hen, hcause, hsec, halarm, hlo, hhi, hb1, hb2, hs1, hs2, ht.1, ht.2⟩

theorem SafelightRanges.cmps {l : Safelight} (h : SafelightRanges l) : CmpsRanges l.cmps := by
  obtain ⟨-, -, -, -, -, -, -, -, -, -, -, -, hcmps⟩ := h
  exact hcmps

theorem comparatorChange_ranges {k : Nat} (hk : k < 6) (s : State) (h : SafelightRanges s.sl) :
    SafelightRanges (comparatorChange k s).sl := by
  unfold comparatorChange
  refine slWake_ranges (by omega) _ ?_
  rw [raise_sl]
  exact modSl_cmps_ranges h (tabSet_cmpsRanges _ _ _ h.cmps (h.cmps.2 k hk))

theorem freshComparators_ranges (l : Safelight) : CmpsRanges (freshComparators l) := by
  unfold freshComparators
  refine foldl_keeps CmpsRanges _ (fun t k ht => tabMod_cmpsRanges t k _ ht fun _ hc => hc) _ _ ?_
  unfold CmpsRanges CmpRanges
  decide +kernel

theorem safelightReset_ranges (s : State) : SafelightRanges (safelightReset s).sl := by
  refine modSl_cmps_ranges (l := { ({} : Safelight) with onBattery := s.sl.onBattery }) ?_ (freshComparators_ranges s.sl)
  have hreset : SafelightRanges {} := by decide +kernel
  exact hreset

theorem vsafeSwitchover_ranges (b : Bool) (s : State) (h : SafelightRanges s.sl) : SafelightRanges (vsafeSwitchover b s).sl := by
  obtain ⟨hsw, hrest⟩ := h
  unfold vsafeSwitchover
  split
  · exact ⟨hsw, hrest⟩
  · refine ⟨?_, hrest⟩
    show (if b = true then satAdd 255 s.sl.switchovers 1 else s.sl.switchovers) ≤ 255
    split
    · exact Nat.min_le_left _ _
    · exact hsw

theorem rtcSub_lt (s : State) : rtcSub s < 32768 := Nat.lt_succ_of_le (Nat.min_le_left _ _)

/-- The clock as a second leaves it, before its alarm is compared (R526). -/
def rtcAdvanced (s : State) : State :=
  modSl (fun l => if s.time.tb.todValid && (decide (s.time.tb.state = .locked) || decide (s.time.tb.state = .hold)) && decide ((domAt s 4).level = .on)
    then { l with rtcSec := s.time.tb.now / secUnits % 2 ^ 48, secAt := runTime s, timeValid := true }
    else { l with rtcSec := (l.rtcSec + 1) % 2 ^ 48, secAt := runTime s }) s

theorem rtcSecond_eq (s : State) :
    rtcSecond s = if (rtcAdvanced s).sl.alarmEn ∧ (rtcAdvanced s).sl.rtcSec = (rtcAdvanced s).sl.alarm then slWake 6 (rtcAdvanced s)
      else rtcAdvanced s := rfl

theorem rtcSecond_ranges (s : State) (h : SafelightRanges s.sl) : SafelightRanges (rtcSecond s).sl := by
  obtain ⟨hsw, hcrc, hen, hcause, -, hrest⟩ := h
  have hcount : ∀ n t v, SafelightRanges { s.sl with rtcSec := n % 2 ^ 48, secAt := t, timeValid := v } := fun n t v =>
    ⟨hsw, hcrc, hen, hcause, Nat.mod_lt _ (by decide), hrest⟩
  have hload : SafelightRanges (rtcAdvanced s).sl := by
    simp only [rtcAdvanced, modSl]
    split <;> exact hcount _ _ _
  rw [rtcSecond_eq]
  split
  · exact slWake_ranges (by decide) _ hload
  · exact hload

theorem rtcSecHiRead_ranges (spi : Bool) (s : State) (h : SafelightRanges s.sl) : SafelightRanges (rtcSecHiRead spi s).sl := by
  obtain ⟨hsw, hcrc, hen, hcause, hsec, halarm, hlo, hhi, hb1, hb2, hs1, hs2, hcmps⟩ := h
  have hlow : s.sl.rtcSec % 2 ^ 32 < 2 ^ 32 := Nat.mod_lt _ (by decide)
  cases spi with
  | false => exact ⟨hsw, hcrc, hen, hcause, hsec, halarm, hlo, hhi, hlow, rtcSub_lt s, hs1, hs2, hcmps⟩
  | true => exact ⟨hsw, hcrc, hen, hcause, hsec, halarm, hlo, hhi, hb1, hb2, hlow, rtcSub_lt s, hcmps⟩

theorem slSpiStatusWrite_ranges (v : Nat) (s : State) (h : SafelightRanges s.sl) : SafelightRanges (slSpiStatusWrite v s).sl := by
  obtain ⟨hsw, hcrc, hrest⟩ := h
  refine ⟨hsw, ?_, hrest⟩
  show (if bit v 9 = true then 0 else s.sl.spiCrcErrs) ≤ 255
  split
  · exact Nat.zero_le _
  · exact hcrc

theorem spiCrcErr_ranges (l : Safelight) (h : SafelightRanges l) : SafelightRanges { l with spiCrcErrs := satAdd 255 l.spiCrcErrs 1 } := by
  obtain ⟨hsw, -, hrest⟩ := h
  exact ⟨hsw, Nat.min_le_left _ _, hrest⟩

theorem bits_lt (v lo w : Nat) : bits v lo w < 2 ^ w := Nat.mod_lt _ (Nat.two_pow_pos w)

/-- The settings that a register write gives a comparator lie in their ranges, a filter of 0 standing for 1 (R528). -/
theorem cmpWrite_ranges (k v : Nat) (l : Safelight) (h : SafelightRanges l) : SafelightRanges (cmpWrite k v l) := by
  refine modSl_cmps_ranges h (tabMod_cmpsRanges _ _ _ h.cmps fun _ _ => ⟨bits_lt v 0 8, bits_lt v 8 4, ?_⟩)
  have hfilt := bits_lt v 12 8
  simp only
  split <;> omega

theorem signedByte_range (v : Nat) : -128 ≤ signedOf 8 (v % 256) ∧ signedOf 8 (v % 256) ≤ 127 := by
  unfold signedOf
  split <;> omega

/-- Clearing bits of the cause word keeps it within its bits. -/
theorem wakeCause_clear_lt {w : Nat} (v : Nat) (hw : w < 1024) : Nat.xor w (Nat.land w v) < 1024 :=
  Nat.xor_lt_two_pow (n := 10) hw (Nat.lt_of_le_of_lt Nat.and_le_left hw)

theorem trim_ranges (l : Safelight) (v : Nat) (h : SafelightRanges l) : SafelightRanges { l with trim := signedOf 8 (v % 256) } := by
  obtain ⟨hsw, hcrc, hen, hcause, hsec, halarm, -, -, hlatch⟩ := h
  exact ⟨hsw, hcrc, hen, hcause, hsec, halarm, (signedByte_range v).1, (signedByte_range v).2, hlatch⟩

theorem alarm_ranges (l : Safelight) (a : Nat) (on : Bool) (h : SafelightRanges l) (ha : a < 2 ^ 48) :
    SafelightRanges { l with alarm := a, alarmEn := on } := by
  obtain ⟨hsw, hcrc, hen, hcause, hsec, -, hrest⟩ := h
  exact ⟨hsw, hcrc, hen, hcause, hsec, ha, hrest⟩

/-- A write of the low word of the alarm keeps its high word (R526). -/
theorem alarmLow_lt {a : Nat} (v : Nat) (ha : a < 2 ^ 48) : a / 2 ^ 32 * 2 ^ 32 + v % 2 ^ 32 < 2 ^ 48 := by omega

/-- A write of the high word of the alarm keeps its low word (R526). -/
theorem alarmHigh_lt (a v : Nat) : a % 2 ^ 32 + v % 65536 * 2 ^ 32 < 2 ^ 48 := by omega

theorem SafelightRanges.alarm {l : Safelight} (h : SafelightRanges l) : l.alarm < 2 ^ 48 := by
  obtain ⟨-, -, -, -, -, halarm, -⟩ := h
  exact halarm

theorem wakeEn_ranges (l : Safelight) (v : Nat) (h : SafelightRanges l) : SafelightRanges { l with wakeEn := v % 512 } := by
  obtain ⟨hsw, hcrc, -, hrest⟩ := h
  exact ⟨hsw, hcrc, Nat.mod_lt _ (by decide), hrest⟩

/-- A write of the page keeps the ranges: each register's write by the lemma of its field (R594). -/
theorem slWrite_ranges (o v : Nat) (s : State) (h : SafelightRanges s.sl) : SafelightRanges (slWrite o v s).sl := by
  unfold slWrite
  split
  · exact h
  · exact trim_ranges s.sl v h
  · exact alarm_ranges s.sl _ _ h (alarmLow_lt v h.alarm)
  · exact alarm_ranges s.sl _ _ h (alarmHigh_lt _ v)
  · refine modSl_cmps_ranges h (foldl_keeps CmpsRanges _ (fun t k ht => ?_) _ _ h.cmps)
    split
    · exact tabMod_cmpsRanges t k _ ht fun _ hc => hc
    · exact ht
  · exact wakeEn_ranges s.sl v h
  · exact wakeCause_ranges s.sl _ h (wakeCause_clear_lt v h.wakeCause)
  · exact slSpiStatusWrite_ranges v s h
  · split
    · exact cmpWrite_ranges _ v s.sl h
    · exact h

theorem spiAbort_ranges (s : State) (h : SafelightRanges s.sl) : SafelightRanges (spiAbort s).sl := h

@[simp] theorem spiAnswer_sl (st : Nat) (d : List Byte) (s : State) : (spiAnswer st d s).sl = s.sl := rfl

/-- The latch of the SPI path takes a read of the high seconds (R526). -/
theorem latchSpi_ranges (s : State) (h : SafelightRanges s.sl) :
    SafelightRanges { s.sl with latchSpi := (s.sl.rtcSec % 2 ^ 32, rtcSub s) } := rtcSecHiRead_ranges true s h

theorem spiRequest_ranges (f : List Byte) (s : State) (h : SafelightRanges s.sl) : SafelightRanges (spiRequest f s).sl := by
  simp only [spiRequest]
  split
  · exact spiAbort_ranges s h
  · split
    · exact spiCrcErr_ranges s.sl h
    · split
      · split
        · exact h
        · split
          · exact h
          · exact slWake_ranges (by decide) s h
      · split
        · exact h
        · split
          · rw [spiAnswer_sl]
            split
            · exact latchSpi_ranges s h
            · exact h
          · exact slWrite_ranges _ _ s h

theorem mgmtSpiAbort_ranges (f : List Byte) (s : State) (h : SafelightRanges s.sl) : SafelightRanges (mgmtSpiAbort f s).sl := by
  unfold mgmtSpiAbort
  split
  · exact spiAbort_ranges s h
  · exact spiRequest_ranges f s h

/-- The host's wake alone keeps the ranges. -/
theorem ranges_of_hostWake {l l' : Safelight} (hl : SafelightRanges l)
    (h : l' = l ∨ l' = { l with wakeCause := Nat.lor l.wakeCause 512 }) : SafelightRanges l' := by
  obtain rfl | rfl := h
  · exact hl
  · exact wakeCause_ranges l _ hl (wakeCause_lor_lt (k := 9) hl.wakeCause (by decide))

theorem doorbellWrite_ranges (n : Nat) (v : Word) (s : State) (h : SafelightRanges s.sl) : SafelightRanges (doorbellWrite n v s).sl := by
  unfold doorbellWrite
  split
  · exact ranges_of_hostWake h (doorbell_sl _ _ s)
  · exact h

theorem pwrWake_ranges (v : Word) (s : State) (h : SafelightRanges s.sl) : SafelightRanges (pwrWake v s).sl := by
  unfold pwrWake
  split
  · exact slWake_ranges (by decide) s h
  · exact h

theorem heldIn_ranges (d : Nat) (f : State → State) (s : State) (h : SafelightRanges s.sl) (hf : SafelightRanges (f s).sl) :
    SafelightRanges (heldIn d f s).sl := by
  unfold heldIn
  split
  · exact hf
  · exact h

theorem bar0Write_ranges (o : Nat) (v : Word) (s : State) (h : SafelightRanges s.sl) : SafelightRanges (bar0Write o v s).sl := by
  unfold bar0Write
  split
  · exact h
  · split
    · exact slWrite_ranges _ _ s h
    · split
      · exact pwrWake_ranges v s h
      · split
        · exact doorbellWrite_ranges _ v s h
        · exact h

theorem registerWrite_ranges (sp : RegSpace) (o : Nat) (v : Word) (s : State) (h : SafelightRanges s.sl) :
    SafelightRanges (registerWrite sp o v s).sl := by
  cases sp with
  | bar0 => exact bar0Write_ranges o v s h
  | window =>
    unfold registerWrite
    simp only
    split <;> exact h
  | bar4 => exact h
  | config => exact h
  | onyx => exact h

theorem safelightTcFrame_ranges (s : State) (h : SafelightRanges s.sl) : SafelightRanges (safelightTcFrame s).sl := by
  unfold safelightTcFrame
  split <;> exact h

theorem firmwareReady_ranges (s : State) (h : SafelightRanges s.sl) : SafelightRanges (firmwareReady s).sl := by
  unfold firmwareReady
  split <;> exact h

theorem safelightTcLoad_ranges (s : State) (h : SafelightRanges s.sl) : SafelightRanges (safelightTcLoad s).sl := by
  simp only [safelightTcLoad]
  split <;> exact h

theorem refFrameStart_ranges (s : State) (h : SafelightRanges s.sl) : SafelightRanges (refFrameStart s).sl :=
  safelightTcLoad_ranges _ h

theorem wakeDetect_ranges (m : Nat) (s : State) (h : SafelightRanges s.sl) : SafelightRanges (wakeDetect m s).sl := by
  simp only [wakeDetect]
  split
  · refine slWake_ranges (by decide) _ ?_
    simpa [raiseMac] using h
  · exact h

/-! Every row. -/

/-- A row that reaches the Safelight domain keeps its ranges: an entry by the host's wake, any other by the lemma of its effect. -/
theorem exec_reaching_ranges (i : Instr) (s : State) (hi : reachesSafelight i = true) (h : SafelightRanges s.sl) :
    ∃ t, exec i s = .next t ∧ SafelightRanges t.sl := by
  cases hrow : rowEntry i with
  | some p => exact ⟨_, exec_entry i p.1 p.2 s hrow, ranges_of_hostWake h (submit_sl _ _ s)⟩
  | none =>
    cases i with
    | mbDbWrite mb value => exact ⟨_, rfl, doorbellWrite_ranges _ _ s h⟩
    | referenceFrameStart => exact ⟨_, rfl, refFrameStart_ranges _ h⟩
    | wakeDetect mac => exact ⟨_, rfl, wakeDetect_ranges _ s h⟩
    | pwrWakeWrite value => exact ⟨_, rfl, heldIn_ranges 3 _ s h (pwrWake_ranges _ s h)⟩
    | comparatorChange k => exact ⟨_, rfl, comparatorChange_ranges k.isLt s h⟩
    | vsafeSwitchover b => exact ⟨_, rfl, vsafeSwitchover_ranges b s h⟩
    | safelightReset => exact ⟨_, rfl, safelightReset_ranges s⟩
    | rtcSecond => exact ⟨_, rfl, rtcSecond_ranges s h⟩
    | safelightWake k => exact ⟨_, rfl, slWake_ranges (by omega) s h⟩
    | rtcSecHiRead spi => exact ⟨_, rfl, rtcSecHiRead_ranges spi s h⟩
    | firmwareReady => exact ⟨_, rfl, firmwareReady_ranges s h⟩
    | mgmtSpiRead f => exact ⟨_, rfl, spiRequest_ranges f s h⟩
    | mgmtSpiWrite f => exact ⟨_, rfl, spiRequest_ranges f s h⟩
    | mgmtSpiWake f => exact ⟨_, rfl, spiRequest_ranges f s h⟩
    | mgmtSpiAbort f => exact ⟨_, rfl, mgmtSpiAbort_ranges f s h⟩
    | slSpiClear v => exact ⟨_, rfl, heldIn_ranges 3 _ s h (slSpiStatusWrite_ranges _ s h)⟩
    | registerWrite sp o v => exact ⟨_, rfl, registerWrite_ranges sp o v s h⟩
    | safelightTcFrame => exact ⟨_, rfl, safelightTcFrame_ranges s h⟩
    | _ => cases hi <;> cases hrow

theorem exec_ranges (i : Instr) (s : State) (h : SafelightRanges s.sl) : ∃ t, exec i s = .next t ∧ SafelightRanges t.sl := by
  cases hi : reachesSafelight i with
  | false =>
    obtain ⟨t, ht, -, hsl⟩ := exec_outside_next i s hi
    exact ⟨t, ht, hsl ▸ h⟩
  | true => exact exec_reaching_ranges i s hi h

/-- Settles O4: a step is a cycle of the clock, which leaves the Safelight domain, or a row, which keeps its ranges. -/
theorem safelightRangesKept : Obligations.SafelightRangesKept := by
  unfold Obligations.SafelightRangesKept
  intro s t h hstep
  cases hp : s.pending with
  | nil =>
    simp only [step, hp] at hstep
    cases hstep
    exact h
  | cons c rest =>
    simp only [step, hp] at hstep
    obtain ⟨u, hu, hranges⟩ := exec_ranges c { s with pending := rest } h
    rw [hu] at hstep
    cases hstep
    exact hranges

/-- Settles O3, by evaluation of the reset values. -/
theorem safelightRangesAtReset : Obligations.SafelightRangesAtReset := by
  unfold Obligations.SafelightRangesAtReset
  decide +kernel

end Sys2Proof.Machine
end

section
/-! PROOFS. The event unit: raises and clears in the two views, claims and completions of the Onyx view, messages, pins, and what a
reset leaves (R486 to R502). -/
namespace Sys2Proof.Machine
open Sys2Proof

/-! The bits of a view. -/

theorem sourceBit_ne_zero (n : Nat) : sourceBit n ≠ 0#32 := by
  intro h
  have hbit := congrArg (fun w => BitVec.getLsbD w (n % 32)) h
  simp [sourceBit, Nat.mod_lt] at hbit

theorem or_and_sourceBit (w : Word) (n : Nat) : (w ||| sourceBit n) &&& sourceBit n ≠ 0#32 := by
  have h : (w ||| sourceBit n) &&& sourceBit n = sourceBit n := by
    ext i
    simp only [BitVec.getElem_and, BitVec.getElem_or]
    cases w[i] <;> cases (sourceBit n)[i] <;> rfl
  rw [h]
  exact sourceBit_ne_zero n

theorem setEventBit_same (n : Nat) (t : Tab Word) : tabGet (setEventBit n t) (n / 32) = tabGet t (n / 32) ||| sourceBit n :=
  tabGet_tabMod_same t (n / 32) _

theorem setEventBit_other {n g : Nat} (t : Tab Word) (h : g ≠ n / 32) : tabGet (setEventBit n t) g = tabGet t g :=
  tabGet_tabMod_other t _ h

/-! Raises (R487, R489). -/

/-- A powered unit's source becomes pending in both views, outside retention (R487). -/
theorem raise_on {n : Nat} {s : State} (hon : unitOn s n = true) (hret : s.ev.retention = false) :
    raise n s = { s with ev := { s.ev with pend := setEventBit n s.ev.pend, evcPend := setEventBit n s.ev.evcPend } } := by
  simp [raise, hon, hret]

theorem raise_off {n : Nat} {s : State} (hoff : unitOn s n = false) : raise n s = s := by
  simp [raise, hoff]

theorem exec_eventRaise {source : Fin 1024} {s : State} (h : sourceReserved source = false) :
    exec (.eventRaise source) s = .next (raise source s) :=
  actOutside_kept (f := fun s => if sourceReserved source.val then s else raise source.val s) (by rw [h]; rfl) (raise_kept _ _)

/-- Settles O9: a raise and a clear by their lemmas, and the bit that a raise sets. -/
theorem eventRaised : Obligations.EventRaised := by
  unfold Obligations.EventRaised
  refine ⟨?raised, ?bit, ?cleared⟩
  case raised =>
    intro source s ⟨hsource, hret, hon⟩
    rw [exec_eventRaise hsource, raise_on hon hret]
  case bit => exact fun n t => ⟨setEventBit_same n t, fun g hg => setEventBit_other t hg⟩
  case cleared =>
    intro group value s ⟨hhost, hev⟩
    refine ⟨_, exec_bar0Write_region (bar0Region_eventPending group value hev) rfl rfl (by omega) hhost (by omega) (by omega)
      (by omega), ?_, rfl, fun g hg => ?_⟩
    · exact tabGet_tabMod_same s.ev.pend group (fun w => w &&& ~~~ value)
    · exact tabGet_tabMod_other s.ev.pend (fun w => w &&& ~~~ value) hg

/-! Claims and completions (R498, R499). -/

theorem evcLine_iff (s : State) : evcLine s = true ↔ s.ev.inService = none ∧ ∃ n, n < 1023 ∧ claimable s n = true := by
  simp [evcLine, anyUpTo, List.any_eq_true]

/-- The claim's candidate is the lowest number that is pending and enabled. -/
theorem lowestClaim_eq_some {n : Nat} {s : State} (hn : n < 1023) (hclaim : claimable s n = true)
    (hlow : ∀ k < n, claimable s k = false) : lowestClaim s = some n := by
  have hfind : (List.range 1023).find? (claimable s) = some n :=
    List.find?_range_eq_some.2 ⟨hclaim, List.mem_range.2 hn, fun k hk => by simp [hlow k hk]⟩
  exact hfind

theorem lowestClaim_eq_none {s : State} (h : ∀ n < 1023, claimable s n = false) : lowestClaim s = none := by
  have hfind : (List.range 1023).find? (claimable s) = none :=
    List.find?_eq_none.2 fun n hn => by simp [h n (List.mem_range.1 hn)]
  exact hfind

theorem evcClaim_takes {n : Nat} {s : State} (hnone : s.ev.inService = none) (hlow : lowestClaim s = some n) :
    evcClaim s = modEv (fun e => { e with
      inService := some n, claim := n, evcPend := tabMod e.evcPend (n / 32) (fun w => w &&& ~~~ sourceBit n) }) s := by
  simp only [evcClaim, hnone, hlow]

/-- With a number in service, or none to claim, a claim is spurious (R498, R499). -/
theorem evcClaim_spurious {s : State} (h : s.ev.inService.isSome = true ∨ lowestClaim s = none) :
    evcClaim s = modEv (fun e => { e with claim := 1023, spurious := satAdd 65535 e.spurious 1 }) s := by
  unfold evcClaim
  split
  next n hnone hlow => simp [hnone, hlow] at h
  next => rfl

/-- The line is deasserted while a number is in service or none can be claimed (R498). -/
theorem spurious_of_line {s : State} (h : evcLine s = false) : s.ev.inService.isSome = true ∨ lowestClaim s = none := by
  cases hserv : s.ev.inService with
  | some k => exact .inl rfl
  | none =>
    refine .inr (lowestClaim_eq_none fun n hn => ?_)
    rw [← Bool.not_eq_true]
    intro hclaim
    have hline := (evcLine_iff s).2 ⟨hserv, n, hn, hclaim⟩
    rw [h] at hline
    cases hline

theorem exec_evcClaimRead {s t : State} (hdom : domOn s 2 = true) (h : evcClaim s = t) (hk : kept t = kept s) :
    exec .evcClaimRead s = .next t :=
  actOutside_kept (f := heldIn 2 evcClaim) (by rw [heldIn_on hdom, h]) hk

theorem exec_evcCompleteWrite {n : Fin 1024} {s : State} (h : okComplete n s) :
    exec (.evcCompleteWrite n) s = .next (modEv (fun e => { e with inService := none }) s) := by
  obtain ⟨hdom, hserv⟩ := h
  exact actOutside_kept (f := heldIn 2 (evcComplete n)) (by rw [heldIn_on hdom, evcComplete, if_pos hserv]) (by simp)

theorem exec_evcCompleteWrite_other {n : Fin 1024} {s : State} (h : okCompleteOther n s) :
    exec (.evcCompleteWrite n) s = .next (modEv (fun e => { e with completeErr := true }) s) := by
  obtain ⟨hdom, hserv⟩ := h
  exact actOutside_kept (f := heldIn 2 (evcComplete n)) (by rw [heldIn_on hdom, evcComplete, if_neg hserv]) (by simp)

/-- Settles O8: each clause by the lemma of its case. -/
theorem onyxClaimsAndCompletions : Obligations.OnyxClaimsAndCompletions := by
  unfold Obligations.OnyxClaimsAndCompletions
  refine ⟨evcLine_iff, ?claim, ?spurious, fun n s => exec_evcCompleteWrite, fun n s => exec_evcCompleteWrite_other, ?served⟩
  case claim =>
    intro n s ⟨hdom, hnone, hn, hclaim, hlow⟩
    exact exec_evcClaimRead hdom (evcClaim_takes hnone (lowestClaim_eq_some hn hclaim hlow)) rfl
  case spurious =>
    intro s hdom hline
    exact exec_evcClaimRead hdom (evcClaim_spurious (spurious_of_line hline)) rfl
  case served =>
    intro n s ⟨hserv, hret, hsource, hon⟩
    refine ⟨_, exec_eventRaise hsource, ?_, ?_⟩
    · rw [raise_on hon hret]
      exact hserv
    · rw [raise_on hon hret]
      show tabGet (setEventBit n s.ev.evcPend) (n / 32) &&& sourceBit n ≠ 0#32
      rw [setEventBit_same]
      exact or_and_sourceBit _ _

/-! Messages and pins (R491 to R497). -/

/-- A message that is not masked is written to its address, and its group disarmed (R495). -/
theorem msixSend_sends {g : Fin 32} {s : State} (h : okMsiXSend g s) :
    msixSend g s = modEv (fun e => { e with
      armed := e.armed &&& ~~~ groupBit g,
      running := if tabGet e.holdoff g = 0 then e.running else e.running ||| groupBit g,
      msgs := tabMod e.msgs g (fun n => (n + 1) % 2 ^ 32), pba := e.pba &&& ~~~ groupBit g })
      (hostPoke (tabGet s.ev.table g).addr (leBytes 4 (tabGet s.ev.table g).data) s) := by
  obtain ⟨hcan, hmask, hfun⟩ := h
  simp only [msixSend, hcan, if_true, deliver]
  rw [if_neg (by simp [modEv, hmask, hfun])]
  rfl

theorem evtHoldoff_sets (g : Fin 32) (v : BitVec 32) (s : State) :
    evtHoldoff g (v.toNat % 65536) s =
      modEv (fun e => { e with holdoff := tabSet e.holdoff g (v.toNat % 65536), running := e.running &&& ~~~ groupBit g }) s := by
  simp only [evtHoldoff, Nat.mod_mod]

/-- Pin `p` after an edge to `level` at an instant (R491, R492). -/
def edgeTaken (level : Bool) (instant : Nat) (p : EviPin) : EviPin :=
  { p with level := level, ball := Bool.xor level p.invert, count := (p.count + 1) % 65536,
           sec := instant / secUnits % 2 ^ 48, ns := instant % secUnits / nsUnits }

/-- An edge is recorded, and raises the pin's source where the pin's EDGE asks for it (R491, R492). -/
theorem eviEdge_recognized {n instant : Nat} {s : State} (hret : s.ev.retention = false) :
    eviEdge n instant s =
      let up := !(eviAt s n).level
      let t := modEv (fun e => { e with pins := tabSet e.pins n (edgeTaken up instant (eviAt s n)) }) s
      if (eviAt s n).edge = 3 ∨ ((eviAt s n).edge = 1 ∧ up) ∨ ((eviAt s n).edge = 2 ∧ !up) then raise (960 + n) t else t := by
  simp only [eviEdge, hret, Bool.false_eq_true, if_false]
  rfl

theorem eviEdge_rises {pin : Fin 16} {instant : Nat} {s : State} (h : okEviRises pin instant s) :
    eviEdge pin instant s =
      raise (960 + pin) (modEv (fun e => { e with pins := tabSet e.pins pin (edgeTaken true instant (eviAt s pin)) }) s) := by
  obtain ⟨hret, hlevel, hodd, hle⟩ := h
  rw [eviEdge_recognized hret]
  have hedge : (eviAt s pin).edge = 1 ∨ (eviAt s pin).edge = 3 := by omega
  rcases hedge with hedge | hedge <;> simp [hlevel, hedge]

theorem eviEdge_falls {pin : Fin 16} {instant : Nat} {s : State} (h : okEviFalls pin instant s) :
    eviEdge pin instant s = modEv (fun e => { e with pins := tabSet e.pins pin (edgeTaken false instant (eviAt s pin)) }) s := by
  obtain ⟨hret, hlevel, hedge⟩ := h
  rw [eviEdge_recognized hret]
  simp [hlevel, hedge]

/-- Settles O55: each clause by the lemma of its row. -/
theorem eventUnitEvents : Obligations.EventUnitEvents := by
  unfold Obligations.EventUnitEvents
  refine ⟨fun source s => exec_eventRaise, ?send, ?rearm, ?holdoff, ?expiry, ?claim, ?spurious,
    fun n s => exec_evcCompleteWrite, fun n s => exec_evcCompleteWrite_other, ?rises, ?falls⟩
  case send => exact fun g s h => actOutside_kept (msixSend_sends h) (by simp)
  case rearm => exact fun v s h => actOutside_kept (f := heldIn 2 (evtRearm v)) (heldIn_on h) (modEv_kept _ s)
  case holdoff =>
    intro g v s h
    exact actOutside_kept (f := heldIn 2 (evtHoldoff g (v.toNat % 65536))) ((heldIn_on h).trans (evtHoldoff_sets g v s)) (modEv_kept _ s)
  case expiry => exact fun g s => actOutside_kept (f := holdoffExpiry g) rfl (modEv_kept _ s)
  case claim => exact fun n s ⟨hdom, hnone, hlow⟩ => exec_evcClaimRead hdom (evcClaim_takes hnone hlow) (modEv_kept _ s)
  case spurious => exact fun s ⟨hdom, hserv⟩ => exec_evcClaimRead hdom (evcClaim_spurious (.inl hserv)) (modEv_kept _ s)
  case rises =>
    intro pin instant s h
    have hball : edgeTaken true instant (eviAt s pin) = { eviAt s pin with
        level := true, ball := !(eviAt s pin).invert, count := ((eviAt s pin).count + 1) % 65536,
        sec := instant / secUnits % 2 ^ 48, ns := instant % secUnits / nsUnits } := by simp [edgeTaken]
    rw [← hball]
    exact actOutside_kept (eviEdge_rises h) (by simp)
  case falls =>
    intro pin instant s h
    have hball : edgeTaken false instant (eviAt s pin) = { eviAt s pin with
        level := false, ball := (eviAt s pin).invert, count := ((eviAt s pin).count + 1) % 65536,
        sec := instant / secUnits % 2 ^ 48, ns := instant % secUnits / nsUnits } := by simp [edgeTaken]
    rw [← hball]
    exact actOutside_kept (eviEdge_falls h) (by simp)

/-! What a reset leaves (R502). -/

/-- A pin of a reset event unit: no edge, a filter of one sample, not inverted, none counted (R502). -/
def PinAtReset (p : EviPin) : Prop := p.edge = 0 ∧ p.filt = 1 ∧ p.invert = false ∧ p.count = 0

/-- The pins of a device started anew keep the level at their ball alone (R502, R549). -/
theorem freshPins_atReset (l : List (Nat × EviPin)) (n : Nat) :
    PinAtReset (tabGet (l.foldl (fun (t : Tab EviPin) e => tabSet t e.1 { ball := e.2.ball, level := e.2.ball }) []) n) := by
  refine foldl_keeps (fun t : Tab EviPin => ∀ n, PinAtReset (tabGet t n)) _ (fun t e ht n => ?_) l [] (fun n => ?_) n
  · rw [tabGet_tabSet]
    split
    · exact ⟨rfl, rfl, rfl, rfl⟩
    · exact ht n
  · exact ⟨rfl, rfl, rfl, rfl⟩

/-- Settles O5: both states hold the event unit at its reset values but the balls of its pins, and are outside retention. -/
theorem eventUnitReset : Obligations.EventUnitReset := by
  unfold Obligations.EventUnitReset
  intro s t ht
  have hret : t.ev.retention = false := by rcases ht with rfl | rfl <;> rfl
  have hraise : ∀ n, unitOn t n = true →
      (raise n t).ev.pend = setEventBit n t.ev.pend ∧ (raise n t).ev.evcPend = setEventBit n t.ev.evcPend := by
    intro n hon
    rw [raise_on hon hret]
    exact ⟨rfl, rfl⟩
  have hpins : ∀ n, PinAtReset (eviAt t n) := by
    rcases ht with rfl | rfl
    · exact fun n => ⟨rfl, rfl, rfl, rfl⟩
    · exact freshPins_atReset s.ev.pins
  refine ⟨?_, ?_, ?_, ?_, hpins, hraise, fun n => raise_off⟩ <;> rcases ht with rfl | rfl
  · exact fun g => ⟨rfl, rfl, rfl, rfl⟩
  · exact fun g => ⟨rfl, rfl, rfl, rfl⟩
  · rfl
  · rfl
  · exact fun g => rfl
  · exact fun g => rfl
  · rfl
  · rfl

end Sys2Proof.Machine
end

section
/-! PROOFS. The Safelight domain: comparators, the clock, wakes, and what its reset leaves (R509, R523 to R530); and the statement
about the governor, which does not hold: its clause of a delayed switch leaves out the other switches of the same grant. -/
namespace Sys2Proof.Machine
open Sys2Proof

/-! The Safelight reset (R525, R529). -/

/-- What R529 sets of a comparator. -/
def cmpSettings (c : Comparator) : Nat × Nat × Nat × Bool := (c.thresh, c.hyst, c.filt, c.pol)

theorem freshComparators_settings (l : Safelight) (k : Nat) :
    cmpSettings (tabGet (freshComparators l) k) = cmpSettings (tabGet ({} : Safelight).cmps k) := by
  unfold freshComparators
  refine foldl_keeps (fun t => ∀ k, cmpSettings (tabGet t k) = cmpSettings (tabGet ({} : Safelight).cmps k)) _ (fun t j ht k => ?_) _ _
    (fun _ => rfl) k
  by_cases hkj : k = j
  · subst hkj
    rw [tabGet_tabMod_same]
    exact ht k
  · rw [tabGet_tabMod_other t _ hkj]
    exact ht k

/-- Settles O6: a reset leaves the settings of a comparator at their values of R529, which are evaluated. -/
theorem comparatorReset : Obligations.ComparatorReset := by
  unfold Obligations.ComparatorReset
  intro s
  refine ⟨safelightReset s, act_next rfl rfl, ?_, rfl, rfl, rfl, rfl⟩
  have hvalues : (List.range 6).map (fun k => cmpSettings (tabGet ({} : Safelight).cmps k)) =
      [(138, 6, 16, false), (186, 4, 4, false), (75, 4, 200, false), (75, 4, 200, false), (135, 5, 16, false), (0, 0, 1, false)] := by
    decide +kernel
  have hsettings := freshComparators_settings s.sl
  have hcmps : (safelightReset s).sl.cmps = freshComparators s.sl := by
    simp only [safelightReset, modSl]
  rw [← hvalues, hcmps]
  generalize freshComparators s.sl = t at hsettings ⊢
  exact List.map_congr_left fun k _ => hsettings k

/-! Wakes and comparators (R509, R528, R530). -/

theorem slWake_disabled {k : Nat} {s : State} (hk : k ≠ 9) (h : s.sl.wakeEn.testBit k = false) : slWake k s = s := by
  simp [slWake, hk, h]

theorem slWake_host_standby {s : State} (h : s.power.state = .standby) :
    slWake 9 s = modPwr (fun p => { p with wakeDue := true }) (modSl (fun l => { l with wakeCause := Nat.lor l.wakeCause 512 }) s) := by
  simp [slWake, h]

/-- The reported state of comparator `k` has changed, and its source is raised (R528). -/
def comparatorTurned (k : Nat) (s : State) : State :=
  raise (976 + k) (modSl (fun l => { l with
    cmps := tabSet l.cmps k { tabGet s.sl.cmps k with state := !(tabGet s.sl.cmps k).state, changed := true } }) s)

@[simp] theorem comparatorTurned_power (k : Nat) (s : State) : (comparatorTurned k s).power = s.power := by
  simp [comparatorTurned]

@[simp] theorem comparatorTurned_pending (k : Nat) (s : State) : (comparatorTurned k s).pending = s.pending := by
  simp [comparatorTurned]

@[simp] theorem comparatorTurned_wakeEn (k : Nat) (s : State) : (comparatorTurned k s).sl.wakeEn = s.sl.wakeEn := by
  simp [comparatorTurned]

/-- The comparators other than those of the doors and of VMAIN only report and wake (R528). -/
theorem comparatorChange_plain {k : Nat} {s : State} (hk : k = 0 ∨ k = 4 ∨ k = 5) :
    comparatorChange k s = slWake k (comparatorTurned k s) := by
  have h1 : k ≠ 1 := by omega
  have h2 : k ≠ 2 := by omega
  have h3 : k ≠ 3 := by omega
  simp only [comparatorChange, h1, h2, h3, false_or, false_and, if_false]
  rfl

/-- A row of the wake logic with no wake from SAFELIGHT due answers with its effect. -/
theorem wakeRow_next {f : State → State} {s t : State} (h : f s = t) (hdue : NoWakeDue t) (hp : t.pending = s.pending) :
    act (fun x => outsideSafelight wakeReset (f x)) s = .next t := by
  refine act_next ?_ hp
  rw [h, outsideSafelight_of_sl (by rw [wakeReset_of_noWakeDue hdue]), wakeReset_of_noWakeDue hdue]

theorem exec_comparatorChange_plain {k : Fin 6} {s : State} (h : okComparatorPlain k s) :
    exec (.comparatorChange k) s = .next (comparatorTurned k s) := by
  obtain ⟨hk, hsafe, -, hen⟩ := h
  refine wakeRow_next (f := comparatorChange k) ?_ (.inl (by simpa using hsafe)) (by simp)
  rw [comparatorChange_plain hk, slWake_disabled (by omega) (by simpa using hen)]

theorem exec_comparatorChange_hot {k : Fin 6} {s : State} (h : okComparatorHot k s) :
    exec (.comparatorChange k) s = .next (modSl (fun l => { l with wakeCause := Nat.lor l.wakeCause 16 }) (comparatorTurned k s)) := by
  obtain ⟨hk, hsafe, hstandby, hen⟩ := h
  refine wakeRow_next (f := comparatorChange k) ?_ (.inl (by simpa using hsafe)) (by simp)
  rw [comparatorChange_plain (.inr (.inl hk)), slWake_awake (by simpa [hk] using hen) (by omega) (by simpa using hsafe) (by simpa using hstandby)]
  exact congrArg (fun n => modSl (fun l => { l with wakeCause := Nat.lor l.wakeCause (2 ^ n) }) (comparatorTurned k s)) hk

/-! The clock and the timecode (R526, R527). -/

theorem rtcSecond_counts {s : State} (htod : s.time.tb.todValid = false)
    (halarm : s.sl.alarmEn = true → (s.sl.rtcSec + 1) % 2 ^ 48 ≠ s.sl.alarm) :
    rtcSecond s = modSl (fun l => { l with rtcSec := (l.rtcSec + 1) % 2 ^ 48, secAt := runTime s }) s := by
  have hcount : rtcAdvanced s = modSl (fun l => { l with rtcSec := (l.rtcSec + 1) % 2 ^ 48, secAt := runTime s }) s := by
    simp [rtcAdvanced, htod]
  rw [rtcSecond_eq, hcount, if_neg]
  exact fun ⟨hen, hmatch⟩ => halarm hen hmatch

theorem rtcSecond_loads {s : State} (htod : s.time.tb.todValid = true) (hstate : s.time.tb.state = .locked)
    (hdom : (domAt s 4).level = .on) (halarm : s.sl.alarmEn = false) :
    rtcSecond s = modSl (fun l => { l with rtcSec := s.time.tb.now / secUnits % 2 ^ 48, secAt := runTime s, timeValid := true }) s := by
  have hload : rtcAdvanced s =
      modSl (fun l => { l with rtcSec := s.time.tb.now / secUnits % 2 ^ 48, secAt := runTime s, timeValid := true }) s := by
    simp [rtcAdvanced, htod, hstate, hdom]
  rw [rtcSecond_eq, hload, if_neg]
  simp [modSl, halarm]

/-- Settles O57: each clause by the lemma of its row. -/
theorem safelightEvents : Obligations.SafelightEvents := by
  unfold Obligations.SafelightEvents
  refine ⟨?hostWake, fun k s => exec_comparatorChange_plain, ?hot, ?battery, ?supply, ?reset, ?counts, ?loads, ?wake, ?readBar, ?readSpi,
    ?frame⟩
  case hostWake =>
    intro v s ⟨hdom, hbit, hstate⟩
    refine act_next (f := heldIn 3 (pwrWake v)) ?_ rfl
    rw [heldIn_on hdom, pwrWake, if_pos ⟨hbit, hstate⟩, slWake_host_standby hstate]
  case hot =>
    intro k s h
    have hk : k.val = 4 := h.1
    have hexec := exec_comparatorChange_hot h
    rw [comparatorTurned, hk] at hexec
    exact hexec
  case battery =>
    intro s h
    refine act_next (f := vsafeSwitchover true) ?_ rfl
    rw [vsafeSwitchover, if_neg (by simp [h])]
    rfl
  case supply =>
    intro s h
    refine act_next (f := vsafeSwitchover false) ?_ rfl
    rw [vsafeSwitchover, if_neg (by simp [h])]
    rfl
  case reset => exact fun s => ⟨safelightReset s, act_next rfl rfl, rfl, rfl, rfl, rfl, rfl, rfl, rfl, rfl, rfl⟩
  case counts => exact fun s ⟨htod, halarm, hdue⟩ => wakeRow_next (rtcSecond_counts htod halarm) hdue rfl
  case loads => exact fun s ⟨htod, hstate, hdom, halarm, hsafe⟩ => wakeRow_next (rtcSecond_loads htod hstate hdom halarm) (.inl hsafe) rfl
  case wake =>
    exact fun k s ⟨hk, hen, hstandby, hsafe⟩ => wakeRow_next (f := safelightWake k) (slWake_awake hen hk hsafe hstandby) (.inl hsafe) rfl
  case readBar => exact fun s => act_next (f := rtcSecHiRead false) rfl rfl
  case readSpi => exact fun s => act_next (f := rtcSecHiRead true) rfl rfl
  case frame =>
    intro s h
    refine act_next (f := safelightTcFrame) ?_ rfl
    rw [safelightTcFrame, if_neg (by simp [h])]
    rfl

/-! The governor. -/

/-- Two switches of one grant wait, of which the step limit holds the first (R513). -/
def heldGrant : State :=
  { power := { stepLimit := 2000, queue := [{ grant := 1, domain := 5, target := .on, step := 3000 }, { grant := 1, domain := 6, target := .on, step := 3000 }] } }

/-- Refutes O56: its clause of a delayed switch fails. The step limit delays a grant, so the row marks every switch-on of the grant
that waits (R513); the clause marks the head of the queue alone. -/
theorem not_powerEvents : ¬ Obligations.PowerEvents := by
  unfold Obligations.PowerEvents
  rintro ⟨-, -, -, -, hdelayed, -⟩
  have hclause := hdelayed { grant := 1, domain := 5, target := .on, step := 3000 } [{ grant := 1, domain := 6, target := .on, step := 3000 }]
    heldGrant (by decide +kernel)
  have hmarks := congrArg (fun o => (answerState o).map (fun t => t.power.queue.map (·.delayed))) hclause
  exact absurd hmarks (by decide +kernel)

end Sys2Proof.Machine
end

section
/-! PROOFS. Resets and start-up (R549 to R567), availability and memory errors (R534 to R538). -/
namespace Sys2Proof.Machine
open Sys2Proof

/-! What a run of updates leaves alone. -/

/-- Updates that each leave a part of the state leave it together. -/
theorem forEach_leaves {α β : Type} (p : State → β) {f : α → State → State} (h : ∀ a t, p (f a t) = p t) (l : List α) (s : State) :
    p (forEach l f s) = p s := foldl_keeps (fun t => p t = p s) _ (fun t a ht => (h a t).trans ht) l s rfl

theorem forUpTo_leaves {β : Type} (p : State → β) {f : Nat → State → State} (h : ∀ a t, p (f a t) = p t) (n : Nat) (s : State) :
    p (forUpTo n f s) = p s := forEach_leaves p h (List.range n) s

/-! What a reset leaves of the Safelight domain and the waiting commands (R549). -/

@[simp] theorem freshDevice_kept (s : State) : kept (freshDevice s) = kept s := rfl

@[simp] theorem recovery_kept (s : State) : kept (recovery s) = kept s := by
  simp [recovery]

@[simp] theorem startImage_kept (b : List Byte) (slot : Nat) (trial fell : Bool) (s : State) : kept (startImage b slot trial fell s) = kept s := by
  simp [startImage]

@[simp] theorem tryCandidates_kept (first : Nat) (trial : Option Nat) (l : List Nat) (s : State) :
    kept (tryCandidates first trial l s) = kept s := by
  induction l with
  | nil => simp [tryCandidates]
  | cons c l ih => simp [tryCandidates, ih]

@[simp] theorem romBoot_kept (s : State) : kept (romBoot s) = kept s := by
  simp only [romBoot]
  split
  · simp
  · split <;> simp

@[simp] theorem deviceReset_kept (src strap wdt hot : Nat) (s : State) : kept (deviceReset src strap wdt hot s) = kept s := by
  simp [deviceReset]

/-! Resets (R549 to R551). -/

theorem pornReset_taken {strap : Fin 4} {widthNs : Nat} {s : State} (h : 10000 ≤ widthNs) :
    pornReset strap widthNs s = deviceReset 0 strap 0 0 s := if_neg (by omega)

theorem hrstnReset_taken {strap : Fin 4} {widthNs : Nat} {s : State} (h : okHrstnReset strap widthNs s) :
    hrstnReset strap widthNs s = deviceReset 1 strap s.boot.wdtCount 0 s := by
  obtain ⟨hwidth, h0, h1⟩ := h
  have hbath : anyUpTo 2 (fun c => decide ((recAt s c).state = .stopBath)) = false := by
    simp [anyUpTo, List.range_succ, h0, h1]
  rw [hrstnReset, if_neg (by omega), hbath, if_neg (by simp)]
  rfl

/-- A channel in its stop bath defers the reset, up to 25 ms (R424, R550). -/
theorem hrstnReset_deferred {strap : Fin 4} {widthNs : Nat} {s : State} (h : okHrstnDeferred strap widthNs s) :
    hrstnReset strap widthNs s = modBoot (fun b => { b with hrstDue := some strap }) s := by
  obtain ⟨hwidth, hchan, hstate, hdue⟩ := h
  have hbath : anyUpTo 2 (fun c => decide ((recAt s c).state = .stopBath)) = true := by
    rcases hchan with hchan | hchan <;> simp [anyUpTo, List.range_succ, hchan]
  rw [hrstnReset, if_neg (by omega), hbath, if_pos ⟨rfl, by omega, hdue⟩]

theorem bootWatchdog_resets {strap : Fin 4} {s : State} (h : okBootWatchdogExpiry strap s) :
    bootWatchdog strap s = deviceReset 2 strap (min 15 (s.boot.wdtCount + 1)) s.boot.hotCount s := by
  obtain ⟨hready, hstage, hsafe⟩ := h
  rw [bootWatchdog, if_neg (by simp [hready, hstage, hsafe])]

@[simp] theorem dcReset_kept (n : Nat) (s : State) : kept (dcReset n s) = kept s := by
  simp [dcReset]

@[simp] theorem mailboxReset_kept (n : Nat) (s : State) : kept (mailboxReset n s) = kept s := by
  simp [mailboxReset]

@[simp] theorem dropUnready_kept (s : State) : kept (dropUnready s) = kept s := by
  simp [dropUnready]

@[simp] theorem fastPathDiscard_kept (s : State) : kept (fastPathDiscard s) = kept s := rfl

@[simp] theorem modHost_kept (f : HostPart → HostPart) (s : State) : kept (modHost f s) = kept s := rfl

@[simp] theorem pcieHotReset_kept (s : State) : kept (pcieHotReset s) = kept s := by
  simp [pcieHotReset, hostViewReset]

/-! The push and the start of the firmware (R558, R561, R566, R567). -/

theorem bootPushGo_reads {v : Word} {s : State} (hstart : s.boot.started = false) (hgo : v.getLsbD 0 = true) (hstage : s.boot.stage ≠ 1) :
    bootPushGo v s = pushRead s := by
  rw [bootPushGo, if_neg (by simp [hstart]), if_pos ⟨hgo, hstage⟩]

theorem pushRead_fails {img : List Byte} {s : State} (hread : hostRead s.boot.pushAddr s.boot.pushLen s = some img)
    (hbad : verifyImage s.boot.fuses (some img) ≠ 0) :
    pushRead s = modBoot (fun b => { b with stage := 7, result := verifyImage s.boot.fuses (some img) }) s := by
  simp only [pushRead, hread, if_neg hbad]

theorem pushRead_waits {s : State} (h : hostReachable s = false) : pushRead s = modBoot (fun b => { b with stage := 1 }) s := by
  simp [pushRead, hostRead, h]

theorem secCtrlWrite_locks {v : Word} {s : State} (hoff : (v.getLsbD 0 && s.boot.debugOff) = false)
    (hlock : (v.getLsbD 1 && s.boot.fwLock) = false) :
    secCtrlWrite v s = modBoot (fun b => { b with debugOff := b.debugOff || v.getLsbD 0, fwLock := b.fwLock || v.getLsbD 1 }) s := by
  simp only [secCtrlWrite, hoff, hlock, Bool.or_self, Bool.false_eq_true, if_false]

@[simp] theorem forEach_fs {α : Type} {f : α → State → State} (h : ∀ a t, (f a t).fs = t.fs) (l : List α) (s : State) :
    (forEach l f s).fs = s.fs := forEach_leaves (·.fs) h l s

@[simp] theorem forUpTo_fs {f : Nat → State → State} (h : ∀ a t, (f a t).fs = t.fs) (n : Nat) (s : State) :
    (forUpTo n f s).fs = s.fs := forUpTo_leaves (·.fs) h n s

@[simp] theorem fs_ite {c : Prop} [Decidable c] (a b : State) : (if c then a else b).fs = if c then a.fs else b.fs := apply_ite (·.fs) c a b

@[simp] theorem postFinal_fs (c : Cmd) (st : Status) (d : Nat) (r : List Byte) (s : State) : (postFinal c st d r s).fs = s.fs := by
  simp [postFinal, postResp, bumpEpoch]

@[simp] theorem finishWait_fs (w : WaitFor) (st : Status) (d : Nat) (r : List Byte) (s : State) : (finishWait w st d r s).fs = s.fs := by
  simp [finishWait, finishCmds]

@[simp] theorem applyPending_fs (n : Nat) (s : State) : (applyPending n s).fs = s.fs := by
  simp [applyPending, applyContent]

@[simp] theorem withdrawHeld_fs (s : State) : (withdrawHeld s).fs = s.fs := by
  simp [withdrawHeld, withdraw, disarmed]

@[simp] theorem holdRasters_fs (s : State) : (holdRasters s).fs = s.fs := by
  have hsyn (f : Nat → Syn → Syn) (t : State) :
      (forUpTo 12 (fun k t => { t with time.syns := tabMod t.time.syns k (f k) }) t).fs = t.fs := forUpTo_fs (fun _ _ => rfl) 12 t
  simp [holdRasters, hsyn]

@[simp] theorem synUpdatePoint_fs (k : Nat) (s : State) : (synUpdatePoint k s).fs = s.fs := by
  have hsyn (l : List Nat) (t : State) : (forEach l (fun j s => modSyn j (synUpdated j s.time.tb.now s.time.dieTemp) s) t).fs = t.fs :=
    forEach_fs (fun j u => modSyn_fs j (synUpdated j u.time.tb.now u.time.dieTemp) u) l t
  have hmeasured (t : State) : (dieMeasured t).fs = t.fs := rfl
  simp [synUpdatePoint, hsyn, hmeasured]

@[simp] theorem setSynShadow_fs (k : Nat) (w : Option SynWords) (s : State) : (setSynShadow k w s).fs = s.fs := by
  simp [setSynShadow]

@[simp] theorem startSynths_fs (s : State) : (startSynths s).fs = s.fs := by
  simp [startSynths]

@[simp] theorem startSynths_kept (s : State) : kept (startSynths s) = kept s := by
  simp [startSynths]

@[simp] theorem loadTimebase_kept (s : State) : kept (loadTimebase s) = kept s := rfl

/-- The boot part once the firmware has declared itself ready (R561, R562). -/
def bootReady (s : State) (b : BootPart) : BootPart :=
  { b with ready := true, started := true, stage := if s.fs.up then 5 else 6, result := if s.fs.up then 0 else 0x10, wdtCount := 0,
           bootTime := (runTime s - s.boot.releasedAt) / (1000 * nsUnits) % 2 ^ 32, tcPreset := s.sl.tcValid }

theorem firmwareReady_starts {s : State} (h : okFirmwareReady s) :
    firmwareReady s =
      let v := modBoot (bootReady s) (startSynths (loadTimebase s))
      { v with ctl := { v.ctl with pair := .running }, sl := { s.sl with pwrReq := false } } := by
  obtain ⟨hpair, hready, hstage7, hstage1, hsafe, hreset⟩ := h
  rw [firmwareReady, if_neg (by simp [hpair, hready, hstage7, hstage1, hsafe])]
  simp only [hreset, Bool.false_eq_true, if_false]
  rfl

/-- Settles O59: each clause by the lemma of its row. -/
theorem bootEvents : Obligations.BootEvents := by
  unfold Obligations.BootEvents
  refine ⟨?porn, ?pornShort, ?hrstn, ?hrstnDeferred, ?hot, ?watchdog, ?pushFails, ?pushWaits, ?ready, ?debugOff, ?fwLock⟩
  case porn => exact fun strap w s h => actOutside_kept (pornReset_taken h) (deviceReset_kept _ _ _ _ s)
  case pornShort => exact fun strap w s h => actOutside_kept (f := pornReset strap w) (if_pos h) rfl
  case hrstn => exact fun strap w s h => actOutside_kept (hrstnReset_taken h) (deviceReset_kept _ _ _ _ s)
  case hrstnDeferred => exact fun strap w s h => actOutside_kept (hrstnReset_deferred h) (modBoot_kept _ s)
  case hot => exact fun s => actOutside_kept (f := pcieHotReset) rfl (pcieHotReset_kept s)
  case watchdog => exact fun strap s h => actOutside_kept (bootWatchdog_resets h) (deviceReset_kept _ _ _ _ s)
  case pushFails =>
    intro v img s ⟨hdom, hstart, hgo, hstage, hread, hbad⟩
    refine actOutside_kept (f := heldIn 3 (bootPushGo v)) ?_ (modBoot_kept _ s)
    rw [heldIn_on hdom, bootPushGo_reads hstart hgo hstage, pushRead_fails hread hbad]
  case pushWaits =>
    intro v s ⟨hdom, hstart, hgo, hstage, hreach⟩
    refine actOutside_kept (f := heldIn 3 (bootPushGo v)) ?_ (modBoot_kept _ s)
    rw [heldIn_on hdom, bootPushGo_reads hstart hgo hstage, pushRead_waits hreach]
  case ready =>
    intro s h u v
    have hup : u.fs.up = s.fs.up := congrArg FsPart.up (startSynths_fs (loadTimebase s))
    have hv : v = modBoot (bootReady s) (startSynths (loadTimebase s)) := by
      simp only [v, hup]
      rfl
    refine act_next (f := firmwareReady) ?_ ?_
    · rw [firmwareReady_starts h, hv]
    · exact (kept_eq_iff.1 (startSynths_kept (loadTimebase s))).2
  case debugOff =>
    intro v s ⟨hdom, hfree, h0, h1⟩
    refine actOutside_kept (f := heldIn 3 (debugOffWrite v)) ?_ (modBoot_kept _ s)
    rw [heldIn_on hdom, debugOffWrite, secCtrlWrite_locks (by rw [hfree, Bool.and_false]) (by rw [h1, Bool.false_and])]
    simp only [modBoot, h0, h1, Bool.or_true, Bool.or_false]
  case fwLock =>
    intro v s ⟨hdom, hfree, h1, h0⟩
    refine actOutside_kept (f := heldIn 3 (fwUpdateLockWrite v)) ?_ (modBoot_kept _ s)
    rw [heldIn_on hdom, fwUpdateLockWrite, secCtrlWrite_locks (by rw [h0, Bool.false_and]) (by rw [hfree, Bool.and_false])]
    simp only [modBoot, h0, h1, Bool.or_true, Bool.or_false]

/-! Availability and memory errors (R534 to R538). -/

@[simp] theorem tickOutput_kept (o : Nat) (s : State) : kept (tickOutput o s) = kept s := by
  simp [tickOutput]

theorem availTick_kept (s : State) : kept (availTick s) = kept s := by
  simp [availTick]

theorem exec_sramError {kind unit detail : Nat} {corrected : Bool} {s t : State} (hkind : ¬ (kind = 9 ∧ !corrected))
    (h : sramError kind unit detail corrected s = t) (hk : kept t = kept s) : exec (.sramError kind unit detail corrected) s = .next t :=
  actOutside_kept (f := fun s => if kind = 9 ∧ !corrected then tcmError detail s else sramError kind unit detail corrected s)
    ((if_neg hkind).trans h) hk

/-- The first corrected error of a tick is counted, logged and reported (R536). -/
theorem sramError_corrected {kind unit detail : Nat} {s : State} (h : okSramCorrected kind unit detail s) :
    sramError kind unit detail true s =
      raise 993 (logFault 9 255 0 { s with rel := { s.rel with sramCe := (s.rel.sramCe + 1) % 2 ^ 32, ceThisTick := true } }) := by
  obtain ⟨h10, h11, hfirst⟩ := h
  simp [sramError, h10, h11, hfirst]

/-- An uncorrected error in a buffer's descriptor quarantines the buffer (R536 kind 12, R541). -/
theorem sramError_buffer (b : Nat) (s : State) :
    sramError 12 0 b false s = raise 994 (logFault 12 255 (bufBase s b / 64 % 2 ^ 32)
      (quarantine b { s with rel := { s.rel with sramUe := (s.rel.sramUe + 1) % 2 ^ 32 } })) := by
  simp only [sramError, Bool.false_eq_true, if_false, sramEffect]
  rfl

/-- An uncorrected error in a slot disables it (R536 kind 14). -/
theorem sramError_slot (n : Nat) (s : State) :
    sramError 14 0 n false s = raise 994 (logFault 14 255 0
      (eventMemoryError true n { s with rel := { s.rel with sramUe := (s.rel.sramUe + 1) % 2 ^ 32 } })) := by
  simp only [sramError, Bool.false_eq_true, if_false, sramEffect]
  rfl

/-! What charges no output (R535). -/

@[simp] theorem updateLow_rel (k : Nat) (s : State) : (updateLow k s).rel = s.rel := by
  simp only [updateLow]
  split <;> simp [raiseIn]

theorem setTbState_rel (t : TbState) (s : State) : (setTbState t s).rel = s.rel := by
  unfold setTbState
  split <;> simp

theorem dropPicture_rel (k frame : Nat) (nobuf : Bool) (s : State) : (dropPicture k frame nobuf s).rel = s.rel := by
  simp [dropPicture, raiseIn]

theorem countUnbound_rel (b : Bool) (s : State) : (countUnbound b s).rel = s.rel := by
  simp only [countUnbound]
  split <;> split <;> simp

theorem sigCompared_rel (h r : Nat) (g : SigCfg) (ok : Option Nat) (s : State) : (sigCompared h r g ok s).rel = s.rel := by
  unfold sigCompared
  cases ok <;> dsimp only <;> split <;> simp [raiseSig, modSig]

theorem signatureCompare_rel (h r : Nat) (s : State) : (signatureCompare h r s).rel = s.rel := by
  simp only [signatureCompare]
  split
  · rfl
  · split
    · rfl
    · exact sigCompared_rel _ _ _ _ _

/-- Settles O58: each clause by the lemma of its row. -/
theorem faultEvents : Obligations.FaultEvents := by
  unfold Obligations.FaultEvents
  refine ⟨?tick, ?corrected, ?buffer, ?slot, ?uncharged⟩
  case tick => exact fun s => actOutside_kept (f := availTick) rfl (availTick_kept s)
  case corrected => exact fun kind unit detail s h => exec_sramError (by simp) (sramError_corrected h) (by simp)
  case buffer => exact fun b s => exec_sramError (by simp) (sramError_buffer b s) (by simp)
  case slot => exact fun n s => exec_sramError (by simp) (sramError_slot n s) (by simp)
  case uncharged =>
    exact fun s t n k u frame saving h r x b => ⟨setTbState_rel t s, postResp_rel n x s, rfl, dropPicture_rel k frame true s,
      countUnbound_rel b s, signatureCompare_rel h r s⟩

end Sys2Proof.Machine
end

section
/-! PROOFS. The commands of admission, shedding and commits (R323 to R325, R345 to R354, R569). -/
namespace Sys2Proof.Machine
open Sys2Proof

/-! Admission and shedding (R345 to R347, R354). -/

theorem lengthNeed_admissionReserveSet (e : CmdEntry) (s : State) : lengthNeed (cmdOf 0x0620 e s) = 16 := by
  simp [lengthNeed, opcodeLengths, cmdOf]

theorem lengthNeed_shedPlanSet (e : CmdEntry) (s : State) : lengthNeed (cmdOf 0x0622 e s) = 8 + 8 * (cmdOf 0x0622 e s).u8 0 := by
  simp [lengthNeed, opcodeLengths, cmdOf]

theorem lengthNeed_shedPolicySet (e : CmdEntry) (s : State) : lengthNeed (cmdOf 0x0623 e s) = 8 := by
  simp [lengthNeed, opcodeLengths, cmdOf]

/-- The four reservations that an ADMISSION_RESERVE_SET spells (R346). -/
def reservedSum (c : Cmd) : Nat := c.u32 0 + c.u32 4 + c.u32 8 + c.u32 12

theorem cmdAdmissionReserveSet_stores {c : Cmd} {s : State} (hlen : 16 ≤ c.length) (h : okAdmissionReserveSet c s) :
    cmdAdmissionReserveSet c s = doneWith (admResult s (admLoad s - reservations s + reservedSum c) (reservedSum c) (committedDemand s))
      (modShed (fun p => { p with resIngest := c.u32 0, resRecord := c.u32 4, resStream := c.u32 8, resBe := c.u32 12, evalDue := true }) s) := by
  obtain ⟨h0, h1, h2, h3, hfits⟩ := h
  have hrange : anyUpTo 4 (fun i => decide (400000 < c.u32 (4 * i))) = false := by
    refine anyUpTo_false fun i hi => decide_eq_false ?_
    obtain rfl | rfl | rfl | rfl : i = 0 ∨ i = 1 ∨ i = 2 ∨ i = 3 := by omega
    · exact Nat.not_lt.2 h0
    · exact Nat.not_lt.2 h1
    · exact Nat.not_lt.2 h2
    · exact Nat.not_lt.2 h3
  have hadmit : ¬ (reservations s < reservedSum c ∧ !loadFits s (admLoad s - reservations s + reservedSum c)) := by
    rcases hfits with hless | hfits
    · exact fun hover => absurd hover.1 (Nat.not_lt.2 hless)
    · exact fun hover => by simp [reservedSum, hfits] at hover
  unfold cmdAdmissionReserveSet
  dsimp only
  rw [checks_pass]
  · exact if_neg hadmit
  simp only [List.forall_mem_cons, tooShort, bad, hrange, decide_eq_false_iff_not, List.not_mem_nil, false_implies, implies_true, and_true]
  omega

/-- The steps that a SHED_PLAN_SET spells (R347). -/
def planOf (c : Cmd) : List ShedStep :=
  (List.range (c.u8 0)).map (fun i => { kind := c.u8 (8 + 8 * i), unit := c.u8 (9 + 8 * i), tier := c.u8 (10 + 8 * i), saving := c.u32 (12 + 8 * i) })

theorem cmdShedPlanSet_stores {c : Cmd} {s : State} (hlen : 8 + 8 * c.u8 0 ≤ c.length) (h : okShedPlanSet c s) :
    cmdShedPlanSet c s = done (modShed (fun p => { p with plan := planOf c, next := 0 }) s) := by
  obtain ⟨hzero, hcount, hreserved, hfault, hnone⟩ := h
  have hzeros : anyUpTo (c.u8 0) (fun i => decide (c.u8 (11 + 8 * i) ≠ 0)) = false :=
    anyUpTo_false fun i hi => by simp [hreserved i hi]
  unfold cmdShedPlanSet
  dsimp only
  rw [checks_pass]
  · rfl
  rw [hfault, hzeros]
  simp only [List.forall_mem_cons, tooShort, badD, rsvIf, stateIf, hnone, rsv_pass c 1 7 hzero, decide_eq_false_iff_not, List.isEmpty_nil,
    Bool.not_true, Option.isSome_none, List.not_mem_nil, false_implies, implies_true, and_true]
  omega

theorem cmdShedPolicySet_stores {c : Cmd} {s : State} (hlen : 8 ≤ c.length) (h : okShedPolicySet c s) :
    cmdShedPolicySet c s = done (modShed (fun p => { p with margin := c.u32 0, holdMs := c.u16 4 }) s) := by
  obtain ⟨hzero, hmargin, hhold⟩ := h
  unfold cmdShedPolicySet
  rw [checks_pass]
  simp only [List.forall_mem_cons, tooShort, bad, rsv_pass c 6 2 hzero, decide_eq_false_iff_not, List.not_mem_nil, false_implies,
    implies_true, and_true, true_and]
  omega

/-- Settles O25: each clause by the lemma of its command. -/
theorem admissionCommands : Obligations.AdmissionCommands := by
  unfold Obligations.AdmissionCommands
  refine ⟨?reserve, ?plan, ?policy, ?report⟩
  case reserve =>
    intro e s hserved c t n h
    have hlen := lengthNeed_admissionReserveSet e s ▸ served_length hserved
    exact exec_doneWith rfl hserved (cmdAdmissionReserveSet_stores hlen h)
  case plan =>
    intro e s hserved c t h
    have hlen := lengthNeed_shedPlanSet e s ▸ served_length hserved
    exact exec_done rfl hserved (cmdShedPlanSet_stores hlen h)
  case policy =>
    intro e s hserved c t h
    have hlen := lengthNeed_shedPolicySet e s ▸ served_length hserved
    exact exec_done rfl hserved (cmdShedPolicySet_stores hlen h)
  case report =>
    intro e s hserved t
    exact exec_doneWith rfl hserved rfl

/-! Commits (R323 to R325). -/

theorem lengthNeed_compat5200Set (e : CmdEntry) (s : State) : lengthNeed (cmdOf 0x0630 e s) = 4 := by
  simp [lengthNeed, opcodeLengths, cmdOf]

theorem cmdCfgCommitPowered_waits {c : Cmd} {s : State} (h : okCfgCommitWaits c s) : cmdCfgCommitPowered c s = .wait .commitArm s := by
  rw [cmdCfgCommitPowered, cmdCfgCommit, if_pos h]

/-- A commit that enables no head is armed once its checks, its references and admission pass (R324). -/
theorem tryArm_arms {c : Cmd} {s : State} (h : okCfgCommitArms c s) :
    tryArm c s =
      let p := armCommit { commitArgs c with en := [] } (commitRefs c s) (takeRefs (commitRefs c s) s).2
      .wait (.commit p.1) p.2 := by
  obtain ⟨-, hchecks, hrefs, hadmit, hon⟩ := h
  have hen : (commitArgs c).en.filter (fun h => !headEnabled s h) = [] :=
    List.filter_eq_nil_iff.2 fun h hh => by simp [hon h hh]
  have htake : takeRefs (newRefs s ((commitArgs c).named.flatMap (fun h => (nativeLayers s h).map (fun l => (l, h, (layAt s l).shadow))))) s =
      (none, (takeRefs (commitRefs c s) s).2) := Prod.ext hrefs rfl
  unfold tryArm
  dsimp only
  rw [checks_pass _ _ _ hchecks, htake]
  dsimp only
  rw [hadmit]
  dsimp only
  rw [hen]
  rfl

theorem cmdCfgCommitPowered_arms {c : Cmd} {s : State} (h : okCfgCommitArms c s) :
    cmdCfgCommitPowered c s =
      let p := armCommit { commitArgs c with en := [] } (commitRefs c s) (takeRefs (commitRefs c s) s).2
      .wait (.commit p.1) (powerHeads p.2) := by
  have hfree : commitBlocked s (headBits (c.u8 0)) = false := h.1
  rw [cmdCfgCommitPowered, cmdCfgCommit, hfree, if_neg Bool.false_ne_true, tryArm_arms h]

/-! The 5200 window (R569). -/

theorem cmdCompat5200Set_enables {c : Cmd} {s : State} (hlen : 4 ≤ c.length) (h : okCompatEnable c s) :
    cmdCompat5200Set c s =
      done { winDiscard 1 (winDiscard 0 s) with pic := { (winDiscard 1 (winDiscard 0 s)).pic with win := { enabled := true } } } := by
  obtain ⟨hzero, hon, hlayers, hpair⟩ := h
  have htaken : anyUpTo 8 (fun k => (layAt s (56 + k)).sHead.isSome || (layAt s (56 + k)).head.isSome) = false :=
    anyUpTo_false fun k hk => by simp [hlayers k hk]
  unfold cmdCompat5200Set
  dsimp only
  rw [checks_pass]
  · rw [hon]
    rfl
  simp [tooShort, bad, stateIf, rsv_pass c 1 3 hzero, htaken, hpair, hlen, hon]

theorem winDiscard_none {h : Nat} {s : State} (hnone : winPend s h = none) : winDiscard h s = s := by
  simp only [winDiscard, hnone]

/-- With no command in flight none waits. -/
theorem finishWait_idle {w : WaitFor} {st : Status} {d : Nat} {r : List Byte} {s : State} (h : s.ctl.inflight = []) :
    finishWait w st d r s = s := by
  simp [finishWait, finishCmds, h]

/-- A window with no layer in force and nothing pending closes at once (R569). -/
theorem cmdCompat5200Set_disables {c : Cmd} {s : State} (hlen : 4 ≤ c.length) (h : okCompatDisable c s) :
    cmdCompat5200Set c s = done { s with pic := { s.pic with win := {} } } := by
  obtain ⟨hzero, hoff, hopen, hlayers, hpend0, hpend1, hidle⟩ := h
  have hforce (t : State) (hsame : ∀ l, layAt t l = layAt s l) : winInForce t = [] := by
    refine List.filter_eq_nil_iff.2 fun l hl => ?_
    have hl64 := List.mem_range.1 hl
    by_cases h56 : 56 ≤ l
    · have hhead := hlayers (l - 56) (by omega)
      rw [Nat.add_sub_cancel' h56] at hhead
      simp [hsame, hhead]
    · simp [h56]
  have hdiscard : winDiscard 1 (winDiscard 0 s) = s := by
    rw [winDiscard_none (h := 0) hpend0, winDiscard_none (h := 1) hpend1]
  unfold cmdCompat5200Set
  dsimp only
  rw [checks_pass]
  · rw [hoff, hdiscard, hforce { s with pic.win := { closing := s.pic.win.enabled || s.pic.win.closing } } fun _ => rfl]
    refine (if_neg (by decide)).trans ((if_pos (hforce _ fun _ => rfl)).trans (congrArg done ?_))
    rw [winClosed, if_pos ⟨by simp [forEach, hopen], hforce _ fun _ => rfl⟩]
    exact finishWait_idle hidle
  simp [tooShort, bad, stateIf, rsv_pass c 1 3 hzero, hlen, hoff]

/-- Settles O26: each clause by the lemma of its command's form. -/
theorem commitCommands : Obligations.CommitCommands := by
  unfold Obligations.CommitCommands
  refine ⟨?waits, ?arms, ?enables, ?disables⟩
  case waits =>
    intro e s hserved c t h
    exact exec_wait rfl hserved (cmdCfgCommitPowered_waits h)
  case arms =>
    intro e s hserved c t p h
    exact exec_wait rfl hserved (cmdCfgCommitPowered_arms h)
  case enables =>
    intro e s hserved c t h
    have hlen := lengthNeed_compat5200Set e s ▸ served_length hserved
    exact exec_done rfl hserved (cmdCompat5200Set_enables hlen h)
  case disables =>
    intro e s hserved c t h
    have hlen := lengthNeed_compat5200Set e s ▸ served_length hserved
    exact exec_done rfl hserved (cmdCompat5200Set_disables hlen h)

end Sys2Proof.Machine
end

section
/-! PROOFS. The commands of the formatters (R374 to R394). -/
namespace Sys2Proof.Machine
open Sys2Proof

/-- The cost of a domain is a matter of the power part alone. -/
theorem addCosts_power_only (p : PowerPart) (l : List (Nat × Nat × Nat)) (s : State) :
    { forEach l (fun x s => modDom x.1 (fun d => { d with cost := d.cost + x.2.1 }) s) s with power := p } = { s with power := p } :=
  forEach_leaves (fun t => { t with power := p }) (f := fun x s => modDom x.1 (fun d => { d with cost := d.cost + x.2.1 }) s)
    (fun _ _ => rfl) l s

/-- A grant of the governor changes the power part alone. -/
theorem givePower_power_only (g : Grant) (s : State) : givePower g s = { s with power := (givePower g s).power } := by
  have hrest : { givePower g s with power := s.power } = s := by
    unfold givePower
    dsimp only
    rw [addCosts_power_only, addCosts_power_only]
    rfl
  exact congrArg (fun t => { t with power := (givePower g s).power }) hrest

theorem givePower_frameLabel (g : Grant) (s : State) (k : LaneSet) : frameLabel (givePower g s) k = frameLabel s k := by
  rw [givePower_power_only]
  rfl

theorem givePower_headEnabled (g : Grant) (s : State) (h : Nat) : headEnabled (givePower g s) h = headEnabled s h := by
  rw [givePower_power_only]
  rfl

/-! SDI_LANE_SET and SDI_ANC_RING_SET (R374, R375, R385). -/

theorem lengthNeed_sdiLaneSet (e : CmdEntry) (s : State) : lengthNeed (cmdOf 0x0901 e s) = 12 := by
  simp [lengthNeed, opcodeLengths, cmdOf]

theorem lengthNeed_sdiAncRingSet (e : CmdEntry) (s : State) : lengthNeed (cmdOf 0x0902 e s) = 16 := by
  simp [lengthNeed, opcodeLengths, cmdOf]

/-- The lane that a SDI_LANE_SET names takes its settings and the label of the picture it starts with. -/
def sdiPended (c : Cmd) (s t : State) : State :=
  modSdi (c.u8 0) (fun x => { x with pending := some (laneSetOf c), pendLabel := frameLabel t (laneSetOf c) }) s

theorem cmdSdiLaneSet_disables {c : Cmd} {s : State} (hlen : 12 ≤ c.length) (h : okSdiLaneOff c s) :
    cmdSdiLaneSet c s = done (sdiApply (c.u8 0) (sdiPended c s s)) := by
  obtain ⟨hflags, hzero6, hzero11, hlane, hoff, hhead, hfollows, hidle⟩ := h
  have hidle' : headEnabled s (laneSetOf c).head = false := hidle
  unfold cmdSdiLaneSet
  dsimp only
  rw [checks_pass]
  · simp only [hoff, show decide (0 = 1) = false from rfl, hidle, Bool.false_eq_true, false_and, or_self, if_false]
    simp [sdiPended, laneSetOf, hoff]
  simp [hoff, tooShort, bad, stateIf, rsvIf, rsv_pass c 6 2 hzero6, rsv_pass c 11 1 hzero11, hfollows, hlen, hflags, hlane, hhead]

/-- The grant that a SDI_LANE_SET of one lane asks for (R511). -/
def oneLaneGrant : Grant := { doms := [(28, 200, 200)], adds := [(28, 175, 0)] }

theorem cmdSdiLaneSet_enables {c : Cmd} {s : State} (hlen : 12 ≤ c.length) (h : okSdiLaneOn c s) :
    cmdSdiLaneSet c s = .wait (.sdiLane (c.u8 0)) (sdiPended c (givePower oneLaneGrant s) s) := by
  obtain ⟨hflags, hzero6, hzero11, hlane, hon, hhead, hsingle, hfmtMin, hfmtMax, htc, hfollows, hpair, hfits, hfree, hleave, hrunning⟩ := h
  have hquad : bit (c.u8 4) 3 = false := hsingle
  have hlayer : (bit (c.u8 4) 4 && decide (63 < c.u8 5)) = false := by
    by_cases hsource : bit (c.u8 4) 4
    · simpa [hsource] using htc hsource
    · simp [hsource]
  have hnine : ¬ c.u8 3 = 9 := by omega
  have hlower : isUpperOfPair s (c.u8 2) = false := by simp [isUpperOfPair, hpair]
  unfold cmdSdiLaneSet
  dsimp only
  rw [checks_pass]
  · have hgrant : askPower oneLaneGrant s = fun k => k (givePower oneLaneGrant s) := funext fun k => askPower_granted hleave
    simp only [groupOf, hquad, Bool.false_eq_true, if_false, hon, decide_true, List.filter_cons, hfree, Bool.not_false, if_true, List.filter_nil,
      List.isEmpty_cons, and_self, List.length_singleton, Nat.mul_one, ← oneLaneGrant.eq_def, hgrant, givePower_headEnabled, givePower_frameLabel,
      hrunning, true_or]
    simp [sdiPended, laneSetOf, hon, hquad]
  simp [hon, tooShort, bad, badD, stateIf, rsvIf, rsv_pass c 6 2 hzero6, rsv_pass c 11 1 hzero11, hfollows, hlen, hflags, hlane, hhead, hquad,
    hlayer, hfits, upperHeadOut, hlower, hpair, hnine]
  omega

theorem cmdSdiAncRingSet_sets {c : Cmd} {s : State} (hlen : 16 ≤ c.length) (h : okSdiAncRingOff c s ∨ okSdiAncRingOn c s) :
    cmdSdiAncRingSet c s = done (modSdi (c.u8 0)
      (fun x => { x with ringCount := c.u8 1, slotBytes := c.u32 4, ringFsa := c.u64 8, prod := 0, cons := 0, anc := [] }) s) := by
  unfold cmdSdiAncRingSet
  dsimp only
  rw [checks_pass]
  rcases h with ⟨hzero, hlane, hcount⟩ | ⟨hzero, hlane, hmin, hmax, hslot, halign, hslotMax, hbase, hfits, hfree⟩
  · simp [tooShort, bad, rsv_pass c 2 2 hzero, hlen, hlane, hcount]
  · rw [if_neg (by omega)]
    simp [tooShort, bad, ownerIf, rsv_pass c 2 2 hzero, hlen, hlane, halign, hslotMax, hbase, hfits, hfree]
    omega

/-! PANEL_PORT_SET and PANEL_DCS_SEND (R393, R394). -/

theorem lengthNeed_panelPortSet (e : CmdEntry) (s : State) : lengthNeed (cmdOf 0x0903 e s) = 12 := by
  simp [lengthNeed, opcodeLengths, cmdOf]

theorem four_le_lengthNeed_panelDcsSend (e : CmdEntry) (s : State) : 4 ≤ lengthNeed (cmdOf 0x0904 e s) := by
  simp [lengthNeed, opcodeLengths, cmdOf]

/-- The port that a PANEL_PORT_SET names takes its settings with their action. -/
def panelPended (c : Cmd) (a : Nat) (s : State) : State :=
  modPanel (c.u8 0) (fun x => { x with pending := some (a, panelCfgOf c) }) s

theorem cmdPanelPortSet_disables {c : Cmd} {s : State} (hlen : 12 ≤ c.length) (h : okPanelOff c s) :
    cmdPanelPortSet c s = done (panelApply (c.u8 0) (panelPended c 0 s)) := by
  obtain ⟨hflags, hzero, hport, hhead, hhalf, hlaneMin, hlaneMax, hmode, hdt, hrate, hlower, hoff, hfree, hidle, hstays⟩ := h
  unfold cmdPanelPortSet
  dsimp only
  rw [checks_pass]
  · simp only [hoff, show ¬ (0 = 1) by decide, false_and, if_false, hidle, Bool.false_eq_true, or_self]
    simp only [panelCfgOf] at hstays
    simp [hstays, panelPended, panelCfgOf]
  simp [tooShort, bad, badD, rsvIf, stateIf, busyIf, upperHeadOut, rsv_pass c 10 2 hzero, hlen, hflags, hport, hoff, hhead, hhalf, hlaneMax,
    hmode, hlower, hfree]
  omega

theorem cmdPanelPortSet_waits {c : Cmd} {s : State} (hlen : 12 ≤ c.length) (h : okPanelVideo c s) :
    cmdPanelPortSet c s = .wait (.panel (c.u8 0)) (panelPended c 2 s) := by
  obtain ⟨hflags, hzero, hport, hhead, -, hlaneMin, hlaneMax, hmode, hdt, hrate, hlower, hvideo, hfits, hon, hwhole, hfree, hrunning⟩ := h
  simp only [panelCfgOf, hwhole] at hfits
  unfold cmdPanelPortSet
  dsimp only
  rw [checks_pass]
  · simp only [hvideo, show ¬ (2 = 1) by decide, false_and, if_false, hrunning, true_or, if_true]
    simp [panelPended, panelCfgOf]
  simp [tooShort, bad, badD, rsvIf, stateIf, busyIf, upperHeadOut, rsv_pass c 10 2 hzero, hlen, hflags, hport, hvideo, hhead, hwhole, hlaneMax,
    hmode, hlower, hfree, hon, hfits]
  omega

/-- The list that a PANEL_DCS_SEND spells is one it may store or send (R394). -/
theorem cmdPanelDcsSend_stores {c : Cmd} {s : State} {l : List DcsPacket} (hlen : 4 ≤ c.length) (h : okPanelDcsStore c s l) :
    cmdPanelDcsSend c s = .accept (.dcs (c.u8 0) (c.u16 2) (c.u16 2)) (some (.ok, 0, [])) (modPanel (c.u8 0) (fun x => { x with list := l }) s) := by
  obtain ⟨hport, hcount, hfree, hlist, hstore⟩ := h
  unfold cmdPanelDcsSend
  dsimp only
  rw [checks_pass]
  · rw [if_pos hstore, hlist]
    rfl
  simp [tooShort, bad, stateIf, busyIf, hlen, hport, hstore, hcount, hlist, hfree]

/-- The first packet of a list leaves by a port that is on, not in video, and at rest (R394). -/
theorem cmdPanelDcsSend_sends {c : Cmd} {s : State} {l : List DcsPacket} (hlen : 4 ≤ c.length) (h : okPanelDcsSend c s l) :
    cmdPanelDcsSend c s = .accept (.dcs (c.u8 0) (c.u16 2) 1) none (modPanel (c.u8 0) (fun x => { x with
      sent := [(false, dcsBytes (l.getD 0 {}))], dcs := (x.dcs + 1) % 2 ^ 32, due := runTime s + (l.getD 0 {}).delay * 1000000 * nsUnits }) s) := by
  obtain ⟨hport, hcount, hfree, hlist, hsend, hmany, hon, hcommand, hqueue, hrested⟩ := h
  have hstep : dcsStep (c.u8 0) (c.u16 2) 0 c.params s = some (modPanel (c.u8 0) (fun x => { x with
      sent := [(false, dcsBytes (l.getD 0 {}))], dcs := (x.dcs + 1) % 2 ^ 32, due := runTime s + (l.getD 0 {}).delay * 1000000 * nsUnits }) s) := by
    rw [dcsStep, hlist]
    simp [dcsSend, hqueue, Nat.not_lt.2 hrested, hcommand]
  unfold cmdPanelDcsSend
  dsimp only
  rw [checks_pass]
  · rw [if_neg (by omega), if_neg (by omega), hstep]
    simp [show ¬ c.u16 2 = 1 by omega]
  simp [tooShort, bad, stateIf, busyIf, hlen, hport, hsend, hcount, hlist, hfree, hon]

/-- Settles O27: each clause by the lemma of its command's form. -/
theorem formatterCommands : Obligations.FormatterCommands := by
  unfold Obligations.FormatterCommands
  refine ⟨?laneOff, ?laneOn, ?ringOff, ?ringOn, ?panelOff, ?panelVideo, ?dcsStore, ?dcsSend⟩
  case laneOff =>
    intro e s hserved c t h
    have hlen := lengthNeed_sdiLaneSet e s ▸ served_length hserved
    exact exec_done rfl hserved (cmdSdiLaneSet_disables hlen h)
  case laneOn =>
    intro e s hserved c t h
    have hlen := lengthNeed_sdiLaneSet e s ▸ served_length hserved
    exact exec_wait rfl hserved (cmdSdiLaneSet_enables hlen h)
  case ringOff =>
    intro e s hserved c t h
    have hlen := lengthNeed_sdiAncRingSet e s ▸ served_length hserved
    have hset := cmdSdiAncRingSet_sets hlen (.inl h)
    obtain ⟨-, -, hcount⟩ := h
    rw [hcount] at hset
    exact exec_done rfl hserved hset
  case ringOn =>
    intro e s hserved c t h
    have hlen := lengthNeed_sdiAncRingSet e s ▸ served_length hserved
    exact exec_done rfl hserved (cmdSdiAncRingSet_sets hlen (.inr h))
  case panelOff =>
    intro e s hserved c t h
    have hlen := lengthNeed_panelPortSet e s ▸ served_length hserved
    exact exec_done rfl hserved (cmdPanelPortSet_disables hlen h)
  case panelVideo =>
    intro e s hserved c t h
    have hlen := lengthNeed_panelPortSet e s ▸ served_length hserved
    exact exec_wait rfl hserved (cmdPanelPortSet_waits hlen h)
  case dcsStore =>
    intro e s l hserved c t h
    have hlen := Nat.le_trans (four_le_lengthNeed_panelDcsSend e s) (served_length hserved)
    exact exec_acceptEnd rfl hserved (cmdPanelDcsSend_stores hlen h)
  case dcsSend =>
    intro e s l hserved c t h
    have hlen := Nat.le_trans (four_le_lengthNeed_panelDcsSend e s) (served_length hserved)
    exact exec_accept rfl hserved (cmdPanelDcsSend_sends hlen h)

end Sys2Proof.Machine
end

section
/-! PROOFS. The statement about the magazine's commands, which does not hold: its clause of MAG_FORMAT leaves out a slot that another
command holds. -/
namespace Sys2Proof.Machine
open Sys2Proof

/-- Refutes O29: its clause of MAG_FORMAT fails. A MAG_FORMAT that is open holds its slot (R46, R404), so a second one of a slot in
READY is answered BUSY and the slot stays READY, where the clause makes the slot BUSY. -/
theorem not_magazineCommands : ¬ Obligations.MagazineCommands := by
  unfold Obligations.MagazineCommands
  rintro ⟨-, -, -, hformat, -⟩
  have hclause := hformat { ticket := 7, length := 4, payload := [0, 0, 0, 0] }
    { ctl := { pair := .running, inflight := [{ mb := 1, opcode := 0x0A03, phase := .stepping (.magFormat 0 0) }] },
      mag := { slots := [(0, { state := .ready })] } }
    (by decide +kernel) (by decide +kernel)
  have hstate := congrArg (fun o => (answerState o).map (fun t => (magAt t 0).state)) hclause
  exact absurd hstate (by decide +kernel)

end Sys2Proof.Machine
end

section
/-! PROOFS. The commands of the streams (R430 to R455). -/
namespace Sys2Proof.Machine
open Sys2Proof

theorem lengthNeed_streamPortSet (e : CmdEntry) (s : State) : lengthNeed (cmdOf 0x0B11 e s) = 24 := by
  simp [lengthNeed, opcodeLengths, cmdOf]

theorem lengthNeed_streamSubCtrl (e : CmdEntry) (s : State) : lengthNeed (cmdOf 0x0B12 e s) = 4 := by
  simp [lengthNeed, opcodeLengths, cmdOf]

theorem lengthNeed_streamRxFlowSet (e : CmdEntry) (s : State) : lengthNeed (cmdOf 0x0B13 e s) = 36 := by
  simp [lengthNeed, opcodeLengths, cmdOf]

theorem lengthNeed_streamDepackSet (e : CmdEntry) (s : State) : lengthNeed (cmdOf 0x0B14 e s) = 12 := by
  simp [lengthNeed, opcodeLengths, cmdOf]

theorem lengthNeed_streamStatsRead (e : CmdEntry) (s : State) : lengthNeed (cmdOf 0x0B15 e s) = 16 := by
  simp [lengthNeed, opcodeLengths, cmdOf]

/-! Ports and subscribers (R430, R444). -/

theorem cmdStreamPortSet_sets {c : Cmd} {s : State} (hlen : 24 ≤ c.length) (h : okStreamPortSet c s) :
    cmdStreamPortSet c s = done (modPort (c.u8 0)
      (fun p => { p with srcMac := c.bytes 2 6, age := (List.range 8).foldl (fun a i => tabSet a i (c.u16 (8 + 2 * i))) p.age }) s) := by
  obtain ⟨hzero, hport, hnetwork⟩ := h
  unfold cmdStreamPortSet
  dsimp only
  rw [checks_pass]
  simp [tooShort, bad, stateIf, notNetwork, rsv_pass c 1 1 hzero, hlen, hport, hnetwork]

/-- A STREAM_SUB_CTRL that starts a subscriber which is there goes on with the start itself. -/
theorem cmdStreamSubCtrl_starts {c : Cmd} {s t : State} (hlen : 4 ≤ c.length) (hzero : Zero c 3 1) (hsub : c.u16 0 ≤ 2047) (hact : c.u8 2 = 0)
    (hen : (subAt s (c.u16 0)).enabled = true) (hstays : (subAt s (c.u16 0)).disabling = false)
    (hstart : startSubscriber (c.u16 0) s = some t) (hnow : (subAt t (c.u16 0)).starting = false) : cmdStreamSubCtrl c s = done t := by
  unfold cmdStreamSubCtrl
  dsimp only
  rw [checks_pass]
  · rw [if_pos hact, hstart]
    exact if_neg (by simp [hnow])
  simp [tooShort, bad, stateIf, rsv_pass c 3 1 hzero, hlen, hsub, hact, hen, hstays]

theorem startSubscriber_started {n : Nat} {s : State} (hen : (subAt s n).enabled = true) (hstays : (subAt s n).disabling = false)
    (hstarted : (subAt s n).started = true) : startSubscriber n s = some s := by
  simp [startSubscriber, hen, hstays, hstarted]

/-- A subscriber that is not paced starts at once, with its event (R444). -/
theorem startSubscriber_unpaced {n : Nat} {s : State} (hen : (subAt s n).enabled = true) (hstays : (subAt s n).disabling = false)
    (hstopped : (subAt s n).started = false) (hidle : (subAt s n).starting = false) (hkind : 2 ≤ (subAt s n).cfg.kind) :
    startSubscriber n s = some (raise 672 (modSub n (fun x => { x with started := true }) s)) := by
  simp [startSubscriber, subPaced, hen, hstays, hstopped, hidle, Nat.not_le.2 (show 1 < _ from hkind)]

theorem subAt_raise_modSub (k n : Nat) (f : Sub → Sub) (s : State) : subAt (raise k (modSub n f s)) n = f (subAt s n) := by
  simp [subAt, modSub]

/-! Receive flows (R449). -/

/-- The flow that a STREAM_RX_FLOW_SET enables starts anew, with full buckets and its counters kept (R449). -/
def flowStarted (c : Cmd) (s : State) : State :=
  modFlow (c.u16 0) (fun x => {
    enabled := true, since := runTime s, cfg := flowCfgOf c,
    bucketA := { level := c.u16 32 * secUnits, at_ := runTime s }, bucketB := { level := c.u16 32 * secUnits, at_ := runTime s },
    ctr := x.ctr, shadow := x.shadow }) s

/-- The ports of a flow: the second one is there unless its byte is 255. -/
theorem flowPorts_any {c : Cmd} {p : Nat → Bool} (hfirst : p (c.u8 4) = false) (hsecond : c.u8 5 ≠ 255 → p (c.u8 5) = false) :
    ((flowCfgOf c).portA :: (flowCfgOf c).portB.toList).any p = false := by
  by_cases hnone : c.u8 5 = 255
  · simp [flowCfgOf, hnone, hfirst]
  · simp [flowCfgOf, hnone, hfirst, hsecond hnone]

theorem cmdStreamRxFlowSet_enables {c : Cmd} {s : State} (hlen : 36 ≤ c.length) (h : okRxFlowOn c s) :
    cmdStreamRxFlowSet c s = done (flowStarted c s) := by
  obtain ⟨hflow, hen, hmatch, hdest, hportA, hportB, htarget, hrateMin, hrateMax, hburstMin, hburstMax, hmerge, hnetA, hnetB, hfree⟩ := h
  have hports : ((flowCfgOf c).portA :: (flowCfgOf c).portB.toList).any (fun m => decide (15 < m)) = false :=
    flowPorts_any (by simpa using hportA) fun hsome => by simpa using hportB.resolve_right hsome
  have hnetwork : ((flowCfgOf c).portA :: (flowCfgOf c).portB.toList).any (notNetwork s) = false :=
    flowPorts_any (by simp [notNetwork, hnetA]) fun hsome => by simp [notNetwork, hnetB hsome]
  have hmergeTime : ((flowCfgOf c).portB.isSome && (decide ((flowCfgOf c).mergeUs < 100) || decide (10000 < (flowCfgOf c).mergeUs))) = false := by
    by_cases hnone : c.u8 5 = 255
    · simp [flowCfgOf, hnone]
    · simpa [flowCfgOf, hnone] using hmerge hnone
  have htaken : decide ((flowCfgOf c).dest = 0 ∧ anyUpTo 512 (fun i => i ≠ c.u16 0 && (flowAt s i).enabled &&
      decide ((flowAt s i).cfg.dest = 0) && decide ((flowAt s i).cfg.target = (flowCfgOf c).target)) = true) = false := by
    refine decide_eq_false fun ⟨hmac, hany⟩ => ?_
    obtain ⟨i, hi, hsame⟩ := List.any_eq_true.1 hany
    simp only [Bool.and_eq_true, decide_eq_true_eq, ne_eq] at hsame
    obtain ⟨⟨⟨hne, hon⟩, hzero⟩, hequal⟩ := hsame
    exact hfree hmac i (List.mem_range.1 hi) ⟨hne, hon, hzero, hequal⟩
  have hrange : (if (flowCfgOf c).dest = 0 then decide (15 < (flowCfgOf c).target) else decide (27 < (flowCfgOf c).target)) = false := by
    by_cases hmac : c.u8 3 = 0
    · exact (if_pos hmac).trans (decide_eq_false (Nat.not_lt.2 ((if_pos hmac).mp htarget)))
    · exact (if_neg hmac).trans (decide_eq_false (Nat.not_lt.2 ((if_neg hmac).mp htarget)))
  unfold cmdStreamRxFlowSet
  dsimp only
  rw [checks_pass]
  · exact if_pos (decide_eq_true hen)
  rw [if_pos (decide_eq_true hen), hports, hnetwork, hmergeTime, hrange, htaken]
  simp only [List.forall_mem_append, List.forall_mem_cons, tooShort, rsvIf, bad, stateIf, decide_eq_false_iff_not,
    Bool.or_eq_false_iff, List.not_mem_nil, false_implies, implies_true, and_true, true_and]
  simp only [flowCfgOf]
  omega

theorem cmdStreamRxFlowSet_disables {c : Cmd} {s : State} (hlen : 36 ≤ c.length) (h : okRxFlowOff c s) :
    cmdStreamRxFlowSet c s = done (modFlow (c.u16 0) (fun x => { ctr := x.ctr, shadow := x.shadow }) s) := by
  obtain ⟨hflow, hoff, hempty⟩ := h
  unfold cmdStreamRxFlowSet
  dsimp only
  rw [checks_pass]
  · rw [hoff, hempty]
    rfl
  simp [tooShort, bad, hlen, hflow, hoff]

/-! Depacketizers and records (R450, R453, R455). -/

theorem cmdStreamDepackSet_enables {c : Cmd} {s : State} (hlen : 12 ≤ c.length) (h : okDepackOn c s) :
    cmdStreamDepackSet c s = .wait (.depack (c.u8 0)) (modDp (c.u8 0) (fun x => {
      enabled := true, pool := c.u8 2, sampling := c.u8 3, width := c.u16 4, endTimeoutUs := c.u32 8, ctr := x.ctr, shadow := x.shadow }) s) := by
  obtain ⟨hdp, hen, hzero, hpool, hused, hsampling, hwidth, hgroup, htimeMin, htimeMax, hlayout, hlinear, hstride, -, hclosed⟩ := h
  unfold cmdStreamDepackSet
  dsimp only
  rw [checks_pass]
  · rw [hen, dropOpen, if_neg hclosed]
    rfl
  rw [hen, hused, hlinear, hlayout]
  simp only [decide_true, if_true, List.forall_mem_append, List.forall_mem_cons, tooShort, bad, badD, rsv_pass c 6 2 hzero,
    decide_eq_false_iff_not, Bool.or_eq_false_iff, Bool.not_true, List.not_mem_nil, false_implies, implies_true, and_true, true_and]
  omega

theorem cmdStreamDepackSet_resets {c : Cmd} {s : State} (hlen : 12 ≤ c.length) (h : okDepackOff c s) :
    cmdStreamDepackSet c s = .wait (.depackReset (c.u8 0)) (resetDepack (c.u8 0) s) := by
  obtain ⟨hdp, hoff, hon⟩ := h
  unfold cmdStreamDepackSet
  dsimp only
  rw [checks_pass]
  · rw [hoff, hon]
    rfl
  simp [tooShort, bad, hlen, hdp, hoff]

/-- At most 512 records go to host memory in one step, and that step ends the command (R450). -/
theorem cmdStreamStatsRead_writes {c : Cmd} {s : State} (hlen : 16 ≤ c.length) (h : okStreamStatsRead c s) :
    cmdStreamStatsRead c s =
      .accept (.statsRead (decide (c.u8 0 = 1)) (decide (c.u8 1 = 1)) (c.u16 2) (c.u16 4) (c.u64 8) (c.u16 4)) (some (.ok, 0, []))
        (hostPoke (c.u64 8) (statsBytes s (decide (c.u8 0 = 1)) (decide (c.u8 1 = 1)) (c.u16 2) (c.u16 4)) s) := by
  obtain ⟨hzero, hkind, hshadow, hcountMin, hcountMax, hrange, halign, hreach⟩ := h
  have hstep : stepStats (decide (c.u8 0 = 1)) (decide (c.u8 1 = 1)) (c.u16 2) (c.u16 4) (c.u64 8) 0 s =
      some (c.u16 4, hostPoke (c.u64 8) (statsBytes s (decide (c.u8 0 = 1)) (decide (c.u8 1 = 1)) (c.u16 2) (c.u16 4)) s) := by
    simp [stepStats, hostWrite, hreach, Nat.min_eq_right hcountMax]
  unfold cmdStreamStatsRead
  dsimp only
  rw [checks_pass]
  · rw [hstep]
    dsimp only
    rw [if_pos (Nat.le_refl _)]
  simp [tooShort, bad, rsv_pass c 6 2 hzero, hlen, hkind, hshadow, hrange, halign]
  omega

/-- Settles O30: each clause by the lemma of its command's form. -/
theorem streamCommands : Obligations.StreamCommands := by
  unfold Obligations.StreamCommands
  refine ⟨?port, ?already, ?start, ?flowOn, ?flowOff, ?depackOn, ?depackOff, ?stats⟩
  case port =>
    intro e s hserved c t h
    have hlen := lengthNeed_streamPortSet e s ▸ served_length hserved
    exact exec_done rfl hserved (cmdStreamPortSet_sets hlen h)
  case already =>
    intro e s hserved c t h
    obtain ⟨hzero, hsub, hact, hen, hstays, hstarted, -, hidle⟩ := h
    have hlen := lengthNeed_streamSubCtrl e s ▸ served_length hserved
    exact exec_done rfl hserved
      (cmdStreamSubCtrl_starts hlen hzero hsub hact hen hstays (startSubscriber_started hen hstays hstarted) hidle)
  case start =>
    intro e s hserved c t ⟨hzero, hsub, hact, hen, hstays, hstopped, hidle, hkind⟩
    have hlen := lengthNeed_streamSubCtrl e s ▸ served_length hserved
    refine exec_done rfl hserved
      (cmdStreamSubCtrl_starts hlen hzero hsub hact hen hstays (startSubscriber_unpaced hen hstays hstopped hidle hkind) ?_)
    exact (congrArg Sub.starting (subAt_raise_modSub 672 _ _ _)).trans hidle
  case flowOn =>
    intro e s hserved c t h
    have hlen := lengthNeed_streamRxFlowSet e s ▸ served_length hserved
    exact exec_done rfl hserved (cmdStreamRxFlowSet_enables hlen h)
  case flowOff =>
    intro e s hserved c t h
    have hlen := lengthNeed_streamRxFlowSet e s ▸ served_length hserved
    exact exec_done rfl hserved (cmdStreamRxFlowSet_disables hlen h)
  case depackOn =>
    intro e s hserved c t h
    have hlen := lengthNeed_streamDepackSet e s ▸ served_length hserved
    exact exec_wait rfl hserved (cmdStreamDepackSet_enables hlen h)
  case depackOff =>
    intro e s hserved c t h
    have hlen := lengthNeed_streamDepackSet e s ▸ served_length hserved
    exact exec_wait rfl hserved (cmdStreamDepackSet_resets hlen h)
  case stats =>
    intro e s hserved c t h
    have hlen := lengthNeed_streamStatsRead e s ▸ served_length hserved
    exact exec_acceptEnd rfl hserved (cmdStreamStatsRead_writes hlen h)

end Sys2Proof.Machine
end

section
/-! PROOFS. The commands of PTP, of the rig and of the DMA channels (R456 to R465, R482). -/
namespace Sys2Proof.Machine
open Sys2Proof

theorem lengthNeed_ptpPortSet (e : CmdEntry) (s : State) : lengthNeed (cmdOf 0x0B18 e s) = 12 := by
  simp [lengthNeed, opcodeLengths, cmdOf]

theorem lengthNeed_rigSet (e : CmdEntry) (s : State) : lengthNeed (cmdOf 0x0B19 e s) = 8 := by
  simp [lengthNeed, opcodeLengths, cmdOf]

theorem lengthNeed_dmaChannelSet (e : CmdEntry) (s : State) : lengthNeed (cmdOf 0x0C01 e s) = 16 := by
  simp [lengthNeed, opcodeLengths, cmdOf]

/-! PTP_PORT_SET (R456, R458, R462). -/

/-- The settings that a PTP_PORT_SET spells. -/
def ptpCfgOf (c : Cmd) : PtpCfg :=
  { enabled := true, domain := c.u8 2, unicast := bit (c.u8 3) 0, logSync := signedOf 8 (c.u8 4), logAnnounce := signedOf 8 (c.u8 5),
    logDelayReq := signedOf 8 (c.u8 6), annTimeout := c.u8 7, prio1 := c.u8 8, prio2 := c.u8 9 }

theorem cmdPtpPortSet_listens {c : Cmd} {s : State} (hlen : 12 ≤ c.length) (h : okPtpOn c s) :
    cmdPtpPortSet c s = done (setPtpState (c.u8 0) 1 (modPtp (c.u8 0) (fun _ => { cfg := ptpCfgOf c }) s)) := by
  obtain ⟨hflags, hzero, hport, hen, hdomain, hsyncMin, hsyncMax, hannMin, hannMax, hdelayMin, hdelayMax, htimeMin, htimeMax, hnetwork,
    hsteers, hfollower⟩ := h
  unfold cmdPtpPortSet
  dsimp only
  rw [checks_pass]
  · rw [hfollower]
    exact if_pos (decide_eq_true hen)
  rw [if_pos (decide_eq_true hen), hsteers]
  simp only [List.forall_mem_append, List.forall_mem_cons, tooShort, rsvIf, bad, stateIf, rsv_pass c 10 2 hzero, notNetwork, hnetwork,
    decide_eq_false_iff_not, Bool.or_eq_false_iff, Bool.not_true, List.not_mem_nil, false_implies, implies_true, and_true, true_and]
  omega

theorem cmdPtpPortSet_stops {c : Cmd} {s : State} (hlen : 12 ≤ c.length) (h : okPtpOff c s) :
    cmdPtpPortSet c s = done (modPtp (c.u8 0) (fun _ => {}) s) := by
  obtain ⟨hflags, hzero, hport, hoff, hnone, hon, hother⟩ := h
  unfold cmdPtpPortSet
  dsimp only
  rw [checks_pass]
  · rw [hoff, hon, if_neg hother]
    rfl
  simp [tooShort, rsvIf, bad, stateIf, rsv_pass c 10 2 hzero, hlen, hflags, hport, hoff, hnone]

/-! RIG_SET (R459, R460). -/

theorem cmdRigSet_claims {c : Cmd} {s : State} (hlen : 8 ≤ c.length) (h : okRigOn c s) :
    cmdRigSet c s = done (rigClaim (modRig (fun r => { r with
      port := c.u8 1, rigId := c.u16 2, priority := c.u8 4, nonce := Config.freeNonce s.free % 2 ^ 32, round := 0 })
      { s with free := s.free + 1 })) := by
  obtain ⟨hzero, hen, hport, hnetwork, hptp, hsteered, hrest⟩ := h
  unfold cmdRigSet
  dsimp only
  rw [checks_pass]
  · rw [if_pos (decide_eq_true hen), if_pos hrest]
  simp [tooShort, bad, stateIf, rsv_pass c 5 3 hzero, notNetwork, hlen, hen, hport, hnetwork, hptp, hsteered]

theorem cmdRigSet_rests {c : Cmd} {s : State} (hlen : 8 ≤ c.length) (h : okRigOff c s) : cmdRigSet c s = done s := by
  obtain ⟨hzero, hoff, hrest⟩ := h
  unfold cmdRigSet
  dsimp only
  rw [checks_pass]
  · rw [hoff, if_pos hrest]
    rfl
  simp [tooShort, bad, rsv_pass c 5 3 hzero, hlen, hoff]

/-! DMA_CHANNEL_SET (R463, R465, R482). -/

theorem cmdDmaChannelSet_resets {c : Cmd} {s : State} (hlen : 16 ≤ c.length) (h : okDmaChannelSet c s) :
    cmdDmaChannelSet c s = .wait (.dmaReset (c.u8 0)) (modDc (c.u8 0) (fun x => { x with
      owner := c.mb, entries := if c.u8 1 = 2 then c.u16 2 else 0, entryBytes := if c.u8 1 = 2 then c.u32 4 else 0,
      ringAddr := if c.u8 1 = 2 then c.u64 8 else 0 }) (releaseHeldOps (dcStartReset (c.u8 0) (some (c.u8 1)) s))) := by
  obtain ⟨hchan, hmode, hring, howner⟩ := h
  have howned : ((decide ((dcAt s (c.u8 0)).mode ≠ 0) || (dcAt s (c.u8 0)).newMode.any (fun v => decide (v ≠ 0))) &&
      decide ((dcAt s (c.u8 0)).owner ≠ c.mb)) = false := by
    rcases howner with ⟨hoff, hnone⟩ | hown
    · cases hnew : (dcAt s (c.u8 0)).newMode <;> simp_all
    · simp [hown]
  unfold cmdDmaChannelSet
  dsimp only
  rw [checks_pass]
  · simp only [decide_eq_true_eq]
  rw [howned]
  simp only [List.forall_mem_cons, tooShort, bad, ownerIf, decide_eq_false_iff_not, Bool.and_eq_false_iff, Bool.or_eq_false_iff,
    List.not_mem_nil, false_implies, implies_true, and_true]
  omega

/-- Settles O31: each clause by the lemma of its command's form. -/
theorem ptpCommands : Obligations.PtpCommands := by
  unfold Obligations.PtpCommands
  refine ⟨?ptpOn, ?ptpOff, ?rigOn, ?rigOff, ?channel⟩
  case ptpOn =>
    intro e s hserved c t h
    have hlen := lengthNeed_ptpPortSet e s ▸ served_length hserved
    exact exec_done rfl hserved (cmdPtpPortSet_listens hlen h)
  case ptpOff =>
    intro e s hserved c t h
    have hlen := lengthNeed_ptpPortSet e s ▸ served_length hserved
    exact exec_done rfl hserved (cmdPtpPortSet_stops hlen h)
  case rigOn =>
    intro e s hserved c t h
    have hlen := lengthNeed_rigSet e s ▸ served_length hserved
    exact exec_done rfl hserved (cmdRigSet_claims hlen h)
  case rigOff =>
    intro e s hserved c t h
    have hlen := lengthNeed_rigSet e s ▸ served_length hserved
    exact exec_done rfl hserved (cmdRigSet_rests hlen h)
  case channel =>
    intro e s hserved c t h
    have hlen := lengthNeed_dmaChannelSet e s ▸ served_length hserved
    exact exec_wait rfl hserved (cmdDmaChannelSet_resets hlen h)

end Sys2Proof.Machine
end

section
/-! PROOFS. The statement about the commands of power and of extended payloads, which does not hold: its clauses of a fetched payload
leave out the number that the fetching command took. -/
namespace Sys2Proof.Machine
open Sys2Proof

/-- The 72 bytes of a REC_KEY_SET of channel 0: KEY_ID 9 and a pair of different keys. -/
def keyPayload : List Byte := [0, 0, 0, 0, 9, 0, 0, 0] ++ List.replicate 32 1 ++ List.replicate 32 2

/-- A device whose host holds the payload at its address 0. -/
def keyHost : State :=
  { ctl := { pair := .running }, host := { linkUp := true, busMaster := true, mem := (List.range 72).zip keyPayload } }

/-- Refutes O32: its clause of REC_KEY_SET fails. The command is in flight while its payload is fetched (R33), so it takes the next
number of a command in flight, and that number is used up once it has ended; the clause gives the number back. -/
theorem not_powerCommands : ¬ Obligations.PowerCommands := by
  unfold Obligations.PowerCommands
  rintro ⟨-, -, -, hkeys, -⟩
  have hclause := (hkeys { ticket := 7, length := 72, flags := 1 } keyHost keyPayload (by decide +kernel) (by decide +kernel)
    (by decide +kernel)).2
  have huid := congrArg (fun o => (answerState o).map (·.ctl.nextUid)) hclause
  exact absurd huid (by decide +kernel)

end Sys2Proof.Machine
end

section
/-! PROOFS. The statement about the commands of the system, which does not hold: its clause of a raw read leaves out the rank that the
read wakes. -/
namespace Sys2Proof.Machine
open Sys2Proof

/-- A filled frame store whose channel 15 holds its rank 0 in power-down. -/
def restedStore : State :=
  { ctl := { pair := .running }, host := { linkUp := true, busMaster := true },
    fs := { fillDone := true, cfg := { reserve := true }, chans := [(15, { pdRanks := [0] })] } }

/-- Refutes O20: its clause of a raw read fails. An access takes the rank it meets out of power-down, and DIAG_FS_RAW reads
its block from the channel, so rank 0 of channel 15 is awake after it; the clause leaves it in power-down. -/
theorem not_systemCommands : ¬ Obligations.SystemCommands := by
  unfold Obligations.SystemCommands
  rintro ⟨-, -, -, -, -, hread, -⟩
  have hclause := hread { ticket := 7, length := 16, payload := [15, 0, 0, 0, 232, 3, 0, 0, 0, 16, 0, 0, 0, 0, 0, 0] } restedStore
    (by decide +kernel) (by decide +kernel)
  have hranks := congrArg (fun o => (answerState o).map (fun t => (chanAt t 15).pdRanks)) hclause
  exact absurd hranks (by decide +kernel)

end Sys2Proof.Machine
end

section
/-! PROOFS. The commands of the firmware and of the fuses (R546, R564 to R568, R603). -/
namespace Sys2Proof.Machine
open Sys2Proof

theorem lengthNeed_fwUpdate (e : CmdEntry) (s : State) : lengthNeed (cmdOf 0x0F02 e s) = 16 := by
  simp [lengthNeed, opcodeLengths, cmdOf]

theorem lengthNeed_fwConfirm (e : CmdEntry) (s : State) : lengthNeed (cmdOf 0x0F03 e s) = 4 := by
  simp [lengthNeed, opcodeLengths, cmdOf]

theorem lengthNeed_secFuseProgram (e : CmdEntry) (s : State) :
    lengthNeed (cmdOf 0x0F04 e s) = 4 + if (cmdOf 0x0F04 e s).u8 0 = 2 then 48 else 0 := by
  simp [lengthNeed, opcodeLengths, cmdOf]

/-! FW_UPDATE and FW_CONFIRM (R565, R568). -/

/-- The image that a FW_UPDATE reads from host memory. -/
def updateImage (c : Cmd) (s : State) : List Byte := (List.range (c.u32 4)).map (fun i => tabGet s.host.mem (c.u64 8 + i))

theorem cmdFwUpdate_starts {c : Cmd} {s : State} (hlen : 16 ≤ c.length) (h : okFwUpdate c s) :
    cmdFwUpdate c s = .accept (.fwUpdate (c.u8 0) (updateImage c s) 0 1) none (flashErase (slotBase (c.u8 0)) s) := by
  obtain ⟨hflags, hzero, hslot, hsizeMin, hsizeMax, halign, hlock, hother, htrial, hfree, hreach⟩ := h
  have hactive : (s.boot.trial && decide ((recInForce s).1.active = c.u8 0)) = false := by
    cases hrun : s.boot.trial
    · rfl
    · simpa using htrial hrun
  have hread : hostRead (c.u64 8) (c.u32 4) s = some (updateImage c s) := by rw [hostRead, if_pos hreach]; rfl
  unfold cmdFwUpdate
  dsimp only
  rw [checks_pass]
  · rw [hread]
  simp only [List.forall_mem_cons, tooShort, rsvIf, bad, lockedIf, stateIf, busyIf, rsv_pass c 2 2 hzero, hlock, hactive, hfree,
    decide_eq_false_iff_not, Bool.or_eq_false_iff, List.not_mem_nil, false_implies, implies_true, and_true, true_and]
  omega

/-- A FW_CONFIRM that drops the trial writes the boot record alone (R565). -/
theorem cmdFwConfirm_drops {c : Cmd} {s : State} (hlen : 4 ≤ c.length) (h : okFwConfirmDrop c s) :
    cmdFwConfirm c s = done (writeRec { (recInForce s).1 with trial := 255, tries := 0 } s) := by
  obtain ⟨hzero, -, hlock, hdrop, hstay⟩ := h
  unfold cmdFwConfirm
  dsimp only
  rw [checks_pass]
  · rw [hdrop, hstay]
    rfl
  simp [tooShort, rsvIf, bad, lockedIf, stateIf, rsv_pass c 2 2 hzero, hlen, hlock, hdrop, hstay, show bit 0 0 = false from rfl]

/-- The boot record that makes the running slot the active one. -/
def recKept (s : State) : State := writeRec { (recInForce s).1 with active := s.boot.slot, trial := 255, tries := 0 } s

/-- A FW_CONFIRM that keeps the trial, with ADVANCE, raises the counter to the image's number (R565, R568). -/
theorem cmdFwConfirm_keeps {c : Cmd} {s : State} (hlen : 4 ≤ c.length) (h : okFwConfirmKeep c s) :
    cmdFwConfirm c s = done (modBoot (fun x => { x with fuses := { x.fuses with svnCtr := max x.fuses.svnCtr x.svn } }) (recKept s)) := by
  obtain ⟨hzero, -, hlock, hkeep, hadvance, htrial⟩ := h
  unfold cmdFwConfirm
  dsimp only
  rw [checks_pass]
  · rw [hkeep, hadvance, htrial]
    rfl
  simp [tooShort, rsvIf, bad, lockedIf, stateIf, rsv_pass c 2 2 hzero, hlen, hlock, hkeep, hadvance, htrial]

/-! SEC_FUSE_PROGRAM (R546, R564). -/

/-- An item of one word is blown in its first step (R564). -/
theorem cmdSecFuseProgram_debug {c : Cmd} {s : State} (hlen : 4 ≤ c.length) (h : okSecFuseDebug c s) :
    cmdSecFuseProgram c s = .accept (.fuse 1 [0] 1) (some (.ok, 0, []))
      { s with boot := { s.boot with fuses := { s.boot.fuses with debugLock := true } } } := by
  obtain ⟨hzero, hlock, hitem, hfresh⟩ := h
  unfold cmdSecFuseProgram
  dsimp only
  rw [checks_pass]
  · rw [hitem]
    rfl
  simp [tooShort, bad, lockedIf, stateIf, rsv_pass c 1 3 hzero, hlen, hlock, hitem, hfresh]

theorem cmdSecFuseProgram_revoke {c : Cmd} {s : State} (hlen : 4 ≤ c.length) (h : okSecFuseRevoke c s) :
    cmdSecFuseProgram c s = .accept (.fuse (c.u8 0) [0] 1) (some (.ok, 0, []))
      { s with boot := { s.boot with fuses := { s.boot.fuses with revoke := Nat.lor s.boot.fuses.revoke (2 ^ (c.u8 0 - 3)) } } } := by
  obtain ⟨hzero, hlock, hitem, hfresh, hidle⟩ := h
  unfold cmdSecFuseProgram
  dsimp only
  rw [checks_pass]
  · rcases hitem with hitem | hitem
    · rw [hitem]
      rfl
    · rw [hitem]
      rfl
  rcases hitem with hitem | hitem
  · rw [hitem] at hfresh hidle
    simp_all [tooShort, bad, lockedIf, stateIf, rsv_pass c 1 3 hzero]
  · rw [hitem] at hfresh hidle
    simp_all [tooShort, bad, lockedIf, stateIf, rsv_pass c 1 3 hzero]

/-- The key hash goes on word by word (R546). -/
theorem cmdSecFuseProgram_key {c : Cmd} {s : State} (hlen : 52 ≤ c.length) (h : okSecFuseKey c s) :
    cmdSecFuseProgram c s = .accept (.fuse 2 ((List.range 12).map (fun i => c.u32 (4 + 4 * i))) 1) none s := by
  obtain ⟨hzero, hlock, hitem, hfresh⟩ := h
  unfold cmdSecFuseProgram
  dsimp only
  rw [checks_pass]
  · rw [hitem]
    rfl
  simp [tooShort, bad, lockedIf, stateIf, rsv_pass c 1 3 hzero, hlock, hitem, hfresh]
  omega

/-- Settles O21: each clause by the lemma of its command's form. -/
theorem firmwareCommands : Obligations.FirmwareCommands := by
  unfold Obligations.FirmwareCommands
  refine ⟨?info, ?update, ?drop, ?keep, ?debug, ?revoke, ?key⟩
  case info =>
    intro e s hserved t img r
    exact exec_doneWith rfl hserved rfl
  case update =>
    intro e s hserved c t h
    have hlen := lengthNeed_fwUpdate e s ▸ served_length hserved
    exact exec_accept rfl hserved (cmdFwUpdate_starts hlen h)
  case drop =>
    intro e s hserved c t h
    have hlen := lengthNeed_fwConfirm e s ▸ served_length hserved
    exact exec_done rfl hserved (cmdFwConfirm_drops hlen h)
  case keep =>
    intro e s hserved c t u h
    have hlen := lengthNeed_fwConfirm e s ▸ served_length hserved
    exact exec_done rfl hserved (cmdFwConfirm_keeps hlen h)
  case debug =>
    intro e s hserved c t h
    have hlen := Nat.le_of_add_right_le (lengthNeed_secFuseProgram e s ▸ served_length hserved)
    exact exec_acceptEnd rfl hserved (cmdSecFuseProgram_debug hlen h)
  case revoke =>
    intro e s hserved c t h
    have hlen := Nat.le_of_add_right_le (lengthNeed_secFuseProgram e s ▸ served_length hserved)
    exact exec_acceptEnd rfl hserved (cmdSecFuseProgram_revoke hlen h)
  case key =>
    intro e s hserved c t h
    have hlen := lengthNeed_secFuseProgram e s ▸ served_length hserved
    obtain ⟨-, -, hitem, -⟩ := id h
    rw [if_pos hitem] at hlen
    exact exec_accept rfl hserved (cmdSecFuseProgram_key hlen h)

end Sys2Proof.Machine
end

section
/-! PROOFS. What the heads, their outputs and the paced subscribers leave of the Safelight domain and of the waiting commands (R62,
R314, R328): nothing of them but the steps of those domains' own rows. -/
namespace Sys2Proof.Machine
open Sys2Proof

/-! Pictures read for an output, and the lanes and ports of a head (R336, R378, R391). -/

@[simp] theorem storedCodes_kept (holder h w y b : Nat) (s : State) : kept (storedCodes holder h w y b s).2 = kept s := by
  simp only [storedCodes]
  split
  · simp
  · refine foldl_keeps (fun (acc : Tab (List Byte) × State) => kept acc.2 = kept s) _ (fun acc n hacc => ?_) _ _ rfl
    simp [hacc]

@[simp] theorem psfPut_kept (n line : Nat) (s : State) : kept (psfPut n line s) = kept s := by
  simp only [psfPut, modSdi_kept]
  split
  · split <;> simp
  · rfl

@[simp] theorem lanePut_kept (n y : Nat) (l : List Code) (s : State) : kept (lanePut n y l s) = kept s := by
  simp [lanePut]

@[simp] theorem portPut_kept (p y : Nat) (l : List Code) (s : State) : kept (portPut p y l s) = kept s := by
  simp [portPut]

@[simp] theorem handLine_kept (h y : Nat) (l : List Code) (s : State) : kept (handLine h y l s) = kept s := by
  simp [handLine]

@[simp] theorem lanePutLines_kept (n a b : Nat) (s : State) : kept (lanePutLines n a b s) = kept s := by
  simp [lanePutLines]

@[simp] theorem clearOut_kept (h : Nat) (s : State) : kept (clearOut h s) = kept s := by
  simp [clearOut]

@[simp] theorem outFrameStart_kept (h : Nat) (s : State) : kept (outFrameStart h s) = kept s := by
  simp [outFrameStart]

@[simp] theorem outFrameEnd_kept (h : Nat) (s : State) : kept (outFrameEnd h s) = kept s := by
  simp [outFrameEnd]

@[simp] theorem panelFrameStart_kept (h : Nat) (s : State) : kept (panelFrameStart h s) = kept s := by
  simp [panelFrameStart]

@[simp] theorem labelNext_kept (h n : Nat) (s : State) : kept (labelNext h n s) = kept s := by
  simp only [labelNext]
  split <;> simp

@[simp] theorem psfTake_kept (n : Nat) (s : State) : kept (psfTake n s) = kept s := by
  simp only [psfTake]
  split
  · rfl
  · split
    · rfl
    · split
      · next htake => exact kept_of_snd htake (takeRefFor_kept _ _ _ _ _)
      · next htake =>
        have htaken := kept_of_snd htake (takeRefFor_kept _ _ _ _ _)
        split <;> simp [htaken]

@[simp] theorem sdiFrameStart_kept (h : Nat) (s : State) : kept (sdiFrameStart h s) = kept s := by
  simp [sdiFrameStart]

@[simp] theorem ancTake_kept (n : Nat) (s : State) : kept (ancTake n s) = kept s := by
  simp [ancTake]

@[simp] theorem panelBlank_kept (p a : Nat) (first : Bool) (s : State) : kept (panelBlank p a first s) = kept s := by
  simp [panelBlank]

@[simp] theorem panelBlanking_kept (h : Nat) (s : State) : kept (panelBlanking h s) = kept s := by
  simp [panelBlanking]

@[simp] theorem vidBlanking_kept (h : Nat) (s : State) : kept (vidBlanking h s) = kept s := by
  simp only [vidBlanking, panelBlanking_kept]
  rw [forUpTo_kept (fun _ _ => by simp), forUpTo_kept (fun p t => ?_), forUpTo_kept (fun n t => ?_)]
  · split <;> simp
  · split <;> simp

@[simp] theorem panelStandby_kept (p : Nat) (s : State) : kept (panelStandby p s) = kept s := by
  simp [panelStandby]

@[simp] theorem panelCheck_kept (p : Nat) (s : State) : kept (panelCheck p s) = kept s := by
  simp [panelCheck]

@[simp] theorem panelTry_kept (p : Nat) (s : State) : kept (panelTry p s) = kept s := by
  simp only [panelTry]
  split <;> simp

@[simp] theorem sdiTry_kept (n : Nat) (s : State) : kept (sdiTry n s) = kept s := by
  simp only [sdiTry]
  split <;> simp

@[simp] theorem vidCheck_kept (h : Nat) (s : State) : kept (vidCheck h s) = kept s := by
  simp [vidCheck]

/-! Signatures (R361 to R365). -/

@[simp] theorem modSig_kept (h r : Nat) (f : SigState → SigState) (s : State) : kept (modSig h r f s) = kept s := by
  simp [modSig]

@[simp] theorem raiseSig_kept (h k : Nat) (s : State) : kept (raiseSig h k s) = kept s := by
  simp [raiseSig]

@[simp] theorem sigFrameStart_kept (h : Nat) (s : State) : kept (sigFrameStart h s) = kept s := by
  simp [sigFrameStart]

@[simp] theorem sigDisable_kept (h : Nat) (s : State) : kept (sigDisable h s) = kept s := by
  simp [sigDisable]

@[simp] theorem sigLand_kept (h : Nat) (old : Tab SigCfg) (s : State) : kept (sigLand h old s) = kept s := by
  simp [sigLand]

@[simp] theorem signRestart_kept (h : Nat) (s : State) : kept (signRestart h s) = kept s := by
  simp [signRestart]

@[simp] theorem signLine_kept (h y : Nat) (l : List (Nat × Nat × Nat)) (s : State) : kept (signLine h y l s) = kept s := by
  simp [signLine]

/-! Frame starts (R314). -/

@[simp] theorem chargeTables_kept (h : Nat) (s : State) : kept (chargeTables h s) = kept s := by
  simp [chargeTables]

@[simp] theorem chargeGated_kept (h : Nat) (s : State) : kept (chargeGated h s) = kept s := by
  simp only [chargeGated]
  split <;> simp

@[simp] theorem writeBackLine_kept (h y : Nat) (l : List (Nat × Nat × Nat)) (s : State) : kept (writeBackLine h y l s) = kept s := by
  simp only [writeBackLine]
  split <;> simp

@[simp] theorem actAhead_kept (h : Nat) (s : State) : kept (actAhead h s) = kept s := by
  simp [actAhead]

@[simp] theorem headReached_kept (h : Nat) (s : State) : kept (headReached h s) = kept s := by
  simp [headReached]

@[simp] theorem realignOne_kept (h : Nat) (s : State) : kept (realignOne h s) = kept s := by
  simp [realignOne]

@[simp] theorem headPlaced_kept (h : Nat) (d : Head) (s : State) : kept (headPlaced h d s) = kept s := by
  simp [headPlaced]

/-- A frame of output `o` begins: none of its faults is charged to it yet (R534). -/
def frameUncharged (o : Nat) (s : State) : State :=
  { s with rel.outputs := tabMod s.rel.outputs o (fun x => { x with chargedFrame := false }) }

@[simp] theorem frameUncharged_kept (o : Nat) (s : State) : kept (frameUncharged o s) = kept s := rfl

@[simp] theorem headFrameStart_kept (h : Nat) (s : State) : kept (headFrameStart h s) = kept s := by
  simp only [headFrameStart, ← frameUncharged.eq_def]
  split
  · rfl
  · simp only [headPlaced_kept, outFrameStart_kept]
    rw [forEach_kept panelFrameStart_kept, forEach_kept sdiFrameStart_kept]
    simp only [actAhead_kept, sigFrameStart_kept]
    rw [forEach_kept chargeGated_kept, forEach_kept frameUncharged_kept, forEach_kept (fun j t => modHd_kept j _ t)]

/-! Paced subscribers (R435, R441, R444). -/

@[simp] theorem holdNext_kept (n : Nat) (s : State) : kept (holdNext n s) = kept s := by
  simp [holdNext]

@[simp] theorem frameReleased_kept (n : Nat) (f : SubFrame) (s : State) : kept (frameReleased n f s) = kept s := by
  simp [frameReleased]

@[simp] theorem readPixels_kept (holder b x0 p y : Nat) (s : State) : kept (readPixels holder b x0 p y s).2.2 = kept s := by
  simp only [readPixels]
  split
  · simp
  · refine foldl_keeps (fun (acc : Tab (List Byte) × Bool × State) => kept acc.2.2 = kept s) _ (fun acc n hacc => ?_) _ _ rfl
    simp [hacc]

@[simp] theorem sendCopies_kept (n id eligible deadline : Nat) (paced : Bool) (frames : List (Nat × List Byte)) (s : State) :
    kept (sendCopies n id eligible deadline paced frames s) = kept s := by
  simp [sendCopies]

@[simp] theorem releaseNext_kept (n : Nat) (s : State) : kept (releaseNext n s) = kept s := by
  simp only [releaseNext]
  split
  · rfl
  · split <;> simp

@[simp] theorem releaseRest_kept (n : Nat) (s : State) : kept (releaseRest n s) = kept s := by
  simp only [releaseRest]
  split <;> simp

@[simp] theorem streamFrameStart_kept (h : Nat) (s : State) : kept (streamFrameStart h s) = kept s := by
  simp only [streamFrameStart, ← frameUncharged.eq_def]
  simp

@[simp] theorem headBegins_kept (h : Nat) (s : State) : kept (headBegins h s) = kept s := by
  simp [headBegins]

@[simp] theorem selectBuf_kept (n b : Nat) (follow : Bool) (s : State) : kept (selectBuf n b follow s).2 = kept s := by
  simp only [selectBuf]
  split <;> simp

@[simp] theorem subEvent_kept (n ev : Nat) (s : State) : kept (subEvent n ev s) = kept s := by
  simp [subEvent]

@[simp] theorem selectHead_kept (n : Nat) (s : State) : kept (selectHead n s) = kept s := by
  simp only [selectHead]
  (repeat' split) <;> simp

@[simp] theorem selectPool_kept (n : Nat) (s : State) : kept (selectPool n s) = kept s := by
  simp only [selectPool]
  (repeat' split) <;> simp

@[simp] theorem streamSelect_kept (n : Nat) (s : State) : kept (streamSelect n s) = kept s := by
  simp [streamSelect]

@[simp] theorem streamBlanking_kept (h : Nat) (s : State) : kept (streamBlanking h s) = kept s := by
  simp [streamBlanking]

/-! Blankings (R328, R573). -/

@[simp] theorem winDrop_kept (h reason layer excess : Nat) (s : State) : kept (winDrop h reason layer excess s) = kept s := by
  simp [winDrop]

@[simp] theorem winBlanking_kept (h : Nat) (s : State) : kept (winBlanking h s) = kept s := by
  simp only [winBlanking]
  (repeat' split) <;> simp

theorem blanking_kept {h : Nat} {f : State → State} {s : State} (hf : kept (f s) = kept s) : kept (blanking h f s) = kept s := by
  simp [blanking, hf]

@[simp] theorem applyLatched_kept (h : Nat) (s : State) : kept (applyLatched h s) = kept s := by
  refine forUpTo_kept (fun l t => ?_) 64 s
  (repeat' split) <;> simp

@[simp] theorem cadenceRepeat_kept (l : Nat) (s : State) : kept (cadenceRepeat l s) = kept s := by
  simp [cadenceRepeat]

@[simp] theorem cadenceSelect_kept (h fs l : Nat) (s : State) : kept (cadenceSelect h fs l s) = kept s := by
  simp only [cadenceSelect]
  split
  · simp
  · next b _ =>
    rcases htake : takeRefFor (layerRef l) (decide ((bufAt s b).state = .owned)) b (headToken s h) s with ⟨taken, t⟩
    have ht := kept_of_snd htake (takeRefFor_kept _ _ _ _ _)
    cases taken <;> simp [ht]

@[simp] theorem layersBlanking_kept (h : Nat) (s : State) : kept (layersBlanking h s) = kept s := by
  simp [layersBlanking]

@[simp] theorem lutBlanking_kept (h : Nat) (s : State) : kept (lutBlanking h s) = kept s := by
  simp [lutBlanking]

@[simp] theorem marksBlanking_kept (h : Nat) (s : State) : kept (marksBlanking h s) = kept s := by
  refine forEach_kept (fun j t => ?_) _ s
  split <;> simp

@[simp] theorem freezeOn_kept (h b : Nat) (s : State) : kept (freezeOn h b s) = kept s := by
  simp [freezeOn]

@[simp] theorem publishFrame_kept (h : Nat) (f : Nat × Nat × Nat) (s : State) : kept (publishFrame h f s) = kept s := by
  simp only [publishFrame]
  (repeat' split) <;> simp

@[simp] theorem writebackPublish_kept (h : Nat) (s : State) : kept (writebackPublish h s) = kept s := by
  simp only [writebackPublish]
  (repeat' split) <;> simp

@[simp] theorem publishPending_kept (h : Nat) (s : State) : kept (publishPending h s) = kept s := by
  simp [publishPending]

@[simp] theorem freezeStep_kept (h : Nat) (s : State) : kept (freezeStep h s) = kept s := by
  simp only [freezeStep]
  split
  · split
    · next htake => simp [kept_of_snd htake (takeRefFor_kept _ _ _ _ _)]
    · next htake => simp [kept_of_snd htake (takeRefFor_kept _ _ _ _ _)]
  · simp

@[simp] theorem dropCaptured_kept (h : Nat) (s : State) : kept (dropCaptured h s) = kept s := by
  simp only [dropCaptured]
  (repeat' split) <;> simp

@[simp] theorem thawStep_kept (h : Nat) (s : State) : kept (thawStep h s) = kept s := by
  simp only [thawStep]
  (repeat' split) <;> simp

@[simp] theorem shedBlanking_kept (h : Nat) (s : State) : kept (shedBlanking h s) = kept s := by
  simp [shedBlanking]

@[simp] theorem wbDrop_kept (h : Nat) (s : State) : kept (wbDrop h s) = kept s := by
  simp [wbDrop]

@[simp] theorem wbAcquire_kept (h : Nat) (s : State) : kept (wbAcquire h s) = kept s := by
  simp only [wbAcquire]
  split
  · rfl
  · split
    · rfl
    · split
      · next htake => simp [kept_of_snd htake (ledgerAcquire_kept _ _ _)]
      · next htake => simp [kept_of_snd htake (ledgerAcquire_kept _ _ _)]

@[simp] theorem wbFrameEnd_kept (h : Nat) (s : State) : kept (wbFrameEnd h s) = kept s := by
  simp only [wbFrameEnd]
  (repeat' split) <;> simp

@[simp] theorem blankingBody_kept (h at_ : Nat) (s : State) : kept (blankingBody h at_ s) = kept s := by
  simp [blankingBody]

/-! Commits at a head (R325, R328). -/

@[simp] theorem commitDone_kept (id : Nat) (s : State) : kept (commitDone id s) = kept s := by
  simp only [commitDone]
  (repeat' split) <;> simp

@[simp] theorem headStop_kept (h : Nat) (s : State) : kept (headStop h s) = kept s := by
  simp [headStop]

@[simp] theorem landHeadCfg_kept (h : Nat) (k : HeadCfg) (s : State) : kept (landHeadCfg h k s) = kept s := by
  simp [landHeadCfg]

@[simp] theorem layerLand_kept (h l : Nat) (k : LayerCfg) (ref : Bool) (s : State) : kept (layerLand h l k ref s) = kept s := by
  simp [layerLand]

@[simp] theorem landLayers_kept (a : Armed) (h : Nat) (s : State) : kept (landLayers a h s) = kept s := by
  simp only [landLayers]
  rw [forEach_kept (fun x t => ?_), forUpTo_kept (fun l t => by simp)]
  (repeat' split) <;> simp

@[simp] theorem winLanded_kept (id : Nat) (s : State) : kept (winLanded id s) = kept s := rfl

@[simp] theorem commitLand_kept (a : Armed) (h : Nat) (s : State) : kept (commitLand a h s) = kept s := by
  simp only [commitLand]
  (repeat' split) <;> simp

@[simp] theorem countBlanks_kept (h : Nat) (s : State) : kept (countBlanks h s) = kept s := by
  simp [countBlanks]

@[simp] theorem joinWaiting_kept (h : Nat) (s : State) : kept (joinWaiting h s) = kept s := by
  refine forUpTo_kept (fun l t => ?_) 64 s
  dsimp only
  (repeat' split) <;> simp

@[simp] theorem lengthenBlank_kept (h : Nat) (s : State) : kept (lengthenBlank h s) = kept s := by
  simp [lengthenBlank, withdrawLater]

@[simp] theorem headBlankingStart_kept (h : Nat) (s : State) : kept (headBlankingStart h s) = kept s := by
  simp [headBlankingStart]

@[simp] theorem headEnableStart_kept (h : Nat) (s : State) : kept (headEnableStart h s) = kept s := by
  simp only [headEnableStart]
  (repeat' split) <;> simp

/-! Lines (R252, R336). -/

@[simp] theorem modFetch_kept (l : Nat) (f : FetchState → FetchState) (s : State) : kept (modFetch l f s) = kept s := by
  simp [modFetch]

@[simp] theorem fetchPoison_kept (l h y : Nat) (s : State) : kept (fetchPoison l h y s) = kept s := by
  simp [fetchPoison]

@[simp] theorem fetchPixel_kept (h l b : Nat) (u : Surf) (p : Nat × Nat) (s : State) : kept (fetchPixel h l b u p s) = kept s := by
  simp [fetchPixel]

@[simp] theorem fetchLine_kept (h w v y : Nat) (s : State) : kept (fetchLine h w v y s) = kept s := by
  refine forEach_kept (fun l t => ?_) _ s
  (repeat' split) <;> simp

@[simp] theorem liveLine_kept (h w v y : Nat) (s : State) : kept (liveLine h w v y s).2 = kept s := by
  simp [liveLine]

@[simp] theorem frozenCodes_kept (h w y b : Nat) (s : State) : kept (frozenCodes h w y b s).2 = kept s := by
  simp only [frozenCodes]
  split <;> simp

@[simp] theorem resFill_kept (s : State) (j : Nat) (t : State) : kept (resFill s j t) = kept t := by
  simp [resFill]

@[simp] theorem headLineCompose_kept (h : Nat) (s : State) : kept (headLineCompose h s) = kept s := by
  simp only [headLineCompose]
  (repeat' split) <;> simp

/-! The latch point and the reservoir (R253, R254, R328). -/

@[simp] theorem fpReject_kept (l : Nat) (s : State) : kept (fpReject l s) = kept s := by
  simp [fpReject]

@[simp] theorem fpLatch_kept (l : Nat) (s : State) : kept (fpLatch l s) = kept s := by
  simp only [fpLatch]
  (repeat' split) <;> simp

@[simp] theorem latchPoint_kept (h : Nat) (s : State) : kept (latchPoint h s) = kept s := by
  simp [latchPoint]

@[simp] theorem fetchClassChange_kept (h level : Nat) (s : State) : kept (fetchClassChange h level s) = kept s := by
  simp [fetchClassChange]

@[simp] theorem reservoirStarved_kept (h n : Nat) (s : State) : kept (reservoirStarved h n s) = kept s := by
  simp [reservoirStarved]

end Sys2Proof.Machine
end

section
/-! PROOFS. Head events (R252 to R254, R314, R328, R333): each event by its condition, and the statement about them. -/
namespace Sys2Proof.Machine
open Sys2Proof

/-- An event whose row keeps the Safelight domain answers with the row's state. -/
theorem actOutside_of_kept {f : State → State} {s t : State} (hkept : kept (f s) = kept s) (h : f s = t) : actOutside f s = .next t :=
  actOutside_kept h (h ▸ hkept)

theorem forUpTo_fixed {f : Nat → State → State} {n : Nat} {s : State} (h : ∀ i, i < n → f i s = s) : forUpTo n f s = s := by
  induction n with
  | zero => rfl
  | succ n ih =>
    rw [forUpTo, List.range_succ, List.foldl_append]
    exact (congrArg (f n) (ih fun i hi => h i (by omega))).trans (h n (by omega))

/-! Frame starts (R314). -/

theorem exec_headFrameStart (head : Fin 8) (s : State) : exec (.headFrameStart head) s = .next (headBegins head s) :=
  actOutside_kept (f := headBegins head) rfl (headBegins_kept _ _)

/-- A raster that is held or shows a picture starts no frame. -/
theorem headFrameStart_held {h : Nat} {s : State} (hheld : rasterRuns s h = false ∨ (hdAt s h).inBlank = false) :
    headFrameStart h s = s := by
  rw [headFrameStart, if_pos (by simpa using hheld)]

theorem headBegins_held {h : Nat} {s : State} (hheld : rasterRuns s h = false ∨ (hdAt s h).inBlank = false) : headBegins h s = s := by
  rw [headBegins, headFrameStart_held hheld, if_pos rfl]

/-! The latch point (R328). -/

/-- The armed commits that head `h` takes at its latch point. -/
def latchBound (h : Nat) (a : Armed) : Armed :=
  if a.ready && a.heads.contains h && !a.landed.contains h && !a.bound.contains h then { a with bound := a.bound ++ [h] } else a

/-- Where no commit is the window's and no layer of the head has a pending fast path set, the latch point binds the ready commits. -/
theorem latchPoint_binds {head : Fin 8} {s : State} (h : okLatchPoint head s) :
    latchPoint head s = modHd head (fun x => { x with latched := true })
      (modFx (fun x => { x with armed := x.armed.map (latchBound head) }) s) := by
  obtain ⟨hruns, hshown, hfirst, hnative, hsettled⟩ := h
  have hquiet (f : Fixer → Fixer) :
      forUpTo 64 (fun l t => if (layAt t l).head = some head.val then fpLatch l t else t) (modFx f s) = modFx f s := by
    refine forUpTo_fixed fun l hl => ?_
    have hlay : layAt (modFx f s) l = layAt s l := rfl
    rcases hsettled l hl with hother | hnone
    · rw [hlay, if_neg hother]
    · rw [fpLatch, hlay, hnone, ite_self]
  rw [latchPoint, if_neg (by simp [hruns, hshown, hfirst])]
  dsimp only
  rw [hquiet]
  refine congrArg (fun l => modHd head _ (modFx (fun x => { x with armed := l }) s)) (List.map_congr_left fun a ha => ?_)
  simp [latchBound, hnative a ha]

/-! Blankings (R328). -/

/-- The parts of the picture in which the commits, the layers and the heads lie. -/
def scene (s : State) : Tab Head × Tab Layer × Fixer := (s.pic.heads, s.pic.layers, s.pic.fx)

theorem scene_eq_iff {s t : State} : scene t = scene s ↔ t.pic.heads = s.pic.heads ∧ t.pic.layers = s.pic.layers ∧ t.pic.fx = s.pic.fx := by
  simp [scene]

theorem scene_of_pic {s t : State} (h : t.pic = s.pic) : scene t = scene s := by simp [scene, h]

@[simp] theorem scene_ite {c : Prop} [Decidable c] (a b : State) : scene (if c then a else b) = if c then scene a else scene b :=
  apply_ite scene c a b

@[simp] theorem forEach_scene {α : Type} {f : α → State → State} (h : ∀ a t, scene (f a t) = scene t) (l : List α) (s : State) :
    scene (forEach l f s) = scene s := forEach_leaves scene h l s

@[simp] theorem modSdi_scene (n : Nat) (f : SdiLane → SdiLane) (s : State) : scene (modSdi n f s) = scene s := scene_of_pic rfl

@[simp] theorem raise_scene (n : Nat) (s : State) : scene (raise n s) = scene s := scene_of_pic (raise_pic n s)

@[simp] theorem wakeRank_scene (c loc : Nat) (s : State) : scene (wakeRank c loc s) = scene s := by
  simp only [wakeRank, scene_ite]
  exact ite_self _

@[simp] theorem logFault_scene (kind unit detail : Nat) (s : State) : scene (logFault kind unit detail s) = scene s := by
  simp only [logFault, scene_ite, raise_scene]
  exact ite_self _

theorem withUsable_scene {f : State → State} {s : State} (h : scene (f s) = scene s) : scene (withUsable f s) = scene s := by
  simp only [withUsable, scene_ite, raise_scene]
  split
  · exact h
  · exact h

@[simp] theorem autoRetire_scene (c : Nat) (s : State) : scene (autoRetire c s) = scene s := by
  simp only [autoRetire, scene_ite, startRetire, raise_scene]
  split
  · exact withUsable_scene rfl
  · rfl

@[simp] theorem patrolLog_scene (line c : Nat) (rep : Bool) (s : State) : scene (patrolLog line c rep s) = scene s := by
  simp only [patrolLog, scene_ite]
  exact ite_self _

@[simp] theorem reportUe_scene (line : Nat) (s : State) : scene (reportUe line s) = scene s := by
  simp only [reportUe, countUe, autoRetire_scene, patrolLog_scene, fsUeFault, logFault_scene, raise_scene]
  rfl

@[simp] theorem reportCe_scene (line : Nat) (s : State) : scene (reportCe line s) = scene s := by
  simp only [reportCe, countCe, scene_ite, raise_scene]
  exact ite_self _

@[simp] theorem fsReadLine_scene (line : Nat) (s : State) : scene (fsReadLine line s).2.2 = scene s := by
  have hwoken (t : State) (ht : t.pic = (wakeRank (placeOf s (64 * line)).1 (placeOf s (64 * line)).2 s).pic) : scene t = scene s :=
    (scene_of_pic ht).trans (wakeRank_scene _ _ s)
  simp only [fsReadLine]
  (repeat' split) <;> simp [hwoken] <;> rfl

@[simp] theorem bufReadLine_scene (b n : Nat) (s : State) : scene (bufReadLine b n s).2.2 = scene s := by
  simp only [bufReadLine]
  split
  · rfl
  · exact fsReadLine_scene n s

@[simp] theorem holeRead_scene (holder b tok : Nat) (s : State) : scene (holeRead holder b tok s) = scene s := by
  simp only [holeRead, scene_ite, raise_scene]
  (repeat' split) <;> rfl

@[simp] theorem chargeFrame_scene (o kind : Nat) (s : State) : scene (chargeFrame o kind s) = scene s := scene_of_pic rfl

@[simp] theorem storedCodes_scene (holder h w y b : Nat) (s : State) : scene (storedCodes holder h w y b s).2 = scene s := by
  simp only [storedCodes]
  split
  · exact holeRead_scene _ _ _ s
  · refine foldl_keeps (fun (acc : Tab (List Byte) × State) => scene acc.2 = scene s) _ (fun acc n hacc => ?_) _ _ rfl
    simp [hacc]

@[simp] theorem psfPut_scene (n line : Nat) (s : State) : scene (psfPut n line s) = scene s := by
  simp only [psfPut, modSdi_scene]
  (repeat' split) <;> simp

@[simp] theorem lanePutLines_scene (n a b : Nat) (s : State) : scene (lanePutLines n a b s) = scene s := by
  simp [lanePutLines]

/-- The last lines of an SDI picture leave the heads, the layers and the commits as they are. -/
theorem outFrameEnd_scene (h : Nat) (s : State) : scene (outFrameEnd h s) = scene s := by
  simp [outFrameEnd]

theorem joinWaiting_none {h : Nat} {s : State} (hnone : ∀ l, l < 64 → (layAt s l).join = none) : joinWaiting h s = s :=
  forUpTo_fixed fun l hl => by simp [hnone l hl]

theorem wbFrameEnd_none {h : Nat} {s : State} (hnone : (hdAt s h).wb.buf = none) : wbFrameEnd h s = s := by
  simp only [wbFrameEnd, hnone]

/-- A blanking with no write-back picture, no bound commit and no layer that waits prepares the next frame alone. -/
theorem headBlankingStart_plain {head : Fin 8} {s : State} (h : okHeadBlankingPlain head s) :
    headBlankingStart head s =
      let v := countBlanks head (outFrameEnd head s)
      slotsInRaster noRenum
        (if headEnabled v head then blankingBody head (headReach s head (headTarget s head (timingOf s head).vact 0)) v else v) := by
  obtain ⟨hruns, hshown, haligned, hnobuf, hunbound, hjoined⟩ := h
  obtain ⟨hheads, hlayers, hfx⟩ := scene_eq_iff.1 (outFrameEnd_scene head s)
  have hbuf : (hdAt (outFrameEnd head s) head).wb.buf = none := by rw [hdAt, hheads]; exact hnobuf
  have hjoin (l : Nat) (hl : l < 64) : (layAt (outFrameEnd head s) l).join = none := by rw [layAt, hlayers]; exact hjoined l hl
  have hbound : (outFrameEnd head s).pic.fx.armed.filter (fun a => a.bound.contains head.val) = [] := by
    rw [hfx]
    exact List.filter_eq_nil_iff.2 fun a ha => by simpa using hunbound a ha
  have hshort : ¬ ((hdAt s head).realign = true ∧ (!(hdAt s head).cfg.timing.align) = true) := by
    rcases haligned with h | h <;> simp [h]
  rw [headBlankingStart, if_neg (by simp [hruns, hshown])]
  dsimp only
  rw [if_neg hshort, wbFrameEnd_none hbuf, joinWaiting_none hjoin, hbound]
  rfl

/-! Write-back (R333). -/

theorem writebackPublish_done {h b num at_ : Nat} {s : State} (hlive : (hdAt s h).wb.freeze ≠ .frozen)
    (hdone : (hdAt s h).wb.done = some (b, num, at_)) :
    writebackPublish h s = publishFrame h (b, num, at_) (modHd h (fun x => { x with wb := { x.wb with done := none } }) s) := by
  simp only [writebackPublish, if_neg hlive, hdone]

theorem hdAt_modHd_same (h : Nat) (f : Head → Head) (s : State) : hdAt (modHd h f s) h = f (hdAt s h) :=
  tabGet_tabMod_same s.pic.heads h f

/-- A head stays locked or apart, whatever else of it changes. -/
theorem pairLocked_modHd {f : Head → Head} (hpair : ∀ x, (f x).pair = x.pair) (j h : Nat) (s : State) :
    pairLocked (modHd j f s) h = pairLocked s h := by
  by_cases hj : h / 2 * 2 = j
  · rw [pairLocked, hj, hdAt_modHd_same, hpair, pairLocked, hj]
  · exact congrArg Head.pair (tabGet_tabMod_other s.pic.heads f hj)

theorem headToken_modHd (f : Head → Head) (hpair : ∀ x, (f x).pair = x.pair) (j h : Nat) (s : State) :
    headToken (modHd j f s) h = headToken s h := by
  rw [headToken, lowerOf, pairLocked_modHd hpair]
  rfl

/-- A finished write-back picture is published, and its head holds it as its last one (R333). -/
theorem writebackPublish_publishes {head : Fin 8} {b num at_ : Nat} {u v s : State} (h : okWritebackPublished head b num at_ u v s) :
    writebackPublish head s = modHd head (fun x => { x with wb := { x.wb with last := some b, lastNum := b } }) v := by
  obtain ⟨hdone, hlast, hlive, hmode, hpublish, htake⟩ := h
  have htoken : headToken (modHd head (fun x => { x with wb := { x.wb with done := none } }) s) head = headToken s head :=
    headToken_modHd (fun x => { x with wb := { x.wb with done := none } }) (fun _ => rfl) head head s
  simp only [writebackPublish_done hlive hdone, publishFrame, htoken, hpublish, hdAt_modHd_same, hmode, hlast, htake, ne_eq,
    not_true_eq_false, if_false, if_true]

theorem writebackPublish_early {head : Fin 8} {b : Nat} {s : State} (h : okWritebackEarly head b s) :
    writebackPublish head s = publishFrame head (b, ((hdAt s head).frame % 2 ^ 64).toNat, (hdAt s head).frameAt)
      (modHd head (fun x => { x with wb := { x.wb with buf := none, captured := if x.wb.freeze = .capture then some b else none } }) s) := by
  obtain ⟨hdone, hlive, hbuf, hon, hshown, hcomposed⟩ := h
  simp only [writebackPublish, if_neg hlive, hdone, hbuf]
  exact if_neg (by simp [hon, hshown, hcomposed])

/-! Fetch classes and the reservoir (R253, R254). -/

theorem exec_fetchClassChange {head : Fin 8} {level : Nat} {s t : State} (h : fetchClassChange head level s = t) :
    exec (.fetchClassChange head level) s = .next t :=
  actOutside_of_kept (f := fetchClassChange head level) (fetchClassChange_kept _ _ _) h

/-- The requests of every agent have the class of its row (R26, R161). -/
theorem requestClass_rows (s : State) (n : Nat) :
    requestClass s (.fetch n) = (if (hdAt s n).res.cls = 0 then .rt else if (hdAt s n).res.cls = 1 then .u2 else .u3) ∧
    (∀ a ∈ [Agent.writeBack n, .ingest n, .record n, .packetizer, .psfLane n, .depack n],
      requestClass s a = .rt ∧ waitingClass s a true = .rt) ∧
    (∀ a ∈ [Agent.lutLoad n, .tables, .dma n, .bar2, .onyx],
      requestClass s a = .be ∧ waitingClass s a false = .be ∧ waitingClass s a true = .ag) := by
  refine ⟨?_, by simp [requestClass, waitingClass], by simp [requestClass, waitingClass]⟩
  rcases hcls : (hdAt s n).res.cls with _ | _ | k
  · simp [requestClass, hcls]
  · simp [requestClass, hcls]
  · simp [requestClass, hcls]

/-! Lines (R252). -/

theorem headLineCompose_live {head : Fin 8} {s : State} (h : okHeadLineCompose head s) :
    headLineCompose head s =
      let y := (hdAt s head).composed
      let r := liveLine head (panelWidth s head (hdAt s head).cfg.timing) (hdAt s head).cfg.timing.vact y s
      let u := signLine head y r.1 r.2
      let out := actOnLine u head y r.1
      let v := forEach (pairOf s head) (resFill s) (modHd head (fun x => { x with
        composed := y + 1, lineOut := out.map (fun c => c.1 + 65536 * c.2.1 + 4294967296 * c.2.2),
        ahead := if x.inBlank then x.ahead ++ [(r.1, out)] else x.ahead }) (writeBackLine head y out u))
      if (hdAt s head).inBlank then v else handLine head y out (clearOut head v) := by
  obtain ⟨hon, hlower, hleft, hblank, hroom, hlive⟩ := h
  have hgoes : ¬ (if (hdAt s head).inBlank = true then decide (2 ≤ (hdAt s head).composed) else !resRoom s head) = true := by
    cases hb : (hdAt s head).inBlank
    · simp [hroom hb]
    · simpa using hblank hb
  rw [headLineCompose, if_neg (by simpa [hon, hlower, hleft] using hgoes), hlive]

/-- Settles O46: each clause by the lemma of its event's condition. -/
theorem headEvents : Obligations.HeadEvents := by
  unfold Obligations.HeadEvents
  refine ⟨?starts, ?held, ?latches, ?blanks, ?enables, ?publishes, ?early, ?plain, ?critical, requestClass_rows, ?starved, ?composes⟩
  case starts =>
    rintro head s ⟨hruns, hblank⟩ at_ u v t
    refine (exec_headFrameStart head s).trans (congrArg Host.Outcome.next ?_)
    have hstart : headFrameStart head s = t := by rw [headFrameStart, if_neg (by simp [hruns, hblank])]
    rw [headBegins, hstart, hblank]
  case held => exact fun head s h => (exec_headFrameStart head s).trans (congrArg _ (headBegins_held h))
  case latches =>
    exact fun head s h => actOutside_kept (f := latchPoint head) (latchPoint_binds h) rfl
  case blanks =>
    intro head s h v u
    refine actOutside_of_kept (f := blanking head (headBlankingStart head)) (blanking_kept (headBlankingStart_kept _ _)) ?_
    rw [blanking, headBlankingStart_plain h]
  case enables =>
    rintro head a s ⟨hready, hoff, hlower, hstart⟩ t v u
    have hfind : s.pic.fx.armed.find? (fun a => a.ready && a.enable.contains head.val && !a.landed.contains head.val) = some a := by
      simpa [Bool.and_assoc] using hready
    have henable : headEnableStart head s = u := by
      rw [headEnableStart, hfind]
      exact if_neg (by simp [hoff, hlower, hstart])
    refine actOutside_of_kept (f := blanking head (headEnableStart head)) (blanking_kept (headEnableStart_kept _ _)) ?_
    rw [blanking, henable]
  case publishes =>
    exact fun head b num at_ u v s h =>
      actOutside_of_kept (f := writebackPublish head) (writebackPublish_kept _ _) (writebackPublish_publishes h)
  case early =>
    exact fun head b s h => actOutside_kept (f := writebackPublish head) (writebackPublish_early h) (by simp)
  case plain =>
    rintro head level s ⟨hon, hlow, hcritical⟩
    refine exec_fetchClassChange ?_
    simp [fetchClassChange, hon, Nat.not_lt.2 hlow, Nat.not_lt.2 hcritical, b2n]
  case critical =>
    rintro head level s ⟨hon, hcritical, hclass, hfirst⟩
    refine exec_fetchClassChange ?_
    simp [fetchClassChange, hon, hcritical, hclass, hfirst, b2n]
  case starved =>
    rintro head pixels s ⟨hon, hshown, hsome⟩ u
    refine actOutside_of_kept (f := reservoirStarved head pixels) (reservoirStarved_kept _ _ _) ?_
    rw [reservoirStarved, if_neg (by simp [hon, hshown, Nat.ne_of_gt hsome])]
  case composes =>
    intro head s h y r u out v
    exact actOutside_of_kept (f := headLineCompose head) (headLineCompose_kept _ _) (headLineCompose_live h)

end Sys2Proof.Machine
end

section
/-! PROOFS. Head output events (R350, R354, R363 to R367, R378 to R393): each event by its condition, and the statement about them. -/
namespace Sys2Proof.Machine
open Sys2Proof

/-! Signatures (R363 to R367). -/

/-- Two changes of one entry are the change that has their effect on it. -/
theorem tabMod_tabMod_to {α : Type} [Inhabited α] [DecidableEq α] {t : Tab α} {k : Nat} {f g h : α → α}
    (heq : g (f (tabGet t k)) = h (tabGet t k)) : tabMod (tabMod t k f) k g = tabMod t k h := by
  rw [tabMod, tabGet_tabMod_same, tabMod, tabSet_tabSet, heq, tabMod]

theorem modHd_modHd_to {h : Nat} {f g k : Head → Head} {s : State} (heq : g (f (hdAt s h)) = k (hdAt s h)) :
    modHd h g (modHd h f s) = modHd h k s :=
  congrArg (fun t => { s with pic.heads := t }) (tabMod_tabMod_to heq)

theorem sigAt_modSig_same (h r : Nat) (f : SigState → SigState) (s : State) : sigAt (modSig h r f s) h r = f (sigAt s h r) := by
  rw [sigAt, modSig, hdAt_modHd_same, tabGet_tabMod_same, sigAt]

theorem modSig_modSig_to {h r : Nat} {f g k : SigState → SigState} {s : State} (heq : g (f (sigAt s h r)) = k (sigAt s h r)) :
    modSig h r g (modSig h r f s) = modSig h r k s :=
  modHd_modHd_to (congrArg (fun t => { hdAt s h with sig := t }) (tabMod_tabMod_to heq))

/-- A region whose picture is composed and which is not skipped is compared with its expected values (R363). -/
structure SigCompares (h r : Nat) (s : State) : Prop where
  on : (hdAt s h).enabled = true
  enable : (sigCfg s h r).enable = true
  inside : (sigAt s h r).outside = false
  first : (sigAt s h r).compared = false
  composed : (sigCfg s h r).y + (sigCfg s h r).h ≤ (hdAt s h).composed
  valid : (sigCfg s h r).valid ≠ 0
  acts : sigSkipped s h (sigCfg s h r) = false

/-- The value of a comparison is noted with its frame. -/
def sigValued (h r : Nat) (s : State) : State :=
  modSig h r (fun x => { x with
    value := Nat.xor (sigAt s h r).run 0xFFFFFFFF, frame := ((hdAt s h).composeFrame % 2 ^ 32).toNat, compared := true }) s

theorem signatureCompare_compares {h r : Nat} {s : State} {ok : Option Nat} (hcompares : SigCompares h r s)
    (hok : (List.range 4).find? (fun i => bit (sigCfg s h r).valid i ∧
      decide ((sigCfg s h r).expect.getD i 0 = Nat.xor (sigAt s h r).run 0xFFFFFFFF)) = ok) :
    signatureCompare h r s = sigCompared h r (sigCfg s h r) ok (sigValued h r s) := by
  obtain ⟨hon, henable, hinside, hfirst, hcomposed, hvalid, hacts⟩ := hcompares
  have hfind : (List.range 4).find? (fun i => bit (sigCfg s h r).valid i &&
      decide ((sigCfg s h r).expect.getD i 0 = Nat.xor (sigAt s h r).run 0xFFFFFFFF)) = ok := by simpa using hok
  rw [signatureCompare, if_neg (by simp [hon, henable, hinside, hfirst, hcomposed])]
  dsimp only
  rw [if_neg (by simp [hvalid, hacts]), hfind]
  rfl

/-- A match of a region without a fault clears its counts (R364). -/
theorem sigCompared_matches {h r : Nat} {g : SigCfg} {i : Nat} {s : State} (hgood : (sigAt s h r).fault = false) :
    sigCompared h r g (some i) (sigValued h r s) = modSig h r (fun x => { x with
      value := Nat.xor (sigAt s h r).run 0xFFFFFFFF, frame := ((hdAt s h).composeFrame % 2 ^ 32).toNat, compared := true,
      matched := true, matchIdx := i, miss := 0, good := 0, fault := false }) s := by
  have hfault : (sigAt (sigValued h r s) h r).fault = false := by rw [sigValued, sigAt_modSig_same]; exact hgood
  simp only [sigCompared, hfault, Bool.false_and, Bool.false_eq_true, if_false]
  refine modSig_modSig_to ?_
  simp [hgood]

/-- The mismatch that reaches the limit raises the region's fault (R364, R365). -/
theorem sigCompared_faults {h r : Nat} {g : SigCfg} {s : State} (hgood : (sigAt s h r).fault = false)
    (hlimit : g.limit ≤ satAdd 255 (sigAt s h r).miss 1) :
    sigCompared h r g none (sigValued h r s) = raiseSig h 0 (modSig h r (fun x => { x with
      value := Nat.xor (sigAt s h r).run 0xFFFFFFFF, frame := ((hdAt s h).composeFrame % 2 ^ 32).toNat, compared := true,
      matched := false, miss := satAdd 255 (sigAt s h r).miss 1, good := 0, fault := true, mismatches := (x.mismatches + 1) % 2 ^ 32 }) s) := by
  have hsame : sigAt (sigValued h r s) h r = { sigAt s h r with
      value := Nat.xor (sigAt s h r).run 0xFFFFFFFF, frame := ((hdAt s h).composeFrame % 2 ^ 32).toNat, compared := true } :=
    sigAt_modSig_same h r _ s
  simp only [sigCompared, hsame, hgood, hlimit, Bool.not_false, Bool.true_and, decide_true, if_true, Bool.or_true]
  exact congrArg (raiseSig h 0) (modSig_modSig_to rfl)

theorem tallyLevel_iff (s : State) : tallyLevel s = true ↔
    s.pic.tallyForce = true ∨ ∃ h, h < 8 ∧ ∃ r, r < 16 ∧ (sigCfg s h r).tally = true ∧ (sigAt s h r).fault = true := by
  simp [tallyLevel, tallyHead, anyUpTo]

/-! Shedding (R350, R354). -/

theorem modShed_modShed (f g : ShedPart → ShedPart) (s : State) : modShed g (modShed f s) = modShed (g ∘ f) s := rfl

theorem fsUsable_modShed (f : ShedPart → ShedPart) (s : State) : fsUsable (modShed f s) = fsUsable s := rfl

/-- The load depends on the plan and the reservations alone of what shedding holds. -/
theorem shedLoad_modShed {f : ShedPart → ShedPart} {s : State} (hplan : (f s.pic.shed).plan = s.pic.shed.plan)
    (hin : (f s.pic.shed).resIngest = s.pic.shed.resIngest) (hrec : (f s.pic.shed).resRecord = s.pic.shed.resRecord)
    (hstream : (f s.pic.shed).resStream = s.pic.shed.resStream) (hbe : (f s.pic.shed).resBe = s.pic.shed.resBe) (l : List Nat) :
    shedLoad (modShed f s) l = shedLoad s l := by
  have hsteps : stepsOf (modShed f s) l = stepsOf s l := by simp [stepsOf, modShed, hplan]
  have hreserved : reservations (modShed f s) = reservations s := by simp [reservations, modShed, hin, hrec, hstream, hbe]
  have hresStream : (modShed f s).pic.shed.resStream = s.pic.shed.resStream := hstream
  rw [shedLoad, hsteps, hreserved, hresStream]
  rfl

/-- With no step taken and enough bandwidth an evaluation only records the load (R350). -/
theorem shedEvaluate_records {s : State} (htaken : s.pic.shed.taken = []) (hfits : shedLoad s [] ≤ fsUsable s) :
    shedEvaluate s = modShed (fun p => { p with exhausted := false, evalDue := false, shedLoad := shedLoad s [], usable := fsUsable s }) s := by
  have htake : shedTake (s.pic.shed.plan.length + 1) false s = (false, s) := by
    rw [shedTake, htaken]
    exact if_neg fun h => absurd h.1 (Nat.not_lt.2 hfits)
  have hrestore : shedRestore (s.pic.shed.taken.length + 1) (modShed (fun p => { p with exhausted := false }) s) =
      modShed (fun p => { p with exhausted := false }) s := by
    rw [shedRestore]
    simp [modShed, htaken]
  have hload : shedLoad (modShed (fun p => { p with exhausted := false }) s) [] = shedLoad s [] := shedLoad_modShed rfl rfl rfl rfl rfl []
  rw [shedEvaluate, htake]
  simp only [htaken, Nat.not_lt.2 hfits, decide_false, Bool.false_eq_true, false_and, if_false]
  rw [show (modShed (fun p => { p with exhausted := false }) s).pic.shed.taken = s.pic.shed.taken from rfl, hrestore, modShed_modShed]
  refine congrArg (fun q => { s with pic.shed := q }) ?_
  simp [htaken, hload, fsUsable_modShed]

/-- A step of the plan that helps is taken, with its decision and its event (R350). -/
theorem shedTake_takes {s : State} (hover : fsUsable s < shedLoad s s.pic.shed.taken) (hleft : s.pic.shed.next < s.pic.shed.plan.length)
    (hhelps : shedLoad s (s.pic.shed.taken ++ [s.pic.shed.next]) < shedLoad s s.pic.shed.taken) (n : Nat) :
    shedTake (n + 1) false s = shedTake n true (raise 24 (shedDecision s.pic.shed.next false
      (shedLoad s s.pic.shed.taken - shedLoad s (s.pic.shed.taken ++ [s.pic.shed.next]))
      (modShed (fun q => { q with taken := q.taken ++ [s.pic.shed.next], next := s.pic.shed.next + 1 }) s))) := by
  rw [shedTake]
  exact (if_pos ⟨hover, hleft⟩).trans (if_pos hhelps)

/-! SDI lines (R378, R380). -/

theorem asRuns_sum (l : List Nat) : ((asRuns l).map (·.1)).sum = l.length := by
  induction l with
  | nil => rfl
  | cons x l ih =>
    have hcons : (asRuns (x :: l)).map (·.1) = 1 :: (asRuns l).map (·.1) := rfl
    rw [hcons, List.sum_cons, ih, List.length_cons, Nat.add_comm]

theorem trsCode_sum (f v h : Bool) : ((trsCode f v h).map (·.1)).sum = 4 := rfl

theorem lineNumber_sum (line : Nat) : ((lineNumber line).map (·.1)).sum = 2 := rfl

/-- A line of a stream takes exactly the words of its format. -/
theorem sdiLine_words {g : SdiGeo} {stream line crc : Nat} {chroma : Bool} {hanc : List Nat} {act : List (Nat × Nat)}
    (hact : (act.map (·.1)).sum = g.active) (hfits : g.active + 12 + hanc.length ≤ g.words) :
    ((sdiLine g stream line chroma crc hanc act).1.words.map (·.1)).sum = g.words := by
  simp only [sdiLine, List.map_append, List.map_cons, List.sum_append, List.sum_cons, asRuns_sum, trsCode_sum, lineNumber_sum, hact,
    List.length_cons, List.length_nil]
  omega

/-- A line of a stream begins with its timing reference. -/
theorem sdiLine_head (g : SdiGeo) (stream line crc : Nat) (chroma : Bool) (hanc : List Nat) (act : List (Nat × Nat)) :
    (sdiLine g stream line chroma crc hanc act).1.words.take 3 =
      [(1, 0x3FF), (2, 0), (1, trsWord (decide (g.fmt = 3) && decide (564 ≤ line)) (!inPicture g.fmt line) true)] := rfl

theorem structLine_rows (y : Nat) :
    (y < 720 → structLine 1 y = y + 26 ∧ inPicture 1 (structLine 1 y) = true) ∧
    (y < 1080 → structLine 2 y = y + 42 ∧ inPicture 2 (structLine 2 y) = true) ∧
    (724 < y → y < 750 → structLine 1 y = y - 724) ∧ (1083 < y → y < 1125 → structLine 2 y = y - 1083) := by
  have hone : structLine 1 y = (y + 25) % 750 + 1 := rfl
  have htwo : structLine 2 y = (y + 41) % 1125 + 1 := rfl
  refine ⟨fun hy => ⟨by omega, ?_⟩, fun hy => ⟨by omega, ?_⟩, by omega, by omega⟩
  · rw [show structLine 1 y = y + 26 by omega]
    simp only [inPicture, if_true, Bool.and_eq_true, decide_eq_true_eq]
    omega
  · rw [show structLine 2 y = y + 42 by omega]
    simp only [inPicture, show ¬ (2 = 1) by decide, show ¬ (2 = 3) by decide, if_false, Bool.and_eq_true, decide_eq_true_eq]
    omega

theorem sdiSlip_due {lane : Fin 8} {fill : Nat} {s : State} (h : okSdiSlip lane fill s) :
    sdiSlip lane fill s = modSdi lane (fun y => { y with fill := fill, slipDue := true }) s := by
  obtain ⟨hon, hsingle, hleaves, hclock⟩ := h
  have hsteady : ¬ (fill = 0 ∧ (synAt s (lowerOf s (sdiAt s lane).cfg.head)).gated = true) := by
    rcases hclock with h | h <;> simp [h]
  rw [sdiSlip, if_neg (by simp [hon]), if_neg (by omega)]
  simp only [hsingle, hsteady, Bool.false_eq_true, if_false]
  rfl

theorem sdiSlip_fills {lane : Fin 8} {fill : Nat} {s : State} (h : okSdiFill lane fill s) :
    sdiSlip lane fill s = modSdi lane (fun y => { y with fill := fill }) s := by
  obtain ⟨hon, hmin, hmax⟩ := h
  rw [sdiSlip, if_neg (by simp [hon]), if_pos ⟨hmin, hmax⟩]

/-! DSI lines (R390, R393). -/

theorem packetBytes_append (a b : List DsiPacket) : packetBytes (a ++ b) = packetBytes a + packetBytes b := by
  simp [packetBytes]

/-- A filling packet of at least six bytes takes just those. -/
theorem packetBytes_fillPacket {n : Nat} (h : 6 ≤ n) : packetBytes (fillPacket n) = n := by
  simp [packetBytes, fillPacket, Nat.not_lt.2 h, Nat.sub_add_cancel h]

/-- A line with sync events takes exactly the bytes of its head line. -/
theorem dsiLine_bytes {c : PanelCfg} {t : Timing} {bpp m y : Nat} {skew : Bool} {body : List DsiPacket} (hmode : c.mode = 1)
    (hfits : packetBytes (lineSync c t bpp m y ++ fillPacket (sampleBytes bpp (m * (t.hsync + t.hbp)) - 4) ++ body) + 6 ≤
      sampleBytes bpp (m * hTotal t)) :
    packetBytes (dsiLine c t bpp m y skew body).packets = sampleBytes bpp (m * hTotal t) := by
  have htwo : ¬ c.mode = 2 := by omega
  have hzero : ¬ c.mode = 0 := by omega
  simp only [dsiLine, if_neg htwo, if_neg hzero]
  rw [packetBytes_append, packetBytes_fillPacket (by omega)]
  omega

theorem panelVideoStart_starts {port : Fin 4} {s : State} (h : okPanelVideoStart port s) :
    panelVideoStart port s =
      let n := (timingOf s (panelAt s port).cfg.head).vact + (timingOf s (panelAt s port).cfg.head).vfp
      panelBlank port n (skewRate s (panelAt s port).cfg) (modPanel port (fun x => { x with running := true, dcsLine := n }) s) := by
  obtain ⟨hvideo, hstopped, hqueue, hon⟩ := h
  exact if_pos (by simp [hvideo, hstopped, hqueue, hon])

/-- Settles O47: each clause by the lemma of its event's condition. -/
theorem headOutputEvents : Obligations.HeadOutputEvents := by
  unfold Obligations.HeadOutputEvents
  refine ⟨?matched, ?faults, ?clears, ?force, tallyLevel_iff, ?evaluates, ?holdEnds, ?takes, ?slips, ?fills, ?starts, ?words,
    structLine_rows, ?bytes⟩
  case matched =>
    rintro head region i s ⟨hon, henable, hinside, hfirst, hcomposed, hvalid, hacts, hgood, hfind⟩
    refine actOutside_kept (f := signatureCompare head region) ?_ (modSig_kept _ _ _ _)
    exact (signatureCompare_compares ⟨hon, henable, hinside, hfirst, hcomposed, hvalid, hacts⟩ hfind).trans (sigCompared_matches hgood)
  case faults =>
    rintro head region s ⟨hon, henable, hinside, hfirst, hcomposed, hvalid, hacts, hgood, hlimit, hfind⟩
    refine actOutside_kept (f := signatureCompare head region) ?_ ((raiseSig_kept _ _ _).trans (modSig_kept _ _ _ _))
    exact (signatureCompare_compares ⟨hon, henable, hinside, hfirst, hcomposed, hvalid, hacts⟩ hfind).trans (sigCompared_faults hgood hlimit)
  case clears =>
    rintro head region s ⟨hdom, hlower, hfault⟩
    refine actOutside_kept (f := heldIn (15 + head) (sigClear head region)) ?_ ((raiseSig_kept _ _ _).trans (modSig_kept _ _ _ _))
    rw [heldIn_on hdom, sigClear, hlower, hfault]
    rfl
  case force =>
    exact fun value s hdom => actOutside_kept (f := heldIn 3 (tallyForceWrite value)) (heldIn_on hdom) rfl
  case evaluates =>
    rintro s ⟨hdue, -, htaken, hfits⟩
    refine actOutside_kept (f := shedEvaluation) ?_ (modShed_kept _ _)
    rw [shedEvaluation, if_pos hdue, shedEvaluate_records htaken hfits]
  case holdEnds =>
    rintro s ⟨hholding, -, htaken, hfits⟩
    refine actOutside_kept (f := restoreHoldExpiry) ?_ (modShed_kept _ _)
    have hload : shedLoad (modShed (fun p => { p with holding := false }) s) [] = shedLoad s [] := shedLoad_modShed rfl rfl rfl rfl rfl []
    have hfits' : shedLoad (modShed (fun p => { p with holding := false }) s) [] ≤ fsUsable (modShed (fun p => { p with holding := false }) s) := by
      rw [hload, fsUsable_modShed]
      exact hfits
    have hrecords := shedEvaluate_records (s := modShed (fun p => { p with holding := false }) s) htaken hfits'
    rw [hload, fsUsable_modShed] at hrecords
    rw [restoreHoldExpiry, if_pos hholding, hrecords]
    rfl
  case takes => exact fun s hover hleft hhelps n => shedTake_takes hover hleft hhelps n
  case slips => exact fun lane fill s h => actOutside_kept (f := sdiSlip lane fill) (sdiSlip_due h) (modSdi_kept _ _ _)
  case fills => exact fun lane fill s h => actOutside_kept (f := sdiSlip lane fill) (sdiSlip_fills h) (modSdi_kept _ _ _)
  case starts => exact fun port s h => actOutside_kept (f := panelVideoStart port) (panelVideoStart_starts h) (by simp)
  case words =>
    exact fun g stream line crc chroma hanc act hact hfits => ⟨sdiLine_words hact hfits, sdiLine_head g stream line crc chroma hanc act⟩
  case bytes => exact fun c t bpp m y skew body hmode hfits => dsiLine_bytes hmode hfits

end Sys2Proof.Machine
end

section
/-! PROOFS. Window events (R573 to R579): each event by its condition, and the statement about them. -/
namespace Sys2Proof.Machine
open Sys2Proof

theorem modWinLayer_congr {k : Nat} {f g : WinLayer → WinLayer} {s : State} (h : f (winAt s k) = g (winAt s k)) :
    modWinLayer k f s = modWinLayer k g s :=
  congrArg (fun w => modWin (fun v => { v with layers := tabSet s.pic.win.layers k w }) s) h

/-- A request for a head that does not run takes the window's layers as they are (R576). -/
theorem winRequest_off {h : Nat} {s : State} (hnone : winPend s h = none) (hoff : headEnabled s h = false) :
    winRequest h s = setPend h (some { layers := s.pic.win.layers, due := 1 }) s := by
  simp [winRequest, winDiscard, hnone, hoff]

theorem w5CommitWrite_requests {value : BitVec 16} {s : State} (h : okW5CommitWrite value s) :
    w5CommitWrite value s = setPend 0 (some { layers := s.pic.win.layers, due := 1 }) s := by
  obtain ⟨-, hen, hfirst, hsecond, hnone, hoff⟩ := h
  rw [w5CommitWrite, hen, hfirst, hsecond]
  exact winRequest_off hnone hoff

/-- The first step of W5_COMMIT_ARM is its only one where the window has nothing pending for the second head. -/
theorem w5CommitArm_first {p : WinPending} {s t : State} (hrun : firmwareRunning s = true) (hpend : winPend s 0 = some p)
    (hfresh : p.armed = none) (hfree : commitBlocked s [0] = false) (harm : winArm 0 p s = t) (hnone : winPend t 1 = none) :
    w5CommitArm s = t := by
  rw [w5CommitArm, hrun, forUpTo, show List.range 2 = [0, 1] from rfl]
  simp [hpend, hfresh, hfree, harm, hnone]

/-- A pending set of a head that does not run is dropped with reason 6 (R577). -/
theorem winArm_drops {h : Nat} {p : WinPending} {s : State} (hoff : headEnabled s h = false) : winArm h p s = winDrop h 6 0 0 s := by
  simp [winArm, hoff]

theorem winDrop_other {p : WinPending} {s : State} (hpend : winPend s 0 = some p) (hfresh : p.armed = none) (hnone : winPend s 1 = none) :
    winPend (winDrop 0 6 0 0 s) 1 = none := by
  simp only [winDrop, winDiscard, hpend, hfresh]
  exact hnone

/-- What the head 0 would show without the window's layers. -/
def nativeView (s : State) (j : Nat) : HeadView :=
  if j = 0 then { viewOf s 0 with lays := (layersOn s 0).filter (fun x => !winOwns s x.1) } else viewOf s j

/-- A set that shows no layer is armed as a commit of its own (R577, R579). -/
theorem winArm_arms {p : WinPending} {s : State} (h : okW5CommitArms p s) :
    winArm 0 p s = modShed (fun q => { q with evalDue := true }) (setPend 0 (some { p with armed := some s.pic.fx.nextId })
      (modFx (fun x => { x with
        armed := x.armed ++ [{
          id := s.pic.fx.nextId, heads := [0], ready := true, window := true, views := [(0, viewOf s 0), (0, nativeView s 0)] }],
        nextId := s.pic.fx.nextId + 1 }) s)) := by
  obtain ⟨-, -, -, -, -, hon, hshown, hrotates, hshadow, hroom, hports, hload⟩ := h
  unfold winArm
  dsimp only
  rw [hshown, hon, hrotates, hshadow]
  simp only [List.length_nil, Nat.add_zero, Nat.not_lt.2 hroom, Bool.not_true, Bool.false_eq_true, Bool.or_self, if_false, List.takeWhile_nil,
    List.map_nil, List.find?_nil, show newRefs s [] = [] from rfl, show takeRefs [] s = (none, s) from rfl, List.append_nil, hports, hload]
  rfl

theorem w5PalDataWrite_steps {value : BitVec 16} {s : State} (h : okW5PalDataWrite value s) :
    w5PalDataWrite value s =
      modWin (fun w => { w with palAddr := s.pic.win.palAddr / 256 * 256 + (s.pic.win.palAddr + 1) % 256 })
        (modWinLayer (bits s.pic.win.palAddr 8 3) (fun w => { w with pal := tabSet w.pal (s.pic.win.palAddr % 256) value.toNat }) s) := by
  obtain ⟨-, hen, hauto⟩ := h
  rw [w5PalDataWrite, hen]
  exact if_pos hauto

theorem w5BaseLoWrite_latches {layer : Nat} {value : BitVec 16} {s : State} (hen : s.pic.win.enabled = true) :
    w5BaseLoWrite layer value s = modWinLayer layer (fun w => { w with latch := some value.toNat }) s := by
  rw [w5BaseLoWrite, hen]
  rfl

theorem w5BaseHiWrite_sets {layer lo : Nat} {value : BitVec 16} {s : State} (hen : s.pic.win.enabled = true)
    (hlatch : (winAt s layer).latch = some lo) :
    w5BaseHiWrite layer value s =
      modWinLayer layer (fun w => { w with baseHi := value.toNat % 4096, baseLo := lo, latch := none }) s := by
  rw [w5BaseHiWrite, hen]
  exact modWinLayer_congr (by rw [hlatch]; rfl)

/-- Settles O48: each clause by the lemma of its event's condition. -/
theorem windowEvents : Obligations.WindowEvents := by
  unfold Obligations.WindowEvents
  refine ⟨?requests, ?drops, ?arms, ?palette, ?baseLo, ?baseHi⟩
  case requests =>
    intro value s h
    refine actOutside_kept (f := heldIn 3 (w5CommitWrite value)) ?_ (setPend_kept _ _ _)
    rw [heldIn_on h.1, w5CommitWrite_requests h]
  case drops =>
    rintro p s ⟨hrun, hpend, hnone, hfresh, hfree, hoff⟩
    have hdrop := w5CommitArm_first hrun hpend hfresh hfree (winArm_drops hoff) (winDrop_other hpend hfresh hnone)
    exact actOutside_kept (f := fun s => powerHeads (w5CommitArm s)) (congrArg powerHeads hdrop) (by simp)
  case arms =>
    intro p s h
    have harms := winArm_arms h
    obtain ⟨hrun, hpend, hnone, hfresh, hfree, -⟩ := h
    have harm := w5CommitArm_first hrun hpend hfresh hfree harms hnone
    exact actOutside_kept (f := fun s => powerHeads (w5CommitArm s)) (congrArg powerHeads harm) (by simp)
  case palette =>
    intro value s h
    refine actOutside_kept (f := heldIn 3 (w5PalDataWrite value)) ?_ rfl
    rw [heldIn_on h.1, w5PalDataWrite_steps h]
  case baseLo =>
    rintro layer value s ⟨hdom, hen⟩
    exact actOutside_kept (f := heldIn 3 (w5BaseLoWrite layer value)) ((heldIn_on hdom).trans (w5BaseLoWrite_latches hen)) rfl
  case baseHi =>
    rintro layer value lo s ⟨hdom, hen, hlatch⟩
    exact actOutside_kept (f := heldIn 3 (w5BaseHiWrite layer value)) ((heldIn_on hdom).trans (w5BaseHiWrite_sets hen hlatch)) rfl

end Sys2Proof.Machine
end

section
/-! PROOFS. Aperture events (R586 to R588): an access to one line of BAR2, and the statement about them. -/
namespace Sys2Proof.Machine
open Sys2Proof

/-! One line of BAR2. -/

/-- An access to a whole line reaches that line alone. -/
theorem lineSpan {a line : Nat} (h : a = 64 * line) : a / 64 = line ∧ a % 64 = 0 ∧ (a + 64 - 1) / 64 - a / 64 + 1 = 1 := by omega

theorem apReach_inside {line : Nat} {s : State} (hinside : beyond s (64 * line) = false) (hfilled : aboveFill s (64 * line) = false) :
    apReach line s = s := by
  simp [apReach, hinside, hfilled]

theorem bar2Read_line {offset line : Nat} {s t : State} {b : List Byte} (haddr : s.host.apBase * 2 ^ 20 + offset = 64 * line)
    (hread : apReadLine line s = (b, t)) (hlen : b.length = 64) :
    bar2Read offset 64 s = modHost (fun h => { h with readBytes := b }) t := by
  obtain ⟨hline, hstart, hone⟩ := lineSpan haddr
  unfold bar2Read
  dsimp only
  rw [if_neg (by decide : ¬ 64 = 0), hone, hline, hstart]
  simp only [List.range_one, List.foldl_cons, List.foldl_nil, Nat.add_zero, hread, List.nil_append, List.drop_zero]
  rw [List.take_of_length_le (Nat.le_of_eq hlen)]

/-- The bytes of a whole line that a write enables are its data. -/
theorem wholeLine_mask {data : List Byte} (hlen : data.length = 64) (a : Nat) :
    (List.range 64).map (fun j => if a ≤ a + j ∧ a + j < a + data.length ∧ (List.replicate 64 true).getD (a + j - a) false = true then
      some (data.getD (a + j - a) 0) else none) = data.map some := by
  refine List.ext_getElem (by simp [hlen]) fun j hj hj' => ?_
  have hj64 : j < 64 := by simpa using hj
  have hen : (List.replicate 64 true).getD (a + j - a) false = true := by
    rw [Nat.add_sub_cancel_left, ← List.getElem_eq_getD (h := by simpa using hj64), List.getElem_replicate]
  simp only [List.getElem_map, List.getElem_range]
  rw [if_pos ⟨by omega, by omega, hen⟩, Nat.add_sub_cancel_left, ← List.getElem_eq_getD (h := by omega)]

theorem bar2Write_line {offset line : Nat} {data : List Byte} {s : State} (haddr : s.host.apBase * 2 ^ 20 + offset = 64 * line)
    (hlen : data.length = 64) :
    bar2Write offset data (List.replicate 64 true) s = apWriteLine line (data.map some) s := by
  obtain ⟨hline, -, hone⟩ := lineSpan haddr
  have hsome : ¬ data.isEmpty = true := by
    rw [List.isEmpty_iff_length_eq_zero, hlen]
    decide
  have hspan : (s.host.apBase * 2 ^ 20 + offset + data.length - 1) / 64 - (s.host.apBase * 2 ^ 20 + offset) / 64 + 1 = 1 := by
    rw [hlen]
    exact hone
  unfold bar2Write
  dsimp only
  rw [if_neg hsome, hspan, hline, haddr]
  exact congrArg (fun l => apWriteLine line l s) (wholeLine_mask hlen (64 * line))

/-- A masked write of a whole line writes its bytes. -/
theorem fsWriteMasked_whole {line : Nat} {data : List Byte} {s : State} (hlen : data.length = 64) :
    fsWriteMasked line (data.map some) s = fsWriteLine line 0 data s := by
  have hfull : (List.range 64).all (fun i => ((data.map some).getD i none).isSome) = true := by
    simp only [List.all_eq_true, List.mem_range]
    intro i hi
    simp [hlen, hi]
  have hbytes : (List.range 64).map (fun i => ((data.map some).getD i none).getD 0) = data := by
    refine List.ext_getElem (by simp [hlen]) fun i hi hi' => ?_
    simp [hi']
  rw [fsWriteMasked, hfull, hbytes]
  exact if_pos (.inl rfl)

theorem lineBytes_length (s : State) (line : Nat) : (lineBytes s line).length = 64 := by
  simp [lineBytes]

theorem apReadLine_clean {offset : Fin 268435456} {line : Nat} {s : State} (h : okBar2ReadLine offset line s) :
    apReadLine line s = (lineBytes s line, wakeLine line s) := by
  obtain ⟨-, -, hstore, hup, hinside, hfilled, halive, hsymbols, hpoison⟩ := h
  have hread := fsReadLine_clean (lineTakes_of hup hinside hfilled halive) hsymbols hpoison
  rw [apReadLine, hstore, apReach_inside hinside hfilled, hread, lineBytes_wakeLine]
  rfl

/-- A write outside the map reaches its line; one of the map is refused with its flag (R588). -/
theorem apWriteLine_stored {line : Nat} {data : List Byte} {s : State} (hlen : data.length = 64) (hstore : storeOn s = true)
    (hinside : beyond s (64 * line) = false) (hfilled : aboveFill s (64 * line) = false) :
    apWriteLine line (data.map some) s = if line < 131072 then apFlag 2 s else fsWriteLine line 0 data s := by
  have hany : (data.map some).any Option.isSome = true := by
    cases data with
    | nil => cases hlen
    | cons b l => rfl
  rw [apWriteLine, hany, hstore, hinside, hfilled, apReach_inside hinside hfilled, fsWriteMasked_whole hlen]
  simp

/-- Settles O41: each clause by the one line that its access reaches. -/
theorem apertureEvents : Obligations.ApertureEvents := by
  unfold Obligations.ApertureEvents
  refine ⟨?read, ?off, ?write, ?map⟩
  case read =>
    intro offset line s h
    refine actOutside_kept (f := heldIn 3 (bar2Read offset 64)) ?_ (wakeRank_kept _ _ _)
    rw [heldIn_on h.1, bar2Read_line h.2.1 (apReadLine_clean h) (lineBytes_length s line)]
    rfl
  case off =>
    rintro offset line s ⟨hdom, haddr, hoff⟩
    refine actOutside_kept (f := heldIn 3 (bar2Read offset 64)) ?_ rfl
    rw [heldIn_on hdom, bar2Read_line haddr (by rw [apReadLine, hoff]; rfl) (List.length_replicate ..)]
  case write =>
    rintro offset line data s ⟨hdom, haddr, hstore, -, hinside, hfilled, hdata, hlen⟩
    refine actOutside_kept (f := heldIn 3 (bar2Write offset data (List.replicate 64 true))) ?_ (fsWriteLine_kept _ _ _ _)
    rw [heldIn_on hdom, bar2Write_line haddr hlen, apWriteLine_stored hlen hstore hinside hfilled, if_neg (Nat.not_lt.2 hdata)]
  case map =>
    rintro offset line data s ⟨hdom, haddr, hstore, -, hinside, hfilled, hmap, hlen⟩
    refine actOutside_kept (f := heldIn 3 (bar2Write offset data (List.replicate 64 true))) ?_ rfl
    rw [heldIn_on hdom, bar2Write_line haddr hlen, apWriteLine_stored hlen hstore hinside hfilled, if_pos hmap]

end Sys2Proof.Machine
end

section
/-! PROOFS. What register reads return (R14, R15, R585): the place of each register that is read back, and the statement about them. -/
namespace Sys2Proof.Machine
open Sys2Proof

/-! The words that are kept of a write (R14). -/

theorem ofNat_mod_two_pow (v : BitVec 32) (k : Nat) (hk : k ≤ 32) : BitVec.ofNat 32 (v.toNat % 2 ^ k) = v &&& BitVec.ofNat 32 (2 ^ k - 1) := by
  refine BitVec.eq_of_toNat_eq ?_
  have hlt : v.toNat % 2 ^ k < 2 ^ 32 := Nat.lt_of_lt_of_le (Nat.mod_lt _ (Nat.two_pow_pos k)) (Nat.pow_le_pow_right (by decide) hk)
  have hmask : 2 ^ k - 1 < 2 ^ 32 := Nat.lt_of_lt_of_le (Nat.sub_lt (Nat.two_pow_pos k) Nat.one_pos) (Nat.pow_le_pow_right (by decide) hk)
  rw [BitVec.toNat_and, BitVec.toNat_ofNat, BitVec.toNat_ofNat, Nat.mod_eq_of_lt hlt, Nat.mod_eq_of_lt hmask, Nat.and_two_pow_sub_one_eq_mod]

/-- The low word of a DMA doorbell keeps an address of 32 bytes and bit 0 (R475). -/
theorem doorbellWord (v : BitVec 32) : BitVec.ofNat 32 (v.toNat / 32 * 32 + v.toNat % 2) = v &&& 0xFFFFFFE1#32 := by
  have hmask : ∀ i < 32, (0xFFFFFFE1#32).getLsbD i = decide (i = 0 ∨ 5 ≤ i) := by decide
  refine BitVec.eq_of_getLsbD_eq fun i hi => ?_
  have hlow : v.toNat % 2 < 2 ^ 5 := Nat.lt_of_lt_of_le (Nat.mod_lt _ (by decide)) (by decide)
  have hword : v.toNat / 32 * 32 + v.toNat % 2 = 2 ^ 5 * (v.toNat / 2 ^ 5) + v.toNat % 2 := by omega
  rw [BitVec.getLsbD_and, hmask i hi, BitVec.getLsbD_ofNat, hword, Nat.testBit_two_pow_mul_add _ hlow]
  by_cases hi5 : i < 5
  · rw [if_pos hi5, show v.toNat % 2 = v.toNat % 2 ^ 1 from rfl, Nat.testBit_mod_two_pow]
    by_cases hi0 : i = 0
    · simp [hi0, BitVec.getLsbD]
    · simp [hi0, Nat.not_le.2 hi5]
  · rw [if_neg hi5, Nat.testBit_div_two_pow, Nat.sub_add_cancel (Nat.not_lt.1 hi5)]
    simp [hi, Nat.not_lt.1 hi5, BitVec.getLsbD]

/-! Places. -/

theorem bar0Reg_event {o : Nat} (s : State) (hal : o % 4 = 0) (hmin : 0x100000 ≤ o) (hmax : o < 0x100600) :
    bar0Reg o s = (2, eventReg (o - 0x100000) s) := by
  rw [bar0Reg, if_neg (by omega), if_neg (by omega)]
  unfold highRegion
  repeat rw [if_neg (by omega)]
  rw [if_pos hmax]

theorem bar0Reg_dma {o : Nat} (s : State) (hal : o % 4 = 0) (hmin : 0x200000 ≤ o) (hmax : o < 0x20080C) :
    bar0Reg o s = (2, dmaRegion (o - 0x200000) s) := by
  rw [bar0Reg, if_neg (by omega), if_neg (by omega)]
  unfold highRegion
  repeat rw [if_neg (by omega)]
  rw [if_pos hmax]

theorem bar0Reg_fence {o : Nat} (s : State) (hal : o % 4 = 0) (hmin : 0x81000 ≤ o) (hmax : o < 0x81080) :
    bar0Reg o s = (1, tabGet s.pic.fx.fences ((o - 0x81000) / 4)) := by
  rw [bar0Reg, if_neg (by omega), if_neg (by omega)]
  unfold highRegion
  repeat rw [if_neg (by omega)]
  rw [if_pos hmax]

theorem bar0Reg_fast {o : Nat} (s : State) (hal : o % 4 = 0) (hmin : 0x80000 ≤ o) (hmax : o < 0x80800) :
    bar0Reg o s = (27, fastReg ((o - 0x80000) / 0x20) (o % 0x20) s) := by
  rw [bar0Reg, if_neg (by omega), if_neg (by omega)]
  unfold highRegion
  repeat rw [if_neg (by omega)]
  rw [if_pos hmax]

theorem bar0Reg_global {o : Nat} (s : State) (hal : o % 4 = 0) (hmax : o < 0x200) : bar0Reg o s = (3, globalReg o s) := by
  rw [bar0Reg, if_neg (by omega), if_pos (by omega), lowRegion, if_pos hmax]

theorem bar0Reg_wakeEn (s : State) : bar0Reg 0x380064 s = (3, s.sl.wakeEn) := rfl

/-- A register whose domain is on reads as its word. -/
theorem bar0Read_on {o d n : Nat} {s : State} (hreg : bar0Reg o s = (d, n)) (hdom : domOn s d = true) : bar0Read o s = BitVec.ofNat 32 n := by
  simp [bar0Read, hreg, hdom]

/-! Writes that a register keeps. -/

theorem bar0Region_eventEnable (g : Fin 32) (v : Word) {s : State} (hdom : domOn s 2 = true) :
    bar0Region (0x100080 + 4 * g) v s = modEv (fun e => { e with en := tabSet e.en g (v &&& eventMask g) }) s := by
  have hregion : bar0Region (0x100080 + 4 * g) v s = heldIn 2 (eventWrite (0x100080 + 4 * g) v) s := by
    unfold bar0Region
    repeat rw [if_neg (by omega)]
    rw [if_pos (by omega)]
  have hgroup : (0x100080 + 4 * g.val) % 0x80 / 4 = g.val := by omega
  rw [hregion, heldIn_on hdom, eventWrite, if_neg (by omega), if_pos (by omega), hgroup]

/-- The position that a fast path's staged set takes of a word. -/
def stagedAt (v : Word) (x : Layer) : Layer :=
  { x with fp := { x.fp with staging := { x.fp.staging with dx := signedOf 16 (v.toNat % 65536), dy := signedOf 16 (v.toNat / 65536) } } }

theorem bar0Region_fastPosition (l : Fin 64) (v : Word) {s : State} (hdom : domOn s 27 = true) :
    bar0Region (0x80000 + 0x20 * l) v s = modLay l (stagedAt v) s := by
  have hregion : bar0Region (0x80000 + 0x20 * l) v s = fastWrite (0x80000 + 0x20 * l) v s := by
    unfold bar0Region
    repeat rw [if_neg (by omega)]
    rw [if_pos (by omega)]
  have hlayer : (0x80000 + 0x20 * l.val - 0x80000) / 0x20 = l.val := by omega
  have hoffset : (0x80000 + 0x20 * l.val) % 0x20 = 0 := by omega
  unfold fastWrite at hregion
  rw [hregion, if_neg (by omega), hlayer, if_neg (by omega), hoffset]
  exact heldIn_on hdom

theorem bar0Region_doorbellLow (n : Fin 32) (v : Word) {s : State} (hdom : domOn s 2 = true) :
    bar0Region (0x200000 + 0x40 * n) v s = modDc n (fun x => { x with dbLo := v.toNat / 32 * 32 + v.toNat % 2 }) s := by
  have hregion : bar0Region (0x200000 + 0x40 * n) v s = heldIn 2 (dmaRegWrite (0x200000 + 0x40 * n) v) s := by
    unfold bar0Region
    repeat rw [if_neg (by omega)]
    rw [if_pos (by omega)]
  have hchannel : (0x200000 + 0x40 * n.val - 0x200000) / 0x40 = n.val := by omega
  have hoffset : (0x200000 + 0x40 * n.val) % 0x40 = 0 := by omega
  rw [hregion, heldIn_on hdom]
  unfold dmaRegWrite
  rw [hchannel, if_neg (by omega), hoffset]
  rfl

theorem unsignedOf_signedOf {w v : Nat} (hv : v < 2 ^ w) : unsignedOf w (signedOf w v) = v := by
  have hint : (v : Int) < 2 ^ w := by exact_mod_cast hv
  rw [unsignedOf, signedOf]
  split
  · rw [Int.emod_eq_of_lt (by omega) hint]
    rfl
  · rw [Int.sub_emod_right, Int.emod_eq_of_lt (by omega) hint]
    rfl

/-! Fences (R325). -/

/-- The fences of the Fixer. -/
def fenceTab (s : State) : Tab Nat := s.pic.fx.fences

theorem fenceTab_of_pic {s t : State} (h : t.pic = s.pic) : fenceTab t = fenceTab s := by rw [fenceTab, h, fenceTab]

@[simp] theorem fenceTab_ite {c : Prop} [Decidable c] (a b : State) : fenceTab (if c then a else b) = if c then fenceTab a else fenceTab b :=
  apply_ite fenceTab c a b

@[simp] theorem forEach_fenceTab {α : Type} {f : α → State → State} (h : ∀ a t, fenceTab (f a t) = fenceTab t) (l : List α) (s : State) :
    fenceTab (forEach l f s) = fenceTab s := forEach_leaves fenceTab h l s

@[simp] theorem raise_fenceTab (n : Nat) (s : State) : fenceTab (raise n s) = fenceTab s := fenceTab_of_pic (raise_pic n s)

@[simp] theorem modShed_fenceTab (f : ShedPart → ShedPart) (s : State) : fenceTab (modShed f s) = fenceTab s := rfl

theorem pic_ite {c : Prop} [Decidable c] (a b : State) : (if c then a else b).pic = if c then a.pic else b.pic :=
  apply_ite State.pic c a b

@[simp] theorem postFinal_fenceTab (c : Cmd) (st : Status) (d : Nat) (r : List Byte) (s : State) : fenceTab (postFinal c st d r s) = fenceTab s :=
  fenceTab_of_pic (by simp [postFinal, bumpEpoch, pic_ite])

@[simp] theorem finishCmds_fenceTab (p : Cmd → Bool) (st : Status) (d : Nat) (r : List Byte) (s : State) :
    fenceTab (finishCmds p st d r s) = fenceTab s := by
  unfold finishCmds
  dsimp only
  split
  · rfl
  split
  · exact forEach_fenceTab (fun c t => postFinal_fenceTab c st d r t) _ _
  · rfl

@[simp] theorem finishWait_fenceTab (w : WaitFor) (st : Status) (d : Nat) (r : List Byte) (s : State) :
    fenceTab (finishWait w st d r s) = fenceTab s := finishCmds_fenceTab _ _ _ _ _

/-! What a commit that is dropped gives back leaves the fences. -/

@[simp] theorem modDom_fenceTab (d : Nat) (f : Domain → Domain) (s : State) : fenceTab (modDom d f s) = fenceTab s := fenceTab_of_pic (modDom_pic d f s)

@[simp] theorem modPwr_fenceTab (f : PowerPart → PowerPart) (s : State) : fenceTab (modPwr f s) = fenceTab s := fenceTab_of_pic (modPwr_pic f s)

@[simp] theorem modIn_fenceTab (k : Nat) (f : Ingest → Ingest) (s : State) : fenceTab (modIn k f s) = fenceTab s := fenceTab_of_pic (modIn_pic k f s)

@[simp] theorem modBuf_fenceTab (b : Nat) (f : Buffer → Buffer) (s : State) : fenceTab (modBuf b f s) = fenceTab s := fenceTab_of_pic (modBuf_pic b f s)

@[simp] theorem modSyn_fenceTab (k : Nat) (f : Syn → Syn) (s : State) : fenceTab (modSyn k f s) = fenceTab s := fenceTab_of_pic (modSyn_pic k f s)

@[simp] theorem modHd_fenceTab (h : Nat) (f : Head → Head) (s : State) : fenceTab (modHd h f s) = fenceTab s := rfl

@[simp] theorem updateOver_fenceTab (s : State) : fenceTab (updateOver s) = fenceTab s := by simp [updateOver]

@[simp] theorem updateLow_fenceTab (k : Nat) (s : State) : fenceTab (updateLow k s) = fenceTab s := by simp [updateLow, raiseIn]

@[simp] theorem lowCheck_fenceTab (p : Nat) (s : State) : fenceTab (lowCheck p s) = fenceTab s :=
  forUpTo_leaves fenceTab (fun _ _ => by simp) 4 s

@[simp] theorem freeBuf_fenceTab (b : Nat) (s : State) : fenceTab (freeBuf b s) = fenceTab s := fenceTab_of_pic rfl

@[simp] theorem keepRule_fenceTab (p : Nat) (s : State) : fenceTab (keepRule p s) = fenceTab s := by simp [keepRule]

@[simp] theorem afterRelease_fenceTab (b : Nat) (s : State) : fenceTab (afterRelease b s) = fenceTab s := by
  unfold afterRelease
  dsimp only
  split <;> simp

@[simp] theorem releaseError_fenceTab (b tok : Nat) (rejected : Bool) (s : State) : fenceTab (releaseError b tok rejected s) = fenceTab s :=
  fenceTab_of_pic (raise_pic _ _)

@[simp] theorem ledgerReleaseFor_fenceTab (holder b tok : Nat) (s : State) : fenceTab (ledgerReleaseFor holder b tok s).2 = fenceTab s := by
  unfold ledgerReleaseFor ledgerRelease underRelease
  split
  · rfl
  · exact releaseError_fenceTab ..
  · exact releaseError_fenceTab ..
  · exact afterRelease_fenceTab ..

@[simp] theorem returnGrant_fenceTab (a : Armed) (s : State) : fenceTab (returnGrant a s) = fenceTab s := by simp [returnGrant]

theorem modFx_fenceTab {f : Fixer → Fixer} (hfences : ∀ x, (f x).fences = x.fences) (s : State) : fenceTab (modFx f s) = fenceTab s :=
  hfences s.pic.fx

@[simp] theorem dropArmed_fenceTab (a : Armed) (s : State) : fenceTab (dropArmed a s) = fenceTab s := by
  simp [dropArmed, modFx_fenceTab]

@[simp] theorem queueSwitches_fenceTab (sw : List (Nat × Nat × Nat)) (s : State) : fenceTab (queueSwitches sw s) = fenceTab s := rfl

/-- A commit that becomes ready, or is dropped, leaves the fences. -/
@[simp] theorem fxReady_fenceTab (s : State) : fenceTab (fxReady s) = fenceTab s := by
  refine forEach_fenceTab (fun a t => ?_) _ _
  simp [modArmed, modFx_fenceTab]

/-! The enabling of a head leaves the fences. -/

@[simp] theorem time_fenceTab (p : TimePart) (s : State) : fenceTab { s with time := p } = fenceTab s := fenceTab_of_pic rfl

@[simp] theorem sched_fenceTab (p : SchedPart) (s : State) : fenceTab { s with sched := p } = fenceTab s := fenceTab_of_pic rfl

@[simp] theorem modSlot_fenceTab (n : Nat) (f : Slot → Slot) (s : State) : fenceTab (modSlot n f s) = fenceTab s := fenceTab_of_pic (modSlot_pic n f s)

@[simp] theorem holdRasters_fenceTab (s : State) : fenceTab (holdRasters s) = fenceTab s := by
  have hsyns (f : Nat → Syn → Syn) (u : State) :
      fenceTab (forUpTo 12 (fun k t => { t with time.syns := tabMod t.time.syns k (f k) }) u) = fenceTab u :=
    forUpTo_leaves fenceTab (fun _ _ => time_fenceTab _ _) 12 u
  have hheads (f : Nat → Head → Head) (u : State) :
      fenceTab (forUpTo 8 (fun h t => if headEnabled s h then modHd h (f h) t else t) u) = fenceTab u :=
    forUpTo_leaves fenceTab (fun _ _ => by simp) 8 u
  simp only [fenceTab, holdRasters, pic_ite, ite_self]
  exact (hheads _ _).trans (hsyns _ s)

@[simp] theorem applyContent_fenceTab (n : Nat) (c : SlotContent) (s : State) : fenceTab (applyContent n c s) = fenceTab s := by
  simp [applyContent]

@[simp] theorem applyPending_fenceTab (n : Nat) (s : State) : fenceTab (applyPending n s) = fenceTab s := by simp [applyPending]

@[simp] theorem disarmed_fenceTab (s : State) : fenceTab (disarmed s) = fenceTab s := by simp [disarmed]

@[simp] theorem withdrawHeld_fenceTab (s : State) : fenceTab (withdrawHeld s) = fenceTab s := by simp [withdrawHeld, withdraw]

@[simp] theorem dieMeasured_fenceTab (s : State) : fenceTab (dieMeasured s) = fenceTab s := fenceTab_of_pic rfl

@[simp] theorem countReload_fenceTab (s : State) : fenceTab (countReload s) = fenceTab s := fenceTab_of_pic (raise_pic _ _)

@[simp] theorem synUpdatePoint_fenceTab (k : Nat) (s : State) : fenceTab (synUpdatePoint k s) = fenceTab s := by
  simp [synUpdatePoint]

@[simp] theorem setSynShadow_fenceTab (k : Nat) (w : Option SynWords) (s : State) : fenceTab (setSynShadow k w s) = fenceTab s := by
  simp [setSynShadow]

@[simp] theorem headPowered_fenceTab (h : Nat) (s : State) : fenceTab (headPowered h s) = fenceTab s := by
  unfold headPowered
  dsimp only
  split <;> simp

@[simp] theorem recoverSyn_fenceTab (k : Nat) (s : State) : fenceTab (recoverSyn k s) = fenceTab s := by
  simp [recoverSyn]

@[simp] theorem powerHead_fenceTab (h : Nat) (s : State) : fenceTab (powerHead h s) = fenceTab s := by simp [powerHead]

@[simp] theorem powerHeads_fenceTab (s : State) : fenceTab (powerHeads s) = fenceTab s := forUpTo_leaves fenceTab (fun _ _ => by simp) 8 s

/-- A fence write stores its word. -/
theorem fxFenceWrite_fenceTab (k : Nat) (v : Word) (s : State) : fenceTab (fxFenceWrite k v s) = tabSet (fenceTab s) k v.toNat := by
  rw [fxFenceWrite, fxReady_fenceTab]
  rfl

/-! What a read returns after a write. -/

theorem domOn_of_power {s t : State} (h : t.power = s.power) (d : Nat) : domOn t d = domOn s d := by rw [domOn, domAt, h, domOn, domAt]

/-- A write to a register that its page keeps is read back as the register's word. -/
theorem exec_bar0Write_read {o d n : Nat} {v : Word} {s t : State} (h : bar0Region o v s = t) (hsl : t.sl = s.sl) (hp : t.pending = s.pending)
    (hpower : t.power = s.power) (hal : o % 4 = 0) (hpage : o < 0x380000) (hwake : o ≠ 0x4518) (hdb : o < 0x10000 ∨ 0x20000 ≤ o)
    (hread : okReadable o s) (hbefore : (bar0Reg o s).1 = d) (hafter : bar0Reg o t = (d, n)) :
    exec (.registerWrite .bar0 o v) s = .next t ∧ bar0Read o t = BitVec.ofNat 32 n := by
  have hdom : domOn t d = true := by
    rw [← hbefore, domOn_of_power hpower]
    exact hread.2
  exact ⟨exec_bar0Write_region h hsl hp hal hread.1 hpage hwake hdb, bar0Read_on hafter hdom⟩

theorem exec_globalWrite_read {o : Nat} {v : Word} {s t : State} (h : globalWrite o v s = t) (hsl : t.sl = s.sl) (hp : t.pending = s.pending)
    (hpower : t.power = s.power) (hal : o % 4 = 0) (hmax : o < 0x200) (hread : okReadable o s) :
    exec (.registerWrite .bar0 o v) s = .next t ∧ bar0Read o t = BitVec.ofNat 32 (globalReg o t) := by
  have hregion : bar0Region o v s = t := by rw [bar0Region, if_pos hmax, h]
  exact exec_bar0Write_read hregion hsl hp hpower hal (by omega) (by omega) (by omega) hread
    (congrArg Prod.fst (bar0Reg_global s hal hmax)) (bar0Reg_global t hal hmax)

theorem eventReg_enable {o : Nat} (s : State) (hal : o % 4 = 0) (hmin : 0x80 ≤ o) (hmax : o < 0x100) :
    eventReg o s = (tabGet s.ev.en (o % 0x80 / 4)).toNat := by
  unfold eventReg
  simp [hal, Nat.not_lt.2 hmin, hmax]

theorem fastReg_position {l : Nat} (v : Word) (s : State) : fastReg l 0 (modLay l (stagedAt v) s) = v.toNat := by
  have hlay : layAt (modLay l (stagedAt v) s) l = stagedAt v (layAt s l) := tabGet_tabMod_same ..
  have hv : v.toNat < 2 ^ 32 := v.isLt
  have hx : unsignedOf 16 (signedOf 16 (v.toNat % 65536)) = v.toNat % 65536 := unsignedOf_signedOf (Nat.mod_lt _ (by decide))
  have hy : unsignedOf 16 (signedOf 16 (v.toNat / 65536)) = v.toNat / 65536 := unsignedOf_signedOf (by omega)
  rw [fastReg, hlay]
  simp only [stagedAt, hx, hy, pack, List.map_cons, List.map_nil, List.sum_cons, List.sum_nil]
  omega

theorem dmaRegion_doorbellLow {o : Nat} (s : State) (hmax : o < 0x800) (hal : o % 0x40 = 0) : dmaRegion o s = (dcAt s (o / 0x40)).dbLo := by
  simp [dmaRegion, hmax, hal, dmaReg]

/-- Settles O13: each register that is read back is traced from the page of its write to the word that its read packs. -/
theorem registerReads : Obligations.RegisterReads := by
  unfold Obligations.RegisterReads
  refine ⟨?unpowered, ?scratch, ?apBase, ?apStatus, ?fence, ?enable, ?position, ?doorbell, ?wake, ?readOnly⟩
  case unpowered =>
    intro o s hoff
    simp [bar0Read, hoff]
  case scratch =>
    intro v s hread
    obtain ⟨hexec, hword⟩ := exec_globalWrite_read (o := 0x14) (v := v) rfl rfl rfl rfl (by decide) (by decide) hread
    refine ⟨_, hexec, hword.trans ?_⟩
    exact (BitVec.ofNat_toNat 32 v).trans (BitVec.setWidth_eq v)
  case apBase =>
    intro v s hread
    obtain ⟨hexec, hword⟩ := exec_globalWrite_read (o := 0x100) (v := v) rfl rfl rfl rfl (by decide) (by decide) hread
    exact ⟨_, hexec, hword.trans (ofNat_mod_two_pow v 20 (by decide))⟩
  case apStatus =>
    intro v s hread
    obtain ⟨hexec, hword⟩ := exec_globalWrite_read (o := 0x104) (v := v) rfl rfl rfl rfl (by decide) (by decide) hread
    exact ⟨_, hexec, rfl, hword⟩
  case fence =>
    intro k v s hread
    have hreg : bar0Reg (0x81000 + 4 * k) s = _ := bar0Reg_fence s (by omega) (by omega) (by omega)
    have hdom : domOn s 1 = true := (congrArg (domOn s) (congrArg Prod.fst hreg)).symm.trans hread.2
    have hwrite : fenceTab (heldIn 1 (fun s => powerHeads (fxFenceWrite k v s)) s) = tabSet (fenceTab s) k v.toNat := by
      rw [heldIn_on hdom, powerHeads_fenceTab, fxFenceWrite_fenceTab]
    refine ⟨_, rfl, ?_⟩
    exact (congrArg (fun f => tabGet f k) hwrite).trans (tabGet_tabSet_same ..)
  case enable =>
    intro g v s hread
    have hreg (u : State) : bar0Reg (0x100080 + 4 * g) u = (2, (tabGet u.ev.en g).toNat) := by
      have hgroup : (0x100080 + 4 * g.val - 0x100000) % 0x80 / 4 = g.val := by omega
      rw [bar0Reg_event u (by omega) (by omega) (by omega), eventReg_enable u (by omega) (by omega) (by omega), hgroup]
    have hdom : domOn s 2 = true := (congrArg (domOn s) (congrArg Prod.fst (hreg s))).symm.trans hread.2
    obtain ⟨hexec, hword⟩ := exec_bar0Write_read (bar0Region_eventEnable g v hdom) rfl rfl rfl (by omega) (by omega) (by omega) (by omega)
      hread (congrArg Prod.fst (hreg s)) (hreg _)
    refine ⟨_, hexec, hword.trans ?_⟩
    rw [BitVec.ofNat_toNat, BitVec.setWidth_eq]
    exact tabGet_tabSet_same ..
  case position =>
    intro l v s hread
    have hreg (u : State) : bar0Reg (0x80000 + 0x20 * l) u = (27, fastReg l 0 u) := by
      have hlayer : (0x80000 + 0x20 * l.val - 0x80000) / 0x20 = l.val := by omega
      have hoffset : (0x80000 + 0x20 * l.val) % 0x20 = 0 := by omega
      rw [bar0Reg_fast u (by omega) (by omega) (by omega), hlayer, hoffset]
    have hdom : domOn s 27 = true := (congrArg (domOn s) (congrArg Prod.fst (hreg s))).symm.trans hread.2
    obtain ⟨hexec, hword⟩ := exec_bar0Write_read (bar0Region_fastPosition l v hdom) rfl rfl rfl (by omega) (by omega) (by omega) (by omega)
      hread (congrArg Prod.fst (hreg s)) (hreg _)
    refine ⟨_, hexec, hword.trans ?_⟩
    rw [fastReg_position, BitVec.ofNat_toNat, BitVec.setWidth_eq]
  case doorbell =>
    intro n v s hread
    have hreg (u : State) : bar0Reg (0x200000 + 0x40 * n) u = (2, (dcAt u n).dbLo) := by
      have hchannel : (0x200000 + 0x40 * n.val - 0x200000) / 0x40 = n.val := by omega
      rw [bar0Reg_dma u (by omega) (by omega) (by omega), dmaRegion_doorbellLow u (by omega) (by omega), hchannel]
    have hdom : domOn s 2 = true := (congrArg (domOn s) (congrArg Prod.fst (hreg s))).symm.trans hread.2
    obtain ⟨hexec, hword⟩ := exec_bar0Write_read (bar0Region_doorbellLow n v hdom) rfl rfl rfl (by omega) (by omega) (by omega) (by omega)
      hread (congrArg Prod.fst (hreg s)) (hreg _)
    refine ⟨_, hexec, hword.trans ?_⟩
    have hdc : ∀ f, dcAt (modDc n f s) n = f (dcAt s n) := fun f => tabGet_tabMod_same ..
    rw [hdc]
    exact doorbellWord v
  case wake =>
    intro v s hread
    have hwrite : registerWrite .bar0 0x380064 v s = modSl (fun l => { l with wakeEn := v.toNat % 512 }) s := by
      simp [registerWrite, bar0Write, hread.1, slWrite]
    exact ⟨_, act_next hwrite rfl, (bar0Read_on (bar0Reg_wakeEn (modSl (fun l => { l with wakeEn := v.toNat % 512 }) s)) hread.1).trans (ofNat_mod_two_pow v 9 (by decide))⟩
  case readOnly =>
    intro v s hread
    obtain ⟨hexec, hword⟩ := exec_globalWrite_read (o := 0x0) (v := v) rfl rfl rfl rfl (by decide) (by decide) hread
    exact ⟨_, hexec, hword⟩

end Sys2Proof.Machine
end

section
/-! PROOFS. DMA channels (R475 to R484): their doorbell, their reset and its completion. -/
namespace Sys2Proof.Machine
open Sys2Proof

@[simp] theorem dcError_kept (n : Nat) (s : State) : kept (dcError n s) = kept s := raise_kept _ s

@[simp] theorem agentReclaim_kept (cls inst : Nat) (s : State) : kept (agentReclaim cls inst s) = kept s := by
  simp [agentReclaim, reclaimToken]

/-! What reclaiming the references of an agent leaves of the channels. -/

theorem dma_ite {c : Prop} [Decidable c] (a b : State) : (if c then a else b).dma = if c then a.dma else b.dma :=
  apply_ite State.dma c a b

theorem forEach_dma {α : Type} {f : α → State → State} (h : ∀ a t, (f a t).dma = t.dma) (l : List α) (s : State) :
    (forEach l f s).dma = s.dma := forEach_leaves State.dma h l s

@[simp] theorem updateLow_dma (k : Nat) (s : State) : (updateLow k s).dma = s.dma := by simp [updateLow, raiseIn, dma_ite]

@[simp] theorem lowCheck_dma (p : Nat) (s : State) : (lowCheck p s).dma = s.dma :=
  forUpTo_leaves State.dma (fun _ _ => by simp [dma_ite]) 4 s

@[simp] theorem freeBuf_dma (b : Nat) (s : State) : (freeBuf b s).dma = s.dma := by simp [freeBuf]

@[simp] theorem keepRule_dma (p : Nat) (s : State) : (keepRule p s).dma = s.dma := by
  simp [keepRule, dma_ite, forEach_dma]

@[simp] theorem afterRelease_dma (b : Nat) (s : State) : (afterRelease b s).dma = s.dma := by
  simp only [afterRelease]
  split <;> simp [dma_ite]

@[simp] theorem reclaimToken_dma (tok : Nat) (s : State) : (reclaimToken tok s).dma = s.dma := by
  simp [reclaimToken, dma_ite, forEach_dma]

@[simp] theorem agentReclaim_dma (cls inst : Nat) (s : State) : (agentReclaim cls inst s).dma = s.dma := by
  simp [agentReclaim, forEach_dma]

/-! The record of one channel. -/

@[simp] theorem dcAt_modDc_same (n : Nat) (f : DmaChan → DmaChan) (s : State) : dcAt (modDc n f s) n = f (dcAt s n) := tabGet_tabMod_same ..

theorem modDc_congr {n : Nat} {f g : DmaChan → DmaChan} {s : State} (h : f (dcAt s n) = g (dcAt s n)) : modDc n f s = modDc n g s := by
  simp only [modDc, tabMod]
  rw [show f (tabGet s.dma.chans n) = g (tabGet s.dma.chans n) from h]

theorem modDc_modDc_to {n : Nat} {f g k : DmaChan → DmaChan} {s : State} (h : g (f (dcAt s n)) = k (dcAt s n)) :
    modDc n g (modDc n f s) = modDc n k s :=
  congrArg (fun t => { s with dma.chans := t }) (tabMod_tabMod_to h)

/-! Doorbells (R475) and RESUME (R479). -/

theorem dcDoorbell_of_refused {n v : Nat} {s : State}
    (h : (dcAt s n).mode ≠ 1 ∨ (dcAt s n).state = .resetting ∨ 8 ≤ (dcAt s n).queue.length) : dcDoorbell n v s = dbIgnored n s := if_pos h

theorem dcDoorbell_of_taken {n v : Nat} {s : State} (hmode : (dcAt s n).mode = 1) (hstate : (dcAt s n).state ≠ .resetting)
    (hroom : (dcAt s n).queue.length < 8) :
    dcDoorbell n v s = if (dcAt s n).state = .idle then modDc n (fun x => { x with state := .running, next := some (dbAddr (dcAt s n).dbLo v) }) s
      else modDc n (fun x => { x with queue := x.queue ++ [dbAddr (dcAt s n).dbLo v] }) s :=
  if_neg (by simp [hmode, hstate, hroom])

theorem dcNextChain_of_queued {n : Nat} {a : DmaAddr} {rest : List DmaAddr} {s : State} (h : (dcAt s n).queue = a :: rest) :
    dcNextChain n s = modDc n (fun x => { x with state := .running, next := some a, queue := rest }) s := by
  refine modDc_congr ?_
  rw [h]

/-! Resets (R482 to R484). -/

theorem rulesDrained_of_none {s : State} (h : s.ctl.inflight = []) : rulesDrained s = s := by
  rw [rulesDrained, h]
  rfl

theorem releaseHeldOps_of_none {s : State} (h : s.ctl.inflight = []) : releaseHeldOps s = s := by
  rw [releaseHeldOps, heldLedgerOps, h]
  rfl

/-- The address of an open burst is that of a block of 64 bytes. -/
theorem openBurst_aligned {x : DmaChan} {w : Bool} {a : Nat} (h : openBurst x = some (w, a)) : a / 64 * 64 = a := by
  have hblock (n : Nat) : n / 64 * 64 / 64 * 64 = n / 64 * 64 := by omega
  unfold openBurst at h
  dsimp only at h
  (repeat' split at h) <;> cases h <;> exact hblock _

theorem openBurst_of_no_run {x : DmaChan} (h : x.run = none) : openBurst x = none := by rw [openBurst, h]

/-- What a reset that no command waits for does to a channel. -/
theorem dcReset_eq {n : Nat} {s t : State} (hcut : forEach (openBurst (dcAt s n)).toList (fun b => cutBurst (.dma n, b)) s = t)
    (hctl : t.ctl.inflight = []) {was : Bool} (hwas : (decide ((dcAt s n).state = .running) ||
      (decide ((dcAt s n).state = .resetting) && (dcAt s n).wasRunning)) = was) :
    dcReset n s = resetAgent clsDma n (modDc n (fun x => { x with
      state := .resetting, queue := [], next := none, run := none, refs := [], bufs := [], inbox := [], wasRunning := was,
      newMode := x.newMode }) t) := by
  unfold dcReset dcStartReset
  dsimp only
  rw [hcut, hwas, rulesDrained_of_none (show (modDc n _ t).ctl.inflight = [] from hctl)]
  exact releaseHeldOps_of_none hctl

theorem dcResetComplete_eq {n : Nat} {s : State} (hstate : (dcAt s n).state = .resetting) (hnew : (dcAt s n).newMode = none)
    (hmode : (dcAt s n).mode = 1) (hwas : (dcAt s n).wasRunning = false) :
    dcResetComplete n s = finishWait (.dmaReset n) .ok 0 [] (raise (801 + 2 * n) (modDc n (fun x => { x with
      mode := 1, newMode := none, wasRunning := false, err := x.err, state := .idle, owner := x.owner, prod := 0, cons := 0,
      dropAt := none }) (agentReclaim clsDma n s))) := by
  have hsame : dcAt (agentReclaim clsDma n s) n = dcAt s n := by rw [dcAt, agentReclaim_dma, dcAt]
  unfold dcResetComplete
  dsimp only
  rw [if_neg (not_not_intro hstate), hnew, hmode]
  refine congrArg (fun t => finishWait (.dmaReset n) .ok 0 [] (raise (801 + 2 * n) t)) (modDc_congr ?_)
  simp [hsame, hwas]

/-- A cut burst of a master that has a number is recorded under it (R484). -/
theorem cutBurst_of_number {g : Agent} {k : Nat} (h : masterNumber g = some k) (w : Bool) (addr : Nat) (s : State) :
    cutBurst (g, w, addr) s =
      raise 992 { s with dma := { s.dma with lastMaster := k, lastWrite := w, lastValid := true, lastAddr := addr / 64 * 64 } } := by
  simp only [cutBurst, h]

/-- Settles O53: a doorbell, RESUME and a reset by the cases of the channel, and each master by its number. -/
theorem dmaChannelEvents : Obligations.DmaChannelEvents := by
  unfold Obligations.DmaChannelEvents
  refine ⟨?starts, ?queues, ?ignored, ?resume, ?resetIdle, ?resetBurst, ?complete, ?masters⟩
  case starts =>
    rintro chan value s ⟨hdom, hmode, hstate, hroom⟩
    refine actOutside_kept ?_ (modDc_kept _ _ _)
    rw [heldIn_on hdom, dcDoorbell_of_taken hmode (by simp [hstate]) hroom, if_pos hstate]
  case queues =>
    rintro chan value s ⟨hdom, hmode, hidle, hreset, hroom⟩
    refine actOutside_kept ?_ (modDc_kept _ _ _)
    rw [heldIn_on hdom, dcDoorbell_of_taken hmode hreset hroom, if_neg hidle]
  case ignored =>
    rintro chan value s ⟨hdom, hrefused⟩
    refine actOutside_kept ?_ (by simp)
    rw [heldIn_on hdom, dcDoorbell_of_refused hrefused]
    rfl
  case resume =>
    rintro chan a rest s ⟨hdom, hhalted, hqueue⟩
    refine actOutside_kept ?_ (modDc_kept _ _ _)
    rw [heldIn_on hdom, Machine.dcResume, if_pos hhalted, dcNextChain_of_queued (by rw [dcAt_modDc_same]; exact hqueue)]
    exact modDc_modDc_to rfl
  case resetIdle =>
    rintro chan s ⟨hdom, hrun, hidle, hnone⟩
    refine actOutside_kept ?_ (by simp)
    rw [heldIn_on hdom]
    exact dcReset_eq (by rw [openBurst_of_no_run hrun]; rfl) hnone (by simp [hidle])
  case resetBurst =>
    rintro chan w a s ⟨hdom, hburst, hrunning, hnone⟩
    refine actOutside_kept ?_ (by simp)
    rw [heldIn_on hdom]
    refine dcReset_eq ?_ (by simp [hnone]) (by simp [hrunning])
    rw [hburst]
    refine (cutBurst_of_number (g := .dma chan) rfl w a s).trans ?_
    rw [openBurst_aligned hburst]
  case complete =>
    rintro chan s ⟨hdom, hstate, hnew, hmode, hwas⟩
    refine actOutside_kept ?_ (by simp)
    rw [heldIn_on hdom]
    exact dcResetComplete_eq hstate hnew hmode hwas
  case masters =>
    intro s n addr w
    simp only [List.forall_mem_cons, List.not_mem_nil, false_implies, implies_true, and_true]
    refine ⟨?_, ?_, ?_, ?_, ?_, ?_, ?_, ?_, ?_, ?_, ?_⟩ <;> exact cutBurst_of_number rfl w addr s

end Sys2Proof.Machine
end

section
/-! PROOFS. The statement about the transfers of DMA channels, which does not hold: its clause of a ring frame leaves out the command
that waits for it. -/
namespace Sys2Proof.Machine
open Sys2Proof

/-- A receive ring of channel 5 with its last frame of MAC 4 in hand, for which a MAC_RULE_SET of MAC 4 waits. -/
def drainingRing : State :=
  { ctl := { pair := .running, inflight := [{ opcode := 0x0B04, phase := .waiting (.rulesDrain 4 1 2) }] },
    power := { doms := [(2, { level := .on })] },
    dma := { chans := [(5, { mode := 2, state := .ring, entries := 4, entryBytes := 128, ringAddr := 8192, inbox := [{ mac := 4, bytes := [1, 2] }] })] },
    host := { linkUp := true, busMaster := true } }

/-- Refutes O54: its clause of a frame written to its ring fails. A MAC_RULE_SET is answered once no frame steered before it still
waits for its ring (R208), so the write of the last such frame ends it; the clause leaves the command waiting. -/
theorem not_dmaTransferEvents : ¬ Obligations.DmaTransferEvents := by
  unfold Obligations.DmaTransferEvents
  rintro ⟨-, -, -, -, -, -, hring, -⟩
  have hclause := hring 5 { mac := 4, bytes := [1, 2] } [] (hostPoke 8192 (ringHeader { mac := 4, bytes := [1, 2] } 2 ++ [1, 2]) drainingRing)
    drainingRing (by decide +kernel)
  have hwaiting := congrArg (fun o => (answerState o).map (·.ctl.inflight.length)) hclause
  exact absurd hwaiting (by decide +kernel)

end Sys2Proof.Machine
end

section
/-! PROOFS. Packets of the streams (R435 to R454): what a read of a picture leaves alone, and the statement about the packet events. -/
namespace Sys2Proof.Machine
open Sys2Proof

/-! What a read of a picture leaves alone: the time, the recorders, the streams and the MACs. -/

/-- The parts of the engines that read pictures, with the time they go by. -/
def engines (s : State) : TimePart × RecPart × StreamPart × MacPart := (s.time, s.mag, s.st, s.mac)

theorem engines_eq_iff {s t : State} : engines t = engines s ↔ t.time = s.time ∧ t.mag = s.mag ∧ t.st = s.st ∧ t.mac = s.mac := by
  simp [engines]

@[simp] theorem engines_ite {c : Prop} [Decidable c] (a b : State) : engines (if c then a else b) = if c then engines a else engines b :=
  apply_ite engines c a b

@[simp] theorem raise_engines (n : Nat) (s : State) : engines (raise n s) = engines s := by simp [engines]

@[simp] theorem modChan_engines (c : Nat) (f : Channel → Channel) (s : State) : engines (modChan c f s) = engines s := rfl

@[simp] theorem wakeRank_engines (c loc : Nat) (s : State) : engines (wakeRank c loc s) = engines s := by
  simp only [wakeRank, engines_ite, modChan_engines]
  exact ite_self _

@[simp] theorem logFault_engines (kind unit detail : Nat) (s : State) : engines (logFault kind unit detail s) = engines s := by
  simp only [logFault, engines_ite, raise_engines]
  exact ite_self _

theorem withUsable_engines {f : State → State} {s : State} (h : engines (f s) = engines s) : engines (withUsable f s) = engines s := by
  simp only [withUsable, engines_ite, raise_engines]
  split
  · exact h
  · exact h

@[simp] theorem autoRetire_engines (c : Nat) (s : State) : engines (autoRetire c s) = engines s := by
  simp only [autoRetire, engines_ite, startRetire, raise_engines]
  split
  · exact withUsable_engines rfl
  · rfl

@[simp] theorem patrolLog_engines (line c : Nat) (rep : Bool) (s : State) : engines (patrolLog line c rep s) = engines s := by
  simp only [patrolLog, engines_ite]
  exact ite_self _

@[simp] theorem reportUe_engines (line : Nat) (s : State) : engines (reportUe line s) = engines s := by
  simp only [reportUe, countUe, autoRetire_engines, patrolLog_engines, fsUeFault, logFault_engines, raise_engines]
  rfl

@[simp] theorem reportCe_engines (line : Nat) (s : State) : engines (reportCe line s) = engines s := by
  simp only [reportCe, countCe, engines_ite, raise_engines]
  exact ite_self _

@[simp] theorem fsReadLine_engines (line : Nat) (s : State) : engines (fsReadLine line s).2.2 = engines s := by
  have hwoken := wakeRank_engines (placeOf s (64 * line)).1 (placeOf s (64 * line)).2 s
  simp only [fsReadLine]
  split
  · exact raise_engines _ _
  split
  · exact raise_engines _ _
  split
  · rfl
  split
  · rfl
  split
  · exact (reportUe_engines _ _).trans hwoken
  split
  · exact hwoken
  split
  · rw [reportCe_engines]
    exact hwoken
  split
  · rw [reportCe_engines]
    exact hwoken
  · rw [reportUe_engines]
    exact hwoken

@[simp] theorem bufReadLine_engines (b n : Nat) (s : State) : engines (bufReadLine b n s).2.2 = engines s := by
  simp only [bufReadLine]
  split
  · rfl
  · exact fsReadLine_engines n s

@[simp] theorem holeRead_engines (holder b tok : Nat) (s : State) : engines (holeRead holder b tok s) = engines s := by
  simp only [holeRead, engines_ite, raise_engines]
  (repeat' split) <;> rfl

@[simp] theorem readPixels_engines (holder b x0 p y : Nat) (s : State) : engines (readPixels holder b x0 p y s).2.2 = engines s := by
  simp only [readPixels]
  split
  · exact holeRead_engines _ _ _ s
  · refine foldl_keeps (fun (acc : Tab (List Byte) × Bool × State) => engines acc.2.2 = engines s) _ (fun acc n hacc => ?_) _ _ rfl
    simp [hacc]

/-! The record of one subscriber. -/

theorem modSub_congr {n : Nat} {f g : Sub → Sub} {s : State} (h : f (subAt s n) = g (subAt s n)) : modSub n f s = modSub n g s := by
  simp only [modSub, tabMod]
  rw [show f (tabGet s.st.subs n) = g (tabGet s.st.subs n) from h]

theorem subAt_of_engines {s t : State} (h : engines t = engines s) (n : Nat) : subAt t n = subAt s n := by
  rw [subAt, (engines_eq_iff.1 h).2.2.1, subAt]

/-! Kept. -/

@[simp] theorem packetRelease_kept (n : Nat) (s : State) : kept (packetRelease n s) = kept s := by
  unfold packetRelease
  split <;> simp

@[simp] theorem slotEligible_kept (n : Nat) (s : State) : kept (slotEligible n s) = kept s := by
  simp only [slotEligible]
  (repeat' split) <;> simp

@[simp] theorem countPromotion_kept (m i : Nat) (s : State) : kept (countPromotion m i s) = kept s := by simp [countPromotion]

@[simp] theorem handOver_kept (m : Nat) (q : StPacket) (s : State) : kept (handOver m q s) = kept s := by simp [handOver]

@[simp] theorem portSchedule_kept (m : Nat) (s : State) : kept (portSchedule m s) = kept s := by
  simp only [portSchedule]
  (repeat' split) <;> simp

@[simp] theorem pacedDeadline_kept (m n : Nat) (s : State) : kept (pacedDeadline m n s) = kept s := by
  simp only [pacedDeadline]
  split <;> simp

@[simp] theorem pathDownTimeout_kept (f : Nat) (pathB : Bool) (s : State) : kept (pathDownTimeout f pathB s) = kept s := by
  unfold pathDownTimeout
  refine (apply_ite kept _ _ _).trans ?_
  rw [raise_kept, modFlow_kept]
  exact ite_self _

@[simp] theorem depackTimeout_kept (d : Nat) (s : State) : kept (depackTimeout d s) = kept s := by simp [depackTimeout]

/-! Frames and slots (R435 to R446). -/

theorem packetRelease_due {n : Nat} {f : SubFrame} {s : State} (hcur : (subAt s n).cur = some f)
    (hdue : releaseAt s (subAt s n).cfg f ≤ s.time.tb.now) : packetRelease n s = releaseNext n s := by
  simp only [packetRelease, hcur]
  exact if_pos hdue

theorem releaseNext_of_ended {n : Nat} {f : SubFrame} {s : State} (hcur : (subAt s n).cur = some f)
    (hended : nPkt (subAt s n).cfg f.width f.lines ≤ f.next) : releaseNext n s = frameReleased n f s := by
  simp only [releaseNext, hcur]
  exact if_pos hended

theorem slotEligible_of_empty {n : Nat} {s : State} (hon : (subAt s n).enabled = true) (hring : subPaced (subAt s n) = false)
    (hstarted : (subAt s n).started = true) (htier : tierHeld s (subAt s n).cfg.tier = false)
    (hempty : (fsRead (ringSlot (subAt s n).cfg (subAt s n).ringNext) 16 s).1.getD 0 0 ≠ 1) :
    slotEligible n s = (fsRead (ringSlot (subAt s n).cfg (subAt s n).ringNext) 16 s).2.2 := by
  simp only [slotEligible]
  rw [if_neg (by simp [hon, hring, hstarted, htier]), if_pos (Or.inl hempty)]

theorem any_recent {now t span : Nat} (h : now < t + span) : (some t).any (fun t => decide (now < t + span)) = true := by simp [h]

theorem any_not_recent {now t span : Nat} (h : t + span ≤ now) : (some t).any (fun t => decide (now < t + span)) = false := by simp [h]

/-- A path is down where the other one delivers and it has been quiet for 100 ms (R451). -/
theorem pathDownTimeout_falls {f a : Nat} {pathB : Bool} {s : State} (hon : (flowAt s f).enabled = true) (hpair : (flowAt s f).cfg.portB.isSome = true)
    (hother : (if pathB then (flowAt s f).lastA else (flowAt s f).lastB) = some a) (hrecent : runTime s < a + 100000000 * nsUnits)
    (hquiet : (if pathB then (flowAt s f).lastB else (flowAt s f).lastA).getD (flowAt s f).since + 100000000 * nsUnits ≤ runTime s)
    (hup : (if pathB then (flowAt s f).downB else (flowAt s f).downA) = false) :
    pathDownTimeout f pathB s = raise 677 (modFlow f (fun x => if pathB then { x with downB := true } else { x with downA := true }) s) := by
  refine if_neg ?_
  rw [hon, Option.isNone_eq_false_iff.2 hpair, hother, hup]
  rintro (hoff | hsingle | hlost | hheard | hdown)
  · cases hoff
  · cases hsingle
  · exact Bool.false_ne_true (((Bool.not_eq_true' _).mp hlost).symm.trans (any_recent hrecent))
  · exact Bool.false_ne_true ((any_not_recent hquiet).symm.trans hheard)
  · cases hdown

/-- Settles O51: each event of a subscriber, a port, a flow and a depacketizer by the case its hypotheses name. -/
theorem packetEvents : Obligations.PacketEvents := by
  unfold Obligations.PacketEvents
  refine ⟨?ends, ?release, ?empty, ?sent, ?schedule, ?promotes, ?late, ?merge, ?downA, ?downB, ?closes, ?drops⟩
  case ends =>
    rintro sub f s ⟨hcur, hdue, hended⟩
    exact actOutside_kept ((packetRelease_due hcur hdue).trans (releaseNext_of_ended hcur hended)) (by simp)
  case release =>
    rintro sub f s ⟨hcur, hdue, hmore, hpath, hhold⟩
    refine actOutside_of_kept (packetRelease_kept _ s) ((packetRelease_due hcur hdue).trans ?_)
    have hread (holder b x0 p y : Nat) : subAt (readPixels holder b x0 p y s).2.2 sub = subAt s sub :=
      subAt_of_engines (readPixels_engines holder b x0 p y s) sub
    simp only [releaseNext, hcur]
    rw [if_neg (by omega), decide_eq_false (Nat.ne_of_lt hmore), hpath,
      modSub_congr (g := fun x => { x with seq := inc32 (subAt s sub).seq, cur := some { f with next := f.next + 1 } }) (by rw [hread, if_pos hhold])]
    rfl
  case empty =>
    rintro sub s ⟨hon, hring, hstarted, htier, hempty⟩
    exact actOutside_kept (slotEligible_of_empty hon hring hstarted htier hempty) (by simp)
  case sent =>
    rintro sub h d t u b s ⟨hon, hring, hstarted, htier, hhead, hfilled, hnow, hfree, hlen, hmax, hslot, htoken, hdata⟩
    refine actOutside_of_kept (slotEligible_kept _ s) ?_
    have hheader : (fsRead (ringSlot (subAt s sub).cfg (subAt s sub).ringNext) 16 s).1 = h := congrArg Prod.fst hhead
    have hafter : (fsRead (ringSlot (subAt s sub).cfg (subAt s sub).ringNext) 16 s).2.2 = t := congrArg (fun r => r.2.2) hhead
    simp only [slotEligible]
    rw [if_neg (by simp [hon, hring, hstarted, htier]), hheader, hafter, if_neg (by rw [hfilled, hfree]; simp), if_neg (by omega)]
    split
    next hnone =>
      cases htoken.symm.trans hnone
    next b' hsome =>
      obtain rfl : b = b' := Option.some.inj (htoken.symm.trans hsome)
      rw [if_neg (by rw [hnow, Bool.not_false, Bool.true_or]; decide), hdata]
  case schedule =>
    rintro port i q s ⟨hnet, hup, hidle, hrun, hsending, hstopping, howed, haged, hlowest, hhead⟩
    refine actOutside_of_kept (portSchedule_kept _ s) ?_
    simp [Machine.portSchedule, hnet, hup, hidle, hrun, hsending, hstopping, howed, haged, hlowest, hhead]
  case promotes =>
    rintro port i q s ⟨hnet, hup, hidle, hrun, hsending, hstopping, howed, haged, hfirst, hhead⟩
    refine actOutside_of_kept (portSchedule_kept _ s) ?_
    simp [Machine.portSchedule, hnet, hup, hidle, hrun, hsending, hstopping, howed, haged, hhead]
    exact fun hi hpaced => absurd (hfirst.resolve_left hi) hpaced
  case late =>
    rintro port sub q s ⟨hfind, hframe, hrun⟩
    refine actOutside_of_kept (pacedDeadline_kept _ _ s) ?_
    have hq : (unsentPackets s port).find?
        (fun q => decide (q.sub = sub.val) && q.paced && !q.late && decide (q.deadline ≤ s.time.tb.now)) = some q := by
      rw [unsentPackets, List.find?_append, Option.or_eq_some_iff]
      refine Or.inl (hfind ▸ congrArg (fun p => List.find? p (portAt s port).queue) (funext fun r => ?_))
      simp [Bool.and_assoc]
    simp only [pacedDeadline, hq]
    rw [if_neg hframe, if_neg (by simp [hrun])]
  case merge =>
    rintro flow e h s ⟨hnext, hwaiting⟩
    refine actOutside_of_kept (mergeTimeout_kept _ s) ?_
    simp [Machine.mergeTimeout, hnext, hwaiting]
  case downA =>
    rintro flow b s ⟨hon, hpair, hother, hrecent, hquiet, hsince, hup⟩
    refine actOutside_of_kept (pathDownTimeout_kept _ _ s) (pathDownTimeout_falls (pathB := false) hon hpair hother hrecent ?_ hup)
    exact (congrArg (fun l => l.getD (flowAt s flow).since + 100000000 * nsUnits ≤ runTime s) hquiet).mpr hsince
  case downB =>
    rintro flow a b s ⟨hon, hpair, hother, hrecent, hmine, hsince, hup⟩
    refine actOutside_of_kept (pathDownTimeout_kept _ _ s) (pathDownTimeout_falls (pathB := true) hon hpair hother hrecent ?_ hup)
    exact (congrArg (fun l => l.getD (flowAt s flow).since + 100000000 * nsUnits ≤ runTime s) hmine).mpr hsince
  case closes =>
    intro depack s hopened
    exact actOutside_of_kept (depackTimeout_kept _ s) (if_pos hopened)
  case drops =>
    rintro depack s hdropping
    refine actOutside_of_kept (depackTimeout_kept _ s) (if_neg ?_)
    rw [hdropping]
    decide

end Sys2Proof.Machine
end

section
/-! PROOFS. The statement about PTP and the rig, which does not hold: its clause of an Announce that a leader ignores leaves out the
leader's own. -/
namespace Sys2Proof.Machine
open Sys2Proof

/-- A network MAC in use that steers its frames to the firmware. -/
def firmwareMac : Mac :=
  { enabled := true, cfg := { mode := 1, first := 4, maxFrame := 1600, dest := [1] }, lk := { link := .up } }

/-- A leader of a rig on port 4, which takes PTP of domain 2. -/
def leaderDevice : State :=
  { ctl := { pair := .running }, mac := { macs := [(4, firmwareMac)] },
    st := { rig := { state := .leader, port := 4 }, ptp := [(4, { cfg := { enabled := true, domain := 2 } })] } }

/-- An Announce of domain 2 whose source is the clock of the leader itself. -/
def ownAnnounce : List Byte :=
  udpFrame [1, 2, 3, 4, 5, 6] [1, 2, 3, 4, 5, 7] none 0 1 167772161 167772162 319 319
    ([11, 2, 0, 64, 2] ++ List.replicate 15 0 ++ clockId leaderDevice 4 ++ List.replicate 36 0)

/-- Refutes O52: its clause of an Announce that a leader hears fails. The leader counts the Announce messages that it ignores, but not
one that carries its own clock identity, which changes nothing; the clause counts it. -/
theorem not_ptpRigEvents : ¬ Obligations.PtpRigEvents := by
  unfold Obligations.PtpRigEvents
  rintro ⟨hignored, -⟩
  have hclause := hignored 4 ownAnnounce leaderDevice (by decide +kernel)
  have hcount := congrArg (fun o => (answerState o).map (·.st.ptpStatus.ignored)) hclause
  exact absurd hcount (by decide +kernel)

end Sys2Proof.Machine
end

section
/-! PROOFS. Messages of the magazines (R399 to R420): what each does once it has passed the checks, and the statement about them. -/
namespace Sys2Proof.Machine
open Sys2Proof

@[simp] theorem hrstnAfter_kept (s : State) : kept (hrstnAfter s) = kept s := by
  unfold hrstnAfter
  split
  · split
    · exact deviceReset_kept ..
    · rfl
  · rfl

/-- A step after which a deferred HRSTn may take effect (R550). -/
theorem bathStep_next {f : State → State} {s t : State} (h : f s = t) (hkept : kept (f s) = kept s) :
    actOutside (bathStep f) s = .next (hrstnAfter t) := by
  refine actOutside_kept (congrArg hrstnAfter h) ?_
  rw [hrstnAfter_kept, ← h, hkept]

@[simp] theorem kmpTimeout_kept (i : Nat) (s : State) : kept (kmpTimeout i s) = kept s := by
  simp only [kmpTimeout]
  (repeat' split) <;> simp

@[simp] theorem formatTimeout_kept (i : Nat) (s : State) : kept (formatTimeout i s) = kept s := by simp [formatTimeout]

/-! The record of one slot. -/

theorem modMag_modMag_to {i : Nat} {f g h : MagSlot → MagSlot} {s : State} (heq : g (f (magAt s i)) = h (magAt s i)) :
    modMag i g (modMag i f s) = modMag i h s :=
  congrArg (fun t => { s with mag.slots := t }) (tabMod_tabMod_to heq)

@[simp] theorem magAt_modMag_same (i : Nat) (f : MagSlot → MagSlot) (s : State) : magAt (modMag i f s) i = f (magAt s i) := tabGet_tabMod_same ..

@[simp] theorem recAt_raiseMag (i k c : Nat) (s : State) : recAt (raiseMag i k s) c = recAt s c := by simp [recAt, raiseMag]

/-! A message that passes the checks (R397, R401). -/

theorem kmpReceive_past {only : Nat → Bool} {i : Nat} {f : List Byte} {s : State} (hon : (magAt s i).state ≠ .off)
    (hto : toEngine (macAt s (magAt s i).mac) f = true) (honly : only (kmpAt f 0 1) = true) :
    kmpReceive only i f s =
      if be16 f 12 ≠ 0x88B6 ∨ (!kmpTypes.contains (kmpAt f 0 1)) = true ∨ kmpAt f 1 1 ≠ 1 then kmpStale i s else kmpChecked i f s := by
  unfold kmpReceive
  dsimp only
  rw [if_neg (by simp [hon, hto]), if_neg (by simp [honly])]

/-- A message of a known type, with the epoch of its slot, is acted on. -/
theorem kmpReceive_acts {only : Nat → Bool} {i : Nat} {f : List Byte} {s : State} (hon : (magAt s i).state ≠ .off)
    (hto : toEngine (macAt s (magAt s i).mac) f = true) (honly : only (kmpAt f 0 1) = true) (hether : be16 f 12 = 0x88B6)
    (htype : kmpAt f 0 1 ∈ kmpTypes) (hversion : kmpAt f 1 1 = 1)
    (hepoch : pastMount (magAt s i) = true → kmpAt f 0 1 = 1 ∨ kmpAt f 4 4 = (magAt s i).epoch) :
    kmpReceive only i f s = kmpAct i f s := by
  rw [kmpReceive_past hon hto honly, if_neg (by simp [hether, htype, hversion])]
  refine if_neg ?_
  rintro ⟨hpast, hhello, hother⟩
  exact (hepoch hpast).elim hhello hother

/-- What the step of such a message answers. -/
theorem message_next {only : Nat → Bool} {i ty : Nat} {f : List Byte} {s t : State} (hon : (magAt s i).state ≠ .off)
    (hto : toEngine (macAt s (magAt s i).mac) f = true) (hether : be16 f 12 = 0x88B6) (htype : kmpAt f 0 1 = ty)
    (hversion : kmpAt f 1 1 = 1) (hepoch : pastMount (magAt s i) = true → ty = 1 ∨ kmpAt f 4 4 = (magAt s i).epoch)
    (honly : only ty = true) (hknown : ty ∈ kmpTypes) (hact : kmpAct i f s = t) :
    actOutside (bathStep (kmpReceive only i f)) s = .next (hrstnAfter t) := by
  subst htype
  exact bathStep_next ((kmpReceive_acts hon hto honly hether hknown hversion hepoch).trans hact) (kmpReceive_kept _ _ _ _)

/-- A message with an epoch not in force is only counted (R401). -/
theorem kmpReceive_stale {only : Nat → Bool} {i : Nat} {f : List Byte} {s : State} (hpast : pastMount (magAt s i) = true)
    (hon : (magAt s i).state ≠ .off) (hto : toEngine (macAt s (magAt s i).mac) f = true) (honly : only (kmpAt f 0 1) = true)
    (hhello : kmpAt f 0 1 ≠ 1) (hepoch : kmpAt f 4 4 ≠ (magAt s i).epoch) : kmpReceive only i f s = kmpStale i s := by
  rw [kmpReceive_past hon hto honly]
  split
  · rfl
  · exact if_pos ⟨hpast, hhello, hepoch⟩

/-- A reply that a request awaits ends it. -/
theorem onReply_ends {i req : Nat} {fw : Bool} {f : List Byte} {k : State → State} {s : State} (hrun : firmwareRunning s = true)
    (hawaited : awaited s i req (kmpAt f 8 4) = true) : onReply i req fw f k s =
      k (modMag i (fun x => { x with reqs := x.reqs.filter (fun r => !(decide (r.type = req) && decide (r.seq = kmpAt f 8 4))) }) s) := by
  unfold onReply
  dsimp only
  rw [if_neg (by simp [hawaited]), if_neg (by simp [hrun])]

theorem rxHello_of_search {i : Nat} {f : List Byte} {s : State} (hsearch : (magAt s i).state = .search) (hrun : firmwareRunning s = true) :
    rxHello i f s = kmpRequest i 0x02 0 [] (modMag i (fun x => { x with
      state := .caps, helloEpoch := kmpAt f 24 4, serial := kmpAt f 16 8, src := some ((f.drop 6).take 6), noPartner := false,
      lastHello := runTime s }) s) := by
  unfold rxHello
  dsimp only
  rw [if_pos ⟨hsearch, hrun⟩]
  exact congrArg (kmpRequest i 0x02 0 []) (modMag_modMag_to rfl)

theorem rxCaps_of_caps {i : Nat} {f : List Byte} {s : State} (hcaps : (magAt s i).state = .caps) :
    rxCaps i f s = mountSlot i (modMag i (fun x => { x with
      maxWrite := kmpAt f 16 2, bufferPictures := kmpAt f 20 4, capacity := kmpAt f 24 8, free := kmpAt f 32 8 }) s) :=
  if_neg (not_not_intro hcaps)

/-! Commits (R412, R408). -/

theorem rxCommit_good {i : Nat} {f : List Byte} {k : Copy} {s : State} (hcopy : namedCopy s i f = some k) (hgood : kmpAt f 24 1 = 0) :
    rxCommit i f s = recEval k.channel (recRelease k.channel (modCopy i (fun k => absorb (k.ahead.length + 1)
      (if kmpAt f 20 4 < k.committed ∨ k.ahead.contains (kmpAt f 20 4) then k else { k with ahead := k.ahead ++ [kmpAt f 20 4] }))
      (modMag i (fun x => { x with ctr := { x.ctr with commit := (x.ctr.commit + 1) % 2 ^ 32 } }) (giveCredit i (kmpAt f 28 4) s)))) := by
  simp only [rxCommit, hcopy]
  exact if_pos hgood

theorem rxCommit_third {i : Nat} {f : List Byte} {k : Copy} {s : State} (hcopy : namedCopy s i f = some k) (hbad : kmpAt f 24 1 ≠ 0)
    (htwice : 2 ≤ k.bad.count (kmpAt f 20 4)) :
    rxCommit i f s = closeCopy i 4 0 (modCopy i (fun x => { x with bad := x.bad ++ [kmpAt f 20 4] }) (raiseMag i 7
      (modMag i (fun x => { x with ctr := { x.ctr with crcBad := (x.ctr.crcBad + 1) % 2 ^ 32 } }) (giveCredit i (kmpAt f 28 4) s)))) := by
  simp only [rxCommit, hcopy]
  rw [if_neg hbad, if_pos (by omega)]

/-! Resends (R419). -/

theorem rxResend_gone {i : Nat} {f : List Byte} {k : Copy} {s : State} (hcopy : namedCopy s i f = some k)
    (hgone : (recAt (raiseMag i 6 s) k.channel).backlog = []) : rxResend i f s = kmpStale i (raiseMag i 6 s) := by
  rw [recAt_raiseMag] at hgone
  simp only [rxResend, hcopy, hgone, List.find?_nil]

theorem rxResend_held {i : Nat} {f : List Byte} {k : Copy} {q : ClipPicture} {s : State} (hcopy : namedCopy s i f = some k)
    (hheld : (recAt s k.channel).backlog.find? (fun x => decide (x.idx = kmpAt f 20 4)) = some q)
    (hrecording : (recAt s k.channel).state = .recording) :
    rxResend i f s = resend i q ((List.range (min 4 (kmpAt f 24 1))).map (fun j => (kmpAt f (28 + 12 * j) 8, kmpAt f (36 + 12 * j) 4)))
      (raiseMag i 6 s) := by
  simp only [rxResend, hcopy, hheld]
  exact if_pos (by simp [streamsRun, hrecording])

/-! Notices (R401, R420). -/

theorem rxNotice_again {i : Nat} {f : List Byte} {s : State} (hagain : (magAt s i).noticeSeq = some (kmpAt f 8 4)) :
    rxNotice i f s = kmpSend i 0x31 0 (kmpAt f 8 4) 0 [] s := if_pos hagain

/-- A notice of kind 3 asks for nothing but its event. -/
theorem rxNotice_three {i : Nat} {f : List Byte} {s : State} (hnew : (magAt s i).noticeSeq ≠ some (kmpAt f 8 4)) (hkind : kmpAt f 16 1 = 3) :
    rxNotice i f s = raiseMag i 4 (modMag i (fun x => { x with noticeSeq := some (kmpAt f 8 4), notice := 3 })
      (kmpSend i 0x31 0 (kmpAt f 8 4) 0 [] s)) := by
  unfold rxNotice
  dsimp only
  rw [if_neg hnew, hkind]
  rfl

/-! Requests (R401, R402). -/

theorem kmpTimeout_eq {i : Nat} {r : KmpReq} {rest : List KmpReq} {s : State} (hreqs : (magAt s i).reqs = r :: rest)
    (hrun : firmwareRunning s = true) (hretried : ¬ (r.type = 0x12 ∧ r.flags = 1)) :
    kmpTimeout i s = if r.retries < 3 then
      kmpSend i r.type r.flags r.seq 0 r.body (modMag i (fun x => { x with
        reqs := { r with retries := r.retries + 1 } :: rest, ctr := { x.ctr with retry := (x.ctr.retry + 1) % 2 ^ 32 } }) s)
    else partnerLost i s := by
  simp only [kmpTimeout, hreqs]
  refine if_neg ?_
  rintro (⟨-, hrest⟩ | hclose)
  · simp [hrun] at hrest
  · exact hretried hclose

theorem closeCopy_of_none {i reason flags : Nat} {s : State} (hcopy : (magAt s i).copy = none) : closeCopy i reason flags s = s := by
  simp only [closeCopy, hcopy]

/-- A partner that is lost while it records nothing (R402). -/
theorem partnerLost_idle {i : Nat} {s : State} (hready : (magAt s i).state = .ready) (hcopy : (magAt s i).copy = none)
    (hhold0 : (recAt s 0).hold = none) (hhold1 : (recAt s 1).hold = none) (hnone : s.ctl.inflight = []) :
    partnerLost i s = raiseMag i 2 (modMag i (fun x => { x with
      state := .search, reqs := [], held := [], noPartner := false, lastHello := runTime s }) s) := by
  have hholds : partnerLost.endHoldOn i s = s := forUpTo_fixed fun c hc => by
    obtain rfl | rfl : c = 0 ∨ c = 1 := by omega
    · simp [hhold0]
    · simp [hhold1]
  simp only [partnerLost, hholds, hcopy]
  rw [if_neg (by simp [hready]), closeCopy_of_none (by rw [magAt_modMag_same]; exact hcopy)]
  exact if_neg (by simp [waits, raiseMag, modMag, hnone])

/-- Settles O49: each message by the case of its slot, once it has passed the checks, and each timeout by what waits. -/
theorem kmpEvents : Obligations.KmpEvents := by
  unfold Obligations.KmpEvents
  refine ⟨?hello, ?caps, ?stale, ?commit, ?bad, ?gone, ?held, ?notice, ?again, ?retry, ?givesUp, ?send, ?lost, ?alone, ?format⟩
  case hello =>
    rintro slot frame s ⟨hon, hto, hether, htype, hversion, hsearch, hrun⟩
    refine message_next hon hto hether htype hversion (fun _ => Or.inl rfl) rfl (by decide) ?_
    simp only [kmpAct, htype]
    exact rxHello_of_search hsearch hrun
  case caps =>
    rintro slot frame s ⟨hon, hto, hether, htype, hversion, hcaps, hrun, hawaited⟩
    refine message_next hon hto hether htype hversion (fun hpast => ?_) rfl (by decide) ?_
    · simp [pastMount, hcaps] at hpast
    simp only [kmpAct, htype]
    rw [onReply_ends hrun hawaited, rxCaps_of_caps (by rw [magAt_modMag_same]; exact hcaps)]
    exact congrArg (mountSlot slot) (modMag_modMag_to rfl)
  case stale =>
    rintro slot frame s ⟨hready, hto, -, hhello, hepoch⟩
    exact bathStep_next (kmpReceive_stale (by simp [pastMount, hready]) (by simp [hready]) hto rfl hhello hepoch) (kmpReceive_kept _ _ _ _)
  case commit =>
    rintro slot frame k s ⟨hon, hto, hether, htype, hversion, hepoch, hcopy, hgood⟩
    refine message_next hon hto hether htype hversion (fun hpast => Or.inr (hepoch hpast)) rfl (by decide) ?_
    simp only [kmpAct, htype]
    exact rxCommit_good hcopy hgood
  case bad =>
    rintro slot frame k s ⟨hon, hto, hether, htype, hversion, hepoch, hcopy, hbad, htwice⟩
    refine message_next hon hto hether htype hversion (fun hpast => Or.inr (hepoch hpast)) rfl (by decide) ?_
    simp only [kmpAct, htype]
    exact rxCommit_third hcopy hbad htwice
  case gone =>
    rintro slot frame k s ⟨hon, hto, hether, htype, hversion, hepoch, hcopy, hgone⟩
    refine message_next hon hto hether htype hversion (fun hpast => Or.inr (hepoch hpast)) rfl (by decide) ?_
    simp only [kmpAct, htype]
    exact rxResend_gone hcopy hgone
  case held =>
    rintro slot frame k q s ⟨hon, hto, hether, htype, hversion, hepoch, hcopy, hheld, hrecording⟩
    refine message_next hon hto hether htype hversion (fun hpast => Or.inr (hepoch hpast)) rfl (by decide) ?_
    simp only [kmpAct, htype]
    exact rxResend_held hcopy hheld hrecording
  case notice =>
    rintro slot frame s ⟨hon, hto, hether, htype, hversion, hepoch, hnew, hkind⟩
    refine message_next hon hto hether htype hversion (fun hpast => Or.inr (hepoch hpast)) rfl (by decide) ?_
    simp only [kmpAct, htype]
    exact rxNotice_three hnew hkind
  case again =>
    rintro slot frame s ⟨hon, hto, hether, htype, hversion, hepoch, hagain⟩
    refine message_next hon hto hether htype hversion (fun hpast => Or.inr (hepoch hpast)) rfl (by decide) ?_
    simp only [kmpAct, htype]
    exact rxNotice_again hagain
  case retry =>
    rintro slot r rest s ⟨hreqs, hrun, hretried, hfew⟩
    exact bathStep_next ((kmpTimeout_eq hreqs hrun hretried).trans (if_pos hfew)) (kmpTimeout_kept _ s)
  case givesUp =>
    rintro slot r rest s ⟨hreqs, hrun, hretried, hmany⟩
    exact bathStep_next ((kmpTimeout_eq hreqs hrun hretried).trans (if_neg (Nat.not_lt.2 hmany))) (kmpTimeout_kept _ s)
  case send =>
    rintro slot s ⟨hon, hup⟩
    exact actOutside_kept (if_neg (by simp [hon, hup])) (by simp)
  case lost =>
    rintro slot s ⟨hready, hcopy, hhold0, hhold1, hnone⟩
    exact bathStep_next (partnerLost_idle hready hcopy hhold0 hhold1 hnone) (partnerLost_kept _ s)
  case alone =>
    rintro slot s ⟨hsearch, halone⟩
    exact actOutside_kept (if_pos ⟨hsearch, by simp [halone]⟩) (by simp)
  case format =>
    rintro slot s ⟨hbusy, hmine⟩
    refine actOutside_of_kept (formatTimeout_kept _ s) ?_
    unfold formatTimeout
    dsimp only
    rw [if_pos hbusy]
    exact if_pos hmine

end Sys2Proof.Machine
end

section
/-! PROOFS. Events of the record channels (R412 to R425): the pictures of the streams, couplings and closes, the stop-bath sequence, and
the statement about them. -/
namespace Sys2Proof.Machine
open Sys2Proof

/-! What a read of a payload leaves alone. -/

@[simp] theorem readWanted_engines (want : Nat → Bool) (b tok : Nat) (s : State) : engines (readWanted want b tok s).2.2 = engines s := by
  simp only [readWanted]
  refine (forEach_leaves engines (fun _ t => holeRead_engines 0 b tok t) _ _).trans ?_
  refine foldl_keeps (fun (acc : Tab (List Byte) × Nat × State) => engines acc.2.2 = engines s) _ (fun acc n hacc => ?_) _ _ rfl
  simp [hacc]

theorem magAt_of_engines {s t : State} (h : engines t = engines s) (i : Nat) : magAt t i = magAt s i := by
  rw [magAt, (engines_eq_iff.1 h).2.1, magAt]

@[simp] theorem magAt_readPayload (b tok i : Nat) (s : State) : magAt (readPayload b tok s).2.2 i = magAt s i :=
  magAt_of_engines (readWanted_engines _ b tok s) i

/-! Kept. -/

@[simp] theorem lagCheck_kept (c : Nat) (s : State) : kept (lagCheck c s) = kept s := by simp [lagCheck]

@[simp] theorem readPayload_kept (b tok : Nat) (s : State) : kept (readPayload b tok s).2.2 = kept s := by simp [readPayload]

@[simp] theorem chargeRecord_kept (c kind : Nat) (p : ClipPicture) (s : State) : kept (chargeRecord c kind p s) = kept s := by
  simp [chargeRecord]

@[simp] theorem recFlags_kept (c : Nat) (p : ClipPicture) (poison : Nat) (s : State) : kept (recFlags c p poison s) = kept s := by
  simp [recFlags]

@[simp] theorem mainBegin_kept (c : Nat) (s : State) : kept (mainBegin c s) = kept s := by
  simp only [mainBegin]
  (repeat' split) <;> simp

@[simp] theorem ownBegin_kept (i : Nat) (s : State) : kept (ownBegin i s) = kept s := by
  simp only [ownBegin]
  (repeat' split) <;> simp

@[simp] theorem holdMaxExpiry_kept (c : Nat) (s : State) : kept (holdMaxExpiry c s) = kept s := by
  simp only [holdMaxExpiry]
  (repeat' split) <;> simp

@[simp] theorem copyCloseStop_kept (i : Nat) (s : State) : kept (copyCloseStop i s) = kept s := by
  simp only [copyCloseStop]
  (repeat' split) <;> simp

@[simp] theorem spanContinue_kept (c : Nat) (s : State) : kept (spanContinue c s) = kept s := by
  simp only [spanContinue]
  (repeat' split) <;> simp

@[simp] theorem bathEnter_kept (c : Nat) (s : State) : kept (bathEnter c s) = kept s := by simp [bathEnter]

@[simp] theorem bathTrigger_kept (s : State) : kept (bathTrigger s) = kept s := by simp [bathTrigger]

@[simp] theorem bathRecordDeadline_kept (s : State) : kept (bathRecordDeadline s) = kept s := by simp [bathRecordDeadline]

@[simp] theorem bathCommitDeadline_kept (s : State) : kept (bathCommitDeadline s) = kept s := by simp [bathCommitDeadline]

@[simp] theorem bathAckDeadline_kept (s : State) : kept (bathAckDeadline s) = kept s := by simp [bathAckDeadline]

/-! The streams (R412, R417). -/

/-- The main stream with a picture to send goes on to the magazines that are coupled. -/
theorem mainBegin_eq {c : Nat} {p : ClipPicture} {s : State} (hruns : (recAt s c).state = .recording ∨ (recAt s c).state = .draining)
    (hcoupled : (coupled s c).isEmpty = false)
    (hnext : (recAt s c).backlog.find? (fun p => decide (p.idx = (recAt s c).main)) = some p) :
    mainBegin c s = if (coupled s c).any (fun i => slotBlocks s i (recAt s c).main) then recEval c s else
      recEval c (lagCheck c (recFlags c p (readPayload p.buf (agentToken s clsRecord c) (endHold c s)).2.1
        (modRec c (fun x => { x with
          main := p.idx + 1, mainFrame := (bufAt s p.buf).frame, ctr := { x.ctr with pictures := (x.ctr.pictures + 1) % 2 ^ 32 } })
        (forEach (coupled s c) (fun i => modCopy i (fun k => { k with
          sending := some p.idx, next := p.idx + 1,
          record := some {
            pic := p, pay := sentPayload s c p (readPayload p.buf (agentToken s clsRecord c) (endHold c s)).1,
            poison := (readPayload p.buf (agentToken s clsRecord c) (endHold c s)).2.1 } }))
          (readPayload p.buf (agentToken s clsRecord c) (endHold c s)).2.2)))) := by
  simp only [mainBegin]
  rw [if_neg (by rcases hruns with h | h <;> simp [h, hcoupled]), hnext]

/-- A copy's stream with a picture to send goes on to its magazine. -/
theorem ownBegin_eq {i : Nat} {k : Copy} {p : ClipPicture} {s : State} (hcopy : (magAt s i).copy = some k)
    (hown : (decoupled s k.channel).contains i = true) (hfree : slotBlocks s i k.next = false)
    (hruns : (recAt s k.channel).state = .recording ∨ (recAt s k.channel).state = .draining)
    (hnext : (recAt s k.channel).backlog.find? (fun p => decide (p.idx = k.next)) = some p) :
    ownBegin i s = ownFeed i (recFlags k.channel p (readPayload p.buf (agentToken s clsRecord k.channel) s).2.1
      (countReread k.channel (readPayload p.buf (agentToken s clsRecord k.channel) s).1.length (modCopy i (fun x => { x with
        sending := some p.idx, next := p.idx + 1,
        record := some {
          pic := p, pay := sentPayload s k.channel p (readPayload p.buf (agentToken s clsRecord k.channel) s).1,
          poison := (readPayload p.buf (agentToken s clsRecord k.channel) s).2.1 } })
        (readPayload p.buf (agentToken s clsRecord k.channel) s).2.2))) := by
  have hat : copyAt s i = k := by rw [copyAt, hcopy, Option.getD_some]
  simp only [ownBegin, hat]
  rw [if_neg (by rcases hruns with h | h <;> simp [h, List.contains_iff_mem.1 hown, hcopy, hfree]), hnext]

theorem modCopy_congr {i : Nat} {k : Copy} {f g : Copy → Copy} {s : State} (hcopy : (magAt s i).copy = some k) (h : f k = g k) :
    modCopy i f s = modCopy i g s := by
  have hslot : tabGet s.mag.slots i = magAt s i := rfl
  simp only [modCopy, modMag, tabMod, hslot, hcopy, Option.map_some, h]

/-! The stop-bath sequence (R423, R425). -/

theorem forEach_fixed {α : Type} {f : α → State → State} {l : List α} {s : State} (h : ∀ a ∈ l, f a s = s) : forEach l f s = s := by
  induction l with
  | nil => rfl
  | cons a l ih => exact (congrArg (forEach l f) (h a (by simp))).trans (ih fun b hb => h b (by simp [hb]))

theorem bathRecordDeadline_due {s : State} (hbath : s.mag.bath.state = 1) (hopen : s.mag.bath.closingSent = false) :
    bathRecordDeadline s = forEach (bathSlots s) (fun i s =>
      if (copyAt s i).sending.isSome then
        modBath (fun b => { b with abandoned := Nat.lor b.abandoned (2 ^ i) }) (modCopy i (fun k => { k with sending := none, record := none })
          (modMac (magAt s i).mac (fun m => { m with tx.waiting := m.tx.waiting.filter (fun f => decide (f.queue ≠ 0)) }) s))
      else s) s := if_neg (by simp [hbath, hopen])

/-- Settles O50: the streams, couplings, closes and the stop-bath sequence, each by the branch its hypotheses name. -/
theorem recordEvents : Obligations.RecordEvents := by
  unfold Obligations.RecordEvents
  refine ⟨?main, ?waits, ?own, ?hold, ?recouples, ?closes, ?spans, ?trigger, ?quiet, ?abandons, ?commit, ?ack⟩
  case main =>
    rintro chan p s ⟨hruns, hcoupled, hnext, hfree⟩
    refine actOutside_of_kept (mainBegin_kept _ s) ((mainBegin_eq hruns hcoupled hnext).trans (if_neg ?_))
    simpa using hfree
  case waits =>
    rintro chan p s ⟨hruns, hnext, hblocked⟩
    have hcoupled : (coupled s chan).isEmpty = false := by
      refine Bool.eq_false_iff.2 fun h => ?_
      rw [List.isEmpty_iff.1 h] at hblocked
      cases hblocked
    exact actOutside_of_kept (mainBegin_kept _ s) ((mainBegin_eq hruns hcoupled hnext).trans (if_pos hblocked))
  case own =>
    rintro slot k p s ⟨hcopy, hown, hfree, hruns, hnext⟩
    refine actOutside_of_kept (ownBegin_kept _ s) ((ownBegin_eq hcopy hown hfree hruns hnext).trans ?_)
    exact congrArg (fun t => ownFeed slot (recFlags k.channel p _ (countReread k.channel _ t)))
      (modCopy_congr (by rw [magAt_readPayload]; exact hcopy) rfl)
  case hold =>
    rintro chan i t s ⟨hhold, hcoupled⟩
    refine actOutside_kept ?_ (decouple_kept _ _ s)
    simp only [holdMaxExpiry, hhold]
    exact if_pos hcoupled
  case recouples =>
    rintro slot k s ⟨hcopy, hown, hidle, hnext, hcoupled⟩
    refine actOutside_kept ?_ (by simp)
    simp [recouple, copyAt, hcopy, List.contains_iff_mem.1 hown, hidle, hnext, hcoupled]
  case closes =>
    rintro slot k s ⟨hcopy, hopened, hclosing, hdraining, hended, hcancelled, hall⟩
    refine bathStep_next ?_ (copyCloseStop_kept _ s)
    simp only [copyCloseStop, hcopy]
    exact if_pos ⟨hopened, by simp [hclosing], hdraining, hended, by simp [hcancelled], hall⟩
  case spans =>
    rintro chan clip p i s ⟨hdue, hrun, hclosed, hready⟩
    refine actOutside_kept ?_ (by simp)
    simp only [spanContinue, hdue]
    rw [if_neg (by simp [hrun, Option.isNone_iff_eq_none.1 hclosed]), if_pos hready]
  case trigger =>
    rintro s ⟨hlow, hdue, hbath⟩
    exact bathStep_next (if_pos ⟨by simp [hlow], hdue, hbath⟩) (bathTrigger_kept s)
  case quiet =>
    rintro s ⟨hbath, hopen, hquiet⟩
    refine bathStep_next ((bathRecordDeadline_due hbath hopen).trans ?_) (bathRecordDeadline_kept s)
    exact forEach_fixed fun i hi => if_neg (by simp [hquiet i hi])
  case abandons =>
    rintro i s ⟨hbath, hopen, hslots, hsending⟩
    refine bathStep_next ((bathRecordDeadline_due hbath hopen).trans ?_) (bathRecordDeadline_kept s)
    rw [hslots]
    exact if_pos hsending
  case commit =>
    rintro s ⟨hbath, hopen, hleft⟩
    refine bathStep_next ?_ (bathCommitDeadline_kept s)
    simp only [bathCommitDeadline]
    rw [if_neg (by simp [hbath, hopen]), if_neg (by simp [hleft])]
  case ack =>
    rintro s ⟨hbath, hclosing, hslots⟩
    refine bathStep_next ?_ (bathAckDeadline_kept s)
    simp only [bathAckDeadline, hslots]
    exact if_neg (by simp [hbath, hclosing])

end Sys2Proof.Machine
end
